-- ==== Sys2Proof/Word.lean ====
section
/-!
DEFINITION. The words of the block: 8-bit bytes and 32-bit register words (00_scope R6, R7).
-/

namespace Sys2Proof

/-- One byte of a message, a frame or a wire layout. -/
abbrev Byte := BitVec 8

/-- One register word: 32 bits, accessed whole and aligned (00_scope R7). -/
abbrev Word := BitVec 32

end Sys2Proof
end

