-- ==== Sys2Proof/Machine/Maps.lean ====
section
/-!
DEFINITION. Maps as plain data: lists of key and value pairs with strictly rising keys and no entry
equal to what an unlisted key reads as. Equal maps are equal lists.
-/

namespace Sys2Proof.Machine

/-- A map from natural-number keys, listed in strictly rising key order. -/
abbrev KMap (α : Type) := List (Nat × α)

/-- The entry at a key, where one is listed. -/
def kfind {α : Type} : KMap α → Nat → Option α
  | [], _ => none
  | (k, v) :: m, key => if key = k then some v else kfind m key

/-- The value at a key; an unlisted key reads as `d`. -/
def kget {α : Type} (d : α) (m : KMap α) (key : Nat) : α := (kfind m key).getD d

/-- The map without a key. -/
def kdel {α : Type} (m : KMap α) (key : Nat) : KMap α := m.filter (fun e => e.1 != key)

/-- The map with a value listed at a key, in key order. -/
def kins {α : Type} : KMap α → Nat → α → KMap α
  | [], key, x => [(key, x)]
  | (k, v) :: m, key, x =>
    if key = k then (k, x) :: m
    else if key < k then (key, x) :: (k, v) :: m
    else (k, v) :: kins m key x

/-- The map with `x` at a key: writing what an unlisted key reads as removes the entry, so the form
stays canonical. -/
def kset {α : Type} [DecidableEq α] (d : α) (m : KMap α) (key : Nat) (x : α) : KMap α :=
  if x = d then kdel m key else kins m key x

/-- The map with the value at a key changed by `f`. -/
def kmod {α : Type} [DecidableEq α] (d : α) (m : KMap α) (key : Nat) (f : α → α) : KMap α :=
  kset d m key (f (kget d m key))

/-- Every listed value changed by `f`; what becomes the unlisted value goes. -/
def kmap {α : Type} [DecidableEq α] (d : α) (f : Nat → α → α) (m : KMap α) : KMap α :=
  (m.map (fun e => (e.1, f e.1 e.2))).filter (fun e => decide (e.2 ≠ d))

/-- Every listed key lies above `lo`, and the keys rise strictly. -/
def krising {α : Type} : Option Nat → KMap α → Bool
  | _, [] => true
  | none, (k, _) :: m => krising (some k) m
  | some lo, (k, _) :: m => decide (lo < k) && krising (some k) m

/-- The canonical form: keys strictly rising, no entry equal to the unlisted value. -/
def kwf {α : Type} [DecidableEq α] (d : α) (m : KMap α) : Bool :=
  krising none m && m.all (fun e => decide (e.2 ≠ d))

/-- The keys of the entries that satisfy `p`, rising. -/
def kkeys {α : Type} (p : Nat → α → Bool) (m : KMap α) : List Nat :=
  (m.filter (fun e => p e.1 e.2)).map (fun e => e.1)

/-- How many entries satisfy `p`. -/
def kcount {α : Type} (p : Nat → α → Bool) (m : KMap α) : Nat :=
  (m.filter (fun e => p e.1 e.2)).length

end Sys2Proof.Machine
end

