-- ==== Sys2Proof/Syntax/Gmp.lean ====
section
/-!
DEFINITION. The operands that carry Gyeranov Management Protocol messages: the header of 17_host R433
and the bodies of the journalled types of 17_host R437, field by field, reserved fields included.
-/

namespace Sys2Proof

/-- The header of a GMP message as received on a session (17_host R433). -/
structure GmpHdr where
  /-- The session, 0 to 3, whose DTLS record carries the message, and the host port it came in on. -/
  sess : Nat
  port : Nat
  version : Nat
  reqId : Nat
  /-- Bytes of the DTLS record, and the LEN field. -/
  recLen : Nat
  len : Nat
  deriving DecidableEq, Repr

/-- A waypoint: signed site-frame millimetres (05_track R128). -/
structure Waypoint where
  x : Int
  y : Int
  deriving DecidableEq, Repr

/-- A track request body (05_track R128); its NWP is the number of waypoints. -/
structure TrackBody where
  machine : Nat
  zero : Nat
  start : Nat
  slideMax : Nat
  dwell : Nat
  vmax : Nat
  amax : Nat
  jmax : Nat
  wps : List Waypoint
  deriving DecidableEq, Repr

/-- A cancel body (05_track R144). -/
structure CancelBody where
  resId : Nat
  fromSlot : Nat
  zero : Nat
  deriving DecidableEq, Repr

/-- A zone record (06_zones R170). -/
structure ZoneRec where
  op : Nat
  len : Nat
  index : Nat
  pfx : Nat
  action : Nat
  zero0 : Nat
  mask : Nat
  cap : Nat
  zero1 : Nat
  deriving DecidableEq, Repr

/-- A task body (06_zones R172). -/
structure TaskBody where
  prio : Nat
  slideMax : Nat
  capMask : Nat
  deadline : Nat
  dwell : Nat
  zero : Nat
  vmax : Nat
  amax : Nat
  jmax : Nat
  wps : List Waypoint
  deriving DecidableEq, Repr

/-- A connector body (06_zones R182). -/
structure ConnBody where
  ref : Nat
  machine : Nat
  zero0 : Nat
  zero1 : Nat
  wps : List Waypoint
  deriving DecidableEq, Repr

/-- An IPv6 rule record (13_tables R364); the prefix is one 128-bit number in network order. -/
structure RuleRec where
  op : Nat
  len : Nat
  index : Nat
  pfx : Nat
  action : Nat
  ports : Nat
  zero : Nat
  deriving DecidableEq, Repr

/-- A key blob (15_keys R394). `kwpOk` is the verdict of the AES-KWP unwrap under the blob's KEK, and
`sameKey` says that the unwrapped key equals the resident key of its KEY_ID (R403). -/
structure Blob where
  magic : Nat
  version : Nat
  typ : Nat
  keyId : Nat
  parent : Nat
  parentGen : Nat
  gen : Nat
  masters : Nat
  usage : Nat
  lcMask : Nat
  world : Nat
  flags : Nat
  zero0 : Nat
  keyLen : Nat
  wrapLen : Nat
  zero1 : Nat
  wrapped : List Nat
  crc : Nat
  kwpOk : Bool
  sameKey : Bool
  deriving DecidableEq, Repr

/-- A root message body (15_keys R391). `kwpOk` is the verdict of the unwrap under K_PROV. -/
structure RootBody where
  root : Nat
  zero : Nat
  wrapped : List Nat
  kwpOk : Bool
  deriving DecidableEq, Repr

/-- The body of a journalled GMP message (17_host R437, the types whose Entry is GMP_REQ). -/
inductive GmpBody where
  | write (ws : List (Nat × Word))
  | writeSeq (addr : Nat) (ws : List Word)
  | commit
  | safe (w : Word)
  | track (b : TrackBody)
  | cancel (b : CancelBody)
  | zone (rs : List ZoneRec)
  | task (b : TaskBody)
  | withdraw (ref : Nat)
  | connector (b : ConnBody)
  | rule (rs : List RuleRec)
  | keyPut (b : Blob)
  | keyInvalidate (keyId zero : Nat)
  | root (b : RootBody)
  deriving DecidableEq, Repr

end Sys2Proof
end

