-- ==== Sys2Proof/Machine/Parts/Scr.lean ====
section
/-!
DEFINITION. The part of State for the Screed (05_track_reservation) with zones and task allotment
(06_zones_and_allotment).
-/

namespace Sys2Proof.Machine

open Sys2Proof

/-- One entry of the reservation table (05_track R147): OWNER is the machine's short address less 1. -/
structure ScrEnt where
  cx : Nat
  cy : Nat
  slotLo : Nat
  owner : Nat
  didx : Nat
  deriving DecidableEq, Repr

/-- A reservation descriptor (05_track R142); PENDING ones stand in the queue of inserts. -/
structure Desc where
  live : Bool
  seq : Nat
  /-- Position of the insert. -/
  sf : Nat
  jseq : Nat
  first : Nat
  last : Nat
  cut : Nat
  dwell : Nat
  vmax : Nat
  amax : Nat
  jmax : Nat
  wps : List Waypoint
  deriving DecidableEq, Repr

/-- A FREE descriptor that was never taken. -/
def Desc.zero : Desc := ⟨false, 0, 0, 0, 0, 0, 0, 0, 0, 0, 0, []⟩

/-- A zone (06_zones R161, R165). -/
structure Zone where
  len : Nat
  pfx : Nat
  action : Nat
  mask : Nat
  cap : Nat
  deriving DecidableEq, Repr

/-- What a conformance check reads at its position: the table by bucket × 8 + way (R147), the descriptors
by machine × 8 + index less 8 (R142), and the zones in force by index. -/
structure ScrCov where
  table : KMap ScrEnt
  descs : KMap Desc
  zones : KMap Zone
  deriving DecidableEq, Repr

/-- Nothing reserved and no zone. -/
def ScrCov.zero : ScrCov := ⟨[], [], []⟩

/-- The geometry of a class (05_track R123 to R127, R134, R153, R157), in millimetres and superframes. -/
structure Geom where
  cell : Nat
  h : Nat
  front : Nat
  back : Nat
  halfW : Nat
  m : Nat
  lag : Nat
  slotLen : Nat
  horizon : Nat
  cx0 : Int
  cy0 : Int
  cls : Nat
  confD : Nat
  warnR : Nat
  deriving DecidableEq, Repr

/-- The result of a track request (05_track R130). -/
structure TrackRes where
  status : Nat
  kind : Nat
  resId : Nat
  start : Nat
  slide : Nat
  entries : Nat
  last : Nat
  cSlot : Nat
  cCx : Nat
  cCy : Nat
  cOwner : Nat
  cRef : Nat
  deriving DecidableEq, Repr

/-- A task notice (06_zones R183). -/
structure TaskNotice where
  ref : Nat
  event : Nat
  status : Nat
  machine : Nat
  resId : Nat
  sf : Nat
  deriving DecidableEq, Repr

/-- An insert whose result is decided and not yet retired (05_track R137): the request it answers, its
machine and descriptor, its position, and the station time of its entry. -/
structure PendIns where
  ident : Nat
  reqId : Nat
  machine : Nat
  res : TrackRes
  reloc : Nat
  /-- The notice of a connector that got its task (06_zones R182). -/
  task : Option TaskNotice
  sf : Nat
  jseq : Nat
  arrival : Nat
  deriving DecidableEq, Repr

/-- The state of a task (06_zones R174); freed tasks are not listed. -/
inductive TaskSt where
  | waiting
  | flagged
  | assigned
  deriving DecidableEq, Repr

/-- A task (06_zones R172 to R174). -/
structure Task where
  st : TaskSt
  seq : Nat
  body : TaskBody
  machine : Nat
  resId : Nat
  deriving DecidableEq, Repr

/-- An award whose insert is decided and not yet retired (06_zones R180), with its notice and moves. -/
structure Award where
  res : TrackRes
  machine : Nat
  reloc : Nat
  notice : TaskNotice
  deriving DecidableEq, Repr

/-- The report of a round (06_zones R183). -/
structure RoundRep where
  sf : Nat
  steps : Nat
  bidders : Nat
  tasks : Nat
  awards : Nat
  flagged : Nat
  expired : Nat
  trunc : Bool
  deriving DecidableEq, Repr

/-- What is sent once the awards of a round have retired: the notices of its flagged tasks, and the report
where the round had a bidder and a task. -/
structure RoundEnd where
  notices : List TaskNotice
  rep : RoundRep
  report : Bool
  deriving DecidableEq, Repr

/-- The Screed. -/
structure ScrS where
  cov : ScrCov
  staged : KMap Zone
  /-- Zones of the primer image (18_boot R459). -/
  primZones : KMap Zone
  /-- SF of the mark at which slots were last advanced and a round was last considered. -/
  slotSf : Nat
  roundSf : Nat
  inserts : List PendIns
  /-- The governing zone of each machine's previous checked record, index + 1; unlisted is none (R168). -/
  lastZone : KMap Nat
  tasks : KMap Task
  /-- SEQ of a task index (R173). -/
  taskSeq : KMap Nat
  awards : List Award
  ending : Option RoundEnd
  lastRound : RoundRep
  zoneStatus : Nat
  zonePresent : Bool
  /-- What SCR_SLOT_HI returns (R158). -/
  latHi : Nat
  deriving DecidableEq, Repr

end Sys2Proof.Machine
end

