-- ==== Sys2Proof/Syntax/Gnss.lean ====
section
/-!
DEFINITION. The operands that carry GNSS content: RTCM 3 messages with their decoded content
(03_fix_inputs R65 to R83). A message carries the verdict of its CRC-24Q.
-/

namespace Sys2Proof

/-- The constellations, in the order of 03_fix_inputs R80. -/
inductive Gnss where
  | gps
  | gal
  | bds
  | glo
  deriving DecidableEq, Repr

/-- One observation of a signal in an MSM message (03_fix_inputs R68, R70). -/
structure SigObs where
  /-- The RINEX observation code: the band digit, then 1 for C, 2 X, 3 L, 4 S, 5 Q, 6 I, 7 B, 8 P, 9 D. -/
  band : Nat
  attr : Nat
  /-- Carrier-to-noise density, dB-Hz. -/
  cn0 : Nat
  /-- Half-cycle ambiguity indicator. -/
  half : Bool
  /-- The phase, or the pseudorange, holds its RTCM invalid value. -/
  phaseBad : Bool
  rangeBad : Bool
  /-- Lock-time indicator. -/
  lock : Nat
  deriving DecidableEq, Repr

/-- One satellite of an MSM message. -/
structure SatObs where
  sys : Gnss
  num : Nat
  /-- GLONASS frequency channel plus 7 from the extended information of an MSM7 message. -/
  chan : Option Nat
  sigs : List SigObs
  deriving DecidableEq, Repr

/-- One ephemeris set (03_fix_inputs R67, R81). -/
structure EphSet where
  sys : Gnss
  num : Nat
  /-- Galileo I/NAV (1046) rather than F/NAV (1045). -/
  inav : Bool
  /-- SV health, SHS, SatH1, or Bn with the health flag; usable when 0. -/
  health : Nat
  /-- Galileo DVS for the signals used; usable when 0. -/
  dvs : Nat
  /-- URA index, SISA index or URAI. -/
  acc : Nat
  /-- IODE and IODC of a 1019 set. -/
  iode : Nat
  iodc : Nat
  /-- GLONASS frequency channel. -/
  chan : Int
  /-- The 10-bit week of a 1019 set. -/
  week : Nat
  /-- Reference time as the GPS millisecond of the epoch it names. -/
  toeMs : Nat
  /-- All orbit and clock fields as one number. -/
  orbit : Nat
  deriving DecidableEq, Repr

/-- The decoded content of an RTCM 3 message (03_fix_inputs R67). -/
inductive RtcmBody where
  /-- 1005 or 1006: station ID, ECEF position in 0.1 mm, antenna height. -/
  | arp (sid : Nat) (x y z : Int) (height : Nat)
  /-- MSM4 or MSM7: station ID, the epoch-time field in milliseconds (for GLONASS the time of day) with
  the GLONASS day of week, the multiple-message bit, and the satellites. -/
  | msm (sys : Gnss) (msm7 : Bool) (sid tow dow : Nat) (multi : Bool) (sats : List SatObs)
  /-- 1019, 1020, 1042, 1045 or 1046. `near` says whether its position lies within 50 m of that of the
  accepted set at the new set's reference time (R82), a number of the orbit model. -/
  | eph (e : EphSet) (near : Bool)
  /-- A type outside the table. -/
  | other (typ : Nat)
  deriving DecidableEq, Repr

/-- One RTCM 3 frame as received. -/
structure RtcmMsg where
  body : RtcmBody
  /-- The 10-bit length field and the bytes of the whole frame. -/
  len : Nat
  crcOk : Bool
  deriving DecidableEq, Repr

/-- A position, a velocity and the standard deviations of 04_fix R109, in micrometres and micrometres per
second, as the filter computes them. -/
structure FixSol where
  x : Int
  y : Int
  z : Int
  vx : Int
  vy : Int
  vz : Int
  sigH : Nat
  sigV : Nat
  deriving DecidableEq, Repr

/-- The outcome of one integer search (04_fix R103): the two norms and the nodes visited. -/
structure Search where
  best : Nat
  second : Nat
  nodes : Nat
  deriving DecidableEq, Repr

/-- The numbers a Fix job computes in its arithmetic (04_fix R91 to R106), which the spec bounds and does
not give bit for bit. Every decision on them is the model's. Satellite keys are those of `satKey`,
observation keys those of `obsKey`, ambiguity keys those of `ambKey`; residuals and innovations are
normalised and in thousandths. -/
structure FixNums where
  /-- Elevation of each satellite in thousandths of a degree (03_fix_inputs R80). -/
  elev : List (Nat × Int)
  /-- The single-point solution and its normalised residuals (R98). -/
  sp : FixSol
  spRes : List Nat
  /-- Innovations (R99), and post-fit residuals of each pass (R100). -/
  prefit : List (Nat × Nat)
  postfit : List (List (Nat × Nat))
  /-- Float variance of each ambiguity (R104). -/
  ambVar : List (Nat × Nat)
  /-- The searches in the order tried (R103, R104). -/
  searches : List Search
  /-- Validation residuals of the set that passed, and of the held set (R105, R106). -/
  passRes : List Nat
  heldRes : List Nat
  /-- The float solution, and those with the passed and with the held integers. -/
  float : FixSol
  fixed : FixSol
  heldSol : FixSol
  /-- Ambiguity keys of the fixed and of the float link ambiguities (R113). -/
  linkFix : List Nat
  linkFloat : List Nat
  deriving DecidableEq, Repr

end Sys2Proof
end

