-- ==== Sys2Proof/Machine/Parts/Fix.lean ====
section
/-!
DEFINITION. The part of State for the fix service (03_fix_inputs, 04_fix_solution). GPS times are
milliseconds since the GPS epoch.
-/

namespace Sys2Proof.Machine

open Sys2Proof

/-- The state of a reference receiver (03_fix_inputs R74). -/
inductive RefState where
  | absent
  | candidate
  | usable
  | lost
  | refused
  deriving DecidableEq, Repr

/-- One reference epoch (03_fix_inputs R72). -/
structure RefEpoch where
  t : Nat
  sats : List SatObs
  msgs : List RtcmMsg
  /-- Position of the completing entry. -/
  sf : Nat
  seq : Nat
  deriving DecidableEq, Repr

/-- One reference receiver (03_fix_inputs R72 to R75). -/
structure RefRx where
  st : RefState
  sid : Nat
  qual : Nat
  /-- SF of the entry that bound the station ID. -/
  boundSf : Nat
  /-- Complete epochs, newest first, at most four. -/
  epochs : List RefEpoch
  prog : Option RefEpoch
  /-- Newest accepted 1005 or 1006. -/
  arp : Option RtcmMsg
  /-- SF of the newest accepted RTCM message. -/
  lastSf : Nat
  deriving DecidableEq, Repr

/-- A receiver after reset. -/
def RefRx.zero : RefRx := ⟨.absent, 0, 0, 0, [], none, none, 0⟩

/-- The ephemerides of one satellite (03_fix_inputs R81, R82): accepted, newest first, and pending with
its source (0, 1, or 2 for the host source). -/
structure EphSlot where
  sets : List EphSet
  pend : Option (EphSet × Nat)
  deriving DecidableEq, Repr

/-- No set. -/
def EphSlot.none : EphSlot := ⟨[], .none⟩

/-- An observation of a slot after screening (03_fix_inputs R70). -/
structure SlotObs where
  /-- Frequency slot F1, F2 or F3 as 0, 1 or 2. -/
  slot : Nat
  phase : Bool
  range : Bool
  slip : Bool
  lock : Nat
  deriving DecidableEq, Repr

/-- A satellite of a reduced epoch (03_fix_inputs R80). -/
structure RedSat where
  key : Nat
  obs : List SlotObs
  deriving DecidableEq, Repr

/-- An ambiguity state of a rover filter (04_fix R90, R92). -/
structure Amb where
  slot : Nat
  sat : Nat
  /-- Unslipped consecutive accepted epochs (R102). -/
  lock : Nat
  /-- In the held set (R106). -/
  held : Bool
  deriving DecidableEq, Repr

/-- The pivot of a constellation and slot (04_fix R93). -/
structure Pivot where
  sys : Nat
  slot : Nat
  sat : Nat
  deriving DecidableEq, Repr

/-- A fix record (04_fix R117), field by field; the CRC is computed. -/
structure FixRec where
  source : Nat
  qual : Nat
  flags : Nat
  epoch : Nat
  refId : Nat
  x : Int
  y : Int
  z : Int
  vx : Int
  vy : Int
  vz : Int
  hpl : Nat
  vpl : Nat
  sigH : Nat
  ratio : Nat
  nsat : Nat
  nfix : Nat
  age : Nat
  hold : Nat
  epochSeq : Nat
  deriving DecidableEq, Repr

/-- A fix record with the position of its RADIO_RX entry and its job status. -/
structure RecAt where
  fix : FixRec
  sf : Nat
  seq : Nat
  status : Nat
  deriving DecidableEq, Repr

/-- Life cycle of a rover slot (04_fix R115). -/
inductive RoverLc where
  | empty
  | init
  | run
  deriving DecidableEq, Repr

/-- One rover. -/
structure Rover where
  lc : RoverLc
  /-- GPS time of the last accepted epoch, for R79 and for the time update of R95. -/
  lastT : Option Nat
  fails : Nat
  qual : Nat
  hold : Nat
  ambs : List Amb
  pivots : List Pivot
  /-- Satellites that hold an ionospheric state (R90, R92). -/
  iono : List Nat
  /-- The satellites of the last accepted epoch, whose lock indicators the next is compared with (R70). -/
  prevObs : List SatObs
  /-- Its newest records, newest first, at most four. -/
  recs : List RecAt
  epochSeq : Nat
  lastRef : Option Nat
  nstate : Nat
  deriving DecidableEq, Repr

/-- A released slot. -/
def Rover.zero : Rover := ⟨.empty, none, 0, 0, 0, [], [], [], [], [], 0, none, 0⟩

/-- The newest record of a rover. -/
def Rover.newest (r : Rover) : Option FixRec := r.recs.head?.map (fun x => x.fix)

/-- A Fix job: an accepted epoch with what it reads at its entry's position (R46, 04_fix R97). -/
structure FixJob where
  rover : Nat
  t : Nat
  sf : Nat
  seq : Nat
  arrival : Nat
  /-- The epoch after steps 1 to 3 of 03_fix_inputs R80. -/
  sats : List RedSat
  /-- The reference epoch, reduced in the same way: receiver, station ID, GPS time and satellites. -/
  ref : Option (Nat × Nat × Nat × List RedSat)
  /-- FIX_SOL_MODE, _TEST0, _TEST1, _TEST2, FIX_PL_CFG0, _CFG1, FIX_OBS_CFG, and the gate profile words. -/
  cfg : List Nat
  gateA : Nat
  gateB : Nat
  /-- GPS milliseconds since the rover's accepted epoch before it (R95). -/
  dt : Option Nat
  /-- What the conformance check of its record reads (05_track R152): the covered state and the geometry. -/
  scr : ScrCov
  geom : Geom
  /-- Voided by a STATE_LOSS entry with ABORT (04_fix R116). -/
  void : Bool
  deriving DecidableEq, Repr

/-- A fix record that waits for its conformance check (05_track R152 to R155): its position, and what the
check reads there. -/
structure ConfJob where
  record : FixRec
  sf : Nat
  seq : Nat
  scr : ScrCov
  geom : Geom
  deriving DecidableEq, Repr

/-- A message that waits for CORR slots (03_fix_inputs R86): its place in the stream, EPOCH_ID, its index and
the number of messages of its epoch (10_radio_frames R286), and whether it is an MSM message of the epoch. -/
structure CorrMsg where
  id : Nat
  epochId : Nat
  idx : Nat
  n : Nat
  inEpoch : Bool
  msg : RtcmMsg
  deriving DecidableEq, Repr

/-- The relay of corrections (03_fix_inputs R86, R87). -/
structure CorrS where
  /-- Complete epochs of the primary since CORR_EN was set or the primary changed. -/
  count : Nat
  on : Bool
  /-- Messages not yet placed on air by every port, oldest first; the next place; relayed epochs so far. -/
  queue : List CorrMsg
  nextId : Nat
  epochs : Nat
  /-- SF of the last station message, and a change of primary that still needs one. -/
  staSf : Nat
  needSta : Bool
  deriving DecidableEq, Repr

/-- What a receiver has shown for time acquisition before the journal begins (18_boot R467). -/
structure Acq where
  /-- Its newest station message passed 03_fix_inputs R73. -/
  arpOk : Bool
  /-- Time-of-week of the epoch in progress, and operating time of the newest complete epoch. -/
  prog : Option Nat
  epochAt : Option Nat
  /-- The 10-bit week of its newest accepted 1019 set. -/
  week : Option Nat
  deriving DecidableEq, Repr

/-- Nothing received. -/
def Acq.zero : Acq := ⟨false, none, none, none⟩

/-- The fix service. -/
structure FixS where
  acq : List Acq
  rx0 : RefRx
  rx1 : RefRx
  primary : Option Nat
  swReq : Bool
  /-- The preferred receiver returned to USABLE while the other was primary (R75). -/
  revertDue : Bool
  eph : KMap EphSlot
  rover : KMap Rover
  jobs : List FixJob
  confs : List ConfJob
  /-- Ambiguity keys of the fixed and the float link ambiguities (R113). -/
  linkFix : List Nat
  linkFloat : List Nat
  corr : CorrS
  /-- FIX_SOL_LAT: sum and number of arrival-to-record times over the last second, and its start. -/
  latSum : Nat
  latN : Nat
  latMean : Nat
  latSec : Nat
  deriving DecidableEq, Repr

end Sys2Proof.Machine
end

