-- ==== Sys2Proof/Syntax/Frame.lean ====
section
/-!
DEFINITION. The operands that carry radio frames (10_radio_frames R268 to R290): the header in clear,
the body as decrypted, and the verdict of AES-128-CCM over the frame.
-/

namespace Sys2Proof

/-- The header of a frame (10_radio_frames R268). -/
structure FrameHdr where
  /-- FCTL bits 3:0, 4, 6:5 and 7. -/
  typ : Nat
  ackReq : Bool
  fctlZero : Nat
  version : Nat
  seq : Nat
  dst : Nat
  src : Nat
  sf : Nat
  /-- SLOT bits 5:0 and 7:6. -/
  slot : Nat
  port : Nat
  key : Nat
  deriving DecidableEq, Repr

/-- The ACK field (10_radio_frames R276). -/
structure AckField where
  seq : Nat
  map : Nat
  deriving DecidableEq, Repr

/-- A JOIN_REQ body (10_radio_frames R289). -/
structure JoinBody where
  eui : Nat
  nonce : Nat
  flags : Nat
  wakeReq : Nat
  clkPpm : Nat
  zero : Nat
  deriving DecidableEq, Repr

/-- An UP body (10_radio_frames R287); OBS_LEN is the bytes of its RTCM frames. -/
structure UpBody where
  ack : AckField
  status : Nat
  stopMark : Nat
  /-- DIGEST_TAG as one number, first byte most significant. -/
  tag : Nat
  obsLen : Nat
  obs : List RtcmMsg
  deriving DecidableEq, Repr

/-- A PEND body (10_radio_frames R288). -/
structure PendBody where
  event : Nat
  batt : Nat
  press : Nat
  deriving DecidableEq, Repr

/-- The decrypted body of a received frame. -/
inductive RadioBody where
  | up (b : UpBody)
  | ack (a : AckField)
  | joinReq (b : JoinBody)
  | leave (reason : Nat)
  | pend (b : PendBody)
  deriving DecidableEq, Repr

end Sys2Proof
end

