-- ==== Sys2Proof/Machine/Parts/Memb.lean ====
section
/-!
DEFINITION. The part of State for membership (10_radio_frames): short addresses, windows, and the items
that wait for the air.
-/

namespace Sys2Proof.Machine

open Sys2Proof

/-- The state of a short address (10_radio_frames R292). -/
inductive AddrState where
  | free
  | assoc
  | held
  deriving DecidableEq, Repr

/-- An item that is carried until it is acknowledged (10_radio_frames R284, R285). `key` is its place in
the order of R283 and `seqs` the SEQ of each frame that carried it. -/
structure AckItem where
  typ : Nat
  key : Nat
  body : List Nat
  sends : Nat
  seqs : List Nat
  deriving DecidableEq, Repr

/-- The newest command values of a machine (08_control_loops R237): a field without a value is sent as
0x8000. `speedEnd` and `curvEnd` say that the value is the last one of a loop that has ceased. -/
structure CmdItem where
  due : Bool
  epoch : Nat
  flags : Nat
  speed : Option Nat
  curv : Option Nat
  speedEnd : Bool
  curvEnd : Bool
  deriving DecidableEq, Repr

/-- No command. -/
def CmdItem.zero : CmdItem := ⟨false, 0, 0, none, none, false, false⟩

/-- The pending frame of a node (10_radio_frames R283), with the station time since which it is queued, and
the station time since which an acknowledgement is owed (R278). -/
structure Items where
  cmd : CmdItem
  fix : Option (List Nat)
  warns : List (List Nat)
  acks : List AckItem
  queued : Option Nat
  owed : Option Nat
  deriving DecidableEq, Repr

/-- Nothing waits. -/
def Items.zero : Items := ⟨CmdItem.zero, none, [], [], none, none⟩

/-- One short address. -/
structure Node where
  st : AddrState
  home : Nat
  eui : Nat
  sleepy : Bool
  relayCap : Bool
  period : Nat
  phase : Nat
  wslot : Nat
  clkPpm : Nat
  txSeq : Nat
  /-- The duplicate window of R277; nothing accepted since association where `rxAny` is false. -/
  rxAny : Bool
  rxLast : Nat
  rxMap : Nat
  /-- SF of the newest accepted frame, and of the entry that began the hold. -/
  lastSf : Nat
  heldSf : Nat
  /-- Header SF of the newest accepted frame or of the wake counted last as missed, and the consecutive misses
  (R297). -/
  frameSf : Nat
  wakeMiss : Nat
  /-- NONCE_M and NONCE_D of the last join with OK (R290, R291), and the key that authenticated it. -/
  nonceM : Nat
  nonceD : Nat
  joinKey : Nat
  items : Items
  deriving DecidableEq, Repr

/-- A free address. -/
def Node.zero : Node :=
  ⟨.free, 0, 0, false, false, 0, 0, 0xFF, 0, 0, false, 0, 0, 0, 0, 0, 0, 0, 0, 0, Items.zero⟩

/-- A JOIN_ACC that waits (10_radio_frames R290): the superframe after which it is abandoned. -/
structure JoinAcc where
  port : Nat
  key : Nat
  eui : Nat
  status : Nat
  addr : Nat
  nonceD : Nat
  period : Nat
  wslot : Nat
  phase : Nat
  guard : Nat
  until_ : Nat
  queued : Nat
  deriving DecidableEq, Repr

/-- Membership. -/
structure MembS where
  nodes : KMap Node
  joins : List JoinAcc
  /-- NONCE_M and the JOIN_ACC of the last OK of an EUI (R291). -/
  lastJoin : KMap (Nat × JoinAcc)
  /-- The EUI that the primer image binds to an address. -/
  binds : KMap Nat
  deriving DecidableEq, Repr

end Sys2Proof.Machine
end

