-- ==== Sys2Proof/Machine/Parts/Mac.lean ====
section
/-!
DEFINITION. The part of State for the radio ports (09_radio_ports): port states, plans, stamps, the frames
sent and received. The head's responses and the received frames are operands of commands.
-/

namespace Sys2Proof.Machine

open Sys2Proof

/-- The state of a port (R265). -/
inductive PortSt where
  | off
  | discover
  | up
  | down
  deriving DecidableEq, Repr

/-- A plan (R257, R260): CYCLE code, rates, and the slot words. -/
structure SlotPlan where
  cycle : Nat
  brate : Nat
  crate : Nat
  slots : List Word
  deriving DecidableEq, Repr

/-- A frame to a node under its link key, TYPE 4 or 5 (10_radio_frames R276, R282): items as TYPE and body. -/
structure DevFrame where
  typ : Nat
  ackReq : Bool
  seq : Nat
  dst : Nat
  ack : AckField
  items : List (Nat × List Nat)
  deriving DecidableEq, Repr

/-- What a frame of the device holds (10_radio_frames R279 to R300). -/
inductive TxFrame where
  /-- PERMIT as a map, CAUSE and GLOBAL_STOP, LEASE, STOP_EPOCH, TIME in nanoseconds, GPS_UTC, DIGEST,
  TABLE_GEN, NEXT_GEN, SW and CYCLE. -/
  | beacon (permit cause : Nat) (stop : Bool) (lease epoch ns gpsUtc : Nat) (digest : List Nat)
      (gen next sw cycle : Nat)
  | stop (permit cause : Nat) (stop : Bool) (epoch : Nat)
  | node (f : DevFrame)
  | joinAcc (j : JoinAcc) (groupKey : Bool)
  /-- EPOCH_ID, MSG and FRAG bytes, and the message whose bytes they are. -/
  | corr (epochId msg frag : Nat) (m : RtcmMsg)
  | relay (relay seq : Nat) (inner : List DevFrame)
  deriving DecidableEq, Repr

/-- A stamp of RXSTAMP (R249, R255): its count, the station time of the edge, and whether a frame claimed it. -/
structure Stamp where
  seq : Nat
  ns : Nat
  claimed : Bool
  deriving DecidableEq, Repr

/-- The frame chosen for a slot (R259), with its rate, the time of the stop request it answers, and whether
its TX_LOAD completed with OK (R254). -/
structure TxSlot where
  sf : Nat
  slot : Nat
  rate : Nat
  frame : TxFrame
  stopAt : Option Nat
  loaded : Bool
  deriving DecidableEq, Repr

/-- What one frame of a received PSDU says (10_radio_frames R268), with LEN and the verdict of CCM. -/
structure RxMsg where
  len : Nat
  hdr : FrameHdr
  body : Option RadioBody
  micOk : Bool
  deriving DecidableEq, Repr

/-- A received PSDU: too short for a header and a MIC, a frame, or a RELAY frame with its inner frames. -/
inductive RxPsdu where
  | short
  | frame (m : RxMsg)
  | relay (m : RxMsg) (inner : List RxMsg)
  deriving DecidableEq, Repr

/-- What an RX_READ returns (R247): the rate code, or 3 for any other rate, LENGTH, STAMP_SEQ and the PSDU. -/
structure RxRead where
  rate : Nat
  len : Nat
  stampSeq : Nat
  psdu : RxPsdu
  deriving DecidableEq, Repr

/-- An accepted frame at the intake (R255): its port, its slot and the station time of arrival (R252). -/
structure Intake where
  port : Nat
  sf : Nat
  slot : Nat
  arrival : Nat
  psdu : RxPsdu
  deriving DecidableEq, Repr

/-- One radio port. -/
structure Port where
  st : PortSt
  reason : Nat
  faultCode : Nat
  /-- Operating time of entry to the state. -/
  since : Nat
  /-- The identity covers the plan: UP from this superframe on. -/
  upFrom : Option Nat
  gen : Nat
  air : SlotPlan
  sw : Option Nat
  latSw : Nat
  /-- The identity last read, 32 bytes, and RATE_CAP, D_TX and D_RX of it. -/
  ident : List Nat
  /-- CMD of the transaction whose first attempt failed (R246). -/
  failed : Option Nat
  irq : Bool
  stampSeq : Nat
  stamps : List Stamp
  /-- STAMP_SEQ of the frame taken last (R246). -/
  lastTaken : Option Nat
  tx : Option TxSlot
  /-- The latest slot in which it has sent (10_radio_frames R272). -/
  sent : Option (Nat × Nat)
  /-- The correction message and fragment that come next (R259, 03_fix_inputs R86). -/
  corrId : Nat
  corrFrag : Nat
  deriving DecidableEq, Repr

/-- A plan of no entries. -/
def SlotPlan.none : SlotPlan := ⟨0, 0, 0, []⟩

/-- A port after reset. -/
def Port.zero : Port :=
  ⟨.off, 0, 0, 0, none, 0, SlotPlan.none, none, 0, [], none, false, 0, [], none, none, none, 0, 0⟩

/-- The radio ports. -/
structure MacS where
  ports : List Port
  intake : List Intake
  /-- SF of the first superframe of the unit's journal (R266). -/
  first : Option Nat
  deriving DecidableEq, Repr

end Sys2Proof.Machine
end

