-- ==== Sys2Proof/Syntax/Entry.lean ====
section
/-!
DEFINITION. Journal entries (02_journal R41, R42): the payload of each type with its fields, and the
entry with its position. The pair link carries them (16_pair R418), so they are operands too.
-/

namespace Sys2Proof

/-- The payload of a journal entry (02_journal R41). Times are nanoseconds of station time. -/
inductive Payload where
  | sfMark
  | commit (status gen : Nat) (digest : List Nat)
  | radioRx (port : Nat) (hdr : FrameHdr) (body : RadioBody)
  | refRtcm (idx : Nat) (msg : RtcmMsg)
  | timeEvent (code source before after : Nat)
  | gmpReq (sess ident reqId : Nat) (body : GmpBody)
  | estop (state : Nat)
  | fault (unit code phase : Nat)
  | stateLoss (kind flags index : Nat)
  | role (newRole : Nat)
  deriving DecidableEq, Repr

/-- One journal entry (02_journal R42). -/
structure JEntry where
  sf : Nat
  seq : Nat
  source : Nat
  arrival : Nat
  gen : Nat
  payload : Payload
  deriving DecidableEq, Repr

end Sys2Proof
end

