-- ==== Sys2Proof/Syntax/Eth.lean ====
section
/-!
DEFINITION. The operands that carry Ethernet frames (13_tables R363, 17_host R427, R428).
-/

namespace Sys2Proof

/-- A fragment of a UDP datagram for the LOCAL endpoint (17_host R428): the datagram it belongs to, its size as
far as it is known, and whether the datagram is whole with it. -/
structure FragIn where
  id : Nat
  bytes : Nat
  whole : Bool
  deriving DecidableEq, Repr

/-- An Ethernet frame received on ETH0 or ETH1. MAC addresses have the first byte on the wire most significant. -/
structure EthFrame where
  port : Nat
  dst : Nat
  src : Nat
  /-- Bytes of the frame, and its EtherType after any tag. -/
  len : Nat
  etype : Nat
  /-- The VID of its IEEE 802.1Q tag, 0 for a priority tag. -/
  tag : Option Nat
  /-- The destination address of an IPv6 datagram. -/
  ip6 : Option Nat
  /-- An ARP request, a neighbour solicitation or an echo request for an address of the endpoint. -/
  ask : Bool
  frag : Option FragIn
  /-- The lookups that meet an entry failing its check (13_tables R350): of the source in LKP0 and in LKP1, of the
  destination, of the rule. -/
  badSrc0 : Bool
  badSrc1 : Bool
  badDst : Bool
  badRule : Bool
  deriving DecidableEq, Repr

end Sys2Proof
end

