-- ==== Sys2Proof/Syntax/Flash.lean ====
section
/-!
DEFINITION. The contents of the non-volatile memory (18_boot R450 to R463, 15_keys R397, 19_firmware R471,
R478): boot header copies, firmware slots, primer image, settings slots and key-blob slots; and what
BOOT is given from outside. The log region is the recorder's own part of State.
-/

namespace Sys2Proof

open Sys2Proof.Machine (KMap)

/-- One entry of the region table (R450, R451). -/
structure Region where
  id : Nat
  offset : Nat
  size : Nat
  deriving DecidableEq, Repr

/-- The fields of a boot header copy (R450) and of its FW_SEL (19_firmware R478). -/
structure HdrCopy where
  magic : Nat
  version : Nat
  mirror : Nat
  gen : Nat
  nregion : Nat
  confirmed : Nat
  trial : Nat
  trialState : Nat
  regions : List Region
  crcOk : Bool
  deriving DecidableEq, Repr

/-- A boot header copy as it stands in memory. -/
inductive HdrSlot where
  | blank
  | torn
  | copy (h : HdrCopy)
  deriving DecidableEq, Repr

/-- A firmware slot: the bytes programmed, by block of 2,048 bytes, and whether its contents are known to be
no image (19_firmware R474, R477). -/
structure FwSlot where
  blocks : KMap (List Nat)
  bad : Bool
  deriving DecidableEq, Repr

/-- A keyring (15_keys R397): generation, blobs in the order of KEY_ID, floors by KEY_ID. -/
structure KRing where
  gen : Nat
  blobs : KMap Blob
  floors : KMap Nat
  deriving DecidableEq, Repr

/-- A key-blob slot (15_keys R398). -/
inductive RingSlot where
  | blank
  | torn
  | valid (r : KRing)
  deriving DecidableEq, Repr

/-- A static BRIDGE entry (18_boot R458). -/
structure StaticEnt where
  vid : Nat
  mac : Nat
  port : Nat
  deriving DecidableEq, Repr

/-- A settings slot's contents (18_boot R462): a table record stands only where the table differs from the
primer image. -/
structure Settings where
  format : Nat
  wcount : Nat
  hash : List Nat
  regs : List (Nat × Nat)
  zones : Option (List ZoneRec)
  rules : Option (List RuleRec)
  statics : Option (List StaticEnt)
  deriving DecidableEq, Repr

/-- A settings slot (18_boot R463). -/
inductive SetSlot where
  | blank
  | torn
  | valid (s : Settings)
  deriving DecidableEq, Repr

/-- The contents of the memory, copies 0 and 1 and slots A and B in this order; the primer image by block of 2,048
bytes. -/
structure Flash where
  hdr : List HdrSlot
  fw : List FwSlot
  primer : KMap (List Nat)
  sets : List SetSlot
  keys : List RingSlot
  deriving DecidableEq, Repr

/-- What an xSPI channel's device answers at reset (18_boot R449): none where it does not answer. -/
structure ChanIn where
  /-- Size in MiB, 64 KiB erase offered, octal DDR described. -/
  size : Nat
  erase64 : Bool
  octal : Bool
  deriving DecidableEq, Repr

/-- A hod that firmware assigns at boot (12_memory R340): index, producer, consumer, capacity. -/
structure HodAsg where
  hod : Nat
  prod : Nat
  cons : Nat
  cap : Nat
  deriving DecidableEq, Repr

/-- What BOOT is given: the devices that answer, the memory's contents where they were written from outside
since the last boot, the verdicts of the ECDSA checks on the two firmware slots and the primer image, the
known-answer self-tests on each slot's components, and the hods assigned. -/
structure BootIn where
  ch0 : Option ChanIn
  ch1 : Option ChanIn
  fitted : Option Flash
  sigA : Bool
  sigB : Bool
  katA : Bool
  katB : Bool
  primerSig : Bool
  hods : List HodAsg
  deriving DecidableEq, Repr

end Sys2Proof
end

