-- ==== Sys2Proof/Syntax/Head.lean ====
section
/-!
DEFINITION. The operands that carry what a radio head answers (09_radio_ports R244 to R248).
-/

namespace Sys2Proof

/-- The end of one attempt at a transaction (R245, R246): no start nibble in time, a failed response CRC, or a
response with its STATUS. -/
inductive HeadResp where
  | missing
  | badCrc
  | status (st : Nat)
  deriving DecidableEq, Repr

/-- The identity record (R248); powers in units of 0.5 dBm. -/
structure HeadId where
  format : Nat
  maker : Nat
  model : Nat
  hwRev : Nat
  fwVer : Nat
  fMin : Nat
  fMax : Nat
  bwCap : Nat
  rateCap : Nat
  pMin : Int
  pMax : Int
  dTx : Nat
  dRx : Nat
  rxBuf : Nat
  serial : Nat
  deriving DecidableEq, Repr

end Sys2Proof
end

