-- ==== Sys2Proof/Machine/Parts/Out.lean ====
section
/-!
DEFINITION. The items of a notification (17_host R443).
-/

namespace Sys2Proof.Machine

open Sys2Proof

/-- An item of a NOTIFY (17_host R443): a kind with its body, or a journal entry (kind 8) with its size. -/
inductive NItem where
  | bytes (kind : Nat) (body : List Nat)
  | entry (e : JEntry) (size : Nat)
  deriving DecidableEq, Repr

end Sys2Proof.Machine
end

