-- ==== Sys2Proof/Syntax/Ptp.lean ====
section
/-!
DEFINITION. The operands of the PTP commands (14_station_time R380): what a message says, and the port
state that the state decision of IEEE 1588-2019 recommends on it.
-/

namespace Sys2Proof

/-- What a master announces. -/
structure PtpMaster where
  ptpScale : Bool
  clockClass : Nat
  accuracy : Nat
  prio1 : Nat
  prio2 : Nat
  utcOffset : Nat
  ident : Nat
  steps : Nat
  deriving DecidableEq, Repr

/-- A PTP message other than Sync. -/
inductive PtpMsg where
  /-- Announce, with the state that the best master clock algorithm gives the port. -/
  | announce (m : PtpMaster) (state : Nat)
  | delayReq (ident seq : Nat)
  /-- Sent to 01-80-C2-00-00-0E. -/
  | peerDelay
  /-- Any other message of the profile. -/
  | other
  deriving DecidableEq, Repr

end Sys2Proof
end

