-- ==== Sys2Proof/Machine/Parts/Base.lean ====
section
/-!
DEFINITION. The parts of State for station time (14_station_time), the journal and generations
(02_journal), the registers (00_scope), GMP sessions (17_host) and the event recorder
(20_event_recorder). Times: `ns` values are nanoseconds of station time, `op` values nanoseconds of the
monotonic operating time.
-/

namespace Sys2Proof.Machine

open Sys2Proof

/-- The state of a time source (14_station_time R370). -/
inductive SrcState where
  | absent
  | candidate
  | qualified
  | disagree
  deriving DecidableEq, Repr

/-- The state of station time (14_station_time R373). -/
inductive TimeState where
  | acquire
  | locked
  | hold
  | free
  deriving DecidableEq, Repr

/-- One time source (14_station_time R369, R370). -/
structure TimeSrc where
  st : SrcState
  count : Nat
  /-- Consecutive agreeing measurements while DISAGREE. -/
  agree : Nat
  /-- Last e in nanoseconds, and the one before it. -/
  e : Int
  prevE : Option Int
  /-- Operating time since which the source is no longer a candidate. -/
  lostAt : Option Nat
  /-- Operating time of the newest measurement or pulse. -/
  lastAt : Option Nat
  /-- A pulse was 1 s ± 1 ms after the one before it. -/
  spaced : Bool
  /-- The instant of the newest pulse, station time less PPS_DELAY, until its label arrives. -/
  pulse : Option Int
  deriving DecidableEq, Repr

/-- One trigger output (14_station_time R382). -/
structure Trig where
  armed : Bool
  fired : Nat
  /-- The next edge, nanoseconds of station time. -/
  next : Nat
  deriving DecidableEq, Repr

/-- A forced set accepted and not yet applied (14_station_time R374). -/
structure ForcedSet where
  value : Nat
  told : Nat
  deriving DecidableEq, Repr

/-- One PTP port and its master (14_station_time R380). -/
structure PtpPort where
  /-- portState of IEEE 1588-2019. -/
  state : Nat
  /-- sequenceId of the next message of each kind sent: Sync, Announce, Delay_Req. -/
  seqs : List Nat
  deriving DecidableEq, Repr

/-- Station time and triggers. -/
structure TimeS where
  /-- Nanoseconds since the PTP epoch, and the fraction in units of 2^-32 ns (R367, R368). -/
  ns : Nat
  frac : Nat
  /-- Operating nanoseconds (20_event_recorder R484), monotonic; held in AON. -/
  op : Nat
  /-- F_SERVO and F_SLEW in units of 10^-12. -/
  servo : Int
  slew : Int
  srcs : List TimeSrc
  sel : Option Nat
  st : TimeState
  valid : Bool
  holdSince : Nat
  set : Option ForcedSet
  setStatus : Nat
  /-- The hold of R377: the SF of the TIME_EVENT entry. -/
  hold : Option Nat
  /-- Station time has been set forward since the newest SF_MARK (R376). -/
  jump : Bool
  utcPtp : Nat
  ptp : List PtpPort
  master : Option PtpMaster
  trigs : List Trig
  /-- What TIME_NOW_S_HI, _NS and _FRAC return (R385). -/
  latHi : Nat
  latNs : Nat
  latFrac : Nat
  deriving DecidableEq, Repr

/-- A GMP request that waits for its response: identity and REQ_ID. -/
structure Waiter where
  ident : Nat
  reqId : Nat
  deriving DecidableEq, Repr

/-- A commit requested and not yet entered (02_journal R54). -/
structure CommitReq where
  due : Nat
  waiters : List Waiter
  deriving DecidableEq, Repr

/-- The journal, the generation and the digest. -/
structure JrnlS where
  started : Bool
  /-- SF of the newest SF_MARK, and the position of the last entry. -/
  sf : Nat
  lastSf : Nat
  lastSeq : Nat
  nextSeq : Nat
  /-- The ring, oldest first (R51). -/
  ring : List JEntry
  /-- Position of the last entry that has left the ring. -/
  gone : Nat × Nat
  /-- The last position the partner has taken, where it reads. -/
  partner : Option (Nat × Nat)
  latHi : Nat
  latSeq : Nat
  gen : Nat
  digest : List Nat
  /-- The commit under way, and the status of the last COMMIT entry. -/
  commit : Option CommitReq
  lastStatus : Nat
  /-- The tag in force before the last COMMIT entry with OK, and the last SF at which it is accepted (R60). -/
  prevTag : Option (Nat × Nat)
  /-- Machines whose last echo mismatches, bit i for address 0x0001 + i. -/
  mismatch : Nat
  /-- Entries held back under 14_station_time R377, oldest first. -/
  held : List Payload
  /-- SF of the newest GMP_REQ entry, or of the first SF_MARK; and HOSTLESS (18_boot R468). -/
  lastReq : Nat
  hostless : Bool
  deriving DecidableEq, Repr

/-- The register store (00_scope R9, R13 to R15). A key is that of `regKey`. -/
structure RegS where
  /-- Words in force that differ from their defaults. -/
  force : KMap Word
  /-- Staged copies that differ from the words in force. -/
  staged : KMap Word
  /-- Words written to Superframe registers: due superframe, key and word, oldest first (R14). -/
  sfq : List (Nat × Nat × Word)
  /-- Words the primer image gives, where they differ from the defaults (18_boot R459). -/
  prim : KMap Word
  deriving DecidableEq, Repr

/-- One subscription (17_host R442, R443). -/
structure Sub where
  mask : Nat
  nseq : Nat
  /-- The items of the NOTIFY being packed. -/
  pack : List NItem
  /-- For JOURNAL: the last position sent and the last position acknowledged. -/
  sent : Nat × Nat
  acked : Nat × Nat
  deriving DecidableEq, Repr

/-- One NOTIFY message in a session's queue. -/
structure NotifyMsg where
  topic : Nat
  nseq : Nat
  items : List NItem
  bytes : Nat
  deriving DecidableEq, Repr

/-- One GMP session (17_host R431). -/
structure Session where
  ident : Nat
  suite : Nat
  /-- The host port of its latest received datagram, and the peer's IPv6 address where it has one (13_tables R364). -/
  port : Nat
  peer : Option Nat
  lastAt : Nat
  outstanding : Nat
  subs : KMap Sub
  queue : List NotifyMsg
  deriving DecidableEq, Repr

/-- A response as cached (17_host R440): TYPE, status and body. -/
structure Resp where
  typ : Nat
  status : Nat
  body : List Nat
  deriving DecidableEq, Repr

/-- One entry of the replay cache (17_host R440). -/
structure CacheEnt where
  reqId : Nat
  hash : Nat
  typ : Nat
  /-- The session that is answered when the request completes. -/
  sess : Nat
  resp : Option Resp
  deriving DecidableEq, Repr

/-- The host ports and GMP (17_host). -/
structure GmpS where
  sess : KMap Session
  /-- Session numbers whose STATE shows a handshake. -/
  handshake : List Nat
  cache : KMap (List CacheEnt)
  /-- Fragmented datagrams being reassembled: identifier and operating time of the first fragment. -/
  frags : List (Nat × Nat)
  /-- ETH0 and ETH1: link up and SPEED. -/
  link : List Bool
  speed : List Nat
  deriving DecidableEq, Repr

/-- One record of the recorder (20_event_recorder R483). -/
structure EvrRec where
  trig : Nat
  opSec : Nat
  opUs : Nat
  pcycle : Nat
  seq : Nat
  lost : Nat
  flags : Nat
  stS : Nat
  stNs : Nat
  jsf : Nat
  jseq : Nat
  detail : List Nat
  snap : List Word
  deriving DecidableEq, Repr

/-- A log slot that is not blank (20_event_recorder R489). -/
inductive LogSlot where
  | valid (r : EvrRec)
  | torn
  deriving DecidableEq, Repr

/-- A LOG_ERASE under way: who asked, and the count before it. -/
structure EraseJob where
  sess : Nat
  reqId : Nat
  ident : Nat
  before : Nat
  deriving DecidableEq, Repr

/-- The event recorder. -/
structure EvrS where
  queue : List EvrRec
  writing : Option EvrRec
  /-- The record being written is the second attempt (R489). -/
  again : Bool
  erasing : Option EraseJob
  /-- An erase that waits for the write in progress (R493 step 1), with the TOTAL it names. -/
  eraseWait : Option (EraseJob × Nat)
  total : Nat
  cap : Nat
  full : Bool
  logOk : Bool
  pcycle : Nat
  seq : Nat
  lost : Nat
  /-- Records lost before the region was known (R490). -/
  early : Nat
  prevSt : Option Nat
  setSince : Bool
  log : KMap LogSlot
  latHi : Nat
  latPc : Nat
  latSeq : Nat
  deriving DecidableEq, Repr

end Sys2Proof.Machine
end

