-- ==== Sys2Proof/Machine/Parts/Key.lean ====
section
/-!
DEFINITION. The part of State for keys and the life cycle (15_keys_and_lifecycle).
-/

namespace Sys2Proof.Machine

open Sys2Proof

/-- A root in its fuses (R390). -/
inductive RootSt where
  | blank
  | valid
  | faulty
  deriving DecidableEq, Repr

/-- An armed life-cycle change (R388, R392): an advance to a target, or the revocation of customer-A. -/
structure LcArm where
  token : Nat
  revoke : Bool
  target : Nat
  sf : Nat
  deriving DecidableEq, Repr

/-- The state of a key slot that is not EMPTY (R400). -/
inductive KSlotSt where
  | ready
  | stale
  deriving DecidableEq, Repr

/-- A key slot that is not EMPTY (R400, R401): the attributes of its blob and the operations running. -/
structure KSlot where
  st : KSlotSt
  blob : Blob
  running : Nat
  /-- The store's clock at its last use. -/
  used : Nat
  deriving DecidableEq, Repr

/-- A keyring change accepted and not yet written (R398, R399): the ring to write, and the request or the
KEY_CMD that waits for the MARK. -/
structure RingWrite where
  ring : KRing
  waiter : Option Waiter
  isPut : Bool
  deriving DecidableEq, Repr

/-- Keys and life cycle. -/
structure KeyS where
  /-- Fuses blown, 0 to 2, of the pairs PROVISIONED, FIELD, RETURN and SCRAPPED, and of REVOKE_A. -/
  fuses : List Nat
  revoke : Nat
  /-- Roots: vendor, customer-A, customer-B, return. -/
  roots : List RootSt
  uid : Nat
  /-- The confirmed change whose fuses are being blown (R389). -/
  blow : Option LcArm
  arm : Option LcArm
  lastToken : Nat
  lcStatus : Nat
  /-- The slot in force (R398), the keyring in force, and the one the accepted changes lead to. -/
  active : Nat
  ring : KRing
  next : KRing
  writes : List RingWrite
  cmdStatus : Nat
  slots : KMap KSlot
  clock : Nat
  /-- Debug access (R405 to R407). -/
  dbgOpen : Bool
  chal : List Word
  chalFresh : Bool
  resp : List Word
  fails : Nat
  dbgStatus : Nat
  deriving DecidableEq, Repr

/-- The empty keyring. -/
def KRing.empty : KRing := ⟨0, [], []⟩

end Sys2Proof.Machine
end

