-- ==== Sys2Proof/Machine/Parts/Lkp.lean ====
section
/-!
DEFINITION. The part of State for the lookup tables and the bridge (13_tables). A bank is a map from bucket × 4 +
way; the two pipelines hold the same rule and zone banks, so these stand once.
-/

namespace Sys2Proof.Machine

open Sys2Proof

/-- An exact-match entry that is not empty (R351): a BRIDGE entry where `node` is false. `addr` is the MAC
address, first byte on the wire most significant, or the short address. -/
structure EmEnt where
  node : Bool
  static : Bool
  hit : Bool
  aged : Bool
  vid : Nat
  addr : Nat
  port : Nat
  via : Nat
  deriving DecidableEq, Repr

/-- A stored prefix of a longest-prefix table (R358): the table, 0 zone and 1 IPv6, its length and its bits. -/
structure LpmKey where
  table : Nat
  len : Nat
  pfx : Nat
  deriving DecidableEq, Repr

/-- What one pipeline holds of the exact-match table (R348, R360): its banks, the one physically LIVE, and the
moves since the last NEXT at cursor 0 (R362). -/
structure Pipe where
  live : KMap EmEnt
  shadow : KMap EmEnt
  bank : Nat
  walkReloc : Nat
  deriving DecidableEq, Repr

/-- The lookup tables. -/
structure LkpS where
  pipes : List Pipe
  /-- Static entries by VID × 2^48 + MAC, with their port: in force and staged. -/
  statics : KMap Nat
  stagedStatics : KMap Nat
  /-- IPv6 rules by index: in force and staged. -/
  rules : KMap RuleRec
  stagedRules : KMap RuleRec
  /-- LIVE and SHADOW banks of the rule table and of the zone table. -/
  ruleLive : KMap LpmKey
  ruleShadow : KMap LpmKey
  zoneLive : KMap LpmKey
  zoneShadow : KMap LpmKey
  /-- The catch-up runs (R360), and a swap waits for its end. -/
  catchup : Bool
  swapDue : Bool
  cmdStatus : Nat
  /-- The pipeline of the last NEXT; the walk has returned the last way (R362). -/
  lastPipe : Nat
  walkEnd : Bool
  res : List Word
  ruleStatus : Nat
  rulePresent : Bool
  deriving DecidableEq, Repr

end Sys2Proof.Machine
end

