-- ==== Sys2Proof/Machine/Parts/Loop.lean ====
section
/-!
DEFINITION. The part of State for the loop engine (08_control_loops). Loop quantities are binary32 patterns
(R218).
-/

namespace Sys2Proof.Machine

/-- The state of a loop that is not OFF (08_control_loops R234); a loop that is OFF is not listed. -/
inductive LoopSt where
  | ready
  | run
  | hold
  deriving DecidableEq, Repr

/-- A prediction base (R220): position in 0.1 mm, velocity in mm/s, EPOCH. -/
structure PredBase where
  x : Int
  y : Int
  vx : Int
  vy : Int
  epoch : Nat
  deriving DecidableEq, Repr

/-- The state of a stage (R229), with the EPOCH of its last evaluation in RUN. -/
structure Stage where
  i : Nat
  dy : Nat
  yPrev : Nat
  last : Option Nat
  deriving DecidableEq, Repr

/-- A stage that has not run. -/
def Stage.zero : Stage := ⟨0, 0, 0, none⟩

/-- One loop. -/
structure Loop where
  st : LoopSt
  kind : Nat
  ref : Nat
  machine : Nat
  leader : Nat
  bad : Nat
  base : Option PredBase
  /-- The next sample, and the next leader sample, is never implausible (R220, R228). -/
  fresh : Bool
  lfresh : Bool
  /-- A usable sample has been journalled since the newest SF_MARK (R221). -/
  seen : Bool
  inner : Stage
  outer : Stage
  /-- Region, inner evaluations since entry to RUN, and the latest outer output (R230, R231). -/
  region : Nat
  n : Nat
  o : Nat
  /-- Segment index (R223), reference track: RES_ID and FIRST_SLOT (R222), its descriptor and AMAX. -/
  jc : Nat
  track : Option (Nat × Nat)
  desc : Nat
  amax : Option Nat
  /-- u_L, the leader sample used last with its velocity along u_L, and the leader prediction base (R228). -/
  uL : Option (Nat × Nat)
  lead : Option FixRec
  vRef : Nat
  lbase : Option PredBase
  /-- EPOCH of the leader sample found implausible last. -/
  lrej : Option Nat
  out : Nat
  outSat : Bool
  iSat : Bool
  capActive : Bool
  lastEpoch : Nat
  /-- HOLD (R234 to R236): where it began, v0, DEC, whether commands have ceased and a withdrawal was sent. -/
  sfHold : Nat
  v0 : Nat
  dec : Nat
  ceased : Bool
  withdrawn : Bool
  /-- SF of the mark at which it was counted last (R221), and of its last HOLD step (R235). -/
  tickSf : Nat
  stepSf : Nat
  deriving DecidableEq, Repr

/-- A sample that waits for its evaluation: the record with its position, job status and ready time, and
the CAP of its cell (06_zones R168). -/
structure LoopSample where
  machine : Nat
  fix : FixRec
  sf : Nat
  seq : Nat
  status : Nat
  ready : Nat
  cap : Option Nat
  deriving DecidableEq, Repr

/-- The loop engine. -/
structure LoopS where
  loops : KMap Loop
  samples : List LoopSample
  /-- What LOOP_LAST_EPOCH_HI returns. -/
  latHi : Nat
  deriving DecidableEq, Repr

end Sys2Proof.Machine
end

