-- ==== Sys2Proof/Machine/Parts/Safe.lean ====
section
/-!
DEFINITION. The part of State for the SAFE bay (07_motion_safety): permit map, latches, inputs, armed
release, lease mirrors, fault conditions and the stop requests to the ports.
-/

namespace Sys2Proof.Machine

/-- The state of the emergency-stop input pair (07_motion_safety R193). -/
inductive InputState where
  | inputStop
  | inputRun
  | discrepant
  deriving DecidableEq, Repr

/-- An armed release (07_motion_safety R206): the scope is global, or one group. -/
structure Arm where
  token : Nat
  group : Option Nat
  sf : Nat
  deriving DecidableEq, Repr

/-- One emergency-stop channel (07_motion_safety R192). -/
structure EstopCh where
  raw : Bool
  /-- Operating time of the last raw change. -/
  since : Nat
  filt : Bool
  deriving DecidableEq, Repr

/-- What the SAFE bay keeps of one machine. -/
structure SafeMach where
  /-- SF_LAST of the lease mirror (R200). -/
  sfLast : Nat
  lastCause : Nat
  /-- Gate result (04_fix R112) and conformance result (05_track R154); true is PASS. -/
  gate : Bool
  conf : Bool
  /-- The newest uplink carries LEASE_LOST or EPOCH_BEHIND (R188). -/
  flagged : Bool
  /-- SF_MARK entries since the entry of the newest accepted epoch; none where there is no epoch since the
  address was assigned (04_fix R111). -/
  age : Option Nat
  deriving DecidableEq, Repr

/-- What an unlisted machine reads as: everything clear. -/
def SafeMach.zero : SafeMach := ⟨0, 0, false, false, false, none⟩

/-- A stop request that waits at a port (07_motion_safety R195), or the repeats that follow a frame. -/
structure StopReq where
  want : Bool
  glob : Bool
  repeats : Nat
  /-- Operating time of the oldest request, for SAFE_LAT. -/
  since : Nat
  deriving DecidableEq, Repr

/-- No request and no repeats. -/
def StopReq.none : StopReq := ⟨false, false, 0, 0⟩

/-- What beacons are built from: the covered state at the last position of a superframe (R48). -/
structure SafeSnap where
  permit : Nat
  latch : Bool
  groups : Nat
  epoch : Nat
  deriving DecidableEq, Repr

/-- The SAFE bay. -/
structure SafeS where
  /-- Permit bits, live and covered: bit i is machine 0x0001 + i. -/
  permit : Nat
  cPermit : Nat
  latch : Bool
  cLatch : Bool
  groups : Nat
  cGroups : Nat
  /-- Covered STOP_EPOCH (R197), and the position that raised it last. -/
  epoch : Nat
  epochAt : Option (Nat × Nat)
  firstCause : Nat
  lastCause : Nat
  faultCode : Nat
  origin : Nat
  /-- The covered state at the last position before the newest SF_MARK, and before the one before it. -/
  snap : SafeSnap
  snapPrev : SafeSnap
  /-- Bits withdrawn since the newest SF_MARK (R48), and ports that missed the beacon of its superframe (R201). -/
  wdSince : Nat
  missed : Nat
  chA : EstopCh
  chB : EstopCh
  input : InputState
  /-- The input state in the covered results (R206). -/
  cInput : InputState
  /-- Operating time since which the filtered channels differ. -/
  differ : Option Nat
  arm : Option Arm
  lastToken : Nat
  lastStatus : Nat
  reason : Nat
  /-- Fault conditions of R213, bit c − 1 for code c: live and covered. -/
  faults : Nat
  cFaults : Nat
  /-- The 100 MHz clock is present. -/
  clockOk : Bool
  dynOn : Bool
  dynPin : Bool
  mach : KMap SafeMach
  ports : KMap StopReq
  deriving DecidableEq, Repr

end Sys2Proof.Machine
end

