-- ==== Sys2Proof/Machine/Parts/Covered.lean ====
section
/-!
DEFINITION. The covered state that a state copy carries, by the regions of 16_pair R421. Parts that hold some of the
unit's own state beside the covered state stand whole here, and only their covered fields are installed.
-/

namespace Sys2Proof.Machine

open Sys2Proof

/-- The covered state as a copy carries it. -/
structure Covered where
  /-- Settings in force and staged: the configuration words that differ from their defaults, the staged copies, and the
  words that wait for their superframe. -/
  words : KMap Word
  staged : KMap Word
  sfq : List (Nat × Nat × Word)
  /-- Journal, generation, digest and the commit under way. -/
  jr : JrnlS
  fix : FixS
  scr : ScrS
  safe : SafeS
  memb : MembS
  loop : LoopS
  mac : MacS
  lkp : LkpS
  ring : KRing
  /-- Jobs admitted in a superframe, by class (11_scheduler R310). -/
  admitTo : KMap Nat
  admitSf : Nat
  /-- A forced set accepted, and the hold (14_station_time R374, R377). -/
  set : Option ForcedSet
  hold : Option Nat
  deriving DecidableEq, Repr

end Sys2Proof.Machine
end

