-- ==== Sys2Proof/Syntax/Pair.lean ====
section
/-!
DEFINITION. The operands of the commands that a frame from the partner makes (16_pair R411 to R424).
-/

namespace Sys2Proof

/-- What every frame from the partner shows (R411, R412): its path, 0 the link and 1 the witness line; the verdict on its
TAG, or on its CRC; COUNTER on the link; the sender's role (0 SEEK, 1 ACTIVE, 2 STANDBY, 3 FENCED) and ELIGIBLE; and the
sender's UID on the witness line and in a HELLO. -/
structure PairHdr where
  path : Nat
  ok : Bool
  counter : Nat
  role : Nat
  elig : Bool
  uid : Nat
  deriving DecidableEq, Repr

end Sys2Proof
end

