-- ==== Sys2Proof/Syntax/Tile.lean ====
section
/-!
DEFINITION. The operand that carries a tile's failed check (12_memory R331): where it is, what the repeats of
the check find, and what the tile held.
-/

namespace Sys2Proof

/-- A tile fails its check. -/
structure TileFail where
  /-- Region of R328, bank, and logical tile within the bank. -/
  region : Nat
  bank : Nat
  tile : Nat
  /-- The check passes on the re-read; in CRIT, the mirror passes; and the rewritten copy passes (R331). -/
  reread : Bool
  mirror : Bool
  verify : Bool
  /-- Object kind and index of R333; kind 0 where no covered object is destroyed. -/
  kind : Nat
  index : Nat
  /-- Positions of the journal entries it held, in JOURNAL. -/
  entries : List (Nat × Nat)
  deriving DecidableEq, Repr

end Sys2Proof
end

