-- ==== Sys2Proof/Syntax/Snag.lean ====
section
/-!
DEFINITION. Operands that carry what a test of the snag sweep finds (21_snag_sweep R495, R499, R500, R502).
-/

namespace Sys2Proof

/-- How a test of an item ends: it passes, it fails, or it counts as neither (R499 step 3, R500). -/
inductive SnagRes where
  | pass
  | fail
  | skip
  deriving DecidableEq, Repr

/-- One test: the category of R495, the unit (an engine, a bank, or a hod) and the item in it (a lane, a physical
tile, or 0). In category 4, `tile` is a check that fails while the tile is read for its migration. -/
structure SnagTest where
  cat : Nat
  unit : Nat
  item : Nat
  res : SnagRes
  tile : Option TileFail
  deriving DecidableEq, Repr

/-- What the self-test of a restarted bay finds of one engine: its failing lanes, and a failure of any other
test (R502 step 5). -/
structure BayTest where
  engine : Nat
  lanes : List Nat
  other : Bool
  deriving DecidableEq, Repr

end Sys2Proof
end

