-- ==== Sys2Proof/Syntax.lean ====
section
/-!
DEFINITION. The commands of the block: one constructor per row of spec/opcode_table.json, in its order,
with the operands the spec gives the command.
-/

namespace Sys2Proof

/-- A command of the block. -/
inductive Instr where
  /-- SF_MARK (R47): At each superframe boundary the sequencer writes the SF_MARK entry and takes the time-driven actions at that position. -/
  | sfMark
  /-- GEN_COMMIT (R54): A write of 1 to COMMIT in TOP_GEN_CTRL requests a generation commit, journalled as a GMP_REQ entry. -/
  | genCommit (h : GmpHdr)
  /-- DISCARD (R58): A write of 1 to DISCARD in TOP_GEN_CTRL resets every staged copy to its value in force. -/
  | discard (h : GmpHdr)
  /-- COMMIT_ENTRY (R57): At the opening of the superframe in which it is due, the COMMIT entry checks the staged set and brings it into force or refuses it. -/
  | commitEntry
  /-- CATCHUP_END (R360): The catch-up copy of the new LIVE bank into SHADOW ends, and waiting swaps and staged writes proceed. -/
  | catchupEnd
  /-- SETTINGS_WRITTEN (R464): A settings write into the slot not in force completes with its MARK, and any commit that arrived meanwhile is written next. -/
  | settingsWritten (ok0 ok1 : Bool)
  /-- RTCM_UART_MESSAGE (R65): The RTCM UART receiver collects a whole RTCM 3 message, checks its CRC-24Q and offers it to the journal or counts it. -/
  | rtcmUartMessage (k : Nat) (framing : Bool) (m : RtcmMsg)
  /-- RTCM (R66): A GMP RTCM delivery makes one REF_RTCM entry per frame that passes its CRC, or is rejected whole. -/
  | rtcm (h : GmpHdr) (digest k count : Nat) (whole : Bool) (frames : List RtcmMsg)
  /-- REF_RTCM (R67): A REF_RTCM entry is applied: station messages, MSM observations and ephemerides are used according to their type. -/
  | refRtcm (k : Nat) (m : RtcmMsg)
  /-- REF_LOST (R74): At an SF_MARK the age of the newest complete epoch exceeds REF_AGE_MAX and the receiver becomes LOST. -/
  | refLost (k : Nat)
  /-- REF_ABSENT_TIMEOUT (R74): A LOST receiver with no accepted RTCM message for 60 s returns to ABSENT. -/
  | refAbsentTimeout (k : Nat)
  /-- CLEAR (R74): A write of 1 to CLEAR0 or CLEAR1 moves a REFUSED receiver to ABSENT. -/
  | clear (h : GmpHdr) (k : Nat)
  /-- SWITCH (R75): A write of 1 to SWITCH makes the other receiver primary at the next SF_MARK if it is USABLE. -/
  | switch (h : GmpHdr)
  /-- FIX_RECORD (R97): A Fix job completes one rover epoch and writes the 48-byte fix record and rover state. -/
  | fixRecord (m done : Nat) (nums : FixNums) (tile : Option TileFail)
  /-- FIX_AGE_EXPIRY (R111): At an SF_MARK a machine's count of superframes since its newest accepted epoch exceeds AGE_MAX and its gate result becomes FAIL. -/
  | fixAgeExpiry (m : Nat)
  /-- RESV_REBUILD (R334): The four lost reservation buckets are rebuilt by resweeping every LIVE descriptor. -/
  | resvRebuild (group : Nat)
  /-- ROVER_RESET (R115): A write of 1 to RESET in FIX_ROVER_CTRL returns the selected rover to INIT. -/
  | roverReset (h : GmpHdr)
  /-- TRACK (R128): A GMP track request is journalled and handed to the Screed for sweep and insertion. -/
  | track (h : GmpHdr) (b : TrackBody)
  /-- SCR_INSERT (R141): The Screed completes an insert: sweep, probe, slides and all-or-none placement, with the response status. -/
  | scrInsert
  /-- CANCEL (R144): A GMP cancel cuts or frees a reservation descriptor from CUT_SLOT. -/
  | cancel (h : GmpHdr) (b : CancelBody)
  /-- CANCEL_ALL (R145): A write of 1 to CANCEL_ALL cancels every LIVE descriptor of the selected machine from the current slot. -/
  | cancelAll (h : GmpHdr)
  /-- SLOT_ADVANCE (R146): An SF_MARK that opens a new reservation slot frees expired descriptors. -/
  | slotAdvance
  /-- CONFORMANCE_CHECK (R153): The Screed checks a fix record against the machine's held entries and zones, and sends a withdrawal on FAIL. -/
  | conformanceCheck (m : Nat)
  /-- ZONE (R171): A GMP zone message stages its zone records all or none. -/
  | zone (h : GmpHdr) (rs : List ZoneRec)
  /-- ZONE_WRITE (R171): A write of 1 to WRITE in SCR_ZONE_CTRL stages the zone of INDEX from the data registers. -/
  | zoneWrite (h : GmpHdr)
  /-- ZONE_DELETE (R170): A write of 1 to DELETE in SCR_ZONE_CTRL stages a delete of INDEX. -/
  | zoneDelete (h : GmpHdr)
  /-- ZONE_READ (R184): A write of 1 to READ in SCR_ZONE_CTRL loads the staged zone of INDEX into the data registers. -/
  | zoneRead (h : GmpHdr)
  /-- TASK (R172): A GMP task message submits one task, which becomes OPEN. -/
  | task (h : GmpHdr) (b : TaskBody)
  /-- WITHDRAW (R174): A GMP withdraw frees an OPEN or FLAGGED task or is refused for an ASSIGNED one. -/
  | withdraw (h : GmpHdr) (ref : Nat)
  /-- CONNECTOR (R182): A GMP connector message assigns a task with a host-planned connector through one track request. -/
  | connector (h : GmpHdr) (b : ConnBody)
  /-- ALLOTMENT_ROUND (R179): At an SF_MARK of the round period, the forward auction assigns tasks to bidders. -/
  | allotmentRound
  /-- AWARD (R180): An award is inserted as a track request once the award before it has retired. -/
  | award
  /-- ESTOP_INPUT_EDGE (R192): A raw emergency-stop channel changes level and starts its filter. -/
  | estopInputEdge (chA level : Bool) (ns : Nat)
  /-- ESTOP_FILTERED_CHANGE (R193): A channel's filtered value changes after its filter time and the input pair changes state, setting the global latch on a stop. -/
  | estopFilteredChange (chA : Bool)
  /-- DISCREPANCY (R193): The channels differ for longer than DISC_T and the pair enters DISCREPANT. -/
  | discrepancy
  /-- STOP_ALL (R205): SAFE_CMD OP 1 sets a global stop with cause 2 and sends stop frames again. -/
  | stopAll (h : GmpHdr) (asWrite : Bool)
  /-- STOP_GROUP (R205): SAFE_CMD OP 2 stops a group and sets its latch. -/
  | stopGroup (h : GmpHdr) (asWrite : Bool) (group : Nat)
  /-- STOP_MACHINE (R205): SAFE_CMD OP 3 withdraws one machine with cause 4 and sends a stop request to its home port. -/
  | stopMachine (h : GmpHdr) (asWrite : Bool) (addr : Nat)
  /-- ARM_ALL (R206): SAFE_CMD OP 4 arms release of the global latch and returns a TOKEN. -/
  | armAll (h : GmpHdr) (asWrite : Bool)
  /-- ARM_GROUP (R206): SAFE_CMD OP 5 arms release of one group latch. -/
  | armGroup (h : GmpHdr) (asWrite : Bool) (group : Nat)
  /-- CONFIRM (R207): SAFE_CMD OP 6 confirms the armed release and clears the armed latch. -/
  | confirm (h : GmpHdr) (asWrite : Bool) (token : Nat)
  /-- RELEASE (R208): SAFE_CMD OP 7 sets one machine's permit bit, or refuses it with a REASON. -/
  | release (h : GmpHdr) (asWrite : Bool) (addr : Nat)
  /-- DISARM (R205): SAFE_CMD OP 8 clears the armed state. -/
  | disarm (h : GmpHdr) (asWrite : Bool)
  /-- WITHDRAWAL_REQUEST (R34): A withdrawal request reaches the SAFE bay over a hod and clears the machine's permit bit. -/
  | withdrawalRequest (m cause sf seq : Nat)
  /-- LEASE_EXPIRY (R200): At an SF_MARK a machine's lease mirror is too old and it is withdrawn with cause 13. -/
  | leaseExpiry (m : Nat)
  /-- SAFE_LOGIC (R213): The two copies of the SAFE bay logic disagree and the global latch is set with cause 7. -/
  | safeLogic
  /-- SAFE_STORE (R213): A SAFE store word cannot be corrected from its copy and raises an internal-fault stop. -/
  | safeStore (copyOk : Bool)
  /-- SAFE_CLOCK (R209): The 100 MHz clock is lost; the monitor drives PERMIT_DYN low within 2 µs and raises SAFE_CLOCK. -/
  | safeClock
  /-- SAFE_CLOCK_RESTORED (R213): The clock has been present for 1 ms and the SAFE_CLOCK condition ends with a PHASE 1 FAULT entry. -/
  | safeClockRestored
  /-- SEQ_FAULT (R213): The journal sequencer fails and the global latch is set with cause 7. -/
  | seqFault
  /-- LOOP_EVAL (R229): A Loop job evaluates the stages of a loop on a usable sample and sends the command. -/
  | loopEval (m : Nat)
  /-- LOOP_TICK (R221): At an SF_MARK each loop counts a missed feedback sample in BAD. -/
  | loopTick (l : Nat)
  /-- LOOP_HOLD (R234): BAD reaches BAD_MAX, or the leader's permit is clear, and the loop and the machine's other RUN loops enter HOLD. -/
  | loopHold (l : Nat)
  /-- HOLD_STEP (R235): At each SF_MARK in HOLD, the SPEED loop sends its ramped command and the STEER loop repeats its output. -/
  | holdStep (l : Nat)
  /-- HOLD_WITHDRAW (R236): SF - SF_HOLD reaches T_HOLD and the loop sends a withdrawal with cause 12. -/
  | holdWithdraw (l : Nat)
  /-- RESUME (R234): A write of 1 to RESUME in LOOP_CTRL takes a loop out of HOLD when BAD is 0. -/
  | resume (h : GmpHdr)
  /-- CLEAR_I (R240): A write of 1 to CLEAR_I sets both integrators of the selected loop to 0, clamped. -/
  | clearI (h : GmpHdr)
  /-- COEF_WRITE (R233): A coefficient word written to LOOP_COEF comes into force at once, word by word. -/
  | coefWrite (h : GmpHdr) (g r w : Nat) (v : Word)
  /-- READ_ID (R248): The READ_ID command reads the head's identity record. -/
  | readId (k : Nat) (r : HeadResp) (hid : HeadId)
  /-- STATUS (R247): The STATUS command reads the head's flags, once per superframe after the slot-0 trigger. -/
  | status (k : Nat) (r : HeadResp) (flags rxCount fault : Nat)
  /-- SET_CHANNEL (R247): The SET_CHANNEL command tunes the head. -/
  | setChannel (k : Nat) (r : HeadResp)
  /-- SET_POWER (R247): The SET_POWER command sets the head's transmit power. -/
  | setPower (k : Nat) (r : HeadResp)
  /-- TX_LOAD (R247): The TX_LOAD command replaces the head's single TX buffer with the frame for the slot. -/
  | txLoad (k : Nat) (r : HeadResp)
  /-- TX_CANCEL (R247): The TX_CANCEL command empties the head's TX buffer. -/
  | txCancel (k : Nat) (r : HeadResp)
  /-- RX_READ (R246): The RX_READ command returns the oldest received frame, or the last one again with MODE 1. -/
  | rxRead (k : Nat) (r : HeadResp) (f : Option Machine.RxRead)
  /-- RX_FLUSH (R247): The RX_FLUSH command discards every buffered frame of the head. -/
  | rxFlush (k : Nat) (r : HeadResp)
  /-- START_NIBBLE_TIMEOUT (R245): The head does not send the start nibble within 64 clocks and the device ends the transaction. -/
  | startNibbleTimeout (k cmd : Nat)
  /-- RXSTAMP (R249): A pulse on RHk_RXSTAMP is taken as a stamp of a preamble detection. -/
  | rxstamp (k ns : Nat)
  /-- RX_IRQ (R242): RHk_IRQ_N goes low while the head holds a received frame, and the port reads it. -/
  | rxIrq (k : Nat)
  /-- STAMP_ONLY (R255): A stamp that no frame claims within 1 ms counts in STAMP_ONLY. -/
  | stampOnly (k seq : Nat)
  /-- SLOT_CUTOFF (R259): At the insertion cut-off 100 µs before a slot, each port chooses its frame, stop frame or beacon, and loads it. -/
  | slotCutoff (sf slot : Nat)
  /-- SLOT_START (R254): At each slot start the port fires TXTRIG 20 µs later for a loaded frame, or receives. -/
  | slotStart (sf slot : Nat)
  /-- PLAN_SWITCH (R260): At the SF_MARK of SW the port's next plan comes on air and TABLE_GEN rises. -/
  | planSwitch (k : Nat)
  /-- NO_HEAD_TIMEOUT (R265): No OK response within 50 ms of entry to DISCOVER puts the port in DOWN with reason 1. -/
  | noHeadTimeout (k : Nat)
  /-- PORT_RETRY (R265): RETRY elapses for a DOWN port and discovery restarts. -/
  | portRetry (k : Nat)
  /-- RESET_HEAD (R265): A write of 1 to RESET_HEAD resets the head and restarts discovery. -/
  | resetHead (h : GmpHdr) (k : Nat)
  /-- UP_FRAME (R287): An UP frame passes intake checks, is journalled as RADIO_RX and offers its rover epoch to the fix service. -/
  | upFrame (k : Nat)
  /-- ACK_FRAME (R276): An ACK frame from a machine or pendant updates the acknowledgement state. -/
  | ackFrame (k : Nat)
  /-- JOIN_REQ (R291): A JOIN_REQ is decided at its position, an address is assigned or refused and a JOIN_ACC is queued. -/
  | joinReq (k : Nat)
  /-- JOIN_ACC_ABANDON (R290): A queued JOIN_ACC not sent within 50 superframes is abandoned. -/
  | joinAccAbandon
  /-- LEAVE (R292): An accepted LEAVE moves the address to HELD with a withdrawal of cause 14. -/
  | leave (k : Nat)
  /-- PEND (R288): A PEND frame is accepted; a stop goes to the SAFE bay with the pendant's scope. -/
  | pend (k : Nat)
  /-- RELAY (R300): A RELAY frame is taken apart and each inner frame that passes the checks is journalled. -/
  | relay (k : Nat)
  /-- SILENCE_TIMEOUT (R292): An awake address with no accepted frame for SILENCE × 10 superframes moves to HELD. -/
  | silenceTimeout (a : Nat)
  /-- WAKE_MISS (R297): A sleeper's wake superframe passes without an accepted frame; the eighth consecutive miss moves it to HELD. -/
  | wakeMiss (a : Nat)
  /-- ADDR_HOLD_EXPIRY (R292): ADDR_HOLD elapses for a HELD address and it becomes FREE. -/
  | addrHoldExpiry (a : Nat)
  /-- DISASSOC (R292): A write of 1 to DISASSOC in MAC_NODE_CTRL moves the selected address to HELD. -/
  | disassoc (h : GmpHdr)
  /-- FREE_ADDR (R292): A write of 1 to FREE_ADDR frees a HELD address, or is refused for one in ASSOC. -/
  | freeAddr (h : GmpHdr)
  /-- JOB_COMPLETE (R307): A running job completes, writes its status and marks LATE if its deadline has passed. -/
  | jobComplete (desc status : Nat)
  /-- JOB_RETIRE (R46): A DONE covered job retires once every earlier job has retired, and its writes take effect. -/
  | jobRetire (desc : Nat)
  /-- DELAY_RELEASE (R317): A release tick is reached and the delay list releases its jobs. -/
  | delayRelease
  /-- BUDGET_WINDOW (R311): A 100 ms budget window ends and throttled classes are released. -/
  | budgetWindow
  /-- WAIT_CLR (R322): A write of 1 to WAIT_CLR returns the selected engine's wait extremes to reset values. -/
  | waitClr (h : GmpHdr)
  /-- STRIP_END (R338): The strip of every tile and hod ends and the CP engines leave reset. -/
  | stripEnd (us : Nat)
  /-- STRIP_OVERRUN (R338): A strip that does not end within 200 µs is a CORE fault and resets the device. -/
  | stripOverrun
  /-- HOD_PTR_MISMATCH (R342): A hod's pointer copies disagree or a word fails its check, and the hod is reset. -/
  | hodPtrMismatch (hod : Nat)
  /-- HOD_UNREAD (R343): A hod's read pointer does not move for TIMEOUT and the unread timeout fires. -/
  | hodUnread (hod used packets : Nat)
  /-- HOD_RESET (R347): A write of 1 to RESET in HOD_CTRL resets the selected hod, and lost packets are re-produced. -/
  | hodReset (src : Option GmpHdr)
  /-- HOD_DROP (R344): A write of 1 to DROP in HOD_CTRL discards the rest of the packet being read. -/
  | hodDrop (src : Option GmpHdr) (rest : Option (Nat × Bool))
  /-- ETH_FRAME (R363): An Ethernet frame received on ETH0 or ETH1 is classified, learned and forwarded or delivered. -/
  | ethFrame (f : EthFrame)
  /-- AGE_VISIT (R356): The ageing sweep visits a bucket and clears HIT, sets AGED or deletes entries. -/
  | ageVisit (p bucket : Nat)
  /-- TABLE_REBUILD (R350): A table whose entry failed its check in both pipelines is rebuilt from its source. -/
  | tableRebuild (table : Nat)
  /-- ETH_LINK_CHANGE (R365): A host port's link goes up or down; on down FLUSH_PORT runs for the port. -/
  | ethLinkChange (p : Nat) (isUp : Bool) (speed : Nat)
  /-- SEARCH (R361): LKP_CMD OP 1 searches a key and returns the entry. -/
  | search (h : GmpHdr) (pipe kind port : Nat)
  /-- NEXT (R362): LKP_CMD OP 2 returns the next non-empty way of LIVE at the cursor. -/
  | nextEntry (h : GmpHdr) (pipe kind port : Nat)
  /-- FLUSH_PORT (R361): LKP_CMD OP 3 deletes every learned entry of a KIND and PORT from both banks. -/
  | flushPort (h : GmpHdr) (pipe kind port : Nat)
  /-- STATIC_ADD (R361): LKP_CMD OP 4 stages a static BRIDGE entry. -/
  | staticAdd (h : GmpHdr) (pipe kind port : Nat)
  /-- STATIC_DEL (R361): LKP_CMD OP 5 stages the deletion of a static entry. -/
  | staticDel (h : GmpHdr) (pipe kind port : Nat)
  /-- RULE (R364): A GMP rule message stages its IPv6 rule records all or none. -/
  | rule (h : GmpHdr) (rs : List RuleRec)
  /-- RULE_WRITE (R364): A write of 1 to WRITE in LKP_RULE_CTRL stages the rule of INDEX. -/
  | ruleWrite (h : GmpHdr)
  /-- RULE_DELETE (R366): A write of 1 to DELETE in LKP_RULE_CTRL stages a delete of INDEX. -/
  | ruleDelete (h : GmpHdr)
  /-- RULE_READ (R366): A write of 1 to READ in LKP_RULE_CTRL loads the staged rule of INDEX. -/
  | ruleRead (h : GmpHdr)
  /-- PPS_EDGE (R369): A rising edge at PPS_IN0 or PPS_IN1 is captured and measured against station time. -/
  | ppsEdge (k ns : Nat)
  /-- PTP_SYNC (R369): A PTP Sync received in SLAVE state gives a measurement of the PTP source. -/
  | ptpSync (port : Nat) (e : Int) (ns : Nat)
  /-- PTP_MESSAGE (R380): A PTP message other than Sync is handled under the Default Profile. -/
  | ptpMessage (port : Nat) (m : PtpMsg)
  /-- SOURCE_ABSENT_TIMEOUT (R370): A source no longer a candidate for 3 s becomes ABSENT. -/
  | sourceAbsentTimeout (k : Nat)
  /-- HOLD_LIMIT_EXPIRY (R373): HOLD_LIMIT elapses in HOLD and station time becomes FREE. -/
  | holdLimitExpiry
  /-- FORCE_SET (R374): A write of 1 to FORCE_SET requests a forced set of station time. -/
  | forceSet (h : GmpHdr)
  /-- FORCE_SET_APPLY (R375): At the next whole second the forced set steps station time and writes its TIME_EVENT entry, or is abandoned. -/
  | forceSetApply
  /-- TIME_HOLD_END (R377): After a backward set the superframe number passes the TIME_EVENT's SF and the hold ends with an SF_MARK. -/
  | timeHoldEnd
  /-- CLEAR_DIS (R370): A write of 1 to CLEAR_DIS returns every DISAGREE source to CANDIDATE. -/
  | clearDis (h : GmpHdr)
  /-- TRIG_ARM (R382): A write of MODE to a trigger arms or disarms it. -/
  | trigArm (h : GmpHdr) (k : Nat) (v : Word)
  /-- TRIGGER_FIRE (R383): A trigger output fires its pulse at its programmed station time. -/
  | triggerFire (k : Nat)
  /-- ARM_ADVANCE (R388): KEY_LC_CTRL OP 1 arms a life-cycle advance to TARGET. -/
  | armAdvance (src : Option GmpHdr) (target : Nat)
  /-- ARM_REVOKE_A (R392): KEY_LC_CTRL OP 2 arms the revocation of customer-A. -/
  | armRevokeA (src : Option GmpHdr)
  /-- LC_CONFIRM (R389): KEY_LC_CTRL OP 3 confirms the armed change and starts blowing the fuses. -/
  | lcConfirm (src : Option GmpHdr) (token : Nat)
  /-- LC_DISARM (R388): KEY_LC_CTRL OP 4 clears the armed life-cycle state. -/
  | lcDisarm (src : Option GmpHdr)
  /-- FUSE_BLOWN (R389): The fuses of the target pair are blown and verified, and the device resets. -/
  | fuseBlown
  /-- ROOT (R391): A GMP root message programs a customer root. -/
  | root (h : GmpHdr) (b : RootBody)
  /-- KEY_PUT (R399): A GMP key message puts one blob into the keyring. -/
  | keyPut (h : GmpHdr) (b : Blob)
  /-- KEYRING_WRITTEN (R398): The new keyring's MARK is written in the other slot and the change completes. -/
  | keyringWritten (ok0 ok1 : Bool)
  /-- KEY_INVALIDATE (R402): A GMP key invalidation raises the floor of a KEY_ID and makes its slots STALE. -/
  | keyInvalidate (h : GmpHdr) (id zero : Nat)
  /-- INVALIDATE (R402): KEY_CMD OP 1 invalidates a KEY_ID. -/
  | invalidate (h : GmpHdr) (id : Nat)
  /-- EVICT (R408): KEY_CMD OP 2 empties a READY, unpinned, idle slot. -/
  | evict (h : GmpHdr) (id : Nat)
  /-- KEY_LOAD (R400): A blob chain is loaded into key slots, one level at a time. -/
  | keyLoad (id master usage : Nat)
  /-- KEY_OPERATION_END (R402): The last running operation on a STALE slot ends and the slot is zeroed. -/
  | keyOperationEnd (slot : Nat)
  /-- NEW_CHAL (R406): A write of 1 to NEW_CHAL loads a fresh debug challenge. -/
  | newChal (src : Option GmpHdr)
  /-- SUBMIT (R406): A write of 1 to SUBMIT checks the debug response and opens debug access if it is right. -/
  | submit (src : Option GmpHdr) (resp : List Word) (right : Bool)
  /-- HELLO (R411): A HELLO frame from the partner on either path starts a session and drives the role rules. -/
  | hello (f : PairHdr) (r : Nat)
  /-- HELLO_SEND (R413): Every 2 ms a unit in SEEK or FENCED sends HELLO on both paths. -/
  | helloSend
  /-- RENEW_SEND (R414): Every 2 ms the active unit sends a RENEW on both paths. -/
  | renewSend
  /-- RENEW (R415): A RENEW received by the standby moves its lease base and is acknowledged. -/
  | renew (f : PairHdr) (num : Nat)
  /-- PAIR_ACK (R414): An ACK of a renewal received by the active unit moves its lease base. -/
  | pairAck (f : PairHdr) (num : Nat)
  /-- PATH_DOWN_TIMEOUT (R413): No valid frame on a path for 6 ms marks the path down. -/
  | pathDownTimeout (path : Nat)
  /-- FENCE (R414): The active unit's lease lapses 10 ms after its base and it fences itself. -/
  | fence
  /-- TAKEOVER (R416): The standby's lease lapses 14 ms after its base and an eligible standby takes the token. -/
  | takeover
  /-- RETAKE_WAIT_EXPIRY (R417): RETAKE_WAIT elapses for a fenced unit, which retakes the token or resets. -/
  | retakeWaitExpiry
  /-- JRNL (R418): A JRNL frame delivers forwarded entries that the standby applies. -/
  | jrnl (f : PairHdr) (l : List (JEntry × Bool))
  /-- JRNL_ACK (R418): A JRNL_ACK tells the active unit the last entry the standby has applied. -/
  | jrnlAck (f : PairHdr) (sf seq : Nat)
  /-- DIGEST (R419): A DIGEST frame compares digest, generation, image identity and replay class. -/
  | digest (f : PairHdr) (digest : List Nat) (gen version build cls : Nat)
  /-- COPY_REQ (R421): A COPY_REQ asks the active unit for a state copy or a missing chunk. -/
  | copyReq (f : PairHdr) (chunk : Option Nat)
  /-- COPY_REQ_RETRY (R421): Every 1 s an unsynchronised standby sends COPY_REQ until a copy starts. -/
  | copyReqRetry
  /-- COPY_BEGIN (R421): A COPY_BEGIN frame opens a state copy at P0. -/
  | copyBegin (f : PairHdr) (epoch p0 gen cls nchunk : Nat) (digest : List Nat)
  /-- COPY_CHUNK (R422): A COPY_CHUNK frame is checked and stored by the standby. -/
  | copyChunk (f : PairHdr) (epoch index : Nat) (crcOk : Bool)
  /-- COPY_END (R422): A COPY_END frame closes the copy, which is installed or discarded. -/
  | copyEnd (f : PairHdr) (epoch nchunk : Nat) (digestOk : Bool) (c : Machine.Covered)
  /-- COPY_RESULT (R422): A COPY_RESULT tells the active unit the copy was installed. -/
  | copyResult (f : PairHdr) (epoch : Nat) (ok : Bool)
  /-- COPY_TIMEOUT (R422): A copy not complete 10 s after COPY_BEGIN fails. -/
  | copyTimeout
  /-- HANDOVER (R423): A write of 1 to HANDOVER in PAIR_CTRL starts a planned handover. -/
  | handover (h : GmpHdr) (force : Bool)
  /-- HANDOVER_FRAME (R423): The partner receives HANDOVER and, once the ROLE entry is applied, takes the token. -/
  | handoverFrame (f : PairHdr)
  /-- TAKE_ALONE (R424): A write of TAKE_ALONE lets a unit in SEEK become ACTIVE alone. -/
  | takeAlone (h : GmpHdr) (v : Word)
  /-- CLIENT_HELLO (R430): A DTLS handshake is processed and, on success, opens a GMP session. -/
  | clientHello (bytes : List Nat) (binder : Bool) (suite port : Nat) (peer : Option Nat) (fin : Bool)
  /-- SESSION_CLOSE (R431): A session closes on close_notify or a fatal alert. -/
  | sessionClose (k : Nat)
  /-- IDLE_TIMEOUT (R431): A session without a valid record for IDLE_TO is closed. -/
  | idleTimeout (k : Nat)
  /-- READ (R438): A GMP READ returns consecutive register words. -/
  | read (h : GmpHdr) (addr count zero : Nat)
  /-- WRITE (R438): A GMP WRITE writes a list of register words all or none. -/
  | write (h : GmpHdr) (ws : List (Nat × Word)) (dbg pass : Bool)
  /-- WRITE_SEQ (R438): A GMP WRITE_SEQ writes consecutive register words all or none. -/
  | writeSeq (h : GmpHdr) (addr : Nat) (ws : List Word) (dbg pass : Bool)
  /-- REGISTER_WRITE (R13): A write to a register field without behaviour of its own sets the field now, staged, or at the superframe. -/
  | registerWrite (h : GmpHdr) (addr : Nat) (v : Word)
  /-- COMMIT_MSG (R54): A GMP COMMIT message requests a generation commit. -/
  | commitMsg (h : GmpHdr)
  /-- SUBSCRIBE (R442): A GMP SUBSCRIBE opens or replaces a subscription to a topic. -/
  | subscribe (h : GmpHdr) (topic zero mask sf seq : Nat)
  /-- UNSUBSCRIBE (R437): A GMP UNSUBSCRIBE ends a subscription. -/
  | unsubscribe (h : GmpHdr) (topic zero : Nat)
  /-- JOURNAL_ACK (R445): A GMP JOURNAL_ACK frees journal entries for the subscriber and may trigger a resend. -/
  | journalAck (h : GmpHdr) (sf seq zero : Nat)
  /-- LOG_READ (R492): A GMP LOG_READ returns records of the unit's log. -/
  | logRead (h : GmpHdr) (first count zeros : Nat)
  /-- LOG_ERASE (R493): A GMP LOG_ERASE starts erasing the log after checking TOTAL. -/
  | logErase (h : GmpHdr) (total : Nat)
  /-- LOG_ERASE_DONE (R493): The log region is erased, TOTAL becomes 0 and a LOG_ERASED record is written first. -/
  | logEraseDone
  /-- RECORD_WRITTEN (R489): A record's write and read-back end and TOTAL rises, or the slot is torn and the record written again. -/
  | recordWritten (same ok0 ok1 : Bool)
  /-- UPD_BEGIN (R474): UPD_BEGIN starts a transfer and erases the target region. -/
  | updBegin (h : GmpHdr) (target length : Nat)
  /-- UPD_ERASE_DONE (R474): Erasure of the target region ends and the transfer is RECEIVING. -/
  | updEraseDone (ok0 ok1 : Bool)
  /-- UPD_BLOCK (R475): UPD_BLOCK programs or compares one 2,048-byte block. -/
  | updBlock (h : GmpHdr) (offset dlen crc : Nat) (data : List Nat) (ok0 ok1 same : Bool)
  /-- UPD_STATUS (R473): UPD_STATUS returns the transfer state and progress. -/
  | updStatus (h : GmpHdr)
  /-- UPD_VERIFY (R476): UPD_VERIFY reads the region back and checks the image whole. -/
  | updVerify (h : GmpHdr) (sig : Bool)
  /-- UPD_ACTIVATE (R477): UPD_ACTIVATE arms the firmware trial or copies the primer, then resets the device. -/
  | updActivate (h : GmpHdr) (ok0 ok1 : Bool)
  /-- UPD_CONFIRM (R479): UPD_CONFIRM makes the trial slot the confirmed slot. -/
  | updConfirm (h : GmpHdr) (ok0 ok1 : Bool)
  /-- UPD_ABORT (R474): UPD_ABORT returns the transfer to IDLE. -/
  | updAbort (h : GmpHdr)
  /-- UPD_INFO (R473): UPD_INFO returns the identity and state of both firmware slots. -/
  | updInfo (h : GmpHdr) (good : Bool)
  /-- TRIAL_TIMEOUT (R479): A trial not confirmed within TRIAL_T writes an event record and resets the device, bringing about fallback. -/
  | trialTimeout
  /-- BOOT (R454): On release of the CORE reset the boot sequence reads and checks header, firmware, keys, primer and settings. -/
  | boot (b : BootIn)
  /-- JOURNAL_START (R466): At the first superframe boundary after VALID the journal begins and generation 1 comes into force. -/
  | journalStart
  /-- SNAG_TEST (R495): A snag job completes its test of an item and passes, substitutes a lane or fences the engine. -/
  | snagTest (x : SnagTest)
  /-- COVER_MISS (R495): An item is not tested within COVER_T and COVER_MISS is set. -/
  | coverMiss (cat u item : Nat)
  /-- SAFE_SELF_CHECK (R501): Once per second the SAFE bay tests its comparator and store check. -/
  | safeSelfCheck (ok : Bool)
  /-- RESTART_BAY (R502): SNAG_CTRL OP 1 starts a bay restart. -/
  | restartBay (h : GmpHdr) (bay : Nat)
  /-- SNAG_FENCE (R498): SNAG_CTRL OP 2 fences an engine. -/
  | snagFence (h : GmpHdr) (engine : Nat)
  /-- RETEST (R498): SNAG_CTRL OP 3 retests a fenced engine and returns it to service on a pass. -/
  | retest (h : GmpHdr) (engine : Nat) (pass : Bool)
  /-- BAY_DOMAIN_ON (R502): The restarting bay's domain has been off for 10 ms and is switched on again. -/
  | bayDomainOn
  /-- BAY_RESTART_DONE (R502): The bay's reload and self-test end and its passing engines return to dispatch. -/
  | bayRestartDone (ms : Nat) (whole : Bool) (finds : List BayTest)
  /-- RAIL_TRIP (R507): A rail stays outside its trip window for 2 µs and its monitor trips. -/
  | railTrip (r : Nat) (deep back : Bool)
  /-- RAIL_GLITCH (R507): A rail excursion shorter than 2 µs sets its GLITCH bit. -/
  | railGlitch (r : Nat)
  /-- AON_POWER_ON (R513): VSTBY rises into range and the AON power-on reset begins. -/
  | aonPowerOn
  /-- RESET_N (R513): The RESET_N ball is held low for at least 1 µs and resets the device. -/
  | resetN
  /-- CLOCK_LOSS (R512): REF_IN shows no edge for 1 µs or the PLL loses lock for 5 µs and the device resets. -/
  | clockLoss (refLost : Bool)
  /-- CORE_FAULT (R513): A CORE bay logic fault resets the device. -/
  | coreFault
  /-- WATCHDOG (R513): No CP engine in service signals progress for 100 ms and the device resets. -/
  | watchdog
  /-- RESET_RELEASE (R513): The reset source ends, rails and PLL are ready and the domains are switched on in order. -/
  | resetRelease
  /-- PCR_RESET (R515): A write of 1 to RESET in PCR_CTRL resets the unit 10 ms after the response. -/
  | pcrReset (h : GmpHdr)
  /-- STANDBY (R516): A write of 1 to STANDBY in PCR_CTRL starts entry to standby. -/
  | standby (h : GmpHdr)
  /-- STANDBY_ENTERED (R516): NVM work and the recorder queue drain, domains switch off and PWR_EN goes low. -/
  | standbyEntered
  /-- WAKE (R517): WAKE_N held low for WAKE_FILT in standby drives PWR_EN high and the device powers up. -/
  | wake (isLow : Bool)
  /-- TEMP_READ (R518): Every 10 ms the junction sensor is read, with a warning at WARN and a reset at 135 °C. -/
  | tempRead (t : Int)
  /-- PERMIT_DYN_TOGGLE (R209): At each half millisecond of station time the SAFE bay drives PERMIT_DYN high or low while every condition of R209 holds. -/
  | permitDynToggle
  /-- FRAGMENT_REASSEMBLY_TIMEOUT (R428): A fragmented UDP datagram not whole within 100 ms is discarded and counted in FRAG_DROP. -/
  | fragmentReassemblyTimeout (id : Nat)
  /-- ANNOUNCE_RECEIPT_TIMEOUT (R380): No Announce is received within ANN_TO announce intervals and the PTP port changes state under the Default Profile. -/
  | announceReceiptTimeout (port : Nat)
  /-- PTP_SEND_INTERVAL (R380): A PTP message interval (LOG_SYNC, LOG_ANN or LOG_DREQ) elapses and the device sends Sync, Announce or Delay_Req with the values of R381. -/
  | ptpSendInterval (port kind : Nat)
  deriving DecidableEq, Repr

end Sys2Proof
end

