-- ==== Sys2Proof/Config.lean ====
section
/-!
DEFINITION. What one implementation fixes, and the values the spec leaves open. An open value is an
opaque constant applied to the state's counter of free values: nothing can be proved of it.
-/

namespace Sys2Proof

/-- The two parts of 00_scope R1. -/
inductive Part where
  | szn2560
  | szn1280
  deriving DecidableEq, Repr

namespace Config

/-- The part modelled: the full one (00_scope R1). DESIGN CHOICE: log entry 4. -/
def part : Part := .szn2560

/-- A random byte of the true random source (15_keys R406, 16_pair R411, 17_host R430): free, log entry 2. -/
opaque freeByte : Nat → BitVec 8

/-- A random 64-bit number (16_pair R411 R values): free, log entry 2. -/
opaque freeWord64 : Nat → BitVec 64

/-- The trigger ID of the record that 22_power R518 asks for and 20_event_recorder R486 does not list: free,
log entry 2. -/
opaque thermTrigger : Nat

end Config

end Sys2Proof
end

