-- ==== Sys2Proof/Machine/Bits.lean ====
section
/-!
DEFINITION. Bit fields, byte order and saturation: the helpers every register field, wire layout and
counter goes through (00_scope R5, R6, R12).
-/

namespace Sys2Proof.Machine

open Sys2Proof

/-- Bits `hi:lo` of a natural number (00_scope R5). -/
def bitsOf (n hi lo : Nat) : Nat := n / 2 ^ lo % 2 ^ (hi + 1 - lo)

/-- Field `hi:lo` of a register word. -/
def fld (w : Word) (hi lo : Nat) : Nat := bitsOf w.toNat hi lo

/-- Bit `b` of a register word. -/
def bit (w : Word) (b : Nat) : Bool := w.toNat.testBit b

/-- The mask of bits `hi:lo`. -/
def maskOf (hi lo : Nat) : Nat := (2 ^ (hi + 1 - lo) - 1) * 2 ^ lo

/-- A word with field `hi:lo` replaced by the low bits of `v`. -/
def setFld (w : Word) (hi lo v : Nat) : Word :=
  BitVec.ofNat 32 (w.toNat - bitsOf w.toNat hi lo * 2 ^ lo + v % 2 ^ (hi + 1 - lo) * 2 ^ lo)

/-- A word with the bits of `mask` taken from `v` and the others kept. -/
def blend (mask : Nat) (w v : Word) : Word :=
  (w &&& ~~~(BitVec.ofNat 32 mask)) ||| (v &&& BitVec.ofNat 32 mask)

/-- A natural number as a register word, low 32 bits. -/
def wordOf (n : Nat) : Word := BitVec.ofNat 32 n

/-- 1 for true: a one-bit field. -/
def b2n (b : Bool) : Nat := if b then 1 else 0

/-- A word laid out from (value, low bit) pairs; each value is within its field. -/
def pack : List (Nat × Nat) → Nat
  | [] => 0
  | (v, lo) :: r => v * 2 ^ lo + pack r

/-- A count held in `n` bits: all-ones once reached (00_scope R12). -/
def sat (n v : Nat) : Nat := min v (2 ^ n - 1)

/-- The signed value of `n` bits in two's complement. -/
def sgn (n v : Nat) : Int := if v % 2 ^ n < 2 ^ (n - 1) then ((v % 2 ^ n : Nat) : Int) else ((v % 2 ^ n : Nat) : Int) - (2 ^ n : Nat)

/-- `n` bits in two's complement of an integer. -/
def unsgn (n : Nat) (i : Int) : Nat := (i % (2 ^ n : Nat)).toNat

/-- `n` bytes of a number, most significant first (big-endian on the wire, 00_scope R6). -/
def be : Nat → Nat → List Nat
  | 0, _ => []
  | n + 1, v => v / 256 ^ n % 256 :: be n v

/-- `n` bytes of a number, least significant first (on-chip order, 00_scope R6). -/
def le : Nat → Nat → List Nat
  | 0, _ => []
  | n + 1, v => v % 256 :: le n (v / 256)

/-- The number a big-endian byte list spells. -/
def ofBe (l : List Nat) : Nat := l.foldl (fun a b => a * 256 + b) 0

/-- The number a little-endian byte list spells. -/
def ofLe : List Nat → Nat
  | [] => 0
  | b :: r => b + 256 * ofLe r

/-- The list with element `i` replaced (unchanged where `i` is past the end). -/
def lset {α : Type} : List α → Nat → α → List α
  | [], _, _ => []
  | _ :: r, 0, x => x :: r
  | y :: r, i + 1, x => y :: lset r i x

/-- The list with element `i` changed by `f`. -/
def lmod {α : Type} : List α → Nat → (α → α) → List α
  | [], _, _ => []
  | y :: r, 0, f => f y :: r
  | y :: r, i + 1, f => y :: lmod r i f

/-- Set bit `i` of a bitmap to `b`. -/
def setBitN (n i : Nat) (b : Bool) : Nat :=
  if b then n ||| 2 ^ i else if n.testBit i then n - 2 ^ i else n

/-- How many of the low `n` bits are set. -/
def popc : Nat → Nat → Nat
  | 0, _ => 0
  | n + 1, v => b2n (v.testBit n) + popc n v

/-- The natural number rounded up to a multiple of `k`. -/
def roundUp (k n : Nat) : Nat := (n + k - 1) / k * k

end Sys2Proof.Machine
end

