-- ==== Sys2Proof/Machine/Flags.lean ====
section
/-!
DEFINITION. The status codes (00_scope R16), the choice among several that apply (00_scope R17, R18),
and the flag computations that commands share: zero-valued fields, ranges, saturation of counters.
-/

namespace Sys2Proof.Machine

/-- OK: completed as requested. -/
def stOk : Nat := 0x00
/-- OK_EMPTY: completed with nothing done or found. -/
def stEmpty : Nat := 0x01
/-- ERR_FIELD. -/
def stField : Nat := 0x10
/-- ERR_STATE. -/
def stState : Nat := 0x11
/-- ERR_BUSY. -/
def stBusy : Nat := 0x12
/-- ERR_AUTH. -/
def stAuth : Nat := 0x13
/-- ERR_CONFLICT. -/
def stConflict : Nat := 0x14
/-- ERR_FULL. -/
def stFull : Nat := 0x15
/-- ERR_STALE. -/
def stStale : Nat := 0x16
/-- ERR_CHECK. -/
def stCheck : Nat := 0x17
/-- ERR_LATE. -/
def stLate : Nat := 0x18
/-- ERR_VERSION. -/
def stVersion : Nat := 0x19

/-- The first check that fails gives the code (00_scope R17); none failing gives `ok`. Each pair holds
"this check fails" and its code. -/
def firstErr (ok : Nat) : List (Bool × Nat) → Nat
  | [] => ok
  | (true, c) :: _ => c
  | (false, _) :: r => firstErr ok r

/-- The place of an error code in the order of 00_scope R17; codes outside it come last. -/
def errRank (c : Nat) : Nat :=
  if c = stAuth then 0 else if c = stVersion then 1 else if c = stField then 2 else if c = stState then 3
  else if c = stStale then 4 else if c = stCheck then 5 else if c = stConflict then 6
  else if c = stFull then 7 else if c = stBusy then 8 else 9

/-- The code that comes first under R17; OK gives way to any error. -/
def worse (a b : Nat) : Nat := if errRank b < errRank a then b else a

/-- ERR_LATE takes the place of OK and of nothing else (00_scope R18). -/
def lateIf (late : Bool) (c : Nat) : Nat := if late && c == stOk then stLate else c

/-- A code that says the request was refused. -/
def isErr (c : Nat) : Bool := decide (c ≠ stOk ∧ c ≠ stEmpty ∧ c ≠ stLate)

/-- A value within stated ends, both included. -/
def within (lo hi v : Nat) : Bool := decide (lo ≤ v ∧ v ≤ hi)

/-- An integer within stated ends. -/
def withinI (lo hi v : Int) : Bool := decide (lo ≤ v ∧ v ≤ hi)

/-- An integer held between stated ends. -/
def clampI (lo hi v : Int) : Int := if v < lo then lo else if hi < v then hi else v

end Sys2Proof.Machine
end

