-- ==== Sys2Proof/Machine/Operands.lean ====
section
/-!
DEFINITION. The operand forms of the commands: short addresses (00_scope R24), engine and bay
identifiers (01_architecture R31, R28), register addresses (00_scope R7), ports, and the wire bytes of a
GMP body (17_host R437, big-endian).
-/

namespace Sys2Proof.Machine

open Sys2Proof

/-- Machines of the part (00_scope R1). -/
def machineCount : Part → Nat
  | .szn2560 => 256
  | .szn1280 => 128

/-- Radio ports of the part (00_scope R1). -/
def portCount : Part → Nat
  | .szn2560 => 4
  | .szn1280 => 2

/-- Fix engines of the part (00_scope R1). -/
def fixCount : Part → Nat
  | .szn2560 => 12
  | .szn1280 => 6

/-- PART_CODE (00_scope R3). -/
def partCode : Part → Nat
  | .szn2560 => 0x2560
  | .szn1280 => 0x1280

/-- A machine address of the part (00_scope R24). -/
def isMachine (p : Part) (a : Nat) : Bool := within 1 (machineCount p) a

/-- A pendant address (00_scope R24). -/
def isPendant (a : Nat) : Bool := within 0x0101 0x011F a

/-- A machine or pendant address of the part. -/
def isNode (p : Part) (a : Nat) : Bool := isMachine p a || isPendant a

/-- The address that names no one (00_scope R24). -/
def addrNone : Nat := 0xFFFE

/-- The broadcast address (00_scope R24). -/
def addrAll : Nat := 0xFFFF

/-- An engine of the part (01_architecture R31). -/
def isEngine (p : Part) (e : Nat) : Bool :=
  e == 0x00 || e == 0x01 || within 0x10 (0x0F + fixCount p) e || e == 0x20 || e == 0x21 ||
  within 0x28 0x2B e || within 0x30 (0x2F + portCount p) e || within 0x38 0x3A e || e == 0x3C || e == 0x3D ||
  e == 0x40 || e == 0x41

/-- Every engine identifier of the full part, rising (01_architecture R31). -/
def engineIds : List Nat :=
  [0x00, 0x01, 0x10, 0x11, 0x12, 0x13, 0x14, 0x15, 0x16, 0x17, 0x18, 0x19, 0x1A, 0x1B, 0x20, 0x21,
   0x28, 0x29, 0x2A, 0x2B, 0x30, 0x31, 0x32, 0x33, 0x38, 0x39, 0x3A, 0x3C, 0x3D, 0x40, 0x41]

/-- The bay of an engine (01_architecture R31). -/
def bayOf (e : Nat) : Nat :=
  if e = 0x00 then 3 else if e = 0x01 then 4
  else if e < 0x20 then 5 + (e - 0x10) / 3
  else if e < 0x28 then 9 else if e < 0x30 then 10 else if e < 0x38 then 11
  else if e < 0x40 then 12 else 13

/-- The kind of an engine: 0 CP, 1 Fix, 2 Screed, 3 Loop, 4 MAC, 5 ETH, 6 PLNK, 7 LKP, 8 SEC
(01_architecture R31, 11_scheduler R303). -/
def kindOf (e : Nat) : Nat :=
  if e < 0x10 then 0 else if e < 0x20 then 1 else if e < 0x28 then 2 else if e < 0x30 then 3
  else if e < 0x38 then 4 else if e < 0x3A then 5 else if e < 0x3C then 6 else if e < 0x40 then 7 else 8

/-- The bay code of 01_architecture R31. -/
def bayCode (b : Nat) : Nat := 0xD0 + b

/-- A bay of the part: 1 to 15, without FIXC and FIXD on the small part (00_scope R2). -/
def isBay (p : Part) (b : Nat) : Bool :=
  within 1 15 b && !(p == .szn1280 && (b == 7 || b == 8))

/-- The block window of an address (17_host R446). -/
def blockOf (a : Nat) : Nat := a / 0x10000

/-- The machine that bit i of a permit map or mask names. -/
def machineAt (i : Nat) : Nat := i + 1

/-- The bit of a machine address in a permit map or mask (10_radio_frames R279). -/
def machineBit (a : Nat) : Nat := a - 1

/-- The wire bytes of a waypoint (05_track R128). -/
def wpWire (w : Waypoint) : List Nat := be 4 (unsgn 32 w.x) ++ be 4 (unsgn 32 w.y)

/-- The wire bytes of a zone record (06_zones R170). -/
def zoneWire (z : ZoneRec) : List Nat :=
  be 1 z.op ++ be 1 z.len ++ be 2 z.index ++ be 4 z.pfx ++ be 1 z.action ++ be 1 z.zero0 ++ be 2 z.mask ++
  be 2 z.cap ++ be 2 z.zero1

/-- The wire bytes of an IPv6 rule record (13_tables R364). -/
def ruleWire (r : RuleRec) : List Nat :=
  be 1 r.op ++ be 1 r.len ++ be 2 r.index ++ be 16 r.pfx ++ be 1 r.action ++ be 1 r.ports ++ be 2 r.zero

/-- The wire bytes of a blob (15_keys R394) without its CRC. -/
def blobHead (b : Blob) : List Nat :=
  be 2 b.magic ++ be 1 b.version ++ be 1 b.typ ++ be 2 b.keyId ++ be 2 b.parent ++ be 4 b.parentGen ++
  be 4 b.gen ++ be 2 b.masters ++ be 2 b.usage ++ be 1 b.lcMask ++ be 1 b.world ++ be 1 b.flags ++
  be 1 b.zero0 ++ be 2 b.keyLen ++ be 2 b.wrapLen ++ be 4 b.zero1 ++ b.wrapped

/-- The TYPE byte of a journalled message (17_host R437). -/
def bodyType : GmpBody → Nat
  | .write _ => 0x02
  | .writeSeq _ _ => 0x03
  | .commit => 0x04
  | .safe _ => 0x08
  | .track _ => 0x20
  | .cancel _ => 0x21
  | .zone _ => 0x22
  | .task _ => 0x23
  | .withdraw _ => 0x24
  | .connector _ => 0x25
  | .rule _ => 0x26
  | .keyPut _ => 0x48
  | .keyInvalidate _ _ => 0x49
  | .root _ => 0x4A

/-- The wire bytes of a journalled message body (17_host R437). -/
def bodyWire : GmpBody → List Nat
  | .write ws => be 2 ws.length ++ be 2 0 ++ ws.flatMap (fun p => be 4 p.1 ++ be 4 p.2.toNat)
  | .writeSeq a ws => be 4 a ++ be 2 ws.length ++ be 2 0 ++ ws.flatMap (fun w => be 4 w.toNat)
  | .commit => []
  | .safe w => be 4 w.toNat
  | .track b =>
    be 2 b.machine ++ be 2 b.zero ++ be 6 b.start ++ be 1 b.slideMax ++ be 1 b.dwell ++ be 2 b.vmax ++
    be 2 b.amax ++ be 2 b.jmax ++ be 2 b.wps.length ++ b.wps.flatMap wpWire
  | .cancel b => be 4 b.resId ++ be 6 b.fromSlot ++ be 2 b.zero
  | .zone rs => be 2 rs.length ++ be 2 0 ++ rs.flatMap zoneWire
  | .task b =>
    be 1 b.prio ++ be 1 b.slideMax ++ be 4 b.capMask ++ be 6 b.deadline ++ be 1 b.dwell ++ be 1 b.zero ++
    be 2 b.vmax ++ be 2 b.amax ++ be 2 b.jmax ++ be 2 b.wps.length ++ b.wps.flatMap wpWire
  | .withdraw r => be 4 r
  | .connector b =>
    be 4 b.ref ++ be 2 b.machine ++ be 2 b.zero0 ++ be 2 b.wps.length ++ be 2 b.zero1 ++ b.wps.flatMap wpWire
  | .rule rs => be 2 rs.length ++ be 2 0 ++ rs.flatMap ruleWire
  | .keyPut b => blobHead b ++ be 4 b.crc
  | .keyInvalidate k z => be 2 k ++ be 2 z
  | .root b => be 1 b.root ++ be 3 b.zero ++ b.wrapped

end Sys2Proof.Machine
end

