-- ==== Sys2Proof/Machine/RegAddr.lean ====
section
/-!
DEFINITION. The addresses of the registers (17_host R446 for the block windows; each block's own rule
for the offsets). A register with an index has its first address here; the index adds its stride.
-/

namespace Sys2Proof.Machine.Addr

/-! The TOP block (02_journal R62, 17_host R447). -/

/-- TOP_ID. -/
def TOP_ID : Nat := 0x00000000
/-- TOP_ALARM_SUM. -/
def TOP_ALARM_SUM : Nat := 0x00000004
/-- TOP_GEN_CTRL. -/
def TOP_GEN_CTRL : Nat := 0x00000100
/-- TOP_GEN_STATUS. -/
def TOP_GEN_STATUS : Nat := 0x00000104
/-- TOP_GEN_CURRENT. -/
def TOP_GEN_CURRENT : Nat := 0x00000108
/-- TOP_DIGEST, one per index (4*8). -/
def TOP_DIGEST : Nat := 0x00000110
/-- TOP_CFG_ALARM. -/
def TOP_CFG_ALARM : Nat := 0x00000130
/-- TOP_JRNL_SF_LO. -/
def TOP_JRNL_SF_LO : Nat := 0x00000134
/-- TOP_JRNL_SF_HI. -/
def TOP_JRNL_SF_HI : Nat := 0x00000138
/-- TOP_JRNL_SEQ. -/
def TOP_JRNL_SEQ : Nat := 0x0000013C
/-! The PCR block (22_power R520). -/

/-- PCR_STATUS. -/
def PCR_STATUS : Nat := 0x00010000
/-- PCR_RESET_CAUSE. -/
def PCR_RESET_CAUSE : Nat := 0x00010004
/-- PCR_DOM_STATUS. -/
def PCR_DOM_STATUS : Nat := 0x00010008
/-- PCR_RAIL_STATUS. -/
def PCR_RAIL_STATUS : Nat := 0x0001000C
/-- PCR_CTRL. -/
def PCR_CTRL : Nat := 0x00010010
/-- PCR_CTRL_STATUS. -/
def PCR_CTRL_STATUS : Nat := 0x00010014
/-- PCR_WAKE_CFG. -/
def PCR_WAKE_CFG : Nat := 0x00010018
/-- PCR_THERM_CFG. -/
def PCR_THERM_CFG : Nat := 0x0001001C
/-- PCR_TEMP. -/
def PCR_TEMP : Nat := 0x00010020
/-- PCR_ALARM. -/
def PCR_ALARM : Nat := 0x00010024
/-- PCR_CNT_RESET, one per index (4*10). -/
def PCR_CNT_RESET : Nat := 0x00010040
/-! The SAFE block (07_motion_safety R214). -/

/-- SAFE_CMD. -/
def SAFE_CMD : Nat := 0x00020000
/-- SAFE_CMD_STATUS. -/
def SAFE_CMD_STATUS : Nat := 0x00020004
/-- SAFE_STATUS. -/
def SAFE_STATUS : Nat := 0x00020008
/-- SAFE_CAUSE. -/
def SAFE_CAUSE : Nat := 0x0002000C
/-- SAFE_ESTOP_CFG. -/
def SAFE_ESTOP_CFG : Nat := 0x00020010
/-- SAFE_LEASE. -/
def SAFE_LEASE : Nat := 0x00020014
/-- SAFE_EPOCH. -/
def SAFE_EPOCH : Nat := 0x00020018
/-- SAFE_PERMIT, one per index (4*8). -/
def SAFE_PERMIT : Nat := 0x00020020
/-- SAFE_GROUP, one per index (4*32). -/
def SAFE_GROUP : Nat := 0x00020040
/-- SAFE_PEND_SCOPE, one per index (4*4). -/
def SAFE_PEND_SCOPE : Nat := 0x000200C0
/-- SAFE_MACH_SEL. -/
def SAFE_MACH_SEL : Nat := 0x000200D0
/-- SAFE_MACH_STATUS. -/
def SAFE_MACH_STATUS : Nat := 0x000200D4
/-- SAFE_FAULT. -/
def SAFE_FAULT : Nat := 0x000200D8
/-- SAFE_STORE. -/
def SAFE_STORE : Nat := 0x000200DC
/-- SAFE_CNT_GLOBAL. -/
def SAFE_CNT_GLOBAL : Nat := 0x000200E0
/-- SAFE_CNT_WITHDRAW. -/
def SAFE_CNT_WITHDRAW : Nat := 0x000200E4
/-- SAFE_CNT_RELEASE. -/
def SAFE_CNT_RELEASE : Nat := 0x000200E8
/-- SAFE_CNT_REFUSED. -/
def SAFE_CNT_REFUSED : Nat := 0x000200EC
/-- SAFE_CNT_LEASE. -/
def SAFE_CNT_LEASE : Nat := 0x000200F0
/-- SAFE_CNT_DISC. -/
def SAFE_CNT_DISC : Nat := 0x000200F4
/-- SAFE_LAT. -/
def SAFE_LAT : Nat := 0x000200F8
/-! The SCHED block (11_scheduler R323). -/

/-- SCHED_CFG. -/
def SCHED_CFG : Nat := 0x00030000
/-- SCHED_STATUS. -/
def SCHED_STATUS : Nat := 0x00030004
/-- SCHED_DELAY. -/
def SCHED_DELAY : Nat := 0x00030008
/-- SCHED_SHARED. -/
def SCHED_SHARED : Nat := 0x0003000C
/-- SCHED_KIND_DEPTH, one per index (4*9). -/
def SCHED_KIND_DEPTH : Nat := 0x00030010
/-- SCHED_CNT_LATE. -/
def SCHED_CNT_LATE : Nat := 0x00030040
/-- SCHED_CNT_REFUSED. -/
def SCHED_CNT_REFUSED : Nat := 0x00030044
/-- SCHED_CNT_STALL. -/
def SCHED_CNT_STALL : Nat := 0x00030048
/-- SCHED_CNT_PREEMPT. -/
def SCHED_CNT_PREEMPT : Nat := 0x0003004C
/-- SCHED_CNT_DELAY_FULL. -/
def SCHED_CNT_DELAY_FULL : Nat := 0x00030050
/-- SCHED_CNT_DROP. -/
def SCHED_CNT_DROP : Nat := 0x00030054
/-- SCHED_LATE_LAST. -/
def SCHED_LATE_LAST : Nat := 0x00030058
/-- SCHED_CLASS_SEL. -/
def SCHED_CLASS_SEL : Nat := 0x00030080
/-- SCHED_CLASS_CFG. -/
def SCHED_CLASS_CFG : Nat := 0x00030084
/-- SCHED_CLASS_STATUS. -/
def SCHED_CLASS_STATUS : Nat := 0x00030088
/-- SCHED_CLASS_CNT_JOBS. -/
def SCHED_CLASS_CNT_JOBS : Nat := 0x0003008C
/-- SCHED_CLASS_CNT_LATE. -/
def SCHED_CLASS_CNT_LATE : Nat := 0x00030090
/-- SCHED_CLASS_CNT_REFUSED. -/
def SCHED_CLASS_CNT_REFUSED : Nat := 0x00030094
/-- SCHED_ENG_SEL. -/
def SCHED_ENG_SEL : Nat := 0x000300C0
/-- SCHED_ENG_STATUS. -/
def SCHED_ENG_STATUS : Nat := 0x000300C4
/-- SCHED_ENG_DEPTH. -/
def SCHED_ENG_DEPTH : Nat := 0x000300C8
/-- SCHED_ENG_WAIT_MIN. -/
def SCHED_ENG_WAIT_MIN : Nat := 0x000300CC
/-- SCHED_ENG_WAIT_MAX. -/
def SCHED_ENG_WAIT_MAX : Nat := 0x000300D0
/-- SCHED_ENG_WAIT_MEAN. -/
def SCHED_ENG_WAIT_MEAN : Nat := 0x000300D4
/-- SCHED_ENG_CTRL. -/
def SCHED_ENG_CTRL : Nat := 0x000300D8
/-- SCHED_JOB_SEL. -/
def SCHED_JOB_SEL : Nat := 0x00030100
/-- SCHED_JOB_WORD, one per index (4*10). -/
def SCHED_JOB_WORD : Nat := 0x00030104
/-! The MEM block (12_memory R346). -/

/-- MEM_CFG. -/
def MEM_CFG : Nat := 0x00040000
/-- MEM_STATUS. -/
def MEM_STATUS : Nat := 0x00040004
/-- MEM_STAGE. -/
def MEM_STAGE : Nat := 0x00040008
/-- MEM_LAST_ERR. -/
def MEM_LAST_ERR : Nat := 0x0004000C
/-- MEM_CNT_TRANSIENT. -/
def MEM_CNT_TRANSIENT : Nat := 0x00040010
/-- MEM_CNT_CORRECTED. -/
def MEM_CNT_CORRECTED : Nat := 0x00040014
/-- MEM_CNT_POISON. -/
def MEM_CNT_POISON : Nat := 0x00040018
/-- MEM_CNT_RETIRED. -/
def MEM_CNT_RETIRED : Nat := 0x0004001C
/-- MEM_CNT_STATE_LOSS. -/
def MEM_CNT_STATE_LOSS : Nat := 0x00040020
/-- MEM_STRIP. -/
def MEM_STRIP : Nat := 0x00040024
/-- MEM_BANK_SPARE, one per index (4*32). -/
def MEM_BANK_SPARE : Nat := 0x00040100
/-- MEM_BANK_ERR, one per index (4*32). -/
def MEM_BANK_ERR : Nat := 0x00040180
/-! The HOD block (12_memory R347). -/

/-- HOD_SEL. -/
def HOD_SEL : Nat := 0x00050000
/-- HOD_CFG. -/
def HOD_CFG : Nat := 0x00050004
/-- HOD_STATUS. -/
def HOD_STATUS : Nat := 0x00050008
/-- HOD_CAP. -/
def HOD_CAP : Nat := 0x0005000C
/-- HOD_CTRL. -/
def HOD_CTRL : Nat := 0x00050010
/-- HOD_CNT_PTR_ERR. -/
def HOD_CNT_PTR_ERR : Nat := 0x00050020
/-- HOD_CNT_UNREAD. -/
def HOD_CNT_UNREAD : Nat := 0x00050024
/-- HOD_CNT_DROP. -/
def HOD_CNT_DROP : Nat := 0x00050028
/-- HOD_CNT_FULL_DROP. -/
def HOD_CNT_FULL_DROP : Nat := 0x0005002C
/-- HOD_ALARM. -/
def HOD_ALARM : Nat := 0x00050040
/-! The FIX block (03_fix_inputs R88, 04_fix_solution R121, R122). -/

/-- FIX_REF_CFG, one per index (4*2). -/
def FIX_REF_CFG : Nat := 0x00060000
/-- FIX_REF_POLICY. -/
def FIX_REF_POLICY : Nat := 0x00060008
/-- FIX_REF_CTRL. -/
def FIX_REF_CTRL : Nat := 0x0006000C
/-- FIX_REF_STATUS, one per index (4*2). -/
def FIX_REF_STATUS : Nat := 0x00060010
/-- FIX_REF_CNT_MSG, one per index (4*2). -/
def FIX_REF_CNT_MSG : Nat := 0x00060018
/-- FIX_REF_CNT_BAD, one per index (4*2). -/
def FIX_REF_CNT_BAD : Nat := 0x00060020
/-- FIX_REF_SWITCHES. -/
def FIX_REF_SWITCHES : Nat := 0x00060028
/-- FIX_REF_SURVEY, one per index (18*2,4*6). -/
def FIX_REF_SURVEY : Nat := 0x00060030
/-- FIX_OBS_CFG. -/
def FIX_OBS_CFG : Nat := 0x00060060
/-- FIX_OBS_CNT_ACCEPT. -/
def FIX_OBS_CNT_ACCEPT : Nat := 0x00060064
/-- FIX_OBS_CNT_STALE. -/
def FIX_OBS_CNT_STALE : Nat := 0x00060068
/-- FIX_OBS_CNT_ORDER. -/
def FIX_OBS_CNT_ORDER : Nat := 0x0006006C
/-- FIX_OBS_CNT_FORM. -/
def FIX_OBS_CNT_FORM : Nat := 0x00060070
/-- FIX_OBS_CNT_SATDROP. -/
def FIX_OBS_CNT_SATDROP : Nat := 0x00060074
/-- FIX_EPH_STATUS. -/
def FIX_EPH_STATUS : Nat := 0x00060080
/-- FIX_EPH_CNT_REJECT. -/
def FIX_EPH_CNT_REJECT : Nat := 0x00060084
/-- FIX_EPH_CNT_PEND. -/
def FIX_EPH_CNT_PEND : Nat := 0x00060088
/-- FIX_SITE_ORIGIN, one per index (4*6). -/
def FIX_SITE_ORIGIN : Nat := 0x00060090
/-- FIX_SITE_ROT. -/
def FIX_SITE_ROT : Nat := 0x000600A8
/-- FIX_GRID_CORNER_X. -/
def FIX_GRID_CORNER_X : Nat := 0x000600AC
/-- FIX_GRID_CORNER_Y. -/
def FIX_GRID_CORNER_Y : Nat := 0x000600B0
/-- FIX_CORR_CFG. -/
def FIX_CORR_CFG : Nat := 0x000600C0
/-- FIX_CORR_CNT_SENT. -/
def FIX_CORR_CNT_SENT : Nat := 0x000600C4
/-- FIX_CORR_CNT_SKIP. -/
def FIX_CORR_CNT_SKIP : Nat := 0x000600C8
/-- FIX_SOL_NOISE0. -/
def FIX_SOL_NOISE0 : Nat := 0x00060100
/-- FIX_SOL_NOISE1. -/
def FIX_SOL_NOISE1 : Nat := 0x00060104
/-- FIX_SOL_MODE. -/
def FIX_SOL_MODE : Nat := 0x00060108
/-- FIX_SOL_TEST0. -/
def FIX_SOL_TEST0 : Nat := 0x0006010C
/-- FIX_SOL_TEST1. -/
def FIX_SOL_TEST1 : Nat := 0x00060110
/-- FIX_SOL_TEST2. -/
def FIX_SOL_TEST2 : Nat := 0x00060114
/-- FIX_PL_CFG0. -/
def FIX_PL_CFG0 : Nat := 0x00060118
/-- FIX_PL_CFG1. -/
def FIX_PL_CFG1 : Nat := 0x0006011C
/-- FIX_GATE_PROF_A, one per index (8*4). -/
def FIX_GATE_PROF_A : Nat := 0x00060120
/-- FIX_GATE_PROF_B, one per index (8*4). -/
def FIX_GATE_PROF_B : Nat := 0x00060124
/-- FIX_GATE_SEL, one per index (4*16). -/
def FIX_GATE_SEL : Nat := 0x00060140
/-- FIX_ENG_CTRL. -/
def FIX_ENG_CTRL : Nat := 0x00060180
/-- FIX_ENG_STATUS, one per index (4*12). -/
def FIX_ENG_STATUS : Nat := 0x00060190
/-- FIX_SOL_CNT, one per index (4*5). -/
def FIX_SOL_CNT : Nat := 0x000601C0
/-- FIX_SOL_CNT_EXCL. -/
def FIX_SOL_CNT_EXCL : Nat := 0x000601D4
/-- FIX_SOL_CNT_RESTART. -/
def FIX_SOL_CNT_RESTART : Nat := 0x000601D8
/-- FIX_SOL_CNT_LATE. -/
def FIX_SOL_CNT_LATE : Nat := 0x000601DC
/-- FIX_SOL_CNT_PARTIAL. -/
def FIX_SOL_CNT_PARTIAL : Nat := 0x000601E0
/-- FIX_SOL_LAT. -/
def FIX_SOL_LAT : Nat := 0x000601E4
/-- FIX_LINK_STATUS. -/
def FIX_LINK_STATUS : Nat := 0x000601F0
/-- FIX_ROVER_SEL. -/
def FIX_ROVER_SEL : Nat := 0x00060200
/-- FIX_ROVER_STATUS. -/
def FIX_ROVER_STATUS : Nat := 0x00060204
/-- FIX_ROVER_CTRL. -/
def FIX_ROVER_CTRL : Nat := 0x00060208
/-- FIX_ROVER_PL. -/
def FIX_ROVER_PL : Nat := 0x0006020C
/-! The SCR block (05_track R158, R159, 06_zones R184). -/

/-- SCR_CFG. -/
def SCR_CFG : Nat := 0x00070000
/-- SCR_CLASS_A, one per index (8*16). -/
def SCR_CLASS_A : Nat := 0x00070010
/-- SCR_CLASS_B, one per index (8*16). -/
def SCR_CLASS_B : Nat := 0x00070014
/-- SCR_CLASS_C, one per index (4*16). -/
def SCR_CLASS_C : Nat := 0x00070090
/-- SCR_MACH_CLASS, one per index (4*32). -/
def SCR_MACH_CLASS : Nat := 0x000700D0
/-- SCR_SLOT_LO. -/
def SCR_SLOT_LO : Nat := 0x00070150
/-- SCR_SLOT_HI. -/
def SCR_SLOT_HI : Nat := 0x00070154
/-- SCR_USE. -/
def SCR_USE : Nat := 0x00070158
/-- SCR_DESC. -/
def SCR_DESC : Nat := 0x0007015C
/-- SCR_CNT_INSERT. -/
def SCR_CNT_INSERT : Nat := 0x00070160
/-- SCR_CNT_CONFLICT. -/
def SCR_CNT_CONFLICT : Nat := 0x00070164
/-- SCR_CNT_SLIDE. -/
def SCR_CNT_SLIDE : Nat := 0x00070168
/-- SCR_CNT_FULL. -/
def SCR_CNT_FULL : Nat := 0x0007016C
/-- SCR_CNT_CANCEL. -/
def SCR_CNT_CANCEL : Nat := 0x00070170
/-- SCR_CNT_CONF_FAIL. -/
def SCR_CNT_CONF_FAIL : Nat := 0x00070174
/-- SCR_CNT_WARN. -/
def SCR_CNT_WARN : Nat := 0x00070178
/-- SCR_CNT_RELOC. -/
def SCR_CNT_RELOC : Nat := 0x0007017C
/-- SCR_ENG_STATUS, one per index (4*2). -/
def SCR_ENG_STATUS : Nat := 0x00070180
/-- SCR_INS_LAT. -/
def SCR_INS_LAT : Nat := 0x00070188
/-- SCR_MACH_SEL. -/
def SCR_MACH_SEL : Nat := 0x00070190
/-- SCR_MACH_STATUS. -/
def SCR_MACH_STATUS : Nat := 0x00070194
/-- SCR_MACH_CTRL. -/
def SCR_MACH_CTRL : Nat := 0x00070198
/-- SCR_MACH_ENTRIES. -/
def SCR_MACH_ENTRIES : Nat := 0x0007019C
/-- SCR_ALLOT_CFG. -/
def SCR_ALLOT_CFG : Nat := 0x00070200
/-- SCR_ALLOT_COST. -/
def SCR_ALLOT_COST : Nat := 0x00070204
/-- SCR_ALLOT_CONN. -/
def SCR_ALLOT_CONN : Nat := 0x00070208
/-- SCR_ALLOT_VBASE. -/
def SCR_ALLOT_VBASE : Nat := 0x0007020C
/-- SCR_ALLOT_SEL. -/
def SCR_ALLOT_SEL : Nat := 0x00070210
/-- SCR_ALLOT_MACH. -/
def SCR_ALLOT_MACH : Nat := 0x00070214
/-- SCR_ALLOT_STATUS. -/
def SCR_ALLOT_STATUS : Nat := 0x00070218
/-- SCR_ALLOT_LAST. -/
def SCR_ALLOT_LAST : Nat := 0x0007021C
/-- SCR_CNT_ROUND. -/
def SCR_CNT_ROUND : Nat := 0x00070220
/-- SCR_CNT_AWARD. -/
def SCR_CNT_AWARD : Nat := 0x00070224
/-- SCR_CNT_AWARD_FAIL. -/
def SCR_CNT_AWARD_FAIL : Nat := 0x00070228
/-- SCR_CNT_FLAG. -/
def SCR_CNT_FLAG : Nat := 0x0007022C
/-- SCR_CNT_EXPIRE. -/
def SCR_CNT_EXPIRE : Nat := 0x00070230
/-- SCR_CNT_ZONE_ALARM. -/
def SCR_CNT_ZONE_ALARM : Nat := 0x00070234
/-- SCR_ZONE_IDX. -/
def SCR_ZONE_IDX : Nat := 0x00070240
/-- SCR_ZONE_PREFIX. -/
def SCR_ZONE_PREFIX : Nat := 0x00070244
/-- SCR_ZONE_ATTR. -/
def SCR_ZONE_ATTR : Nat := 0x00070248
/-- SCR_ZONE_CAP. -/
def SCR_ZONE_CAP : Nat := 0x0007024C
/-- SCR_ZONE_CTRL. -/
def SCR_ZONE_CTRL : Nat := 0x00070250
/-- SCR_ZONE_STATUS. -/
def SCR_ZONE_STATUS : Nat := 0x00070254
/-! The LOOP block (08_control_loops R240). -/

/-- LOOP_SEL. -/
def LOOP_SEL : Nat := 0x00080000
/-- LOOP_CFG0. -/
def LOOP_CFG0 : Nat := 0x00080004
/-- LOOP_CFG1. -/
def LOOP_CFG1 : Nat := 0x00080008
/-- LOOP_CFG2. -/
def LOOP_CFG2 : Nat := 0x0008000C
/-- LOOP_CFG3. -/
def LOOP_CFG3 : Nat := 0x00080010
/-- LOOP_CFG4. -/
def LOOP_CFG4 : Nat := 0x00080014
/-- LOOP_HYST. -/
def LOOP_HYST : Nat := 0x00080018
/-- LOOP_SETPOINT. -/
def LOOP_SETPOINT : Nat := 0x0008001C
/-- LOOP_SCHED_VAL. -/
def LOOP_SCHED_VAL : Nat := 0x00080020
/-- LOOP_REGION. -/
def LOOP_REGION : Nat := 0x00080024
/-- LOOP_CTRL. -/
def LOOP_CTRL : Nat := 0x00080028
/-- LOOP_STATUS. -/
def LOOP_STATUS : Nat := 0x0008002C
/-- LOOP_OUT_INNER. -/
def LOOP_OUT_INNER : Nat := 0x00080030
/-- LOOP_OUT_OUTER. -/
def LOOP_OUT_OUTER : Nat := 0x00080034
/-- LOOP_I_INNER. -/
def LOOP_I_INNER : Nat := 0x00080038
/-- LOOP_I_OUTER. -/
def LOOP_I_OUTER : Nat := 0x0008003C
/-- LOOP_LAST_EPOCH_LO. -/
def LOOP_LAST_EPOCH_LO : Nat := 0x00080040
/-- LOOP_LAST_EPOCH_HI. -/
def LOOP_LAST_EPOCH_HI : Nat := 0x00080044
/-- LOOP_ENG_STATUS, one per index (4*4). -/
def LOOP_ENG_STATUS : Nat := 0x00080100
/-- LOOP_CNT_EVAL. -/
def LOOP_CNT_EVAL : Nat := 0x00080110
/-- LOOP_CNT_IMPLAUS. -/
def LOOP_CNT_IMPLAUS : Nat := 0x00080114
/-- LOOP_CNT_MISS. -/
def LOOP_CNT_MISS : Nat := 0x00080118
/-- LOOP_CNT_STALE_LEAD. -/
def LOOP_CNT_STALE_LEAD : Nat := 0x0008011C
/-- LOOP_CNT_SWITCH. -/
def LOOP_CNT_SWITCH : Nat := 0x00080120
/-- LOOP_CNT_HOLD. -/
def LOOP_CNT_HOLD : Nat := 0x00080124
/-- LOOP_CNT_WITHDRAW. -/
def LOOP_CNT_WITHDRAW : Nat := 0x00080128
/-- LOOP_LAT. -/
def LOOP_LAT : Nat := 0x0008012C
/-- LOOP_USE. -/
def LOOP_USE : Nat := 0x00080130
/-- LOOP_COEF, one per index (200*2,40*8,4*10). -/
def LOOP_COEF : Nat := 0x00080400
/-- LOOP_COEF_RES, one per index (200*2,40*8,4*6). -/
def LOOP_COEF_RES : Nat := 0x00080428
/-! The MAC block (09_radio_ports R267, 10_radio_frames R302). -/

/-- MAC_CFG. -/
def MAC_CFG : Nat := 0x00090000
/-- MAC_STATUS. -/
def MAC_STATUS : Nat := 0x00090004
/-- MAC_P_CFG, one per index (100*4). -/
def MAC_P_CFG : Nat := 0x00090100
/-- MAC_P_STATUS, one per index (100*4). -/
def MAC_P_STATUS : Nat := 0x00090104
/-- MAC_P_SWITCH_LO, one per index (100*4). -/
def MAC_P_SWITCH_LO : Nat := 0x00090108
/-- MAC_P_SWITCH_HI, one per index (100*4). -/
def MAC_P_SWITCH_HI : Nat := 0x0009010C
/-- MAC_P_CTRL, one per index (100*4). -/
def MAC_P_CTRL : Nat := 0x00090110
/-- MAC_P_HEAD_ID, one per index (100*4,4*8). -/
def MAC_P_HEAD_ID : Nat := 0x00090120
/-- MAC_P_CNT, one per index (100*4,4*9). -/
def MAC_P_CNT : Nat := 0x00090140
/-- MAC_MEMB_CFG0. -/
def MAC_MEMB_CFG0 : Nat := 0x00090500
/-- MAC_MEMB_CFG1. -/
def MAC_MEMB_CFG1 : Nat := 0x00090504
/-- MAC_MEMB_STATUS. -/
def MAC_MEMB_STATUS : Nat := 0x00090508
/-- MAC_NODE_SEL. -/
def MAC_NODE_SEL : Nat := 0x00090510
/-- MAC_NODE_STATUS. -/
def MAC_NODE_STATUS : Nat := 0x00090514
/-- MAC_NODE_EUI_LO. -/
def MAC_NODE_EUI_LO : Nat := 0x00090518
/-- MAC_NODE_EUI_HI. -/
def MAC_NODE_EUI_HI : Nat := 0x0009051C
/-- MAC_NODE_WAKE. -/
def MAC_NODE_WAKE : Nat := 0x00090520
/-- MAC_NODE_SEQ. -/
def MAC_NODE_SEQ : Nat := 0x00090524
/-- MAC_NODE_WIN. -/
def MAC_NODE_WIN : Nat := 0x00090528
/-- MAC_NODE_CTRL. -/
def MAC_NODE_CTRL : Nat := 0x0009052C
/-- MAC_NODE_RELAY. -/
def MAC_NODE_RELAY : Nat := 0x00090530
/-- MAC_CNT, one per index (4*13). -/
def MAC_CNT : Nat := 0x00090540
/-- MAC_P_SLOT, one per index (800*4,4*400). -/
def MAC_P_SLOT : Nat := 0x00091000
/-! The LKP block (13_tables R366). -/

/-- LKP_CFG. -/
def LKP_CFG : Nat := 0x000A0000
/-- LKP_PORT_CFG, one per index (4*2). -/
def LKP_PORT_CFG : Nat := 0x000A0004
/-- LKP_VLAN, one per index (4*16). -/
def LKP_VLAN : Nat := 0x000A0010
/-- LKP_PIPE_STATUS, one per index (4*2). -/
def LKP_PIPE_STATUS : Nat := 0x000A0060
/-- LKP_PIPE_EM, one per index (4*2). -/
def LKP_PIPE_EM : Nat := 0x000A0068
/-- LKP_STATIC. -/
def LKP_STATIC : Nat := 0x000A0070
/-- LKP_RULES. -/
def LKP_RULES : Nat := 0x000A0074
/-- LKP_CNT, one per index (4*10). -/
def LKP_CNT : Nat := 0x000A0080
/-- LKP_CMD. -/
def LKP_CMD : Nat := 0x000A0100
/-- LKP_CMD_STATUS. -/
def LKP_CMD_STATUS : Nat := 0x000A0104
/-- LKP_KEY0. -/
def LKP_KEY0 : Nat := 0x000A0108
/-- LKP_KEY1. -/
def LKP_KEY1 : Nat := 0x000A010C
/-- LKP_KEY2. -/
def LKP_KEY2 : Nat := 0x000A0110
/-- LKP_RES, one per index (4*4). -/
def LKP_RES : Nat := 0x000A0114
/-- LKP_CURSOR. -/
def LKP_CURSOR : Nat := 0x000A0124
/-- LKP_RULE_IDX. -/
def LKP_RULE_IDX : Nat := 0x000A0140
/-- LKP_RULE_PFX, one per index (4*4). -/
def LKP_RULE_PFX : Nat := 0x000A0144
/-- LKP_RULE_ATTR. -/
def LKP_RULE_ATTR : Nat := 0x000A0154
/-- LKP_RULE_CTRL. -/
def LKP_RULE_CTRL : Nat := 0x000A0158
/-- LKP_RULE_STATUS. -/
def LKP_RULE_STATUS : Nat := 0x000A015C
/-! The NET block (17_host R448). -/

/-- NET_PORT_CFG, one per index (4*2). -/
def NET_PORT_CFG : Nat := 0x000B0000
/-- NET_PORT_STATUS, one per index (4*2). -/
def NET_PORT_STATUS : Nat := 0x000B0008
/-- NET_MAC_LO. -/
def NET_MAC_LO : Nat := 0x000B0010
/-- NET_MAC_HI. -/
def NET_MAC_HI : Nat := 0x000B0014
/-- NET_IP4. -/
def NET_IP4 : Nat := 0x000B0018
/-- NET_IP6, one per index (4*4). -/
def NET_IP6 : Nat := 0x000B0020
/-- NET_GMP_CFG. -/
def NET_GMP_CFG : Nat := 0x000B0030
/-- NET_IDENT_SEL. -/
def NET_IDENT_SEL : Nat := 0x000B0040
/-- NET_IDENT_ID, one per index (4*4). -/
def NET_IDENT_ID : Nat := 0x000B0044
/-- NET_IDENT_RIGHTS. -/
def NET_IDENT_RIGHTS : Nat := 0x000B0054
/-- NET_SESS_STATUS, one per index (4*4). -/
def NET_SESS_STATUS : Nat := 0x000B0080
/-- NET_CNT, one per index (4*9). -/
def NET_CNT : Nat := 0x000B0100
/-! The TIME block (14_station_time R385). -/

/-- TIME_CFG. -/
def TIME_CFG : Nat := 0x000C0000
/-- TIME_JUMP. -/
def TIME_JUMP : Nat := 0x000C0004
/-- TIME_PPS_DELAY, one per index (4*2). -/
def TIME_PPS_DELAY : Nat := 0x000C0008
/-- TIME_PTP_CFG. -/
def TIME_PTP_CFG : Nat := 0x000C0010
/-- TIME_PTP_INTV. -/
def TIME_PTP_INTV : Nat := 0x000C0014
/-- TIME_UTC. -/
def TIME_UTC : Nat := 0x000C0018
/-- TIME_STATUS. -/
def TIME_STATUS : Nat := 0x000C001C
/-- TIME_SRC_STATUS, one per index (8*3). -/
def TIME_SRC_STATUS : Nat := 0x000C0020
/-- TIME_SRC_OFFSET, one per index (8*3). -/
def TIME_SRC_OFFSET : Nat := 0x000C0024
/-- TIME_FREQ. -/
def TIME_FREQ : Nat := 0x000C0038
/-- TIME_NOW_S_LO. -/
def TIME_NOW_S_LO : Nat := 0x000C0040
/-- TIME_NOW_S_HI. -/
def TIME_NOW_S_HI : Nat := 0x000C0044
/-- TIME_NOW_NS. -/
def TIME_NOW_NS : Nat := 0x000C0048
/-- TIME_NOW_FRAC. -/
def TIME_NOW_FRAC : Nat := 0x000C004C
/-- TIME_SET_S_LO. -/
def TIME_SET_S_LO : Nat := 0x000C0050
/-- TIME_SET_S_HI. -/
def TIME_SET_S_HI : Nat := 0x000C0054
/-- TIME_SET_NS. -/
def TIME_SET_NS : Nat := 0x000C0058
/-- TIME_CTRL. -/
def TIME_CTRL : Nat := 0x000C005C
/-- TIME_SET_STATUS. -/
def TIME_SET_STATUS : Nat := 0x000C0060
/-- TIME_ALARM. -/
def TIME_ALARM : Nat := 0x000C0064
/-- TIME_CNT_REFUSED. -/
def TIME_CNT_REFUSED : Nat := 0x000C0068
/-- TIME_CNT_SRC_CHANGE. -/
def TIME_CNT_SRC_CHANGE : Nat := 0x000C006C
/-- TIME_CNT_FORCED. -/
def TIME_CNT_FORCED : Nat := 0x000C0070
/-- TIME_CNT_HOLD_DROP. -/
def TIME_CNT_HOLD_DROP : Nat := 0x000C0074
/-- TIME_CNT_PTP_DROP. -/
def TIME_CNT_PTP_DROP : Nat := 0x000C0078
/-- TIME_CNT_TRIG_MISSED. -/
def TIME_CNT_TRIG_MISSED : Nat := 0x000C007C
/-- TIME_TRIG_CFG, one per index (20*8). -/
def TIME_TRIG_CFG : Nat := 0x000C0100
/-- TIME_TRIG_START_S_LO, one per index (20*8). -/
def TIME_TRIG_START_S_LO : Nat := 0x000C0104
/-- TIME_TRIG_START_S_HI, one per index (20*8). -/
def TIME_TRIG_START_S_HI : Nat := 0x000C0108
/-- TIME_TRIG_START_NS, one per index (20*8). -/
def TIME_TRIG_START_NS : Nat := 0x000C010C
/-- TIME_TRIG_PER_S, one per index (20*8). -/
def TIME_TRIG_PER_S : Nat := 0x000C0110
/-- TIME_TRIG_PER_NS, one per index (20*8). -/
def TIME_TRIG_PER_NS : Nat := 0x000C0114
/-- TIME_TRIG_WIDTH, one per index (20*8). -/
def TIME_TRIG_WIDTH : Nat := 0x000C0118
/-- TIME_TRIG_STATUS, one per index (20*8). -/
def TIME_TRIG_STATUS : Nat := 0x000C011C
/-! The KEY block (15_keys R408). -/

/-- KEY_LC_STATUS. -/
def KEY_LC_STATUS : Nat := 0x000D0000
/-- KEY_LC_CTRL. -/
def KEY_LC_CTRL : Nat := 0x000D0004
/-- KEY_LC_CMD_STATUS. -/
def KEY_LC_CMD_STATUS : Nat := 0x000D0008
/-- KEY_UID_LO. -/
def KEY_UID_LO : Nat := 0x000D000C
/-- KEY_UID_HI. -/
def KEY_UID_HI : Nat := 0x000D0010
/-- KEY_RING_STATUS. -/
def KEY_RING_STATUS : Nat := 0x000D0014
/-- KEY_RING_GEN. -/
def KEY_RING_GEN : Nat := 0x000D0018
/-- KEY_CMD. -/
def KEY_CMD : Nat := 0x000D0020
/-- KEY_CMD_STATUS. -/
def KEY_CMD_STATUS : Nat := 0x000D0024
/-- KEY_STORE_STATUS. -/
def KEY_STORE_STATUS : Nat := 0x000D0028
/-- KEY_SLOT_SEL. -/
def KEY_SLOT_SEL : Nat := 0x000D0030
/-- KEY_SLOT_INFO. -/
def KEY_SLOT_INFO : Nat := 0x000D0034
/-- KEY_SLOT_GEN. -/
def KEY_SLOT_GEN : Nat := 0x000D0038
/-- KEY_DBG_CHAL, one per index (4*4). -/
def KEY_DBG_CHAL : Nat := 0x000D0040
/-- KEY_DBG_RESP, one per index (4*4). -/
def KEY_DBG_RESP : Nat := 0x000D0050
/-- KEY_DBG_CTRL. -/
def KEY_DBG_CTRL : Nat := 0x000D0060
/-- KEY_DBG_STATUS. -/
def KEY_DBG_STATUS : Nat := 0x000D0064
/-- KEY_CNT_LOAD. -/
def KEY_CNT_LOAD : Nat := 0x000D0070
/-- KEY_CNT_EVICT. -/
def KEY_CNT_EVICT : Nat := 0x000D0074
/-- KEY_CNT_STALE. -/
def KEY_CNT_STALE : Nat := 0x000D0078
/-- KEY_CNT_CHECK. -/
def KEY_CNT_CHECK : Nat := 0x000D007C
/-- KEY_CNT_AUTH. -/
def KEY_CNT_AUTH : Nat := 0x000D0080
/-! The EVR block (20_event_recorder R494). -/

/-- EVR_STATUS. -/
def EVR_STATUS : Nat := 0x000E0000
/-- EVR_TOTAL. -/
def EVR_TOTAL : Nat := 0x000E0004
/-- EVR_CAPACITY. -/
def EVR_CAPACITY : Nat := 0x000E0008
/-- EVR_OPSEC_LO. -/
def EVR_OPSEC_LO : Nat := 0x000E000C
/-- EVR_OPSEC_HI. -/
def EVR_OPSEC_HI : Nat := 0x000E0010
/-- EVR_PCYCLE. -/
def EVR_PCYCLE : Nat := 0x000E0014
/-- EVR_SEQ. -/
def EVR_SEQ : Nat := 0x000E0018
/-- EVR_TRIG_EN, one per index (4*2). -/
def EVR_TRIG_EN : Nat := 0x000E0020
/-- EVR_ALARM. -/
def EVR_ALARM : Nat := 0x000E0028
/-- EVR_CNT_WRITTEN. -/
def EVR_CNT_WRITTEN : Nat := 0x000E0030
/-- EVR_CNT_LOST. -/
def EVR_CNT_LOST : Nat := 0x000E0034
/-- EVR_CNT_DISCARDED. -/
def EVR_CNT_DISCARDED : Nat := 0x000E0038
/-- EVR_CNT_TORN. -/
def EVR_CNT_TORN : Nat := 0x000E003C
/-- EVR_CNT_WRITE_ERR. -/
def EVR_CNT_WRITE_ERR : Nat := 0x000E0040
/-- EVR_SNAP, one per index (60*64,4*24). -/
def EVR_SNAP : Nat := 0x000E1000
/-! The UPD block (19_firmware R482). -/

/-- UPD_CFG. -/
def UPD_CFG : Nat := 0x000F0000
/-- UPD_STATUS. -/
def UPD_STATUS : Nat := 0x000F0004
/-- UPD_LENGTH. -/
def UPD_LENGTH : Nat := 0x000F0008
/-- UPD_RECEIVED. -/
def UPD_RECEIVED : Nat := 0x000F000C
/-- UPD_MISSING. -/
def UPD_MISSING : Nat := 0x000F0010
/-- UPD_RUN_ID_LO. -/
def UPD_RUN_ID_LO : Nat := 0x000F0020
/-- UPD_RUN_ID_HI. -/
def UPD_RUN_ID_HI : Nat := 0x000F0024
/-- UPD_RUN_CLASS. -/
def UPD_RUN_CLASS : Nat := 0x000F0028
/-- UPD_RUN_SET. -/
def UPD_RUN_SET : Nat := 0x000F002C
/-- UPD_TRIAL_LEFT. -/
def UPD_TRIAL_LEFT : Nat := 0x000F0030
/-- UPD_CNT_BLOCK. -/
def UPD_CNT_BLOCK : Nat := 0x000F0040
/-- UPD_CNT_REPEAT. -/
def UPD_CNT_REPEAT : Nat := 0x000F0044
/-- UPD_CNT_CONFLICT. -/
def UPD_CNT_CONFLICT : Nat := 0x000F0048
/-- UPD_CNT_CRC. -/
def UPD_CNT_CRC : Nat := 0x000F004C
/-- UPD_CNT_VERIFY_FAIL. -/
def UPD_CNT_VERIFY_FAIL : Nat := 0x000F0050
/-- UPD_CNT_FALLBACK. -/
def UPD_CNT_FALLBACK : Nat := 0x000F0054
/-! The PAIR block (16_pair R426). -/

/-- PAIR_CFG. -/
def PAIR_CFG : Nat := 0x00100000
/-- PAIR_STATUS. -/
def PAIR_STATUS : Nat := 0x00100004
/-- PAIR_ALARM. -/
def PAIR_ALARM : Nat := 0x00100008
/-- PAIR_CTRL. -/
def PAIR_CTRL : Nat := 0x0010000C
/-- PAIR_CTRL_STATUS. -/
def PAIR_CTRL_STATUS : Nat := 0x00100010
/-- PAIR_PARTNER_UID_LO. -/
def PAIR_PARTNER_UID_LO : Nat := 0x00100014
/-- PAIR_PARTNER_UID_HI. -/
def PAIR_PARTNER_UID_HI : Nat := 0x00100018
/-- PAIR_ACK_SF_LO. -/
def PAIR_ACK_SF_LO : Nat := 0x0010001C
/-- PAIR_ACK_SF_HI. -/
def PAIR_ACK_SF_HI : Nat := 0x00100020
/-- PAIR_ACK_SEQ. -/
def PAIR_ACK_SEQ : Nat := 0x00100024
/-- PAIR_LAG. -/
def PAIR_LAG : Nat := 0x00100028
/-- PAIR_COPY. -/
def PAIR_COPY : Nat := 0x0010002C
/-- PAIR_CNT, one per index (4*10). -/
def PAIR_CNT : Nat := 0x00100040
/-! The SNAG block (21_snag R506). -/

/-- SNAG_CFG. -/
def SNAG_CFG : Nat := 0x00110000
/-- SNAG_STATUS. -/
def SNAG_STATUS : Nat := 0x00110004
/-- SNAG_PASSES. -/
def SNAG_PASSES : Nat := 0x00110008
/-- SNAG_AGE, one per index (4*8). -/
def SNAG_AGE : Nat := 0x00110010
/-- SNAG_CTRL. -/
def SNAG_CTRL : Nat := 0x00110040
/-- SNAG_CTRL_STATUS. -/
def SNAG_CTRL_STATUS : Nat := 0x00110044
/-- SNAG_BAY_STATUS, one per index (4*15). -/
def SNAG_BAY_STATUS : Nat := 0x00110084
/-- SNAG_CNT, one per index (4*10). -/
def SNAG_CNT : Nat := 0x00110100
/-! The NVM block (18_boot R470). -/

/-- NVM_BOOT_STATUS. -/
def NVM_BOOT_STATUS : Nat := 0x00120000
/-- NVM_LAYOUT. -/
def NVM_LAYOUT : Nat := 0x00120004
/-- NVM_HDR_GEN. -/
def NVM_HDR_GEN : Nat := 0x00120008
/-- NVM_PRIMER_LEN. -/
def NVM_PRIMER_LEN : Nat := 0x0012000C
/-- NVM_PRIMER_HASH, one per index (4*8). -/
def NVM_PRIMER_HASH : Nat := 0x00120010
/-- NVM_SET_STATUS. -/
def NVM_SET_STATUS : Nat := 0x00120030
/-- NVM_SET_WCOUNT. -/
def NVM_SET_WCOUNT : Nat := 0x00120034
/-- NVM_POLICY. -/
def NVM_POLICY : Nat := 0x00120038
/-- NVM_ALARM. -/
def NVM_ALARM : Nat := 0x0012003C
/-- NVM_CH_SIZE, one per index (4*2). -/
def NVM_CH_SIZE : Nat := 0x00120040
/-- NVM_CNT_READ_ERR. -/
def NVM_CNT_READ_ERR : Nat := 0x00120050
/-- NVM_CNT_WRITE_ERR. -/
def NVM_CNT_WRITE_ERR : Nat := 0x00120054
/-- NVM_CNT_SET_WRITES. -/
def NVM_CNT_SET_WRITES : Nat := 0x00120058
/-- NVM_CNT_SET_SKIPPED. -/
def NVM_CNT_SET_SKIPPED : Nat := 0x0012005C

end Sys2Proof.Machine.Addr
end

