-- ==== Sys2Proof/Machine/RegTable.lean ====
section
/-!
DEFINITION. The register table: for every register of the nineteen block windows (17_host R446) its
address, its indexes, the selector that shows it (18_boot R533 and the block's own tables), and its
fields that a sender writes or that the primer image gives: their tag (00_scope R13), their range and
their default. W1C bits, RC bits and WO bits are masks (00_scope R9). Everything else a register
shows is computed from the state by the read of Machine/RegRead.lean.
-/

namespace Sys2Proof.Machine

open Sys2Proof

/-- When a write takes effect (00_scope R13); `fixed` is a read-only field the primer image gives. -/
inductive Tag where
  | now
  | commit
  | sframe
  | fixed
  deriving DecidableEq, Repr

/-- A field that holds a written value or a value of the primer image. -/
structure FieldD where
  hi : Nat
  lo : Nat
  tag : Tag
  /-- True where the Reset column reads "From primer image". -/
  primer : Bool
  /-- The default of the table, or the reset value. -/
  dflt : Nat
  /-- The stated range of the raw value, both ends included. -/
  rmin : Nat
  rmax : Nat
  deriving DecidableEq, Repr

/-- One register, or one family of registers with an index. -/
structure RegD where
  base : Nat
  /-- Stride and count of each index, outer first. -/
  dims : List (Nat × Nat)
  /-- The address of the selector register that shows this one, where it is windowed. -/
  sel : Option Nat
  fields : List FieldD
  w1c : Nat
  rc : Nat
  wo : Nat
  deriving DecidableEq, Repr

/-- Registers of TOP (02_journal R62, 17_host R447). -/
def regsTop : List RegD := [
  ⟨Addr.TOP_ID, [], none, [], 0, 0, 0⟩,
  ⟨Addr.TOP_ALARM_SUM, [], none, [], 0, 0, 0⟩,
  ⟨Addr.TOP_GEN_CTRL, [], none, [], 0, 0, 0x3⟩,
  ⟨Addr.TOP_GEN_STATUS, [], none, [], 0, 0, 0⟩,
  ⟨Addr.TOP_GEN_CURRENT, [], none, [], 0, 0, 0⟩,
  ⟨Addr.TOP_DIGEST, [(0x4, 8)], none, [], 0, 0, 0⟩,
  ⟨Addr.TOP_CFG_ALARM, [], none, [], 0x7, 0, 0⟩,
  ⟨Addr.TOP_JRNL_SF_LO, [], none, [], 0, 0, 0⟩,
  ⟨Addr.TOP_JRNL_SF_HI, [], none, [], 0, 0, 0⟩,
  ⟨Addr.TOP_JRNL_SEQ, [], none, [], 0, 0, 0⟩]

/-- Registers of PCR (22_power R520). -/
def regsPcr : List RegD := [
  ⟨Addr.PCR_STATUS, [], none, [], 0, 0, 0⟩,
  ⟨Addr.PCR_RESET_CAUSE, [], none, [], 0, 0, 0⟩,
  ⟨Addr.PCR_DOM_STATUS, [], none, [], 0, 0, 0⟩,
  ⟨Addr.PCR_RAIL_STATUS, [], none, [], 0x7FF0000, 0, 0⟩,
  ⟨Addr.PCR_CTRL, [], none, [], 0, 0, 0x3⟩,
  ⟨Addr.PCR_CTRL_STATUS, [], none, [], 0, 0, 0⟩,
  ⟨Addr.PCR_WAKE_CFG, [], none, [⟨7, 0, .now, true, 10, 1, 255⟩], 0, 0, 0⟩,
  ⟨Addr.PCR_THERM_CFG, [], none, [⟨7, 0, .now, true, 120, 100, 130⟩], 0, 0, 0⟩,
  ⟨Addr.PCR_TEMP, [], none, [], 0, 0x3FF0000, 0⟩,
  ⟨Addr.PCR_ALARM, [], none, [], 0x3, 0, 0⟩,
  ⟨Addr.PCR_CNT_RESET, [(0x4, 10)], none, [], 0, 0, 0⟩]

/-- Registers of SAFE (07_motion_safety R214). -/
def regsSafe0 : List RegD := [
  ⟨Addr.SAFE_CMD, [], none, [], 0, 0, 0xFFFFFF7F⟩,
  ⟨Addr.SAFE_CMD_STATUS, [], none, [], 0, 0, 0⟩,
  ⟨Addr.SAFE_STATUS, [], none, [], 0x40, 0, 0⟩,
  ⟨Addr.SAFE_CAUSE, [], none, [], 0, 0, 0⟩,
  ⟨Addr.SAFE_ESTOP_CFG, [], none,
    [⟨6, 0, .fixed, true, 20, 1, 80⟩,
     ⟨13, 8, .fixed, true, 10, 1, 50⟩],
    0, 0, 0⟩,
  ⟨Addr.SAFE_LEASE, [], none,
    [⟨6, 0, .commit, true, 10, 4, 100⟩,
     ⟨10, 8, .commit, true, 2, 0, 7⟩,
     ⟨21, 16, .commit, true, 5, 1, 60⟩],
    0, 0, 0⟩,
  ⟨Addr.SAFE_EPOCH, [], none, [], 0, 0, 0⟩,
  ⟨Addr.SAFE_PERMIT, [(0x4, 8)], none, [], 0, 0, 0⟩,
  ⟨Addr.SAFE_GROUP, [(0x4, 32)], none,
    [⟨2, 0, .commit, true, 0, 0, 7⟩,
     ⟨6, 4, .commit, true, 0, 0, 7⟩,
     ⟨10, 8, .commit, true, 0, 0, 7⟩,
     ⟨14, 12, .commit, true, 0, 0, 7⟩,
     ⟨18, 16, .commit, true, 0, 0, 7⟩,
     ⟨22, 20, .commit, true, 0, 0, 7⟩,
     ⟨26, 24, .commit, true, 0, 0, 7⟩,
     ⟨30, 28, .commit, true, 0, 0, 7⟩],
    0, 0, 0⟩,
  ⟨Addr.SAFE_PEND_SCOPE, [(0x4, 4)], none,
    [⟨3, 0, .commit, true, 8, 0, 8⟩,
     ⟨7, 4, .commit, true, 8, 0, 8⟩,
     ⟨11, 8, .commit, true, 8, 0, 8⟩,
     ⟨15, 12, .commit, true, 8, 0, 8⟩,
     ⟨19, 16, .commit, true, 8, 0, 8⟩,
     ⟨23, 20, .commit, true, 8, 0, 8⟩,
     ⟨27, 24, .commit, true, 8, 0, 8⟩,
     ⟨31, 28, .commit, true, 8, 0, 8⟩],
    0, 0, 0⟩,
  ⟨Addr.SAFE_MACH_SEL, [], none, [⟨15, 0, .now, false, 1, 1, 256⟩], 0, 0, 0⟩,
  ⟨Addr.SAFE_MACH_STATUS, [], none, [], 0, 0, 0⟩,
  ⟨Addr.SAFE_FAULT, [], none, [], 0x7F, 0, 0⟩,
  ⟨Addr.SAFE_STORE, [], none, [], 0, 0xFFFF, 0⟩,
  ⟨Addr.SAFE_CNT_GLOBAL, [], none, [], 0, 0xFFFFFFFF, 0⟩,
  ⟨Addr.SAFE_CNT_WITHDRAW, [], none, [], 0, 0xFFFFFFFF, 0⟩,
  ⟨Addr.SAFE_CNT_RELEASE, [], none, [], 0, 0xFFFFFFFF, 0⟩,
  ⟨Addr.SAFE_CNT_REFUSED, [], none, [], 0, 0xFFFFFFFF, 0⟩,
  ⟨Addr.SAFE_CNT_LEASE, [], none, [], 0, 0xFFFFFFFF, 0⟩,
  ⟨Addr.SAFE_CNT_DISC, [], none, [], 0, 0xFFFFFFFF, 0⟩]

/-- Registers of SAFE (07_motion_safety R214). -/
def regsSafe1 : List RegD := [
  ⟨Addr.SAFE_LAT, [], none, [], 0, 0xFFFF, 0⟩]

/-- Registers of SCHED (11_scheduler R323). -/
def regsSched0 : List RegD := [
  ⟨Addr.SCHED_CFG, [], none, [⟨9, 0, .now, true, 50, 0, 1000⟩, ⟨11, 10, .now, true, 1, 0, 3⟩], 0, 0, 0⟩,
  ⟨Addr.SCHED_STATUS, [], none, [], 0, 0, 0⟩,
  ⟨Addr.SCHED_DELAY, [], none, [], 0, 0, 0⟩,
  ⟨Addr.SCHED_SHARED, [], none, [], 0, 0, 0⟩,
  ⟨Addr.SCHED_KIND_DEPTH, [(0x4, 9)], none, [], 0, 0x1FFF0000, 0⟩,
  ⟨Addr.SCHED_CNT_LATE, [], none, [], 0, 0xFFFFFFFF, 0⟩,
  ⟨Addr.SCHED_CNT_REFUSED, [], none, [], 0, 0xFFFFFFFF, 0⟩,
  ⟨Addr.SCHED_CNT_STALL, [], none, [], 0, 0xFFFFFFFF, 0⟩,
  ⟨Addr.SCHED_CNT_PREEMPT, [], none, [], 0, 0xFFFFFFFF, 0⟩,
  ⟨Addr.SCHED_CNT_DELAY_FULL, [], none, [], 0, 0xFFFFFFFF, 0⟩,
  ⟨Addr.SCHED_CNT_DROP, [], none, [], 0, 0xFFFFFFFF, 0⟩,
  ⟨Addr.SCHED_LATE_LAST, [], none, [], 0, 0, 0⟩,
  ⟨Addr.SCHED_CLASS_SEL, [], none, [⟨4, 0, .now, false, 0, 0, 31⟩], 0, 0, 0⟩,
  ⟨Addr.SCHED_CLASS_CFG, [], (some Addr.SCHED_CLASS_SEL),
    [⟨12, 0, .commit, true, 0, 0, 4096⟩,
     ⟨19, 13, .now, true, 100, 1, 100⟩,
     ⟨30, 20, .commit, true, 0, 0, 2047⟩],
    0, 0, 0⟩,
  ⟨Addr.SCHED_CLASS_STATUS, [], none, [], 0, 0, 0⟩,
  ⟨Addr.SCHED_CLASS_CNT_JOBS, [], (some Addr.SCHED_CLASS_SEL), [], 0, 0xFFFFFFFF, 0⟩,
  ⟨Addr.SCHED_CLASS_CNT_LATE, [], (some Addr.SCHED_CLASS_SEL), [], 0, 0xFFFFFFFF, 0⟩,
  ⟨Addr.SCHED_CLASS_CNT_REFUSED, [], (some Addr.SCHED_CLASS_SEL), [], 0, 0xFFFFFFFF, 0⟩,
  ⟨Addr.SCHED_ENG_SEL, [], none, [⟨7, 0, .now, false, 0, 0, 255⟩], 0, 0, 0⟩,
  ⟨Addr.SCHED_ENG_STATUS, [], none, [], 0, 0, 0⟩]

/-- Registers of SCHED (11_scheduler R323). -/
def regsSched1 : List RegD := [
  ⟨Addr.SCHED_ENG_DEPTH, [], none, [], 0, 0, 0⟩,
  ⟨Addr.SCHED_ENG_WAIT_MIN, [], none, [], 0, 0, 0⟩,
  ⟨Addr.SCHED_ENG_WAIT_MAX, [], none, [], 0, 0, 0⟩,
  ⟨Addr.SCHED_ENG_WAIT_MEAN, [], none, [], 0, 0, 0⟩,
  ⟨Addr.SCHED_ENG_CTRL, [], none, [], 0, 0, 0x1⟩,
  ⟨Addr.SCHED_JOB_SEL, [], none, [⟨11, 0, .now, false, 0, 0, 4095⟩], 0, 0, 0⟩,
  ⟨Addr.SCHED_JOB_WORD, [(0x4, 10)], none, [], 0, 0, 0⟩]

/-- Registers of MEM (12_memory R346). -/
def regsMem : List RegD := [
  ⟨Addr.MEM_CFG, [], none, [⟨6, 0, .now, true, 16, 0, 127⟩], 0, 0, 0⟩,
  ⟨Addr.MEM_STATUS, [], none, [], 0x6, 0, 0⟩,
  ⟨Addr.MEM_STAGE, [], none, [], 0, 0x7FF0000, 0⟩,
  ⟨Addr.MEM_LAST_ERR, [], none, [], 0, 0, 0⟩,
  ⟨Addr.MEM_CNT_TRANSIENT, [], none, [], 0, 0xFFFFFFFF, 0⟩,
  ⟨Addr.MEM_CNT_CORRECTED, [], none, [], 0, 0xFFFFFFFF, 0⟩,
  ⟨Addr.MEM_CNT_POISON, [], none, [], 0, 0xFFFFFFFF, 0⟩,
  ⟨Addr.MEM_CNT_RETIRED, [], none, [], 0, 0xFFFFFFFF, 0⟩,
  ⟨Addr.MEM_CNT_STATE_LOSS, [], none, [], 0, 0xFFFFFFFF, 0⟩,
  ⟨Addr.MEM_STRIP, [], none, [], 0, 0, 0⟩,
  ⟨Addr.MEM_BANK_SPARE, [(0x4, 32)], none, [], 0, 0, 0⟩,
  ⟨Addr.MEM_BANK_ERR, [(0x4, 32)], none, [], 0, 0xFFFFFFFF, 0⟩]

/-- Registers of HOD (12_memory R347). -/
def regsHod : List RegD := [
  ⟨Addr.HOD_SEL, [], none, [⟨8, 0, .now, false, 0, 0, 511⟩], 0, 0, 0⟩,
  ⟨Addr.HOD_CFG, [], (some Addr.HOD_SEL), [⟨19, 0, .now, true, 1000, 1, 1000000⟩], 0, 0, 0⟩,
  ⟨Addr.HOD_STATUS, [], none, [], 0, 0, 0⟩,
  ⟨Addr.HOD_CAP, [], none, [], 0, 0, 0⟩,
  ⟨Addr.HOD_CTRL, [], none, [], 0, 0, 0x3⟩,
  ⟨Addr.HOD_CNT_PTR_ERR, [], (some Addr.HOD_SEL), [], 0, 0xFFFFFFFF, 0⟩,
  ⟨Addr.HOD_CNT_UNREAD, [], (some Addr.HOD_SEL), [], 0, 0xFFFFFFFF, 0⟩,
  ⟨Addr.HOD_CNT_DROP, [], (some Addr.HOD_SEL), [], 0, 0xFFFFFFFF, 0⟩,
  ⟨Addr.HOD_CNT_FULL_DROP, [], (some Addr.HOD_SEL), [], 0, 0xFFFFFFFF, 0⟩,
  ⟨Addr.HOD_ALARM, [], none, [], 0x3, 0, 0⟩]

/-- Registers of FIX (03_fix_inputs R88, 04_fix_solution R121, R122). -/
def regsFix0 : List RegD := [
  ⟨Addr.FIX_REF_CFG, [(0x4, 2)], none,
    [⟨1, 0, .commit, true, 0, 0, 2⟩,
     ⟨5, 2, .now, true, 5, 1, 8⟩,
     ⟨6, 6, .commit, true, 0, 0, 1⟩,
     ⟨7, 7, .commit, true, 0, 0, 1⟩,
     ⟨19, 8, .commit, true, 0, 0, 4095⟩],
    0, 0, 0⟩,
  ⟨Addr.FIX_REF_POLICY, [], none,
    [⟨9, 0, .commit, true, 20, 1, 1000⟩,
     ⟨16, 10, .commit, true, 10, 1, 100⟩,
     ⟨24, 17, .commit, true, 10, 1, 255⟩,
     ⟨25, 25, .commit, true, 0, 0, 1⟩],
    0, 0, 0⟩,
  ⟨Addr.FIX_REF_CTRL, [], none, [], 0, 0, 0x7⟩,
  ⟨Addr.FIX_REF_STATUS, [(0x4, 2)], none, [], 0x20, 0, 0⟩,
  ⟨Addr.FIX_REF_CNT_MSG, [(0x4, 2)], none, [], 0, 0xFFFFFFFF, 0⟩,
  ⟨Addr.FIX_REF_CNT_BAD, [(0x4, 2)], none, [], 0, 0xFFFFFFFF, 0⟩,
  ⟨Addr.FIX_REF_SWITCHES, [], none, [], 0, 0xFFFF, 0⟩,
  ⟨Addr.FIX_REF_SURVEY, [(0x18, 2), (0x4, 6)], none, [⟨31, 0, .fixed, true, 0, 0, 4294967295⟩], 0, 0, 0⟩,
  ⟨Addr.FIX_OBS_CFG, [], none,
    [⟨5, 0, .commit, true, 10, 0, 45⟩,
     ⟨11, 6, .commit, true, 30, 0, 50⟩,
     ⟨18, 12, .commit, true, 10, 2, 100⟩,
     ⟨22, 19, .commit, true, 15, 1, 15⟩],
    0, 0, 0⟩,
  ⟨Addr.FIX_OBS_CNT_ACCEPT, [], none, [], 0, 0xFFFFFFFF, 0⟩,
  ⟨Addr.FIX_OBS_CNT_STALE, [], none, [], 0, 0xFFFFFFFF, 0⟩,
  ⟨Addr.FIX_OBS_CNT_ORDER, [], none, [], 0, 0xFFFFFFFF, 0⟩,
  ⟨Addr.FIX_OBS_CNT_FORM, [], none, [], 0, 0xFFFFFFFF, 0⟩,
  ⟨Addr.FIX_OBS_CNT_SATDROP, [], none, [], 0, 0xFFFFFFFF, 0⟩,
  ⟨Addr.FIX_EPH_STATUS, [], none, [], 0, 0, 0⟩,
  ⟨Addr.FIX_EPH_CNT_REJECT, [], none, [], 0, 0xFFFFFFFF, 0⟩,
  ⟨Addr.FIX_EPH_CNT_PEND, [], none, [], 0, 0, 0⟩,
  ⟨Addr.FIX_SITE_ORIGIN, [(0x4, 6)], none, [⟨31, 0, .fixed, true, 0, 0, 4294967295⟩], 0, 0, 0⟩,
  ⟨Addr.FIX_SITE_ROT, [], none, [⟨31, 0, .fixed, true, 0, 0, 4294967295⟩], 0, 0, 0⟩,
  ⟨Addr.FIX_GRID_CORNER_X, [], none, [⟨31, 0, .fixed, true, 0, 0, 4294967295⟩], 0, 0, 0⟩]

/-- Registers of FIX (03_fix_inputs R88, 04_fix_solution R121, R122). -/
def regsFix1 : List RegD := [
  ⟨Addr.FIX_GRID_CORNER_Y, [], none, [⟨31, 0, .fixed, true, 0, 0, 4294967295⟩], 0, 0, 0⟩,
  ⟨Addr.FIX_CORR_CFG, [], none,
    [⟨0, 0, .sframe, true, 0, 0, 1⟩,
     ⟨5, 1, .sframe, true, 20, 1, 20⟩,
     ⟨11, 6, .sframe, true, 10, 1, 60⟩,
     ⟨15, 12, .sframe, true, 15, 1, 15⟩],
    0, 0, 0⟩,
  ⟨Addr.FIX_CORR_CNT_SENT, [], none, [], 0, 0xFFFFFFFF, 0⟩,
  ⟨Addr.FIX_CORR_CNT_SKIP, [], none, [], 0, 0xFFFFFFFF, 0⟩,
  ⟨Addr.FIX_SOL_NOISE0, [], none,
    [⟨7, 0, .commit, true, 30, 1, 255⟩,
     ⟨15, 8, .commit, true, 30, 1, 255⟩,
     ⟨23, 16, .commit, true, 100, 1, 255⟩,
     ⟨31, 24, .commit, true, 30, 1, 255⟩],
    0, 0, 0⟩,
  ⟨Addr.FIX_SOL_NOISE1, [], none,
    [⟨7, 0, .commit, true, 100, 1, 255⟩,
     ⟨15, 8, .commit, true, 10, 1, 255⟩,
     ⟨23, 16, .commit, true, 4, 1, 255⟩,
     ⟨31, 24, .commit, true, 10, 1, 255⟩],
    0, 0, 0⟩,
  ⟨Addr.FIX_SOL_MODE, [], none,
    [⟨0, 0, .commit, true, 1, 0, 1⟩,
     ⟨1, 1, .commit, true, 0, 0, 1⟩,
     ⟨2, 2, .commit, true, 1, 0, 1⟩,
     ⟨3, 3, .commit, true, 1, 0, 1⟩,
     ⟨7, 4, .commit, true, 5, 1, 15⟩,
     ⟨14, 8, .commit, true, 20, 1, 100⟩],
    0, 0, 0⟩,
  ⟨Addr.FIX_SOL_TEST0, [], none,
    [⟨7, 0, .commit, true, 50, 10, 255⟩,
     ⟨15, 8, .commit, true, 40, 10, 255⟩,
     ⟨23, 16, .commit, true, 40, 10, 255⟩,
     ⟨26, 24, .commit, true, 3, 0, 7⟩],
    0, 0, 0⟩,
  ⟨Addr.FIX_SOL_TEST1, [], none,
    [⟨7, 0, .commit, true, 30, 10, 255⟩,
     ⟨14, 8, .commit, true, 8, 4, 120⟩,
     ⟨18, 15, .commit, true, 6, 0, 15⟩,
     ⟨24, 19, .commit, true, 5, 1, 63⟩],
    0, 0, 0⟩,
  ⟨Addr.FIX_SOL_TEST2, [], none,
    [⟨7, 0, .commit, true, 20, 1, 255⟩,
     ⟨17, 8, .commit, true, 100, 1, 1000⟩],
    0, 0, 0⟩,
  ⟨Addr.FIX_PL_CFG0, [], none,
    [⟨10, 0, .commit, true, 600, 100, 2000⟩,
     ⟨26, 16, .commit, true, 560, 100, 2000⟩],
    0, 0, 0⟩,
  ⟨Addr.FIX_PL_CFG1, [], none,
    [⟨7, 0, .commit, true, 10, 0, 255⟩,
     ⟨15, 8, .commit, true, 20, 0, 255⟩],
    0, 0, 0⟩,
  ⟨Addr.FIX_GATE_PROF_A, [(0x8, 4)], none,
    [⟨2, 0, .commit, true, 3, 2, 4⟩,
     ⟨13, 8, .commit, true, 5, 1, 50⟩],
    0, 0, 0⟩,
  ⟨Addr.FIX_GATE_PROF_B, [(0x8, 4)], none,
    [⟨15, 0, .commit, true, 100, 1, 65535⟩,
     ⟨31, 16, .commit, true, 200, 1, 65535⟩],
    0, 0, 0⟩,
  ⟨Addr.FIX_GATE_SEL, [(0x4, 16)], none, [⟨31, 0, .commit, true, 0, 0, 4294967295⟩], 0, 0, 0⟩,
  ⟨Addr.FIX_ENG_CTRL, [], none, [⟨11, 0, .now, true, 4095, 0, 4095⟩], 0, 0, 0⟩,
  ⟨Addr.FIX_ENG_STATUS, [(0x4, 12)], none, [], 0, 0, 0⟩,
  ⟨Addr.FIX_SOL_CNT, [(0x4, 5)], none, [], 0, 0xFFFFFFFF, 0⟩,
  ⟨Addr.FIX_SOL_CNT_EXCL, [], none, [], 0, 0xFFFFFFFF, 0⟩,
  ⟨Addr.FIX_SOL_CNT_RESTART, [], none, [], 0, 0xFFFFFFFF, 0⟩]

/-- Registers of FIX (03_fix_inputs R88, 04_fix_solution R121, R122). -/
def regsFix2 : List RegD := [
  ⟨Addr.FIX_SOL_CNT_LATE, [], none, [], 0, 0xFFFFFFFF, 0⟩,
  ⟨Addr.FIX_SOL_CNT_PARTIAL, [], none, [], 0, 0xFFFFFFFF, 0⟩,
  ⟨Addr.FIX_SOL_LAT, [], none, [], 0, 0xFFFF, 0⟩,
  ⟨Addr.FIX_LINK_STATUS, [], none, [], 0, 0, 0⟩,
  ⟨Addr.FIX_ROVER_SEL, [], none, [⟨15, 0, .now, false, 1, 1, 256⟩], 0, 0, 0⟩,
  ⟨Addr.FIX_ROVER_STATUS, [], none, [], 0, 0, 0⟩,
  ⟨Addr.FIX_ROVER_CTRL, [], none, [], 0, 0, 0x1⟩,
  ⟨Addr.FIX_ROVER_PL, [], none, [], 0, 0, 0⟩]

/-- Registers of SCR (05_track R158, R159, 06_zones R184). -/
def regsScr0 : List RegD := [
  ⟨Addr.SCR_CFG, [], none,
    [⟨1, 0, .commit, true, 2, 0, 3⟩,
     ⟨8, 2, .commit, true, 25, 5, 100⟩,
     ⟨17, 9, .commit, true, 240, 1, 256⟩,
     ⟨20, 18, .commit, true, 1, 0, 7⟩],
    0, 0, 0⟩,
  ⟨Addr.SCR_CLASS_A, [(0x8, 16)], none,
    [⟨15, 0, .commit, true, 1000, 1, 65535⟩,
     ⟨31, 16, .commit, true, 1000, 1, 65535⟩],
    0, 0, 0⟩,
  ⟨Addr.SCR_CLASS_B, [(0x8, 16)], none,
    [⟨15, 0, .commit, true, 0, 0, 65535⟩,
     ⟨23, 16, .commit, true, 0, 0, 255⟩],
    0, 0, 0⟩,
  ⟨Addr.SCR_CLASS_C, [(0x4, 16)], none,
    [⟨15, 0, .commit, true, 500, 1, 65535⟩,
     ⟨31, 16, .commit, true, 0, 0, 65535⟩],
    0, 0, 0⟩,
  ⟨Addr.SCR_MACH_CLASS, [(0x4, 32)], none, [⟨31, 0, .commit, true, 0, 0, 4294967295⟩], 0, 0, 0⟩,
  ⟨Addr.SCR_SLOT_LO, [], none, [], 0, 0, 0⟩,
  ⟨Addr.SCR_SLOT_HI, [], none, [], 0, 0, 0⟩,
  ⟨Addr.SCR_USE, [], none, [], 0, 0, 0⟩,
  ⟨Addr.SCR_DESC, [], none, [], 0, 0, 0⟩,
  ⟨Addr.SCR_CNT_INSERT, [], none, [], 0, 0xFFFFFFFF, 0⟩,
  ⟨Addr.SCR_CNT_CONFLICT, [], none, [], 0, 0xFFFFFFFF, 0⟩,
  ⟨Addr.SCR_CNT_SLIDE, [], none, [], 0, 0xFFFFFFFF, 0⟩,
  ⟨Addr.SCR_CNT_FULL, [], none, [], 0, 0xFFFFFFFF, 0⟩,
  ⟨Addr.SCR_CNT_CANCEL, [], none, [], 0, 0xFFFFFFFF, 0⟩,
  ⟨Addr.SCR_CNT_CONF_FAIL, [], none, [], 0, 0xFFFFFFFF, 0⟩,
  ⟨Addr.SCR_CNT_WARN, [], none, [], 0, 0xFFFFFFFF, 0⟩,
  ⟨Addr.SCR_CNT_RELOC, [], none, [], 0, 0xFFFFFFFF, 0⟩,
  ⟨Addr.SCR_ENG_STATUS, [(0x4, 2)], none, [], 0, 0, 0⟩,
  ⟨Addr.SCR_INS_LAT, [], none, [], 0, 0xFFFF, 0⟩,
  ⟨Addr.SCR_MACH_SEL, [], none, [⟨15, 0, .now, false, 1, 1, 256⟩], 0, 0, 0⟩]

/-- Registers of SCR (05_track R158, R159, 06_zones R184). -/
def regsScr1 : List RegD := [
  ⟨Addr.SCR_MACH_STATUS, [], none, [], 0, 0, 0⟩,
  ⟨Addr.SCR_MACH_CTRL, [], none, [], 0, 0, 0x1⟩,
  ⟨Addr.SCR_MACH_ENTRIES, [], none, [], 0, 0, 0⟩,
  ⟨Addr.SCR_ALLOT_CFG, [], none,
    [⟨0, 0, .commit, true, 0, 0, 1⟩,
     ⟨10, 1, .commit, true, 100, 25, 1000⟩,
     ⟨26, 11, .commit, true, 4096, 1, 65535⟩],
    0, 0, 0⟩,
  ⟨Addr.SCR_ALLOT_COST, [], none,
    [⟨15, 0, .commit, true, 1000, 0, 65535⟩,
     ⟨31, 16, .commit, true, 100, 1, 65535⟩],
    0, 0, 0⟩,
  ⟨Addr.SCR_ALLOT_CONN, [], none, [⟨13, 0, .commit, true, 2000, 1, 10000⟩], 0, 0, 0⟩,
  ⟨Addr.SCR_ALLOT_VBASE, [], none, [⟨23, 0, .commit, true, 20000, 1, 16777215⟩], 0, 0, 0⟩,
  ⟨Addr.SCR_ALLOT_SEL, [], none, [⟨15, 0, .now, false, 1, 1, 256⟩], 0, 0, 0⟩,
  ⟨Addr.SCR_ALLOT_MACH, [], (some Addr.SCR_ALLOT_SEL),
    [⟨30, 0, .commit, true, 0, 0, 2147483647⟩,
     ⟨31, 31, .commit, true, 0, 0, 1⟩],
    0, 0, 0⟩,
  ⟨Addr.SCR_ALLOT_STATUS, [], none, [], 0, 0, 0⟩,
  ⟨Addr.SCR_ALLOT_LAST, [], none, [], 0, 0, 0⟩,
  ⟨Addr.SCR_CNT_ROUND, [], none, [], 0, 0xFFFFFFFF, 0⟩,
  ⟨Addr.SCR_CNT_AWARD, [], none, [], 0, 0xFFFFFFFF, 0⟩,
  ⟨Addr.SCR_CNT_AWARD_FAIL, [], none, [], 0, 0xFFFFFFFF, 0⟩,
  ⟨Addr.SCR_CNT_FLAG, [], none, [], 0, 0xFFFFFFFF, 0⟩,
  ⟨Addr.SCR_CNT_EXPIRE, [], none, [], 0, 0xFFFFFFFF, 0⟩,
  ⟨Addr.SCR_CNT_ZONE_ALARM, [], none, [], 0, 0xFFFFFFFF, 0⟩,
  ⟨Addr.SCR_ZONE_IDX, [], none, [⟨15, 0, .now, false, 0, 0, 65535⟩], 0, 0, 0⟩,
  ⟨Addr.SCR_ZONE_PREFIX, [], none, [⟨31, 0, .now, false, 0, 0, 4294967295⟩], 0, 0, 0⟩,
  ⟨Addr.SCR_ZONE_ATTR, [], none,
    [⟨5, 0, .now, false, 0, 0, 63⟩,
     ⟨9, 6, .now, false, 0, 0, 15⟩,
     ⟨25, 10, .now, false, 0, 0, 65535⟩],
    0, 0, 0⟩]

/-- Registers of SCR (05_track R158, R159, 06_zones R184). -/
def regsScr2 : List RegD := [
  ⟨Addr.SCR_ZONE_CAP, [], none, [⟨13, 0, .now, false, 0, 0, 16383⟩], 0, 0, 0⟩,
  ⟨Addr.SCR_ZONE_CTRL, [], none, [], 0, 0, 0x7⟩,
  ⟨Addr.SCR_ZONE_STATUS, [], none, [], 0, 0, 0⟩]

/-- Registers of LOOP (08_control_loops R240). -/
def regsLoop0 : List RegD := [
  ⟨Addr.LOOP_SEL, [], none, [⟨8, 0, .now, false, 0, 0, 511⟩], 0, 0, 0⟩,
  ⟨Addr.LOOP_CFG0, [], (some Addr.LOOP_SEL),
    [⟨1, 0, .commit, true, 0, 0, 2⟩,
     ⟨3, 2, .commit, true, 0, 0, 2⟩,
     ⟨4, 4, .commit, true, 1, 0, 1⟩,
     ⟨9, 5, .commit, true, 1, 1, 16⟩,
     ⟨12, 10, .commit, true, 0, 0, 4⟩,
     ⟨15, 13, .commit, true, 1, 0, 7⟩,
     ⟨31, 16, .commit, true, 65534, 0, 65535⟩],
    0, 0, 0⟩,
  ⟨Addr.LOOP_CFG1, [], (some Addr.LOOP_SEL),
    [⟨15, 0, .commit, true, 65534, 0, 65535⟩,
     ⟨21, 16, .commit, true, 5, 2, 50⟩,
     ⟨30, 24, .commit, true, 25, 1, 100⟩],
    0, 0, 0⟩,
  ⟨Addr.LOOP_CFG2, [], (some Addr.LOOP_SEL),
    [⟨15, 0, .commit, true, 0, 0, 65535⟩,
     ⟨31, 16, .commit, true, 0, 0, 65535⟩],
    0, 0, 0⟩,
  ⟨Addr.LOOP_CFG3, [], (some Addr.LOOP_SEL),
    [⟨15, 0, .commit, true, 150, 1, 65535⟩,
     ⟨31, 16, .commit, true, 2000, 1, 65535⟩],
    0, 0, 0⟩,
  ⟨Addr.LOOP_CFG4, [], (some Addr.LOOP_SEL),
    [⟨13, 0, .commit, true, 1000, 1, 10000⟩,
     ⟨18, 16, .commit, true, 3, 2, 4⟩,
     ⟨26, 20, .commit, true, 10, 1, 100⟩],
    0, 0, 0⟩,
  ⟨Addr.LOOP_HYST, [], (some Addr.LOOP_SEL), [⟨31, 0, .commit, true, 0, 0, 4294967295⟩], 0, 0, 0⟩,
  ⟨Addr.LOOP_SETPOINT, [], (some Addr.LOOP_SEL), [⟨31, 0, .now, true, 0, 0, 4294967295⟩], 0, 0, 0⟩,
  ⟨Addr.LOOP_SCHED_VAL, [], (some Addr.LOOP_SEL), [⟨31, 0, .now, true, 0, 0, 4294967295⟩], 0, 0, 0⟩,
  ⟨Addr.LOOP_REGION, [], (some Addr.LOOP_SEL),
    [⟨2, 0, .now, false, 0, 0, 7⟩,
     ⟨3, 3, .now, false, 0, 0, 1⟩],
    0, 0, 0⟩,
  ⟨Addr.LOOP_CTRL, [], none, [], 0, 0, 0x3⟩,
  ⟨Addr.LOOP_STATUS, [], none, [], 0, 0, 0⟩,
  ⟨Addr.LOOP_OUT_INNER, [], none, [], 0, 0, 0⟩,
  ⟨Addr.LOOP_OUT_OUTER, [], none, [], 0, 0, 0⟩,
  ⟨Addr.LOOP_I_INNER, [], none, [], 0, 0, 0⟩,
  ⟨Addr.LOOP_I_OUTER, [], none, [], 0, 0, 0⟩,
  ⟨Addr.LOOP_LAST_EPOCH_LO, [], none, [], 0, 0, 0⟩,
  ⟨Addr.LOOP_LAST_EPOCH_HI, [], none, [], 0, 0, 0⟩,
  ⟨Addr.LOOP_ENG_STATUS, [(0x4, 4)], none, [], 0, 0, 0⟩,
  ⟨Addr.LOOP_CNT_EVAL, [], none, [], 0, 0xFFFFFFFF, 0⟩]

/-- Registers of LOOP (08_control_loops R240). -/
def regsLoop1 : List RegD := [
  ⟨Addr.LOOP_CNT_IMPLAUS, [], none, [], 0, 0xFFFFFFFF, 0⟩,
  ⟨Addr.LOOP_CNT_MISS, [], none, [], 0, 0xFFFFFFFF, 0⟩,
  ⟨Addr.LOOP_CNT_STALE_LEAD, [], none, [], 0, 0xFFFFFFFF, 0⟩,
  ⟨Addr.LOOP_CNT_SWITCH, [], none, [], 0, 0xFFFFFFFF, 0⟩,
  ⟨Addr.LOOP_CNT_HOLD, [], none, [], 0, 0xFFFFFFFF, 0⟩,
  ⟨Addr.LOOP_CNT_WITHDRAW, [], none, [], 0, 0xFFFFFFFF, 0⟩,
  ⟨Addr.LOOP_LAT, [], none, [], 0, 0xFFFF, 0⟩,
  ⟨Addr.LOOP_USE, [], none, [], 0, 0, 0⟩,
  ⟨Addr.LOOP_COEF, [(0x200, 2), (0x40, 8), (0x4, 10)], (some Addr.LOOP_SEL),
    [⟨31, 0, .now, true, 0, 0, 4294967295⟩],
    0, 0, 0⟩,
  ⟨Addr.LOOP_COEF_RES, [(0x200, 2), (0x40, 8), (0x4, 6)], none, [], 0, 0, 0⟩]

/-- Registers of MAC (09_radio_ports R267, 10_radio_frames R302). -/
def regsMac0 : List RegD := [
  ⟨Addr.MAC_CFG, [], none, [⟨7, 0, .commit, true, 50, 2, 250⟩, ⟨13, 8, .now, true, 1, 1, 60⟩], 0, 0, 0⟩,
  ⟨Addr.MAC_STATUS, [], none, [], 0, 0, 0⟩,
  ⟨Addr.MAC_P_CFG, [(0x100, 4)], none,
    [⟨0, 0, .commit, true, 0, 0, 1⟩,
     ⟨1, 1, .fixed, true, 0, 0, 1⟩,
     ⟨3, 2, .commit, true, 0, 0, 2⟩,
     ⟨5, 4, .commit, true, 1, 0, 2⟩,
     ⟨7, 6, .commit, true, 2, 0, 3⟩,
     ⟨15, 8, .commit, true, 0, 0, 255⟩,
     ⟨28, 16, .fixed, true, 0, 0, 8191⟩],
    0, 0, 0⟩,
  ⟨Addr.MAC_P_STATUS, [(0x100, 4)], none, [], 0, 0, 0⟩,
  ⟨Addr.MAC_P_SWITCH_LO, [(0x100, 4)], none, [], 0, 0, 0⟩,
  ⟨Addr.MAC_P_SWITCH_HI, [(0x100, 4)], none, [], 0, 0, 0⟩,
  ⟨Addr.MAC_P_CTRL, [(0x100, 4)], none, [], 0, 0, 0x1⟩,
  ⟨Addr.MAC_P_HEAD_ID, [(0x100, 4), (0x4, 8)], none, [], 0, 0, 0⟩,
  ⟨Addr.MAC_P_CNT, [(0x100, 4), (0x4, 9)], none, [], 0, 0xFFFFFFFF, 0⟩,
  ⟨Addr.MAC_MEMB_CFG0, [], none,
    [⟨0, 0, .commit, true, 1, 0, 1⟩,
     ⟨1, 1, .commit, true, 1, 0, 1⟩,
     ⟨2, 2, .commit, true, 0, 0, 1⟩,
     ⟨11, 4, .commit, true, 20, 10, 255⟩,
     ⟨23, 12, .commit, true, 300, 1, 4095⟩,
     ⟨27, 24, .commit, true, 8, 1, 15⟩],
    0, 0, 0⟩,
  ⟨Addr.MAC_MEMB_CFG1, [], none,
    [⟨7, 0, .commit, true, 50, 10, 255⟩,
     ⟨13, 8, .commit, true, 2, 1, 50⟩],
    0, 0, 0⟩,
  ⟨Addr.MAC_MEMB_STATUS, [], none, [], 0, 0, 0⟩,
  ⟨Addr.MAC_NODE_SEL, [], none, [⟨15, 0, .now, false, 1, 1, 287⟩], 0, 0, 0⟩,
  ⟨Addr.MAC_NODE_STATUS, [], none, [], 0, 0, 0⟩,
  ⟨Addr.MAC_NODE_EUI_LO, [], none, [], 0, 0, 0⟩,
  ⟨Addr.MAC_NODE_EUI_HI, [], none, [], 0, 0, 0⟩,
  ⟨Addr.MAC_NODE_WAKE, [], none, [], 0, 0, 0⟩,
  ⟨Addr.MAC_NODE_SEQ, [], none, [], 0, 0, 0⟩,
  ⟨Addr.MAC_NODE_WIN, [], none, [], 0, 0, 0⟩,
  ⟨Addr.MAC_NODE_CTRL, [], none, [], 0, 0, 0x3⟩]

/-- Registers of MAC (09_radio_ports R267, 10_radio_frames R302). -/
def regsMac1 : List RegD := [
  ⟨Addr.MAC_NODE_RELAY, [], (some Addr.MAC_NODE_SEL), [⟨15, 0, .commit, true, 65534, 0, 65535⟩], 0, 0, 0⟩,
  ⟨Addr.MAC_CNT, [(0x4, 13)], none, [], 0, 0xFFFFFFFF, 0⟩,
  ⟨Addr.MAC_P_SLOT, [(0x800, 4), (0x4, 400)], none,
    [⟨3, 0, .commit, true, 0, 0, 15⟩,
     ⟨5, 4, .commit, true, 0, 0, 3⟩,
     ⟨31, 16, .commit, true, 65535, 0, 65535⟩],
    0, 0, 0⟩]

/-- Registers of LKP (13_tables R366). -/
def regsLkp : List RegD := [
  ⟨Addr.LKP_CFG, [], none,
    [⟨11, 0, .now, true, 300, 1, 3600⟩,
     ⟨12, 12, .now, true, 1, 0, 1⟩,
     ⟨13, 13, .commit, true, 0, 0, 1⟩],
    0, 0, 0⟩,
  ⟨Addr.LKP_PORT_CFG, [(0x4, 2)], none,
    [⟨11, 0, .commit, true, 1, 1, 4094⟩,
     ⟨12, 12, .commit, true, 0, 0, 1⟩],
    0, 0, 0⟩,
  ⟨Addr.LKP_VLAN, [(0x4, 16)], none,
    [⟨11, 0, .commit, true, 0, 1, 4094⟩,
     ⟨12, 12, .commit, true, 0, 0, 1⟩,
     ⟨15, 13, .commit, true, 0, 0, 7⟩,
     ⟨18, 16, .commit, true, 0, 0, 7⟩],
    0, 0, 0⟩,
  ⟨Addr.LKP_PIPE_STATUS, [(0x4, 2)], none, [], 0, 0, 0⟩,
  ⟨Addr.LKP_PIPE_EM, [(0x4, 2)], none, [], 0, 0, 0⟩,
  ⟨Addr.LKP_STATIC, [], none, [], 0, 0, 0⟩,
  ⟨Addr.LKP_RULES, [], none, [], 0, 0, 0⟩,
  ⟨Addr.LKP_CNT, [(0x4, 10)], none, [], 0, 0xFFFFFFFF, 0⟩,
  ⟨Addr.LKP_CMD, [], none, [], 0, 0, 0x3FF⟩,
  ⟨Addr.LKP_CMD_STATUS, [], none, [], 0, 0, 0⟩,
  ⟨Addr.LKP_KEY0, [], none, [⟨11, 0, .now, false, 0, 0, 4095⟩, ⟨31, 16, .now, false, 0, 0, 65535⟩], 0, 0, 0⟩,
  ⟨Addr.LKP_KEY1, [], none, [⟨31, 0, .now, false, 0, 0, 4294967295⟩], 0, 0, 0⟩,
  ⟨Addr.LKP_KEY2, [], none, [⟨15, 0, .now, false, 0, 0, 65535⟩], 0, 0, 0⟩,
  ⟨Addr.LKP_RES, [(0x4, 4)], none, [], 0, 0, 0⟩,
  ⟨Addr.LKP_CURSOR, [], none, [⟨15, 0, .now, false, 0, 0, 65535⟩, ⟨17, 16, .now, false, 0, 0, 3⟩], 0, 0, 0⟩,
  ⟨Addr.LKP_RULE_IDX, [], none, [⟨15, 0, .now, false, 0, 0, 65535⟩], 0, 0, 0⟩,
  ⟨Addr.LKP_RULE_PFX, [(0x4, 4)], none, [⟨31, 0, .now, false, 0, 0, 4294967295⟩], 0, 0, 0⟩,
  ⟨Addr.LKP_RULE_ATTR, [], none,
    [⟨7, 0, .now, false, 0, 0, 128⟩,
     ⟨9, 8, .now, false, 0, 0, 3⟩,
     ⟨11, 10, .now, false, 0, 0, 3⟩],
    0, 0, 0⟩,
  ⟨Addr.LKP_RULE_CTRL, [], none, [], 0, 0, 0x7⟩,
  ⟨Addr.LKP_RULE_STATUS, [], none, [], 0, 0, 0⟩]

/-- Registers of NET (17_host R448). -/
def regsNet : List RegD := [
  ⟨Addr.NET_PORT_CFG, [(0x4, 2)], none,
    [⟨1, 0, .fixed, true, 0, 0, 3⟩,
     ⟨2, 2, .fixed, true, 0, 0, 1⟩],
    0, 0, 0⟩,
  ⟨Addr.NET_PORT_STATUS, [(0x4, 2)], none, [], 0x10, 0, 0⟩,
  ⟨Addr.NET_MAC_LO, [], none, [⟨31, 0, .fixed, true, 0, 0, 4294967295⟩], 0, 0, 0⟩,
  ⟨Addr.NET_MAC_HI, [], none, [⟨15, 0, .fixed, true, 0, 0, 65535⟩], 0, 0, 0⟩,
  ⟨Addr.NET_IP4, [], none, [⟨31, 0, .fixed, true, 0, 0, 4294967295⟩], 0, 0, 0⟩,
  ⟨Addr.NET_IP6, [(0x4, 4)], none, [⟨31, 0, .fixed, true, 0, 0, 4294967295⟩], 0, 0, 0⟩,
  ⟨Addr.NET_GMP_CFG, [], none, [⟨9, 0, .now, true, 60, 5, 600⟩], 0, 0, 0⟩,
  ⟨Addr.NET_IDENT_SEL, [], none, [⟨2, 0, .now, false, 0, 0, 7⟩], 0, 0, 0⟩,
  ⟨Addr.NET_IDENT_ID, [(0x4, 4)], (some Addr.NET_IDENT_SEL),
    [⟨31, 0, .commit, true, 0, 0, 4294967295⟩],
    0, 0, 0⟩,
  ⟨Addr.NET_IDENT_RIGHTS, [], (some Addr.NET_IDENT_SEL),
    [⟨8, 0, .commit, true, 0, 0, 511⟩,
     ⟨31, 31, .commit, true, 0, 0, 1⟩],
    0, 0, 0⟩,
  ⟨Addr.NET_SESS_STATUS, [(0x4, 4)], none, [], 0, 0, 0⟩,
  ⟨Addr.NET_CNT, [(0x4, 9)], none, [], 0, 0xFFFFFFFF, 0⟩]

/-- Registers of TIME (14_station_time R385). -/
def regsTime0 : List RegD := [
  ⟨Addr.TIME_CFG, [], none,
    [⟨1, 0, .now, true, 0, 0, 3⟩,
     ⟨9, 2, .now, true, 50, 1, 200⟩,
     ⟨21, 10, .now, true, 300, 1, 4095⟩],
    0, 0, 0⟩,
  ⟨Addr.TIME_JUMP, [], none, [⟨19, 0, .now, true, 1000, 1, 1000000⟩], 0, 0, 0⟩,
  ⟨Addr.TIME_PPS_DELAY, [(0x4, 2)], none, [⟨15, 0, .fixed, true, 0, 0, 65535⟩], 0, 0, 0⟩,
  ⟨Addr.TIME_PTP_CFG, [], none,
    [⟨1, 0, .now, true, 0, 0, 3⟩,
     ⟨3, 2, .now, true, 3, 0, 3⟩,
     ⟨11, 4, .now, true, 0, 0, 127⟩,
     ⟨19, 12, .now, true, 128, 0, 255⟩,
     ⟨27, 20, .now, true, 128, 0, 255⟩],
    0, 0, 0⟩,
  ⟨Addr.TIME_PTP_INTV, [], none,
    [⟨3, 0, .now, true, 0, 0, 15⟩,
     ⟨7, 4, .now, true, 1, 0, 4⟩,
     ⟨11, 8, .now, true, 3, 2, 10⟩,
     ⟨15, 12, .now, true, 0, 0, 5⟩],
    0, 0, 0⟩,
  ⟨Addr.TIME_UTC, [], none,
    [⟨5, 0, .commit, true, 18, 0, 63⟩,
     ⟨7, 6, .now, true, 0, 0, 2⟩,
     ⟨31, 16, .fixed, true, 0, 0, 65535⟩],
    0, 0, 0⟩,
  ⟨Addr.TIME_STATUS, [], none, [], 0, 0, 0⟩,
  ⟨Addr.TIME_SRC_STATUS, [(0x8, 3)], none, [], 0, 0, 0⟩,
  ⟨Addr.TIME_SRC_OFFSET, [(0x8, 3)], none, [], 0, 0, 0⟩,
  ⟨Addr.TIME_FREQ, [], none, [], 0, 0, 0⟩,
  ⟨Addr.TIME_NOW_S_LO, [], none, [], 0, 0, 0⟩,
  ⟨Addr.TIME_NOW_S_HI, [], none, [], 0, 0, 0⟩,
  ⟨Addr.TIME_NOW_NS, [], none, [], 0, 0, 0⟩,
  ⟨Addr.TIME_NOW_FRAC, [], none, [], 0, 0, 0⟩,
  ⟨Addr.TIME_SET_S_LO, [], none, [⟨31, 0, .now, false, 0, 0, 4294967295⟩], 0, 0, 0⟩,
  ⟨Addr.TIME_SET_S_HI, [], none, [⟨31, 0, .now, false, 0, 0, 4294967295⟩], 0, 0, 0⟩,
  ⟨Addr.TIME_SET_NS, [], none, [⟨31, 0, .now, false, 0, 0, 4294967295⟩], 0, 0, 0⟩,
  ⟨Addr.TIME_CTRL, [], none, [], 0, 0, 0x3⟩,
  ⟨Addr.TIME_SET_STATUS, [], none, [], 0, 0, 0⟩,
  ⟨Addr.TIME_ALARM, [], none, [], 0x1F, 0, 0⟩]

/-- Registers of TIME (14_station_time R385). -/
def regsTime1 : List RegD := [
  ⟨Addr.TIME_CNT_REFUSED, [], none, [], 0, 0xFFFFFFFF, 0⟩,
  ⟨Addr.TIME_CNT_SRC_CHANGE, [], none, [], 0, 0xFFFFFFFF, 0⟩,
  ⟨Addr.TIME_CNT_FORCED, [], none, [], 0, 0xFFFFFFFF, 0⟩,
  ⟨Addr.TIME_CNT_HOLD_DROP, [], none, [], 0, 0xFFFFFFFF, 0⟩,
  ⟨Addr.TIME_CNT_PTP_DROP, [], none, [], 0, 0xFFFFFFFF, 0⟩,
  ⟨Addr.TIME_CNT_TRIG_MISSED, [], none, [], 0, 0xFFFFFFFF, 0⟩,
  ⟨Addr.TIME_TRIG_CFG, [(0x20, 8)], none,
    [⟨1, 0, .now, false, 0, 0, 2⟩,
     ⟨2, 2, .now, false, 0, 0, 1⟩],
    0, 0, 0⟩,
  ⟨Addr.TIME_TRIG_START_S_LO, [(0x20, 8)], none, [⟨31, 0, .now, false, 0, 0, 4294967295⟩], 0, 0, 0⟩,
  ⟨Addr.TIME_TRIG_START_S_HI, [(0x20, 8)], none, [⟨31, 0, .now, false, 0, 0, 4294967295⟩], 0, 0, 0⟩,
  ⟨Addr.TIME_TRIG_START_NS, [(0x20, 8)], none, [⟨31, 0, .now, false, 0, 0, 999999999⟩], 0, 0, 0⟩,
  ⟨Addr.TIME_TRIG_PER_S, [(0x20, 8)], none, [⟨11, 0, .now, false, 0, 0, 4095⟩], 0, 0, 0⟩,
  ⟨Addr.TIME_TRIG_PER_NS, [(0x20, 8)], none, [⟨29, 0, .now, false, 0, 0, 999999999⟩], 0, 0, 0⟩,
  ⟨Addr.TIME_TRIG_WIDTH, [(0x20, 8)], none, [⟨19, 0, .now, false, 1, 1, 1000000⟩], 0, 0, 0⟩,
  ⟨Addr.TIME_TRIG_STATUS, [(0x20, 8)], none, [], 0, 0, 0⟩]

/-- Registers of KEY (15_keys R408). -/
def regsKey0 : List RegD := [
  ⟨Addr.KEY_LC_STATUS, [], none, [], 0x1000, 0, 0⟩,
  ⟨Addr.KEY_LC_CTRL, [], none, [], 0, 0, 0xFF77⟩,
  ⟨Addr.KEY_LC_CMD_STATUS, [], none, [], 0, 0, 0⟩,
  ⟨Addr.KEY_UID_LO, [], none, [], 0, 0, 0⟩,
  ⟨Addr.KEY_UID_HI, [], none, [], 0, 0, 0⟩,
  ⟨Addr.KEY_RING_STATUS, [], none, [], 0x8, 0, 0⟩,
  ⟨Addr.KEY_RING_GEN, [], none, [], 0, 0, 0⟩,
  ⟨Addr.KEY_CMD, [], none, [], 0, 0, 0xFFFF0007⟩,
  ⟨Addr.KEY_CMD_STATUS, [], none, [], 0, 0, 0⟩,
  ⟨Addr.KEY_STORE_STATUS, [], none, [], 0, 0, 0⟩,
  ⟨Addr.KEY_SLOT_SEL, [], none, [⟨5, 0, .now, false, 0, 0, 63⟩], 0, 0, 0⟩,
  ⟨Addr.KEY_SLOT_INFO, [], none, [], 0, 0, 0⟩,
  ⟨Addr.KEY_SLOT_GEN, [], none, [], 0, 0, 0⟩,
  ⟨Addr.KEY_DBG_CHAL, [(0x4, 4)], none, [], 0, 0, 0⟩,
  ⟨Addr.KEY_DBG_RESP, [(0x4, 4)], none, [], 0, 0, 0xFFFFFFFF⟩,
  ⟨Addr.KEY_DBG_CTRL, [], none, [], 0, 0, 0x3⟩,
  ⟨Addr.KEY_DBG_STATUS, [], none, [], 0, 0, 0⟩,
  ⟨Addr.KEY_CNT_LOAD, [], none, [], 0, 0xFFFFFFFF, 0⟩,
  ⟨Addr.KEY_CNT_EVICT, [], none, [], 0, 0xFFFFFFFF, 0⟩,
  ⟨Addr.KEY_CNT_STALE, [], none, [], 0, 0xFFFFFFFF, 0⟩]

/-- Registers of KEY (15_keys R408). -/
def regsKey1 : List RegD := [
  ⟨Addr.KEY_CNT_CHECK, [], none, [], 0, 0xFFFFFFFF, 0⟩,
  ⟨Addr.KEY_CNT_AUTH, [], none, [], 0, 0xFFFFFFFF, 0⟩]

/-- Registers of EVR (20_event_recorder R494). -/
def regsEvr : List RegD := [
  ⟨Addr.EVR_STATUS, [], none, [], 0, 0, 0⟩,
  ⟨Addr.EVR_TOTAL, [], none, [], 0, 0, 0⟩,
  ⟨Addr.EVR_CAPACITY, [], none, [], 0, 0, 0⟩,
  ⟨Addr.EVR_OPSEC_LO, [], none, [], 0, 0, 0⟩,
  ⟨Addr.EVR_OPSEC_HI, [], none, [], 0, 0, 0⟩,
  ⟨Addr.EVR_PCYCLE, [], none, [], 0, 0, 0⟩,
  ⟨Addr.EVR_SEQ, [], none, [], 0, 0, 0⟩,
  ⟨Addr.EVR_TRIG_EN, [(0x4, 2)], none, [⟨31, 0, .now, true, 4294967295, 0, 4294967295⟩], 0, 0, 0⟩,
  ⟨Addr.EVR_ALARM, [], none, [], 0x7, 0, 0⟩,
  ⟨Addr.EVR_CNT_WRITTEN, [], none, [], 0, 0xFFFFFFFF, 0⟩,
  ⟨Addr.EVR_CNT_LOST, [], none, [], 0, 0xFFFFFFFF, 0⟩,
  ⟨Addr.EVR_CNT_DISCARDED, [], none, [], 0, 0xFFFFFFFF, 0⟩,
  ⟨Addr.EVR_CNT_TORN, [], none, [], 0, 0xFFFFFFFF, 0⟩,
  ⟨Addr.EVR_CNT_WRITE_ERR, [], none, [], 0, 0xFFFFFFFF, 0⟩,
  ⟨Addr.EVR_SNAP, [(0x60, 64), (0x4, 24)], none, [⟨31, 0, .now, true, 4294967295, 0, 4294967295⟩], 0, 0, 0⟩]

/-- Registers of UPD (19_firmware R482). -/
def regsUpd : List RegD := [
  ⟨Addr.UPD_CFG, [], none, [⟨19, 0, .now, true, 3600, 60, 604800⟩], 0, 0, 0⟩,
  ⟨Addr.UPD_STATUS, [], none, [], 0x20000, 0, 0⟩,
  ⟨Addr.UPD_LENGTH, [], none, [], 0, 0, 0⟩,
  ⟨Addr.UPD_RECEIVED, [], none, [], 0, 0, 0⟩,
  ⟨Addr.UPD_MISSING, [], none, [], 0, 0, 0⟩,
  ⟨Addr.UPD_RUN_ID_LO, [], none, [], 0, 0, 0⟩,
  ⟨Addr.UPD_RUN_ID_HI, [], none, [], 0, 0, 0⟩,
  ⟨Addr.UPD_RUN_CLASS, [], none, [], 0, 0, 0⟩,
  ⟨Addr.UPD_RUN_SET, [], none, [], 0, 0, 0⟩,
  ⟨Addr.UPD_TRIAL_LEFT, [], none, [], 0, 0, 0⟩,
  ⟨Addr.UPD_CNT_BLOCK, [], none, [], 0, 0xFFFFFFFF, 0⟩,
  ⟨Addr.UPD_CNT_REPEAT, [], none, [], 0, 0xFFFFFFFF, 0⟩,
  ⟨Addr.UPD_CNT_CONFLICT, [], none, [], 0, 0xFFFFFFFF, 0⟩,
  ⟨Addr.UPD_CNT_CRC, [], none, [], 0, 0xFFFFFFFF, 0⟩,
  ⟨Addr.UPD_CNT_VERIFY_FAIL, [], none, [], 0, 0xFFFFFFFF, 0⟩,
  ⟨Addr.UPD_CNT_FALLBACK, [], none, [], 0, 0xFFFFFFFF, 0⟩]

/-- Registers of PAIR (16_pair R426). -/
def regsPair : List RegD := [
  ⟨Addr.PAIR_CFG, [], none,
    [⟨0, 0, .fixed, true, 0, 0, 1⟩,
     ⟨1, 1, .commit, true, 1, 0, 1⟩,
     ⟨7, 2, .commit, true, 5, 3, 50⟩],
    0, 0, 0⟩,
  ⟨Addr.PAIR_STATUS, [], none, [], 0, 0, 0⟩,
  ⟨Addr.PAIR_ALARM, [], none, [], 0xFF, 0, 0⟩,
  ⟨Addr.PAIR_CTRL, [], none, [], 0, 0, 0x7⟩,
  ⟨Addr.PAIR_CTRL_STATUS, [], none, [], 0, 0, 0⟩,
  ⟨Addr.PAIR_PARTNER_UID_LO, [], none, [], 0, 0, 0⟩,
  ⟨Addr.PAIR_PARTNER_UID_HI, [], none, [], 0, 0, 0⟩,
  ⟨Addr.PAIR_ACK_SF_LO, [], none, [], 0, 0, 0⟩,
  ⟨Addr.PAIR_ACK_SF_HI, [], none, [], 0, 0, 0⟩,
  ⟨Addr.PAIR_ACK_SEQ, [], none, [], 0, 0, 0⟩,
  ⟨Addr.PAIR_LAG, [], none, [], 0, 0xFFFF0000, 0⟩,
  ⟨Addr.PAIR_COPY, [], none, [], 0, 0, 0⟩,
  ⟨Addr.PAIR_CNT, [(0x4, 10)], none, [], 0, 0xFFFFFFFF, 0⟩]

/-- Registers of SNAG (21_snag R506). -/
def regsSnag : List RegD := [
  ⟨Addr.SNAG_CFG, [], none,
    [⟨0, 0, .now, true, 1, 0, 1⟩,
     ⟨8, 1, .now, true, 24, 1, 168⟩,
     ⟨12, 9, .now, true, 3, 0, 15⟩,
     ⟨13, 13, .now, true, 1, 0, 1⟩,
     ⟨14, 14, .now, true, 0, 0, 1⟩],
    0, 0, 0⟩,
  ⟨Addr.SNAG_STATUS, [], none, [], 0xC00, 0, 0⟩,
  ⟨Addr.SNAG_PASSES, [], none, [], 0, 0, 0⟩,
  ⟨Addr.SNAG_AGE, [(0x4, 8)], none, [], 0, 0, 0⟩,
  ⟨Addr.SNAG_CTRL, [], none, [], 0, 0, 0xFF0F⟩,
  ⟨Addr.SNAG_CTRL_STATUS, [], none, [], 0, 0, 0⟩,
  ⟨Addr.SNAG_BAY_STATUS, [(0x4, 15)], none, [], 0, 0, 0⟩,
  ⟨Addr.SNAG_CNT, [(0x4, 10)], none, [], 0, 0xFFFFFFFF, 0⟩]

/-- Registers of NVM (18_boot R470). -/
def regsNvm : List RegD := [
  ⟨Addr.NVM_BOOT_STATUS, [], none, [], 0, 0, 0⟩,
  ⟨Addr.NVM_LAYOUT, [], none, [], 0, 0, 0⟩,
  ⟨Addr.NVM_HDR_GEN, [], none, [], 0, 0, 0⟩,
  ⟨Addr.NVM_PRIMER_LEN, [], none, [], 0, 0, 0⟩,
  ⟨Addr.NVM_PRIMER_HASH, [(0x4, 8)], none, [], 0, 0, 0⟩,
  ⟨Addr.NVM_SET_STATUS, [], none, [], 0, 0, 0⟩,
  ⟨Addr.NVM_SET_WCOUNT, [], none, [], 0, 0, 0⟩,
  ⟨Addr.NVM_POLICY, [], none, [⟨0, 0, .commit, true, 1, 0, 1⟩, ⟨12, 1, .commit, true, 60, 1, 3600⟩], 0, 0, 0⟩,
  ⟨Addr.NVM_ALARM, [], none, [], 0x3F, 0, 0⟩,
  ⟨Addr.NVM_CH_SIZE, [(0x4, 2)], none, [], 0, 0, 0⟩,
  ⟨Addr.NVM_CNT_READ_ERR, [], none, [], 0, 0xFFFFFFFF, 0⟩,
  ⟨Addr.NVM_CNT_WRITE_ERR, [], none, [], 0, 0xFFFFFFFF, 0⟩,
  ⟨Addr.NVM_CNT_SET_WRITES, [], none, [], 0, 0xFFFFFFFF, 0⟩,
  ⟨Addr.NVM_CNT_SET_SKIPPED, [], none, [], 0, 0xFFFFFFFF, 0⟩]

/-- Every register of the block, in address order. -/
def regTable : List RegD :=
  regsTop ++ regsPcr ++ regsSafe0 ++ regsSafe1 ++ regsSched0 ++ regsSched1 ++
  regsMem ++ regsHod ++ regsFix0 ++ regsFix1 ++ regsFix2 ++ regsScr0 ++
  regsScr1 ++ regsScr2 ++ regsLoop0 ++ regsLoop1 ++ regsMac0 ++ regsMac1 ++
  regsLkp ++ regsNet ++ regsTime0 ++ regsTime1 ++ regsKey0 ++ regsKey1 ++
  regsEvr ++ regsUpd ++ regsPair ++ regsSnag ++ regsNvm

/-- True where an offset from a register's first address is one of its indexes. -/
def dimsHit : List (Nat × Nat) → Nat → Bool
  | [], off => off == 0
  | (st, n) :: r, off => decide (off / st < n) && dimsHit r (off % st)

/-- The register at an address. -/
def findRegIn : List RegD → Nat → Option RegD
  | [], _ => none
  | d :: r, a => if d.base ≤ a ∧ dimsHit d.dims (a - d.base) then some d else findRegIn r a

/-- The register at an address, where the address is assigned (00_scope R7). -/
def findReg (a : Nat) : Option RegD := findRegIn regTable a

/-- The bits of the fields with a tag. -/
def RegD.tagMask (d : RegD) (t : Tag) : Nat :=
  (d.fields.filter (fun f => f.tag == t)).foldl (fun m f => m + maskOf f.hi f.lo) 0

/-- The bits of the fields the primer image gives. -/
def RegD.primerMask (d : RegD) : Nat :=
  (d.fields.filter (fun f => f.primer)).foldl (fun m f => m + maskOf f.hi f.lo) 0

/-- The bits of every field that holds a written value. -/
def RegD.heldMask (d : RegD) : Nat := d.fields.foldl (fun m f => m + maskOf f.hi f.lo) 0

/-- Every value in its stated range (00_scope R22, 03_fix_inputs R89). -/
def RegD.inRange (d : RegD) (w : Word) : Bool :=
  d.fields.all (fun f => f.tag == .fixed || (decide (f.rmin ≤ fld w f.hi f.lo) && decide (fld w f.hi f.lo ≤ f.rmax)))

/-- The defaults of the table as one word. -/
def RegD.dfltWord (d : RegD) : Nat := d.fields.foldl (fun m f => m + f.dflt * 2 ^ f.lo) 0

end Sys2Proof.Machine
end

