-- ==== Sys2Proof/Machine/Parts/Output.lean ====
section
/-!
DEFINITION. What the block gives to the outside, as plain data appended to State's output list: GMP
responses and notifications, alerts, frames on air, commands to the radio heads, frames on the host
ports and on the pair paths.
-/

namespace Sys2Proof.Machine

open Sys2Proof

/-- One output of the block. -/
inductive Output where
  /-- A GMP response (17_host R433): session, TYPE, REQ_ID, STATUS and body. -/
  | gmp (sess typ reqId status : Nat) (body : List Nat)
  /-- A NOTIFY (17_host R443): the host port it leaves on (13_tables R364), none where its rule drops it; session,
  topic, NSEQ and the items. -/
  | notify (port : Option Nat) (sess topic nseq : Nat) (items : List NItem)
  /-- A DTLS handshake_failure alert (17_host R430, R431). -/
  | alert
  /-- A journal entry forwarded to the partner (02_journal R51, 16_pair R418). -/
  | forward (e : JEntry)
  /-- A pulse on TRIGk (14_station_time R383): the active level and the width in microseconds. -/
  | trigger (k : Nat) (activeHigh : Bool) (ns width : Nat)
  /-- A PTP message sent (14_station_time R380, R381): port, kind (0 Sync, 1 Announce, 2 Delay_Req,
  3 Delay_Resp), domain, sequence number, and for Announce clockClass, clockAccuracy, timeSource,
  priority1, priority2, currentUtcOffset and LEAP. -/
  | ptp (port kind domain seq : Nat) (fields : List Nat)
  /-- A request to the head of a port (09_radio_ports R247): CMD and its parameters. -/
  | head (port cmd : Nat) (args : List Nat)
  /-- A frame on air (09_radio_ports R254): port, superframe, slot, rate code. -/
  | tx (port sf slot rate : Nat) (f : TxFrame)
  /-- The result of a key operation asked for by a unit (15_keys R400, R401): KEY_ID and status. -/
  | keyOp (keyId status : Nat)
  /-- PWR_EN driven (22_power R516, R517). -/
  | pwrEn (high : Bool)
  /-- An Ethernet frame sent on ETH0 or ETH1: destination, source, VID where tagged, EtherType (13_tables R363). -/
  | eth (port dst src : Nat) (vid : Option Nat) (etype : Nat)
  /-- A frame to the partner: its path, 0 for the link and 1 for the witness line, its type and its fields
  (16_pair R411 to R424). -/
  | pair (path typ : Nat) (args : List Nat)
  /-- The COPY_CHUNK frames of a state copy, as one (16_pair R421): COPY_EPOCH and the covered state that they hold. -/
  | copy (epoch : Nat) (state : Covered)
  deriving DecidableEq, Repr

end Sys2Proof.Machine
end

