-- ==== Sys2Proof/Machine/Parts/Pair.lean ====
section
/-!
DEFINITION. The part of State for the redundant pair (16_pair). Times are of the monotonic operating time.
-/

namespace Sys2Proof.Machine

open Sys2Proof

/-- The role of a unit (16_pair R409). -/
inductive Role where
  | unpaired
  | seek
  | active
  | standby
  | fenced
  deriving DecidableEq, Repr

/-- One path to the partner (R413): up, the time of its last valid frame, and the consecutive valid frames
while it is down. -/
structure PathS where
  up : Bool
  lastAt : Option Nat
  run : Nat
  deriving DecidableEq, Repr

/-- What COPY_STATE shows (R426). -/
inductive CopySt where
  | none
  | sending
  | receiving
  | applying
  deriving DecidableEq, Repr

/-- A state copy (R421, R422): its epoch, the SF of P0 once chosen, its chunks, those received, the failures by
chunk, its start, and the entries after P0 that wait. -/
structure CopyS where
  st : CopySt
  epoch : Nat
  p0 : Option Nat
  nchunk : Nat
  got : KMap Unit
  fails : KMap Nat
  since : Nat
  asked : Option Nat
  waiting : List JEntry
  deriving DecidableEq, Repr

/-- The pair. -/
structure PairS where
  role : Role
  sync : Bool
  /-- The reason that SYNC is clear (R420). -/
  why : Nat
  link : PathS
  wit : PathS
  /-- The partner's UID, its last STATE (0 SEEK, 1 ACTIVE, 2 STANDBY, 3 FENCED) and ELIGIBLE, its LEAVING mark. -/
  uid : Option Nat
  partner : Option Nat
  elig : Bool
  /-- The pair-link session (R411): both HELLO are held, the random numbers, the counters. -/
  session : Bool
  ownR : Nat
  partnerR : Nat
  txCounter : Nat
  rxCounter : Option Nat
  /-- The time of the last HELLO or RENEW sent (R413, R414). -/
  sentAt : Nat
  /-- The renewals (R414): NUM last sent, those without acknowledgement with their send times, the lease base. -/
  num : Nat
  unacked : List (Nat × Nat)
  base : Option Nat
  /-- The standby's lease base (R415). -/
  heardAt : Option Nat
  /-- The fence (R417): its time, the ports that were UP, the last superframe sent, a later beacon was heard. -/
  fencedAt : Nat
  fencedPorts : Nat
  lastSent : Nat
  heard : Bool
  /-- A ROLE entry due at the opening of the next superframe of the journal (R55), and the first superframe in
  which the unit may send (R272, R416, R423). -/
  roleDue : Option Nat
  txFrom : Nat
  /-- Entries forwarded and not acknowledged, with their times, and the position of the last JRNL_ACK (R418). -/
  fwd : List ((Nat × Nat) × Nat)
  ack : Nat × Nat
  latHi : Nat
  latSeq : Nat
  /-- A planned handover is pending (R423): FORCE as written. -/
  handover : Option Bool
  /-- On the partner: the SF of the ROLE entry 0x06, and whether the HANDOVER frame has come (R423). -/
  six : Option Nat
  hoRx : Bool
  /-- The partner is heard in ACTIVE while this unit is (R410). -/
  dual : Bool
  /-- The partner's classes differ, and its digest (R419, R61). -/
  classDiff : Bool
  digestDiff : Bool
  copy : CopyS
  ctrlStatus : Nat
  deriving DecidableEq, Repr

end Sys2Proof.Machine
end

