-- ==== Sys2Proof/Machine/Parts/Sched.lean ====
section
/-!
DEFINITION. The part of State for the scheduler (11_scheduler): job descriptors, the delay list,
admission, budgets and the engines.
-/

namespace Sys2Proof.Machine

/-- The state of a job descriptor (11_scheduler R307); FREE descriptors are not listed. -/
inductive JobState where
  | delayed
  | waiting
  | ready
  | running
  | done
  deriving DecidableEq, Repr

/-- One job descriptor (11_scheduler R306) with its state. Times are microseconds of station time. -/
structure Job where
  cls : Nat
  kind : Nat
  covered : Bool
  snag : Bool
  preempted : Bool
  late : Bool
  chained : Bool
  status : Nat
  sf : Nat
  seq : Nat
  object : Nat
  deadline : Option Nat
  ready : Nat
  input : Nat
  context : Option Nat
  st : JobState
  /-- The engine that runs it, or ran it last. -/
  engine : Nat
  /-- Dispatched at least once and not DONE (R316). -/
  flight : Bool
  /-- Creation order. -/
  order : Nat
  deriving DecidableEq, Repr

/-- One engine. -/
structure Eng where
  fenced : Bool
  restart : Bool
  /-- Station time in nanoseconds since which it is busy. -/
  busyAt : Option Nat
  /-- Busy nanoseconds of the present second, that second, and the load shown (units 0.1 %). -/
  busy : Nat
  sec : Nat
  load : Nat
  waitMin : Nat
  waitMax : Nat
  waitSum : Nat
  waitN : Nat
  waitMean : Nat
  lanes : Nat
  deriving DecidableEq, Repr

/-- An engine in service that has run nothing (11_scheduler R323). -/
def Eng.zero : Eng := ⟨false, false, none, 0, 0, 0, 0xFFFFFFFF, 0, 0, 0, 0, 0⟩

/-- The scheduler. -/
structure SchedS where
  /-- Descriptors by index, 0 to 4,095. -/
  jobs : KMap Job
  /-- Covered creations that wait for a descriptor, oldest first (R309). -/
  stalled : List Job
  /-- Delay list: tick (10 µs of station time) and descriptor, in release order (R317). -/
  delay : List (Nat × Nat)
  order : Nat
  /-- Jobs admitted in the superframe `admitSf`, by class (R310). -/
  admitTo : KMap Nat
  admitSf : Nat
  /-- Budget used by class in nanoseconds, and the start of the window in nanoseconds (R311). -/
  used : KMap Nat
  winStart : Nat
  eng : KMap Eng
  lateCls : Nat
  lateEng : Nat
  lateOver : Nat
  /-- What SCHED_JOB_WORD1 to 9 return after a read of WORD0. -/
  latched : List Nat
  deriving DecidableEq, Repr

end Sys2Proof.Machine
end

