-- ==== Sys2Proof/Machine/Parts/Sys.lean ====
section
/-!
DEFINITION. The parts of State for power, clocks and reset (22_power_clocks_reset), the non-volatile memory
and boot (18_boot_and_primer), firmware update (19_firmware_update), tiles and hods (12_memory_and_hods)
and the snag sweep (21_snag_sweep_and_repair).
-/

namespace Sys2Proof.Machine

open Sys2Proof

/-- How far the device has come since its last reset (R454, R513, R516). -/
inductive RunPhase where
  /-- A reset source acts, or its end has not been served. -/
  | held
  /-- Out of reset; the strip runs. -/
  | strip
  /-- The strip has ended; the boot sequence runs. -/
  | boot
  /-- Halted with LAST_HALT's code to come (R455). -/
  | halted
  /-- In service from step 8 on. -/
  | up
  /-- A STANDBY is accepted and the drain runs. -/
  | drain
  /-- Only VSTBY is supplied. -/
  | standby
  deriving DecidableEq, Repr

/-- Power, clocks and reset. -/
structure PcrS where
  phase : RunPhase
  cause : Nat
  rail : Nat
  /-- Halt code of this boot; LAST_HALT of AON, and the failed-slot mark of 19_firmware R472. -/
  halt : Nat
  lastHalt : Nat
  failedSlot : Option Nat
  /-- Resets by cause (AON). -/
  counts : List Nat
  refOk : Bool
  pllLock : Bool
  safeOsc : Bool
  wakeLow : Bool
  /-- A wake that came while the drain ran (R517). -/
  wakePend : Bool
  /-- Rails in range, and domains powered. -/
  rails : Nat
  domOn : Nat
  temp : Int
  ctrlStatus : Nat
  /-- Operating time at which an accepted RESET acts (R515). -/
  resetAt : Option Nat
  deriving DecidableEq, Repr

/-- An xSPI channel: its device's size in MiB, and whether it is usable (R449, R453). -/
structure Chan where
  size : Nat
  ok : Bool
  deriving DecidableEq, Repr

/-- A decoded firmware image's identity (19_firmware R471). -/
structure FwId where
  version : Nat
  build : Nat
  cls : Nat
  setFormat : Nat
  setRead : Nat
  deriving DecidableEq, Repr

/-- The non-volatile memory. -/
structure NvmS where
  flash : Flash
  ch : List Chan
  mirror : Bool
  hdrCopy : Nat
  hdrGen : Nat
  fwSlot : Nat
  fallback : Bool
  unsigned : Bool
  /-- 0 primer alone, 1 SET_A, 2 SET_B; the reason of NVM_BOOT_STATUS; LAST_HALT as the boot showed it. -/
  setSlot : Nat
  setReason : Nat
  lastHalt : Nat
  primerLen : Nat
  primerHash : List Nat
  primStatics : List StaticEnt
  primRules : List RuleRec
  /-- ID and body of every record of the primer image in force but its signature (02_journal R59). -/
  records : List (Nat × List Nat)
  wcount : Nat
  /-- The settings write under way: the slot it goes to and its contents. A commit came meanwhile. -/
  writing : Option (Nat × Settings)
  again : Bool
  lastStatus : Nat
  run : FwId
  deriving DecidableEq, Repr

/-- The state of a transfer (19_firmware R473). -/
inductive UpdSt where
  | idle
  | erasing
  | receiving
  | verified
  | failed
  deriving DecidableEq, Repr

/-- Firmware update. -/
structure UpdS where
  st : UpdSt
  target : Nat
  length : Nat
  fail : Nat
  lastStatus : Nat
  /-- An unconfirmed trial runs, and the operating time of the first SF_MARK of its journal. -/
  trial : Bool
  trialFrom : Option Nat
  deriving DecidableEq, Repr

/-- One bank of tiles (12_memory R324, R337): remap of logical tiles away from their own index, tiles under
test, retired tiles, poisoned logical tiles. -/
structure Bank where
  remap : KMap Nat
  testing : List Nat
  retired : List Nat
  poison : List Nat
  deriving DecidableEq, Repr

/-- A bank as made. -/
def Bank.zero : Bank := ⟨[], [], [], []⟩

/-- Tiles and strip. -/
structure MemS where
  banks : KMap Bank
  lastRegion : Nat
  lastBank : Nat
  outcome : Nat
  stripUs : Nat
  strips : Nat
  deriving DecidableEq, Repr

/-- One hod (12_memory R339, R347). -/
structure Hod where
  used : Nat
  packets : Nat
  /-- What firmware assigned at boot (R340): producer, consumer and ring size. -/
  prod : Nat
  cons : Nat
  cap : Nat
  /-- A DROP goes on until the end mark (R344). -/
  dropping : Bool
  deriving DecidableEq, Repr

/-- An empty hod that nothing was assigned to. -/
def Hod.zero : Hod := ⟨0, 0, 0, 0, 64, false⟩

/-- The hods, and the one that last set an alarm bit. -/
structure HodS where
  hods : KMap Hod
  last : Nat
  deriving DecidableEq, Repr

/-- What the sweep keeps of a bay (21_snag R502, R503): failed, the operating times of its restarts, the
duration of the last, and a sweep request that waits. -/
structure BaySt where
  failed : Bool
  restarts : List Nat
  lastMs : Nat
  asked : Bool
  deriving DecidableEq, Repr

/-- A bay in service that was never restarted. -/
def BaySt.zero : BaySt := ⟨false, [], 0, false⟩

/-- A bay restart under way: bay, operating time of its start, and whether the domain is on again. -/
structure Restart where
  bay : Nat
  since : Nat
  on : Bool
  deriving DecidableEq, Repr

/-- The snag sweep. -/
structure SnagS where
  /-- Operating time of the last test of an item, by category × 2^32 + item; and the items tested in this pass. -/
  tested : KMap Nat
  pass : KMap Unit
  passes : Nat
  /-- Lane that each engine's spare stands in for. -/
  spare : KMap Nat
  bays : KMap BaySt
  restart : Option Restart
  ctrlStatus : Nat
  deriving DecidableEq, Repr

end Sys2Proof.Machine
end

