-- ==== Sys2Proof/Machine/State.lean ====
section
/-!
DEFINITION. The state of the block as plain data, the reasons a step can stop, and the state after
reset.
-/

namespace Sys2Proof.Machine

open Sys2Proof

/-- The reasons a step ends in a fault. No command of the block ends in one: the spec answers every
error with a status code (00_scope R16) and the block goes on. Closed. -/
inductive Fault where
  /-- Raised by no one: kept so that the type has a name to give. Safe. -/
  | none
  deriving DecidableEq, Repr

/-- The reasons a step is refused. Closed. -/
inductive Refusal where
  /-- Raised by the arm of a command that has no meaning yet. Safe: nothing is claimed of it. -/
  | notModelled (mnemonic : String)
  deriving DecidableEq, Repr

/-- The block. -/
structure State where
  /-- The part, fixed by fuses (00_scope R1, R2). -/
  part : Part
  time : TimeS
  jr : JrnlS
  regs : RegS
  gmp : GmpS
  safe : SafeS
  fix : FixS
  scr : ScrS
  memb : MembS
  sched : SchedS
  loop : LoopS
  pair : PairS
  evr : EvrS
  key : KeyS
  pcr : PcrS
  nvm : NvmS
  upd : UpdS
  mem : MemS
  hod : HodS
  snag : SnagS
  mac : MacS
  lkp : LkpS
  /-- What the block has given to the outside, oldest first. -/
  out : List Output
  /-- The model's own counter of free values; no register of the spec. -/
  free : Nat
  /-- The commands that wait, first in, first out. -/
  pending : List Instr
  deriving DecidableEq, Repr

/-- A time source after reset. -/
def TimeSrc.reset : TimeSrc := ⟨.absent, 0, 0, 0, none, none, none, false, none⟩

/-- Station time after reset (14_station_time R373, R385). -/
def TimeS.reset : TimeS :=
  { ns := 0, frac := 0, op := 0, servo := 0, slew := 0, srcs := List.replicate 3 TimeSrc.reset, sel := none,
    st := .acquire, valid := false, holdSince := 0, set := none, setStatus := 0, hold := none, jump := false, utcPtp := 0,
    ptp := List.replicate 2 ⟨0, [0, 0, 0]⟩, master := none, trigs := List.replicate 8 ⟨false, 0, 0⟩,
    latHi := 0, latNs := 0, latFrac := 0 }

/-- The journal before it begins (02_journal R53, R62). -/
def JrnlS.reset : JrnlS :=
  { started := false, sf := 0, lastSf := 0, lastSeq := 0, nextSeq := 0, ring := [], gone := (0, 0), partner := none,
    latHi := 0, latSeq := 0, gen := 0, digest := List.replicate 32 0, commit := none, lastStatus := 0,
    prevTag := none, mismatch := 0, held := [], lastReq := 0, hostless := false }

/-- The register store after reset: every register at its reset value. -/
def RegS.reset : RegS := ⟨[], [], [], []⟩

/-- No session and an empty replay cache (17_host R448). -/
def GmpS.reset : GmpS := ⟨[], [], [], [], [false, false], [0, 0]⟩

/-- The SAFE bay after reset (07_motion_safety R193, R203, R214). -/
def SafeS.reset : SafeS :=
  { permit := 0, cPermit := 0, latch := true, cLatch := true, groups := 0, cGroups := 0, epoch := 0,
    epochAt := none, firstCause := 15, lastCause := 0, faultCode := 0, origin := 0, snap := ⟨0, true, 0, 0⟩,
    snapPrev := ⟨0, true, 0, 0⟩, wdSince := 0, missed := 0,
    chA := ⟨false, 0, false⟩, chB := ⟨false, 0, false⟩, input := .inputStop, cInput := .inputStop, differ := none, arm := none,
    lastToken := 0, lastStatus := 0, reason := 0, faults := 0, cFaults := 0, clockOk := true, dynOn := false,
    dynPin := false, mach := [], ports := [] }

/-- The fix service after reset (03_fix_inputs R88, 04_fix R122). -/
def FixS.reset : FixS :=
  { acq := [Acq.zero, Acq.zero], rx0 := RefRx.zero, rx1 := RefRx.zero, primary := none, swReq := false, revertDue := false, eph := [], rover := [], jobs := [], confs := [],
    linkFix := [], linkFloat := [], corr := ⟨0, false, [], 0, 0, 0, false⟩, latSum := 0, latN := 0, latMean := 0,
    latSec := 0 }

/-- The scheduler after reset (11_scheduler R323). -/
def SchedS.reset : SchedS :=
  { jobs := [], stalled := [], delay := [], order := 0, admitTo := [], admitSf := 0, used := [], winStart := 0,
    eng := [], lateCls := 0, lateEng := 0, lateOver := 0, latched := List.replicate 9 0 }

/-- Every loop OFF. -/
def LoopS.reset : LoopS := ⟨[], [], 0⟩

/-- Every address free. -/
def MembS.reset : MembS := ⟨[], [], [], []⟩

/-- Nothing reserved, no zone and no task (05_track R158, 06_zones R184). -/
def ScrS.reset : ScrS :=
  { cov := ScrCov.zero, staged := [], primZones := [], slotSf := 0, roundSf := 0, inserts := [], lastZone := [],
    tasks := [], taskSeq := [], awards := [], ending := none, lastRound := ⟨0, 0, 0, 0, 0, 0, 0, false⟩,
    zoneStatus := 0, zonePresent := false, latHi := 0 }

/-- No path up, no copy. -/
def CopyS.reset : CopyS := ⟨.none, 0, none, 0, [], [], 0, none, []⟩

/-- The pair before boot names a role (16_pair R426). -/
def PairS.reset : PairS :=
  { role := .unpaired, sync := false, why := 1, link := ⟨false, none, 0⟩, wit := ⟨false, none, 0⟩, uid := none,
    partner := none, elig := false, session := false, ownR := 0, partnerR := 0, txCounter := 0, rxCounter := none, sentAt := 0,
    num := 0, unacked := [], base := none, heardAt := none, fencedAt := 0, fencedPorts := 0, lastSent := 0,
    heard := false, roleDue := none, txFrom := 0, fwd := [], ack := (0, 0), latHi := 0, latSeq := 0,
    handover := none, six := none, hoRx := false, dual := false, classDiff := false, digestDiff := false, copy := CopyS.reset, ctrlStatus := 0 }

/-- Empty tables (13_tables R366). -/
def LkpS.reset : LkpS :=
  { pipes := [⟨[], [], 0, 0⟩, ⟨[], [], 0, 0⟩], statics := [], stagedStatics := [], rules := [], stagedRules := [],
    ruleLive := [], ruleShadow := [], zoneLive := [], zoneShadow := [], catchup := false, swapDue := false,
    cmdStatus := 0, lastPipe := 0, walkEnd := false, res := List.replicate 4 0#32, ruleStatus := 0, rulePresent := false }

/-- The recorder after the first reset of a new board. -/
def EvrS.reset : EvrS :=
  { queue := [], writing := none, again := false, erasing := none, eraseWait := none, total := 0, cap := 0,
    full := false, logOk := false, pcycle := 1, seq := 0, lost := 0, early := 0, prevSt := none,
    setSince := false, log := [], latHi := 0, latPc := 0, latSeq := 0 }

/-- Keys and life cycle after reset: the fuses of a part in FIELD with every root valid, an empty keyring and
no resident key (15_keys R386, R390, R400; log entry 5). -/
def KeyS.reset : KeyS :=
  { fuses := [2, 2, 0, 0], revoke := 0, roots := [.valid, .valid, .valid, .valid], uid := 0x535A4E2560000001,
    blow := none, arm := none, lastToken := 0, lcStatus := 0, active := 0, ring := KRing.empty,
    next := KRing.empty, writes := [], cmdStatus := 0, slots := [], clock := 0, dbgOpen := false,
    chal := List.replicate 4 0#32, chalFresh := false, resp := List.replicate 4 0#32, fails := 0, dbgStatus := 0 }

/-- Power, clocks and reset after an AON power-on: every rail in range, every domain powered, the strip
running (22_power R509 to R514). -/
def PcrS.reset : PcrS :=
  { phase := .strip, cause := 0, rail := 0, halt := 0, lastHalt := 0, failedSlot := none,
    counts := [1, 0, 0, 0, 0, 0, 0, 0, 0, 0], refOk := true, pllLock := true, safeOsc := true, wakeLow := false,
    wakePend := false, rails := 0x7FF, domOn := 0xFFFF, temp := 0, ctrlStatus := 0, resetAt := none }

/-- A blank memory: the spec gives its contents no reset value (log entry 6). -/
def Flash.blank : Flash :=
  ⟨[.blank, .blank], [⟨[], false⟩, ⟨[], false⟩], [], [.blank, .blank], [.blank, .blank]⟩

/-- The memory's part before boot. -/
def NvmS.reset : NvmS :=
  { flash := Flash.blank, ch := [⟨0, false⟩, ⟨0, false⟩], mirror := false, hdrCopy := 0, hdrGen := 0, fwSlot := 0,
    fallback := false, unsigned := false, setSlot := 0, setReason := 0, lastHalt := 0, primerLen := 0,
    primerHash := List.replicate 32 0, primStatics := [], primRules := [], records := [], wcount := 0, writing := none,
    again := false, lastStatus := 0, run := ⟨0, 0, 0, 0, 0⟩ }

/-- No transfer (19_firmware R482). -/
def UpdS.reset : UpdS := ⟨.idle, 0, 0, 0, 0, false, none⟩

/-- No spare used (12_memory R346). -/
def MemS.reset : MemS := ⟨[], 0, 0, 0, 0, 0⟩

/-- Every hod empty (12_memory R347). -/
def HodS.reset : HodS := ⟨[], 0⟩

/-- Nothing tested since reset (21_snag R506). -/
def SnagS.reset : SnagS := ⟨[], [], 0, [], [], none, 0⟩

/-- Every port OFF (09_radio_ports R267). -/
def MacS.reset : MacS := ⟨List.replicate 4 Port.zero, [], none⟩

/-- The machine right after reset. -/
def State.reset : State :=
  { part := .szn2560, time := TimeS.reset, jr := JrnlS.reset, regs := RegS.reset, gmp := GmpS.reset,
    safe := SafeS.reset, fix := FixS.reset, scr := ScrS.reset, memb := MembS.reset, sched := SchedS.reset, loop := LoopS.reset, pair := PairS.reset, evr := EvrS.reset,
    key := KeyS.reset, pcr := PcrS.reset, nvm := NvmS.reset, upd := UpdS.reset, mem := MemS.reset, hod := HodS.reset,
    snag := SnagS.reset, mac := MacS.reset, lkp := LkpS.reset,
    out := [], free := 0, pending := [] }

end Sys2Proof.Machine
end

