-- ==== Sys2Proof/Machine/Upd.lean ====
section
/-!
DEFINITION. One update per field of State: the part the field holds is changed by a function, every other
field is kept. The lemmas that say so stand in Laws/State.lean.
-/

namespace Sys2Proof.Machine

open Sys2Proof

/-- State with `part` changed by `f`. -/
def State.updPart (s : State) (f : Part → Part) : State := { s with part := f s.part }

/-- State with `time` changed by `f`. -/
def State.updTime (s : State) (f : TimeS → TimeS) : State := { s with time := f s.time }

/-- State with `jr` changed by `f`. -/
def State.updJr (s : State) (f : JrnlS → JrnlS) : State := { s with jr := f s.jr }

/-- State with `regs` changed by `f`. -/
def State.updRegs (s : State) (f : RegS → RegS) : State := { s with regs := f s.regs }

/-- State with `gmp` changed by `f`. -/
def State.updGmp (s : State) (f : GmpS → GmpS) : State := { s with gmp := f s.gmp }

/-- State with `safe` changed by `f`. -/
def State.updSafe (s : State) (f : SafeS → SafeS) : State := { s with safe := f s.safe }

/-- State with `fix` changed by `f`. -/
def State.updFix (s : State) (f : FixS → FixS) : State := { s with fix := f s.fix }

/-- State with `scr` changed by `f`. -/
def State.updScr (s : State) (f : ScrS → ScrS) : State := { s with scr := f s.scr }

/-- State with `memb` changed by `f`. -/
def State.updMemb (s : State) (f : MembS → MembS) : State := { s with memb := f s.memb }

/-- State with `sched` changed by `f`. -/
def State.updSched (s : State) (f : SchedS → SchedS) : State := { s with sched := f s.sched }

/-- State with `loop` changed by `f`. -/
def State.updLoop (s : State) (f : LoopS → LoopS) : State := { s with loop := f s.loop }

/-- State with `pair` changed by `f`. -/
def State.updPair (s : State) (f : PairS → PairS) : State := { s with pair := f s.pair }

/-- State with `evr` changed by `f`. -/
def State.updEvr (s : State) (f : EvrS → EvrS) : State := { s with evr := f s.evr }

/-- State with `key` changed by `f`. -/
def State.updKey (s : State) (f : KeyS → KeyS) : State := { s with key := f s.key }

/-- State with `pcr` changed by `f`. -/
def State.updPcr (s : State) (f : PcrS → PcrS) : State := { s with pcr := f s.pcr }

/-- State with `nvm` changed by `f`. -/
def State.updNvm (s : State) (f : NvmS → NvmS) : State := { s with nvm := f s.nvm }

/-- State with `upd` changed by `f`. -/
def State.updUpd (s : State) (f : UpdS → UpdS) : State := { s with upd := f s.upd }

/-- State with `mem` changed by `f`. -/
def State.updMem (s : State) (f : MemS → MemS) : State := { s with mem := f s.mem }

/-- State with `hod` changed by `f`. -/
def State.updHod (s : State) (f : HodS → HodS) : State := { s with hod := f s.hod }

/-- State with `snag` changed by `f`. -/
def State.updSnag (s : State) (f : SnagS → SnagS) : State := { s with snag := f s.snag }

/-- State with `mac` changed by `f`. -/
def State.updMac (s : State) (f : MacS → MacS) : State := { s with mac := f s.mac }

/-- State with `lkp` changed by `f`. -/
def State.updLkp (s : State) (f : LkpS → LkpS) : State := { s with lkp := f s.lkp }

/-- State with `out` changed by `f`. -/
def State.updOut (s : State) (f : (List Output) → (List Output)) : State := { s with out := f s.out }

/-- State with `free` changed by `f`. -/
def State.updFree (s : State) (f : Nat → Nat) : State := { s with free := f s.free }

/-- State with `pending` changed by `f`. -/
def State.updPending (s : State) (f : (List Instr) → (List Instr)) : State := { s with pending := f s.pending }

end Sys2Proof.Machine
end

