-- ==== Sys2Proof/Machine/Regs.lean ====
section
/-!
DEFINITION. The register store: one home for every register word. Reads of a configuration in force,
staged writes, counters, alarm bits and the values the primer image gives all go through here
(00_scope R9 to R15, 18_boot R459, R533).
-/

namespace Sys2Proof.Machine

open Sys2Proof

/-- The sort key of a register that no selector shows (18_boot R533): its address. -/
def rkey (a : Nat) : Nat := a * 2 ^ 32

/-- The sort key of a windowed register: the selector's address, then the window, then the address. -/
def wkey (sel w a : Nat) : Nat := sel * 2 ^ 32 + (w + 1) * 2 ^ 21 + a

/-- The address a key names. -/
def keyAddr (k : Nat) : Nat := if k % 2 ^ 32 = 0 then k / 2 ^ 32 else k % 2 ^ 21

/-- The window a key names, where the register is windowed. -/
def keyWin (k : Nat) : Option Nat := if k % 2 ^ 32 = 0 then none else some (k % 2 ^ 32 / 2 ^ 21 - 1)

/-- The selector's address of a windowed key. -/
def keySel (k : Nat) : Nat := k / 2 ^ 32

/-- Default reserve of a class (11_scheduler R304). -/
def classReserve (c : Nat) : Nat :=
  if 24 ≤ c then 2
  else [256, 8, 512, 64, 32, 4, 4, 1024, 4, 64, 128, 4, 32, 64, 8, 64, 2, 16, 8, 64, 8, 8].getD c 0

/-- Classes with admission (11_scheduler R304). -/
def hasAdmission (c : Nat) : Bool := c == 10 || c == 12 || c == 17 || c == 20 || c == 21

/-- Default ADMIT_MAX of a class (11_scheduler R323). -/
def classAdmit (c : Nat) : Nat := if c = 10 then 256 else if hasAdmission c then 64 else 0

/-- The default of a register word (18_boot R459), with the defaults that depend on an index. -/
def dfltWord (p : Part) (a w : Nat) : Word :=
  if a = Addr.FIX_ENG_CTRL ∧ p = .szn1280 then 0x03F#32
  else if a = Addr.LKP_VLAN then wordOf (1 + 2 ^ 12 + 7 * 2 ^ 13 + 7 * 2 ^ 16)
  else if a = Addr.HOD_CFG ∧ w < 48 then 100#32
  else if a = Addr.SCHED_CLASS_CFG then wordOf (classReserve w + 100 * 2 ^ 13 + classAdmit w * 2 ^ 20)
  else if a = Addr.SAFE_PEND_SCOPE + 12 then 0x08888888#32
  else match findReg a with
    | some d => wordOf d.dfltWord
    | none => 0#32

/-- The default of the word at a key. -/
def dfltOf (p : Part) (k : Nat) : Word := dfltWord p (keyAddr k) ((keyWin k).getD 0)

/-- The word in force at a key. -/
def forceW (s : State) (k : Nat) : Word := kget (dfltOf s.part k) s.regs.force k

/-- The word the primer image gives a key (18_boot R459). -/
def primW (s : State) (k : Nat) : Word := kget (dfltOf s.part k) s.regs.prim k

/-- The bits of a word that a commit brings into force. -/
def commitMask (k : Nat) : Nat :=
  match findReg (keyAddr k) with
  | some d => d.tagMask .commit
  | none => 0

/-- The word last written at a key: the staged copy, or a word that waits for its superframe, else the
word in force (00_scope R15). -/
def lastW (s : State) (k : Nat) : Word :=
  match (s.regs.sfq.filter (fun e => e.2.1 == k)).getLast? with
  | some e => e.2.2
  | none => match kfind s.regs.staged k with
    | some w => blend (commitMask k) (forceW s k) w
    | none => forceW s k

/-- Field `hi:lo` in force of a register that no selector shows. -/
def cfg (s : State) (a hi lo : Nat) : Nat := fld (forceW s (rkey a)) hi lo

/-- Field `hi:lo` in force of a windowed register. -/
def cfgW (s : State) (sel w a hi lo : Nat) : Nat := fld (forceW s (wkey sel w a)) hi lo

/-- A one-bit field in force. -/
def cfgB (s : State) (a b : Nat) : Bool := bit (forceW s (rkey a)) b

/-- The field of a windowed register as the staged copies would leave it. -/
def stgW (s : State) (sel w a hi lo : Nat) : Nat := fld (lastW s (wkey sel w a)) hi lo

/-- The store with a word in force written; a staged copy that equals it goes. -/
def setForce (k : Nat) (w : Word) (s : State) : State :=
  let d := dfltOf s.part k
  s.updRegs fun r =>
    { r with force := kset d r.force k w, staged := if kget w r.staged k = w then kdel r.staged k else r.staged }

/-- The store with a staged copy written; a copy equal to the word in force is none. -/
def setStaged (k : Nat) (w : Word) (s : State) : State :=
  let d := forceW s k
  s.updRegs fun r => { r with staged := kset d r.staged k w }

/-- A field of a register in force set by the device itself. -/
def putFld (a hi lo v : Nat) (s : State) : State := setForce (rkey a) (setFld (forceW s (rkey a)) hi lo v) s

/-- A counter raised by `n`, saturating at all ones (00_scope R12). -/
def bumpF (a hi lo n : Nat) (s : State) : State :=
  putFld a hi lo (sat (hi + 1 - lo) (cfg s a hi lo + n)) s

/-- A 32-bit counter raised by one. -/
def bump (a : Nat) (s : State) : State := bumpF a 31 0 1 s

/-- A 32-bit counter of a windowed register raised by one. -/
def bumpW (sel w a : Nat) (s : State) : State :=
  let k := wkey sel w a
  setForce k (wordOf (sat 32 ((forceW s k).toNat + 1))) s

/-- A field that keeps the largest value seen. -/
def maxF (a hi lo v : Nat) (s : State) : State :=
  putFld a hi lo (max (cfg s a hi lo) (sat (hi + 1 - lo) v)) s

/-- A W1C bit set by the hardware (00_scope R9, R10). -/
def alarm (a b : Nat) (s : State) : State := putFld a b b 1 s

/-- The value of a selector register in force. -/
def selVal (s : State) (a : Nat) : Nat := (forceW s (rkey a)).toNat

/-- The key an access at an address reaches: windowed registers through their selector. -/
def accessKey (s : State) (a : Nat) : Nat :=
  match findReg a with
  | some d => match d.sel with
    | some sl => wkey sl (selVal s sl) a
    | none => rkey a
  | none => rkey a

/-- Registers of units that the part lacks: they read as zero and ignore writes (00_scope R2). -/
def absentReg (p : Part) (a : Nat) : Bool :=
  p == .szn1280 &&
  (within (Addr.MAC_P_CFG + 0x200) (Addr.MAC_P_CFG + 0x3FF) a ||
   within (Addr.MAC_P_SLOT + 0x1000) (Addr.MAC_P_SLOT + 0x1FFF) a ||
   within (Addr.FIX_ENG_STATUS + 24) (Addr.FIX_ENG_STATUS + 47) a ||
   within (Addr.SAFE_PERMIT + 16) (Addr.SAFE_PERMIT + 31) a ||
   within (Addr.SAFE_GROUP + 64) (Addr.SAFE_GROUP + 127) a)

/-- The RC bits of a register cleared, as a read does (00_scope R9, R11). -/
def clearRc (a : Nat) (s : State) : State :=
  match findReg a with
  | some d => if d.rc = 0 then s else
      let k := accessKey s a
      setForce k (blend d.rc (forceW s k) 0#32) s
  | none => s

/-- The W1C bits a write of `v` clears (00_scope R9). -/
def clearW1c (a : Nat) (v : Word) (s : State) : State :=
  match findReg a with
  | some d => if d.w1c = 0 then s else
      let k := accessKey s a
      setForce k (blend (d.w1c &&& v.toNat) (forceW s k) 0#32) s
  | none => s

/-- The superframe from which a write that completes now acts (00_scope R14, 02_journal R54): the next
one, or the one after it from the start of slot 39. -/
def dueSf (s : State) : Nat :=
  if s.time.ns < s.jr.sf * 20000000 + 39 * 500000 then s.jr.sf + 1 else s.jr.sf + 2

/-- A register write without behaviour of its own (00_scope R7, R9, R13, R14): fields tagged Now change at
once, Commit fields in their staged copies, Superframe fields at their boundary; W1C bits written 1
clear; all else is ignored. -/
def storeWord (a : Nat) (v : Word) (s : State) : State × Nat :=
  match findReg a with
  | none => (s, stField)
  | some d =>
    if absentReg s.part a then (s, stOk)
    else if !d.inRange v then (s, stField)
    else
      let k := accessKey s a
      let f := blend (d.tagMask .now) (forceW s k) v
      let s1 := clearW1c a v (if d.tagMask .now = 0 then s else setForce k f s)
      let s2 := if d.tagMask .commit = 0 then s1 else setStaged k (blend (d.tagMask .commit) (forceW s1 k) v) s1
      if d.tagMask .sframe = 0 then (s2, stOk)
      else
        let e := (dueSf s, k, blend (d.tagMask .sframe) (forceW s2 k) v)
        (s2.updRegs fun r => { r with sfq := r.sfq ++ [e] }, stOk)

end Sys2Proof.Machine
end

