-- ==== Sys2Proof/Machine/Look.lean ====
section
/-!
DEFINITION. What the units read of one another and of the registers: roles, engines, ports and plans, addresses,
reservations, keys, bays and hods. Nothing here changes the state.
-/

namespace Sys2Proof.Machine

open Sys2Proof

/-! Time and roles. -/

/-- Station time in nanoseconds. -/
def now (s : State) : Nat := s.time.ns

/-- The superframe number of an instant of station time (02_journal R43). -/
def sfOf (ns : Nat) : Nat := ns / 20000000

/-- The unit holds the token (16_pair R409, R410). -/
def holdsToken (s : State) : Bool := s.pair.role == .unpaired || s.pair.role == .active

/-- The first condition of 16_pair R420 that fails, 0 where a standby is eligible. -/
def eligReason (s : State) : Nat :=
  if !s.pair.sync then s.pair.why
  else firstErr 0
    [(!s.pair.link.up, 7),
     (s.mac.ports.zipIdx.any (fun x => decide (x.2 < portCount s.part) && cfgB s (Addr.MAC_P_CFG + 0x100 * x.2) 0 && x.1.st != .up), 8),
     (s.safe.faults != 0, 9)]

/-- A standby is eligible to take over (16_pair R420). -/
def eligible (s : State) : Bool := s.pair.role == .standby && eligReason s == 0

/-! Engines and jobs (11_scheduler). -/

/-- The kind of a class (R304); SNAG_PORT runs on the kind of its port. -/
def classKind (c : Nat) : Nat :=
  [1, 1, 2, 2, 2, 2, 2, 3, 3, 4, 0, 0, 0, 8, 8, 5, 7, 7, 6, 6, 0, 0, 0, 0, 1, 2, 3, 7, 4, 8, 0, 0].getD c 0

/-- The classes in use (R304). -/
def classIds : List Nat := (List.range 32).filter (fun c => c ≠ 22 ∧ c ≠ 23)

/-- Descriptors of a class that are not FREE. -/
def classUsed (s : State) (c : Nat) : Nat := kcount (fun _ j => j.cls == c) s.sched.jobs

/-- The reserve of a class in force (R309). -/
def classRes (s : State) (c : Nat) : Nat := cfgW s Addr.SCHED_CLASS_SEL c Addr.SCHED_CLASS_CFG 12 0

/-- Free shared descriptors (R309, R323). -/
def sharedFree (s : State) : Nat :=
  4096 - classIds.foldl (fun n c => n + max (classRes s c) (classUsed s c)) 0

/-- What the scheduler keeps of an engine. -/
def engOf (s : State) (e : Nat) : Eng := kget Eng.zero s.sched.eng e

/-- An engine of the part that its ENABLE bit, where it has one, puts into service (04_fix R122). -/
def engEnabled (s : State) (e : Nat) : Bool :=
  isEngine s.part e && !(kindOf e == 1 && !cfgB s Addr.FIX_ENG_CTRL (e - 0x10))

/-- An engine that takes jobs (R303). -/
def engUsable (s : State) (e : Nat) : Bool :=
  engEnabled s e && !(engOf s e).fenced && !(engOf s e).restart

/-- The job an engine runs. -/
def runningOn (s : State) (e : Nat) : Option (Nat × Job) :=
  s.sched.jobs.find? (fun x => x.2.st == .running && x.2.engine == e)

/-- Jobs in flight (R316). -/
def inFlight (s : State) : Nat := kcount (fun _ j => j.flight) s.sched.jobs

/-- READY jobs of a kind (R322). -/
def kindDepth (s : State) (k : Nat) : Nat := kcount (fun _ j => j.st == .ready && j.kind == k) s.sched.jobs

/-- The share of its kind's enabled time that a class has used in the window, in percent (R311). -/
def usedPct (s : State) (c : Nat) : Nat :=
  let n := (engineIds.filter (fun e => kindOf e == classKind c && engUsable s e)).length
  if n = 0 then 0 else kget 0 s.sched.used c * 100 / (n * 100000000)

/-- A class that has used its budget (R311). -/
def throttled (s : State) (c : Nat) : Bool :=
  decide (cfgW s Addr.SCHED_CLASS_SEL c Addr.SCHED_CLASS_CFG 19 13 ≤ usedPct s c)

/-- A deadline for comparison; a class without one comes last. -/
def deadlineOf (j : Job) : Nat := j.deadline.getD (2 ^ 64 - 1)

/-- The 40 bytes of a descriptor (R306), little-endian. -/
def jobBytes (j : Job) : List Nat :=
  [j.cls, j.kind, b2n j.covered + 2 * b2n j.snag + 4 * b2n j.preempted + 8 * b2n j.late + 16 * b2n j.chained,
   j.status] ++ le 6 j.sf ++ le 4 j.seq ++ le 2 j.object ++ le 8 (deadlineOf j) ++ le 8 j.ready ++
  le 4 j.input ++ le 4 (j.context.getD 0xFFFFFFFF)

/-- The engine SCHED_ENG_SEL selects. -/
def selEngine (s : State) : Nat := cfg s Addr.SCHED_ENG_SEL 7 0

/-! Pipelines of the lookup tables (13_tables). -/

/-- A pipeline. -/
def pipe (s : State) (p : Nat) : Pipe := s.lkp.pipes.getD p ⟨[], [], 0, 0⟩

/-- A pipeline is in service (R349). -/
def pipeOk (s : State) (p : Nat) : Bool := engUsable s (0x3C + p)

/-- The pipeline that serves a lookup of pipeline `p`: the other one while it is fenced (R349). -/
def servedBy (s : State) (p : Nat) : Nat := if pipeOk s p then p else 1 - p

/-- An entry has a key. -/
def EmEnt.has (e : EmEnt) (node : Bool) (vid addr : Nat) : Bool := e.node == node && e.vid == vid && e.addr == addr

/-- The entry of a key in a bank, with its place (R352). -/
def emFind (m : KMap EmEnt) (node : Bool) (vid addr : Nat) : Option (Nat × EmEnt) := m.find? (fun e => e.2.has node vid addr)

/-- The relay that the newest entry of an address names (10_radio_frames R300). -/
def nodeVia (s : State) (addr : Nat) : Option Nat :=
  match emFind (pipe s (servedBy s 0)).live true 0 addr with
  | some (_, e) => if e.via = addrNone then none else some e.via
  | none => none

/-! Machines and addresses. -/

/-- What the SAFE bay keeps of a machine. -/
def safeMach (s : State) (m : Nat) : SafeMach := kget SafeMach.zero s.safe.mach m

/-- The membership record of an address. -/
def node (s : State) (a : Nat) : Node := kget Node.zero s.memb.nodes a

/-- The address is associated. -/
def isAssoc (s : State) (a : Nat) : Bool := (node s a).st == .assoc

/-- The machines whose bits a map holds. -/
def machinesIn (map : Nat) : List Nat := ((List.range 256).filter (fun i => map.testBit i)).map machineAt

/-- The home port of an address that has one (10_radio_frames R291). -/
def homePort (s : State) (a : Nat) : Option Nat :=
  if (node s a).st = .free then none else some (node s a).home

/-- A rover. -/
def rover (s : State) (m : Nat) : Rover := kget Rover.zero s.fix.rover m

/-! Reservations (05_track_reservation). -/

/-- The footprint class of a machine from a word of SCR_MACH_CLASSj (R127, R159). -/
def classOf (s : State) (m : Nat) : Nat :=
  cfg s (Addr.SCR_MACH_CLASS + 4 * ((m - 1) / 8)) (4 * ((m - 1) % 8) + 3) (4 * ((m - 1) % 8))

/-- The slot of a superframe under the configuration in force. -/
def slotOfSf (s : State) (sf : Nat) : Nat := sf / cfg s Addr.SCR_CFG 8 2

/-- The descriptor of a machine by index. -/
def ScrCov.desc (c : ScrCov) (m i : Nat) : Desc := kget Desc.zero c.descs (m * 8 + i)

/-- The full slot of an entry under its descriptor (R148). -/
def fullSlot (d : Desc) (lo : Nat) : Nat := d.first + (lo + 256 - d.first % 256) % 256

/-- The descriptor of an entry. -/
def ScrCov.entDesc (c : ScrCov) (e : ScrEnt) : Desc := c.desc (e.owner + 1) e.didx

/-- An entry is held while `cur` is the current slot (R148). -/
def ScrCov.held (c : ScrCov) (cur : Nat) (e : ScrEnt) : Bool :=
  let d := c.entDesc e
  let f := fullSlot d e.slotLo
  d.live && decide (cur ≤ f ∧ f < d.cut)

/-- A machine holds an entry at a slot. -/
def ScrCov.holdsAt (c : ScrCov) (cur m slot : Nat) : Bool :=
  c.table.any (fun e => e.2.owner == m - 1 && c.held cur e.2 && fullSlot (c.entDesc e.2) e.2.slotLo == slot)

/-- A machine has a LIVE descriptor. -/
def ScrCov.hasDesc (c : ScrCov) (m : Nat) : Bool := (List.range 8).any (fun i => (c.desc m i).live)

/-! Ports and plans (09_radio_ports). -/

/-- A port's record. -/
def port (s : State) (k : Nat) : Port := s.mac.ports.getD k Port.zero

/-- A field of MAC_Pk_CFG in force (R267). -/
def portCfg (s : State) (k hi lo : Nat) : Nat := cfg s (Addr.MAC_P_CFG + 0x100 * k) hi lo

/-- The port is enabled in force, and of the part (00_scope R2). -/
def portEn (s : State) (k : Nat) : Bool := decide (k < portCount s.part) && portCfg s k 0 0 == 1

/-- Superframes of a CYCLE code (R257). -/
def cycleLen (code : Nat) : Nat := [1, 2, 5, 10].getD code 1

/-- The plan that a port's Commit fields give (R257, R260), read by `w`. -/
def planFrom (w : Nat → Word) (k : Nat) : SlotPlan :=
  let c := w (rkey (Addr.MAC_P_CFG + 0x100 * k))
  { cycle := fld c 7 6, brate := fld c 3 2, crate := fld c 5 4,
    slots := (List.range (40 * cycleLen (fld c 7 6))).map fun i => w (rkey (Addr.MAC_P_SLOT + 0x800 * k + 4 * i)) }

/-- The plan in force in the registers: the one on air, or the next one. -/
def planOf (s : State) (k : Nat) : SlotPlan := planFrom (forceW s) k

/-- The entry of a plan in a slot of a superframe (R257). -/
def SlotPlan.entry (p : SlotPlan) (sf slot : Nat) : Word :=
  p.slots.getD (sf % cycleLen p.cycle * 40 + slot) 0xFFFF0000#32

/-- KIND, RATE and OWNER of an entry (R257). -/
def entKind (w : Word) : Nat := fld w 3 0
/-- RATE of an entry. -/
def entRate (w : Word) : Nat := fld w 5 4
/-- OWNER of an entry. -/
def entOwner (w : Word) : Nat := fld w 31 16

/-- UP slots in one superframe of a plan (R261, R267). -/
def upSlots (p : SlotPlan) (n : Nat) : Nat :=
  ((List.range 40).filter (fun i => entKind (p.entry n i) == 2)).length

/-- UP_MAX (R267). -/
def upMax (p : SlotPlan) : Nat := (List.range (cycleLen p.cycle)).foldl (fun m n => max m (upSlots p n)) 0

/-- The relay in force of a machine (10_radio_frames R298). -/
def relayOf (s : State) (m : Nat) : Option Nat :=
  let v := cfgW s Addr.MAC_NODE_SEL m Addr.MAC_NODE_RELAY 15 0
  if cfgB s Addr.MAC_MEMB_CFG0 2 && isMachine s.part m && isMachine s.part v then some v else none

/-- The relay that a machine's frames go through (R300). -/
def viaRelay (s : State) (a : Nat) : Option Nat :=
  match relayOf s a with
  | some r => if (node s r).st ≠ .free ∧ (node s r).home = (node s a).home ∧ nodeVia s a = some r then some r else none
  | none => none

/-! Keys and life cycle (15_keys). -/

/-- The life-cycle state's code: the latest pair with a blown fuse (R386). -/
def lcState (s : State) : Nat :=
  if 0 < s.key.fuses.getD 3 0 then 4 else if 0 < s.key.fuses.getD 2 0 then 3
  else if 0 < s.key.fuses.getD 1 0 then 2 else if 0 < s.key.fuses.getD 0 0 then 1 else 0

/-- The world of a state: 0 vendor, 1 customer, 2 return, 3 none (R386, R408). -/
def lcWorld (lc : Nat) : Nat := if lc = 0 then 0 else if lc ≤ 2 then 1 else if lc = 3 then 2 else 3

/-- Customer-A is revoked (R392). -/
def revokedA (s : State) : Bool := decide (0 < s.key.revoke)

/-- Root i of vendor, customer-A, customer-B, return is programmed and passes its CRC (R390). -/
def rootOk (s : State) (i : Nat) : Bool := s.key.roots.getD i .blank == .valid

/-- Debug access is open in the customer world (R396, R407). -/
def dbgCust (s : State) : Bool := s.key.dbgOpen && lcWorld (lcState s) == 1

/-- The READY slot of a KEY_ID. -/
def readySlot (s : State) (id : Nat) : Option (Nat × KSlot) :=
  s.key.slots.find? (fun e => e.2.st == .ready && e.2.blob.keyId == id)

/-- K_RAD is usable: ROOT_OK (R404, 10_radio_frames R271). -/
def radioRootOk (s : State) : Bool :=
  !dbgCust s && (match readySlot s 1 with
    | some (_, x) => x.blob.masters.testBit 0 && x.blob.usage.testBit 3 && x.blob.lcMask.testBit (lcState s)
    | none => false)

/-! Bays, hods, tiles and the sweep (21_snag_sweep, 12_memory). -/

/-- What the sweep keeps of a bay. -/
def baySt (s : State) (b : Nat) : BaySt := kget BaySt.zero s.snag.bays b

/-- The engines of a bay of the part. -/
def bayEngines (s : State) (b : Nat) : List Nat :=
  engineIds.filter (fun e => isEngine s.part e && bayOf e == b)

/-- Restarts of a bay in the last 24 h (R503, R506). -/
def recentRestarts (s : State) (b : Nat) : Nat :=
  ((baySt s b).restarts.filter (fun t => decide (s.time.op < t + 86400000000000))).length

/-- A hod's record. -/
def hodOf (s : State) (h : Nat) : Hod := kget Hod.zero s.hod.hods h

/-- The consumer of a hod (R340, R347): 0xF0 the SAFE bay, 0xF1 the sequencer, else the engine that firmware
assigned at boot. -/
def hodConsumerOf (s : State) (h : Nat) : Nat := if h < 16 then 0xF0 else if h < 48 then 0xF1 else (hodOf s h).cons

/-- Lanes of an engine, its spare included (01_architecture R31). -/
def laneCount (e : Nat) : Nat :=
  match kindOf e with
  | 1 => 17
  | 2 => 9
  | 3 => 5
  | 7 => 5
  | _ => 0

/-- The engine is one that a test of a category names. -/
def snagUnit (p : Part) (c u : Nat) : Bool :=
  if c = 0 then isEngine p u && decide (0 < laneCount u)
  else if c = 1 then decide (u ≤ 1)
  else if c = 2 then kindOf u == 8 && isEngine p u
  else if c = 3 then isEngine p u && within 4 6 (kindOf u)
  else if c = 4 ∨ c = 5 then decide (u < 32)
  else if c = 6 then within 48 511 u
  else false

/-- Items of a unit. -/
def snagItems (c u : Nat) : Nat := if c = 0 then laneCount u else if c = 4 then 6272 else 1

/-- A test names an item of R495. -/
def snagItem (p : Part) (c u i : Nat) : Bool := snagUnit p c u && decide (i < snagItems c u)

/-- Items of a category. -/
def snagTotal (p : Part) (c : Nat) : Nat :=
  if c = 4 then 32 * 6272 else if c = 5 then 32 else if c = 6 then 464 else if c = 7 then 1
  else (engineIds.filter (fun u => snagUnit p c u)).foldl (fun n u => n + snagItems c u) 0

/-- The key of an item: its category, its unit and its place in it. -/
def snagKey (c u i : Nat) : Nat := c * 2 ^ 32 + u * 8192 + i

/-- Items that one pass visits: every category but the SAFE bay's own check (R495, R501). -/
def passTotal (p : Part) : Nat := (List.range 7).foldl (fun n c => n + snagTotal p c) 0

/-- A bank's record. -/
def bank (s : State) (b : Nat) : Bank := kget Bank.zero s.mem.banks b

/-- FREE of a bank (R337). -/
def stripFree (k : Bank) : Nat := 128 - k.retired.length - k.testing.length

/-! What the registers show of time, domains, groups and loops. -/

/-- A source by index 0 to 2. -/
def src (s : State) (k : Nat) : TimeSrc := s.time.srcs.getD k TimeSrc.reset

/-- PPS pulses arrive 1 s ± 1 ms apart (R369, 03_fix_inputs R88). -/
def ppsOk (s : State) (k : Nat) : Bool :=
  (src s k).spaced && match (src s k).lastAt with
    | some t => decide (s.time.op ≤ t + 1001000000)
    | none => false

/-- clockClass, clockAccuracy and timeSource announced (R381); ACQUIRE announces those of FREE. -/
def announceQual (s : State) : Nat × Nat × Nat :=
  match s.time.st with
  | .locked => if s.time.sel = some 2 then
      match s.time.master with
      | some m => (m.clockClass, m.accuracy, 0x40)
      | none => (248, 0xFE, 0xA0)
    else (6, 0x21, 0x20)
  | .hold => (7, 0xFE, 0xA0)
  | .free => (248, 0xFE, 0xA0)
  | .acquire => (248, 0xFE, 0xA0)

/-- The domains of the part, bit d for domain d (R509, 00_scope R2). -/
def domMask : Part → Nat
  | .szn2560 => 0xFFFF
  | .szn1280 => 0xFE7F

/-- The stop group of a machine (R190). -/
def groupOf (s : State) (m : Nat) : Nat :=
  cfg s (Addr.SAFE_GROUP + 4 * ((m - 1) / 8)) (4 * ((m - 1) % 8) + 2) (4 * ((m - 1) % 8))

/-- A loop of the machine is in HOLD (08_control_loops R234). -/
def loopHold (s : State) (m : Nat) : Bool := s.loop.loops.any (fun e => e.2.st == .hold && e.2.machine == m)

/-- The loop LOOP_SEL selects. -/
def selLoop (s : State) : Nat := cfg s Addr.LOOP_SEL 8 0

end Sys2Proof.Machine
end

