-- ==== Sys2Proof/Machine/Hash.lean ====
section
/-!
DEFINITION. The hash and check functions the spec gives by name and whose whole definition is public
and short: SHA-256 (02_journal R59, 17_host R440) and
CRC-32C with the parameters of 12_memory R325. Bytes are natural numbers below 256.
-/

namespace Sys2Proof.Machine

/-- A 32-bit word rotated right. -/
def rotr32 (n x : Nat) : Nat := (x / 2 ^ n) + (x % 2 ^ n) * 2 ^ (32 - n)

/-- The 64 round constants of SHA-256. -/
def sha256K : List Nat :=
  [0x428a2f98, 0x71374491, 0xb5c0fbcf, 0xe9b5dba5, 0x3956c25b, 0x59f111f1, 0x923f82a4, 0xab1c5ed5,
   0xd807aa98, 0x12835b01, 0x243185be, 0x550c7dc3, 0x72be5d74, 0x80deb1fe, 0x9bdc06a7, 0xc19bf174] ++
  [0xe49b69c1, 0xefbe4786, 0x0fc19dc6, 0x240ca1cc, 0x2de92c6f, 0x4a7484aa, 0x5cb0a9dc, 0x76f988da,
   0x983e5152, 0xa831c66d, 0xb00327c8, 0xbf597fc7, 0xc6e00bf3, 0xd5a79147, 0x06ca6351, 0x14292967] ++
  [0x27b70a85, 0x2e1b2138, 0x4d2c6dfc, 0x53380d13, 0x650a7354, 0x766a0abb, 0x81c2c92e, 0x92722c85,
   0xa2bfe8a1, 0xa81a664b, 0xc24b8b70, 0xc76c51a3, 0xd192e819, 0xd6990624, 0xf40e3585, 0x106aa070] ++
  [0x19a4c116, 0x1e376c08, 0x2748774c, 0x34b0bcb5, 0x391c0cb3, 0x4ed8aa4a, 0x5b9cca4f, 0x682e6ff3,
   0x748f82ee, 0x78a5636f, 0x84c87814, 0x8cc70208, 0x90befffa, 0xa4506ceb, 0xbef9a3f7, 0xc67178f2]

/-- The eight working words of SHA-256. -/
structure Sha256W where
  a : Nat
  b : Nat
  c : Nat
  d : Nat
  e : Nat
  f : Nat
  g : Nat
  h : Nat
  deriving DecidableEq, Repr

/-- The initial hash value of SHA-256. -/
def sha256Init : Sha256W :=
  ⟨0x6a09e667, 0xbb67ae85, 0x3c6ef372, 0xa54ff53a, 0x510e527f, 0x9b05688c, 0x1f83d9ab, 0x5be0cd19⟩

/-- Sum modulo 2^32. -/
def add32 (x y : Nat) : Nat := (x + y) % 0x100000000

/-- The complement of a 32-bit word. -/
def not32 (x : Nat) : Nat := 0xffffffff - x

/-- One round of the SHA-256 compression function. -/
def sha256Round (w : Sha256W) (k x : Nat) : Sha256W :=
  let s1 := (rotr32 6 w.e ^^^ rotr32 11 w.e) ^^^ rotr32 25 w.e
  let ch := (w.e &&& w.f) ^^^ (not32 w.e &&& w.g)
  let t1 := (w.h + s1 + ch + k + x) % 0x100000000
  let s0 := (rotr32 2 w.a ^^^ rotr32 13 w.a) ^^^ rotr32 22 w.a
  let mj := ((w.a &&& w.b) ^^^ (w.a &&& w.c)) ^^^ (w.b &&& w.c)
  ⟨(t1 + s0 + mj) % 0x100000000, w.a, w.b, w.c, add32 w.d t1, w.e, w.f, w.g⟩

/-- The next word of the message schedule from the last sixteen, oldest first. -/
def sha256Next (l : List Nat) : Nat :=
  let x1 := l.getD 1 0
  let x14 := l.getD 14 0
  let s0 := (rotr32 7 x1 ^^^ rotr32 18 x1) ^^^ (x1 / 8)
  let s1 := (rotr32 17 x14 ^^^ rotr32 19 x14) ^^^ (x14 / 1024)
  (l.getD 0 0 + s0 + l.getD 9 0 + s1) % 0x100000000

/-- The rounds over the remaining constants; `l` holds the sixteen schedule words from this round on. -/
def sha256Rounds : List Nat → List Nat → Sha256W → Sha256W
  | [], _, w => w
  | k :: ks, l, w => sha256Rounds ks (l.drop 1 ++ [sha256Next l]) (sha256Round w k (l.getD 0 0))

/-- One block: sixteen schedule words taken into the hash value. -/
def sha256Block (h : Sha256W) (l : List Nat) : Sha256W :=
  let w := sha256Rounds sha256K l h
  ⟨add32 h.a w.a, add32 h.b w.b, add32 h.c w.c, add32 h.d w.d,
   add32 h.e w.e, add32 h.f w.f, add32 h.g w.g, add32 h.h w.h⟩

/-- Big-endian 32-bit words of a byte list. -/
def words32 : List Nat → List Nat
  | a :: b :: c :: d :: r => (((a * 256 + b) * 256 + c) * 256 + d) :: words32 r
  | _ => []

/-- Blocks of sixteen words, at most `n` of them. -/
def sha256Blocks : Nat → List Nat → Sha256W → Sha256W
  | 0, _, h => h
  | n + 1, l, h => sha256Blocks n (l.drop 16) (sha256Block h (l.take 16))

/-- The padding of a message of `len` bytes. -/
def sha256Pad (len : Nat) : List Nat :=
  0x80 :: (List.replicate ((119 - len % 64) % 64) 0 ++ be 8 (len * 8))

/-- SHA-256 of a byte list, as 32 bytes. -/
def sha256 (m : List Nat) : List Nat :=
  let l := words32 (m ++ sha256Pad m.length)
  let h := sha256Blocks (l.length / 16) l sha256Init
  be 4 h.a ++ be 4 h.b ++ be 4 h.c ++ be 4 h.d ++ be 4 h.e ++ be 4 h.f ++ be 4 h.g ++ be 4 h.h

/-- One byte taken into a CRC-32C register, reflected polynomial 0x82F63B78 (12_memory R325). -/
def crc32cByte (c b : Nat) : Nat :=
  (List.range 8).foldl (fun c _ => if c % 2 = 1 then (c / 2) ^^^ 0x82F63B78 else c / 2) (c ^^^ b)

/-- CRC-32C of a byte list: initial value and final XOR all ones (12_memory R325). -/
def crc32c (m : List Nat) : Nat := (m.foldl crc32cByte 0xffffffff) ^^^ 0xffffffff

end Sys2Proof.Machine
end

