-- ==== Sys2Proof/Machine/Wire.lean ====
section
/-!
DEFINITION. Wire layouts, big-endian: journal entries (02_journal R42), the fix record (04_fix R117) and
the recorder's record (20_event_recorder R483).
-/

namespace Sys2Proof.Machine

open Sys2Proof

/-- Bytes of a decrypted body after the header (10_radio_frames R287 to R290). -/
def radioBodyLen : RadioBody → Nat
  | .up b => 18 + b.obsLen
  | .ack _ => 5
  | .joinReq _ => 20
  | .leave _ => 1
  | .pend _ => 4

/-- Bytes of a payload (02_journal R41). An RTCM frame is its length field plus six bytes. -/
def payloadLen : Payload → Nat
  | .sfMark => 0
  | .commit _ _ _ => 40
  | .radioRx _ _ b => 2 + 14 + radioBodyLen b
  | .refRtcm _ m => 2 + m.len + 6
  | .timeEvent _ _ _ _ => 28
  | .gmpReq _ _ _ b => 2 + 4 + 12 + (bodyWire b).length
  | .estop _ => 4
  | .fault _ _ _ => 4
  | .stateLoss _ _ _ => 4
  | .role _ => 4

/-- Bytes of an entry with padding and CRC (02_journal R42). -/
def entrySize (e : JEntry) : Nat := roundUp 4 (28 + payloadLen e.payload) + 4

/-- The TYPE of an entry (02_journal R41). -/
def payloadType : Payload → Nat
  | .sfMark => 0x01
  | .commit _ _ _ => 0x02
  | .radioRx _ _ _ => 0x10
  | .refRtcm _ _ => 0x11
  | .timeEvent _ _ _ _ => 0x18
  | .gmpReq _ _ _ _ => 0x20
  | .estop _ => 0x30
  | .fault _ _ _ => 0x31
  | .stateLoss _ _ _ => 0x32
  | .role _ => 0x38

/-- A time field of 12 bytes (14_station_time R367). -/
def timeWire (ns : Nat) : List Nat := be 8 (ns / 1000000000) ++ be 4 (ns % 1000000000)

/-- The payload bytes of the types whose bytes the model holds whole. -/
def payloadWire : Payload → List Nat
  | .sfMark => []
  | .commit st g d => [st, 0, 0, 0] ++ be 4 g ++ d
  | .timeEvent c src b a => [c, src, 0, 0] ++ timeWire b ++ timeWire a
  | .gmpReq s k r b =>
    [s, 0] ++ [k, 0, 0, 0] ++ ([0x01, bodyType b, 0, 0] ++ be 4 r ++ be 2 (bodyWire b).length ++ [0, 0]) ++ bodyWire b
  | .estop st => [st, 0, 0, 0]
  | .fault u c p => [u, c, p, 0]
  | .stateLoss k f i => [k, f] ++ be 2 i
  | .role r => [r, 0, 0, 0]
  | .radioRx _ _ _ => []
  | .refRtcm _ _ => []

/-- An entry on the wire (02_journal R42), for the types of `payloadWire`. -/
def entryWire (e : JEntry) : List Nat :=
  let p := payloadWire e.payload
  let b := [payloadType e.payload, 0] ++ be 2 p.length ++ be 6 e.sf ++ be 4 e.seq ++ be 2 e.source ++
    be 8 e.arrival ++ be 4 e.gen ++ p
  let c := b ++ List.replicate (roundUp 4 b.length - b.length) 0
  c ++ be 4 (crc32c c)

/-- Bytes 0 to 43 of a fix record (04_fix R117). -/
def fixRecHead (r : FixRec) : List Nat :=
  be 2 r.source ++ be 1 r.qual ++ be 1 r.flags ++ be 6 r.epoch ++ be 2 r.refId ++ be 4 (unsgn 32 r.x) ++
  be 4 (unsgn 32 r.y) ++ be 4 (unsgn 32 r.z) ++ be 2 (unsgn 16 r.vx) ++ be 2 (unsgn 16 r.vy) ++
  be 2 (unsgn 16 r.vz) ++ be 2 r.hpl ++ be 2 r.vpl ++ be 2 r.sigH ++ be 2 r.ratio ++ be 1 r.nsat ++
  be 1 r.nfix ++ be 1 r.age ++ be 1 r.hold ++ be 2 r.epochSeq

/-- A fix record, 48 bytes with its CRC (04_fix R117). -/
def fixRecWire (r : FixRec) : List Nat := fixRecHead r ++ be 4 (crc32c (fixRecHead r))

/-- Bytes 0 to 251 of a recorder record (20_event_recorder R483). -/
def evrHead (r : EvrRec) : List Nat :=
  be 2 0x4552 ++ [1, r.trig] ++ be 5 r.opSec ++ be 3 r.opUs ++ be 4 r.pcycle ++ be 4 r.seq ++ be 2 r.lost ++
  [r.flags, 0] ++ be 8 r.stS ++ be 4 r.stNs ++ be 6 r.jsf ++ be 4 r.jseq ++ be 2 r.detail.length ++
  (r.detail ++ List.replicate (108 - r.detail.length) 0) ++ r.snap.flatMap (fun w => be 4 w.toNat)

/-- A recorder record, 256 bytes with its CRC (20_event_recorder R483). -/
def evrWire (r : EvrRec) : List Nat := evrHead r ++ be 4 (crc32c (evrHead r))

end Sys2Proof.Machine
end

