-- ==== Sys2Proof/Machine/RegRead.lean ====
section
/-!
DEFINITION. What a register shows (00_scope R9, R15): the word held for its written fields and the bits
the device computes from its state. Each function gives the computed bits of one block's registers.
-/

namespace Sys2Proof.Machine

open Sys2Proof

/-- The place of an address in a family of registers, and past the last where it is not of it. -/
def idxOf (base stride n a : Nat) : Nat :=
  if base ≤ a ∧ (a - base) % stride = 0 ∧ (a - base) / stride < n then (a - base) / stride else n

/-- The first family that an address belongs to gives its bits; none gives zero. A family is its first address, stride
and count, with the bits of its register of an index. -/
def pickReg (a : Nat) : List (Nat × Nat × Nat × (Nat → Nat)) → Nat
  | [] => 0
  | (base, stride, n, f) :: r => if idxOf base stride n a < n then f (idxOf base stride n a) else pickReg a r

/-- One register that stands alone. -/
def one (base : Nat) (v : Nat) : Nat × Nat × Nat × (Nat → Nat) := (base, 4, 1, fun _ => v)

/-- Bits 31:0 and 47:32 of a value. -/
def lo32 (v : Nat) : Nat := v % 2 ^ 32

/-- Bytes 4k to 4k + 3 of a byte list, byte 4k in bits 7:0. -/
def byteWord (l : List Nat) (k : Nat) : Nat := ofLe ((l.drop (4 * k)).take 4)

/-- An engine's status register (04_fix R122, 05_track R158, 08_control_loops R242, 13_tables R366). -/
def engBits (s : State) (e : Nat) : Nat :=
  pack [(b2n (engEnabled s e), 0), (b2n (engOf s e).fenced, 1), (b2n (runningOn s e).isSome, 2),
    (sat 4 (engOf s e).lanes, 8), ((engOf s e).load, 16)]

/-- A W1C bit of a block is set (17_host R447). -/
def blockAlarm (s : State) (b : Nat) : Bool :=
  s.regs.force.any (fun e => blockOf (keyAddr e.1) == b &&
    (match findReg (keyAddr e.1) with
     | some d => d.w1c &&& e.2.toNat != 0
     | none => false))

/-- A staged copy differs from its value in force (02_journal R54, R62). -/
def anyStaged (s : State) : Bool :=
  s.regs.staged.any (fun e => blend (commitMask e.1) (forceW s e.1) e.2 != forceW s e.1) || s.scr.staged != s.scr.cov.zones || s.lkp.stagedRules != s.lkp.rules ||
  s.lkp.stagedStatics != s.lkp.statics

/-- TOP (02_journal R62, 17_host R447). -/
def roTop (a : Nat) (s : State) : Nat :=
  pickReg a
    [one Addr.TOP_ID (partCode s.part + 2 ^ 20),
     one Addr.TOP_ALARM_SUM (((List.range 19).map (fun b => b2n (blockAlarm s b) * 2 ^ b)).foldl (· + ·) 0),
     one Addr.TOP_GEN_STATUS (pack [(b2n (anyStaged s), 0), (b2n s.jr.commit.isSome, 1), (s.jr.lastStatus, 8)]),
     one Addr.TOP_GEN_CURRENT s.jr.gen,
     (Addr.TOP_DIGEST, 4, 8, fun k => byteWord s.jr.digest k),
     one Addr.TOP_CFG_ALARM (popc 256 s.jr.mismatch * 2 ^ 16),
     one Addr.TOP_JRNL_SF_LO (lo32 s.jr.lastSf),
     one Addr.TOP_JRNL_SF_HI s.jr.latHi,
     one Addr.TOP_JRNL_SEQ s.jr.latSeq]

/-- PCR (22_power R520). -/
def roPcr (a : Nat) (s : State) : Nat :=
  pickReg a
    [one Addr.PCR_STATUS (pack [(b2n s.pcr.pllLock, 0), (b2n s.pcr.refOk, 1), (b2n s.pcr.safeOsc, 2), (b2n s.pcr.wakeLow, 3)]),
     one Addr.PCR_RESET_CAUSE (pack [(s.pcr.cause, 0), (s.pcr.rail, 8)]),
     one Addr.PCR_DOM_STATUS (pack [(s.pcr.domOn % 2 ^ 16 &&& domMask s.part, 0), (0xFFFF - domMask s.part, 16)]),
     one Addr.PCR_RAIL_STATUS s.pcr.rails,
     one Addr.PCR_CTRL_STATUS s.pcr.ctrlStatus,
     one Addr.PCR_TEMP (unsgn 10 s.pcr.temp),
     (Addr.PCR_CNT_RESET, 4, 10, fun c => s.pcr.counts.getD c 0)]

/-- The machine that SAFE_MACH_SEL names: its status (07_motion_safety R214). -/
def safeMachBits (s : State) (m : Nat) : Nat :=
  let x := safeMach s m
  let left := if s.safe.cPermit.testBit (machineBit m) then
      x.sfLast + (cfg s Addr.SAFE_LEASE 6 0 - 1) - s.jr.sf else 0
  pack [(b2n (s.safe.permit.testBit (machineBit m)), 0), (b2n x.gate, 1), (b2n x.conf, 2), (b2n (loopHold s m), 3),
    (b2n (isAssoc s m), 4), (b2n x.flagged, 5), ((homePort s m).getD 0, 6), (x.lastCause, 8), (groupOf s m, 12),
    (min left 99, 16)]

/-- SAFE (07_motion_safety R214). -/
def roSafe (a : Nat) (s : State) : Nat :=
  let b := s.safe
  let est := match b.input with
    | .inputStop => 0
    | .inputRun => 1
    | .discrepant => 2
  let arm := match b.arm with
    | none => []
    | some r => [(r.token, 8), (1, 19), (b2n r.group.isSome, 20), (r.group.getD 0, 21)]
  pickReg a
    [one Addr.SAFE_CMD_STATUS (pack ([(b.lastStatus, 0), (b.reason, 16)] ++ arm)),
     one Addr.SAFE_STATUS (pack [(b2n b.latch, 0), (b2n b.dynOn, 1), (est, 2), (b2n b.chA.filt, 4), (b2n b.chB.filt, 5),
       (b.groups, 8), (popc 256 b.permit, 16)]),
     one Addr.SAFE_CAUSE (pack [(b.firstCause, 0), (b.lastCause, 4), (b.faultCode, 8), (b.origin, 16)]),
     one Addr.SAFE_EPOCH b.epoch,
     (Addr.SAFE_PERMIT, 4, 8, fun k => bitsOf b.permit (32 * k + 31) (32 * k)),
     one Addr.SAFE_MACH_STATUS (safeMachBits s (cfg s Addr.SAFE_MACH_SEL 15 0)),
     one Addr.SAFE_FAULT (b.faults % 2 ^ 7 * 2 ^ 16)]

/-- Tiles of 256 bytes that an entry in the staging area uses (12_memory R324, R329). -/
def stageTiles (s : State) (p : Nat × Nat) : Nat :=
  match s.jr.ring.find? (fun e => e.sf == p.1 && e.seq == p.2) with
  | some e => roundUp 256 (entrySize e) / 256
  | none => 1

/-- Staging tiles in use: those of the entries whose covered jobs have not retired (12_memory R329). -/
def stageUsed (s : State) : Nat :=
  let l := ((s.sched.jobs.filter (fun e => e.2.covered)).map (fun e => (e.2.sf, e.2.seq))).eraseDups
  l.foldl (fun n p => n + stageTiles s p) 0

/-- SCHED (11_scheduler R323). -/
def roSched (a : Nat) (s : State) : Nat :=
  let c := cfg s Addr.SCHED_CLASS_SEL 4 0
  let e := selEngine s
  let g := engOf s e
  let run := runningOn s e
  pickReg a
    [one Addr.SCHED_STATUS (pack [(s.sched.jobs.length, 0), (inFlight s, 16)]),
     one Addr.SCHED_DELAY s.sched.delay.length,
     one Addr.SCHED_SHARED (sharedFree s),
     (Addr.SCHED_KIND_DEPTH, 4, 9, fun k => kindDepth s k),
     one Addr.SCHED_LATE_LAST (pack [(s.sched.lateCls, 0), (s.sched.lateEng, 8), (sat 16 s.sched.lateOver, 16)]),
     one Addr.SCHED_CLASS_STATUS (pack [(classUsed s c, 0), (b2n (throttled s c), 13), (min (usedPct s c) 127, 14)]),
     one Addr.SCHED_ENG_STATUS (pack [(b2n (engEnabled s e), 0), (b2n g.fenced, 1), (b2n run.isSome, 2),
       (b2n ((run.map (fun x => x.2.snag)).getD false), 3), (b2n g.restart, 4), ((run.map (fun x => x.2.cls)).getD 0, 8),
       (g.load, 16)]),
     one Addr.SCHED_ENG_DEPTH (pack [(kindDepth s (kindOf e), 0),
       (kcount (fun _ j => j.preempted && j.engine == e && j.st == .ready) s.sched.jobs, 16)]),
     one Addr.SCHED_ENG_WAIT_MIN g.waitMin,
     one Addr.SCHED_ENG_WAIT_MAX g.waitMax,
     one Addr.SCHED_ENG_WAIT_MEAN g.waitMean,
     one Addr.SCHED_JOB_WORD (match kfind s.sched.jobs (cfg s Addr.SCHED_JOB_SEL 11 0) with
       | some j => byteWord (jobBytes j) 0
       | none => 0),
     (Addr.SCHED_JOB_WORD, 4, 10, fun m => s.sched.latched.getD (m - 1) 0)]

/-- MEM (12_memory R346). -/
def roMem (a : Nat) (s : State) : Nat :=
  let low := (List.range 32).filter (fun b => decide (stripFree (bank s b) ≤ cfg s Addr.MEM_CFG 6 0))
  pickReg a
    [one Addr.MEM_STATUS (pack [(b2n (s.pcr.phase == .strip), 0), (low.length, 16)]),
     one Addr.MEM_STAGE (min (stageUsed s) 1024),
     one Addr.MEM_LAST_ERR (pack [(s.mem.lastRegion, 0), (s.mem.lastBank, 8), (s.mem.outcome, 16)]),
     one Addr.MEM_STRIP (pack [(sat 8 s.mem.stripUs, 0), (sat 16 s.mem.strips, 16)]),
     (Addr.MEM_BANK_SPARE, 4, 32, fun b =>
       let k := bank s b
       pack [(stripFree k, 0), (k.retired.length, 8), (k.testing.length, 16), (sat 8 k.poison.length, 24)])]

/-- Producer of a hod (12_memory R340): of hods 0 to 8 the units of the table, of hods 16 to 47 and of the reserved
ones the other units of CORE, and otherwise what firmware assigned. -/
def hodProducer (s : State) (h : Nat) : Nat :=
  if within 3 6 h then 0x30 + (h - 3) else if h < 48 then 0xF2 else (hodOf s h).prod

/-- HOD (12_memory R347). -/
def roHod (a : Nat) (s : State) : Nat :=
  let h := cfg s Addr.HOD_SEL 8 0
  let x := hodOf s h
  pickReg a
    [one Addr.HOD_STATUS (pack [(min x.used 4095, 0), (b2n (x.used == 0), 12), (hodProducer s h, 16), (hodConsumerOf s h, 24)]),
     one Addr.HOD_CAP (pack [(x.cap % 4096, 0), (x.packets % 4096, 16)]),
     one Addr.HOD_ALARM (s.hod.last * 2 ^ 16)]

/-- A reference receiver's status (03_fix_inputs R89). -/
def refBits (s : State) (k : Nat) : Nat :=
  let r := if k = 0 then s.fix.rx0 else s.fix.rx1
  let st := match r.st with
    | .absent => 0
    | .candidate => 1
    | .usable => 2
    | .lost => 3
    | .refused => 4
  let sats := match r.epochs with
    | e :: _ => e.sats
    | [] => []
  let has (g : Gnss) := b2n (sats.any (fun o => o.sys == g))
  pack [(st, 0), (b2n (s.fix.primary == some k), 3), (b2n (ppsOk s k), 4), (has .gps, 6), (has .gal, 7), (has .bds, 8),
    (has .glo, 9), (r.sid % 4096, 12), (min r.qual 255, 24)]

/-- Satellites of a constellation that have an accepted set (R89); keys hold the constellation above 64. -/
def ephCount (s : State) (sys : Nat) : Nat := kcount (fun k x => k / 64 == sys && !x.sets.isEmpty) s.fix.eph

/-- FIX (03_fix_inputs R89, 04_fix R122). -/
def roFix (a : Nat) (s : State) : Nat :=
  let x := rover s (cfg s Addr.FIX_ROVER_SEL 15 0)
  let lc := match x.lc with
    | .empty => 0
    | .init => 1
    | .run => 2
  let new := x.newest
  pickReg a
    [(Addr.FIX_REF_STATUS, 4, 2, fun k => refBits s k),
     one Addr.FIX_EPH_STATUS (pack [(ephCount s 0, 0), (ephCount s 1, 8), (ephCount s 2, 16), (ephCount s 3, 24)]),
     one Addr.FIX_EPH_CNT_PEND (kcount (fun _ e => e.pend.isSome) s.fix.eph),
     (Addr.FIX_ENG_STATUS, 4, 12, fun k => engBits s (0x10 + k)),
     one Addr.FIX_SOL_LAT (sat 16 s.fix.latMean * 2 ^ 16),
     one Addr.FIX_LINK_STATUS (pack [(b2n (s.fix.rx0.st == .usable && s.fix.rx1.st == .usable), 0),
       (sat 8 s.fix.linkFix.length, 8), (sat 8 s.fix.linkFloat.length, 16)]),
     one Addr.FIX_ROVER_STATUS (pack [(lc, 0), ((new.map (fun r => r.qual)).getD 0 % 8, 2), (x.nstate % 256, 8),
       (x.ambs.length % 256, 16), ((new.map (fun r => r.nfix)).getD 0 % 256, 24)]),
     one Addr.FIX_ROVER_PL (pack [((new.map (fun r => r.hpl)).getD 0 % 65536, 0), ((new.map (fun r => r.vpl)).getD 0 % 65536, 16)])]

/-- SCR (05_track R158, 06_zones R184). -/
def roScr (a : Nat) (s : State) : Nat :=
  let cur := slotOfSf s s.jr.sf
  let m := cfg s Addr.SCR_MACH_SEL 15 0
  let c := s.scr.cov
  let live := ((List.range 8).map (fun i => b2n (c.desc m i).live * 2 ^ i)).foldl (· + ·) 0
  let pend := s.scr.inserts.any (fun p => p.machine == m) || s.scr.awards.any (fun w => w.machine == m)
  let last := s.scr.lastRound
  pickReg a
    [one Addr.SCR_SLOT_LO (lo32 cur),
     one Addr.SCR_SLOT_HI s.scr.latHi,
     one Addr.SCR_USE c.table.length,
     one Addr.SCR_DESC (kcount (fun _ d => d.live) c.descs),
     (Addr.SCR_ENG_STATUS, 4, 2, fun k => engBits s (0x20 + k)),
     one Addr.SCR_MACH_STATUS (pack [(live, 0), (b2n (safeMach s m).conf, 8), (b2n (c.holdsAt cur m cur), 9),
       (classOf s m, 12), (b2n pend, 16)]),
     one Addr.SCR_MACH_ENTRIES (kcount (fun _ e => e.owner == m - 1) c.table),
     one Addr.SCR_ALLOT_STATUS (pack [(kcount (fun _ t => t.st != .assigned) s.scr.tasks, 0),
       (kcount (fun _ t => t.st == .assigned) s.scr.tasks, 16)]),
     one Addr.SCR_ALLOT_LAST (pack [(sat 16 last.steps, 0), (last.awards, 16), (b2n last.trunc, 31)]),
     one Addr.SCR_ZONE_STATUS (pack [(s.scr.zoneStatus, 0), (b2n s.scr.zonePresent, 8), (sat 16 c.zones.length, 16)])]

/-- The status of the selected loop (08_control_loops R242). -/
def loopBits (x : Option Loop) : Nat :=
  match x with
  | none => 0
  | some l =>
    let st := match l.st with
      | .ready => 1
      | .run => 2
      | .hold => 3
    pack [(st, 0), (l.region % 8, 2), (b2n l.outSat, 5), (b2n l.iSat, 6), (b2n l.capActive, 7), (l.bad % 64, 8),
      (l.jc % 256, 16), (l.desc % 8, 24)]

/-- LOOP (08_control_loops R242). -/
def roLoop (a : Nat) (s : State) : Nat :=
  let x := kfind s.loop.loops (selLoop s)
  let get (f : Loop → Nat) := (x.map f).getD 0
  pickReg a
    [one Addr.LOOP_STATUS (loopBits x),
     one Addr.LOOP_OUT_INNER (get (fun l => l.out)),
     one Addr.LOOP_OUT_OUTER (get (fun l => l.o)),
     one Addr.LOOP_I_INNER (get (fun l => l.inner.i)),
     one Addr.LOOP_I_OUTER (get (fun l => l.outer.i)),
     one Addr.LOOP_LAST_EPOCH_LO (lo32 (get (fun l => l.lastEpoch))),
     one Addr.LOOP_LAST_EPOCH_HI s.loop.latHi,
     (Addr.LOOP_ENG_STATUS, 4, 4, fun k => engBits s (0x28 + k)),
     one Addr.LOOP_USE (pack [(kcount (fun _ l => l.st == .run) s.loop.loops, 0),
       (kcount (fun _ l => l.st == .hold) s.loop.loops, 10), (s.loop.loops.length, 20)])]

/-- The enabled ports' kinds of one slot over the plans in force (09_radio_ports R263). -/
def slotKinds (s : State) (n slot : Nat) : List Nat :=
  (((List.range 4).filter (portEn s)).map (fun k => entKind ((planOf s k).entry n slot)))

/-- DIR_MIX (09_radio_ports R263). -/
def dirMix (s : State) : Bool :=
  (List.range 10).any fun n => (List.range 40).any fun i =>
    let l := slotKinds s n i
    l.any (fun k => k == 1 || k == 3 || k == 4) && l.any (fun k => k == 2 || k == 5 || k == 6)

/-- The code of a port's state (R265, R267). -/
def portStCode : PortSt → Nat
  | .off => 0
  | .discover => 1
  | .up => 2
  | .down => 3

/-- The registers of a port (09_radio_ports R267). -/
def portBits (s : State) (k o : Nat) : Nat :=
  let p := port s k
  pickReg o
    [one 0x04 (pack [(portStCode p.st, 0), (b2n p.sw.isSome, 2), (b2n (engOf s (0x30 + k)).fenced, 3),
       (if p.st = .down then p.reason else 0, 4), (upMax p.air, 8), (p.gen, 16)]),
     one 0x08 (lo32 (p.sw.getD 0)),
     one 0x0C p.latSw,
     (0x20, 4, 8, fun m => byteWord p.ident m)]

/-- Addresses of machines or of pendants in a state. -/
def countNodes (s : State) (machine : Bool) (st : AddrState) : Nat :=
  kcount (fun i n => (if machine then isMachine s.part i else isPendant i) && n.st == st) s.memb.nodes

/-- The registers of the selected address (10_radio_frames R302). -/
def nodeBits (s : State) (a : Nat) : Nat :=
  let m := cfg s Addr.MAC_NODE_SEL 15 0
  let n := node s m
  let st := match n.st with
    | .free => 0
    | .assoc => 1
    | .held => 2
  let bound := kfind s.memb.binds m
  let eui := if n.st = .free then bound.getD 0 else n.eui
  pickReg a
    [one Addr.MAC_NODE_STATUS (pack [(st, 0), (b2n n.sleepy, 2), (b2n n.relayCap, 3), (n.home, 4),
       (b2n (viaRelay s m).isSome, 6), (b2n bound.isSome, 7), (min n.wakeMiss 8, 8)]),
     one Addr.MAC_NODE_EUI_LO (lo32 eui),
     one Addr.MAC_NODE_EUI_HI (eui / 2 ^ 32),
     one Addr.MAC_NODE_WAKE (pack [(n.period % 256, 0), (n.phase % 256, 8), (n.wslot % 256, 16), (n.clkPpm % 256, 24)]),
     one Addr.MAC_NODE_SEQ (pack [(n.txSeq % 256, 0), (n.rxLast % 256, 8)]),
     one Addr.MAC_NODE_WIN (lo32 n.rxMap)]

/-- MAC (09_radio_ports R267, 10_radio_frames R302). -/
def roMac (a : Nat) (s : State) : Nat :=
  if within Addr.MAC_P_CFG (Addr.MAC_P_CFG + 0x3FF) a then portBits s ((a - Addr.MAC_P_CFG) / 0x100) ((a - Addr.MAC_P_CFG) % 0x100)
  else if within Addr.MAC_NODE_STATUS Addr.MAC_NODE_WIN a then nodeBits s a
  else
    let ups := ((List.range 4).map (fun k => b2n ((port s k).st == .up) * 2 ^ k)).foldl (· + ·) 0
    let next := ((List.range 4).map (fun k => b2n (port s k).sw.isSome * 2 ^ k)).foldl (· + ·) 0
    let wide := (List.range 4).any (fun k => portEn s k && decide (26 < upMax (planOf s k)))
    pickReg a
      [one Addr.MAC_STATUS (pack [(ups, 0), (next, 4), (b2n (dirMix s), 8), (b2n wide, 9)]),
       one Addr.MAC_MEMB_STATUS (pack [(countNodes s true .assoc, 0), (countNodes s true .held, 9),
         (countNodes s false .assoc, 18), (countNodes s false .held, 23), (b2n (radioRootOk s), 28)])]

/-- LKP (13_tables R366). -/
def roLkp (a : Nat) (s : State) : Nat :=
  let x := s.lkp
  let lens := (x.rules.map (fun e => e.2.len)).eraseDups.length
  pickReg a
    [(Addr.LKP_PIPE_STATUS, 4, 2, fun p =>
       pack [(b2n (engEnabled s (0x3C + p)), 0), (b2n (engOf s (0x3C + p)).fenced, 1), ((pipe s p).bank, 2), (b2n x.catchup, 3),
         (sat 4 (engOf s (0x3C + p)).lanes, 8), ((engOf s (0x3C + p)).load, 16)]),
     (Addr.LKP_PIPE_EM, 4, 2, fun p => (pipe s p).live.length),
     one Addr.LKP_STATIC x.statics.length,
     one Addr.LKP_RULES (pack [(x.rules.length, 0), (lens, 24)]),
     one Addr.LKP_CMD_STATUS (pack [(x.cmdStatus, 0), (sat 16 (pipe s x.lastPipe).walkReloc, 16)]),
     (Addr.LKP_RES, 4, 4, fun m => (x.res.getD m 0#32).toNat),
     one Addr.LKP_RULE_STATUS (pack [(x.ruleStatus, 0), (b2n x.rulePresent, 8)])]

/-- NET (17_host R448). -/
def roNet (a : Nat) (s : State) : Nat :=
  pickReg a
    [(Addr.NET_PORT_STATUS, 4, 2, fun p =>
       pack [(b2n (s.gmp.link.getD p false), 0), (s.gmp.speed.getD p 0, 1), (b2n (engOf s (0x38 + p)).fenced, 3),
         ((engOf s (0x38 + p)).load, 16)]),
     (Addr.NET_SESS_STATUS, 4, 4, fun k => match session0 s k with
       | some x => pack [(2, 0), (x.ident, 2), (x.suite, 5),
           ((x.subs.map (fun u => 2 ^ u.1)).foldl (· + ·) 0 / 2, 8), (x.outstanding, 16)]
       | none => b2n (s.gmp.handshake.contains k))]
where
  session0 (s : State) (k : Nat) : Option Session := kfind s.gmp.sess k

/-- TIME (14_station_time R385). -/
def roTime (a : Nat) (s : State) : Nat :=
  let t := s.time
  let st := match t.st with
    | .acquire => 0
    | .locked => 1
    | .hold => 2
    | .free => 3
  let ptp (p : Nat) := (t.ptp.getD p ⟨0, []⟩).state % 16
  let srcSt (k : Nat) := match (src s k).st with
    | .absent => 0
    | .candidate => 1
    | .qualified => 2
    | .disagree => 3
  pickReg a
    [one Addr.TIME_UTC (t.utcPtp % 64 * 2 ^ 8),
     one Addr.TIME_STATUS (pack [(st, 0), ((t.sel.map (· + 1)).getD 0, 2), (b2n t.valid, 4), (ptp 0, 8), (ptp 1, 12),
       ((announceQual s).1, 16)]),
     (Addr.TIME_SRC_STATUS, 8, 3, fun k => pack [(srcSt k, 0), (min (src s k).count 15, 2)]),
     (Addr.TIME_SRC_OFFSET, 8, 3, fun k => unsgn 32 (clampI (-2147483648) 2147483647 (src s k).e)),
     one Addr.TIME_FREQ (unsgn 32 ((t.servo + t.slew) / 1000)),
     one Addr.TIME_NOW_S_LO (lo32 (t.ns / 1000000000)),
     one Addr.TIME_NOW_S_HI t.latHi,
     one Addr.TIME_NOW_NS t.latNs,
     one Addr.TIME_NOW_FRAC t.latFrac,
     one Addr.TIME_SET_STATUS (pack [(t.setStatus, 0), (b2n t.set.isSome, 8), (b2n t.hold.isSome, 9)]),
     (Addr.TIME_TRIG_STATUS, 0x20, 8, fun k =>
       let g := t.trigs.getD k ⟨false, 0, 0⟩
       pack [(b2n g.armed, 0), (sat 16 g.fired, 16)])]

/-- KEY (15_keys R408). -/
def roKey (a : Nat) (s : State) : Nat :=
  let k := s.key
  let valid (i : Nat) := match s.nvm.flash.keys.getD i .blank with
    | .valid _ => 1
    | _ => 0
  let arm := match k.arm with
    | none => []
    | some r => [(r.token, 8), (1, 16), (if r.revoke then 2 else 1, 17), (r.target % 8, 19)]
  let roots := ((List.range 4).map (fun i => b2n (rootOk s i) * 2 ^ i)).foldl (· + ·) 0
  let sl := kfind k.slots (cfg s Addr.KEY_SLOT_SEL 5 0)
  pickReg a
    [one Addr.KEY_LC_STATUS (pack [(lcState s, 0), (roots, 4), (b2n (revokedA s), 8), (b2n k.dbgOpen, 9), (lcWorld (lcState s), 10)]),
     one Addr.KEY_LC_CMD_STATUS (pack ([(k.lcStatus, 0)] ++ arm)),
     one Addr.KEY_UID_LO (lo32 k.uid),
     one Addr.KEY_UID_HI (k.uid / 2 ^ 32),
     one Addr.KEY_RING_STATUS (pack [(k.active, 0), (valid 0, 1), (valid 1, 2), (k.ring.blobs.length, 16)]),
     one Addr.KEY_RING_GEN k.ring.gen,
     one Addr.KEY_CMD_STATUS (pack [(k.cmdStatus, 0), (b2n (!k.writes.isEmpty), 8)]),
     one Addr.KEY_STORE_STATUS (pack [(k.slots.length, 0), (kcount (fun _ x => x.blob.flags % 2 == 1) k.slots, 8),
       (kcount (fun _ x => x.st == .stale) k.slots, 16)]),
     one Addr.KEY_SLOT_INFO (match sl with
       | none => 0
       | some x => pack [(if x.st = .ready then 2 else 3, 0), (x.blob.typ % 8, 2), (x.blob.flags % 2, 5),
           (sat 8 x.running, 8), (x.blob.keyId % 65536, 16)]),
     one Addr.KEY_SLOT_GEN ((sl.map (fun x => x.blob.gen)).getD 0),
     (Addr.KEY_DBG_CHAL, 4, 4, fun m => (k.chal.getD m 0#32).toNat),
     one Addr.KEY_DBG_STATUS (pack [(k.dbgStatus, 0), (min k.fails 3, 8), (b2n (decide (3 ≤ k.fails)), 10)])]

/-- EVR (20_event_recorder R494). -/
def roEvr (a : Nat) (s : State) : Nat :=
  let e := s.evr
  pickReg a
    [one Addr.EVR_STATUS (pack [(e.queue.length, 0), (b2n e.writing.isSome, 5), (b2n e.erasing.isSome, 6), (b2n e.full, 7),
       (b2n e.logOk, 8)]),
     one Addr.EVR_TOTAL e.total,
     one Addr.EVR_CAPACITY e.cap,
     one Addr.EVR_OPSEC_LO (lo32 (s.time.op / 1000000000)),
     one Addr.EVR_OPSEC_HI e.latHi,
     one Addr.EVR_PCYCLE e.latPc,
     one Addr.EVR_SEQ e.latSeq]

/-- The blocks held of the transfer (19_firmware R473, R475). -/
def updBlocks (s : State) : KMap (List Nat) :=
  if s.upd.st = .idle then [] else (s.nvm.flash.fw.getD (1 - s.nvm.fwSlot) ⟨[], false⟩).blocks

/-- Blocks of 2,048 bytes of a transfer (R475). -/
def updCount (s : State) : Nat := roundUp 2048 s.upd.length / 2048

/-- The offset of the first missing block, or LENGTH (R473). -/
def updMissing (s : State) : Nat :=
  match (List.range (updCount s)).find? (fun i => (kfind (updBlocks s) i).isNone) with
  | some i => 2048 * i
  | none => s.upd.length

/-- The code of a transfer's state (R473). -/
def updStCode : UpdSt → Nat
  | .idle => 0
  | .erasing => 1
  | .receiving => 2
  | .verified => 3
  | .failed => 4

/-- UPD (19_firmware R482). -/
def roUpd (a : Nat) (s : State) : Nat :=
  let u := s.upd
  let r := s.nvm.run
  let left := match u.trialFrom with
    | some t => cfg s Addr.UPD_CFG 19 0 - (s.time.op - t) / 1000000000
    | none => cfg s Addr.UPD_CFG 19 0
  pickReg a
    [one Addr.UPD_STATUS (pack [(updStCode u.st, 0), (u.target % 4, 3), (u.fail % 8, 5), (u.lastStatus, 8), (b2n u.trial, 16)]),
     one Addr.UPD_LENGTH u.length,
     one Addr.UPD_RECEIVED (updBlocks s).length,
     one Addr.UPD_MISSING (updMissing s),
     one Addr.UPD_RUN_ID_LO r.build,
     one Addr.UPD_RUN_ID_HI r.version,
     one Addr.UPD_RUN_CLASS r.cls,
     one Addr.UPD_RUN_SET (pack [(r.setFormat, 0), (r.setRead, 16)]),
     one Addr.UPD_TRIAL_LEFT (if u.trial then left else 0)]

/-- The code of a role (16_pair R426). -/
def roleCode : Role → Nat
  | .unpaired => 0
  | .seek => 1
  | .active => 2
  | .standby => 3
  | .fenced => 4

/-- PAIR (16_pair R426). -/
def roPair (a : Nat) (s : State) : Nat :=
  let p := s.pair
  let cs := match p.copy.st with
    | .none => 0
    | .sending => 1
    | .receiving => 2
    | .applying => 3
  pickReg a
    [one Addr.PAIR_STATUS (pack [(roleCode p.role, 0), (b2n p.sync, 3), (b2n (eligible s), 4), (b2n p.link.up, 5), (b2n p.wit.up, 6),
       (b2n p.elig, 7), (p.partner.getD 0 % 4, 8), (cs, 10), ((if p.role = .standby then eligReason s else p.why) % 16, 12)]),
     one Addr.PAIR_CTRL_STATUS p.ctrlStatus,
     one Addr.PAIR_PARTNER_UID_LO (lo32 (p.uid.getD 0)),
     one Addr.PAIR_PARTNER_UID_HI (p.uid.getD 0 / 2 ^ 32),
     one Addr.PAIR_ACK_SF_LO (lo32 p.ack.1),
     one Addr.PAIR_ACK_SF_HI p.latHi,
     one Addr.PAIR_ACK_SEQ p.latSeq,
     one Addr.PAIR_LAG (sat 16 p.fwd.length),
     one Addr.PAIR_COPY (pack [(p.copy.epoch % 65536, 0),
       (if p.copy.nchunk = 0 then 0 else sat 16 (p.copy.got.length * 65536 / p.copy.nchunk), 16)])]

/-- Minutes since the item of a category tested longest ago, and its items not yet tested (21_snag R506). -/
def snagAge (s : State) (c : Nat) : Nat :=
  let l := s.snag.tested.filter (fun e => e.1 / 2 ^ 32 == c)
  let old := l.foldl (fun m e => max m (s.time.op - e.2)) 0
  pack [(sat 16 (old / 60000000000), 0), (sat 16 (snagTotal s.part c - l.length), 16)]

/-- SNAG (21_snag R506). -/
def roSnag (a : Nat) (s : State) : Nat :=
  let run := (s.snag.restart.map (fun r => r.bay)).getD 0
  pickReg a
    [one Addr.SNAG_STATUS (pack [(min (s.snag.pass.length * 1000 / passTotal s.part) 1000, 0), (run, 12)]),
     one Addr.SNAG_PASSES s.snag.passes,
     (Addr.SNAG_AGE, 4, 8, fun c => snagAge s c),
     one Addr.SNAG_CTRL_STATUS s.snag.ctrlStatus,
     (Addr.SNAG_BAY_STATUS, 4, 15, fun i =>
       let b := i + 1
       let x := baySt s b
       if !isBay s.part b then 3
       else pack [(if run = b then 1 else if x.failed then 2 else 0, 0), (sat 8 (recentRestarts s b), 4), (sat 12 x.lastMs, 16)])]

/-- NVM (18_boot R470). -/
def roNvm (a : Nat) (s : State) : Nat :=
  let n := s.nvm
  let ok (i : Nat) := b2n (n.ch.getD i ⟨0, false⟩).ok
  pickReg a
    [one Addr.NVM_BOOT_STATUS (pack [(n.fwSlot, 0), (b2n n.fallback, 1), (b2n n.unsigned, 2), (n.setSlot, 3), (n.setReason, 5),
       (n.lastHalt, 8), (b2n s.jr.hostless, 16)]),
     one Addr.NVM_LAYOUT (pack [(b2n n.mirror, 0), (ok 0, 1), (ok 1, 2), (n.hdrCopy, 3)]),
     one Addr.NVM_HDR_GEN n.hdrGen,
     one Addr.NVM_PRIMER_LEN n.primerLen,
     (Addr.NVM_PRIMER_HASH, 4, 8, fun k => byteWord n.primerHash k),
     one Addr.NVM_SET_STATUS (pack [(b2n n.writing.isSome, 0), (n.lastStatus, 8)]),
     one Addr.NVM_SET_WCOUNT n.wcount,
     (Addr.NVM_CH_SIZE, 4, 2, fun i => (n.ch.getD i ⟨0, false⟩).size % 512)]

/-- The computed bits of a register: HOD and every other block by its window (17_host R446). -/
def roBits (a : Nat) (s : State) : Nat :=
  match ([roTop, roPcr, roSafe, roSched, roMem, roHod, roFix, roScr, roLoop, roMac, roLkp, roNet, roTime, roKey, roEvr,
    roUpd, roPair, roSnag, roNvm] : List (Nat → State → Nat))[blockOf a]? with
  | some f => f a s
  | none => 0

/-- The word a register shows, without any effect of a read (20_event_recorder R487). An unassigned
address, and a register of an absent unit, reads as zero (00_scope R2, R7). -/
def readPlain (a : Nat) (s : State) : Word :=
  if absentReg s.part a || (findReg a).isNone then 0#32
  else
    let w := lastW s (accessKey s a) ||| wordOf (roBits a s)
    if s.part == .szn1280 && a == Addr.FIX_ENG_CTRL then w &&& 0x3F#32 else w

end Sys2Proof.Machine
end

