-- ==== Sys2Proof/Machine/Ops.lean ====
section
/-!
DEFINITION. The operations the commands share: station time, outputs, the event recorder's capture, the
journal's sequencer, GMP requests with their replay cache, and notifications.
-/

namespace Sys2Proof.Machine

open Sys2Proof

/-! Station time (14_station_time R367, R368; 02_journal R43). -/

/-- The station time at which a superframe starts (02_journal R43). -/
def sfStart (sf : Nat) : Nat := sf * 20000000

/-- The start of slot `slot` of a superframe (09_radio_ports R253). -/
def slotStart (sf slot : Nat) : Nat := sf * 20000000 + slot * 500000

/-- GPS milliseconds of the start of a superframe (03_fix_inputs R71, R74). -/
def gpsMs (sf : Nat) : Nat := sf * 20 - 315964819000

/-- Station time carried forward to an instant; it never moves back. The operating time moves with it. -/
def advTo (ns : Nat) (s : State) : State :=
  if s.time.ns < ns then s.updTime fun t => { t with ns := ns, frac := 0, op := t.op + (ns - t.ns) } else s

/-- Station time carried forward so that the operating time reaches an instant. -/
def advOp (op : Nat) (s : State) : State :=
  if s.time.op < op then s.updTime fun t => { t with op := op, ns := t.ns + (op - t.op), frac := 0 } else s

/-! Outputs and roles. -/

/-- An output appended. -/
def emit (o : Output) (s : State) : State := s.updOut (fun l => l ++ [o])

/-- The journal has begun and the unit holds the token (14_station_time R373, 16_pair R410, R418). -/
def onDuty (s : State) : Bool := s.jr.started && holdsToken s

/-- The sequencer may write entries: a handover that has been taken opens with its own mark (16_pair R423). -/
def canWrite (s : State) : Bool := onDuty s && s.pair.roleDue != some 2

/-! The event recorder (20_event_recorder R484 to R491). -/

/-- A trigger ID that the spec reserves (R486). -/
def evrReserved (t : Nat) : Bool := t == 0 || within 0x0D 0x0F t || decide (0x28 ≤ t)

/-- A trigger is enabled (R487): IDs 0x01 to 0x0C always. -/
def evrEnabled (s : State) (t : Nat) : Bool :=
  !evrReserved t && (decide (t ≤ 0x0C) || cfgB s (Addr.EVR_TRIG_EN + 4 * (t / 32)) (t % 32))

/-- The snapshot words of a trigger (R487). -/
def evrSnap (s : State) (t : Nat) : List Word :=
  (List.range 24).map fun w =>
    let a := (forceW s (rkey (Addr.EVR_SNAP + 0x60 * t + 4 * w))).toNat
    if a = 0xFFFFFFFF then 0#32 else readPlain a s

/-- The FLAGS of a record captured now (R483, R485). -/
def evrFlags (s : State) : Nat :=
  let back := match s.evr.prevSt with
    | some p => decide (now s < p)
    | none => false
  b2n s.time.valid + 2 * b2n back + 4 * b2n s.evr.setSince + 8 * b2n (holdsToken s)

/-- The record a trigger captures (R483, R488). -/
def evrCapture (t : Nat) (detail : List Nat) (s : State) : EvrRec :=
  { trig := t, opSec := s.time.op / 1000000000, opUs := s.time.op % 1000000000 / 1000, pcycle := s.evr.pcycle,
    seq := s.evr.seq, lost := sat 16 s.evr.lost, flags := evrFlags s, stS := now s / 1000000000,
    stNs := now s % 1000000000, jsf := s.jr.lastSf, jseq := s.jr.lastSeq, detail := detail, snap := evrSnap s t }

/-- The record written at TOTAL = C - 1 in place of another (R491). -/
def evrFullRec (r : EvrRec) : EvrRec := { r with trig := 0x04, detail := [r.trig] }

/-- One record taken from the head of the queue when no write runs: its write starts, or it is
discarded from a full log (R488, R491). `n` bounds the records discarded at once. -/
def evrKick : Nat → State → State
  | 0, s => s
  | n + 1, s =>
    if s.evr.writing.isSome || s.evr.erasing.isSome || !s.evr.logOk then s
    else match s.evr.queue with
      | [] => s
      | r :: q =>
        if s.evr.cap ≤ s.evr.total then
          evrKick n (bump Addr.EVR_CNT_DISCARDED (s.updEvr fun e => { e with queue := q }))
        else if s.evr.total + 1 = s.evr.cap then
          alarm Addr.EVR_ALARM 1
            (s.updEvr fun e => { e with queue := q, writing := some (evrFullRec r), again := false, full := true })
        else s.updEvr fun e => { e with queue := q, writing := some r, again := false }

/-- A trigger (R486 to R488): captured into the queue of 16, or lost and counted; an ID that is not
enabled is neither. -/
def evTrig (t : Nat) (detail : List Nat) (s : State) : State :=
  if !evrEnabled s t then s
  else if s.evr.queue.length ≥ 16 then
    alarm Addr.EVR_ALARM 0 (bump Addr.EVR_CNT_LOST (s.updEvr fun e => { e with lost := e.lost + 1 }))
  else
    let r := evrCapture t detail s
    evrKick 17 (s.updEvr fun e =>
      { e with queue := e.queue ++ [r], seq := e.seq + 1, lost := 0, prevSt := some (now s), setSince := false })

/-- A standby's covered state no longer follows its partner's: SYNC clears for a reason of 16_pair R420, with the
partner alarm of 02_journal R50 and R51 and the record of 20_event_recorder R486. -/
def unsync (reason : Nat) (s : State) : State :=
  if s.pair.role = .standby ∧ s.pair.sync then
    let s1 := s.updPair fun p => { p with sync := false, why := reason }
    evTrig 0x21 ([reason] ++ be 4 s1.pair.copy.epoch) (alarm Addr.TOP_CFG_ALARM 0 (alarm Addr.PAIR_ALARM 2 s1))
  else s

/-- The record of ELIGIBLE cleared by what led from `old` to `s` (20_event_recorder R486). -/
def eligWatch (old s : State) : State :=
  if eligible old && !eligible s && s.pair.sync then evTrig 0x21 ([eligReason s] ++ be 4 s.pair.copy.epoch) s else s

/-! Notifications (17_host R442 to R444). -/

/-- Bytes of an item's body. -/
def itemLen : NItem → Nat
  | .bytes _ b => b.length
  | .entry _ n => n

/-- Bytes of the items with their headers (R443). -/
def itemsLen (l : List NItem) : Nat := l.foldl (fun n i => n + 4 + itemLen i) 0

/-- Bytes of a NOTIFY message: header, body head and items. -/
def notifyLen (l : List NItem) : Nat := 12 + 8 + itemsLen l

/-- The NOTIFY of a pack built into a session's queue of 64 KiB, or dropped; NSEQ is used either way. The
flag says it was dropped. -/
def buildNotify (topic : Nat) (x : Session) : Session × Bool :=
  match kfind x.subs topic with
  | none => (x, false)
  | some u =>
    if u.pack.isEmpty then (x, false)
    else
      let n := notifyLen u.pack
      let used := x.queue.foldl (fun a m => a + m.bytes) 0
      let u' := { u with pack := [], nseq := (u.nseq + 1) % 2 ^ 32 }
      if used + n > 65536 then ({ x with subs := kins x.subs topic u' }, true)
      else ({ x with subs := kins x.subs topic u', queue := x.queue ++ [⟨topic, u.nseq, u.pack, n⟩] }, false)

/-- An item added to a session's pack of a topic; a pack that it would take past 1,400 bytes is built
first (R443). -/
def packItem (topic : Nat) (i : NItem) (x : Session) : Session × Bool :=
  match kfind x.subs topic with
  | none => (x, false)
  | some u =>
    let r := if u.pack.isEmpty || notifyLen (u.pack ++ [i]) ≤ 1400 then (x, false) else buildNotify topic x
    match kfind r.1.subs topic with
    | none => r
    | some v => ({ r.1 with subs := kins r.1.subs topic { v with pack := v.pack ++ [i] } }, r.2)

/-- An item delivered to every session that subscribes to its topic and whose MASK passes `p` (R442). -/
def notify (topic : Nat) (p : Nat → Bool) (i : NItem) (s : State) : State :=
  let step (acc : KMap Session × Nat) (e : Nat × Session) : KMap Session × Nat :=
    match kfind e.2.subs topic with
    | some u => if p u.mask then
        let r := packItem topic i e.2
        (acc.1 ++ [(e.1, r.1)], acc.2 + b2n r.2)
      else (acc.1 ++ [e], acc.2)
    | none => (acc.1 ++ [e], acc.2)
  let r := s.gmp.sess.foldl step ([], 0)
  let s1 := s.updGmp fun g => { g with sess := r.1 }
  if r.2 = 0 then s1 else bumpF (Addr.NET_CNT + 24) 31 0 r.2 s1

/-- A MASK that names a machine (R442). -/
def maskHas (machine : Nat) (mask : Nat) : Bool := mask.testBit (machineBit machine)

/-! The journal (02_journal R41 to R44, R51, R52). -/

/-- Position `a` stands before position `b` (02_journal R43). -/
def posLt (a b : Nat × Nat) : Bool := decide (a.1 < b.1 ∨ (a.1 = b.1 ∧ a.2 < b.2))

/-- Position `a` stands at or before position `b`. -/
def posLe (a b : Nat × Nat) : Bool := !posLt b a

/-- The position of an entry. -/
def epos (e : JEntry) : Nat × Nat := (e.sf, e.seq)

/-- Bytes held by a ring. -/
def ringBytes (l : List JEntry) : Nat := l.foldl (fun n e => n + entrySize e) 0

/-- The last position every reader has taken, where there is a reader (02_journal R52). -/
def takenBy (s : State) : List (Nat × Nat) :=
  s.jr.partner.toList ++ s.gmp.sess.filterMap (fun e => (kfind e.2.subs 6).map (fun u => u.acked))

/-- Entries that every reader has taken leave the ring (02_journal R52). -/
def freeRing (s : State) : State :=
  let t := takenBy s
  let keep (e : JEntry) : Bool := t.any (fun p => posLt p (epos e))
  s.updJr fun j => { j with ring := j.ring.filter keep,
                            gone := ((j.ring.filter (fun e => !keep e)).getLast?.map epos).getD j.gone }

/-- Entries dropped from the front until the ring fits 4 MiB. -/
def trimRing : Nat → List JEntry → List JEntry × List JEntry
  | 0, l => ([], l)
  | n + 1, l => if ringBytes l ≤ 4194304 then ([], l) else match l with
    | [] => ([], [])
    | e :: r => let x := trimRing n r; (e :: x.1, x.2)

/-- A gap notice: the first and the last lost position (17_host R443). -/
def gapItem (a b : Nat × Nat) : NItem := .bytes 9 (be 6 a.1 ++ be 4 a.2 ++ be 6 b.1 ++ be 4 b.2)

/-- The oldest entries overwritten when the ring is full: readers that had not taken them lose them, and
JOURNAL_GAP is set (02_journal R52). -/
def overwriteRing (s : State) : State :=
  let x := trimRing s.jr.ring.length s.jr.ring
  match x.1 with
  | [] => s
  | f :: _ =>
    let l := x.1.getLast?.getD f
    let s1 := s.updJr fun j => { j with ring := x.2, gone := epos l }
    let s2 := alarm Addr.TOP_CFG_ALARM 2 s1
    let s3 := s2.updGmp fun g => { g with sess := g.sess.map (fun e =>
      match kfind e.2.subs 6 with
      | some u => if posLt u.acked (epos l) then
          (e.1, (packItem 6 (gapItem (epos f) (epos l)) { e.2 with subs := kins e.2.subs 6 { u with acked := epos l } }).1)
        else e
      | none => e) }
    match s3.jr.partner with
    | some p => if posLt p (epos l) then s3.updJr fun j => { j with partner := some (epos l) } else s3
    | none => s3

/-- An entry forwarded to a partner that reads the journal over a link that is up (02_journal R51, 16_pair R418). -/
def forward (e : JEntry) (s : State) : State :=
  if s.pair.role == .active && s.pair.link.up && s.jr.partner.isSome then
    let t := s.time.op
    emit (.forward e) (s.updPair fun p => { p with fwd := p.fwd ++ [((e.sf, e.seq), t)] })
  else s

/-- One entry written by the sequencer at the next position of the present superframe, kept in the ring
and sent to its readers (02_journal R42 to R44, R51). -/
def jWrite (source arrival : Nat) (p : Payload) (s : State) : State :=
  let e : JEntry := ⟨s.jr.sf, s.jr.nextSeq, source, arrival, s.jr.gen, p⟩
  let s1 := s.updJr fun j =>
    { j with ring := j.ring ++ [e], lastSf := e.sf, lastSeq := e.seq, nextSeq := e.seq + 1 }
  let s2 := forward e s1
  let s3 := notify 6 (fun _ => true) (.entry e (entrySize e)) s2
  let s4 := s3.updGmp fun g => { g with sess := g.sess.map (fun x =>
    match kfind x.2.subs 6 with
    | some u => (x.1, { x.2 with subs := kins x.2.subs 6 { u with sent := epos e } })
    | none => x) }
  overwriteRing (freeRing s4)

/-! GMP sessions, requests and responses (17_host R431 to R441). -/

/-- The session at a number, where it is open. -/
def session (s : State) (k : Nat) : Option Session := kfind s.gmp.sess k

/-- A session changed, where it is open. -/
def modSession (k : Nat) (f : Session → Session) (s : State) : State :=
  match kfind s.gmp.sess k with
  | some x => s.updGmp fun g => { g with sess := kins g.sess k (f x) }
  | none => s

/-- A response sent on a session; an error carries no body unless its type states one (R433). -/
def reply (sess typ reqId st : Nat) (body : List Nat) (s : State) : State :=
  emit (.gmp sess typ reqId st body) s

/-- An identity's rights in force hold right `b` (R432). -/
def hasRight (s : State) (ident b : Nat) : Bool :=
  (cfgW s Addr.NET_IDENT_SEL ident Addr.NET_IDENT_RIGHTS 8 0).testBit b

/-- The envelope checks of R433 on a record: its session, or none with the state after the rejection. -/
def gmpEnvelope (h : GmpHdr) (typ : Nat) (s : State) : State × Option Session :=
  match session s h.sess with
  | none => (bump (Addr.NET_CNT + 28) s, none)
  | some x =>
    let s1 := modSession h.sess (fun y => { y with lastAt := s.time.op, port := h.port }) s
    if h.recLen < 12 then (bump (Addr.NET_CNT + 28) s1, none)
    else
      let st := firstErr stOk [(h.version != 1, stVersion), (h.recLen != 12 + h.len, stField), (h.reqId == 0, stField)]
      if st ≠ stOk then (reply h.sess typ h.reqId st [] s1, none) else (s1, some x)

/-- The window of 32 requests is full (R435). -/
def windowFull (x : Session) : Bool := decide (32 ≤ x.outstanding)

/-- The envelope checks of R433 and the window of R435 for a request that makes no entry. -/
def gmpIntake (h : GmpHdr) (typ : Nat) (s : State) : State × Option Session :=
  match gmpEnvelope h typ s with
  | (s1, none) => (s1, none)
  | (s1, some x) =>
    if windowFull x then (reply h.sess typ h.reqId stBusy [] (bump (Addr.NET_CNT + 20) s1), none) else (s1, some x)

/-- A request that makes no entry (17_host R437): the right is checked, then `f` answers at once with
status and body. -/
def gmpPlain (h : GmpHdr) (typ right : Nat) (f : Session → State → State × (Nat × List Nat)) (s : State) : State :=
  match gmpIntake h typ s with
  | (s1, none) => s1
  | (s1, some x) =>
    if !hasRight s1 x.ident right then reply h.sess typ h.reqId stAuth [] s1
    else
      let r := f x s1
      reply h.sess typ h.reqId r.2.1 r.2.2 r.1

/-- The context in which a journalled request is decided: session, identity, REQ_ID and position. -/
structure ReqCtx where
  sess : Nat
  ident : Nat
  reqId : Nat
  pos : Nat × Nat
  /-- The request is applied from a forwarded entry, with its output suppressed (16_pair R418). -/
  replay : Bool
  deriving DecidableEq, Repr

/-- The waiter of a request in progress. -/
def ReqCtx.waiter (c : ReqCtx) : Waiter := ⟨c.ident, c.reqId⟩

/-- The cache entry of a REQ_ID, newest first in the list. -/
def cacheFind (l : List CacheEnt) (reqId : Nat) : Option CacheEnt := l.find? (fun e => e.reqId == reqId)

/-- The replay cache with an entry added; 64 are kept for an identity (R440). -/
def cachePush (ident : Nat) (e : CacheEnt) (s : State) : State :=
  s.updGmp fun g => { g with cache := kmod [] g.cache ident (fun l => (e :: l).take 64) }

/-- The first 8 bytes of the SHA-256 of the TYPE byte followed by the body (R440). -/
def reqHash (b : GmpBody) : Nat := ofBe ((sha256 (bodyType b :: bodyWire b)).take 8)

/-- A journalled request completes: its response is cached and sent to the session that waits for it,
where that session is still the identity's (R440). -/
def completeReq (w : Waiter) (st : Nat) (body : List Nat) (s : State) : State :=
  let l := kget [] s.gmp.cache w.ident
  match l.find? (fun e => e.reqId == w.reqId && e.resp.isNone) with
  | none => s
  | some e =>
    let r : Resp := ⟨e.typ, st, body⟩
    let l' := l.map (fun x => if x.reqId = w.reqId ∧ x.resp = none then { x with resp := some r } else x)
    let s1 := s.updGmp fun g => { g with cache := kset [] g.cache w.ident l' }
    match session s1 e.sess with
    | some x => if x.ident = w.ident ∧ holdsToken s1 then
        modSession e.sess (fun y => { y with outstanding := y.outstanding - 1 })
          (reply e.sess e.typ w.reqId st body s1)
      else s1
    | none => s1

/-- Jobs of a class admitted in the present superframe (11_scheduler R310). -/
def admitted (s : State) (cls : Nat) : Nat := if s.sched.admitSf = s.jr.sf then kget 0 s.sched.admitTo cls else 0

/-- One more job of a class asks for admission: the state with the count, and whether it is admitted
(11_scheduler R310). -/
def admitTo (cls : Nat) (s : State) : State × Bool :=
  let n := admitted s cls
  if n < cfgW s Addr.SCHED_CLASS_SEL cls Addr.SCHED_CLASS_CFG 30 20 then
    let m := kset 0 (if s.sched.admitSf = s.jr.sf then s.sched.admitTo else []) cls (n + 1)
    (s.updSched fun c => { c with admitSf := s.jr.sf, admitTo := m }, true)
  else
    (bumpW Addr.SCHED_CLASS_SEL cls Addr.SCHED_CLASS_CNT_REFUSED (bump Addr.SCHED_CNT_REFUSED s), false)

/-- What decides a journalled request at its position: the state after it and, where it completes at
once, its status and response body. -/
abbrev Handler := ReqCtx → State → State × Option (Nat × List Nat)

/-- The response body of a WRITE: INDEX 0xFFFF, or that of the failing word, and zero (R438). -/
def indexBody (i : Nat) : List Nat := be 2 i ++ be 2 0

/-- The body of an error given before a request's own checks (R433; 05_track R130, R144; 06_zones R171). -/
def errBody (b : GmpBody) (st : Nat) : List Nat :=
  match b with
  | .write _ => indexBody 0xFFFF
  | .writeSeq _ _ => indexBody 0xFFFF
  | .zone _ => indexBody 0xFFFF
  | .rule _ => indexBody 0xFFFF
  | .track x => [st, 0] ++ be 4 0 ++ be 6 x.start ++ List.replicate 28 0
  | .connector _ => st :: List.replicate 39 0
  | .cancel x => [st, 0] ++ be 4 x.resId ++ be 6 0 ++ be 4 0
  | _ => []

/-- A request decided at the position of its entry (R432, 11_scheduler R310): the right first, then
admission where its work is a CP_REQ job, then the handler; the response of one that completes at once is
cached and sent (R440). -/
def gmpDecide (c : ReqCtx) (b : GmpBody) (adm : Bool) (ok : State → Bool) (f : Handler) (s : State) : State :=
  if !ok s then completeReq c.waiter stAuth (errBody b stAuth) s
  else
    let a := if adm then admitTo 10 s else (s, true)
    if !a.2 then completeReq c.waiter stBusy (errBody b stBusy) a.1
    else
      let s1 := if adm then bumpW Addr.SCHED_CLASS_SEL 10 Addr.SCHED_CLASS_CNT_JOBS a.1 else a.1
      match f c s1 with
      | (s2, some r) => completeReq c.waiter r.1 r.2 s2
      | (s2, none) => s2

/-- The entry of a request and what every GMP_REQ entry does: the cache entry is opened, the request
counts as outstanding, and HOSTLESS ends (R440, 18_boot R468). -/
def gmpEnter (h : GmpHdr) (ident : Nat) (b : GmpBody) (s : State) : State :=
  let s1 := jWrite 0 (now s) (.gmpReq h.sess ident h.reqId b) s
  let s2 := s1.updJr fun j => { j with lastReq := j.lastSf, hostless := false }
  let s3 := cachePush ident ⟨h.reqId, reqHash b, bodyType b, h.sess, none⟩ s2
  modSession h.sess (fun y => { y with outstanding := y.outstanding + 1 }) s3

/-- A repeat of a cached request (R440): the cached response again, or held until the original
completes. -/
def gmpRepeat (h : GmpHdr) (ident : Nat) (e : CacheEnt) (s : State) : State :=
  let s1 := bump (Addr.NET_CNT + 12) s
  match e.resp with
  | some r => reply h.sess r.typ h.reqId r.status r.body s1
  | none => s1.updGmp fun g => { g with cache := kmod [] g.cache ident (fun l =>
      l.map (fun y => if y.reqId = h.reqId then { y with sess := h.sess } else y)) }

/-- The checks every journalled type passes before its entry (R433 to R441, 14_station_time R377):
envelope, replay cache, window, role, hold and zero count. `k` goes on with the identity. -/
def gmpGate (h : GmpHdr) (typ hash : Nat) (zero : Bool) (errb : Nat → List Nat) (k : Nat → State → State)
    (s : State) : State :=
  match gmpEnvelope h typ s with
  | (s1, none) => s1
  | (s1, some x) =>
    match cacheFind (kget [] s1.gmp.cache x.ident) h.reqId with
    | some e =>
      if e.hash = hash then gmpRepeat h x.ident e s1
      else reply h.sess typ h.reqId stConflict (errb stConflict) (bump (Addr.NET_CNT + 16) s1)
    | none =>
      if windowFull x then reply h.sess typ h.reqId stBusy (errb stBusy) (bump (Addr.NET_CNT + 20) s1)
      else if !canWrite s1 then reply h.sess typ h.reqId stState (errb stState) s1
      else if s1.time.hold.isSome then reply h.sess typ h.reqId stBusy (errb stBusy) s1
      else if zero then reply h.sess typ h.reqId stEmpty (errb stEmpty) s1
      else k x.ident s1

/-- A GMP request of a type whose entry is GMP_REQ: the gate, the entry, and the decision at its position. -/
def gmpRequest (h : GmpHdr) (b : GmpBody) (zero adm : Bool) (ok : Nat → State → Bool) (f : Handler)
    (s : State) : State :=
  gmpGate h (bodyType b) (reqHash b) zero (errBody b) (fun ident s1 =>
    let s2 := gmpEnter h ident b s1
    gmpDecide ⟨h.sess, ident, h.reqId, (s2.jr.lastSf, s2.jr.lastSeq), false⟩ b adm (ok ident) f s2) s

/-- A one-word write decided at its position: the right the register needs (R432), then its action. -/
def wordHandler (right : Nat) (f : State → State × Nat) : Handler := fun c s =>
  if !hasRight s c.ident right then (s, some (stAuth, indexBody 0))
  else
    let r := f s
    if isErr r.2 then (r.1, some (r.2, indexBody 0)) else (r.1, some (r.2, indexBody 0xFFFF))

/-- A register write of one word by GMP (R437, R438): the request of type WRITE that carries it. -/
def gmpWord (h : GmpHdr) (a : Nat) (v : Word) (right : Nat) (f : State → State × Nat) (s : State) : State :=
  gmpRequest h (.write [(a, v)]) false true (fun _ _ => true) (wordHandler right f) s

end Sys2Proof.Machine
end

