-- ==== Sys2Proof/Machine/Sched.lean ====
section
/-!
DEFINITION. The scheduler (11_scheduler): job descriptors, dispatch, pre-emption, completion, retirement,
budgets and the delay list. Values never depend on it (02_journal R46); what it decides shows in its own
registers, in the LATE mark and in the recorder.
-/

namespace Sys2Proof.Machine

open Sys2Proof

/-- The classes whose results are covered (R304). -/
def classCovered (c : Nat) : Bool := decide (c ≤ 8) || c == 10 || c == 11

/-- The classes whose jobs run one at a time for one object (R308). -/
def classChains (c : Nat) : Bool := [0, 2, 3, 4, 7, 10].contains c

/-- The object of a job that has none (R306). -/
def noObject : Nat := 0xFFFE

/-- A class finds a descriptor: in its reserve first, then in the shared part (R309). -/
def hasRoom (s : State) (c : Nat) : Bool :=
  decide (s.sched.jobs.length < 4096) && (decide (classUsed s c < classRes s c) || decide (0 < sharedFree s))

/-- The lowest free descriptor index. -/
def freeIdx : KMap Job → Nat → Nat
  | [], n => n
  | (k, _) :: r, n => if k = n then freeIdx r (n + 1) else n

/-- A job changed. -/
def modJob (i : Nat) (f : Job → Job) (s : State) : State :=
  s.updSched fun c => { c with jobs := c.jobs.map (fun e => if e.1 = i then (e.1, f e.2) else e) }

/-- An engine changed. -/
def modEng (e : Nat) (f : Eng → Eng) (s : State) : State :=
  s.updSched fun c => { c with eng := kmod Eng.zero c.eng e f }

/-- Station time in whole microseconds. -/
def nowUs (s : State) : Nat := now s / 1000

/-! Load and budgets (R311, R322). -/

/-- Nanoseconds of [a, b) that fall in [x, y). -/
def overlap (a b x y : Nat) : Nat := min b y - max a x

/-- An engine's busy time brought up to an instant: the whole second before it becomes the load shown. -/
def Eng.roll (t : Nat) (e : Eng) : Eng :=
  let b := t / 1000000000
  let from_ := e.busyAt.getD t
  let last := (if e.sec + 1 = b then e.busy else 0) + overlap from_ t ((b - 1) * 1000000000) (b * 1000000000)
  let cur := (if e.sec = b then e.busy else 0) + overlap from_ t (b * 1000000000) (t + 1)
  let busy' := match e.busyAt with
    | some _ => some t
    | none => none
  { e with load := if e.sec = b then e.load else last / 1000000, busy := cur, sec := b, busyAt := busy',
           waitMean := if e.sec = b then e.waitMean else if e.sec + 1 = b ∧ 0 < e.waitN then e.waitSum / e.waitN else 0,
           waitSum := if e.sec = b then e.waitSum else 0, waitN := if e.sec = b then e.waitN else 0 }

/-! Order and dispatch (R312 to R316). -/

/-- Lexicographic order. -/
def lexLt : List Nat → List Nat → Bool
  | [], [] => false
  | [], _ => true
  | _, [] => false
  | a :: r, b :: t => decide (a < b) || (a == b && lexLt r t)

/-- The order of READY jobs (R312), rules 3 to 5. -/
def orderKey (j : Job) : List Nat :=
  if j.covered then [deadlineOf j, 0, j.sf, j.seq, j.order] else [deadlineOf j, 1, j.order]

/-- The order of READY jobs (R312), rules 1 to 5. -/
def fullKey (s : State) (j : Job) : List Nat := b2n (throttled s j.cls) :: b2n j.snag :: orderKey j

/-- The first of a list under a strict order. -/
def firstBy (lt : (Nat × Job) → (Nat × Job) → Bool) : List (Nat × Job) → Option (Nat × Job)
  | [] => none
  | x :: r => match firstBy lt r with
    | none => some x
    | some y => if lt y x then some y else some x

/-- Snag jobs running on a kind. -/
def snagRunning (s : State) (k : Nat) : Nat :=
  kcount (fun _ j => j.st == .running && j.snag && j.kind == k) s.sched.jobs

/-- READY jobs of a kind that the rules allow to be dispatched to an idle engine (R313, R316). -/
def dispatchable (s : State) (k : Nat) : List (Nat × Job) :=
  let full := decide (128 ≤ inFlight s)
  let others := s.sched.jobs.any (fun e => e.2.st == .ready && e.2.kind == k && !e.2.snag)
  s.sched.jobs.filter (fun e =>
    e.2.st == .ready && e.2.kind == k && (!full || e.2.flight) &&
    (!e.2.snag || (!others && decide (snagRunning s k < cfg s Addr.SCHED_CFG 11 10))))

/-- The idle engine of a kind with the lowest identifier. -/
def idleEng (s : State) (k : Nat) : Option Nat :=
  engineIds.find? (fun e => kindOf e == k && engUsable s e && (runningOn s e).isNone)

/-- A job starts on an engine (R313, R322). -/
def startJob (i e : Nat) (s : State) : State :=
  let t := now s
  match kfind s.sched.jobs i with
  | none => s
  | some j =>
    let w := t / 1000 - j.ready
    modEng e (fun g => let g := g.roll t
      { g with busyAt := some t, waitMin := min g.waitMin w, waitMax := max g.waitMax w,
               waitSum := g.waitSum + w, waitN := g.waitN + 1 })
      (modJob i (fun j => { j with st := .running, engine := e, flight := true, preempted := false }) s)

/-- An engine stops: its busy time counts for the class it ran (R311). -/
def stopEng (e cls : Nat) (s : State) : State :=
  let t := now s
  let g := engOf s e
  let d := t - max (g.busyAt.getD t) s.sched.winStart
  (modEng e (fun g => { g.roll t with busyAt := none }) s).updSched fun c => { c with used := kmod 0 c.used cls (· + d) }

/-- The largest depth seen of a kind (R323). -/
def depthMax (k : Nat) (s : State) : State := maxF (Addr.SCHED_KIND_DEPTH + 4 * k) 28 16 (kindDepth s k) s

/-- READY jobs of a kind go to its idle engines (R313); `n` bounds the engines. -/
def dispatch : Nat → Nat → State → State
  | 0, _, s => s
  | n + 1, k, s =>
    match idleEng s k, firstBy (fun a b => lexLt (fullKey s a.2) (fullKey s b.2)) (dispatchable s k) with
    | some e, some x => dispatch n k (startJob x.1 e s)
    | _, _ => s

/-- A running job leaves its engine with its context saved (R314, R315). -/
def preemptJob (i : Nat) (j : Job) (s : State) : State :=
  let t := nowUs s
  bump Addr.SCHED_CNT_PREEMPT
    (modJob i (fun j => { j with st := .ready, preempted := true, ready := t }) (stopEng j.engine j.cls s))

/-- A job that has become READY may take the engine of another (R314). -/
def tryPreempt (i : Nat) (s : State) : State :=
  match kfind s.sched.jobs i with
  | none => s
  | some j =>
    if j.st ≠ .ready || j.snag || (idleEng s j.kind).isSome then s
    else
      let run := s.sched.jobs.filter (fun e => e.2.st == .running && e.2.kind == j.kind)
      match firstBy (fun a b => decide (a.2.engine < b.2.engine)) (run.filter (fun e => e.2.snag)) with
      | some x => if inFlight s < 128 || j.flight then startJob i x.2.engine (preemptJob x.1 x.2 s) else s
      | none =>
        match firstBy (fun a b => lexLt (orderKey b.2) (orderKey a.2)) run with
        | some x => if deadlineOf j + cfg s Addr.SCHED_CFG 9 0 ≤ deadlineOf x.2 ∧ inFlight s < 128 then
            startJob i x.2.engine (preemptJob x.1 x.2 s) else s
        | none => s

/-- A descriptor becomes READY and is dispatched where an engine is free (R307, R313, R314). -/
def readyJob (i : Nat) (s : State) : State :=
  match kfind s.sched.jobs i with
  | none => s
  | some j =>
    let t := nowUs s
    let s1 := depthMax j.kind (modJob i (fun j => { j with st := .ready, chained := false, ready := t }) s)
    tryPreempt i (dispatch 31 j.kind s1)

/-! Creation (R307 to R309). -/

/-- An earlier job of the same class and object that is not DONE (R308). -/
def chainedTo (s : State) (j : Job) : Bool :=
  classChains j.cls && s.sched.jobs.any (fun e =>
    e.2.cls == j.cls && e.2.object == j.object && e.2.st != .done && decide (e.2.order < j.order))

/-- A job placed in the lowest free descriptor: delayed, WAITING, or READY (R307). -/
def placeJob (j : Job) (delayTick : Option Nat) (s : State) : State :=
  let i := freeIdx s.sched.jobs 0
  match delayTick with
  | some t =>
    let pre := s.sched.delay.filter (fun e => decide (e.1 ≤ t))
    let post := s.sched.delay.filter (fun e => decide (t < e.1))
    s.updSched fun c => { c with jobs := kins c.jobs i { j with st := .delayed }, delay := pre ++ (t, i) :: post }
  | none =>
    if chainedTo s j then s.updSched fun c => { c with jobs := kins c.jobs i { j with st := .waiting, chained := true } }
    else readyJob i (s.updSched fun c => { c with jobs := kins c.jobs i j })

/-- A job of a class for a position and an object, with its deadline in microseconds. -/
def newJob (s : State) (cls : Nat) (pos : Nat × Nat) (object : Nat) (deadline : Option Nat) : Job :=
  let cov := classCovered cls
  { cls := cls, kind := classKind cls, covered := cov, snag := decide (24 ≤ cls), preempted := false, late := false,
    chained := false, status := 0, sf := if cov then pos.1 else 0, seq := if cov then pos.2 else 0,
    object := object, deadline := deadline, ready := 0, input := 0, context := none, st := .ready,
    engine := 0, flight := false, order := s.sched.order }

/-- A job created (R309): the flag says that it has a descriptor or waits for one. -/
def addJob (j : Job) (delayTick : Option Nat) (s : State) : State × Bool :=
  let s1 := s.updSched fun c => { c with order := c.order + 1 }
  if hasRoom s1 j.cls && !(j.covered && !s1.sched.stalled.isEmpty) then (placeJob j delayTick s1, true)
  else if j.covered then
    (bump Addr.SCHED_CNT_STALL (s1.updSched fun c => { c with stalled := c.stalled ++ [j] }), true)
  else if [9, 13, 15, 19].contains j.cls then (bump Addr.SCHED_CNT_DROP s1, false)
  else (s1, false)

/-- A job created for the last entry's position. -/
def createJob (cls : Nat) (pos : Nat × Nat) (object : Nat) (deadline : Option Nat) (s : State) : State :=
  (addJob (newJob s cls pos object deadline) none s).1

/-- A job that waits for a release time in nanoseconds of station time (R317). -/
def delayJob (cls object deadline atNs : Nat) (s : State) : State :=
  if 8192 ≤ s.sched.delay.length then bump Addr.SCHED_CNT_DELAY_FULL s
  else (addJob (newJob s cls (0, 0) object (some deadline)) (some ((atNs + 9999) / 10000)) s).1

/-- Covered creations that waited take descriptors in position order (R309). -/
def unstall : Nat → State → State
  | 0, s => s
  | n + 1, s =>
    match s.sched.stalled with
    | [] => s
    | j :: r => if hasRoom s j.cls then unstall n (placeJob j none (s.updSched fun c => { c with stalled := r })) else s

/-- A descriptor becomes FREE (R307). -/
def freeJob (i : Nat) (s : State) : State :=
  let s1 := s.updSched fun c => { c with jobs := kdel c.jobs i }
  unstall s1.sched.stalled.length s1

/-! Completion and retirement (R307, R318; 02_journal R46). -/

/-- The late mark of a job that is DONE after its deadline (R318). -/
def markLate (i : Nat) (j : Job) (s : State) : State :=
  let late := nowUs s - deadlineOf j
  let s1 := bumpW Addr.SCHED_CLASS_SEL j.cls Addr.SCHED_CLASS_CNT_LATE (bump Addr.SCHED_CNT_LATE s)
  let s2 := modJob i (fun j => { j with late := true, status := lateIf true j.status }) (s1.updSched fun c =>
    { c with lateCls := j.cls, lateEng := j.engine, lateOver := sat 16 late })
  match kfind s2.sched.jobs i with
  | some d => evTrig 0x1D ([j.cls, j.engine] ++ be 4 (sat 32 late) ++ jobBytes d) s2
  | none => s2

/-- WAITING jobs of an object whose earlier job is DONE become READY (R308). -/
def wakeChain (cls object : Nat) (s : State) : State :=
  match firstBy (fun a b => decide (a.2.order < b.2.order))
      (s.sched.jobs.filter (fun e => e.2.cls == cls && e.2.object == object && e.2.st == .waiting)) with
  | some x => readyJob x.1 s
  | none => s

/-- A job is DONE with a status; one that is not covered frees its descriptor at once (R307). -/
def completeJob (i st : Nat) (s : State) : State :=
  match kfind s.sched.jobs i with
  | none => s
  | some j =>
    let s1 := if j.st = .running then stopEng j.engine j.cls s else s
    let s2 := modJob i (fun j => { j with st := .done, status := st, flight := false }) s1
    let s3 := if deadlineOf j < nowUs s then markLate i j s2 else s2
    let s4 := bumpW Addr.SCHED_CLASS_SEL j.cls Addr.SCHED_CLASS_CNT_JOBS s3
    let s5 := if j.covered then s4 else freeJob i s4
    dispatch 31 j.kind (wakeChain j.cls j.object s5)

/-- The oldest job of a class and object that is not DONE. -/
def findJob (s : State) (cls object : Nat) : Option (Nat × Job) :=
  firstBy (fun a b => decide (a.2.order < b.2.order))
    (s.sched.jobs.filter (fun e => e.2.cls == cls && e.2.object == object && e.2.st != .done))

/-- The job whose work a command of another row completes. -/
def finishJob (cls object st : Nat) (s : State) : State :=
  match findJob s cls object with
  | some x => completeJob x.1 st s
  | none => s

/-- A job that would be late now (R318): what decides ERR_LATE in a response. -/
def jobLate (s : State) (cls object : Nat) : Bool :=
  match findJob s cls object with
  | some x => decide (deadlineOf x.2 < nowUs s)
  | none => false

/-- A covered job counted as created and DONE at once: the short work of a request. -/
def countJob (cls : Nat) (s : State) : State := bumpW Addr.SCHED_CLASS_SEL cls Addr.SCHED_CLASS_CNT_JOBS s

/-- JOB_COMPLETE: the running job of a descriptor completes with a status (R307, R318). -/
def execJobComplete (desc status : Nat) (s : State) : Host.Outcome State Fault Refusal :=
  match kfind s.sched.jobs desc with
  | some j => if j.st = .running then .next (completeJob desc status s) else .next s
  | none => .next s

/-- Every earlier covered job has retired (02_journal R46). -/
def canRetire (s : State) (j : Job) : Bool :=
  s.sched.jobs.all (fun e => !e.2.covered || !posLt (e.2.sf, e.2.seq) (j.sf, j.seq))

/-- JOB_RETIRE: a DONE covered job retires once every earlier job has retired (R307, 02_journal R46). -/
def execJobRetire (desc : Nat) (s : State) : Host.Outcome State Fault Refusal :=
  match kfind s.sched.jobs desc with
  | some j => if j.st = .done ∧ canRetire s j then .next (freeJob desc s) else .next s
  | none => .next s

/-! The delay list and the budget window. -/

/-- The jobs of one tick released, in insertion order (R317); `n` bounds them. -/
def releaseTick : Nat → Nat → State → State
  | 0, _, s => s
  | n + 1, tick, s =>
    match s.sched.delay with
    | [] => s
    | (t, i) :: r =>
      if tick < t then s
      else
        let s1 := s.updSched fun c => { c with delay := r }
        match kfind s1.sched.jobs i with
        | some j =>
          if j.st = .delayed then
            if chainedTo s1 j then releaseTick n tick (modJob i (fun j => { j with st := .waiting, chained := true }) s1)
            else releaseTick n tick (readyJob i s1)
          else releaseTick n tick s1
        | none => releaseTick n tick s1

/-- DELAY_RELEASE: the first release tick is reached and its jobs are released (R317). -/
def execDelayRelease (s : State) : Host.Outcome State Fault Refusal :=
  match s.sched.delay with
  | [] => .next s
  | (t, _) :: r => .next (releaseTick (r.length + 1) t (advTo (t * 10000) s))

/-- The busy time of the running jobs charged to the window that ends (R311): each goes on from its end. -/
def rollEngines (t : Nat) (s : State) : State :=
  s.updSched fun c => { c with eng := kmap Eng.zero (fun _ e => e.roll t) c.eng }

/-- BUDGET_WINDOW: a 100 ms window of station time ends; throttled classes are released (R311). -/
def execBudgetWindow (s : State) : Host.Outcome State Fault Refusal :=
  let t := (now s / 100000000 + 1) * 100000000
  let s1 := rollEngines t (advTo t s)
  let s2 := s1.updSched fun c => { c with used := [], winStart := t }
  .next ((List.range 9).foldl (fun u k => dispatch 31 k u) s2)

/-- The wait extremes of an engine at their reset values (R323). -/
def waitClr (e : Nat) (s : State) : State := modEng e (fun g => { g with waitMin := 0xFFFFFFFF, waitMax := 0 }) s

/-- A write of SCHED_ENG_CTRL (R323). -/
def engCtrlWord (v : Word) (s : State) : State × Nat := if bit v 0 then (waitClr (selEngine s) s, stOk) else (s, stOk)

/-- WAIT_CLR: a write of 1 to WAIT_CLR in SCHED_ENG_CTRL (R323). -/
def execWaitClr (h : GmpHdr) (s : State) : Host.Outcome State Fault Refusal :=
  .next (gmpWord h Addr.SCHED_ENG_CTRL 1#32 1 (engCtrlWord 1#32) s)

/-! What the rest of the block asks of the scheduler. -/

/-- An engine's running job returns to READY with its context discarded, and pre-empted jobs whose
contexts it held keep theirs (01_architecture R30, R320). -/
def evictEngine (e : Nat) (s : State) : State :=
  match runningOn s e with
  | some x =>
    let t := nowUs s
    modJob x.1 (fun j => { j with st := .ready, context := none, ready := t }) (stopEng e x.2.cls s)
  | none => s

/-- Every stored station time shifted by a forced set of Δ nanoseconds (R321). -/
def schedShift (d : Int) (s : State) : State :=
  let us (n : Nat) : Nat := ((n : Int) + d / 1000).toNat
  s.updSched fun c =>
    { c with
      jobs := c.jobs.map (fun e => (e.1, { e.2 with deadline := e.2.deadline.map us, ready := us e.2.ready })),
      stalled := c.stalled.map (fun j => { j with deadline := j.deadline.map us }),
      delay := c.delay.map (fun e => (((e.1 : Int) + d / 10000).toNat, e.2)),
      eng := kmap Eng.zero (fun _ e => { e with busyAt := e.busyAt.map (fun n => ((n : Int) + d).toNat) }) c.eng,
      winStart := ((c.winStart : Int) + d).toNat }

end Sys2Proof.Machine
end

