-- ==== Sys2Proof/Machine/Cuckoo.lean ====
section
/-!
DEFINITION. The cuckoo tables of the lookup pipelines (13_tables R352, R353, R358): two buckets of four ways for
each key, and placement with relocation by the rule of 05_track R150. A bank is a map from bucket × 4 + way.
-/

namespace Sys2Proof.Machine

open Sys2Proof

/-- The key of an exact-match entry, 9 bytes (R352). -/
def emKey (node : Bool) (vid addr : Nat) : List Nat :=
  (if node then 2 else 1) :: le 2 vid ++ (if node then le 2 addr ++ [0, 0, 0, 0] else be 6 addr)

/-- The buckets of an exact-match entry (R352). -/
def emBuckets (e : EmEnt) : Nat × Nat :=
  let c := crc32c (emKey e.node e.vid e.addr)
  let b0 := c % 2 ^ 16
  let b1 := Nat.xor (c / 2 ^ 16) 0xB5C3
  (b0, if b1 = b0 then Nat.xor b0 1 else b1)

/-- The key of a stored prefix (R358). -/
def lpmKeyBytes (k : LpmKey) : List Nat :=
  k.table :: k.len :: (if k.table = 0 then be 4 k.pfx else be 16 k.pfx).take ((k.len + 7) / 8)

/-- The buckets of a stored prefix (R358). -/
def lpmBuckets (k : LpmKey) : Nat × Nat :=
  let c := crc32c (lpmKeyBytes k)
  let b0 := c % 2 ^ 15
  let b1 := Nat.xor (c / 2 ^ 16 % 2 ^ 15) 0x2D1B
  (b0, if b1 = b0 then Nat.xor b0 1 else b1)

/-- The first empty way of a bucket (R353). -/
def bankFree {α : Type} (m : KMap α) (b : Nat) : Option Nat :=
  (List.range 4).find? (fun w => (kfind m (b * 4 + w)).isNone)

/-- The bucket of an entry's key in which it does not stand. -/
def bankAlt {α : Type} (bk : α → Nat × Nat) (x : α) (b : Nat) : Nat :=
  if b = (bk x).1 then (bk x).2 else (bk x).1

/-- One level of the search for a path: bucket, way and the moves that lead there (05_track R150). -/
def bankLevel {α : Type} (bk : α → Nat × Nat) (m : KMap α) :
    List (Nat × Nat × List (Nat × Nat)) → List (Nat × List (Nat × Nat)) →
    (List (Nat × Nat) × Nat × Nat) ⊕ List (Nat × List (Nat × Nat))
  | [], acc => .inr acc.reverse
  | (b, w, path) :: r, acc =>
    match kfind m (b * 4 + w) with
    | none => bankLevel bk m r acc
    | some x =>
      let a := bankAlt bk x b
      match bankFree m a with
      | some f => .inl ((b, w) :: path, a, f)
      | none => bankLevel bk m r ((a, (b, w) :: path) :: acc)

/-- The breadth-first search over at most `n` levels. -/
def bankSearch {α : Type} (bk : α → Nat × Nat) (m : KMap α) :
    Nat → List (Nat × List (Nat × Nat)) → Option (List (Nat × Nat) × Nat × Nat)
  | 0, _ => none
  | n + 1, lvl =>
    match bankLevel bk m (lvl.flatMap (fun b => (List.range 4).map (fun w => (b.1, w, b.2)))) [] with
    | .inl p => some p
    | .inr next => bankSearch bk m n next

/-- The moves of a path, from the last to the first, and the way freed last. -/
def bankMoves {α : Type} : List (Nat × Nat) → Nat × Nat → KMap α → KMap α × (Nat × Nat)
  | [], dst, m => (m, dst)
  | p :: r, dst, m =>
    match kfind m (p.1 * 4 + p.2) with
    | some x => bankMoves r p (kins m (dst.1 * 4 + dst.2) x)
    | none => bankMoves r p m

/-- An entry placed in a bank (R353): the bank with its moves, or none where no path is found. -/
def bankPlace {α : Type} (bk : α → Nat × Nat) (x : α) (m : KMap α) : Option (KMap α × Nat) :=
  let b := bk x
  match [b.1, b.2].findSome? (fun k => (bankFree m k).map (fun w => k * 4 + w)) with
  | some i => some (kins m i x, 0)
  | none =>
    match bankSearch bk m 3 [(b.1, []), (b.2, [])] with
    | none => none
    | some (path, a, f) =>
      let r := bankMoves path (a, f) m
      some (kins r.1 (r.2.1 * 4 + r.2.2) x, path.length)

/-- A prefix placed in a longest-prefix bank that does not hold it. -/
def lpmPlace (k : LpmKey) (m : KMap LpmKey) : Option (KMap LpmKey × Nat) :=
  if m.any (fun e => e.2 == k) then some (m, 0) else bankPlace lpmBuckets k m

/-- A prefix removed from a longest-prefix bank. -/
def lpmDrop (k : LpmKey) (m : KMap LpmKey) : KMap LpmKey := m.filter (fun e => e.2 != k)

/-- Prefixes placed in order; one that finds no path is left out. -/
def lpmBuild : List LpmKey → KMap LpmKey → KMap LpmKey
  | [], m => m
  | k :: r, m => match lpmPlace k m with
    | some x => lpmBuild r x.1
    | none => lpmBuild r m

end Sys2Proof.Machine
end

