-- ==== Sys2Proof/Machine/Safe.lean ====
section
/-!
DEFINITION. The SAFE bay (07_motion_safety, 01_architecture R34, R35): withdrawals, latches, emergency-stop
inputs, stop and release commands, internal faults, lease mirrors and PERMIT_DYN. An effect stands in the
live state at once and in the covered state at its position (02_journal R48).
-/

namespace Sys2Proof.Machine

open Sys2Proof

/-! Readings of other parts. -/

/-- What the SAFE bay keeps of a machine, changed. -/
def modMach (m : Nat) (f : SafeMach → SafeMach) (s : State) : State :=
  s.updSafe fun b => { b with mach := kmod SafeMach.zero b.mach m f }

/-- The scope of a pendant: 0 to 7 a group, 8 global (R190). -/
def pendScope (s : State) (p : Nat) : Nat :=
  cfg s (Addr.SAFE_PEND_SCOPE + 4 * ((p - 0x101) / 8)) (4 * ((p - 0x101) % 8) + 3) (4 * ((p - 0x101) % 8))

/-- The bits of the machines of a group. -/
def groupMask (s : State) (g map : Nat) : Nat :=
  (machinesIn map).foldl (fun m a => if groupOf s a = g then setBitN m (machineBit a) true else m) 0

/-- The position of the last entry written. -/
def lastPos (s : State) : Nat × Nat := (s.jr.lastSf, s.jr.lastSeq)

/-! Notices and stop requests. -/

/-- The body of a SAFE change item (17_host R443). -/
def safeItem (s : State) (who ev cause : Nat) : NItem :=
  .bytes 7 (be 2 who ++ [ev, cause] ++ be 6 s.jr.lastSf ++ be 2 s.safe.epoch)

/-- A permit change told to SAFE subscribers whose MASK names the machine (17_host R442). -/
def noticeMach (m ev cause : Nat) (s : State) : State := notify 5 (maskHas m) (safeItem s m ev cause) s

/-- A latch change told to every SAFE subscriber. -/
def noticeLatch (who ev cause : Nat) (s : State) : State := notify 5 (fun _ => true) (safeItem s who ev cause) s

/-- A stop request at one port (R194, R195). -/
def stopAt (k : Nat) (glob : Bool) (s : State) : State :=
  let t := s.time.op
  s.updSafe fun b => { b with ports := kmod StopReq.none b.ports k (fun r =>
    { r with want := true, glob := r.glob || glob, since := if r.want then r.since else t }) }

/-- A stop request at every port of the part (R194). -/
def stopAll (s : State) : State := (List.range (portCount s.part)).foldl (fun t k => stopAt k true t) s

/-- A stop request at a machine's home port, where it has one. -/
def stopHome (m : Nat) (s : State) : State :=
  match homePort s m with
  | some k => stopAt k false s
  | none => s

/-! PERMIT_DYN (R209). -/

/-- Every condition of R209 holds. -/
def dynOk (s : State) : Bool :=
  !s.safe.latch && s.safe.input == .inputRun && s.safe.faults == 0 && s.safe.clockOk && s.pcr.domOn.testBit 1 &&
  (holdsToken s || (s.pair.role == .standby && s.pair.sync))

/-- PERMIT_DYN driven low where a condition does not hold. -/
def dynEval (s : State) : State :=
  if dynOk s then s else s.updSafe fun b => { b with dynOn := false, dynPin := false }

/-- SYNC clears, and PERMIT_DYN with it (R209, 02_journal R50). -/
def loseSync (reason : Nat) (s : State) : State := dynEval (unsync reason s)

/-! The covered state (R48, R197). -/

/-- STOP_EPOCH raised by 1, once for each position (R197). -/
def raiseEpoch (pos : Nat × Nat) (s : State) : State :=
  if s.safe.epochAt = some pos then s
  else s.updSafe fun b => { b with epoch := (b.epoch + 1) % 65536, epochAt := some pos }

/-- A covered permit bit cleared at a position. -/
def covWithdraw (pos : Nat × Nat) (m : Nat) (s : State) : State :=
  if s.safe.cPermit.testBit (machineBit m) then
    raiseEpoch pos (s.updSafe fun b => { b with cPermit := setBitN b.cPermit (machineBit m) false })
  else s

/-- The covered global latch set at a position: the map is cleared and the armed state ends. -/
def covGlobal (pos : Nat × Nat) (s : State) : State :=
  let s1 := if s.safe.cLatch && s.safe.cPermit == 0 then s else raiseEpoch pos s
  s1.updSafe fun b => { b with cLatch := true, cPermit := 0, arm := none }

/-- The armed state without an armed release of group `g` (R206). -/
def disarmGroup (g : Nat) (a : Option Arm) : Option Arm :=
  match a with
  | some x => if x.group = some g then none else some x
  | none => none

/-- A covered group latch set at a position, and the bits of its machines cleared (R190). -/
def covGroup (pos : Nat × Nat) (g : Nat) (s : State) : State :=
  let hit := groupMask s g s.safe.cPermit
  let s1 := if s.safe.cGroups.testBit g && hit == 0 then s else raiseEpoch pos s
  s1.updSafe fun b => { b with cGroups := setBitN b.cGroups g true, cPermit := b.cPermit - hit,
                               arm := disarmGroup g b.arm }

/-! The live state (R34, R191, R194). -/

/-- What every withdrawal of a set bit leaves: the causes, the bit clear, a notice. -/
def liveClear (m cause : Nat) (s : State) : State :=
  noticeMach m 1 cause (modMach m (fun x => { x with lastCause := cause }) (s.updSafe fun b =>
    { b with permit := setBitN b.permit (machineBit m) false, wdSince := setBitN b.wdSince (machineBit m) true,
             lastCause := cause }))

/-- An individual withdrawal in the SAFE bay: a bit already clear changes nothing; a set bit is cleared,
counted and recorded, and the home port gets a stop request (R34, R194). -/
def liveWithdraw (m cause : Nat) (s : State) : State :=
  if s.safe.permit.testBit (machineBit m) then
    let s1 := stopHome m (bump Addr.SAFE_CNT_WITHDRAW (liveClear m cause s))
    let s2 := if cause = 13 then bump Addr.SAFE_CNT_LEASE s1 else s1
    if cause = 10 then s2 else evTrig 0x14 (be 2 m ++ [cause]) s2
  else s

/-- The live global latch set (R191, R194): the first setting keeps its cause, the map is cleared,
PERMIT_DYN goes low and every port gets a stop request. -/
def liveGlobal (cause code origin : Nat) (s : State) : State :=
  if s.safe.latch then s
  else
    let s1 := (machinesIn s.safe.permit).foldl (fun t m => liveClear m cause t) s
    let s2 := s1.updSafe fun b => { b with latch := true, permit := 0, firstCause := cause, faultCode := code,
                                           origin := origin, dynOn := false, dynPin := false }
    let s3 := noticeLatch 0 3 cause (bump Addr.SAFE_CNT_GLOBAL (stopAll s2))
    evTrig 0x10 ([cause, code] ++ be 2 origin) s3

/-- The live group latch set and the bits of its machines cleared (R190, R194). -/
def liveGroup (g cause : Nat) (s : State) : State :=
  let hit := machinesIn (groupMask s g s.safe.permit)
  let s1 := if s.safe.groups.testBit g then s
    else noticeLatch (0x100 + g) 3 cause (s.updSafe fun b => { b with groups := setBitN b.groups g true })
  hit.foldl (fun t m => stopHome m (liveClear m cause t)) s1

/-- A withdrawal of one machine, live and at a position (R34, R189). -/
def withdraw (pos : Nat × Nat) (m cause : Nat) (s : State) : State := covWithdraw pos m (liveWithdraw m cause s)

/-- A stop of a pendant's scope, live and at a position (R189, R190). -/
def pendantStop (pos : Nat × Nat) (p : Nat) (s : State) : State :=
  let sc := pendScope s p
  if sc = 8 then covGlobal pos (liveGlobal 5 0 p s) else covGroup pos sc (liveGroup sc 6 s)

/-! Entries the SAFE bay offers to the sequencer (R193, R213; 02_journal R44; 14_station_time R377). -/

/-- An ESTOP, FAULT, STATE_LOSS or ROLE entry: written with its covered effect, held back during a hold,
or not written where the sequencer writes nothing. -/
def post (p : Payload) (cov : State → State) (s : State) : State :=
  if !canWrite s then s
  else if s.time.hold.isSome then s.updJr fun j => { j with held := j.held ++ [p] }
  else cov (jWrite 0 (now s) p s)

/-- The unit a fault code names (R213). -/
def faultUnit (code : Nat) : Nat := if code ≤ 5 then bayCode 1 else bayCode 2

/-- The recorder's FAULT trigger for the entry just written (20_event_recorder R486). -/
def faultRecord (s : State) : State :=
  match s.jr.ring.getLast? with
  | some e => evTrig 0x08 (entryWire e) s
  | none => evTrig 0x08 [] s

/-- The covered effect of a FAULT entry: a code of R213 stands or ends; BEACON_MISSED and PORT_DOWN name a beacon
that was not sent (R201, 09_radio_ports R266); others set no latch. -/
def covFault (unit code phase : Nat) (s : State) : State :=
  if code = 0x20 ∨ code = 0x21 then s.updSafe fun b => { b with missed := setBitN b.missed (unit - 0x30) true }
  else if within 1 7 code then
    if phase = 0 then
      covGlobal (lastPos s) (s.updSafe fun b => { b with cFaults := setBitN b.cFaults (code - 1) true })
    else s.updSafe fun b => { b with cFaults := setBitN b.cFaults (code - 1) false }
  else s

/-- A FAULT entry offered to the sequencer, with its recorder trigger (02_journal R41). -/
def postFault (unit code phase : Nat) (s : State) : State :=
  post (.fault unit code phase) (fun t => faultRecord (covFault unit code phase t)) s

/-- An internal fault of R213 becomes active: SEEN and ACTIVE, the live latch with cause 7, the entry. A
condition already active changes nothing. -/
def faultRaise (code : Nat) (s : State) : State :=
  if s.safe.faults.testBit (code - 1) then s
  else
    let s1 := alarm Addr.SAFE_FAULT (code - 1) (s.updSafe fun b => { b with faults := setBitN b.faults (code - 1) true })
    postFault (faultUnit code) code 0 (dynEval (liveGlobal 7 code 0 (eligWatch s s1)))

/-- A condition of R213 ends other than by a reset. -/
def faultEnd (code : Nat) (s : State) : State :=
  if s.safe.faults.testBit (code - 1) then
    postFault (faultUnit code) code 1 (s.updSafe fun b => { b with faults := setBitN b.faults (code - 1) false })
  else s

/-! The emergency-stop inputs (R192, R193). -/

/-- The payload byte of an ESTOP entry (R193). -/
def estopByte (s : State) : Nat :=
  b2n s.safe.chA.filt + 2 * b2n s.safe.chB.filt + 4 * b2n (s.safe.input == .discrepant)

/-- The input state a payload byte names. -/
def estopState (b : Nat) : InputState :=
  if b.testBit 2 then .discrepant else if b % 4 = 3 then .inputRun else .inputStop

/-- The covered effect of an ESTOP entry: leaving INPUT_RUN clears the armed state and sets the latch. -/
def covEstop (b : Nat) (s : State) : State :=
  let st := estopState b
  let was := s.safe.cInput
  let s1 := s.updSafe fun x => { x with cInput := st, arm := if st = .inputRun then x.arm else none }
  if was = .inputRun ∧ st ≠ .inputRun then covGlobal (lastPos s1) s1 else s1

/-- The pair enters an input state: the live action of R193 and the ESTOP entry. -/
def enterInput (st : InputState) (s : State) : State :=
  let was := s.safe.input
  let s1 := s.updSafe fun b => { b with input := st }
  let s2 := if was = .inputRun ∧ st ≠ .inputRun then liveGlobal 1 0 0 s1 else s1
  let s3 := dynEval s2
  let p := estopByte s3
  let s4 := if st = .discrepant then
      evTrig 0x11 [p] (bump Addr.SAFE_CNT_DISC (alarm Addr.SAFE_STATUS 6 s3)) else s3
  post (.estop p) (covEstop p) s4

/-- The pair's next state on the filtered values (R193). -/
def pairEval (s : State) : State :=
  let a := s.safe.chA.filt
  let b := s.safe.chB.filt
  let t := s.time.op
  let s1 := s.updSafe fun x => { x with differ := if a = b then none else if x.differ.isSome then x.differ else some t }
  match s.safe.input with
  | .inputRun => if a && b then s1 else enterInput .inputStop s1
  | .inputStop => if a && b then enterInput .inputRun s1 else s1
  | .discrepant => if !a && !b then enterInput .inputStop s1 else s1

/-- ESTOP_INPUT_EDGE: a raw channel (true is A) changes level at a station time and starts its filter (R192). -/
def execEstopInputEdge (chA level : Bool) (ns : Nat) (s : State) : Host.Outcome State Fault Refusal :=
  let s1 := advTo ns s
  let t := s1.time.op
  let f (c : EstopCh) : EstopCh := if c.raw = level then c else { c with raw := level, since := t }
  .next (s1.updSafe fun b => if chA then { b with chA := f b.chA } else { b with chB := f b.chB })

/-- The filter time of a channel: ESTOP_FILT for a fall, 10 ms for a rise, after the 20 ns synchroniser (R192). -/
def filterTime (s : State) (raw : Bool) : Nat :=
  20 + if raw then 10000000 else cfg s Addr.SAFE_ESTOP_CFG 6 0 * 1000

/-- ESTOP_FILTERED_CHANGE: a channel whose raw level has stood for its filter time takes it (R192, R193). -/
def execEstopFilteredChange (chA : Bool) (s : State) : Host.Outcome State Fault Refusal :=
  let c := if chA then s.safe.chA else s.safe.chB
  if c.raw = c.filt then .next s
  else
    let s1 := advOp (c.since + filterTime s c.raw) s
    let c' := { c with filt := c.raw }
    .next (pairEval (s1.updSafe fun b => if chA then { b with chA := c' } else { b with chB := c' }))

/-- DISCREPANCY: the channels have differed for DISC_T in INPUT_STOP (R193). -/
def execDiscrepancy (s : State) : Host.Outcome State Fault Refusal :=
  match s.safe.input, s.safe.differ with
  | .inputStop, some t => .next (enterInput .discrepant (advOp (t + cfg s Addr.SAFE_ESTOP_CFG 13 8 * 10000000) s))
  | _, _ => .next s

/-! Stop and release commands (R205 to R208). -/

/-- An arm or a confirm is refused (R206): inputs, a fault condition, or a group while the global latch is set. -/
def armRefused (s : State) (grp : Bool) : Bool :=
  s.safe.cInput != .inputRun || s.safe.cFaults != 0 || (grp && s.safe.cLatch)

/-- The next TOKEN (R206): 0xFF is followed by 0x01. -/
def nextToken (t : Nat) : Nat := if t = 0xFF then 1 else t + 1

/-- ARM_ALL and ARM_GROUP at their position (R206). -/
def armOp (grp : Option Nat) (s : State) : State × Nat :=
  if armRefused s grp.isSome then (s, stState)
  else
    let isSet := match grp with
      | none => s.safe.cLatch
      | some g => s.safe.cGroups.testBit g
    if !isSet then (s, stEmpty)
    else
      let t := nextToken s.safe.lastToken
      let sf := s.jr.lastSf
      (s.updSafe fun b => { b with arm := some ⟨t, grp, sf⟩, lastToken := t }, stOk)

/-- The armed latch cleared, live and covered, with its record and notice (R207); the release of the global
latch ends an armed life-cycle change (15_keys R388). -/
def releaseLatch (a : Arm) (s : State) : State :=
  match a.group with
  | none =>
    evTrig 0x12 [0, 0] (noticeLatch 0 4 0 ((s.updSafe fun b =>
      { b with latch := false, cLatch := false, firstCause := 0, faultCode := 0, origin := 0, arm := none }).updKey
      fun k => { k with arm := none }))
  | some g =>
    evTrig 0x12 [1, g] (noticeLatch (0x100 + g) 4 0 (s.updSafe fun b =>
      { b with groups := setBitN b.groups g false, cGroups := setBitN b.cGroups g false, arm := none }))

/-- CONFIRM at its position (R207): every outcome clears the armed state. -/
def confirmOp (token : Nat) (s : State) : State × Nat :=
  match s.safe.arm with
  | none => (s, stState)
  | some a =>
    let s0 := s.updSafe fun b => { b with arm := none }
    if armRefused s a.group.isSome then (s0, stState)
    else if token ≠ a.token ∨ s.jr.lastSf > a.sf + cfg s Addr.SAFE_LEASE 21 16 * 50 then (s0, stStale)
    else (releaseLatch a s, stOk)

/-- The REASON of R208 for a machine, 0 where none holds. -/
def releaseReason (s : State) (m : Nat) : Nat :=
  firstErr 0 [(s.safe.cLatch || s.safe.latch, 1), (s.safe.cGroups.testBit (groupOf s m) || s.safe.groups.testBit (groupOf s m), 2),
    (!(safeMach s m).gate, 3), (!(safeMach s m).conf, 4), (loopHold s m, 5), (!isAssoc s m, 6),
    ((safeMach s m).flagged, 7)]

/-- A machine's permit set at a position, live and covered, with SF_LAST (R200, R208). -/
def grant (pos : Nat × Nat) (m : Nat) (s : State) : State :=
  noticeMach m 2 0 (bump Addr.SAFE_CNT_RELEASE (modMach m (fun x => { x with sfLast := pos.1 }) (s.updSafe fun b =>
    { b with permit := setBitN b.permit (machineBit m) true, cPermit := setBitN b.cPermit (machineBit m) true })))

/-- RELEASE at its position (R208). -/
def releaseOp (pos : Nat × Nat) (m : Nat) (s : State) : State × Nat :=
  let r := releaseReason s m
  if r ≠ 0 then (bump Addr.SAFE_CNT_REFUSED (s.updSafe fun b => { b with reason := r }), stState)
  else if s.safe.cPermit.testBit (machineBit m) then (s, stEmpty)
  else (grant pos m s, stOk)

/-- The fields of a SAFE_CMD word (R214). -/
def safeWord (op group token addr : Nat) : Word := wordOf (pack [(op % 16, 0), (group % 8, 4), (token % 256, 8), (addr % 65536, 16)])

/-- A SAFE_CMD decided at its position: its effect on the covered state, and for releases on the live
state too, with its status (R205 to R208). -/
def safeCov (pos : Nat × Nat) (w : Word) (s : State) : State × Nat :=
  let op := fld w 3 0
  let g := fld w 6 4
  let m := fld w 31 16
  if op = 1 then (covGlobal pos s, stOk)
  else if op = 2 then (covGroup pos g s, stOk)
  else if op = 3 then if isMachine s.part m then (covWithdraw pos m s, stOk) else (s, stField)
  else if op = 4 then armOp none s
  else if op = 5 then armOp (some g) s
  else if op = 6 then confirmOp (fld w 15 8) s
  else if op = 7 then if isMachine s.part m then releaseOp pos m s else (s, stField)
  else if op = 8 then
    if s.safe.arm.isSome then (s.updSafe fun b => { b with arm := none }, stOk) else (s, stEmpty)
  else (s, stField)

/-- The live effect of a stop command in the SAFE bay (R194, R205): STOP_ALL and STOP_MACHINE send stop
frames again where nothing changes. -/
def safeLive (sess : Nat) (w : Word) (s : State) : State :=
  let op := fld w 3 0
  let m := fld w 31 16
  if op = 1 then if s.safe.latch then stopAll s else liveGlobal 2 0 sess s
  else if op = 2 then liveGroup (fld w 6 4) 3 s
  else if op = 3 ∧ isMachine s.part m then stopHome m (liveWithdraw m 4 s)
  else s

/-- The right a SAFE_CMD needs: STOP for OP 1 to 3, else RELEASE (17_host R432). -/
def safeRight (w : Word) : Nat := if within 1 3 (fld w 3 0) then 2 else 3

/-- The decision at the position, with SAFE_CMD_STATUS kept (R214). -/
def safeDecide (pos : Nat × Nat) (w : Word) (s : State) : State × Nat :=
  let r := safeCov pos w s
  (r.1.updSafe fun b => { b with lastStatus := r.2 }, r.2)

/-- The response body of a SAFE message (17_host R437). -/
def safeBody (s : State) : List Nat := [(s.safe.arm.map (fun a => a.token)).getD 0, s.safe.reason, 0, 0]

/-- The handler of a SAFE message: NET's hardware path acts on the live state, and the position on the
covered state (R205). -/
def safeHandler (w : Word) : Handler := fun c s =>
  let r := safeDecide c.pos w (safeLive c.sess w s)
  (r.1, some (r.2, safeBody r.1))

/-- The handler of a WRITE of SAFE_CMD, which has the effect of a SAFE message (17_host R438). -/
def safeWriteHandler (w : Word) : Handler := fun c s =>
  wordHandler (safeRight w) (fun t => safeDecide c.pos w (safeLive c.sess w t)) c s

/-- A SAFE_CMD by GMP, as a SAFE message or as a WRITE of the register (R205, 17_host R438). It is no job
of the scheduler (R211). -/
def safeCmd (h : GmpHdr) (asWrite : Bool) (w : Word) (s : State) : State :=
  if asWrite then gmpRequest h (.write [(Addr.SAFE_CMD, w)]) false false (fun _ _ => true) (safeWriteHandler w) s
  else gmpRequest h (.safe w) false false (fun k t => hasRight t k (safeRight w)) (safeHandler w) s

/-- STOP_ALL: SAFE_CMD OP 1 (R205). -/
def execStopAll (h : GmpHdr) (asWrite : Bool) (s : State) : Host.Outcome State Fault Refusal :=
  .next (safeCmd h asWrite (safeWord 1 0 0 0) s)

/-- STOP_GROUP: SAFE_CMD OP 2 (R205). -/
def execStopGroup (h : GmpHdr) (asWrite : Bool) (group : Nat) (s : State) : Host.Outcome State Fault Refusal :=
  .next (safeCmd h asWrite (safeWord 2 group 0 0) s)

/-- STOP_MACHINE: SAFE_CMD OP 3 (R205). -/
def execStopMachine (h : GmpHdr) (asWrite : Bool) (addr : Nat) (s : State) : Host.Outcome State Fault Refusal :=
  .next (safeCmd h asWrite (safeWord 3 0 0 addr) s)

/-- ARM_ALL: SAFE_CMD OP 4 (R206). -/
def execArmAll (h : GmpHdr) (asWrite : Bool) (s : State) : Host.Outcome State Fault Refusal :=
  .next (safeCmd h asWrite (safeWord 4 0 0 0) s)

/-- ARM_GROUP: SAFE_CMD OP 5 (R206). -/
def execArmGroup (h : GmpHdr) (asWrite : Bool) (group : Nat) (s : State) : Host.Outcome State Fault Refusal :=
  .next (safeCmd h asWrite (safeWord 5 group 0 0) s)

/-- CONFIRM: SAFE_CMD OP 6 (R207). -/
def execConfirm (h : GmpHdr) (asWrite : Bool) (token : Nat) (s : State) : Host.Outcome State Fault Refusal :=
  .next (safeCmd h asWrite (safeWord 6 0 token 0) s)

/-- RELEASE: SAFE_CMD OP 7 (R208). -/
def execRelease (h : GmpHdr) (asWrite : Bool) (addr : Nat) (s : State) : Host.Outcome State Fault Refusal :=
  .next (safeCmd h asWrite (safeWord 7 0 0 addr) s)

/-- DISARM: SAFE_CMD OP 8 (R205). -/
def execDisarm (h : GmpHdr) (asWrite : Bool) (s : State) : Host.Outcome State Fault Refusal :=
  .next (safeCmd h asWrite (safeWord 8 0 0 0) s)

/-! Withdrawals over the hods, leases, faults and PERMIT_DYN. -/

/-- WITHDRAWAL_REQUEST: a withdrawal of a machine with a cause of R189 reaches the SAFE bay over a hod
(01_architecture R34), for the position of the entry that caused it. -/
def execWithdrawalRequest (m cause sf seq : Nat) (s : State) : Host.Outcome State Fault Refusal :=
  if isMachine s.part m && within 1 14 cause then .next (withdraw (sf, seq) m cause s) else .next s

/-- A machine's lease mirror is too old at the newest SF_MARK (R200). -/
def leaseLapsed (s : State) (m : Nat) : Bool :=
  s.safe.cPermit.testBit (machineBit m) &&
  decide ((safeMach s m).sfLast + (cfg s Addr.SAFE_LEASE 6 0 - 1) ≤ s.jr.sf)

/-- The lease check of one machine at the newest SF_MARK (R200). -/
def leaseCheck (m : Nat) (s : State) : State :=
  if leaseLapsed s m then withdraw (s.jr.sf, 0) m 13 s else s

/-- The mirrors at an SF_MARK: the beacon of the superframe of the mark before counts as sent to every
machine whose bit it showed, unless its home port missed it (R200, R201). -/
def mirrorUpdate (prevSf : Nat) (s : State) : State :=
  (machinesIn s.safe.snapPrev.permit).foldl (fun t m =>
    match homePort t m with
    | some k => if t.safe.missed.testBit k || t.safe.snapPrev.latch then t
        else modMach m (fun x => { x with sfLast := max x.sfLast prevSf }) t
    | none => t) s

/-- LEASE_EXPIRY: the lease check of a machine, which SF_MARK takes for every machine (R200). -/
def execLeaseExpiry (m : Nat) (s : State) : Host.Outcome State Fault Refusal :=
  if isMachine s.part m then .next (leaseCheck m s) else .next s

/-- SAFE_LOGIC: the two copies of the logic disagree (R212, R213 code 0x01). -/
def execSafeLogic (s : State) : Host.Outcome State Fault Refusal := .next (faultRaise 1 s)

/-- SAFE_STORE: a store word fails its check; its copy corrects it, or cannot (R212, R213 code 0x02). -/
def execSafeStore (copyOk : Bool) (s : State) : Host.Outcome State Fault Refusal :=
  if copyOk then .next (bumpF Addr.SAFE_STORE 15 0 1 s) else .next (faultRaise 2 s)

/-- SAFE_CLOCK: the monitor sees the 100 MHz clock lost and drives PERMIT_DYN low (R209, R213 code 0x04). -/
def execSafeClock (s : State) : Host.Outcome State Fault Refusal :=
  .next (faultRaise 4 (s.updSafe fun b => { b with clockOk := false, dynOn := false, dynPin := false }))

/-- SAFE_CLOCK_RESTORED: the clock has been present for 1 ms (R213). -/
def execSafeClockRestored (s : State) : Host.Outcome State Fault Refusal :=
  .next (faultEnd 4 (s.updSafe fun b => { b with clockOk := true }))

/-- SEQ_FAULT: the journal sequencer has failed (R213 code 0x06). -/
def execSeqFault (s : State) : Host.Outcome State Fault Refusal := .next (faultRaise 6 s)

/-- PERMIT_DYN_TOGGLE: the next half millisecond of station time (R209): high in the first half of a whole
millisecond, low in the second, and toggling starts at a whole millisecond. -/
def execPermitDynToggle (s : State) : Host.Outcome State Fault Refusal :=
  let t := (now s / 500000 + 1) * 500000
  let s1 := advTo t s
  if !dynOk s1 then .next (dynEval s1)
  else if t / 500000 % 2 = 0 then .next (s1.updSafe fun b => { b with dynOn := true, dynPin := true })
  else .next (s1.updSafe fun b => { b with dynPin := false })

end Sys2Proof.Machine
end

