-- ==== Sys2Proof/Machine/Items.lean ====
section
/-!
DEFINITION. The items that wait for a machine's next downlink frame (10_radio_frames R283 to R285).
-/

namespace Sys2Proof.Machine

open Sys2Proof

/-- A node's record changed. -/
def modNode (a : Nat) (f : Node → Node) (s : State) : State :=
  s.updMemb fun m => { m with nodes := kmod Node.zero m.nodes a f }

/-- A node's items changed; the pending frame is queued from the arrival of its first item (R283). -/
def queueOn (a : Nat) (f : Items → Items) (s : State) : State :=
  modNode a (fun n => { n with items :=
    let i := f n.items
    { i with queued := some (i.queued.getD (now s)) } }) s

/-- The newest FIX item (R283, R284). -/
def queueFix (a : Nat) (body : List Nat) (s : State) : State := queueOn a (fun i => { i with fix := some body }) s

/-- A WARN item (R284). -/
def queueWarn (a : Nat) (body : List Nat) (s : State) : State :=
  queueOn a (fun i => { i with warns := i.warns ++ [body] }) s

/-- An item that needs acknowledgement: a SCHED or DISASSOC item replaces one not yet acknowledged (R285). -/
def queueAck (a typ sub : Nat) (body : List Nat) (s : State) : State :=
  queueOn a (fun i =>
    let keep := if typ = 4 ∨ typ = 7 then i.acks.filter (fun x => x.typ != typ) else i.acks
    { i with acks := keep ++ [⟨typ, sub, body, 0, []⟩] }) s

/-- A command value of a machine's SPEED or STEER loop (08_control_loops R237); `last` says that the loop
ceases once it has been placed. -/
def queueCmd (a : Nat) (steer : Bool) (v epoch flags : Nat) (last : Bool) (s : State) : State :=
  queueOn a (fun i =>
    let c := i.cmd
    { i with cmd :=
      if steer then { c with due := true, epoch := epoch, flags := flags, curv := some v, curvEnd := last }
      else { c with due := true, epoch := epoch, flags := flags, speed := some v, speedEnd := last } }) s

/-- A loop's commands cease: its field carries 0x8000 in every later CMD item (08_control_loops R237). -/
def ceaseCmd (a : Nat) (steer : Bool) (s : State) : State :=
  modNode a (fun n =>
    let c := n.items.cmd
    { n with items := { n.items with cmd :=
      if steer then { c with curv := none, curvEnd := false } else { c with speed := none, speedEnd := false } } }) s

/-- The parts of a TRACK item (R284): 29 waypoints each. -/
def trackParts (resId first vmax amax jmax dwell parts : Nat) : Nat → List Waypoint → List (Nat × List Nat)
  | 0, _ => []
  | n + 1, w =>
    let i := parts - (n + 1)
    let head := w.take 29
    (resId * 16 + i, be 4 resId ++ [i + 16 * parts] ++ be 6 first ++ be 2 vmax ++ be 2 amax ++ be 2 jmax ++
      [dwell, head.length] ++ head.flatMap wpWire) :: trackParts resId first vmax amax jmax dwell parts n (w.drop 29)

/-- The TRACK items of an inserted track (R284, R285). -/
def queueTrack (a resId : Nat) (d : Desc) (s : State) : State :=
  let n := max 1 ((d.wps.length + 28) / 29)
  (trackParts resId d.first d.vmax d.amax d.jmax d.dwell n n d.wps).foldl (fun t p => queueAck a 5 p.1 p.2 t) s

/-- A TRACK_CUT item (R284, R285). -/
def queueCut (a resId cut : Nat) (s : State) : State := queueAck a 6 0 (be 4 resId ++ be 6 cut) s

end Sys2Proof.Machine
end

