-- ==== Sys2Proof/Machine/Fp.lean ====
section
/-!
DEFINITION. IEEE 754 binary32 arithmetic on 32-bit patterns, rounded to nearest with ties to even, with
subnormals kept (08_control_loops R218): what the profile, the sweep and the loops compute in.
-/

namespace Sys2Proof.Machine

/-- A binary32 value as its 32-bit pattern. -/
abbrev F32 := Nat

/-- A pattern taken apart: NaN, an infinity, or ± m × 2^e. -/
inductive FpVal where
  | nan
  | inf (neg : Bool)
  | fin (neg : Bool) (m : Nat) (e : Int)
  deriving DecidableEq, Repr

/-- The value of a pattern. -/
def fpVal (x : Nat) : FpVal :=
  let neg := decide (x / 2 ^ 31 % 2 = 1)
  let ex : Nat := x / 2 ^ 23 % 256
  let fr : Nat := x % 2 ^ 23
  if ex = 255 then if fr = 0 then .inf neg else .nan
  else if ex = 0 then .fin neg fr (-149) else .fin neg (fr + 2 ^ 23) ((ex : Int) - 150)

/-- The pattern of NaN. -/
def fpNan : F32 := 0x7FC00000

/-- The pattern of an infinity. -/
def fpInf (neg : Bool) : F32 := b2n neg * 2 ^ 31 + 0x7F800000

/-- The pattern of ± q × 2^k for q below 2^24 and k at least -149; beyond the range it is an infinity. -/
def fpMake (neg : Bool) (q : Nat) (k : Int) : F32 :=
  if q < 2 ^ 23 then b2n neg * 2 ^ 31 + q
  else if 104 < k then fpInf neg
  else b2n neg * 2 ^ 31 + (k + 150).toNat * 2 ^ 23 + (q - 2 ^ 23)

/-- A pattern after rounding carried q to 2^24. -/
def fpMakeC (neg : Bool) (q : Nat) (k : Int) : F32 :=
  if q = 2 ^ 24 then fpMake neg (2 ^ 23) (k + 1) else fpMake neg q k

/-- 2^e for e ≥ 0, else 1. -/
def twoUp (e : Int) : Nat := 2 ^ e.toNat

/-- The whole logarithm to base 2 of num / den, both positive. -/
def flog2 (num den : Nat) : Int :=
  let l : Int := (num.log2 : Int) - (den.log2 : Int)
  if den * twoUp l ≤ num * twoUp (-l) then l else l - 1

/-- The binary32 nearest to ± num / den, den positive. -/
def fpRound (neg : Bool) (num den : Nat) : F32 :=
  if num = 0 then b2n neg * 2 ^ 31
  else
    let k : Int := max (flog2 num den - 23) (-149)
    let a := num * twoUp (-k)
    let b := den * twoUp k
    let q := a / b
    let r := a % b
    let up := decide (b < 2 * r) || (decide (2 * r = b) && decide (q % 2 = 1))
    fpMakeC neg (q + b2n up) k

/-- Bits of the largest q with q^n × b ≤ a, from bit `i` - 1 down. -/
def rootBits (n a b : Nat) : Nat → Nat → Nat
  | 0, acc => acc
  | i + 1, acc => rootBits n a b i (if (acc + 2 ^ i) ^ n * b ≤ a then acc + 2 ^ i else acc)

/-- The correctly rounded binary32 n-th root of num / den, both positive. -/
def fpRootQ (neg : Bool) (n num den : Nat) : F32 :=
  if num = 0 then b2n neg * 2 ^ 31
  else
    let k : Int := flog2 num den / n - 23
    let a := num * twoUp (-(n * k))
    let b := den * twoUp (n * k)
    let q := rootBits n a b 24 0
    let l := a * 2 ^ n
    let r := (2 * q + 1) ^ n * b
    let up := decide (r < l) || (decide (l = r) && decide (q % 2 = 1))
    fpMakeC neg (q + b2n up) k

/-- A finite value as a fraction: numerator and denominator. -/
def fracOf (m : Nat) (e : Int) : Nat × Nat := (m * twoUp e, twoUp (-e))

/-- The binary32 nearest to an integer: (float) of R218. -/
def fpInt (i : Int) : F32 := fpRound (decide (i < 0)) i.natAbs 1

/-- The binary32 nearest to a fraction. -/
def fpFrac (num den : Nat) : F32 := fpRound false num den

/-- The value with its sign turned. -/
def fpNeg (x : F32) : F32 := if x < 2 ^ 31 then x + 2 ^ 31 else x - 2 ^ 31

/-- Sum. -/
def fpAdd (x y : F32) : F32 :=
  match fpVal x, fpVal y with
  | .nan, _ => fpNan
  | _, .nan => fpNan
  | .inf a, .inf b => if a = b then fpInf a else fpNan
  | .inf a, _ => fpInf a
  | _, .inf b => fpInf b
  | .fin a m e, .fin b n f =>
    let g := min e f
    let u : Int := (if a then -1 else 1) * (m * twoUp (e - g) : Nat)
    let v : Int := (if b then -1 else 1) * (n * twoUp (f - g) : Nat)
    let t := u + v
    if t = 0 then b2n (a && b) * 2 ^ 31
    else fpRound (decide (t < 0)) (t.natAbs * twoUp g) (twoUp (-g))

/-- Difference. -/
def fpSub (x y : F32) : F32 := fpAdd x (fpNeg y)

/-- Product. -/
def fpMul (x y : F32) : F32 :=
  match fpVal x, fpVal y with
  | .nan, _ => fpNan
  | _, .nan => fpNan
  | .inf a, .inf b => fpInf (a != b)
  | .inf a, .fin b m _ => if m = 0 then fpNan else fpInf (a != b)
  | .fin a m _, .inf b => if m = 0 then fpNan else fpInf (a != b)
  | .fin a m e, .fin b n f => fpRound (a != b) (m * n * twoUp (e + f)) (twoUp (-(e + f)))

/-- Quotient. -/
def fpDiv (x y : F32) : F32 :=
  match fpVal x, fpVal y with
  | .nan, _ => fpNan
  | _, .nan => fpNan
  | .inf _, .inf _ => fpNan
  | .inf a, .fin b _ _ => fpInf (a != b)
  | .fin a _ _, .inf b => b2n (a != b) * 2 ^ 31
  | .fin a m e, .fin b n f =>
    if n = 0 then if m = 0 then fpNan else fpInf (a != b)
    else fpRound (a != b) (m * twoUp (e - f)) (n * twoUp (f - e))

/-- Correctly rounded square root. -/
def fpSqrt (x : F32) : F32 :=
  match fpVal x with
  | .nan => fpNan
  | .inf a => if a then fpNan else x
  | .fin a m e => if m = 0 then x else if a then fpNan else fpRootQ false 2 (fracOf m e).1 (fracOf m e).2

/-- Correctly rounded cube root. -/
def fpCbrt (x : F32) : F32 :=
  match fpVal x with
  | .nan => fpNan
  | .inf _ => x
  | .fin a m e => if m = 0 then x else fpRootQ a 3 (fracOf m e).1 (fracOf m e).2

/-- The correctly rounded binary32 square root of a natural number (05_track R132). -/
def fpSqrtNat (n : Nat) : F32 := fpRootQ false 2 n 1

/-- x < y. -/
def fpLt (x y : F32) : Bool :=
  match fpVal x, fpVal y with
  | .nan, _ => false
  | _, .nan => false
  | .inf a, .inf b => a && !b
  | .inf a, _ => a
  | _, .inf b => !b
  | .fin a m e, .fin b n f =>
    let g := min e f
    let u : Int := (if a then -1 else 1) * (m * twoUp (e - g) : Nat)
    let v : Int := (if b then -1 else 1) * (n * twoUp (f - g) : Nat)
    decide (u < v)

/-- x is a NaN or an infinity (08_control_loops R240). -/
def fpBad (x : F32) : Bool :=
  match fpVal x with
  | .fin _ _ _ => false
  | _ => true

/-- x ≥ y; false where either is a NaN. -/
def fpGe (x y : F32) : Bool :=
  match fpVal x, fpVal y with
  | .nan, _ => false
  | _, .nan => false
  | _, _ => !fpLt x y

/-- The smaller and the larger of two values. -/
def fpMin (x y : F32) : F32 := if fpLt y x then y else x
/-- The larger of two values. -/
def fpMax (x y : F32) : F32 := if fpLt x y then y else x

/-- clamp(x, lo, hi) = min(max(x, lo), hi) (R218). -/
def fpClamp (x lo hi : F32) : F32 := fpMin (fpMax x lo) hi

/-- The nearest whole number to num / den, ties away from zero (04_fix R118, 05_track R131). -/
def rndAway (num : Int) (den : Nat) : Int :=
  let q : Int := (2 * num.natAbs + den) / (2 * den)
  if num < 0 then -q else q

/-- A value times a whole factor, rounded to the nearest whole number with ties away from zero (R237). -/
def fpRoundAway (x : F32) (factor : Nat) : Int :=
  match fpVal x with
  | .fin a m e =>
    let f := fracOf m e
    rndAway ((if a then -1 else 1) * (f.1 * factor : Nat)) f.2
  | .inf a => if a then -(2 ^ 40) else 2 ^ 40
  | .nan => 0

/-- A time in seconds as whole microseconds, rounded to nearest with ties up (R225). -/
def fpMicros (x : F32) : Nat :=
  match fpVal x with
  | .fin false m e =>
    let f := fracOf m e
    (2 * f.1 * 1000000 + f.2) / (2 * f.2)
  | _ => 0

/-- An exact integer difference in units of 0.1 mm as millimetres (R218). -/
def fpMm (d : Int) : F32 := fpMul (fpInt d) (fpFrac 1 10)

/-- A time difference in milliseconds as seconds (R218). -/
def fpSecs (d : Int) : F32 := fpMul (fpInt d) (fpFrac 1 1000)

/-- x·x' + y·y' in that order (R223). -/
def fpDot (x y x' y' : F32) : F32 := fpAdd (fpMul x x') (fpMul y y')

end Sys2Proof.Machine
end

