-- ==== Sys2Proof/Machine/Profile.lean ====
section
/-!
DEFINITION. Path lengths and the motion profile (05_track R132, 08_control_loops R224 to R227), shared by
the sweep of tracks and by the loops.
-/

namespace Sys2Proof.Machine

open Sys2Proof

/-- A segment of a track that is not of zero length (R129, R132). -/
structure Seg where
  ax : Int
  ay : Int
  dx : Int
  dy : Int
  /-- ℓ and S_a of R132. -/
  len : F32
  start : F32
  deriving DecidableEq, Repr

/-- The squared length of a displacement. -/
def sq2 (x y : Int) : Nat := (x * x + y * y).toNat

/-- The segments of a track and the path length before them (R132). -/
def segsFrom (s : F32) : List Waypoint → List Seg
  | [] => []
  | [_] => []
  | a :: b :: r =>
    let dx := b.x - a.x
    let dy := b.y - a.y
    if dx = 0 ∧ dy = 0 then segsFrom s (b :: r)
    else
      let l := fpSqrtNat (sq2 dx dy)
      ⟨a.x, a.y, dx, dy, l, s⟩ :: segsFrom (fpAdd s l) (b :: r)

/-- The segments of a track. -/
def segments (w : List Waypoint) : List Seg := segsFrom 0 w

/-- The path length L (R224). -/
def pathLen (l : List Seg) : F32 :=
  match l.getLast? with
  | some g => fpAdd g.start g.len
  | none => 0

/-- A phase of a plan (R225): its start and duration in microseconds, its jerk, and its start state. -/
structure Phase where
  start : Nat
  dur : Nat
  jerk : F32
  s : F32
  v : F32
  a : F32
  deriving DecidableEq, Repr

/-- A plan: its length, its phases and its end. -/
structure Plan where
  L : F32
  phases : List Phase
  stop : Nat
  deriving DecidableEq, Repr

/-- The state (s, v, a) within a phase at τ (R226). -/
def phaseAt (L : F32) (p : Phase) (tau : F32) : F32 × F32 × F32 :=
  let s := fpAdd p.s (fpMul tau (fpAdd p.v (fpMul tau (fpAdd (fpDiv p.a (fpInt 2)) (fpMul tau (fpDiv p.jerk (fpInt 6)))))))
  let v := fpAdd p.v (fpMul tau (fpAdd p.a (fpMul tau (fpDiv p.jerk (fpInt 2)))))
  (fpMin L s, fpMax 0 v, fpAdd p.a (fpMul tau p.jerk))

/-- τ of a number of microseconds (R226). -/
def tauOf (us : Nat) : F32 := fpMul (fpInt us) (fpFrac 1 1000000)

/-- The phases from durations and jerks, each starting at the end state of the one before (R225). -/
def mkPhases (L : F32) : Nat → F32 × F32 × F32 → List (Nat × F32) → List Phase
  | _, _, [] => []
  | t, (s, v, a), (d, j) :: r =>
    let p : Phase := ⟨t, d, j, s, v, a⟩
    p :: mkPhases L (t + d) (phaseAt L p (tauOf d)) r

/-- The times Tj, Tc and Tv of a plan (R224). -/
def planTimes (L : F32) (vmax amax jmax : Nat) : F32 × F32 × F32 :=
  let V := fpInt vmax
  let A := fpInt amax
  let J := fpInt jmax
  let full := decide (amax * amax ≤ vmax * jmax)
  let tj := if full then fpDiv A J else fpSqrt (fpDiv V J)
  let tc := if full then fpSub (fpDiv V A) tj else 0
  let dacc := fpDiv (fpMul V (fpAdd (fpAdd tj tj) tc)) (fpInt 2)
  let d2 := fpAdd dacc dacc
  if fpGe L d2 then (tj, tc, fpDiv (fpSub L d2) V)
  else
    let q := fpDiv (fpMul (fpMul A A) A) (fpMul J J)
    if fpGe L (fpAdd q q) && full then
      let t := fpDiv A J
      let root := fpSqrt (fpAdd (fpMul t t) (fpDiv (fpMul (fpInt 4) L) A))
      let vp := fpMul (fpDiv A (fpInt 2)) (fpSub root t)
      (t, fpMax (fpSub (fpDiv vp A) t) 0, 0)
    else (fpCbrt (fpDiv L (fpAdd J J)), 0, 0)

/-- The plan of a path (R224, R225); a plan of L = 0 has every time zero. -/
def mkPlan (L : F32) (vmax amax jmax : Nat) : Plan :=
  let x := if L = 0 then (0, 0, 0) else planTimes L vmax amax jmax
  let J := fpInt jmax
  let tj := fpMicros x.1
  let tc := fpMicros x.2.1
  let tv := fpMicros x.2.2
  let ds := [(tj, J), (tc, 0), (tj, fpNeg J), (tv, 0), (tj, fpNeg J), (tc, 0), (tj, J)]
  ⟨L, mkPhases L 0 (0, 0, 0) ds, ds.foldl (fun n d => n + d.1) 0⟩

/-- The profile step: (s, v, a) at a time in microseconds from the plan's start (R226). -/
def planAt (p : Plan) (mu : Int) : F32 × F32 × F32 :=
  if mu ≤ 0 then (0, 0, 0)
  else if (p.stop : Int) ≤ mu then (p.L, 0, 0)
  else
    let m := mu.toNat
    match p.phases.find? (fun x => decide (m < x.start + x.dur)) with
    | some x => phaseAt p.L x (tauOf (m - x.start))
    | none => (p.L, 0, 0)

/-- The search of R227 between `lo` and `hi`; `n` bounds its halvings. -/
def firstIn (p : Plan) (target : F32) : Nat → Nat → Nat → Nat
  | 0, lo, _ => lo
  | n + 1, lo, hi =>
    if hi - lo ≤ 1 then lo
    else
      let mid := lo + (hi - lo) / 2
      if fpLt (planAt p mid).1 target then firstIn p target n mid hi else firstIn p target n lo mid

/-- The time in microseconds at which the profile first reaches a path coordinate (R227). -/
def firstTime (p : Plan) (target : F32) : Nat :=
  if fpLt 0 target then firstIn p target (p.stop.log2 + 2) 0 p.stop else 0

end Sys2Proof.Machine
end

