-- ==== Sys2Proof/Machine/Sweep.lean ====
section
/-!
DEFINITION. Cells, slots, footprint classes and the sweep of a track (05_track R123 to R136). A set of
pairs is a list of strictly rising keys in the order of R136: slot, CY, CX.
-/

namespace Sys2Proof.Machine

open Sys2Proof

/-- CELL and H of a code (R124). -/
def cellOf (code : Nat) : Nat × Nat := [(250, 177), (500, 354), (1000, 708), (2000, 1415)].getD code (2000, 1415)

/-- The geometry of a class in force (R123 to R127). -/
def geomOf (s : State) (cls : Nat) : Geom :=
  let c := cellOf (cfg s Addr.SCR_CFG 1 0)
  let len := cfg s (Addr.SCR_CLASS_A + 8 * cls) 15 0
  let fwd := cfg s (Addr.SCR_CLASS_B + 8 * cls) 15 0
  { cell := c.1, h := c.2, front := len - fwd, back := fwd,
    halfW := (cfg s (Addr.SCR_CLASS_A + 8 * cls) 31 16 + 1) / 2, m := cfg s (Addr.SCR_CLASS_B + 8 * cls) 23 16 * 10,
    lag := cfg s Addr.SCR_CFG 20 18, slotLen := cfg s Addr.SCR_CFG 8 2, horizon := cfg s Addr.SCR_CFG 17 9,
    cx0 := sgn 32 (cfg s Addr.FIX_GRID_CORNER_X 31 0), cy0 := sgn 32 (cfg s Addr.FIX_GRID_CORNER_Y 31 0),
    cls := cls, confD := cfg s (Addr.SCR_CLASS_C + 4 * cls) 15 0, warnR := cfg s (Addr.SCR_CLASS_C + 4 * cls) 31 16 }

/-- The geometry of a machine's class in force. -/
def geomFor (s : State) (m : Nat) : Geom := geomOf s (classOf s m)

/-- The slot number of a superframe (R125). -/
def Geom.slotOf (g : Geom) (sf : Nat) : Nat := sf / g.slotLen

/-- The whole square root. -/
def floorSqrt (n : Nat) : Nat := rootBits 2 n 1 (n.log2 / 2 + 1) 0

/-- The smallest number whose square is at least n. -/
def ceilSqrt (n : Nat) : Nat := let r := floorSqrt n; if r * r = n then r else r + 1

/-- The centre of a cell, x of CX and the matching y (R123). -/
def Geom.centreX (g : Geom) (cx : Int) : Int := g.cx0 + cx * g.cell + g.cell / 2

/-- The y of the centre of a cell of row CY (R123). -/
def Geom.centreY (g : Geom) (cy : Int) : Int := g.cy0 + cy * g.cell + g.cell / 2

/-- Integers from lo to hi. -/
def intRange (lo hi : Int) : List Int := (List.range (hi + 1 - lo).toNat).map (fun (i : Nat) => lo + (i : Int))

/-- Every cell whose centre lies within r of a point on both axes. -/
def Geom.box (g : Geom) (x y : Int) (r : Nat) : List (Int × Int) :=
  let half : Int := g.cell / 2
  let xs := intRange (-((g.cx0 + half - x + r) / g.cell)) ((x + r - g.cx0 - half) / g.cell)
  let ys := intRange (-((g.cy0 + half - y + r) / g.cell)) ((y + r - g.cy0 - half) / g.cell)
  ys.flatMap (fun cy => xs.map (fun cx => (cx, cy)))

/-- The cover test of a sample at a point with a direction (R133). -/
def Geom.covers (g : Geom) (x y dx dy : Int) (c : Int × Int) : Bool :=
  let rx := g.centreX c.1 - x
  let ry := g.centreY c.2 - y
  let a := rx * dx + ry * dy
  let b := rx * dy - ry * dx
  let l2 := dx * dx + dy * dy
  let along : Int := (if 0 ≤ a then g.front else g.back) + g.m + g.h
  let across : Int := g.halfW + g.m + g.h
  decide (a * a ≤ along * along * l2) && decide (b * b ≤ across * across * l2)

/-- The cells a sample covers (R133). -/
def Geom.cover (g : Geom) (x y dx dy : Int) : List (Int × Int) :=
  let along := max g.front g.back + g.m + g.h
  let across := g.halfW + g.m + g.h
  (g.box x y (ceilSqrt (along * along + across * across))).filter (g.covers x y dx dy)

/-- The cells a stand covers (R135). -/
def Geom.stand (g : Geom) (x y : Int) : List (Int × Int) :=
  let a := max g.front g.back + g.m
  let b := g.halfW + g.m
  let r := ceilSqrt (a * a + b * b) + g.h
  (g.box x y r).filter (fun c =>
    let rx := g.centreX c.1 - x
    let ry := g.centreY c.2 - y
    decide (rx * rx + ry * ry ≤ (r : Int) * r))

/-- The key of a cell at a slot offset; a cell outside the grid keeps its place in the order. -/
def pairKey (off : Nat) (c : Int × Int) : Nat :=
  off * 2 ^ 64 + (c.2 + 2 ^ 31).toNat * 2 ^ 32 + (c.1 + 2 ^ 31).toNat

/-- The slot offset of a key. -/
def keyOff (k : Nat) : Nat := k / 2 ^ 64

/-- CX of a key. -/
def keyCx (k : Nat) : Int := ((k % 2 ^ 32 : Nat) : Int) - 2 ^ 31

/-- CY of a key. -/
def keyCy (k : Nat) : Int := ((k / 2 ^ 32 % 2 ^ 32 : Nat) : Int) - 2 ^ 31

/-- A key added to a rising list of distinct keys. -/
def insKey (k : Nat) : List Nat → List Nat
  | [] => [k]
  | x :: l => if k < x then k :: x :: l else if k = x then x :: l else x :: insKey k l

/-- The sample count of a segment (R131). -/
def sampleCount (cell : Nat) (dx dy : Int) : Nat :=
  let half := cell / 2
  max 1 ((ceilSqrt (sq2 dx dy) + half - 1) / half)

/-- A sample: point, direction and path coordinate (R131, R132). -/
structure Sample where
  x : Int
  y : Int
  dx : Int
  dy : Int
  s : F32
  deriving DecidableEq, Repr

/-- The samples of a segment (R131, R132). -/
def segSamples (cell : Nat) (g : Seg) : List Sample :=
  let n := sampleCount cell g.dx g.dy
  (List.range (n + 1)).map fun (k : Nat) =>
    ⟨g.ax + rndAway (g.dx * k) n, g.ay + rndAway (g.dy * k) n, g.dx, g.dy,
     fpAdd g.start (fpDiv (fpMul g.len (fpInt k)) (fpInt n))⟩

/-- The samples of a track in order. -/
def samplesOf (cell : Nat) (segs : List Seg) : List Sample := segs.flatMap (segSamples cell)

/-- The pairs of the samples from one on, `lo` the offset of the sample before (R134); `acc` holds the
keys found. -/
def sweepFrom (g : Geom) (p : Plan) (dwell : Nat) : Option Nat → List Sample → List Nat → List Nat
  | _, [], acc => acc
  | lo, a :: r, acc =>
    let off := firstTime p a.s / (g.slotLen * 20000)
    let hi := off + g.lag + (if r.isEmpty then dwell else 0)
    let from_ := lo.getD off
    let keys := (g.cover a.x a.y a.dx a.dy).flatMap (fun c =>
      (List.range (hi + 1 - from_)).map (fun i => pairKey (from_ + i) c))
    sweepFrom g p dwell (some off) r (keys.foldl (fun l k => insKey k l) acc)

/-- The pairs of a track as keys at slot offsets, rising (R131 to R136). -/
def sweep (g : Geom) (w : List Waypoint) (vmax amax jmax dwell : Nat) : List Nat :=
  match segments w with
  | [] => match w with
    | [] => []
    | a :: _ => ((g.stand a.x a.y).flatMap (fun c =>
        (List.range (g.lag + dwell + 1)).map (fun o => pairKey o c))).foldl (fun l k => insKey k l) []
  | segs => sweepFrom g (mkPlan (pathLen segs) vmax amax jmax) dwell none (samplesOf g.cell segs) []

/-- The cells covered by the samples of R131 and R133 without slots, as keys of offset 0 (06_zones R166,
R177). -/
def sweepCells (g : Geom) (w : List Waypoint) : List Nat :=
  ((samplesOf g.cell (segments w)).flatMap (fun a => (g.cover a.x a.y a.dx a.dy).map (pairKey 0))).foldl
    (fun l k => insKey k l) []

/-- The cells of a list of pairs. -/
def cellsOf (pairs : List Nat) : List Nat := pairs.foldl (fun l k => insKey (k % 2 ^ 64) l) []

/-- A cell lies in the grid (R123). -/
def inGrid (k : Nat) : Bool := withinI 0 65535 (keyCx k) && withinI 0 65535 (keyCy k)

/-- The largest slot offset of a list of pairs. -/
def lastOff (pairs : List Nat) : Nat := (pairs.getLast?.map keyOff).getD 0

end Sys2Proof.Machine
end

