-- ==== Sys2Proof/Machine/Zones.lean ====
section
/-!
DEFINITION. Zones (06_zones R160 to R171, R184): Morton codes, the governing zone, and the staging of zone
records.
-/

namespace Sys2Proof.Machine

open Sys2Proof

/-- The Morton code of a cell (R160); the first argument counts the bits taken. -/
def mortonBits : Nat → Nat → Nat → Nat
  | 0, _, _ => 0
  | n + 1, cx, cy => mortonBits n cx cy + b2n (cx.testBit n) * 4 ^ n + b2n (cy.testBit n) * 2 * 4 ^ n

/-- The Morton code of a cell of the grid (R160). -/
def morton (cx cy : Nat) : Nat := mortonBits 16 cx cy

/-- A cell of the grid lies in a zone (R161). -/
def Zone.has (z : Zone) (code : Nat) : Bool := decide (code / 2 ^ (32 - z.len) = z.pfx / 2 ^ (32 - z.len))

/-- The governing zone of a cell with its index (R163). -/
def governing (zs : KMap Zone) (cx cy : Nat) : Option (Nat × Zone) :=
  (zs.filter (fun e => e.2.has (morton cx cy))).foldl (fun (b : Option (Nat × Zone)) e =>
    match b with
    | some x => if x.2.len < e.2.len then some e else b
    | none => some e) none

/-- An action bit of R165. -/
def Zone.acts (z : Zone) (b : Nat) : Bool := z.action.testBit b

/-- What a cell's governing zone forbids a class: the CONFLICT_KIND of R130 and the zone index, or kind 0
(R164 to R166). -/
def forbid (zs : KMap Zone) (cx cy cls : Nat) : Nat × Nat :=
  match governing zs cx cy with
  | none => (0, 0)
  | some (i, z) =>
    if z.acts 0 then (2, i) else if z.acts 2 && !z.mask.testBit cls then (3, i) else (0, 0)

/-- The CAP of a cell's governing zone, where it has one (R165). -/
def capAt (zs : KMap Zone) (cx cy : Nat) : Option Nat :=
  (governing zs cx cy).bind (fun e => if e.2.acts 1 then some e.2.cap else none)

/-- The zone table as staged (13_tables R358): its records, its SHADOW bank and the moves made in it. -/
structure ZoneTab where
  recs : KMap Zone
  bank : KMap LpmKey
  moves : Nat
  deriving DecidableEq, Repr

/-- The stored prefix of a zone. -/
def Zone.key (z : Zone) : LpmKey := ⟨0, z.len, z.pfx⟩

/-- The bank without the prefix of an index. -/
def ZoneTab.without (t : ZoneTab) (i : Nat) : KMap LpmKey :=
  match kfind t.recs i with
  | some z => lpmDrop z.key t.bank
  | none => t.bank

/-- A checked zone staged at an index: a prefix it already has keeps its place (13_tables R358). -/
def ZoneTab.put (t : ZoneTab) (i : Nat) (z : Zone) : Option ZoneTab :=
  let b := match kfind t.recs i with
    | some o => if o.key = z.key then t.bank else lpmDrop o.key t.bank
    | none => t.bank
  (lpmPlace z.key b).map (fun x => ⟨kins t.recs i z, x.1, t.moves + x.2⟩)

/-- A zone record checked against a table and applied to it (R161, R162, R165, R170, R171). -/
def zoneApply (r : ZoneRec) (t : ZoneTab) : ZoneTab × Nat :=
  if r.op = 2 then ({ t with recs := kdel t.recs r.index, bank := t.without r.index }, stOk)
  else
    let z : Zone := ⟨r.len, r.pfx, r.action, r.mask, r.cap⟩
    let st := firstErr stOk
      [(r.op != 1, stField), (decide (r.index > 65535), stField), (decide (r.len % 2 ≠ 0 ∨ 32 < r.len), stField),
       (decide (r.pfx % 2 ^ (32 - r.len) ≠ 0), stField), (decide (15 < r.action ∨ r.zero0 ≠ 0 ∨ r.zero1 ≠ 0), stField),
       (z.acts 1 && !within 1 10000 r.cap, stField),
       (t.recs.any (fun e => e.1 != r.index && e.2.len == r.len && e.2.pfx == r.pfx), stConflict)]
    if st ≠ stOk then (t, st)
    else match t.put r.index z with
      | some t' => (t', stOk)
      | none => (t, stFull)

/-- The records of a message in order: the table they leave, or the first failing index with its status
(R171). -/
def zoneFold : Nat → List ZoneRec → ZoneTab → ZoneTab × Option (Nat × Nat)
  | _, [], t => (t, none)
  | i, r :: l, t =>
    let x := zoneApply r t
    if x.2 = stOk then zoneFold (i + 1) l x.1 else (t, some (i, x.2))

/-- The staged zone table. -/
def zoneTab (s : State) : ZoneTab := ⟨s.scr.staged, s.lkp.zoneShadow, 0⟩

/-- Moves counted in RELOC, over the pipelines (13_tables R353, R366). -/
def countReloc (n : Nat) (s : State) : State := if n = 0 then s else bumpF (Addr.LKP_CNT + 36) 31 0 n s

/-- The staged zone table written back; both pipelines make the moves. -/
def setZoneTab (t : ZoneTab) (s : State) : State :=
  countReloc (2 * t.moves) ((s.updScr fun c => { c with staged := t.recs }).updLkp fun l => { l with zoneShadow := t.bank })

/-- A zone message at its position (R171). -/
def zoneHandler (rs : List ZoneRec) : Handler := fun _ s =>
  match zoneFold 0 rs (zoneTab s) with
  | (t, none) => (setZoneTab t s, some (stOk, indexBody 0xFFFF))
  | (_, some (i, st)) => (s, some (st, indexBody i))

/-- The right a message of 17_host R437 needs at its position. -/
def needs (right : Nat) (ident : Nat) (s : State) : Bool := hasRight s ident right

/-- ZONE: a GMP zone message (R170, R171). -/
def execZone (h : GmpHdr) (rs : List ZoneRec) (s : State) : Host.Outcome State Fault Refusal :=
  .next (gmpRequest h (.zone rs) rs.isEmpty true (needs 1) (zoneHandler rs) s)

/-- The record that the data registers spell (R184). -/
def zoneOfRegs (s : State) (op : Nat) : ZoneRec :=
  let a := Addr.SCR_ZONE_ATTR
  ⟨op, cfg s a 5 0, cfg s Addr.SCR_ZONE_IDX 15 0, cfg s Addr.SCR_ZONE_PREFIX 31 0, cfg s a 9 6, 0, cfg s a 25 10,
   cfg s Addr.SCR_ZONE_CAP 13 0, 0⟩

/-- LAST_STATUS of SCR_ZONE_STATUS. -/
def zoneNote (st : Nat) (s : State) : State := s.updScr fun c => { c with zoneStatus := st }

/-- WRITE or DELETE of SCR_ZONE_CTRL: one record staged (R184). -/
def zoneStage (op : Nat) (s : State) : State × Nat :=
  let x := zoneApply (zoneOfRegs s op) (zoneTab s)
  (zoneNote x.2 (setZoneTab x.1 s), x.2)

/-- READ of SCR_ZONE_CTRL: the staged record of INDEX into the data registers (R184). -/
def zoneRead (s : State) : State × Nat :=
  let z := kfind s.scr.staged (cfg s Addr.SCR_ZONE_IDX 15 0)
  let v := z.getD ⟨0, 0, 0, 0, 0⟩
  let s1 := setForce (rkey Addr.SCR_ZONE_PREFIX) (wordOf v.pfx) s
  let s2 := setForce (rkey Addr.SCR_ZONE_ATTR) (wordOf (pack [(v.len, 0), (v.action, 6), (v.mask, 10)])) s1
  let s3 := setForce (rkey Addr.SCR_ZONE_CAP) (wordOf (v.cap % 2 ^ 14)) s2
  let st := if z.isSome then stOk else stEmpty
  (zoneNote st (s3.updScr fun c => { c with zonePresent := z.isSome }), st)

/-- A write of SCR_ZONE_CTRL (R184). -/
def zoneCtrlWord (v : Word) (s : State) : State × Nat :=
  if bit v 0 && bit v 1 then (zoneNote stField s, stField)
  else
    let x := if bit v 0 then zoneStage 1 s else if bit v 1 then zoneStage 2 s else (s, stOk)
    if isErr x.2 || !bit v 2 then x else zoneRead x.1

/-- ZONE_WRITE: a write of 1 to WRITE in SCR_ZONE_CTRL (R171, R184). -/
def execZoneWrite (h : GmpHdr) (s : State) : Host.Outcome State Fault Refusal :=
  .next (gmpWord h Addr.SCR_ZONE_CTRL 1#32 1 (zoneCtrlWord 1#32) s)

/-- ZONE_DELETE: a write of 1 to DELETE in SCR_ZONE_CTRL (R170, R184). -/
def execZoneDelete (h : GmpHdr) (s : State) : Host.Outcome State Fault Refusal :=
  .next (gmpWord h Addr.SCR_ZONE_CTRL 2#32 1 (zoneCtrlWord 2#32) s)

/-- ZONE_READ: a write of 1 to READ in SCR_ZONE_CTRL (R184). -/
def execZoneRead (h : GmpHdr) (s : State) : Host.Outcome State Fault Refusal :=
  .next (gmpWord h Addr.SCR_ZONE_CTRL 4#32 1 (zoneCtrlWord 4#32) s)

/-- The zones in force at a commit: the staged ones, with the banks swapped and copied (R169, 13_tables R360). -/
def zoneCommit (s : State) : State :=
  (s.updScr fun c => { c with cov := { c.cov with zones := c.staged } }).updLkp fun l => { l with zoneLive := l.zoneShadow }

/-- The staged zones reset to those in force (02_journal R58, 13_tables R360). -/
def zoneDiscard (s : State) : State :=
  (s.updScr fun c => { c with staged := c.cov.zones }).updLkp fun l => { l with zoneShadow := l.zoneLive }

/-- A zone record lost (12_memory R333, kind 0x05): it keeps everything out until the host rewrites it. -/
def zoneLoss (i : Nat) (s : State) : State :=
  match kfind s.scr.cov.zones i with
  | none => s
  | some z =>
    let z' : Zone := { z with action := 1, mask := 0, cap := 0 }
    s.updScr fun c => { c with
      cov := { c.cov with zones := kins c.cov.zones i z' },
      staged := if kfind c.staged i = some z then kins c.staged i z' else c.staged }

end Sys2Proof.Machine
end

