-- ==== Sys2Proof/Machine/Screed.lean ====
section
/-!
DEFINITION. The reservation table, track requests, cancels and expiry (05_track_reservation R137 to R151).
The result of a request is decided at its position, as 02_journal R46 has it; SCR_INSERT retires it.
-/

namespace Sys2Proof.Machine

open Sys2Proof

/-! The table (R147 to R150). -/

/-- The two buckets of a cell and slot (R149). -/
def buckets (cx cy slot : Nat) : Nat × Nat :=
  let c := crc32c (le 2 cx ++ le 2 cy ++ [slot % 256])
  let b0 := c % 2 ^ 18
  let b1 := Nat.xor (c / 2 ^ 14) 0x2AAAA
  (b0, if b1 = b0 then Nat.xor b0 1 else b1)

/-- A descriptor written. -/
def ScrCov.setDesc (c : ScrCov) (m i : Nat) (d : Desc) : ScrCov := { c with descs := kset Desc.zero c.descs (m * 8 + i) d }

/-- RES_ID (R143). -/
def resIdOf (m i seq : Nat) : Nat := m * 2 ^ 16 + i * 2 ^ 8 + seq

/-- The entry of a way. -/
def ScrCov.way (c : ScrCov) (b w : Nat) : Option ScrEnt := kfind c.table (b * 8 + w)

/-- The first empty or dead way of a bucket (R150). -/
def ScrCov.freeWay (c : ScrCov) (cur b : Nat) : Option Nat :=
  (List.range 8).find? (fun w => match c.way b w with
    | some e => !c.held cur e
    | none => true)

/-- The held entries of a cell at a slot: a search of both buckets (R151). -/
def ScrCov.holders (c : ScrCov) (cur cx cy slot : Nat) : List ScrEnt :=
  let b := buckets cx cy slot
  ([b.1, b.2].flatMap (fun k => (List.range 8).filterMap (fun w => c.way k w))).filter (fun e =>
    e.cx == cx && e.cy == cy && e.slotLo == slot % 256 && c.held cur e && fullSlot (c.entDesc e) e.slotLo == slot)

/-- The bucket of an entry's key in which it does not stand (R149). -/
def altBucket (e : ScrEnt) (b : Nat) : Nat :=
  let k := buckets e.cx e.cy e.slotLo
  if b = k.1 then k.2 else k.1

/-- A bucket to visit, with the moves that lead to it, last first (R150). -/
structure BfsNode where
  bucket : Nat
  path : List (Nat × Nat)

/-- One level of the search of R150: the path and the free way found, or the buckets of the next level. -/
def bfsLevel (c : ScrCov) (cur : Nat) : List (BfsNode × Nat) → List BfsNode → (List (Nat × Nat) × Nat × Nat) ⊕ List BfsNode
  | [], acc => .inr acc.reverse
  | (n, w) :: r, acc =>
    match c.way n.bucket w with
    | none => bfsLevel c cur r acc
    | some x =>
      let a := altBucket x n.bucket
      match c.freeWay cur a with
      | some f => .inl ((n.bucket, w) :: n.path, a, f)
      | none => bfsLevel c cur r (⟨a, (n.bucket, w) :: n.path⟩ :: acc)

/-- The breadth-first search of R150 over at most `n` levels. -/
def bfs (c : ScrCov) (cur : Nat) : Nat → List BfsNode → Option (List (Nat × Nat) × Nat × Nat)
  | 0, _ => none
  | n + 1, lvl =>
    match bfsLevel c cur (lvl.flatMap (fun b => (List.range 8).map (fun w => (b, w)))) [] with
    | .inl p => some p
    | .inr next => bfs c cur n next

/-- The moves of a path, from the last to the first: each entry is copied into the way freed by the one
before it (R150); what is left is the way freed last. -/
def runMoves : List (Nat × Nat) → Nat × Nat → ScrCov → ScrCov × (Nat × Nat)
  | [], dst, c => (c, dst)
  | p :: r, dst, c =>
    match c.way p.1 p.2 with
    | some x => runMoves r p { c with table := kins c.table (dst.1 * 8 + dst.2) x }
    | none => runMoves r p c

/-- An entry placed (R150): the table and the moves made, or none where no path is found. -/
def place (cur : Nat) (e : ScrEnt) (c : ScrCov) : Option (ScrCov × Nat) :=
  let b := buckets e.cx e.cy e.slotLo
  match [b.1, b.2].findSome? (fun k => (c.freeWay cur k).map (fun w => (k, w))) with
  | some p => some ({ c with table := kins c.table (p.1 * 8 + p.2) e }, 0)
  | none =>
    match bfs c cur 3 [⟨b.1, []⟩, ⟨b.2, []⟩] with
    | none => none
    | some (path, a, f) =>
      let x := runMoves path (a, f) c
      some ({ x.1 with table := kins x.1.table (x.2.1 * 8 + x.2.2) e }, path.length)

/-- Entries placed in order; the flag says that all were placed. -/
def placeAll (cur : Nat) : List ScrEnt → ScrCov → Nat → ScrCov × Nat × Bool
  | [], c, n => (c, n, true)
  | e :: r, c, n =>
    match place cur e c with
    | some (c', k) => placeAll cur r c' (n + k)
    | none => (c, n, false)

/-- The entries of a descriptor whose slot satisfies `p` removed by compare-and-clear (R141, R142). -/
def ScrCov.clear (c : ScrCov) (m i : Nat) (p : Nat → Bool) : ScrCov :=
  let d := c.desc m i
  { c with table := c.table.filter (fun e => !(e.2.owner == m - 1 && e.2.didx == i && p (fullSlot d e.2.slotLo))) }

/-- The slots of a descriptor's entries. -/
def ScrCov.slotsOf (c : ScrCov) (m i : Nat) : List Nat :=
  let d := c.desc m i
  (c.table.filter (fun e => e.2.owner == m - 1 && e.2.didx == i)).map (fun e => fullSlot d e.2.slotLo)

/-! Track requests (R128 to R142). -/

/-- Nothing inserted: the fields of a failure (R130). -/
def TrackRes.blank (st start : Nat) : TrackRes := ⟨st, 0, 0, start, 0, 0, 0, 0, 0, 0, 0, 0⟩

/-- The response body of R130. -/
def TrackRes.wire (r : TrackRes) : List Nat :=
  [r.status, r.kind] ++ be 4 r.resId ++ be 6 r.start ++ [r.slide, 0] ++ be 4 r.entries ++ be 6 r.last ++
  be 6 r.cSlot ++ be 2 r.cCx ++ be 2 r.cCy ++ be 2 r.cOwner ++ be 4 r.cRef

/-- The field checks of R129 that need no sweep. -/
def trackFields (p : Part) (cur : Nat) (b : TrackBody) : Bool :=
  isMachine p b.machine && b.zero == 0 && within 1 10000 b.vmax && within 1 10000 b.amax && within 1 65535 b.jmax &&
  decide (b.slideMax ≤ 255 ∧ b.dwell ≤ 255 ∧ b.wps.length ≤ 256 ∧ cur < b.start)

/-- The conflict of one pair at a start slot, where there is one: kind, owner and reference (R138). -/
def pairConflict (g : Geom) (c : ScrCov) (cur m start : Nat) (k : Nat) : Option (Nat × Nat × Nat) :=
  let cx := (keyCx k).toNat
  let cy := (keyCy k).toNat
  let z := forbid c.zones cx cy g.cls
  if z.1 ≠ 0 then some (z.1, 0, z.2)
  else ((c.holders cur cx cy (start + keyOff k)).find? (fun e => e.owner != m - 1)).map (fun e =>
    (1, e.owner + 1, resIdOf (e.owner + 1) e.didx (c.entDesc e).seq))

/-- The first conflict of a try in the order of R136 (R139). -/
def probe (g : Geom) (c : ScrCov) (cur m start : Nat) (pairs : List Nat) : Option (Nat × Nat × Nat × Nat) :=
  pairs.findSome? (fun k => (pairConflict g c cur m start k).map (fun x => (k, x)))

/-- The slides of R140 from `s` on: the first clear one, or how many were tried. `n` counts those left. -/
def slideFrom (g : Geom) (c : ScrCov) (cur m start hi : Nat) (pairs : List Nat) : Nat → Nat → Nat ⊕ Nat
  | 0, s => .inr (s - 1)
  | n + 1, s =>
    if hi < start + s + lastOff pairs then .inr (s - 1)
    else match probe g c cur m (start + s) pairs with
      | none => .inl s
      | some _ => slideFrom g c cur m start hi pairs n (s + 1)

/-- The lowest FREE descriptor of a machine (R142). -/
def freeDesc (c : ScrCov) (m : Nat) : Option Nat := (List.range 8).find? (fun i => !(c.desc m i).live)

/-- SEQ + 1 in a descriptor that a request took (R142). -/
def bumpDesc (c : ScrCov) (m : Nat) (i : Option Nat) : ScrCov :=
  match i with
  | some i => c.setDesc m i { c.desc m i with seq := ((c.desc m i).seq + 1) % 256 }
  | none => c

/-- A clear try inserted whole, or not at all (R141): the result and the moves made. -/
def insertAt (c : ScrCov) (cur : Nat) (pos : Nat × Nat) (b : TrackBody) (pairs : List Nat) (i slide : Nat) (r : TrackRes) :
    ScrCov × TrackRes × Nat :=
  let m := b.machine
  let seq := ((c.desc m i).seq + 1) % 256
  let start := b.start + slide
  let last := start + lastOff pairs
  let d : Desc := ⟨true, seq, pos.1, pos.2, start, last, last + 1, b.dwell, b.vmax, b.amax, b.jmax, b.wps⟩
  let ents : List ScrEnt := pairs.map (fun k => ⟨(keyCx k).toNat, (keyCy k).toNat, (start + keyOff k) % 256, m - 1, i⟩)
  let x := placeAll cur ents (c.setDesc m i d) 0
  if x.2.2 then
    (x.1, { r with status := stOk, resId := resIdOf m i seq, start := start, slide := slide, last := last }, x.2.1)
  else
    let c1 := x.1.clear m i (fun _ => true)
    (c1.setDesc m i { Desc.zero with seq := seq }, { r with status := stFull, slide := slide }, x.2.1)

/-- A track request decided at its position (R129 to R142, 06_zones R166), after `trackFields`. -/
def trackOutcome (g : Geom) (cur : Nat) (pos : Nat × Nat) (b : TrackBody) (c : ScrCov) : ScrCov × TrackRes × Nat :=
  let pairs := sweep g b.wps b.vmax b.amax b.jmax b.dwell
  let cells := cellsOf pairs
  let r0 : TrackRes := { TrackRes.blank stField b.start with entries := pairs.length }
  let hi := cur + g.horizon - 1
  let bad := cells.any (fun k => !inGrid k) || decide (hi < b.start + lastOff pairs) ||
    cells.any (fun k => match capAt c.zones (keyCx k).toNat (keyCy k).toNat with
      | some cap => decide (cap < b.vmax)
      | none => false)
  if bad then (c, r0, 0)
  else
    let m := b.machine
    let first := probe g c cur m b.start pairs
    let r1 : TrackRes := match first with
      | some (k, kind, owner, ref) =>
        { r0 with
          kind := kind, cSlot := b.start + keyOff k, cCx := (keyCx k).toNat, cCy := (keyCy k).toNat,
          cOwner := owner, cRef := ref }
      | none => r0
    let try_ : Nat ⊕ Nat := if first.isNone then .inl 0 else slideFrom g c cur m b.start hi pairs b.slideMax 1
    let free := freeDesc c m
    match try_ with
    | .inr tried => (bumpDesc c m free, { r1 with status := stConflict, slide := tried }, 0)
    | .inl slide =>
      match free with
      | none => (c, { r1 with status := stFull, slide := slide }, 0)
      | some i =>
        if 65536 < pairs.length then (c, { r1 with status := stFull, slide := slide }, 0)
        else insertAt c cur pos b pairs i slide r1

/-! Task notices (06_zones R174, R183), which descriptors that become FREE send. -/

/-- The bytes of a task notice (06_zones R183). -/
def TaskNotice.wire (n : TaskNotice) : List Nat :=
  be 4 n.ref ++ [n.event, n.status] ++ be 2 n.machine ++ be 4 n.resId ++ be 6 n.sf ++ [0, 0]

/-- A task notice sent to allotment subscribers. -/
def sendNotice (n : TaskNotice) (s : State) : State := notify 3 (fun _ => true) (.bytes 4 n.wire) s

/-- TASK_REF (06_zones R173). -/
def taskRef (i seq : Nat) : Nat := i + seq * 2 ^ 16

/-- The ASSIGNED task of a RES_ID. -/
def taskOfRes (s : State) (resId : Nat) : Option (Nat × Task) :=
  s.scr.tasks.find? (fun e => e.2.st == .assigned && e.2.resId == resId)

/-- A descriptor has become FREE (06_zones R174): by expiry its task is DONE, by a cancel it is OPEN again. -/
def taskFreed (expired : Bool) (sf resId : Nat) (s : State) : State :=
  match taskOfRes s resId with
  | none => s
  | some (i, t) =>
    let back : Task := { t with st := .waiting, machine := 0, resId := 0 }
    let s1 := s.updScr fun c => { c with tasks := if expired then kdel c.tasks i else kins c.tasks i back }
    sendNotice ⟨taskRef i t.seq, if expired then 5 else 6, 0, t.machine, if expired then resId else 0, sf⟩ s1

/-! Requests, cancels and expiry as commands. -/

/-- The covered state of the Screed replaced. -/
def setCov (c : ScrCov) (s : State) : State := s.updScr fun x => { x with cov := c }

/-- The deadline of an insert in microseconds (R137). -/
def insertDeadline (arrival : Nat) (b : TrackBody) (entries : Nat) : Nat :=
  (arrival + (if b.slideMax = 0 ∧ entries ≤ 4096 then 2000000 else 100000000)) / 1000

/-- A track request that passed `trackFields` handed to the Screed at its position: decided there, and its
result waits for SCR_INSERT (R137). `task` is the notice of a connector that its result completes. -/
def submitTrack (c : ReqCtx) (b : TrackBody) (task : TrackRes → Option TaskNotice) (s : State) : State × TrackRes :=
  let g := geomFor s b.machine
  let x := trackOutcome g (g.slotOf c.pos.1) c.pos b s.scr.cov
  let p : PendIns := ⟨c.ident, c.reqId, b.machine, x.2.1, x.2.2, task x.2.1, c.pos.1, c.pos.2, now s⟩
  (createJob 3 c.pos b.machine (some (insertDeadline (now s) b x.2.1.entries))
    ((setCov x.1 s).updScr fun y => { y with inserts := y.inserts ++ [p] }), x.2.1)

/-- A track message at its position (R129). -/
def trackHandler (b : TrackBody) : Handler := fun c s =>
  if !trackFields s.part (slotOfSf s c.pos.1) b then (s, some (stField, (TrackRes.blank stField b.start).wire))
  else ((submitTrack c b (fun _ => none) s).1, none)

/-- TRACK: a GMP track message (R128, R129). -/
def execTrack (h : GmpHdr) (b : TrackBody) (s : State) : Host.Outcome State Fault Refusal :=
  .next (gmpRequest h (.track b) b.wps.isEmpty true (needs 1) (trackHandler b) s)

/-- The counters of a retired insert (R159). -/
def countInsert (r : TrackRes) (reloc : Nat) (s : State) : State :=
  let s1 := bumpF Addr.SCR_CNT_RELOC 31 0 reloc s
  if r.status = stOk then
    let s2 := bump Addr.SCR_CNT_INSERT s1
    if r.slide = 0 then s2 else bump Addr.SCR_CNT_SLIDE s2
  else if r.status = stConflict then bump Addr.SCR_CNT_CONFLICT s1
  else if r.status = stFull then bump Addr.SCR_CNT_FULL s1
  else s1

/-- What an inserted track sends to its machine (R36 step 6, 10_radio_frames R285): its TRACK items. A
descriptor cancelled meanwhile keeps none. -/
def trackItems (m : Nat) (r : TrackRes) (s : State) : State :=
  if r.status ≠ stOk then s
  else
    let d := s.scr.cov.desc m (r.resId / 256 % 256)
    if d.live ∧ d.seq = r.resId % 256 then queueTrack m r.resId d s else s

/-- SCR_INSERT: the oldest insert retires (R36, R137, R141): its counters, its response and its items. -/
def execScrInsert (s : State) : Host.Outcome State Fault Refusal :=
  match s.scr.inserts with
  | [] => .next s
  | p :: rest =>
    let s1 := s.updScr fun c => { c with inserts := rest }
    let st := lateIf (jobLate s1 3 p.machine) p.res.status
    let s2 := countInsert p.res p.reloc (finishJob 3 p.machine p.res.status s1)
    let s3 := maxF Addr.SCR_INS_LAT 15 0 ((now s - p.arrival) / 10000) s2
    let s4 := completeReq ⟨p.ident, p.reqId⟩ st { p.res with status := st }.wire s3
    .next (trackItems p.machine p.res (match p.task with
      | some n => sendNotice n s4
      | none => s4))

/-- A LIVE descriptor cut at a slot, at a position (R142, R144, R145): the entries removed; a withdrawal
where one of them stood at the current slot. The item that tells the machine is queued. -/
def cutDesc (pos : Nat × Nat) (m i cut : Nat) (s : State) : State × Nat :=
  let c := s.scr.cov
  let d := c.desc m i
  let cur := slotOfSf s pos.1
  let id := resIdOf m i d.seq
  let whole := decide (cut ≤ d.first)
  let gone := (c.slotsOf m i).filter (fun f => whole || decide (cut ≤ f))
  let c1 := c.clear m i (fun f => whole || decide (cut ≤ f))
  let d' : Desc := if whole then { Desc.zero with seq := d.seq } else { d with last := cut - 1, cut := cut }
  let s1 := setCov (c1.setDesc m i d') s
  let s2 := if gone.contains cur then withdraw pos m 11 s1 else s1
  let s3 := queueCut m id (if whole then d.first else cut) s2
  (if whole then taskFreed false pos.1 id s3 else s3, gone.length)

/-- The response body of a cancel (R144). -/
def cancelBodyWire (st resId cut freed : Nat) : List Nat := [st, 0] ++ be 4 resId ++ be 6 cut ++ be 4 freed

/-- A cancel at its position (R143, R144). -/
def cancelHandler (b : CancelBody) : Handler := fun c s =>
  let m := b.resId / 2 ^ 16
  let i := b.resId / 256 % 256
  let bad := decide (b.zero ≠ 0 ∨ 7 < i) || !isMachine s.part m
  if bad then (s, some (stField, cancelBodyWire stField b.resId 0 0))
  else
    let d := s.scr.cov.desc m i
    if !d.live || d.seq != b.resId % 256 then (s, some (stStale, cancelBodyWire stStale b.resId 0 0))
    else
      let cut := max b.fromSlot (slotOfSf s c.pos.1)
      if d.last < cut then (s, some (stEmpty, cancelBodyWire stEmpty b.resId cut 0))
      else
        let x := cutDesc c.pos m i cut s
        (countJob 4 (bump Addr.SCR_CNT_CANCEL x.1), some (stOk, cancelBodyWire stOk b.resId cut x.2))

/-- CANCEL: a GMP cancel message (R143, R144). -/
def execCancel (h : GmpHdr) (b : CancelBody) (s : State) : Host.Outcome State Fault Refusal :=
  .next (gmpRequest h (.cancel b) false true (needs 1) (cancelHandler b) s)

/-- Every LIVE descriptor of a machine cancelled from the current slot, in descriptor order (R145). -/
def cancelAll (pos : Nat × Nat) (m : Nat) (s : State) : State :=
  let cur := slotOfSf s pos.1
  (List.range 8).foldl (fun t i =>
    let d := t.scr.cov.desc m i
    if d.live && decide (cur ≤ d.last) then bump Addr.SCR_CNT_CANCEL (cutDesc pos m i cur t).1 else t) s

/-- A write of SCR_MACH_CTRL (R145, R159). -/
def machCtrlWord (v : Word) (s : State) : State × Nat :=
  if bit v 0 then (cancelAll (lastPos s) (cfg s Addr.SCR_MACH_SEL 15 0) s, stOk) else (s, stOk)

/-- CANCEL_ALL: a write of 1 to CANCEL_ALL in SCR_MACH_CTRL (R145). -/
def execCancelAll (h : GmpHdr) (s : State) : Host.Outcome State Fault Refusal :=
  .next (gmpWord h Addr.SCR_MACH_CTRL 1#32 1 (machCtrlWord 1#32) s)

/-- An expired descriptor freed (R142, R146). -/
def expireDesc (sf m i : Nat) (s : State) : State :=
  let c := s.scr.cov
  let d := c.desc m i
  let s1 := setCov ((c.clear m i (fun _ => true)).setDesc m i { Desc.zero with seq := d.seq }) s
  taskFreed true sf (resIdOf m i d.seq) s1

/-- The machine and index of a descriptor's key. -/
def descId (k : Nat) : Nat × Nat := (k / 8, k % 8)

/-- Descriptors whose LAST_SLOT is before a slot become FREE, in machine and descriptor order (R146). -/
def expireAll (sf cur : Nat) (s : State) : State :=
  (kkeys (fun _ d => d.live && decide (d.last < cur)) s.scr.cov.descs).foldl (fun t k =>
    expireDesc sf (descId k).1 (descId k).2 t) s

/-- The newest fix record of a machine as bytes, or zero (R156). -/
def newestRec (s : State) (m : Nat) : List Nat :=
  match (kget Rover.zero s.fix.rover m).newest with
  | some r => fixRecWire r
  | none => List.replicate 48 0

/-- A machine with no held entry at the new current slot gets FAIL, and loses a set permit (R156). -/
def slotConf (pos : Nat × Nat) (cur : Nat) (m : Nat) (s : State) : State :=
  if s.scr.cov.holdsAt cur m cur then s
  else
    let s1 := modMach m (fun x => { x with conf := false }) s
    if s.safe.cPermit.testBit (machineBit m) || s.safe.permit.testBit (machineBit m) then
      evTrig 0x13 (newestRec s m) (bump Addr.SCR_CNT_CONF_FAIL (withdraw pos m 10 s1))
    else s1

/-- The Screed at an SF_MARK that opens a new slot (R146, R156). -/
def slotAdvance (pos : Nat × Nat) (s : State) : State :=
  let cur := slotOfSf s pos.1
  let s0 := s.updScr fun c => { c with slotSf := pos.1 }
  if cur ≤ slotOfSf s s.scr.slotSf then s0
  else
    let s1 := expireAll pos.1 cur s0
    countJob 5 (((List.range (machineCount s.part)).map machineAt).foldl (fun t m => slotConf pos cur m t) s1)

/-- SLOT_ADVANCE: what the newest SF_MARK does when it opens a slot, where it has not been done (R146, R156). -/
def execSlotAdvance (s : State) : Host.Outcome State Fault Refusal :=
  if s.scr.slotSf < s.jr.sf then .next (slotAdvance (s.jr.sf, 0) s) else .next s

/-- The waypoints of a descriptor lost (12_memory R333, kind 0x03): it is cancelled whole. -/
def descLoss (pos : Nat × Nat) (index : Nat) (s : State) : State :=
  let m := index / 8 + 1
  let i := index % 8
  let d := s.scr.cov.desc m i
  if isMachine s.part m && d.live then (cutDesc pos m i d.first s).1 else s

/-- The pairs of a descriptor, swept again, that stand in a group of four lost buckets and are missing
(12_memory R334). -/
def lostEnts (c : ScrCov) (g : Geom) (cur group m i : Nat) : List ScrEnt :=
  let d := c.desc m i
  let ents : List (Nat × ScrEnt) := (sweep g d.wps d.vmax d.amax d.jmax d.dwell).map (fun k =>
    (d.first + keyOff k, ⟨(keyCx k).toNat, (keyCy k).toNat, (d.first + keyOff k) % 256, m - 1, i⟩))
  (ents.filter (fun e =>
    let b := buckets e.2.cx e.2.cy e.2.slotLo
    decide (cur ≤ e.1 ∧ e.1 < d.cut) && (b.1 / 4 == group || b.2 / 4 == group) &&
    !(c.holders cur e.2.cx e.2.cy e.1).contains e.2)).map (fun e => e.2)

/-- One descriptor of a rebuild (12_memory R334): one that cannot be placed is cancelled whole. -/
def rebuildDesc (pos : Nat × Nat) (group : Nat) (s : State) (k : Nat) : State :=
  let m := (descId k).1
  let i := (descId k).2
  let c := s.scr.cov
  let g := geomFor s m
  let cur := g.slotOf pos.1
  let x := placeAll cur (lostEnts c g cur group m i) c 0
  let s1 := bumpF Addr.SCR_CNT_RELOC 31 0 x.2.1 (setCov x.1 s)
  if x.2.2 then s1 else (cutDesc pos m i (c.desc m i).first s1).1

/-- Four buckets lost and rebuilt by sweeping every LIVE descriptor again (12_memory R334). -/
def resvRebuild (pos : Nat × Nat) (group : Nat) (s : State) : State :=
  let c := s.scr.cov
  let s1 := setCov { c with table := c.table.filter (fun e => e.1 / 32 != group) } s
  (kkeys (fun _ d => d.live) c.descs).foldl (rebuildDesc pos group) s1

end Sys2Proof.Machine
end

