-- ==== Sys2Proof/Machine/Allot.lean ====
section
/-!
DEFINITION. Tasks, allotment rounds and connectors (06_zones_and_allotment R172 to R183).
-/

namespace Sys2Proof.Machine

open Sys2Proof

/-- The field checks of a task (R172). -/
def taskFields (cur : Nat) (b : TaskBody) : Bool :=
  decide (cur < b.deadline ∧ b.zero = 0 ∧ b.capMask < 2 ^ 31 ∧ b.prio ≤ 255 ∧ b.slideMax ≤ 255 ∧ b.dwell ≤ 255 ∧
    b.wps.length ≤ 255) &&
  within 1 10000 b.vmax && within 1 10000 b.amax && within 1 65535 b.jmax

/-- The lowest free task index (R173), with how many tasks are held below it. -/
def freeTask : Nat → KMap Task → Nat
  | i, [] => i
  | i, (k, _) :: r => if k = i then freeTask (i + 1) r else i

/-- A task message at its position (R172, R173). -/
def taskHandler (b : TaskBody) : Handler := fun c s =>
  if !taskFields (slotOfSf s c.pos.1) b then (s, some (stField, []))
  else if 4096 ≤ s.scr.tasks.length then (s, some (stFull, []))
  else
    let i := freeTask 0 s.scr.tasks
    let seq := (kget 0 s.scr.taskSeq i + 1) % 256
    (s.updScr fun x =>
      { x with tasks := kins x.tasks i ⟨.waiting, seq, b, 0, 0⟩, taskSeq := kset 0 x.taskSeq i seq },
     some (stOk, be 4 (taskRef i seq)))

/-- TASK: a GMP task message (R172). -/
def execTask (h : GmpHdr) (b : TaskBody) (s : State) : Host.Outcome State Fault Refusal :=
  .next (gmpRequest h (.task b) b.wps.isEmpty true (needs 1) (taskHandler b) s)

/-- The task a TASK_REF names: ERR_FIELD for a reference outside its layout, ERR_STALE for a free index or
another SEQ (R173). -/
def findTask (s : State) (ref : Nat) : Nat ⊕ (Nat × Task) :=
  let i := ref % 2 ^ 16
  if 2 ^ 24 ≤ ref ∨ 4095 < i then .inl stField
  else match kfind s.scr.tasks i with
    | some t => if t.seq = ref / 2 ^ 16 % 256 then .inr (i, t) else .inl stStale
    | none => .inl stStale

/-- A task freed with its notice (R174). -/
def dropTask (i : Nat) (n : TaskNotice) (s : State) : State :=
  sendNotice n (s.updScr fun c => { c with tasks := kdel c.tasks i })

/-- A withdraw message at its position (R174). -/
def withdrawHandler (ref : Nat) : Handler := fun c s =>
  match findTask s ref with
  | .inl st => (s, some (st, []))
  | .inr (i, t) =>
    if t.st = .assigned then (s, some (stState, []))
    else (dropTask i ⟨ref, 7, 0, 0xFFFE, 0, c.pos.1⟩ s, some (stOk, []))

/-- WITHDRAW: a GMP withdraw message (R174). -/
def execWithdraw (h : GmpHdr) (ref : Nat) (s : State) : Host.Outcome State Fault Refusal :=
  .next (gmpRequest h (.withdraw ref) false true (needs 1) (withdrawHandler ref) s)

/-- A machine's CAP (R184). -/
def capOf (s : State) (m : Nat) : Nat := cfgW s Addr.SCR_ALLOT_SEL m Addr.SCR_ALLOT_MACH 30 0

/-- A machine has every capability a task asks for (R177). -/
def hasCaps (s : State) (m mask : Nat) : Bool := Nat.land (capOf s m) mask == mask

/-- The track request of a task with waypoints before its own (R180, R182). -/
def taskTrack (cur m : Nat) (pre : List Waypoint) (b : TaskBody) : TrackBody :=
  ⟨m, 0, cur + 1, b.slideMax, b.dwell, b.vmax, b.amax, b.jmax, pre ++ b.wps⟩

/-- A task ASSIGNED (R174). -/
def assignTask (i m resId : Nat) (s : State) : State :=
  match kfind s.scr.tasks i with
  | none => s
  | some t => s.updScr fun c => { c with tasks := kins c.tasks i { t with st := .assigned, machine := m, resId := resId } }

/-- A connector message at its position (R182). -/
def connectorHandler (b : ConnBody) : Handler := fun c s =>
  let cur := slotOfSf s c.pos.1
  let fail (st : Nat) : State × Option (Nat × List Nat) := (s, some (st, (TrackRes.blank st (cur + 1)).wire))
  if b.zero0 ≠ 0 ∨ b.zero1 ≠ 0 ∨ !isMachine s.part b.machine then fail stField
  else match findTask s b.ref with
    | .inl st => fail st
    | .inr (i, t) =>
      let tr := taskTrack cur b.machine b.wps t.body
      if !trackFields s.part cur tr || !hasCaps s b.machine t.body.capMask then fail stField
      else if t.st = .assigned then fail stState
      else
        let x := submitTrack c tr (fun r =>
          if r.status = stOk then some ⟨b.ref, 1, stOk, b.machine, r.resId, c.pos.1⟩ else none) s
        (if x.2.status = stOk then assignTask i b.machine x.2.resId x.1 else x.1, none)

/-- CONNECTOR: a GMP connector message (R182). -/
def execConnector (h : GmpHdr) (b : ConnBody) (s : State) : Host.Outcome State Fault Refusal :=
  .next (gmpRequest h (.connector b) b.wps.isEmpty true (needs 1) (connectorHandler b) s)

/-! The round (R175 to R181). -/

/-- A bidder: address, start point and geometry. -/
structure Bidder where
  m : Nat
  p : Waypoint
  g : Geom

/-- The bidder conditions of R176 at the mark of `sf`. -/
def bidderOf (s : State) (sf m : Nat) : Option Bidder :=
  let r := kget Rover.zero s.fix.rover m
  match r.recs.head? with
  | none => none
  | some y =>
    let x := y.fix
    if bit (forceW s (wkey Addr.SCR_ALLOT_SEL m Addr.SCR_ALLOT_MACH)) 31 && !s.scr.cov.hasDesc m && decide (2 ≤ x.qual) &&
        decide (sf ≤ y.sf + 50) then
      some ⟨m, ⟨rndAway x.x 10, rndAway x.y 10⟩, geomFor s m⟩
    else none

/-- The first waypoint of a task. -/
def taskFirst (b : TaskBody) : Waypoint := b.wps.headD ⟨0, 0⟩

/-- T_conn in milliseconds (R178). -/
def connTime (s : State) (p w : Waypoint) : Nat :=
  let v := cfg s Addr.SCR_ALLOT_CONN 13 0
  (ceilSqrt (sq2 (w.x - p.x) (w.y - p.y)) * 1000 + v - 1) / v

/-- v(m, t) (R178). -/
def taskValue (s : State) (prio tconn : Nat) : Int :=
  (cfg s Addr.SCR_ALLOT_VBASE 23 0 + cfg s Addr.SCR_ALLOT_COST 15 0 * prio : Nat) - (tconn : Int)

/-- A connector is clear for a class and a speed (R177). -/
def connClear (s : State) (g : Geom) (p w : Waypoint) (vmax : Nat) : Bool :=
  (sweepCells g [p, w]).all (fun k => !inGrid k ||
    (let cx := (keyCx k).toNat
     let cy := (keyCy k).toNat
     (forbid s.scr.cov.zones cx cy g.cls).1 == 0 && decide (vmax ≤ (capAt s.scr.cov.zones cx cy).getD vmax)))

/-- A pair of R177 that is capable and in time: task index, value, and whether its connector is clear. -/
def pairOf (s : State) (sf : Nat) (b : Bidder) (e : Nat × Task) : Option (Nat × Int × Bool) :=
  let t := e.2.body
  let w := taskFirst t
  let d := connTime s b.p w
  if hasCaps s b.m t.capMask && decide ((sf * 20 + d) / (b.g.slotLen * 20) ≤ t.deadline) then
    some (e.1, taskValue s t.prio d, connClear s b.g b.p w t.vmax)
  else none

/-- The auction under way: prices and holders by task, the bidders still in, bids made (R179). -/
structure Auction where
  price : KMap Int
  holder : KMap Nat
  active : List Nat
  steps : Nat

/-- The net of a task and the task, best first: larger net, then lower index (R179). -/
def bestNet (l : List (Nat × Int)) : Option (Nat × Int) :=
  l.foldl (fun (b : Option (Nat × Int)) x =>
    match b with
    | some y => if y.2 < x.2 then some x else b
    | none => some x) none

/-- The bids of R179; `n` bounds them, `eps` is EPS and `feas` gives the feasible tasks of a bidder in index
order with their values. -/
def bidLoop (feas : Nat → List (Nat × Int)) (eps bidMax : Nat) : Nat → Auction → Auction
  | 0, a => a
  | n + 1, a =>
    if bidMax ≤ a.steps then a
    else match a.active.find? (fun i => !a.holder.any (fun e => e.2 == i)) with
      | none => a
      | some i =>
        let nets := (feas i).map (fun x => (x.1, x.2 - kget 0 a.price x.1))
        match bestNet nets with
        | none => bidLoop feas eps bidMax n { a with active := a.active.erase i }
        | some (j, net) =>
          if net < 0 then bidLoop feas eps bidMax n { a with active := a.active.erase i }
          else
            let w := ((bestNet (nets.filter (fun x => x.1 != j))).map (fun x => max 0 x.2)).getD 0
            bidLoop feas eps bidMax n
              { a with price := kins a.price j (kget 0 a.price j + (net - w) + eps), holder := kins a.holder j i,
                       steps := a.steps + 1 }

/-- The round stopped at BID_MAX with a bidder left (R179). -/
def Auction.trunc (a : Auction) (bidMax : Nat) : Bool :=
  decide (bidMax ≤ a.steps) && a.active.any (fun i => !a.holder.any (fun e => e.2 == i))

/-- Tasks whose DEADLINE has passed freed at a round (R174). -/
def expireTasks (sf cur : Nat) (s : State) : State × Nat :=
  let l := s.scr.tasks.filter (fun e => e.2.st != .assigned && decide (e.2.body.deadline < cur))
  (l.foldl (fun t e => bump Addr.SCR_CNT_EXPIRE
    (dropTask e.1 ⟨taskRef e.1 e.2.seq, 4, 0, 0xFFFE, 0, sf⟩ t)) s, l.length)

/-- One award inserted at the position of the round (R174, R180). -/
def awardOne (pos : Nat × Nat) (bidders : List Bidder) (s : State) (e : Nat × Nat) : State :=
  match kfind s.scr.tasks e.1, bidders.find? (fun b => b.m == e.2) with
  | some t, some b =>
    let cur := b.g.slotOf pos.1
    let tr := taskTrack cur b.m [b.p] t.body
    let x : ScrCov × TrackRes × Nat :=
      if trackFields s.part cur tr then trackOutcome b.g cur pos tr s.scr.cov
      else (s.scr.cov, TrackRes.blank stField (cur + 1), 0)
    let st := x.2.1.status
    let ok := decide (st = stOk)
    let again := decide (st = stConflict ∨ st = stFull)
    let n : TaskNotice := ⟨taskRef e.1 t.seq, if ok then 1 else if again then 2 else 8, st, b.m, x.2.1.resId, pos.1⟩
    let ts := s.scr.tasks
    let ts' := if ok then kins ts e.1 { t with st := .assigned, machine := b.m, resId := x.2.1.resId }
      else if again then kins ts e.1 { t with st := .waiting } else kdel ts e.1
    s.updScr fun c => { c with cov := x.1, tasks := ts', awards := c.awards ++ [⟨x.2.1, b.m, x.2.2, n⟩] }
  | _, _ => s

/-- The blocked machine a flagged task names: the largest value, then the lowest address (R181). -/
def blockedBest (blocked : List (Nat × Nat × Int)) (i : Nat) : Option Nat :=
  ((blocked.filter (fun b => b.2.1 == i)).foldl (fun (a : Option (Nat × Int)) b =>
    match a with
    | some y => if y.2 < b.2.2 then some (b.1, b.2.2) else a
    | none => some (b.1, b.2.2)) none).map (fun x => x.1)

/-- What ends a round once its awards have retired: notices and report (R181, R183). -/
def roundEnd (s : State) : State :=
  match s.scr.awards, s.scr.ending with
  | [], some e =>
    let r := e.rep
    let s1 := e.notices.foldl (fun t n => sendNotice n t) (s.updScr fun c => { c with ending := none, lastRound := r })
    if !e.report then s1
    else notify 3 (fun _ => true) (.bytes 3 (be 6 r.sf ++ be 2 r.steps ++ be 2 r.bidders ++ be 2 r.tasks ++ be 2 r.awards ++
      be 2 r.flagged ++ be 2 r.expired ++ [b2n r.trunc, 0])) s1
  | _, _ => s

/-- The job of the next award of a round (R180). -/
def nextAward (s : State) : State :=
  match s.scr.awards with
  | [] => roundEnd s
  | a :: _ => createJob 3 (s.scr.roundSf, 0) a.machine (some ((sfStart s.scr.roundSf + 100000000) / 1000)) s

/-- A round at the mark of a position (R174 to R182). -/
def allotRound (pos : Nat × Nat) (s : State) : State :=
  let sf := pos.1
  let x := expireTasks sf (slotOfSf s sf) (countJob 6 (bump Addr.SCR_CNT_ROUND s))
  let s1 := x.1
  let bidders := ((List.range (machineCount s.part)).map machineAt).filterMap (bidderOf s1 sf)
  let tasks := s1.scr.tasks.filter (fun e => e.2.st != .assigned)
  let pairs := bidders.map (fun b => (b.m, tasks.filterMap (pairOf s1 sf b)))
  let feas (m : Nat) : List (Nat × Int) := ((kget [] pairs m).filter (fun p => p.2.2)).map (fun p => (p.1, p.2.1))
  let blocked := pairs.flatMap (fun e => (e.2.filter (fun p => !p.2.2)).map (fun p => (e.1, p.1, p.2.1)))
  let bidMax := cfg s Addr.SCR_ALLOT_CFG 26 11
  let a := bidLoop feas (cfg s Addr.SCR_ALLOT_COST 31 16) bidMax (bidMax + bidders.length + 1)
    ⟨[], [], bidders.map (fun b => b.m), 0⟩
  let s2 := a.holder.foldl (awardOne pos bidders) s1
  let flags := (tasks.filter (fun e => e.2.st == .waiting && (kfind a.holder e.1).isNone)).filterMap (fun e =>
    (blockedBest blocked e.1).map (fun m => (e.1, (⟨taskRef e.1 e.2.seq, 3, 0, m, 0, sf⟩ : TaskNotice))))
  let ts := s2.scr.tasks.map (fun e => if flags.any (fun f => f.1 == e.1) then (e.1, { e.2 with st := TaskSt.flagged }) else e)
  let won := (s2.scr.awards.filter (fun w => w.notice.event == 1 && w.notice.sf == sf)).length
  let rep : RoundRep := ⟨sf, a.steps, bidders.length, tasks.length, won, flags.length, x.2, a.trunc bidMax⟩
  nextAward (bumpF Addr.SCR_CNT_FLAG 31 0 flags.length (s2.updScr fun c =>
    { c with tasks := ts, ending := some ⟨flags.map (fun f => f.2), rep, !bidders.isEmpty && !tasks.isEmpty⟩ }))

/-- A round is due at the mark of `sf` (R175). -/
def roundDue (s : State) (sf : Nat) : Bool :=
  cfgB s Addr.SCR_ALLOT_CFG 0 && decide (sf * 20 % (cfg s Addr.SCR_ALLOT_CFG 10 1 * 10) < 20)

/-- The round of the mark of a position, where one is due. -/
def roundMark (pos : Nat × Nat) (s : State) : State :=
  let s1 := s.updScr fun c => { c with roundSf := pos.1 }
  if roundDue s1 pos.1 then allotRound pos s1 else s1

/-- ALLOTMENT_ROUND: the round of the newest SF_MARK, where it has not been run (R175, R179). -/
def execAllotmentRound (s : State) : Host.Outcome State Fault Refusal :=
  if s.scr.roundSf < s.jr.sf then .next (roundMark (s.jr.sf, 0) s) else .next s

/-- AWARD: the oldest award retires (R180, R183): counters, items and notice; then the next one, or the end
of the round. -/
def execAward (s : State) : Host.Outcome State Fault Refusal :=
  match s.scr.awards with
  | [] => .next s
  | a :: rest =>
    let s1 := finishJob 3 a.machine a.res.status (s.updScr fun c => { c with awards := rest })
    let s2 := countInsert a.res a.reloc (maxF Addr.SCR_INS_LAT 15 0 ((now s - sfStart s.scr.roundSf) / 10000) s1)
    let s3 := bump (if a.notice.event = 1 then Addr.SCR_CNT_AWARD else Addr.SCR_CNT_AWARD_FAIL) s2
    .next (nextAward (sendNotice a.notice (trackItems a.machine a.res s3)))

/-- The waypoints of a task lost (12_memory R333, kind 0x04). -/
def taskLoss (sf i : Nat) (s : State) : State :=
  match kfind s.scr.tasks i with
  | some t => dropTask i ⟨taskRef i t.seq, 8, 0, if t.st = .assigned then t.machine else 0xFFFE, 0, sf⟩ s
  | none => s

end Sys2Proof.Machine
end

