-- ==== Sys2Proof/Machine/LoopLaw.lean ====
section
/-!
DEFINITION. The arithmetic of a loop (08_control_loops R218 to R232): stages, regions, projection on a
track, plausibility and formation geometry, each operation rounded once in the order the spec writes it.
-/

namespace Sys2Proof.Machine

open Sys2Proof

/-- The coefficients of a stage and region (R240, words 0 to 9). -/
structure Coefs where
  b : F32
  kp : F32
  ki : F32
  kd : F32
  tf : F32
  kff : F32
  umin : F32
  umax : F32
  imin : F32
  imax : F32

/-- The filtered derivative of a stage at a sample (R229). -/
def stageDy (st : Stage) (co : Coefs) (y dt : F32) (first : Bool) : F32 :=
  if first then 0 else fpDiv (fpAdd (fpMul co.tf st.dy) (fpSub y st.yPrev)) (fpAdd co.tf dt)

/-- The result of a stage: its state, its output, whether the output was clamped, and whether it did not
keep its candidate integrator. -/
structure StageOut where
  st : Stage
  u : F32
  sat : Bool
  iSat : Bool

/-- One stage evaluated (R229). -/
def runStage (st : Stage) (co : Coefs) (y r f dt : F32) (first : Bool) (ulo uhi : F32) : StageOut :=
  let e := fpSub r y
  let p := fpMul co.kp e
  let ff := fpMul co.kff f
  let dy := stageDy st co y dt first
  let cand := if first then st.i else fpAdd st.i (fpMul (fpMul co.ki e) dt)
  let i1 := fpClamp cand co.imin co.imax
  let d := fpNeg (fpMul co.kd dy)
  let w1 := fpAdd (fpAdd (fpAdd ff p) i1) d
  let held := (fpLt uhi w1 && fpLt st.i i1) || (fpLt w1 ulo && fpLt i1 st.i)
  let i2 := if held then fpClamp st.i co.imin co.imax else i1
  let w2 := if held then fpAdd (fpAdd (fpAdd ff p) i2) d else w1
  let u := fpClamp w2 ulo uhi
  ⟨{ st with i := i2, dy := dy, yPrev := y }, u, fpLt u w2 || fpLt w2 u, held || fpLt cand i1 || fpLt i1 cand⟩

/-- P + FF + D of R229 at a sample (R232). -/
def sumPfd (st : Stage) (co : Coefs) (y r f dt : F32) (first : Bool) : F32 :=
  fpAdd (fpAdd (fpMul co.kp (fpSub r y)) (fpMul co.kff f)) (fpNeg (fpMul co.kd (stageDy st co y dt first)))

/-- A region change made bumpless for a stage that is evaluated (R232). -/
def bumpless (st : Stage) (old new : Coefs) (y r f dt : F32) (first : Bool) : Stage :=
  { st with i := fpClamp (fpSub (fpAdd st.i (sumPfd st old y r f dt first)) (sumPfd st new y r f dt first)) new.imin new.imax }

/-- The largest r below `n` that satisfies `p`, or 0. -/
def largest (p : Nat → Bool) : Nat → Nat
  | 0 => 0
  | n + 1 => if p n then n else largest p n

/-- The region by the bounds B (R231, R241); `entry` is RUN entry. -/
def selectRegion (c : Nat) (x : F32) (regions : Nat) (b : Nat → F32) (hyst : F32) (entry : Bool) : Nat :=
  if entry then largest (fun r => r == 0 || fpGe x (b r)) regions
  else if regions ≤ c then 0
  else
    let up := largest (fun r => decide (c < r) && fpGe x (fpAdd (b r) hyst)) regions
    if c < up then up
    else if 0 < c ∧ fpLt x (fpSub (b c) hyst) then largest (fun r => r == 0 || fpGe x (b r)) c
    else c

/-- Measured speed in mm/s (R223). -/
def speedOf (vx vy : Int) : F32 := fpSqrt (fpDot (fpInt vx) (fpInt vy) (fpInt vx) (fpInt vy))

/-- v_al and e_h against a direction (R223). -/
def alongHead (ux uy : F32) (vx vy : Int) : F32 × F32 :=
  let fx := fpInt vx
  let fy := fpInt vy
  (fpAdd (fpMul fx ux) (fpMul fy uy),
   fpDiv (fpSub (fpMul ux fy) (fpMul uy fx)) (fpMax (speedOf vx vy) (fpInt 100)))

/-- One candidate segment of a projection (R223). -/
structure Proj where
  j : Nat
  q : F32
  rx : F32
  ry : F32
  dx : F32
  dy : F32
  lam : F32

/-- The projection of a fix on one segment (R223 steps 2 and 3). -/
def projOn (g : Seg) (j : Nat) (x y : Int) : Proj :=
  let rx := fpMm (x - 10 * g.ax)
  let ry := fpMm (y - 10 * g.ay)
  let dx := fpMm (10 * g.dx)
  let dy := fpMm (10 * g.dy)
  let lam := fpClamp (fpDiv (fpDot rx ry dx dy) (fpDot dx dy dx dy)) 0 (fpInt 1)
  let ex := fpSub rx (fpMul lam dx)
  let ey := fpSub ry (fpMul lam dy)
  ⟨j, fpDot ex ey ex ey, rx, ry, dx, dy, lam⟩

/-- What a projection gives: segment, s_meas, e_ct, v_al and e_h (R223). -/
structure OnTrack where
  j : Nat
  sMeas : F32
  eCt : F32
  vAl : F32
  eH : F32

/-- A fix projected on a track from segment `jc` on (R223). -/
def project (segs : List Seg) (jc : Nat) (x y vx vy : Int) : Option OnTrack :=
  let c := min jc (segs.length - 1)
  let cands := [c, c + 1, c + 2].filterMap (fun j => (segs[j]?).map (fun g => (g, projOn g j x y)))
  let best := cands.foldl (fun (b : Option (Seg × Proj)) p =>
    match b with
    | some o => if fpLt p.2.q o.2.q then some p else b
    | none => some p) none
  best.map fun e =>
    let g := e.1
    let p := e.2
    let ux := fpDiv p.dx g.len
    let uy := fpDiv p.dy g.len
    let v := alongHead ux uy vx vy
    ⟨p.j, fpAdd g.start (fpMul p.lam g.len), fpSub (fpMul p.ry ux) (fpMul p.rx uy), v.1, v.2⟩

/-- A record as a prediction base (R220). -/
def baseOf (r : FixRec) : PredBase := ⟨r.x, r.y, r.vx, r.vy, r.epoch⟩

/-- A record is implausible against a base (R220). -/
def implausible (b : PredBase) (r : FixRec) (plBase plAcc : Nat) : Bool :=
  let dt := fpSecs (r.epoch - b.epoch)
  let ax := fpSub (fpMm (r.x - b.x)) (fpMul (fpInt b.vx) dt)
  let ay := fpSub (fpMm (r.y - b.y)) (fpMul (fpInt b.vy) dt)
  let bound := fpAdd (fpInt plBase) (fpMul (fpMul (fpMul (fpFrac 1 2) (fpInt plAcc)) dt) dt)
  fpLt (fpMul bound bound) (fpDot ax ay ax ay)

/-- u_L from a leader sample, else the last one (R228). -/
def leadDir (l : FixRec) (prev : Option (Nat × Nat)) : Option (Nat × Nat) :=
  let v := speedOf l.vx l.vy
  if fpGe v (fpInt 100) then some (fpDiv (fpInt l.vx) v, fpDiv (fpInt l.vy) v) else prev

/-- Formation geometry (R228): y_al, e_ct, v_ref, v_al and e_h. -/
structure Form where
  yAl : F32
  eCt : F32
  vRef : F32
  vAl : F32
  eH : F32

/-- The geometry of a follower against a leader sample (R228); offsets in millimetres. -/
def formation (l f : FixRec) (u : Nat × Nat) (along lat : Int) : Form :=
  let ux := u.1
  let uy := u.2
  let nx := fpNeg uy
  let ny := ux
  let gx := fpSub (fpSub (fpMm (f.x - l.x)) (fpMul (fpInt along) ux)) (fpMul (fpInt lat) nx)
  let gy := fpSub (fpSub (fpMm (f.y - l.y)) (fpMul (fpInt along) uy)) (fpMul (fpInt lat) ny)
  let v := alongHead ux uy f.vx f.vy
  ⟨fpDot gx gy ux uy, fpDot gx gy nx ny, fpDot (fpInt l.vx) (fpInt l.vy) ux uy, v.1, v.2⟩

/-- An on-air command field: 16 bits in two's complement, saturating at ± 32,767 (R237). -/
def cmdField (u : F32) (factor : Nat) : Nat := unsgn 16 (clampI (-32767) 32767 (fpRoundAway u factor))

end Sys2Proof.Machine
end

