-- ==== Sys2Proof/Machine/Loops.lean ====
section
/-!
DEFINITION. The loop engine (08_control_loops): samples, references, evaluation, HOLD, and the commands it
sends.
-/

namespace Sys2Proof.Machine

open Sys2Proof

/-! Configuration in force (R240). -/

/-- A field of a loop's configuration in force. -/
def lcfg (s : State) (l a hi lo : Nat) : Nat := cfgW s Addr.LOOP_SEL l a hi lo

/-- A coefficient word in force. -/
def coefW (s : State) (l g r w : Nat) : F32 := lcfg s l (Addr.LOOP_COEF + 0x200 * g + 0x40 * r + 4 * w) 31 0

/-- The coefficients of a stage (0 inner, 1 outer) and region in force. -/
def coefs (s : State) (l g r : Nat) : Coefs :=
  let w := coefW s l g r
  ⟨w 0, w 1, w 2, w 3, w 4, w 5, w 6, w 7, w 8, w 9⟩

/-- A loop changed, where it is not OFF. -/
def modLoop (l : Nat) (f : Loop → Loop) (s : State) : State :=
  match kfind s.loop.loops l with
  | some x => s.updLoop fun e => { e with loops := kins e.loops l (f x) }
  | none => s

/-- The loops of a machine, ascending (R217). -/
def loopsOf (s : State) (m : Nat) : List Nat := kkeys (fun _ x => x.machine == m) s.loop.loops

/-- The covered permit bit of a machine. -/
def permitted (s : State) (m : Nat) : Bool := s.safe.cPermit.testBit (machineBit m)

/-- A loop on entry to READY from OFF (R234). -/
def Loop.fresh0 (kind ref machine leader : Nat) : Loop :=
  { st := .ready, kind := kind, ref := ref, machine := machine, leader := leader, bad := 0, base := none,
    fresh := true, lfresh := true, seen := false, inner := Stage.zero, outer := Stage.zero, region := 0, n := 0,
    o := 0, jc := 0, track := none, desc := 0, amax := none, uL := none, lead := none, vRef := 0, lbase := none,
    lrej := none, out := 0, outSat := false, iSat := false, capActive := false, lastEpoch := 0, sfHold := 0,
    v0 := 0, dec := 0, ceased := false, withdrawn := false, tickSf := 0, stepSf := 0 }

/-- A loop with its stage state cleared, in READY (R234). -/
def Loop.toReady (x : Loop) : Loop :=
  { x with st := .ready, inner := Stage.zero, outer := Stage.zero, n := 0, o := 0, jc := 0, track := none,
           fresh := true, lfresh := true }

/-- A loop returns to READY and its commands cease (R234, R237). -/
def loopReady (l : Nat) (s : State) : State :=
  match kfind s.loop.loops l with
  | none => s
  | some x => modLoop l Loop.toReady (if x.st = .ready then s else ceaseCmd x.machine (x.kind == 2) s)

/-! HOLD (R234 to R236). -/

/-- One loop of a machine that enters HOLD, where it is in RUN (R234, R235). -/
def holdOne (sf : Nat) (s : State) (l : Nat) : State :=
  match kfind s.loop.loops l with
  | none => s
  | some x =>
    if x.st ≠ .run then s
    else
      let dec := if x.ref = 0 then x.amax.getD (lcfg s l Addr.LOOP_CFG4 13 0) else lcfg s l Addr.LOOP_CFG4 13 0
      bump Addr.LOOP_CNT_HOLD (modLoop l (fun y =>
        { y with st := .hold, sfHold := sf, v0 := if y.kind = 1 then y.out else 0, dec := dec, ceased := false,
                 withdrawn := false }) s)

/-- Every RUN loop of a machine enters HOLD at a position (R234). -/
def holdAll (m sf : Nat) (s : State) : State := (loopsOf s m).foldl (holdOne sf) s

/-- BAD raised by 1; a loop in RUN that reaches BAD_MAX enters HOLD (R221, R234). -/
def loopBad (l sf : Nat) (s : State) : State :=
  let s1 := modLoop l (fun x => { x with bad := min (x.bad + 1) 63 }) s
  match kfind s1.loop.loops l with
  | some x => if x.st = .run ∧ lcfg s1 l Addr.LOOP_CFG1 21 16 ≤ x.bad then holdAll x.machine sf s1 else s1
  | none => s1

/-! Samples (R219 to R221). -/

/-- A record is usable for a loop, its plausibility apart (R219). -/
def usableRec (s : State) (l : Nat) (r : FixRec) (status : Nat) : Bool :=
  decide (lcfg s l Addr.LOOP_CFG4 18 16 ≤ r.qual) && r.flags.testBit 4 && (status == stOk || status == stLate)

/-- A record is implausible under a loop's configuration (R220). -/
def loopImpl (s : State) (l : Nat) (b : PredBase) (r : FixRec) : Bool :=
  implausible b r (lcfg s l Addr.LOOP_CFG3 15 0) (lcfg s l Addr.LOOP_CFG3 31 16)

/-! References (R222 to R228). -/

/-- What an evaluation takes from its reference: measurements and set-points of R230, and whether the leader
sample is fresh. -/
structure RefIn where
  stand : Bool
  fresh : Bool
  vRef : F32
  sRef : F32
  sMeas : F32
  yAl : F32
  eCt : F32
  vAl : F32
  eH : F32

/-- The reference track of a machine at a slot: descriptor index and descriptor (R222). -/
def refTrack (s : State) (m cur : Nat) : Option (Nat × Desc) :=
  (List.range 8).foldl (fun (b : Option (Nat × Desc)) i =>
    let d := s.scr.cov.desc m i
    if d.live && decide (d.first ≤ cur ∧ cur ≤ d.last) then
      match b with
      | some e => if e.2.first < d.first then some (i, d) else b
      | none => some (i, d)
    else b) none

/-- The reference of a REF 0 loop at a sample: the loop with its track, and what it gives (R222, R223,
R227). -/
def trackRef (s : State) (x : Loop) (a : LoopSample) : Loop × Option RefIn :=
  match refTrack s x.machine (slotOfSf s a.sf) with
  | none => (x, none)
  | some (i, d) =>
    let key := (resIdOf x.machine i d.seq, d.first)
    let x1 : Loop := if x.track = some key then x
      else { x with track := some key, jc := 0, outer := Stage.zero, o := 0 }
    let x2 : Loop := { x1 with desc := i, amax := some d.amax }
    let segs := segments d.wps
    let r := a.fix
    match project segs x2.jc r.x r.y r.vx r.vy with
    | none => (x2, if x.kind = 2 then none else some ⟨true, true, 0, 0, 0, 0, 0, speedOf r.vx r.vy, 0⟩)
    | some p =>
      let plan := mkPlan (pathLen segs) d.vmax d.amax d.jmax
      let t : Int := ((r.epoch : Int) + 315964819000 - (d.first : Int) * (cfg s Addr.SCR_CFG 8 2 * 20 : Nat)) * 1000
      let ref := planAt plan t
      ({ x2 with jc := p.j }, some ⟨false, true, ref.2.1, ref.1, p.sMeas, 0, p.eCt, p.vAl, p.eH⟩)

/-- The newest record of a machine whose entry precedes a position (R228). -/
def recBefore (s : State) (m : Nat) (pos : Nat × Nat) : Option RecAt :=
  (kget Rover.zero s.fix.rover m).recs.find? (fun y => posLt (y.sf, y.seq) pos)

/-- The leader sample at an evaluation, where it is usable, new and young enough (R228); its plausibility is
tested apart. -/
def leadCand (s : State) (l : Nat) (x : Loop) (a : LoopSample) : Option FixRec :=
  match recBefore s x.leader (a.sf, a.seq) with
  | none => none
  | some y =>
    let r := y.fix
    let later := (x.lead.map (fun p => decide (p.epoch < r.epoch))).getD true
    let age := max (a.fix.epoch - r.epoch) (r.epoch - a.fix.epoch)
    if usableRec s l r y.status && later && decide (age ≤ lcfg s l Addr.LOOP_CFG4 26 20 * 10) && x.lrej != some r.epoch then some r
    else none

/-- The reference of a REF 1 loop at a sample (R228): the loop, what it gives, and whether a leader sample
was found implausible. -/
def leadRef (s : State) (l : Nat) (x : Loop) (a : LoopSample) : Loop × Option RefIn × Bool :=
  let along := sgn 16 (lcfg s l Addr.LOOP_CFG2 15 0)
  let lat := sgn 16 (lcfg s l Addr.LOOP_CFG2 31 16)
  let cand := leadCand s l x a
  let bad := match cand, x.lbase with
    | some r, some b => !x.lfresh && loopImpl s l b r
    | _, _ => false
  let x1 : Loop := if bad then { x with lrej := cand.map (fun r => r.epoch) } else x
  let u := match cand with
    | some r => if bad then none else leadDir r x.uL
    | none => none
  let fresh := u.isSome
  let x2 : Loop := match cand, u with
    | some r, some v => { x1 with uL := some v, lead := some r, lbase := some (baseOf r), lfresh := false }
    | _, _ => x1
  match x2.lead, x2.uL with
  | some r, some v =>
    let g := formation r a.fix v along lat
    let x3 : Loop := if fresh then { x2 with vRef := g.vRef } else x2
    (x3, some ⟨false, fresh, x3.vRef, 0, 0, g.yAl, g.eCt, g.vAl, g.eH⟩, bad)
  | _, _ => (x2, none, bad)

/-- The reference of a loop at a sample. -/
def loopRef (s : State) (l : Nat) (x : Loop) (a : LoopSample) : Loop × Option RefIn × Bool :=
  if x.ref = 2 then
    (x, some ⟨false, true, lcfg s l Addr.LOOP_SETPOINT 31 0, 0, 0, 0, 0, speedOf a.fix.vx a.fix.vy, 0⟩, false)
  else if x.ref = 1 then leadRef s l x a
  else
    let t := trackRef s x a
    (t.1, t.2, false)

/-! Evaluation (R229 to R232). -/

/-- The region for an evaluation (R231). -/
def loopRegion (s : State) (l : Nat) (x : Loop) (a : LoopSample) (c : RefIn) (entry : Bool) : Nat :=
  let regions := lcfg s l Addr.LOOP_CFG0 15 13 + 1
  let sv := lcfg s l Addr.LOOP_CFG0 12 10
  if lcfg s l Addr.LOOP_REGION 3 3 = 1 ∨ sv = 0 then
    let r := lcfg s l Addr.LOOP_REGION 2 0
    if r < regions then r else 0
  else
    let v := if sv = 1 then speedOf a.fix.vx a.fix.vy else if sv = 2 then c.vRef
      else if sv = 3 then lcfg s l Addr.LOOP_SCHED_VAL 31 0 else c.eCt % 2 ^ 31
    selectRegion x.region v regions (fun r => coefW s l 0 r 0) (lcfg s l Addr.LOOP_HYST 31 0) entry

/-- dt and the first-sample flag of a stage at an EPOCH (R230). -/
def stageArgs (st : Stage) (epoch : Nat) : F32 × Bool :=
  match st.last with
  | none => (0, true)
  | some t => (fpSecs ((epoch : Int) - t), decide (t + 1000 < epoch))

/-- What an evaluation leaves: the loop, whether it changed region, and whether its outer stage was skipped
for want of a fresh leader sample. -/
structure EvalOut where
  x : Loop
  switched : Bool
  skipped : Bool

/-- One evaluation of a loop in RUN (R229 to R232); `entry` is entry to RUN. -/
def evalLoop (s : State) (l : Nat) (x0 : Loop) (a : LoopSample) (c : RefIn) (entry : Bool) : EvalOut :=
  let ep := a.fix.epoch
  let speed := x0.kind == 1
  let outerEn := lcfg s l Addr.LOOP_CFG0 4 4 == 1 && !c.stand && x0.ref != 2
  let due := outerEn && x0.n % max 1 (lcfg s l Addr.LOOP_CFG0 9 5) == 0
  let skipped := due && x0.ref == 1 && !c.fresh
  let doOuter := due && !skipped
  let new := loopRegion s l x0 a c entry
  let ci := coefs s l 0 new
  let co := coefs s l 1 new
  let switched := !entry && new != x0.region
  let o0 := if outerEn then x0.o else 0
  let inner0 : Stage := if entry then { Stage.zero with i := fpClamp 0 ci.imin ci.imax } else x0.inner
  let outer0 : Stage := if entry then { Stage.zero with i := fpClamp 0 co.imin co.imax }
    else if switched && !doOuter then { x0.outer with i := fpClamp x0.outer.i co.imin co.imax } else x0.outer
  let oa := stageArgs outer0 ep
  let oy := if speed then (if x0.ref = 1 then c.yAl else c.sMeas) else c.eCt
  let orr := if speed && x0.ref == 0 then c.sRef else 0
  let outer1 := if switched && doOuter then bumpless outer0 (coefs s l 1 x0.region) co oy orr 0 oa.1 oa.2 else outer0
  let or := runStage outer1 co oy orr 0 oa.1 oa.2 co.umin co.umax
  let outer2 : Stage := if doOuter then { or.st with last := some ep } else outer1
  let o1 := if doOuter then or.u else o0
  let y := if speed then c.vAl else c.eH
  let r := if speed then fpAdd c.vRef o1 else o1
  let f := if speed then r else 0
  let ia := stageArgs inner0 ep
  let inner1 := if switched then bumpless inner0 (coefs s l 0 x0.region) ci y r f ia.1 ia.2 else inner0
  let uhi := match a.cap with
    | some k => if speed then fpMin ci.umax (fpInt k) else ci.umax
    | none => ci.umax
  let ir := runStage inner1 ci y r f ia.1 ia.2 ci.umin uhi
  ⟨{ x0 with st := .run, region := new, inner := { ir.st with last := some ep }, outer := outer2, o := o1, out := ir.u,
             outSat := ir.sat, iSat := ir.iSat, n := x0.n + 1,
             capActive := if speed then a.cap.isSome else x0.capActive }, switched, skipped⟩

/-- The command of a loop's output (R237). -/
def sendOut (x : Loop) (u : F32) (epoch flags : Nat) (last : Bool) (s : State) : State :=
  queueCmd x.machine (x.kind == 2) (cmdField u (if x.kind = 2 then 10000 else 1)) epoch flags last s

/-- A loop written back. -/
def putLoop (l : Nat) (x : Loop) (s : State) : State := s.updLoop fun e => { e with loops := kins e.loops l x }

/-- A usable, plausible sample at a loop that is in READY or RUN with its machine's permit set (R234). -/
def loopRun (l : Nat) (x : Loop) (a : LoopSample) (s : State) : State :=
  let r := loopRef s l x a
  let s1 := if r.2.2 then bump Addr.LOOP_CNT_IMPLAUS s else s
  match r.2.1 with
  | none => putLoop l r.1 s1
  | some c =>
    if x.st = .ready ∧ !c.fresh then putLoop l r.1 s1
    else
      let e := evalLoop s1 l (if x.st = .ready then { r.1 with n := 0 } else r.1) a c (decide (x.st = .ready))
      let s2 := bump Addr.LOOP_CNT_EVAL (putLoop l e.x s1)
      let s3 := if e.switched then bump Addr.LOOP_CNT_SWITCH s2 else s2
      let s4 := sendOut e.x e.x.out a.fix.epoch 0 false s3
      let s5 := maxF Addr.LOOP_LAT 15 0 ((now s - a.ready) / 1000) s4
      if e.skipped then loopBad l a.sf (bump Addr.LOOP_CNT_STALE_LEAD s5) else s5

/-- A sample at one loop (R219 to R221, R234). -/
def loopSample (a : LoopSample) (s : State) (l : Nat) : State :=
  match kfind s.loop.loops l with
  | none => s
  | some x =>
    if !usableRec s l a.fix a.status then s
    else
      let bad := match x.base with
        | some b => !x.fresh && loopImpl s l b a.fix
        | none => false
      if bad then loopBad l a.sf (bump Addr.LOOP_CNT_IMPLAUS s)
      else
        let x1 : Loop := { x with fresh := false, bad := 0, seen := true, base := some (baseOf a.fix), lastEpoch := a.fix.epoch }
        let s1 := putLoop l x1 s
        if x.st = .hold then s1
        else if !permitted s1 x.machine then (if x.st = .run then loopReady l s1 else s1)
        else loopRun l x1 a s1

/-- The oldest waiting sample of a machine with the others. -/
def takeSample (m : Nat) : List LoopSample → Option (LoopSample × List LoopSample)
  | [] => none
  | a :: r => if a.machine = m then some (a, r) else (takeSample m r).map (fun p => (p.1, a :: p.2))

/-- A sample waits for the Fix job of a leader's record whose entry precedes its own (R228, R239). -/
def leadPending (s : State) (a : LoopSample) : Bool :=
  s.loop.loops.any (fun e => e.2.machine == a.machine && e.2.ref == 1 &&
    s.fix.jobs.any (fun j => j.rover == e.2.leader && posLt (j.sf, j.seq) (a.sf, a.seq)))

/-- LOOP_EVAL: the oldest sample of a machine is evaluated by its loops in ascending index (R217, R229,
R239); it waits for a leader's record. -/
def execLoopEval (m : Nat) (s : State) : Host.Outcome State Fault Refusal :=
  match takeSample m s.loop.samples with
  | none => .next s
  | some (a, rest) =>
    if leadPending s a then .next s
    else
      let s1 := s.updLoop fun e => { e with samples := rest }
      .next ((loopsOf s1 m).foldl (loopSample a) (finishJob 7 m stOk s1))

/-- A record handed to its machine's loops, where it has any (R32 step 4c). -/
def offerSample (a : LoopSample) (s : State) : State :=
  if (loopsOf s a.machine).isEmpty then s
  else createJob 7 (a.sf, a.seq) a.machine (some ((a.ready + 1000000) / 1000))
    (s.updLoop fun e => { e with samples := e.samples ++ [a] })

/-! SF_MARK (R221, R234 to R236). -/

/-- A superframe without a usable sample counted, once for each mark (R221). -/
def tickLoop (sf : Nat) (s : State) (l : Nat) : State :=
  match kfind s.loop.loops l with
  | none => s
  | some x =>
    if sf ≤ x.tickSf then s
    else
      let s1 := modLoop l (fun y => { y with tickSf := sf, seen := false }) s
      if x.seen then s1
      else bump Addr.LOOP_CNT_MISS (modLoop l (fun y => { y with bad := min (y.bad + 1) 63 }) s1)

/-- A loop in RUN at a mark: READY where its permit is clear, HOLD where BAD has reached BAD_MAX or the
leader's permit is clear (R228, R234). -/
def holdCheck (sf : Nat) (s : State) (l : Nat) : State :=
  match kfind s.loop.loops l with
  | none => s
  | some x =>
    if x.st ≠ .run then s
    else if !permitted s x.machine then loopReady l s
    else if lcfg s l Addr.LOOP_CFG1 21 16 ≤ x.bad ∨ (x.ref = 1 ∧ !permitted s x.leader) then holdAll x.machine sf s
    else s

/-- The ramp of a SPEED loop in HOLD after k superframes (R235). -/
def rampAt (x : Loop) (k : Nat) : F32 :=
  let tau := fpMul (fpInt k) (fpFrac 2 100)
  fpMax 0 (fpSub x.v0 (fpMul (fpInt x.dec) tau))

/-- The SPEED loop of a machine in HOLD from the same position has reached zero (R235). -/
def speedDone (s : State) (x : Loop) (k : Nat) : Bool :=
  s.loop.loops.any (fun e => e.2.machine == x.machine && e.2.kind == 1 && e.2.st == .hold && e.2.sfHold == x.sfHold &&
    (e.2.ceased || !fpLt 0 (rampAt e.2 k)))

/-- A HOLD step of a loop at a mark after the one it entered HOLD at, once for each mark (R235). -/
def holdStep (sf : Nat) (s : State) (l : Nat) : State :=
  match kfind s.loop.loops l with
  | none => s
  | some x =>
    if x.st ≠ .hold ∨ sf ≤ x.sfHold ∨ sf ≤ x.stepSf then s
    else
      let s1 := modLoop l (fun y => { y with stepSf := sf }) s
      if x.ceased then s1
      else if !permitted s x.machine then ceaseCmd x.machine (x.kind == 2) (modLoop l (fun y => { y with ceased := true }) s1)
      else
        let k := sf - x.sfHold
        let u := if x.kind = 1 then rampAt x k else x.out
        let last := if x.kind = 1 then !fpLt 0 u else speedDone s x k
        sendOut x u sf 3 last (if last then modLoop l (fun y => { y with ceased := true }) s1 else s1)

/-- The withdrawal of a loop whose HOLD has lasted T_HOLD (R236). -/
def holdWithdraw (pos : Nat × Nat) (s : State) (l : Nat) : State :=
  match kfind s.loop.loops l with
  | none => s
  | some x =>
    if x.st ≠ .hold ∨ x.withdrawn ∨ pos.1 < x.sfHold + lcfg s l Addr.LOOP_CFG1 30 24 then s
    else bump Addr.LOOP_CNT_WITHDRAW (withdraw pos x.machine 12 (modLoop l (fun y => { y with withdrawn := true }) s))

/-- One loop at the mark of a position. -/
def loopMark (pos : Nat × Nat) (s : State) (l : Nat) : State :=
  holdWithdraw pos (holdStep pos.1 (holdCheck pos.1 (tickLoop pos.1 s l) l) l) l

/-- Every loop at the mark of a position, ascending (R217). -/
def loopsMark (pos : Nat × Nat) (s : State) : State :=
  countJob 8 ((s.loop.loops.map (fun e => e.1)).foldl (loopMark pos) s)

/-- LOOP_TICK: the count of a loop at the newest SF_MARK, where it has not been taken (R221). -/
def execLoopTick (l : Nat) (s : State) : Host.Outcome State Fault Refusal := .next (tickLoop s.jr.sf s l)

/-- LOOP_HOLD: the check of a loop in RUN at the newest SF_MARK (R234). -/
def execLoopHold (l : Nat) (s : State) : Host.Outcome State Fault Refusal := .next (holdCheck s.jr.sf s l)

/-- HOLD_STEP: the step of a loop in HOLD at the newest SF_MARK, where it has not been taken (R235). -/
def execHoldStep (l : Nat) (s : State) : Host.Outcome State Fault Refusal := .next (holdStep s.jr.sf s l)

/-- HOLD_WITHDRAW: the check of T_HOLD at the newest SF_MARK (R236). -/
def execHoldWithdraw (l : Nat) (s : State) : Host.Outcome State Fault Refusal := .next (holdWithdraw (s.jr.sf, 0) s l)

/-- A machine's short address is freed (R234). -/
def loopsFreed (m : Nat) (s : State) : State :=
  (loopsOf s m).foldl (fun t l => modLoop l (fun x => { x with base := none, bad := 0 }) (loopReady l t)) s

/-! Writes (R233, R234, R240). -/

/-- CLEAR_I: both integrators 0, clamped to their limits (R240). -/
def clearI (l : Nat) (s : State) : State :=
  modLoop l (fun x =>
    let ci := coefs s l 0 x.region
    let co := coefs s l 1 x.region
    { x with inner := { x.inner with i := fpClamp 0 ci.imin ci.imax }, outer := { x.outer with i := fpClamp 0 co.imin co.imax } }) s

/-- RESUME (R234). -/
def resume (l : Nat) (s : State) : State × Nat :=
  match kfind s.loop.loops l with
  | none => (s, stEmpty)
  | some x => if x.st ≠ .hold then (s, stEmpty) else if 0 < x.bad then (s, stState) else (loopReady l s, stOk)

/-- A write of LOOP_CTRL (R240): CLEAR_I first. -/
def loopCtrlWord (v : Word) (s : State) : State × Nat :=
  let l := selLoop s
  let s1 := if bit v 1 then clearI l s else s
  if !bit v 0 then (s1, stOk)
  else
    let r := resume l s1
    if isErr r.2 then (s, r.2) else r

/-- RESUME: a write of 1 to RESUME in LOOP_CTRL (R234). -/
def execResume (h : GmpHdr) (s : State) : Host.Outcome State Fault Refusal :=
  .next (gmpWord h Addr.LOOP_CTRL 1#32 1 (loopCtrlWord 1#32) s)

/-- CLEAR_I: a write of 1 to CLEAR_I in LOOP_CTRL (R240). -/
def execClearI (h : GmpHdr) (s : State) : Host.Outcome State Fault Refusal :=
  .next (gmpWord h Addr.LOOP_CTRL 2#32 1 (loopCtrlWord 2#32) s)

/-- A write of a LOOP_COEF word, named by its address (R233, R240). -/
def coefWord (addr : Nat) (v : Word) (s : State) : State × Nat :=
  let l := selLoop s
  let x := addr - Addr.LOOP_COEF
  let w := x % 0x40 / 4
  let base := addr - 4 * w
  let other (i : Nat) : F32 := lcfg s l (base + 4 * i) 31 0
  if 10 ≤ w then (s, stOk)
  else
    let f := v.toNat
    let bad := fpBad f || (w == 4 && fpLt f 0) || (w == 6 && fpLt (other 7) f) || (w == 7 && fpLt f (other 6)) ||
      (w == 8 && fpLt (other 9) f) || (w == 9 && fpLt f (other 8))
    if bad then (s, stField) else (setForce (wkey Addr.LOOP_SEL l addr) v s, stOk)

/-- COEF_WRITE: a coefficient word of the selected loop, stage g, region r, word w (R233, R240). -/
def execCoefWrite (h : GmpHdr) (g r w : Nat) (v : Word) (s : State) : Host.Outcome State Fault Refusal :=
  let a := Addr.LOOP_COEF + 0x200 * (g % 2) + 0x40 * (r % 8) + 4 * (w % 16)
  .next (gmpWord h a v 1 (coefWord a v) s)

/-! Commits (R216, R217, R234, R241). -/

/-- The loops a commit looks at: those not OFF and those whose LOOP_CFG0 differs from its default. -/
def loopIdxs (s : State) : List Nat :=
  let ws := (s.regs.force ++ s.regs.staged).filterMap (fun e =>
    if keySel e.1 = Addr.LOOP_SEL ∧ (keyWin e.1).isSome ∧ keyAddr e.1 = Addr.LOOP_CFG0 then keyWin e.1 else none)
  (s.loop.loops.map (fun e => e.1) ++ ws).foldl (fun l k => insKey k l) []

/-- KIND, REF, MACHINE and LEADER as the staged copies would leave them. -/
def stagedKinds (s : State) (l : Nat) : Nat × Nat × Nat × Nat :=
  let g := stgW s Addr.LOOP_SEL l
  (g Addr.LOOP_CFG0 1 0, g Addr.LOOP_CFG0 3 2, g Addr.LOOP_CFG0 31 16, g Addr.LOOP_CFG1 15 0)

/-- The checks of one loop at a commit (R216, R240, R241). -/
def loopCheck (s : State) (l : Nat) : Nat :=
  let k := stagedKinds s l
  let busy := match kfind s.loop.loops l with
    | some x => x.st != .ready && decide ((x.kind, x.ref, x.machine, x.leader) ≠ k)
    | none => false
  let outer := stgW s Addr.LOOP_SEL l Addr.LOOP_CFG0 4 4
  let field := k.1 != 0 && (!isMachine s.part k.2.2.1 ||
    (k.2.1 == 2 && (k.1 != 1 || outer == 1)) ||
    (k.2.1 == 1 && (!isMachine s.part k.2.2.2 || k.2.2.2 == k.2.2.1)))
  let twin := k.1 != 0 && (loopIdxs s).any (fun j => j != l &&
    (let q := stagedKinds s j
     q.1 == k.1 && q.2.2.1 == k.2.2.1))
  firstErr stOk [(field, stField), (busy, stState), (twin, stConflict)]

/-- The checks of every loop at a commit. -/
def loopsCommitCheck (s : State) : Nat := (loopIdxs s).foldl (fun a l => worse a (loopCheck s l)) stOk

/-- The loops after a commit (R234). -/
def loopsCommit (s : State) : State :=
  (loopIdxs s).foldl (fun t l =>
    let kind := lcfg t l Addr.LOOP_CFG0 1 0
    let ref := lcfg t l Addr.LOOP_CFG0 3 2
    let m := lcfg t l Addr.LOOP_CFG0 31 16
    let lead := lcfg t l Addr.LOOP_CFG1 15 0
    if kind = 0 then
      let t1 := match kfind t.loop.loops l with
        | some x => ceaseCmd x.machine (x.kind == 2) t
        | none => t
      t1.updLoop fun e => { e with loops := kdel e.loops l }
    else match kfind t.loop.loops l with
      | some x => if (x.kind, x.ref, x.machine, x.leader) = (kind, ref, m, lead) then t
          else putLoop l (Loop.fresh0 kind ref m lead) t
      | none => putLoop l (Loop.fresh0 kind ref m lead) t) s

end Sys2Proof.Machine
end

