-- ==== Sys2Proof/Machine/Time.lean ====
section
/-!
DEFINITION. Station time (14_station_time): its sources and their states, forced sets, PTP and the
trigger outputs.
-/

namespace Sys2Proof.Machine

open Sys2Proof

/-- What one edge adds to station time at a rate of `x` units of 10^-12, in units of 2^-32 ns (R368). -/
def edgeAdd (x : Int) : Nat := (10 * 2 ^ 32 + 10 * 2 ^ 32 * x / 1000000000000).toNat

/-- One edge of the 100 MHz clock (R368): 10 ns × (1 + F_SERVO + F_SLEW), held to 2^-32 ns. -/
def tick (s : State) : State :=
  s.updTime fun t =>
    let sum := t.ns * 2 ^ 32 + t.frac + edgeAdd (t.servo + t.slew)
    { t with ns := sum / 2 ^ 32, frac := sum % 2 ^ 32, op := t.op + 10 }

/-! Sources (R369 to R373). -/

/-- A source changed. -/
def modSrc (k : Nat) (f : TimeSrc → TimeSrc) (s : State) : State :=
  s.updTime fun t => { t with srcs := lmod t.srcs k f }

/-- The sources that SRC_ORDER admits, first choice first (R385). -/
def srcOrder (s : State) : List Nat :=
  match cfg s Addr.TIME_CFG 1 0 with
  | 0 => [0, 1, 2]
  | 1 => [2, 0, 1]
  | 2 => [0, 1]
  | _ => [2]

/-- The first QUALIFIED source in the order (R371). -/
def firstQual (s : State) : Option Nat := (srcOrder s).find? (fun k => (src s k).st == .qualified)

/-- Byte 1 of a TIME_EVENT payload of code 0x03 (R372). -/
def srcByte (k : Option Nat) : Nat := k.getD 0xFF

/-- A TIME_EVENT entry offered to the sequencer, with its recorder trigger (R371, R372). -/
def postTime (code source before after trig : Nat) (s : State) : State :=
  let p := Payload.timeEvent code source before after
  evTrig trig (payloadWire p) (post p id s)

/-- What a change of the selected source does to the state of station time (R373). -/
def selState (new : Option Nat) (s : State) : State :=
  match s.time.st, new with
  | .acquire, some k =>
    let e := (src s k).e
    s.updTime fun t => { t with ns := ((t.ns : Int) + e).toNat, frac := 0, st := .locked, valid := true }
  | .locked, none => s.updTime fun t => { t with st := .hold, slew := 0, holdSince := t.op }
  | .hold, some _ => s.updTime fun t => { t with st := .locked }
  | .free, some _ => s.updTime fun t => { t with st := .locked }
  | _, _ => s

/-- The selection brought up to date: a change sets SRC_CHANGE and writes its entry (R371). -/
def reselect (s : State) : State :=
  let new := firstQual s
  if new = s.time.sel then s
  else
    let s1 := selState new (s.updTime fun t => { t with sel := new })
    let s2 := bump Addr.TIME_CNT_SRC_CHANGE (alarm Addr.TIME_ALARM 1 s1)
    postTime 0x03 (srcByte new) (now s2) (now s2) 0x1A s2

/-- A measurement agrees (R370): within JUMP_TH, or, before VALID, within 1 µs of the one before it. -/
def agrees (s : State) (x : TimeSrc) (e : Int) : Bool :=
  if s.time.valid then decide (e.natAbs ≤ cfg s Addr.TIME_JUMP 19 0 * 1000)
  else match x.prevE with
    | some p => decide ((e - p).natAbs ≤ 1000)
    | none => false

/-- The next state of a source on a measurement (R370). -/
def srcNext (ok : Bool) (x : TimeSrc) : TimeSrc :=
  match x.st with
  | .absent => x
  | .candidate =>
    if !ok then { x with count := 0 }
    else if x.count + 1 ≥ 10 then { x with st := .qualified, count := 10 }
    else { x with count := x.count + 1 }
  | .qualified => if ok then x else { x with st := .disagree, agree := 0 }
  | .disagree =>
    if !ok then { x with agree := 0 }
    else if x.agree + 1 ≥ 10 then { x with st := .candidate, count := 0, agree := 0 }
    else { x with agree := x.agree + 1 }

/-- The rate corrections of a measurement of the selected source (R371). -/
def servoOn (e : Int) (s : State) : State :=
  let m : Int := cfg s Addr.TIME_CFG 9 2 * 1000000
  s.updTime fun t => { t with slew := clampI (-m) m (e * 125), servo := clampI (-200000000) 200000000 (t.servo + e) }

/-- A measurement e of source k at an instant, in nanoseconds (R370 to R373). -/
def measure (k : Nat) (e : Int) (inst : Nat) (s : State) : State :=
  let x := src s k
  let ok := agrees s x e
  let s1 := modSrc k (fun y => { srcNext ok y with e := e, prevE := some e }) s
  let s2 :=
    if s.time.sel = some k then
      if ok then servoOn e s1
      else postTime 0x02 k inst ((inst : Int) + e).toNat 0x19 (bump Addr.TIME_CNT_REFUSED (alarm Addr.TIME_ALARM 0 s1))
    else s1
  reselect s2

/-- A receiver serves time: CANDIDATE or USABLE once the journal has begun, and before that by the
messages that 18_boot R467 names. -/
def rxServes (s : State) (k : Nat) : Bool :=
  let r := if k = 0 then s.fix.rx0 else s.fix.rx1
  let a := s.fix.acq.getD k Acq.zero
  if s.jr.started then r.st == .candidate || r.st == .usable
  else a.arpOk && a.week.isSome && match a.epochAt with
    | some t => decide (s.time.op ≤ t + 1000000000)
    | none => false

/-- A source is a candidate (R369). -/
def isCand (s : State) (k : Nat) : Bool :=
  if k = 2 then match s.time.master with
    | some m => m.ptpScale
    | none => false
  else rxServes s k && ppsOk s k

/-- A source's candidacy brought up to date (R370). -/
def srcEval (k : Nat) (s : State) : State :=
  let t := s.time.op
  let c := isCand s k
  modSrc k (fun x =>
    if c then if x.st = .absent then { x with st := .candidate, count := 0, prevE := none, lostAt := none } else { x with lostAt := none }
    else if x.st = .absent || x.lostAt.isSome then x else { x with lostAt := some t }) s

/-- PPS_EDGE: a rising edge at PPS_INk is captured at a station time (R369, 03_fix_inputs R77); its label,
and with it the measurement, comes with the receiver's next complete epoch of zero milliseconds. -/
def execPpsEdge (k ns : Nat) (s : State) : Host.Outcome State Fault Refusal :=
  if 2 ≤ k then .next s
  else
    let s1 := advTo ns s
    let t := s1.time.op
    let d := sgn 16 (cfg s1 (Addr.TIME_PPS_DELAY + 4 * k) 15 0)
    let at_ := (now s1 : Int) - d
    let f (x : TimeSrc) : TimeSrc :=
      let ok := match x.lastAt with
        | some p => decide (p + 999000000 ≤ t ∧ t ≤ p + 1001000000)
        | none => false
      { x with lastAt := some t, spaced := ok, pulse := some at_ }
    .next (srcEval k (modSrc k f s1))

/-- Station time in nanoseconds of a GPS millisecond (R367, R369). -/
def gpsToNs (ms : Nat) : Nat := (ms + 315964819000) * 1000000

/-- A complete epoch of receiver k labels its newest pulse (R369). -/
def labelPulse (k gps : Nat) (s : State) : State :=
  if gps % 1000 ≠ 0 then s
  else match (src s k).pulse with
    | none => s
    | some p =>
      let s1 := srcEval k (modSrc k (fun x => { x with pulse := none }) s)
      if isCand s1 k then measure k ((gpsToNs gps : Int) - p) p.toNat s1 else s1

/-- SOURCE_ABSENT_TIMEOUT: a source has not been a candidate for 3 s (R370). -/
def execSourceAbsentTimeout (k : Nat) (s : State) : Host.Outcome State Fault Refusal :=
  let x := src s k
  if x.st = .absent then .next s
  else
    let from_ := x.lostAt.getD ((x.lastAt.getD s.time.op) + 1001000000)
    let s1 := advOp (from_ + 3000000000) s
    if isCand s1 k then .next (srcEval k s1)
    else .next (reselect (modSrc k (fun y => { y with st := .absent, count := 0, agree := 0, prevE := none, pulse := none }) s1))

/-- HOLD_LIMIT_EXPIRY: HOLD_LIMIT elapses in HOLD (R373). -/
def execHoldLimitExpiry (s : State) : Host.Outcome State Fault Refusal :=
  if s.time.st ≠ .hold then .next s
  else
    let s1 := advOp (s.time.holdSince + cfg s Addr.TIME_CFG 21 10 * 1000000000) s
    .next (evTrig 0x1C [] (alarm Addr.TIME_ALARM 2 (s1.updTime fun t => { t with st := .free })))

/-- Every DISAGREE source returns to CANDIDATE (R370). -/
def clearDis (s : State) : State :=
  s.updTime fun t => { t with srcs := t.srcs.map (fun x =>
    if x.st = .disagree then { x with st := .candidate, count := 0, agree := 0 } else x) }

/-! Forced sets (R374 to R378). -/

/-- TIME_SET_S and TIME_SET_NS as nanoseconds. -/
def setValue (s : State) : Nat :=
  (cfg s Addr.TIME_SET_S_HI 31 0 * 2 ^ 32 + cfg s Addr.TIME_SET_S_LO 31 0) * 1000000000 + cfg s Addr.TIME_SET_NS 31 0

/-- A write of 1 to FORCE_SET at its position (R374). -/
def forceSetOp (s : State) : State × Nat :=
  let v := setValue s
  let st := firstErr stOk [(decide (999999999 < cfg s Addr.TIME_SET_NS 31 0), stField),
    (!s.safe.cLatch || s.time.set.isSome || s.time.hold.isSome || s.pair.handover.isSome, stState),
    (decide (v + 60000000000 < now s), stState)]
  let told := (now s / 1000000000 + 1) * 1000000000
  if st = stOk then (s.updTime fun t => { t with set := some ⟨v, told⟩, setStatus := st }, st)
  else (s.updTime fun t => { t with setStatus := st }, st)

/-- A write of TIME_CTRL (R385). -/
def timeCtrlWord (v : Word) (s : State) : State × Nat :=
  let s1 := if bit v 1 then clearDis s else s
  if bit v 0 then let r := forceSetOp s1; if isErr r.2 then (s.updTime fun t => { t with setStatus := r.2 }, r.2) else r
  else (s1, stOk)

/-- The right that a write of TIME_CTRL needs: TIME for FORCE_SET (17_host R432). -/
def timeCtrlRight (v : Word) : Nat := if bit v 0 then 4 else 1

/-- FORCE_SET: a write of 1 to FORCE_SET in TIME_CTRL (R374). -/
def execForceSet (h : GmpHdr) (s : State) : Host.Outcome State Fault Refusal :=
  .next (gmpWord h Addr.TIME_CTRL 1#32 4 (timeCtrlWord 1#32) s)

/-- CLEAR_DIS: a write of 1 to CLEAR_DIS in TIME_CTRL (R370). -/
def execClearDis (h : GmpHdr) (s : State) : Host.Outcome State Fault Refusal :=
  .next (gmpWord h Addr.TIME_CTRL 2#32 1 (timeCtrlWord 2#32) s)

/-- START, PER and WIDTH of a trigger in nanoseconds (R382). -/
def trigStart (s : State) (k : Nat) : Nat :=
  (cfg s (Addr.TIME_TRIG_START_S_HI + 0x20 * k) 31 0 * 2 ^ 32 + cfg s (Addr.TIME_TRIG_START_S_LO + 0x20 * k) 31 0) *
    1000000000 + cfg s (Addr.TIME_TRIG_START_NS + 0x20 * k) 31 0

/-- PER of a trigger in nanoseconds. -/
def trigPer (s : State) (k : Nat) : Nat :=
  cfg s (Addr.TIME_TRIG_PER_S + 0x20 * k) 11 0 * 1000000000 + cfg s (Addr.TIME_TRIG_PER_NS + 0x20 * k) 29 0

/-- WIDTH of a trigger in microseconds. -/
def trigWidth (s : State) (k : Nat) : Nat := cfg s (Addr.TIME_TRIG_WIDTH + 0x20 * k) 19 0

/-- MODE of a trigger in force. -/
def trigMode (s : State) (k : Nat) : Nat := cfg s (Addr.TIME_TRIG_CFG + 0x20 * k) 1 0

/-- The first edge of a series at or after an instant (R382). -/
def seriesFrom (start per t : Nat) : Nat :=
  if t ≤ start ∨ per = 0 then start else start + (t - start + per - 1) / per * per

/-- A trigger after a forced set (R383). -/
def trigAfterSet (s : State) (new : Nat) (forward : Bool) (k : Nat) (x : Trig) : Trig × Bool :=
  if !x.armed then (x, false)
  else if trigMode s k = 2 then ({ x with next := seriesFrom (trigStart s k) (trigPer s k) (new + 1) }, false)
  else if forward && decide (x.next ≤ new) then ({ x with armed := false }, true)
  else (x, false)

/-- The triggers after a forced set, and how many pulses it passed over. -/
def trigsAfterSet (s : State) (new : Nat) (forward : Bool) : Nat → List Trig → List Trig × Nat
  | _, [] => ([], 0)
  | k, x :: r =>
    let y := trigAfterSet s new forward k x
    let z := trigsAfterSet s new forward (k + 1) r
    (y.1 :: z.1, b2n y.2 + z.2)

/-- Station time stepped by a forced set from `told` to `new` (R375, R377, R378, R321): `sf` is the SF of
its TIME_EVENT entry. -/
def stepTime (told new sf : Nat) (s : State) : State :=
  let d := (new : Int) - (told : Int)
  let r := trigsAfterSet s new (decide (0 < d)) 0 s.time.trigs
  let s1 := s.updTime fun t =>
    { t with ns := new, frac := 0, trigs := r.1, hold := if d < 0 then some sf else none, jump := decide (0 < d),
             srcs := t.srcs.map (fun x => { x with st := .disagree, agree := 0, pulse := none }) }
  let s2 := if r.2 = 0 then s1 else bumpF Addr.TIME_CNT_TRIG_MISSED 31 0 r.2 s1
  schedShift d s2

/-- What a forced set from `told` to `new` does once its TIME_EVENT entry stands in superframe `sf` (R375, R377,
R378). -/
def setApplied (told new sf : Nat) (s : State) : State :=
  let s1 := stepTime told new sf (s.updTime fun t => { t with set := none })
  let s2 := bump Addr.TIME_CNT_FORCED (alarm Addr.TIME_ALARM 4 s1)
  let wasSel := s2.time.sel.isSome
  let s3 := s2.updTime fun t => { t with sel := none }
  let s4 := if wasSel then bump Addr.TIME_CNT_SRC_CHANGE (alarm Addr.TIME_ALARM 1 s3) else s3
  (evTrig 0x1B (payloadWire (.timeEvent 0x01 0 told new)) s4).updEvr fun e => { e with setSince := true }

/-- FORCE_SET_APPLY: the whole second T_old of a forced set (R375). A standby waits for the TIME_EVENT entry (R378). -/
def execForceSetApply (s : State) : Host.Outcome State Fault Refusal :=
  match s.time.set with
  | none => .next s
  | some f =>
    if !canWrite s then .next s
    else
      let s1 := advTo f.told s
      if !s1.safe.cLatch then .next (s1.updTime fun t => { t with set := none, setStatus := stState })
      else
        let s2 := jWrite 0 f.told (.timeEvent 0x01 0 f.told f.value) s1
        let s3 := setApplied f.told f.value s2.jr.lastSf s2
        if s1.time.sel.isSome then
          let t := now s3
          .next (s3.updJr fun j => { j with held := j.held ++ [Payload.timeEvent 0x03 0xFF t t] })
        else .next s3

/-! PTP (R379 to R381). -/

/-- The lower enabled PTP port. -/
def lowPort (s : State) : Option Nat := [0, 1].find? (fun p => cfgB s Addr.TIME_PTP_CFG (2 + p))

/-- A port runs PTP under MODE (R380). -/
def ptpUsed (s : State) (p : Nat) : Bool :=
  match cfg s Addr.TIME_PTP_CFG 1 0 with
  | 0 => false
  | 3 => decide (p < 2) && cfgB s Addr.TIME_PTP_CFG (2 + p)
  | _ => lowPort s == some p

/-- The portState of a port (IEEE 1588-2019). -/
def ptpState (s : State) (p : Nat) : Nat := (s.time.ptp.getD p ⟨0, []⟩).state

/-- The value of SLAVE, UNCALIBRATED, MASTER and LISTENING in IEEE 1588-2019. PRESUMED: log entry 30. -/
def ptpSlave : Nat := 9
/-- UNCALIBRATED. -/
def ptpUncal : Nat := 8
/-- MASTER. -/
def ptpMaster : Nat := 6
/-- LISTENING. -/
def ptpListening : Nat := 4

/-- UTC_PTP differs from GPS_UTC while a master is followed (R379). -/
def utcEval (s : State) : State :=
  if s.time.master.isSome ∧ s.time.utcPtp ≠ cfg s Addr.TIME_UTC 5 0 then alarm Addr.TIME_ALARM 3 s else s

/-- A port follows a master. -/
def follows (s : State) (p : Nat) : Bool := ptpState s p == ptpSlave || ptpState s p == ptpUncal

/-- PTP_SYNC: a Sync on a port in SLAVE state gives the measurement −offsetFromMaster (R369). -/
def execPtpSync (port : Nat) (e : Int) (ns : Nat) (s : State) : Host.Outcome State Fault Refusal :=
  let s1 := advTo ns s
  if ptpUsed s1 port && ptpState s1 port == ptpSlave then
    let t := s1.time.op
    let s2 := srcEval 2 (modSrc 2 (fun x => { x with lastAt := some t }) s1)
    if isCand s2 2 then .next (measure 2 e (now s2) s2) else .next s2
  else .next s1

/-- The state of a port set; a master that no port follows any more is forgotten. -/
def setPtpState (port st : Nat) (s : State) : State :=
  let s1 := s.updTime fun t => { t with ptp := lmod t.ptp port (fun p => { p with state := st }) }
  if follows s1 0 || follows s1 1 then s1 else srcEval 2 (s1.updTime fun t => { t with master := none })

/-- PTP_MESSAGE: a message other than Sync (R379, R380). -/
def execPtpMessage (port : Nat) (m : PtpMsg) (s : State) : Host.Outcome State Fault Refusal :=
  match m with
  | .peerDelay => .next (bump Addr.TIME_CNT_PTP_DROP s)
  | .other => .next s
  | .delayReq ident seq =>
    if ptpUsed s port && ptpState s port == ptpMaster then
      .next (emit (.ptp port 3 (cfg s Addr.TIME_PTP_CFG 11 4) seq [ident]) s)
    else .next s
  | .announce d st =>
    if !ptpUsed s port then .next s
    else
      let s1 := setPtpState port st s
      if st = ptpSlave ∨ st = ptpUncal then
        .next (srcEval 2 (utcEval (s1.updTime fun t => { t with master := some d, utcPtp := (d.utcOffset - 19) % 64 })))
      else .next s1

/-- ANNOUNCE_RECEIPT_TIMEOUT: no Announce within ANN_TO intervals (R380): a slave-only port listens, any
other port becomes master. -/
def execAnnounceReceiptTimeout (port : Nat) (s : State) : Host.Outcome State Fault Refusal :=
  if ptpUsed s port && ptpState s port != ptpMaster then
    .next (setPtpState port (if cfg s Addr.TIME_PTP_CFG 1 0 = 1 then ptpListening else ptpMaster) s)
  else .next s

/-- The fields of an Announce (R381, R379). -/
def announceFields (s : State) : List Nat :=
  let q := announceQual s
  [q.1, q.2.1, q.2.2, cfg s Addr.TIME_PTP_CFG 19 12, cfg s Addr.TIME_PTP_CFG 27 20, cfg s Addr.TIME_UTC 5 0 + 19,
   cfg s Addr.TIME_UTC 7 6]

/-- PTP_SEND_INTERVAL: an interval elapses and a port in MASTER sends Sync (kind 0) or Announce (kind 1), a
port in SLAVE Delay_Req (kind 2) (R380, R381). -/
def execPtpSendInterval (port kind : Nat) (s : State) : Host.Outcome State Fault Refusal :=
  let ok := ptpUsed s port && if kind = 2 then ptpState s port == ptpSlave else decide (kind < 2) && ptpState s port == ptpMaster
  if !ok then .next s
  else
    let q := ((s.time.ptp.getD port ⟨0, []⟩).seqs).getD kind 0
    let s1 := s.updTime fun t => { t with ptp := lmod t.ptp port (fun p => { p with seqs := lset p.seqs kind ((q + 1) % 65536) }) }
    .next (emit (.ptp port kind (cfg s Addr.TIME_PTP_CFG 11 4) q (if kind = 1 then announceFields s else [])) s1)

/-! Triggers (R382 to R384). -/

/-- A write of TIME_TRIGk_CFG (R382): MODE 1 or 2 arms, MODE 0 disarms. -/
def trigWord (k : Nat) (v : Word) (s : State) : State × Nat :=
  let t := now s
  let m := fld v 1 0
  let st := firstErr stOk [(m == 3, stField),
    (m == 2 && (trigPer s k == 0 || decide (trigPer s k ≤ trigWidth s k * 1000)), stField),
    (m == 1 && decide (trigStart s k < t + 100000), stState)]
  if st ≠ stOk then (s, st)
  else
    let r := storeWord (Addr.TIME_TRIG_CFG + 0x20 * k) v s
    if r.2 ≠ stOk then r
    else
      let next := if m = 2 then seriesFrom (trigStart s k) (trigPer s k) (t + 100000) else trigStart s k
      (r.1.updTime fun x => { x with trigs := lset x.trigs k ⟨decide (m ≠ 0), 0, next⟩ }, stOk)

/-- TRIG_ARM: a write of TIME_TRIGk_CFG (R382). -/
def execTrigArm (h : GmpHdr) (k : Nat) (v : Word) (s : State) : Host.Outcome State Fault Refusal :=
  .next (gmpWord h (Addr.TIME_TRIG_CFG + 0x20 * k) v 1
    (fun t => if k < 8 then trigWord k v t else (t, stField)) s)

/-- A trigger output may show a pulse (R384). -/
def trigLive (s : State) : Bool := s.time.valid && s.pair.role != .standby

/-- TRIGGER_FIRE: an armed output reaches its edge (R382, R383). -/
def execTriggerFire (k : Nat) (s : State) : Host.Outcome State Fault Refusal :=
  let x := s.time.trigs.getD k ⟨false, 0, 0⟩
  if !x.armed then .next s
  else
    let s1 := advTo x.next s
    let live := trigLive s1
    let y : Trig := { armed := trigMode s1 k == 2, fired := if live then sat 16 (x.fired + 1) else x.fired,
                      next := if trigMode s1 k == 2 then x.next + trigPer s1 k else x.next }
    let s2 := s1.updTime fun t => { t with trigs := lset t.trigs k y }
    .next (if live then
      emit (.trigger k (!cfgB s1 (Addr.TIME_TRIG_CFG + 0x20 * k) 2) x.next (trigWidth s1 k)) s2 else s2)

end Sys2Proof.Machine
end

