-- ==== Sys2Proof/Machine/Ref.lean ====
section
/-!
DEFINITION. Reference receivers, ephemerides, the reduction of observations and the relay of corrections
(03_fix_inputs).
-/

namespace Sys2Proof.Machine

open Sys2Proof

/-! Signals and satellites (R68 to R71, R80). -/

/-- A constellation by its place in R80. -/
def sysIdx : Gnss → Nat
  | .gps => 0
  | .gal => 1
  | .bds => 2
  | .glo => 3

/-- Satellites of a constellation (R81). -/
def sysMax : Gnss → Nat
  | .gps => 32
  | .gal => 36
  | .bds => 63
  | .glo => 24

/-- A satellite's place in the order of R80. -/
def satKey (g : Gnss) (num : Nat) : Nat := sysIdx g * 64 + num

/-- The constellation of a satellite key. -/
def keySys (k : Nat) : Nat := k / 64

/-- The signals of a slot, most preferred first: band and attribute (R68). -/
def slotPref (g : Gnss) (slot : Nat) : List (Nat × Nat) :=
  match g, slot with
  | .gps, 0 => [(1, 1)]
  | .gps, 1 => [(2, 2), (2, 3), (2, 4)]
  | .gps, 2 => [(5, 2), (5, 5), (5, 6)]
  | .gal, 0 => [(1, 2), (1, 1), (1, 7)]
  | .gal, 1 => [(7, 2), (7, 5), (7, 6)]
  | .gal, 2 => [(5, 2), (5, 5), (5, 6)]
  | .bds, 0 => [(2, 6)]
  | .bds, 1 => [(6, 6)]
  | .bds, 2 => [(5, 2), (5, 8), (5, 9)]
  | .glo, 0 => [(1, 1)]
  | .glo, 1 => [(2, 1)]
  | _, _ => []

/-- The signal that fills a slot (R68). -/
def slotSig (g : Gnss) (slot : Nat) (sigs : List SigObs) : Option SigObs :=
  (slotPref g slot).findSome? (fun p => sigs.find? (fun o => o.band == p.1 && o.attr == p.2))

/-- The observation of a slot after the screening of R70; `prev` is the lock indicator of the previous
epoch, where it had the observation. -/
def screenSig (cn0Min slot : Nat) (prev : Option Nat) (o : SigObs) : Option SlotObs :=
  if o.cn0 < cn0Min then none
  else
    let ph := !o.half && !o.phaseBad
    let slip := o.lock == 0 || match prev with
      | some p => decide (o.lock < p)
      | none => true
    if ph || !o.rangeBad then some ⟨slot, ph, !o.rangeBad, slip, o.lock⟩ else none

/-- The observation GPS millisecond nearest to T among those congruent to x (R71). -/
def nearest (T x P : Nat) : Nat :=
  let d := (x + P - T % P) % P
  if 2 * d ≤ P then T + d else T + d - P

/-- The GPS time of an MSM epoch time: time of week, or for GLONASS the time of day with its day of week
(R71); `utc` is GPS_UTC in seconds and T the GPS time of the superframe of the entry. -/
def msmTime (g : Gnss) (tow dow utc T : Nat) : Nat :=
  match g with
  | .gps => nearest T tow 604800000
  | .gal => nearest T tow 604800000
  | .bds => nearest T (tow + 14000) 604800000
  | .glo =>
    if dow ≥ 7 then nearest T (tow + utc * 1000 + 86400000 - 10800000) 86400000
    else nearest T (dow * 86400000 + tow + utc * 1000 + 604800000 - 10800000) 604800000

/-! Ephemerides (R81 to R83). -/

/-- Half the window of R81 in milliseconds. -/
def ephWindow : Gnss → Nat
  | .gps => 14400000
  | .gal => 14400000
  | .bds => 3600000
  | .glo => 1800000

/-- A set covers a GPS time. -/
def ephCovers (e : EphSet) (t : Nat) : Bool :=
  decide (((e.toeMs : Int) - (t : Int)).natAbs ≤ ephWindow e.sys)

/-- The checks of R81 at superframe time T. -/
def ephValid (e : EphSet) (T : Nat) : Bool :=
  within 1 (sysMax e.sys) e.num && e.health == 0 && ephCovers e T &&
  match e.sys with
  | .gps => decide (e.acc ≤ 7) && e.iode == e.iodc % 256
  | .gal => e.dvs == 0 && decide (e.acc ≤ 125)
  | .bds => decide (e.acc ≤ 7)
  | .glo => withinI (-7) 6 e.chan

/-- The ephemerides of a satellite. -/
def ephOf (s : State) (key : Nat) : EphSlot := kget EphSlot.none s.fix.eph key

/-- The ephemerides of a satellite changed. -/
def modEph (key : Nat) (f : EphSlot → EphSlot) (s : State) : State :=
  s.updFix fun x => { x with eph := kmod EphSlot.none x.eph key f }

/-- The better of two covering sets at a time (R83): I/NAV before F/NAV, then the nearer, then the later. -/
def ephBetter (t : Nat) (newer older : EphSet) : EphSet :=
  if newer.inav != older.inav then if newer.inav then newer else older
  else if ((older.toeMs : Int) - t).natAbs < ((newer.toeMs : Int) - t).natAbs then older else newer

/-- The set used at a GPS time (R83); `sets` stands newest first. -/
def ephAt (sets : List EphSet) (t : Nat) : Option EphSet :=
  match sets.filter (fun e => ephCovers e t) with
  | [] => none
  | [a] => some a
  | a :: b :: _ => some (ephBetter t a b)

/-- A satellite has an accepted, healthy ephemeris at a GPS time (R83). -/
def hasEph (s : State) (key t : Nat) : Bool := (ephAt (ephOf s key).sets t).isSome

/-- A set accepted: at most two are held (R81). -/
def ephAccept (e : EphSet) (x : EphSlot) : EphSlot := { sets := (e :: x.sets).take 2, pend := none }

/-- A new set from a source, 0, 1 or 2, at superframe time T (R81, R82); `near` is the outcome of the
50 m comparison. -/
def ephApply (source T : Nat) (e : EphSet) (near : Bool) (s : State) : State :=
  if !ephValid e T then bump Addr.FIX_EPH_CNT_REJECT s
  else modEph (satKey e.sys e.num) (fun x =>
    match x.sets with
    | [] => ephAccept e x
    | a :: _ =>
      if x.sets.contains e then x
      else if near || !ephCovers a T then ephAccept e x
      else match x.pend with
        | some (p, from_) => if p.orbit = e.orbit ∧ from_ ≠ source then ephAccept e x else { x with pend := some (e, source) }
        | none => { x with pend := some (e, source) }) s

/-- Pending sets whose older set's validity has ended are accepted (R82), at superframe time T. -/
def ephMark (T : Nat) (s : State) : State :=
  let ripe (x : EphSlot) : EphSlot :=
    match x.pend, x.sets with
    | some (p, _), a :: _ => if ephCovers a T then x else ephAccept p x
    | _, _ => x
  s.updFix fun f => { f with eph := kmap EphSlot.none (fun _ x => ripe x) f.eph }

/-! Reduction (R80 steps 1 to 3). -/

/-- The GLONASS channel of a satellite is known (R69). -/
def gloKnown (s : State) (o : SatObs) : Bool :=
  o.sys != .glo || o.chan.isSome || !(ephOf s (satKey o.sys o.num)).sets.isEmpty

/-- Key of a satellite's slot in the memory of lock indicators. -/
def slotKey (sat slot : Nat) : Nat := slot * 256 + sat

/-- One satellite reduced by steps 1 to 3 of R80; `prev` gives the previous epoch's lock indicators. -/
def reduceSat (s : State) (t : Nat) (prev : Nat → Option Nat) (o : SatObs) : Option RedSat :=
  let key := satKey o.sys o.num
  let en := cfgB s Addr.FIX_OBS_CFG (19 + sysIdx o.sys)
  if !en || !hasEph s key t || !gloKnown s o then none
  else
    let obs := [0, 1, 2].filterMap (fun f =>
      (slotSig o.sys f o.sigs).bind (screenSig (cfg s Addr.FIX_OBS_CFG 11 6) f (prev (slotKey key f))))
    if obs.isEmpty then none else some ⟨key, obs⟩

/-- A satellite put into a reduced epoch in the order of R80; of two with one key the first stays. -/
def insSat (x : RedSat) : List RedSat → List RedSat
  | [] => [x]
  | y :: r => if x.key < y.key then x :: y :: r else if x.key = y.key then y :: r else y :: insSat x r

/-- An epoch reduced by steps 1 to 3 of R80, in its satellite order. -/
def reduceEpoch (s : State) (t : Nat) (prev : Nat → Option Nat) (sats : List SatObs) : List RedSat :=
  (sats.filterMap (reduceSat s t prev)).foldl (fun l x => insSat x l) []

/-- The lock indicators of an epoch as received: what its successor is compared with (R70). -/
def lockOf (cn0Min : Nat) (sats : List SatObs) (k : Nat) : Option Nat :=
  sats.findSome? (fun o => [0, 1, 2].findSome? (fun f =>
    if slotKey (satKey o.sys o.num) f = k then
      ((slotSig o.sys f o.sigs).bind (screenSig cn0Min f none)).map (fun x => x.lock) else none))

/-! Receivers (R72 to R77). -/

/-- A receiver by index. -/
def rx (s : State) (k : Nat) : RefRx := if k = 0 then s.fix.rx0 else s.fix.rx1

/-- A receiver changed. -/
def modRx (k : Nat) (f : RefRx → RefRx) (s : State) : State :=
  s.updFix fun x => if k = 0 then { x with rx0 := f x.rx0 } else { x with rx1 := f x.rx1 }

/-- SRC of a receiver in force: 0 disabled, 1 UART, 2 GMP. -/
def rxSrc (s : State) (k : Nat) : Nat := cfg s (Addr.FIX_REF_CFG + 4 * k) 1 0

/-- A field of FIX_REF_CNT_BADk raised: its high and low bit. -/
def refBad (k hi lo : Nat) (s : State) : State := bumpF (Addr.FIX_REF_CNT_BAD + 4 * k) hi lo 1 s

/-- A 64-bit signed coordinate from a LO and a HI register. -/
def coord (s : State) (lo : Nat) : Int := sgn 64 (cfg s (lo + 4) 31 0 * 2 ^ 32 + cfg s lo 31 0)

/-- The squared distance of an ARP from the surveyed position, in units of 0.1 mm (R73). -/
def arpDist2 (s : State) (k : Nat) (x y z : Int) : Nat :=
  let b := Addr.FIX_REF_SURVEY + 0x18 * k
  let d (u v : Int) : Nat := ((u - v) * (u - v)).natAbs
  d x (coord s b) + d y (coord s (b + 8)) + d z (coord s (b + 16))

/-- A station ID matches (R73). -/
def idMatches (s : State) (k sid : Nat) : Bool :=
  cfgB s (Addr.FIX_REF_CFG + 4 * k) 7 || sid == cfg s (Addr.FIX_REF_CFG + 4 * k) 19 8

/-- An ARP lies within POS_TOL (R73). -/
def arpNear (s : State) (k : Nat) (x y z : Int) : Bool :=
  let tol := cfg s Addr.FIX_REF_POLICY 9 0 * 10
  decide (arpDist2 s k x y z ≤ tol * tol)

/-- A receiver unbound with its epochs discarded (R74). -/
def rxAbsent (k : Nat) (s : State) : State :=
  modRx k (fun _ => RefRx.zero) s

/-- The preferred receiver (R75). -/
def preferred (s : State) : Nat :=
  if cfgB s (Addr.FIX_REF_CFG + 4) 6 && !cfgB s Addr.FIX_REF_CFG 6 then 1 else 0

/-- A receiver is USABLE. -/
def usable (s : State) (k : Nat) : Bool := (rx s k).st == .usable

/-- The primary changed, where it differs (R75). -/
def setPrimary (p : Option Nat) (s : State) : State :=
  if s.fix.primary = p then s
  else
    evTrig 0x18 [p.getD 0xFF] (bumpF Addr.FIX_REF_SWITCHES 15 0 1 (s.updFix fun f =>
      { f with primary := p, corr := { f.corr with count := 0, needSta := true } }))

/-- One receiver is primary while at least one is USABLE (R75). -/
def choosePrimary (s : State) : State :=
  let keep := match s.fix.primary with
    | some p => usable s p
    | none => false
  if keep then s
  else
    let p := preferred s
    setPrimary (if usable s p then some p else if usable s (1 - p) then some (1 - p) else none) s

/-- A receiver enters REFUSED (R74). -/
def rxRefuse (k sid : Nat) (s : State) : State :=
  evTrig 0x17 (k :: be 2 sid) (alarm (Addr.FIX_REF_STATUS + 4 * k) 5 (modRx k (fun r =>
    { r with st := .refused, sid := if r.st = .absent then sid else r.sid, prog := none }) s))

/-- A 1005 or 1006 message applied (R73, R74). -/
def applyArp (k sf sid : Nat) (x y z : Int) (m : RtcmMsg) (s : State) : State :=
  let near := arpNear s k x y z
  let ok (t : State) : State := modRx k (fun r => { r with arp := some m, lastSf := sf }) t
  match (rx s k).st with
  | .absent =>
    if !idMatches s k sid then s
    else if near then ok (modRx k (fun r => { r with st := .candidate, sid := sid, qual := 0, boundSf := sf, epochs := [], prog := none }) s)
    else rxRefuse k sid s
  | .candidate => if near && sid == (rx s k).sid then ok s else rxRefuse k sid s
  | .usable => if near && sid == (rx s k).sid then ok s else rxRefuse k sid s
  | .lost => if near && sid == (rx s k).sid then ok s else s
  | .refused => s

/-- Satellites of an epoch that have an accepted ephemeris at its time (R74). -/
def satsWithEph (s : State) (e : RefEpoch) : Nat :=
  ((e.sats.filter (fun o => hasEph s (satKey o.sys o.num) e.t)).foldl (fun l o => kins l (satKey o.sys o.num) ()) []).length

/-- What a complete epoch does to a receiver's state (R74). -/
def qualify (k : Nat) (good : Bool) (s : State) : State :=
  match (rx s k).st with
  | .candidate =>
    if !good then modRx k (fun r => { r with qual := 0 }) s
    else
      let q := (rx s k).qual + 1
      if q ≥ cfg s Addr.FIX_REF_POLICY 24 17 then
        let back := preferred s == k && s.fix.primary == some (1 - k)
        (modRx k (fun r => { r with qual := q, st := .usable }) s).updFix fun f => { f with revertDue := f.revertDue || back }
      else modRx k (fun r => { r with qual := q }) s
  | .lost => if good then modRx k (fun r => { r with st := .candidate, qual := 0 }) s else s
  | _ => s

/-! Relay of corrections (R86, R87). -/

/-- A field of FIX_CORR_CFG in force. -/
def corrCfg (s : State) (hi lo : Nat) : Nat := cfg s Addr.FIX_CORR_CFG hi lo

/-- An MSM message is of a constellation relayed under CORR_CONST. -/
def corrConst (s : State) (m : RtcmMsg) : Bool :=
  match m.body with
  | .msm g _ _ _ _ _ _ => cfgB s Addr.FIX_CORR_CFG (12 + sysIdx g)
  | _ => false

/-- A complete epoch of the primary offered to the relay (R86, R87). -/
def corrEpoch (k : Nat) (e : RefEpoch) (s : State) : State :=
  if !cfgB s Addr.FIX_CORR_CFG 0 || s.fix.primary ≠ some k then s
  else
    let n := s.fix.corr.count + 1
    if n % max 1 (corrCfg s 5 1) ≠ 0 then s.updFix fun f => { f with corr := { f.corr with count := n } }
    else
      let old := (s.fix.corr.queue.filter (fun x => x.inEpoch)).length
      let arp := if s.fix.corr.needSta then ((rx s k).arp.toList.map (fun m => (m, false))) else []
      let all := arp ++ (e.msgs.filter (corrConst s)).map (fun m => (m, true))
      let ep := s.fix.corr.epochs + 1
      let new := all.zipIdx.map (fun x => (⟨s.fix.corr.nextId + x.2, ep % 256, x.2, all.length, x.1.2, x.1.1⟩ : CorrMsg))
      let s1 := s.updFix fun f => { f with corr := { f.corr with
        count := n, needSta := f.corr.needSta && arp.isEmpty, epochs := ep, nextId := f.corr.nextId + all.length,
        queue := f.corr.queue.filter (fun x => !x.inEpoch) ++ new } }
      if old = 0 then s1 else bumpF Addr.FIX_CORR_CNT_SKIP 31 0 old s1

/-- The relay at an SF_MARK: CORR_EN taken up or ended, and the station message of STA_PERIOD (R86). -/
def corrMark (sf : Nat) (s : State) : State :=
  let en := cfgB s Addr.FIX_CORR_CFG 0
  if !en then s.updFix fun f => { f with corr := { f.corr with on := false, queue := [], count := 0 } }
  else
    let s1 := if s.fix.corr.on then s else s.updFix fun f => { f with corr := { f.corr with on := true, count := 0 } }
    match s1.fix.primary with
    | none => s1
    | some p =>
      match (rx s1 p).arp with
      | some m => if s1.fix.corr.staSf + corrCfg s1 11 6 * 50 ≤ sf then
          s1.updFix fun f => { f with corr := { f.corr with
            staSf := sf, nextId := f.corr.nextId + 1,
            queue := f.corr.queue ++ [⟨f.corr.nextId, f.corr.epochs % 256, 0, 1, false, m⟩] } }
        else s1
      | none => s1

/-! Epochs (R72). -/

/-- A reference epoch becomes complete at an entry (R72, R74, R75). -/
def epochComplete (k : Nat) (e : RefEpoch) (arrival : Nat) (s : State) : State :=
  let s1 := modRx k (fun r => { r with prog := none, epochs := (e :: r.epochs).take 4 }) s
  let s2 := choosePrimary (qualify k (decide (5 ≤ satsWithEph s e)) s1)
  let s3 := labelPulse k e.t (corrEpoch k e s2)
  if usable s3 0 && usable s3 1 && (rx s3 (1 - k)).epochs.any (fun x => x.t == e.t) then
    createJob 1 (e.sf, e.seq) noObject (some ((arrival + 20000000) / 1000)) s3
  else s3

/-- An MSM message joins an epoch (R72). -/
def applyMsm (k sf seq arrival : Nat) (m : RtcmMsg) (t sid : Nat) (multi : Bool) (sats : List SatObs) (s : State) : State :=
  let st := (rx s k).st
  if st = .absent ∨ st = .refused then s
  else if sid ≠ (rx s k).sid then refBad k 27 24 s
  else
    let late := ((rx s k).epochs.head?.map (fun e => decide (t ≤ e.t))).getD false ||
      ((rx s k).prog.map (fun e => decide (t < e.t))).getD false
    if late then refBad k 31 28 s
    else
      let s1 := modRx k (fun r => { r with lastSf := sf }) s
      let s2 := match (rx s1 k).prog with
        | some e => if e.t < t then epochComplete k { e with sf := sf, seq := seq } arrival s1 else s1
        | none => s1
      let e : RefEpoch := ((rx s2 k).prog).getD ⟨t, [], [], sf, seq⟩
      let e' := { e with sats := e.sats ++ sats, msgs := e.msgs ++ [m], sf := sf, seq := seq }
      if multi then modRx k (fun r => { r with prog := some e' }) s2 else epochComplete k e' arrival s2

/-- A REF_RTCM entry applied at its position (R67). -/
def refApply (k sf seq arrival : Nat) (m : RtcmMsg) (s : State) : State :=
  let s1 := if k < 2 then bump (Addr.FIX_REF_CNT_MSG + 4 * k) s else s
  let T := gpsMs sf
  match m.body with
  | .eph e near => ephApply k T e near (if k < 2 then modRx k (fun r => { r with lastSf := sf }) s1 else s1)
  | .other _ => refBad (if k < 2 then k else 0) 23 16 s1
  | .arp sid x y z _ => if k < 2 then choosePrimary (applyArp k sf sid x y z m s1) else refBad 0 23 16 s1
  | .msm g _ sid tow dow multi sats =>
    if k < 2 then
      let t := msmTime g tow dow (cfg s Addr.TIME_UTC 5 0) T
      choosePrimary (applyMsm k sf seq arrival m t sid multi sats s1)
    else refBad 0 23 16 s1

/-- The RTCM station ID a message carries: SOURCE of its entry (02_journal R42). -/
def msgSid : RtcmBody → Nat
  | .arp sid _ _ _ _ => sid
  | .msm _ _ sid _ _ _ _ => sid
  | _ => 0

/-- The epoch times of a message while the journal has not begun: complete epochs and their labels
(18_boot R467). -/
def acqEpoch (k : Nat) (tow : Nat) (multi : Bool) (s : State) : State :=
  let t := s.time.op
  let done (w : Nat) (u : State) : State :=
    let u1 := u.updFix fun f => { f with acq := lmod f.acq k (fun a => { a with epochAt := some t }) }
    match (u1.fix.acq.getD k Acq.zero).week with
    | some w10 =>
      let base := cfg u1 Addr.TIME_UTC 31 16
      let wk := base + (w10 + 1024 - base % 1024) % 1024
      labelPulse k (wk * 604800000 + w) (srcEval k u1)
    | none => u1
  let prog := (s.fix.acq.getD k Acq.zero).prog
  let s1 := match prog with
    | some p => if p < tow then done p s else s
    | none => s
  let s2 := s1.updFix fun f => { f with acq := lmod f.acq k (fun a => { a with prog := if multi then some tow else none }) }
  if multi then s2 else done tow s2

/-- A message before the journal begins serves time acquisition only (18_boot R467). -/
def acqApply (k : Nat) (m : RtcmMsg) (s : State) : State :=
  let mod (f : Acq → Acq) (u : State) : State := u.updFix fun x => { x with acq := lmod x.acq k f }
  match m.body with
  | .arp sid x y z _ =>
    let ok := idMatches s k sid && arpNear s k x y z
    srcEval k (mod (fun a => { a with arpOk := ok }) s)
  | .eph e _ => if e.sys = .gps ∧ e.health = 0 ∧ e.acc ≤ 7 ∧ e.iode = e.iodc % 256 then
      srcEval k (mod (fun a => { a with week := some e.week }) s) else s
  | .msm g _ _ tow _ multi _ => if g = .glo then s else acqEpoch k (if g = .bds then (tow + 14000) % 604800000 else tow) multi s
  | .other _ => s

/-- A message that passed its CRC offered to the sequencer (R65, R67, 14_station_time R377): the flag says
that it was journalled. -/
def offerRtcm (k : Nat) (m : RtcmMsg) (s : State) : State × Bool :=
  if !s.jr.started then (if k < 2 then acqApply k m s else s, false)
  else if !holdsToken s then (s, false)
  else if s.time.hold.isSome then (bump Addr.TIME_CNT_HOLD_DROP s, false)
  else
    let t := now s
    let s1 := jWrite (msgSid m.body) t (.refRtcm k m) s
    (refApply k s1.jr.lastSf s1.jr.lastSeq t m s1, true)

/-- REF_RTCM: a message of an index is written as its entry and applied at its position (R67). -/
def execRefRtcm (k : Nat) (m : RtcmMsg) (s : State) : Host.Outcome State Fault Refusal :=
  if k < 3 then .next (offerRtcm k m s).1 else .next s

/-- RTCM_UART_MESSAGE: what the receiver of RTCM_RXk has collected (R63 to R65): a message, or, with
`framing`, one discarded for a framing error or an overrun. -/
def execRtcmUartMessage (k : Nat) (framing : Bool) (m : RtcmMsg) (s : State) : Host.Outcome State Fault Refusal :=
  if 2 ≤ k then .next s
  else
    let ok := m.crcOk && decide (m.len ≤ 1023)
    if rxSrc s k = 1 then
      if framing then .next (refBad k 15 8 s)
      else if !ok then .next (refBad k 7 0 s)
      else .next (offerRtcm k m s).1
    else if !framing && ok then .next (refBad k 23 16 s)
    else .next s

/-- The frames of a GMP delivery in their order (R63, R66): the state and how many were journalled. -/
def rtcmFrames (k : Nat) : List RtcmMsg → State → State × Nat
  | [], s => (s, 0)
  | m :: r, s =>
    let ok := m.crcOk && decide (m.len ≤ 1023)
    let b := if k < 2 then k else 0
    let own := k == 2 || rxSrc s k == 2
    let x := if !own then (if ok then refBad b 23 16 s else s, false)
      else if !ok then (refBad b 7 0 s, false)
      else offerRtcm k m s
    let y := rtcmFrames k r x.1
    (y.1, y.2 + b2n x.2)

/-- RTCM: a GMP delivery (R66, 17_host R437, R440). `digest` is the hash of TYPE and body, and `whole` says
that the frames fill the body exactly. -/
def execRtcm (h : GmpHdr) (digest k count : Nat) (whole : Bool) (frames : List RtcmMsg) (s : State) :
    Host.Outcome State Fault Refusal :=
  .next (gmpGate h 0x10 digest (count == 0) (fun st => if st = stEmpty then be 2 0 ++ be 2 0 else []) (fun ident s1 =>
    let s2 := cachePush ident ⟨h.reqId, digest, 0x10, h.sess, none⟩
      (modSession h.sess (fun y => { y with outstanding := y.outstanding + 1 }) s1)
    let w : Waiter := ⟨ident, h.reqId⟩
    if !hasRight s2 ident 1 then completeReq w stAuth [] s2
    else if 3 ≤ k ∨ !whole ∨ count ≠ frames.length then completeReq w stField [] s2
    else
      let r := rtcmFrames k frames s2
      completeReq w (if r.2 = 0 then stEmpty else stOk) (be 2 r.2 ++ be 2 0) r.1) s)

/-! Time conditions at an SF_MARK (R74, R75). -/

/-- The age of the newest complete epoch exceeds REF_AGE_MAX at GPS time T (R74). -/
def rxTooOld (s : State) (k T : Nat) : Bool :=
  let r := rx s k
  let newest := match r.epochs with
    | e :: _ => e.t
    | [] => gpsMs r.boundSf
  (r.st == .candidate || r.st == .usable) && decide (newest + cfg s Addr.FIX_REF_POLICY 16 10 * 100 < T)

/-- A receiver's time conditions at the SF_MARK of `sf` (R74). -/
def rxLostCheck (sf k : Nat) (s : State) : State :=
  if rxTooOld s k (gpsMs sf) then modRx k (fun r => { r with st := .lost, qual := 0 }) s else s

/-- A LOST receiver with no accepted message for 60 s returns to ABSENT (R74). -/
def rxAbsentCheck (sf k : Nat) (s : State) : State :=
  if (rx s k).st = .lost ∧ (rx s k).lastSf + 3000 ≤ sf then rxAbsent k s else s

/-- REVERT and SWITCH at an SF_MARK (R75). -/
def switchMark (s : State) : State :=
  let p := preferred s
  let s1 := if s.fix.revertDue && cfgB s Addr.FIX_REF_POLICY 25 && usable s p && s.fix.primary == some (1 - p) then
    setPrimary (some p) s else s
  let s2 := if s1.fix.swReq then
      match s1.fix.primary with
      | some q => if usable s1 (1 - q) then setPrimary (some (1 - q)) s1 else s1
      | none => s1
    else s1
  s2.updFix fun f => { f with swReq := false, revertDue := false }

/-- The receivers at the SF_MARK of `sf`: ages, primary, pending ephemerides and the relay. -/
def refMark (sf : Nat) (s : State) : State :=
  let s1 := [0, 1].foldl (fun t k => rxAbsentCheck sf k t) s
  let s2 := [0, 1].foldl (fun t k => rxLostCheck sf k t) s1
  corrMark sf (ephMark (gpsMs sf) (switchMark (choosePrimary s2)))

/-- REF_LOST: the age check of a receiver at the newest SF_MARK (R74, R75). -/
def execRefLost (k : Nat) (s : State) : Host.Outcome State Fault Refusal :=
  if k < 2 then .next (choosePrimary (rxLostCheck s.jr.sf k s)) else .next s

/-- REF_ABSENT_TIMEOUT: the 60 s check of a receiver at the newest SF_MARK (R74). -/
def execRefAbsentTimeout (k : Nat) (s : State) : Host.Outcome State Fault Refusal :=
  if k < 2 then .next (rxAbsentCheck s.jr.sf k s) else .next s

/-- CLEARk at its position (R74, R88). -/
def clearRx (k : Nat) (s : State) : State := if (rx s k).st = .refused then rxAbsent k s else s

/-- A write of FIX_REF_CTRL (R88). -/
def refCtrlWord (v : Word) (s : State) : State × Nat :=
  let s1 := if bit v 0 then clearRx 0 s else s
  let s2 := if bit v 1 then clearRx 1 s1 else s1
  (if bit v 2 then s2.updFix fun f => { f with swReq := true } else s2, stOk)

/-- CLEAR: a write of 1 to CLEAR0 or CLEAR1 (R74). -/
def execClear (h : GmpHdr) (k : Nat) (s : State) : Host.Outcome State Fault Refusal :=
  let w := wordOf (if k = 0 then 1 else 2)
  .next (gmpWord h Addr.FIX_REF_CTRL w 1 (refCtrlWord w) s)

/-- SWITCH: a write of 1 to SWITCH (R75). -/
def execSwitch (h : GmpHdr) (s : State) : Host.Outcome State Fault Refusal :=
  .next (gmpWord h Addr.FIX_REF_CTRL 4#32 1 (refCtrlWord 4#32) s)

end Sys2Proof.Machine
end

