-- ==== Sys2Proof/Machine/FixSol.lean ====
section
/-!
DEFINITION. The solution of one rover epoch (04_fix_solution R90 to R109, R114, R117, R118): ambiguity
states, pivots, screening, ambiguity resolution, quality and the fix record. The numbers of the filter's
arithmetic are the operand `FixNums` (R91 bounds them and does not give them bit for bit); every test on
them, and every count and state that follows, is here.
-/

namespace Sys2Proof.Machine

open Sys2Proof

/-! Keys and captured configuration. -/

/-- The key of an ambiguity: slot and satellite. -/
def ambKey (slot sat : Nat) : Nat := slot * 256 + sat

/-- The key of a double difference, rising in the order of R96; `kind` 0 is a pseudorange, 1 a phase. -/
def obsKey (slot sat kind : Nat) : Nat := ((slot * 4 + sat / 64) * 2 + kind) * 64 + sat % 64

/-- A field of the configuration that a job captured: FIX_SOL_MODE, TEST0, TEST1, TEST2, FIX_PL_CFG0,
FIX_PL_CFG1, FIX_OBS_CFG by index. -/
def FixJob.fld (j : FixJob) (i hi lo : Nat) : Nat := bitsOf (j.cfg.getD i 0) hi lo

/-- The numbers listed at a key. -/
def numAt (l : List (Nat × Nat)) (k : Nat) : Nat := ((l.find? (fun e => e.1 == k)).map (fun e => e.2)).getD 0

/-! Step 4 and 5 of 03_fix_inputs R80. -/

/-- Satellites at or above the elevation mask; one whose elevation is not given stays. -/
def maskElev (mask : Nat) (el : List (Nat × Int)) (l : List RedSat) : List RedSat :=
  l.filter (fun x => match el.find? (fun e => e.1 == x.key) with
    | some e => decide ((mask : Int) * 1000 ≤ e.2)
    | none => true)

/-! Common observations of the two epochs. -/

/-- A satellite's observation of a slot. -/
def obsAt (l : List RedSat) (sat slot : Nat) : Option SlotObs :=
  (l.find? (fun x => x.key == sat)).bind (fun x => x.obs.find? (fun o => o.slot == slot))

/-- What the two epochs have in common at a satellite and slot. -/
structure Com where
  sat : Nat
  slot : Nat
  phase : Bool
  range : Bool
  slip : Bool
  deriving DecidableEq, Repr

/-- The satellites and slots with a phase or a pseudorange in both epochs, slot by slot in the order of
03_fix_inputs R80. -/
def common (rov ref : List RedSat) : List Com :=
  [0, 1, 2].flatMap (fun slot => rov.filterMap (fun x =>
    match obsAt rov x.key slot, obsAt ref x.key slot with
    | some a, some b =>
      let ph := a.phase && b.phase
      let rg := a.range && b.range
      if ph || rg then some ⟨x.key, slot, ph, rg, a.slip || b.slip⟩ else none
    | _, _ => none))

/-- The phases of a constellation and slot, unslipped ones alone where `clean`. -/
def groupPhases (c : List Com) (sys slot : Nat) (clean : Bool) : List Nat :=
  (c.filter (fun x => x.slot == slot && keySys x.sat == sys && x.phase && !(clean && x.slip))).map (fun x => x.sat)

/-! Pivots (R93). -/

/-- What a rover's filter holds of its ambiguities while an epoch is worked, and the ambiguities reset in
this epoch. -/
structure Work where
  ambs : List Amb
  pivots : List Pivot
  iono : List Nat
  reset : List Nat
  deriving DecidableEq, Repr

/-- The satellite of highest elevation, of a tie the lower number (R93). -/
def highest (el : List (Nat × Int)) : List Nat → Option Nat
  | [] => none
  | a :: r =>
    let e (k : Nat) : Int := ((el.find? (fun x => x.1 == k)).map (fun x => x.2)).getD 0
    match highest el r with
    | none => some a
    | some b => if e a < e b ∨ (e a = e b ∧ b < a) then some b else some a

/-- The pivot held of a group. -/
def Work.pivot (w : Work) (sys slot : Nat) : Option Nat :=
  (w.pivots.find? (fun p => p.sys == sys && p.slot == slot)).map (fun p => p.sat)

/-- An ambiguity reset: as a new one, and out of the held set (R99, R106). -/
def Work.resetAmb (w : Work) (p : Amb → Bool) : Work :=
  { w with ambs := w.ambs.map (fun a => if p a then { a with lock := 0, held := false } else a),
           reset := w.reset ++ (w.ambs.filter p).map (fun a => ambKey a.slot a.sat) }

/-- A group's ambiguities transformed from one pivot to another (R93): the new pivot's place is taken by
the old pivot. Without a state of the new pivot nothing can be subtracted, and the group is reset. -/
def Work.rePivot (w : Work) (sys slot old new : Nat) : Work :=
  let ps := w.pivots.map (fun p => if p.sys = sys ∧ p.slot = slot then { p with sat := new } else p)
  let io := if slot = 0 then w.iono.map (fun k => if k = new then old else k) else w.iono
  let w1 := { w with pivots := ps, iono := io }
  if w.ambs.any (fun a => a.slot == slot && a.sat == new) then
    { w1 with ambs := w.ambs.map (fun a => if a.slot = slot ∧ a.sat = new then { a with sat := old } else a) }
  else w1.resetAmb (fun a => a.slot == slot && keySys a.sat == sys)

/-- The pivot of a group at this epoch (R93). -/
def Work.group (el : List (Nat × Int)) (c : List Com) (w : Work) (g : Nat × Nat) : Work :=
  let clean := groupPhases c g.1 g.2 true
  let all := groupPhases c g.1 g.2 false
  match w.pivot g.1 g.2 with
  | some p =>
    if clean.contains p then w
    else match highest el (if clean.isEmpty then all else clean) with
      | some n => if n = p then w else w.rePivot g.1 g.2 p n
      | none => { w with pivots := w.pivots.filter (fun x => !(x.sys == g.1 && x.slot == g.2)) }
  | none =>
    match highest el (if clean.isEmpty then all else clean) with
    | some n => { w with pivots := w.pivots ++ [⟨g.1, g.2, n⟩] }
    | none => w

/-- Every group of a constellation and slot, in the order of R96. -/
def groups : List (Nat × Nat) := [0, 1, 2].flatMap (fun slot => [0, 1, 2, 3].map (fun sys => (sys, slot)))

/-- The pivots of every group. -/
def Work.pivotAll (el : List (Nat × Int)) (c : List Com) (w : Work) : Work := groups.foldl (Work.group el c) w

/-! States (R90, R92). -/

/-- A satellite is the pivot of its constellation on a slot. -/
def Work.isPivot (w : Work) (sat slot : Nat) : Bool := w.pivot (keySys sat) slot == some sat

/-- States held (R90). -/
def Work.count (trop : Nat) (w : Work) : Nat := 6 + trop + w.iono.length + w.ambs.length

/-- The phases that may hold an ambiguity state, in the order of R92. -/
def ambPhases (w : Work) (c : List Com) : List Com := c.filter (fun x => x.phase && !w.isPivot x.sat x.slot)

/-- States whose observations are absent are removed (R92). -/
def Work.prune (c : List Com) (w : Work) : Work :=
  { w with
    ambs := w.ambs.filter (fun a => (ambPhases w c).any (fun x => x.slot == a.slot && x.sat == a.sat)),
    iono := w.iono.filter (fun k => c.any (fun x => x.sat == k) && !w.isPivot k 0) }

/-- Ionospheric states admitted in satellite order (R92): the work, and the satellites dropped. -/
def admitIono (trop : Nat) : List Nat → Work → List Nat → Work × List Nat
  | [], w, d => (w, d)
  | k :: r, w, d =>
    if w.iono.contains k || w.isPivot k 0 then admitIono trop r w d
    else if w.count trop < 160 then admitIono trop r { w with iono := w.iono ++ [k] } d
    else admitIono trop r w (d ++ [k])

/-- The lock count of an ambiguity at this epoch (R102). -/
def lockStep (c : List Com) (a : Amb) : Amb :=
  if c.any (fun x => x.slot == a.slot && x.sat == a.sat && x.slip) then { a with lock := 0, held := false }
  else { a with lock := a.lock + 1 }

/-- The slips of R70 applied and the locks counted (R97, R102). -/
def Work.slips (c : List Com) (w : Work) : Work :=
  let hit := w.ambs.filter (fun a => c.any (fun x => x.slot == a.slot && x.sat == a.sat && x.slip))
  { w with ambs := w.ambs.map (lockStep c), reset := w.reset ++ hit.map (fun a => ambKey a.slot a.sat) }

/-- New ambiguity states admitted while fewer than 160 states are held (R92). -/
def admitAmbs (trop : Nat) : List Com → Work → Work
  | [], w => w
  | x :: r, w =>
    if w.ambs.any (fun a => a.slot == x.slot && a.sat == x.sat) then admitAmbs trop r w
    else if w.count trop < 160 then
      admitAmbs trop r { w with ambs := w.ambs ++ [⟨x.slot, x.sat, b2n (!x.slip), false⟩] }
    else w

/-- The satellites of a list of common observations, rising. -/
def comSats (c : List Com) : List Nat := (c.foldl (fun (m : KMap Unit) x => kins m x.sat ()) []).map (fun e => e.1)

/-- Pivots chosen, states removed and admitted, slips applied (R92, R93, R97): the work, and the common
observations that remain in the epoch. -/
def Work.states (el : List (Nat × Int)) (trop : Nat) (ion : Bool) (c : List Com) (w : Work) : Work × List Com :=
  let w1 := (w.pivotAll el c).prune c
  let x := if ion then admitIono trop (comSats c) w1 [] else ({ w1 with iono := [] }, [])
  let c1 := if x.2.isEmpty then c else c.filter (fun o => !x.2.contains o.sat)
  let w2 := if x.2.isEmpty then x.1 else (x.1.pivotAll el c1).prune c1
  let w3 := w2.slips c1
  (admitAmbs trop (ambPhases w3 c1) w3, c1)

/-! Double differences and screening (R96, R99 to R101). -/

/-- The double differences of an epoch as rising keys: pseudoranges, and phases that hold a state. -/
def ddKeys (w : Work) (c : List Com) : List Nat :=
  let rg := c.filter (fun x => x.range && match w.pivot (keySys x.sat) x.slot with
    | some p => p != x.sat && c.any (fun y => y.sat == p && y.slot == x.slot && y.range)
    | none => false)
  let ph := w.ambs
  ((rg.map (fun x => obsKey x.slot x.sat 0) ++ ph.map (fun a => obsKey a.slot a.sat 1)).foldl
    (fun (m : KMap Unit) k => kins m k ()) []).map (fun e => e.1)

/-- The key is a phase. -/
def isPhase (k : Nat) : Bool := k / 64 % 2 == 1

/-- The pre-fit screen (R99): pseudoranges above the limit go, and their phases' ambiguities are reset. -/
def prefit (limit : Nat) (pre : List (Nat × Nat)) (w : Work) (obs : List Nat) : Work × List Nat :=
  let far (k : Nat) : Bool := decide (limit < numAt pre k)
  (w.resetAmb (fun a => far (obsKey a.slot a.sat 1)), obs.filter (fun k => isPhase k || !far k))

/-- The worstObs value over the observations in use, of a tie the later (R100). -/
def worstObs (vals : List (Nat × Nat)) : List Nat → Option (Nat × Nat)
  | [] => none
  | k :: r =>
    match worstObs vals r with
    | none => some (k, numAt vals k)
    | some b => if b.2 < numAt vals k then some (k, numAt vals k) else some b

/-- The post-fit screen (R100): the observations left, the exclusions, and whether the update is accepted. -/
def postfit (limit exclMax : Nat) : List (List (Nat × Nat)) → List Nat → Nat → List Nat × Nat × Bool
  | [], obs, n => (obs, n, true)
  | p :: r, obs, n =>
    match worstObs p obs with
    | none => (obs, n, true)
    | some b =>
      if b.2 ≤ limit then (obs, n, true)
      else if exclMax ≤ n then (obs, n, false)
      else postfit limit exclMax r (obs.filter (fun k => k != b.1)) (n + 1)

/-! Ambiguity resolution (R102 to R106). -/

/-- The outcome of the ambiguity search. -/
structure Resolved where
  /-- The set that passed, and whether it is a subset of R104. -/
  set : Option (List Nat)
  part : Bool
  /-- The last search, for RATIO. -/
  last : Option Search
  deriving DecidableEq, Repr

/-- A search passes its limits (R103). -/
def searchPass (nodeMax ratioMin : Nat) (x : Search) : Bool :=
  decide (x.nodes ≤ nodeMax * 1000 ∧ ratioMin * x.best ≤ x.second * 10)

/-- The candidate with the worstObs float variance, of a tie the later satellite (R104). -/
def worstSat (var : List (Nat × Nat)) : List Nat → Option (Nat × Nat)
  | [] => none
  | k :: r =>
    match worstSat var r with
    | none => some (k % 256, numAt var k)
    | some b =>
      if b.2 < numAt var k ∨ (b.2 = numAt var k ∧ b.1 < k % 256) then some (k % 256, numAt var k) else some b

/-- The searches in turn (R103, R104): the full set first, then subsets; `n` counts the subsets left. -/
def resolve (fixMin nodeMax ratioMin : Nat) (par : Bool) (var : List (Nat × Nat)) :
    Nat → List Search → List Nat → Bool → Option Search → Resolved
  | _, [], _, sub, last => ⟨none, sub, last⟩
  | n, x :: r, set, sub, _ =>
    if searchPass nodeMax ratioMin x && decide (fixMin ≤ set.length) then ⟨some set, sub, some x⟩
    else if !par then ⟨none, sub, some x⟩
    else match n, worstSat var set with
      | n + 1, some b =>
        let next := set.filter (fun k => k % 256 != b.1)
        if next.length < fixMin then ⟨none, sub, some x⟩
        else resolve fixMin nodeMax ratioMin par var n r next true (some x)
      | _, _ => ⟨none, sub, some x⟩

/-- Every value is within a limit (R98, R105). -/
def allWithin (limit : Nat) (l : List Nat) : Bool := l.all (fun v => decide (v ≤ limit))

/-- RATIO (R117). -/
def ratioOf : Option Search → Nat
  | none => 0
  | some x => if x.best = 0 then 0xFFFF else sat 16 (x.second * 100 / x.best)

/-! The record (R107, R109, R117, R118). -/

/-- A protection level in millimetres: the factor in hundredths, the deviation in micrometres (R109). -/
def protect (k sigma bias : Nat) : Nat := min 65535 (bias + (k * sigma + 99999) / 100000)

/-- AGE (R117) of milliseconds between the rover's and the reference epoch. -/
def ageCode (ms : Nat) : Nat := if ms < 1000 then ms / 10 else min 190 (100 + (ms - 1000) / 100)

/-- What decides the record of an epoch. -/
structure Verdict where
  qual : Nat
  flags : Nat
  sol : FixSol
  ratio : Nat
  nsat : Nat
  nfix : Nat
  deriving DecidableEq, Repr

/-- A NONE record's values (R109, R118). -/
def FixSol.zero : FixSol := ⟨0, 0, 0, 0, 0, 0, 0, 0⟩

/-- The fix record of a verdict (R117, R118). -/
def makeRec (j : FixJob) (v : Verdict) (hold epochSeq : Nat) : FixRec :=
  let none_ := v.qual == 0
  let vel := decide (2 ≤ v.qual)
  let pos (x : Int) : Int := if none_ then 0 else clampI (-(2 ^ 31)) (2 ^ 31 - 1) (rndAway x 100)
  let spd (x : Int) : Int := if vel then clampI (-32768) 32767 (rndAway x 1000) else 0
  { source := j.rover, qual := v.qual, flags := v.flags + (if vel then 16 else 0), epoch := j.t,
    refId := (j.ref.map (fun r => r.2.1 % 4096)).getD 0, x := pos v.sol.x, y := pos v.sol.y, z := pos v.sol.z,
    vx := spd v.sol.vx, vy := spd v.sol.vy, vz := spd v.sol.vz,
    hpl := if none_ then 65535 else protect (j.fld 4 10 0) v.sol.sigH (j.fld 5 7 0),
    vpl := if none_ then 65535 else protect (j.fld 4 26 16) v.sol.sigV (j.fld 5 15 8),
    sigH := if none_ then 0xFFFF else sat 16 (rndAway v.sol.sigH 100).toNat,
    ratio := v.ratio, nsat := sat 8 v.nsat, nfix := sat 8 v.nfix,
    age := (j.ref.map (fun r => ageCode (j.t - r.2.2.1))).getD 255, hold := sat 8 hold, epochSeq := sat 16 epochSeq }

/-! One epoch (R97, R108). -/

/-- What one Fix job computes: the rover after it, the record, and the exclusions and dropped satellites to
count. -/
structure Solved where
  rover : Rover
  fix : FixRec
  excl : Nat
  drop : Nat
  deriving DecidableEq, Repr

/-- A rover whose filter is cleared (R115). -/
def Rover.clear (r : Rover) : Rover :=
  { r with lc := .init, fails := 0, hold := 0, ambs := [], pivots := [], iono := [], epochSeq := 0, lastRef := none,
           nstate := 0 }

/-- Single-point solutions need four satellites, one more for each further constellation, and small
residuals (R98). -/
def spOk (kPost : Nat) (nums : FixNums) (rov : List RedSat) : Bool × Nat :=
  let sats := (rov.filter (fun x => x.obs.any (fun o => o.range))).map (fun x => x.key)
  let cons := ([0, 1, 2, 3].filter (fun c => sats.any (fun k => keySys k == c))).length
  (decide (3 + cons ≤ sats.length) && allWithin (kPost * 100) nums.spRes, sats.length)

/-- The verdict of a single point: SINGLE or NONE (R98, R108). -/
def spVerdict (kPost flags : Nat) (nums : FixNums) (rov : List RedSat) : Verdict :=
  let x := spOk kPost nums rov
  if x.1 then ⟨1, flags, nums.sp, 0, x.2, 0⟩ else ⟨0, flags, FixSol.zero, 0, 0, 0⟩

/-- A rover re-based on another receiver (R114): ambiguities that the link carries are kept, every other is
reset. -/
def Work.rebase (linkFix linkFloat : List Nat) (w : Work) : Work :=
  let keeps (a : Amb) : Bool := match w.pivot (keySys a.sat) a.slot with
    | none => false
    | some p =>
      let l := if keySys a.sat = 3 then linkFloat else linkFix
      l.contains (ambKey a.slot a.sat) && l.contains (ambKey a.slot p)
  w.resetAmb (fun a => !keeps a)

/-- The quality, hold count and held set of an accepted update (R105 to R108). -/
def decideQual (j : FixJob) (nums : FixNums) (prevQual hold : Nat) (w : Work) (res : Resolved) :
    Work × Nat × Nat × Nat × FixSol :=
  let held (f : Amb → Bool) : Work := { w with ambs := w.ambs.map (fun a => { a with held := f a }) }
  let ok := match res.set with
    | some _ => allWithin (j.fld 1 23 16 * 100) nums.passRes
    | none => false
  match res.set, ok with
  | some set, true => (held (fun a => set.contains (ambKey a.slot a.sat)), 4, 0, set.length, nums.fixed)
  | _, _ =>
    let w1 := if res.set.isSome then held (fun _ => false) else w
    let n := (w1.ambs.filter (fun a => a.held)).length
    let can := decide (3 ≤ prevQual) && j.fld 0 3 3 == 1 && decide (j.fld 2 14 8 ≤ n) &&
      allWithin (j.fld 1 23 16 * 100) nums.heldRes
    if !can then (w1, 2, hold, 0, nums.float)
    else if hold < j.fld 3 7 0 then (w1, 3, hold + 1, n, nums.heldSol)
    else (held (fun _ => false), 2, hold, 0, nums.float)

/-- A Fix job with a reference epoch: the update of the filter and what follows (R97). -/
def solveRef (j : FixJob) (nums : FixNums) (linkFix linkFloat : List Nat) (r : Rover) (rov ref : List RedSat)
    (rx drop : Nat) : Solved :=
  let gap := match j.dt with
    | some d => decide (j.fld 0 14 8 * 100 < d)
    | none => false
  let fresh := r.lc != .run || gap
  let r0 := if fresh then { r.clear with lc := .run } else r
  let reb := !fresh && r.lastRef != some rx && r.lastRef.isSome
  let w0 : Work := ⟨r0.ambs, r0.pivots, r0.iono, []⟩
  let w1 := if reb then w0.rebase linkFix linkFloat else w0
  let trop := j.fld 0 0 0
  let x := w1.states nums.elev trop (j.fld 0 1 1 == 1) (common rov ref)
  let y := prefit (j.fld 1 7 0 * 100) nums.prefit x.1 (ddKeys x.1 x.2)
  let z := postfit (j.fld 1 15 8 * 100) (j.fld 1 26 24) nums.postfit y.2 0
  let accepted := z.2.2 && decide (4 ≤ (z.1.filter isPhase).length) && !(fresh && !(spOk (j.fld 1 15 8) nums rov).1)
  let flags := b2n fresh + 2 * b2n reb + 8 * rx + 32 * j.fld 0 1 1 + 64 * b2n (decide (0 < z.2.1))
  let seq := if fresh then 1 else sat 16 (r0.epochSeq + 1)
  let w := y.1
  let r1 := { r0 with ambs := w.ambs, pivots := w.pivots, iono := w.iono, epochSeq := seq, lastRef := some rx,
                      nstate := w.count trop }
  if !accepted then
    let v := spVerdict (j.fld 1 15 8) flags nums rov
    let f := r1.fails + 1
    let r2 := { r1 with fails := f, qual := v.qual }
    let r3 := if j.fld 0 7 4 ≤ f then { r2.clear with qual := v.qual } else r2
    ⟨r3, makeRec j v r1.hold seq, z.2.1, drop⟩
  else
    let cand := (w.ambs.filter (fun a => keySys a.sat != 3 && decide (j.fld 2 24 19 ≤ a.lock) &&
      !w.reset.contains (ambKey a.slot a.sat) && z.1.contains (obsKey a.slot a.sat 1))).map (fun a => ambKey a.slot a.sat)
    let res := if cand.isEmpty then ⟨none, false, none⟩
      else resolve (j.fld 2 14 8) (j.fld 3 17 8) (j.fld 2 7 0) (j.fld 0 2 2 == 1) nums.ambVar (j.fld 2 18 15)
        nums.searches cand false none
    let q := decideQual j nums r.qual r1.hold w res
    let part := q.2.1 == 4 && res.part
    let v : Verdict := ⟨q.2.1, flags + 4 * b2n part, q.2.2.2.2, ratioOf res.last, (comSats x.2).length, q.2.2.2.1⟩
    ⟨{ r1 with fails := 0, qual := v.qual, hold := q.2.2.1, ambs := q.1.ambs }, makeRec j v q.2.2.1 seq, z.2.1, drop⟩

/-- A Fix job (R97). -/
def solve (j : FixJob) (nums : FixNums) (linkFix linkFloat : List Nat) (r : Rover) : Solved :=
  let mask := j.fld 6 5 0
  let all := maskElev mask nums.elev j.sats
  let rov := all.take 64
  let drop := all.length - rov.length
  match j.ref with
  | none =>
    let v := spVerdict (j.fld 1 15 8) (32 * j.fld 0 1 1) nums rov
    let seq := if r.lc = .run then sat 16 (r.epochSeq + 1) else 0
    ⟨{ r with qual := v.qual, epochSeq := seq }, makeRec j v r.hold seq, 0, drop⟩
  | some x => solveRef j nums linkFix linkFloat r rov (maskElev mask nums.elev x.2.2.2) x.1 drop

end Sys2Proof.Machine
end

