-- ==== Sys2Proof/Machine/Fix.lean ====
section
/-!
DEFINITION. The fix service as the block runs it (03_fix_inputs R76 to R80; 04_fix_solution R97, R110 to
R122): rover epochs accepted at their position, Fix jobs, the permit gate, losses and resets.
-/

namespace Sys2Proof.Machine

open Sys2Proof

/-- A rover changed. -/
def modRover (m : Nat) (f : Rover → Rover) (s : State) : State :=
  s.updFix fun x => { x with rover := kmod Rover.zero x.rover m f }

/-! Accepted epochs (R76 to R79). -/

/-- The satellites and the GPS time of one message of a rover epoch, where it is an MSM message that passed
its CRC-24Q (R78). -/
def obsMsg (s : State) (T : Nat) (m : RtcmMsg) : Option (Nat × List SatObs) :=
  match m.body with
  | .msm g _ _ tow dow _ sats => if m.crcOk then some (msmTime g tow dow (cfg s Addr.TIME_UTC 5 0) T, sats) else none
  | _ => none

/-- The GPS time of a rover epoch with its satellites, where its form is right (R78). -/
def obsForm (s : State) (T : Nat) (obs : List RtcmMsg) : Option (Nat × List SatObs) :=
  let l := obs.map (obsMsg s T)
  if !within 1 8 obs.length || l.any (fun x => x.isNone) then none
  else
    let p := l.filterMap id
    match p with
    | [] => none
    | x :: r => if r.all (fun y => y.1 == x.1) then some (x.1, p.flatMap (fun y => y.2)) else none

/-- The reference epoch of a rover epoch at GPS time t (R76), reduced by steps 1 to 3 of R80 against the
epoch before it of the same receiver. -/
def refFor (s : State) (t : Nat) : Option (Nat × Nat × Nat × List RedSat) :=
  match s.fix.primary with
  | none => none
  | some k =>
    match (rx s k).epochs.dropWhile (fun e => decide (t < e.t)) with
    | [] => none
    | e :: older =>
      if e.t + cfg s Addr.FIX_REF_POLICY 16 10 * 100 < t then none
      else
        let prev := (older.head?.map (fun o => o.sats)).getD []
        some (k, (rx s k).sid, e.t, reduceEpoch s e.t (lockOf (cfg s Addr.FIX_OBS_CFG 11 6) prev) e.sats)

/-- The gate profile of a machine (R110, R121). -/
def gateProf (s : State) (m : Nat) : Nat :=
  cfg s (Addr.FIX_GATE_SEL + 4 * ((m - 1) / 16)) (2 * ((m - 1) % 16) + 1) (2 * ((m - 1) % 16))

/-- AGE_MAX of a machine's gate profile (R111). -/
def ageMax (s : State) (m : Nat) : Nat := cfg s (Addr.FIX_GATE_PROF_A + 8 * gateProf s m) 13 8

/-- An accepted epoch becomes a Fix job that carries what it reads at its position (R76, R79, R97, R111). -/
def acceptEpoch (m arrival : Nat) (pos : Nat × Nat) (t : Nat) (sats : List SatObs) (s : State) : State :=
  let r := rover s m
  let prof := gateProf s m
  let j : FixJob :=
    { rover := m, t := t, sf := pos.1, seq := pos.2, arrival := arrival,
      sats := reduceEpoch s t (lockOf (cfg s Addr.FIX_OBS_CFG 11 6) r.prevObs) sats, ref := refFor s t,
      cfg := [Addr.FIX_SOL_MODE, Addr.FIX_SOL_TEST0, Addr.FIX_SOL_TEST1, Addr.FIX_SOL_TEST2, Addr.FIX_PL_CFG0,
        Addr.FIX_PL_CFG1, Addr.FIX_OBS_CFG].map (fun a => cfg s a 31 0),
      gateA := cfg s (Addr.FIX_GATE_PROF_A + 8 * prof) 31 0, gateB := cfg s (Addr.FIX_GATE_PROF_B + 8 * prof) 31 0,
      dt := r.lastT.map (fun p => t - p), scr := s.scr.cov, geom := geomFor s m, void := false }
  let s1 := bump Addr.FIX_OBS_CNT_ACCEPT (modMach m (fun x => { x with age := some 0 }) s)
  let s2 := modRover m (fun r => { r with lastT := some t, prevObs := sats }) s1
  createJob 0 pos m (some ((arrival + 12000000) / 1000)) (s2.updFix fun f => { f with jobs := f.jobs ++ [j] })

/-- A rover epoch at the position of its entry (R78, R79). -/
def offerEpoch (m arrival : Nat) (pos : Nat × Nat) (obs : List RtcmMsg) (s : State) : State :=
  let r := rover s m
  if r.lc = .empty then s
  else
    let T := gpsMs pos.1
    match obsForm s T obs with
    | none => bump Addr.FIX_OBS_CNT_FORM s
    | some (t, sats) =>
      if t + cfg s Addr.FIX_OBS_CFG 18 12 * 10 < T then bump Addr.FIX_OBS_CNT_STALE s
      else if T + 40 ≤ t then bump Addr.FIX_OBS_CNT_FORM s
      else if (match r.lastT with
        | some p => decide (t < p + 50)
        | none => false) then bump Addr.FIX_OBS_CNT_ORDER s
      else acceptEpoch m arrival pos t sats s

/-! The gate (R110 to R112). -/

/-- A record fails the gate of a profile (R110). -/
def gateFails (gateA gateB : Nat) (r : FixRec) : Bool :=
  decide (r.qual < bitsOf gateA 2 0 ∨ bitsOf gateB 15 0 < r.hpl ∨ bitsOf gateB 31 16 < r.vpl)

/-- A machine's gate result FAIL, with the withdrawal of a set permit (R110 to R112, R116). -/
def gateFail (pos : Nat × Nat) (m cause : Nat) (s : State) : State :=
  withdraw pos m cause (modMach m (fun x => { x with gate := false }) s)

/-- The machine's newest accepted epoch is within AGE_MAX (R111). -/
def ageOk (s : State) (m : Nat) : Bool :=
  match (safeMach s m).age with
  | some n => decide (n ≤ ageMax s m)
  | none => false

/-- The gate on a record of an associated machine (R110, R112). -/
def gateRecord (pos : Nat × Nat) (gateA gateB : Nat) (r : FixRec) (s : State) : State :=
  if !isAssoc s r.source then s
  else if gateFails gateA gateB r then gateFail pos r.source 8 s
  else if ageOk s r.source then modMach r.source (fun x => { x with gate := true }) s
  else s

/-- One machine's count at an SF_MARK has exceeded AGE_MAX (R111). -/
def ageCheck (pos : Nat × Nat) (m : Nat) (s : State) : State :=
  if isAssoc s m && !ageOk s m then gateFail pos m 9 s else s

/-- SF_MARK entries counted for every associated machine, and the results (R111). -/
def ageMark (pos : Nat × Nat) (s : State) : State :=
  ((List.range (machineCount s.part)).map machineAt).foldl (fun t m =>
    if isAssoc t m then ageCheck pos m (modMach m (fun x => { x with age := x.age.map (· + 1) }) t) else t) s

/-- FIX_AGE_EXPIRY: the count of a machine at the newest SF_MARK exceeds AGE_MAX (R111). -/
def execFixAgeExpiry (m : Nat) (s : State) : Host.Outcome State Fault Refusal :=
  if isMachine s.part m then .next (ageCheck (s.jr.sf, 0) m s) else .next s

/-! Records (R97, R117, R121; 01_architecture R32). -/

/-- The cell of a point in units of 0.1 mm (05_track R123, R153). -/
def Geom.cellAt (g : Geom) (x y : Int) : Int × Int :=
  ((x - g.cx0 * 10) / (g.cell * 10 : Nat), (y - g.cy0 * 10) / (g.cell * 10 : Nat))

/-- The cell lies in the grid. -/
def cellOk (c : Int × Int) : Bool := withinI 0 65535 c.1 && withinI 0 65535 c.2

/-- The CAP at a fix (06_zones R168). -/
def capOfFix (j : ConfJob) : Option Nat :=
  let c := j.geom.cellAt j.record.x j.record.y
  if cellOk c then capAt j.scr.zones c.1.toNat c.2.toNat else none

/-- FIX_SOL_LAT at a record (R121): the mean of a second is shown through the next. -/
def fixLat (us : Nat) (s : State) : State :=
  let sec := now s / 1000000000
  maxF Addr.FIX_SOL_LAT 15 0 us (s.updFix fun f =>
    if f.latSec = sec then { f with latSum := f.latSum + us, latN := f.latN + 1 }
    else { f with latSec := sec, latSum := us, latN := 1,
                  latMean := if f.latSec + 1 = sec then sat 16 (f.latSum / max 1 f.latN) else 0 })

/-- The counters of a record (R121). -/
def fixCounts (r : FixRec) (status : Nat) (s : State) : State :=
  let s1 := bump (Addr.FIX_SOL_CNT + 4 * r.qual) s
  let s2 := if r.flags.testBit 0 then bump Addr.FIX_SOL_CNT_RESTART s1 else s1
  let s3 := if status = stLate then bump Addr.FIX_SOL_CNT_LATE s2 else s2
  if r.flags.testBit 2 then bump Addr.FIX_SOL_CNT_PARTIAL s3 else s3

/-- A record leaves its Fix job: gate, conformance check, loops, downlink and subscribers (R32 step 4). -/
def dispatchRec (j : FixJob) (r : FixRec) (status : Nat) (s : State) : State :=
  let pos := (j.sf, j.seq)
  let s1 := fixCounts r status (modRover j.rover (fun x => { x with recs := (⟨r, j.sf, j.seq, status⟩ :: x.recs).take 4 }) s)
  let s2 := gateRecord pos j.gateA j.gateB r s1
  let c : ConfJob := ⟨r, j.sf, j.seq, j.scr, j.geom⟩
  let chk := decide (2 ≤ r.qual)
  let s3 := if chk then createJob 2 pos j.rover (some ((now s + 1000000) / 1000))
      (s2.updFix fun f => { f with confs := f.confs ++ [c] }) else s2
  let s4 := offerSample ⟨j.rover, r, j.sf, j.seq, status, now s, if chk then capOfFix c else none⟩ s3
  let body := fixRecWire r
  notify 1 (maskHas j.rover) (.bytes 1 body) (queueFix j.rover body s4)

/-- The Fix job of a rover with the earliest position; one that is voided waits for its entry. -/
def takeFix (m : Nat) : List FixJob → Option (FixJob × List FixJob)
  | [] => none
  | a :: r => if a.rover = m ∧ !a.void then some (a, r) else (takeFix m r).map (fun p => (p.1, a :: p.2))

/-- The newest Fix job of a rover whose record is not made. -/
def newestFix (m : Nat) (l : List FixJob) : Option FixJob := (l.filter (fun a => a.rover == m)).getLast?

/-- The record of a voided epoch (R116). -/
def voidRec (j : FixJob) : FixRec :=
  makeRec { j with ref := none } ⟨0, 1 + 32 * j.fld 0 1 1, FixSol.zero, 0, 0, 0⟩ 0 0

/-- The covered effect of a STATE_LOSS entry of object kind 0x01 (R115, R116). -/
def roverLoss (pos : Nat × Nat) (flags m : Nat) (s : State) : State :=
  if (rover s m).lc = .empty then s
  else
    let s1 := modRover m (fun r => { r.clear with qual := 0 }) s
    if flags.testBit 0 then
      match newestFix m s1.fix.jobs with
      | none => s1
      | some j =>
        let s2 := s1.updFix fun f => { f with jobs := f.jobs.filter (fun x => x != j) }
        dispatchRec j (voidRec j) stCheck (finishJob 0 m stCheck s2)
    else gateFail pos m 8 s1

/-- The covered effect of a STATE_LOSS entry by object kind (12_memory R333). -/
def covLoss (pos : Nat × Nat) (kind flags index : Nat) (s : State) : State :=
  match kind with
  | 1 => roverLoss pos flags index s
  | 2 => resvRebuild pos index s
  | 3 => descLoss pos index s
  | 4 => taskLoss pos.1 index s
  | 5 => zoneLoss index s
  | _ => s

/-- The recorder's STATE_LOSS trigger for the entry just written (20_event_recorder R486). -/
def lossRecord (s : State) : State :=
  match s.jr.ring.getLast? with
  | some e => evTrig 0x09 (entryWire e) s
  | none => evTrig 0x09 [] s

/-- An uncorrectable failure that destroys covered state (12_memory R333): an entry with its effect, or, on
a standby, a loss of SYNC (02_journal R50). -/
def stateLost (kind flags index : Nat) (s : State) : State :=
  if s.pair.role = .standby then loseSync 5 s
  else post (.stateLoss kind flags index) (fun t =>
    covLoss (lastPos t) kind flags index (lossRecord (bump Addr.MEM_CNT_STATE_LOSS t))) s

/-- An uncorrectable word in a rover's slot (R116): its newest epoch without a record is aborted. -/
def roverSlotLost (m : Nat) (s : State) : State :=
  let abort := (newestFix m s.fix.jobs).isSome && s.pair.role != .standby
  stateLost 1 (b2n abort) m (s.updFix fun f => { f with jobs := f.jobs.map (fun j =>
    if abort && some j == newestFix m f.jobs then { j with void := true } else j) })

/-- Link ambiguities of R113: kept while either receiver is not USABLE. -/
def linkUpdate (nums : FixNums) (s : State) : State :=
  if usable s 0 && usable s 1 then s.updFix fun f => { f with linkFix := nums.linkFix, linkFloat := nums.linkFloat } else s

/-- The oldest Fix job of a rover makes its record (R97, R120); `nums` are the numbers of its arithmetic (R91). -/
def fixJobDone (m : Nat) (nums : FixNums) (j : FixJob) (rest : List FixJob) (s : State) : State :=
  let late := decide ((j.arrival + 12000000) / 1000 < now s / 1000)
  let status := lateIf late stOk
  let x := solve j nums s.fix.linkFix s.fix.linkFloat (rover s m)
  let s1 := s.updFix fun f => { f with jobs := rest }
  let s2 := linkUpdate nums (finishJob 0 m stOk (fixLat ((now s - j.arrival) / 1000) s1))
  let s3 := bumpF Addr.FIX_OBS_CNT_SATDROP 31 0 x.drop (bumpF Addr.FIX_SOL_CNT_EXCL 31 0 x.excl s2)
  dispatchRec j x.fix status (modRover m (fun _ => x.rover) s3)

/-! Registers (R115, R121, R122). -/

/-- A rover returned to INIT (R115). -/
def resetRover (m : Nat) (s : State) : State :=
  if (rover s m).lc = .empty then s else modRover m (fun r => { r.clear with qual := 0 }) s

/-- A write of FIX_ROVER_CTRL (R115, R121). -/
def roverCtrlWord (v : Word) (s : State) : State × Nat :=
  if bit v 0 then (resetRover (cfg s Addr.FIX_ROVER_SEL 15 0) s, stOk) else (s, stOk)

/-- ROVER_RESET: a write of 1 to RESET in FIX_ROVER_CTRL (R115). -/
def execRoverReset (h : GmpHdr) (s : State) : Host.Outcome State Fault Refusal :=
  .next (gmpWord h Addr.FIX_ROVER_CTRL 1#32 1 (roverCtrlWord 1#32) s)

/-- A write of FIX_ENG_CTRL (R122). -/
def fixEngWord (v : Word) (s : State) : State × Nat :=
  let few := decide (popc (fixCount s.part) v.toNat < (match s.part with
    | .szn2560 => 8
    | .szn1280 => 4))
  let w := match s.part with
    | .szn2560 => v
    | .szn1280 => v &&& 0x3F#32
  if few && s.safe.cPermit != 0 then (s, stState) else storeWord Addr.FIX_ENG_CTRL w s

/-- A short address assigned, and freed (R111, R112, R115). -/
def roverAssigned (m : Nat) (s : State) : State :=
  modMach m (fun x => { x with gate := false, age := none }) (modRover m (fun _ => { Rover.zero with lc := .init }) s)

/-- A short address freed: its slot is released (R115). -/
def roverFreed (m : Nat) (s : State) : State :=
  (modRover m (fun _ => Rover.zero) s).updFix fun f => { f with jobs := f.jobs.filter (fun j => j.rover != m) }

/-- RESV_REBUILD: a group of four buckets of the reservation table is lost (12_memory R333, R334). -/
def execResvRebuild (group : Nat) (s : State) : Host.Outcome State Fault Refusal :=
  if 65536 ≤ group then .next s else .next (stateLost 2 0 group s)

end Sys2Proof.Machine
end

