-- ==== Sys2Proof/Machine/Reset.lean ====
section
/-!
DEFINITION. What several units do to the whole device: the device reset (22_power_clocks_reset R513, R514),
the close of a GMP session (17_host R431), and a write to the non-volatile memory on its channels (18_boot
R453, R469).
-/

namespace Sys2Proof.Machine

open Sys2Proof

/-- A GMP session closed: its subscriptions end, and entries that only it had not taken leave the ring
(17_host R431, 02_journal R52). -/
def closeSess (k : Nat) (s : State) : State :=
  freeRing (s.updGmp fun g => { g with sess := kdel g.sess k, handshake := g.handshake.filter (fun x => x != k) })

/-- Every session closed (15_keys R407). -/
def closeAll (s : State) : State := (List.range 4).foldl (fun t k => closeSess k t) s

/-- Halves of a pair of slots or copies: the one that is not `i`. -/
def otherSlot (i : Nat) : Nat := 1 - i

/-- The memory after a reset: a slot whose write was under way is torn (15_keys R398, 18_boot R463). -/
def flashAfterReset (s : State) : Flash :=
  let f := s.nvm.flash
  let f1 := match s.nvm.writing with
    | some w => { f with sets := lset f.sets w.1 .torn }
    | none => f
  if s.key.writes.isEmpty then f1 else { f1 with keys := lset f1.keys (otherSlot s.key.active) .torn }

/-- The log after a reset (20_event_recorder R489, R493): a record whose write was under way leaves a torn slot,
and an erase under way has erased some of the 64 KiB blocks, how many is free. -/
def logAfterReset (s : State) : KMap LogSlot :=
  let l := if s.evr.writing.isSome then kins s.evr.log s.evr.total .torn else s.evr.log
  if s.evr.erasing.isSome then
    let n := (Config.freeWord64 s.free).toNat % (s.evr.cap / 256 + 1)
    l.filter (fun e => decide (256 * n ≤ e.1))
  else l

/-- The AON domain and what PCR shows after a reset source acts (R514, R520). -/
def pcrAfterReset (cause rail : Nat) (p : PcrS) : PcrS :=
  let c := if cause = 0 then List.replicate 10 0 else p.counts
  { PcrS.reset with
    phase := .held, cause := cause, rail := if cause = 1 then rail else 0,
    lastHalt := if cause = 0 then 0 else p.lastHalt, failedSlot := if cause = 0 then none else p.failedSlot,
    counts := lmod c cause (fun n => sat 16 (n + 1)), refOk := p.refOk, pllLock := p.pllLock,
    safeOsc := p.safeOsc, wakeLow := p.wakeLow, rails := p.rails,
    domOn := if bitsOf p.rails 2 1 = 3 then 3 else 1 }

/-- The tiles after a reset (R514, 12_memory R337): the remap table and the retired tiles go with a power-on,
a wake or a loss of VDD_CORE. -/
def memAfterReset (cause rail : Nat) (m : MemS) : MemS :=
  let lost := cause == 0 || cause == 9 || (cause == 1 && rail == 3)
  { MemS.reset with
    banks := if lost then [] else kmap Bank.zero (fun _ b => { b with testing := [] }) m.banks,
    stripUs := m.stripUs, strips := if cause == 0 then 0 else m.strips }

/-- The SAFE bay after a reset: R203, with the levels at the emergency-stop balls as they are. -/
def safeAfterReset (s : State) : SafeS :=
  let op := s.time.op
  { SafeS.reset with chA := ⟨s.safe.chA.raw, op, false⟩, chB := ⟨s.safe.chB.raw, op, false⟩ }

/-- Records lost because the log's region was never known (20_event_recorder R490): the AON domain keeps their count
from one reset to the next. -/
def earlyAfterReset (cause : Nat) (s : State) : Nat :=
  if cause = 0 then 0 else if s.evr.logOk then s.evr.early else s.evr.early + s.evr.lost + s.evr.queue.length

/-- A device reset: every register and every memory at its reset value, but for what R514 keeps; fuses, the
contents of the non-volatile memory and what has left the block stand. -/
def deviceReset (cause rail : Nat) (s : State) : State :=
  let op := if cause = 0 then 0 else s.time.op
  { State.reset with
    part := s.part,
    time := { TimeS.reset with op := op },
    regs := { RegS.reset with force := s.regs.force.filter (fun e => e.1 == rkey Addr.PCR_WAKE_CFG && cause != 0) },
    safe := safeAfterReset (s.updTime fun x => { x with op := op }),
    evr := { EvrS.reset with log := logAfterReset s, early := earlyAfterReset cause s, pcycle := if cause = 0 then 0 else s.evr.pcycle },
    key := { KeyS.reset with fuses := s.key.fuses, revoke := s.key.revoke, roots := s.key.roots, uid := s.key.uid },
    pcr := pcrAfterReset cause rail s.pcr,
    nvm := { NvmS.reset with flash := flashAfterReset s },
    mem := memAfterReset cause rail s.mem,
    out := s.out,
    free := s.free + 1,
    pending := s.pending }

/-- A channel of the memory that takes part in writes (18_boot R453). -/
def chanUsed (s : State) (i : Nat) : Bool :=
  ((s.nvm.ch.getD i ⟨0, false⟩).ok) && (i == 0 || s.nvm.mirror || !(s.nvm.ch.getD 0 ⟨0, false⟩).ok)

/-- A channel on which an operation fails is marked failed, with its record (18_boot R453, R470;
20_event_recorder R486). `rw` is 1 for a read and 2 for a write. -/
def chanFail (i rw off : Nat) (s : State) : State :=
  evTrig 0x23 ([i, rw] ++ be 4 off) (alarm Addr.NVM_ALARM (1 + i)
    (s.updNvm fun n => { n with ch := lmod n.ch i (fun c => { c with ok := false }) }))

/-- The offset of a region of R451 in the header in force. -/
def regionOff (s : State) (id : Nat) : Nat :=
  match s.nvm.flash.hdr.getD s.nvm.hdrCopy .blank with
  | .copy h => ((h.regions.find? (fun r => r.id == id)).map (fun r => r.offset)).getD 0
  | _ => 0

/-- An erase or a program on the channels in use: `ok0` and `ok1` say which of them complete. It holds where
one does; where none does, NVM_FAULT is set and WRITE_ERR counts (18_boot R453, R469). -/
def nvmWrite (ok0 ok1 : Bool) (off : Nat) (s : State) : State × Bool :=
  let u0 := chanUsed s 0
  let u1 := chanUsed s 1
  let s1 := if u0 && !ok0 then chanFail 0 2 off s else s
  let s2 := if u1 && !ok1 then chanFail 1 2 off s1 else s1
  if (u0 && ok0) || (u1 && ok1) then (s2, true)
  else (bump (Addr.NVM_CNT_WRITE_ERR) (alarm Addr.NVM_ALARM 0 s2), false)

/-- Every record that waits, written before the device resets itself (20_event_recorder R489; 19_firmware R477, R479). -/
def evrDrain : Nat → State → State
  | 0, s => s
  | n + 1, s =>
    match s.evr.writing with
    | none => s
    | some r =>
      let s1 := s.updEvr fun e => { e with log := kins e.log e.total (.valid r), total := e.total + 1, writing := none }
      evrDrain n (evrKick 17 (bump Addr.EVR_CNT_WRITTEN s1))

/-- A reset that the device orders itself, once its records stand (22_power R513 code 7). -/
def selfReset (s : State) : State := deviceReset 7 0 (evrDrain 18 s)

/-- The device serves requests: step 8 of 18_boot R454 has been reached. -/
def unitUp (s : State) : Bool := s.pcr.phase == .up || s.pcr.phase == .drain

end Sys2Proof.Machine
end

