-- ==== Sys2Proof/Machine/Key.lean ====
section
/-!
DEFINITION. Life cycle, roots, the keyring, key slots and debug access (15_keys_and_lifecycle).
-/

namespace Sys2Proof.Machine

open Sys2Proof

/-! The life-cycle state (R386, R387). -/

/-- Both fuses of every half-blown pair, as a power-on reset leaves them (R386). -/
def fusesComplete (k : KeyS) : KeyS :=
  { k with fuses := k.fuses.map (fun n => if 0 < n then 2 else 0), revoke := if 0 < k.revoke then 2 else 0 }

/-- An advance the table of R387 allows. -/
def advanceOk (s : State) (target : Nat) : Bool :=
  let lc := lcState s
  if target = 4 then decide (lc < 4)
  else if target = 3 then lc == 1 || lc == 2
  else if target = 2 then lc == 1 && rootOk s 1
  else if target = 1 then lc == 0 && rootOk s 0 && rootOk s 3
  else false

/-- The conditions of R388 under which a change stays armed, for an advance or the revocation of R392. -/
def lcAllowed (s : State) (revoke : Bool) (target : Nat) : Bool :=
  (lcState s == 0 || (s.safe.cLatch && !s.key.dbgOpen)) &&
  (if revoke then (lcState s == 1 || lcState s == 2) && rootOk s 2 && !revokedA s else advanceOk s target)

/-- ARM_ADVANCE and ARM_REVOKE_A (R388, R392). -/
def lcArm (revoke : Bool) (target : Nat) (s : State) : State × Nat :=
  if !revoke && decide (4 < target) then (s, stField)
  else if !lcAllowed s revoke target then (s, stState)
  else
    let t := nextToken s.key.lastToken
    let sf := s.jr.lastSf
    (s.updKey fun k => { k with arm := some ⟨t, revoke, target, sf⟩, lastToken := t }, stOk)

/-- CONFIRM (R388, R389, in the order of 07_motion_safety R207): an OK writes the record and starts blowing. -/
def lcConfirm (token : Nat) (s : State) : State × Nat :=
  match s.key.arm with
  | none => (s, stState)
  | some a =>
    let s0 := s.updKey fun k => { k with arm := none }
    if !lcAllowed s a.revoke a.target then (s0, stState)
    else if token ≠ a.token ∨ s.jr.lastSf > a.sf + 500 then (s0, stStale)
    else
      let t := if a.revoke then lcState s else a.target
      (evTrig 0x05 [lcState s, t, if a.revoke then 2 else 1] (s0.updKey fun k => { k with blow := some a }), stOk)

/-- DISARM (R388). -/
def lcDisarm (s : State) : State × Nat :=
  if s.key.arm.isSome then (s.updKey fun k => { k with arm := none }, stOk) else (s, stEmpty)

/-- A write of KEY_LC_CTRL: OP, TARGET and TOKEN (R408); LAST_STATUS keeps its status. -/
def lcCtrlWord (w : Word) (s : State) : State × Nat :=
  let op := fld w 2 0
  let r := if op = 1 then lcArm false (fld w 6 4) s else if op = 2 then lcArm true 0 s
    else if op = 3 then lcConfirm (fld w 15 8) s else if op = 4 then lcDisarm s else (s, stField)
  (r.1.updKey fun k => { k with lcStatus := r.2 }, r.2)

/-- A KEY_LC_CTRL word. -/
def lcWord (op target token : Nat) : Word := wordOf (pack [(op % 8, 0), (target % 8, 4), (token % 256, 8)])

/-- A life-cycle command: by a GMP WRITE with the life-cycle right, or, in BLANK only, by the JTAG debug port
(R388). -/
def lcCmd (src : Option GmpHdr) (w : Word) (s : State) : State :=
  match src with
  | some h => gmpWord h Addr.KEY_LC_CTRL w 5 (lcCtrlWord w) s
  | none => if lcState s = 0 then (lcCtrlWord w s).1 else s

/-- ARM_ADVANCE (R388). -/
def execArmAdvance (src : Option GmpHdr) (target : Nat) (s : State) : Host.Outcome State Fault Refusal :=
  .next (lcCmd src (lcWord 1 target 0) s)

/-- ARM_REVOKE_A (R392). -/
def execArmRevokeA (src : Option GmpHdr) (s : State) : Host.Outcome State Fault Refusal :=
  .next (lcCmd src (lcWord 2 0 0) s)

/-- LC_CONFIRM (R388, R389). -/
def execLcConfirm (src : Option GmpHdr) (token : Nat) (s : State) : Host.Outcome State Fault Refusal :=
  .next (lcCmd src (lcWord 3 0 token) s)

/-- LC_DISARM (R388). -/
def execLcDisarm (src : Option GmpHdr) (s : State) : Host.Outcome State Fault Refusal :=
  .next (lcCmd src (lcWord 4 0 0) s)

/-- One more fuse of the change being confirmed is blown and verified (R389 step 2). -/
def blowOne (a : LcArm) (k : KeyS) : KeyS :=
  if a.revoke then { k with revoke := min 2 (k.revoke + 1) }
  else { k with fuses := lmod k.fuses (a.target - 1) (fun n => min 2 (n + 1)) }

/-- FUSE_BLOWN: a fuse of the target pair is blown and verified; after the second the device resets itself
(R389, 22_power R513 code 7). -/
def execFuseBlown (s : State) : Host.Outcome State Fault Refusal :=
  match s.key.blow with
  | none => .next s
  | some a =>
    let s1 := s.updKey (blowOne a)
    let n := if a.revoke then s1.key.revoke else s1.key.fuses.getD (a.target - 1) 0
    if n < 2 then .next s1 else .next (deviceReset 7 0 s1)

/-! Roots (R391). -/

/-- The ROOT message at its position: the root is programmed, or why not. -/
def rootOp (b : RootBody) (s : State) : State × Nat :=
  let st := firstErr stOk [
    (!(b.root == 1 || b.root == 2) || b.zero != 0 || b.wrapped.length != 40, stField),
    (lcState s != 1 || s.key.roots.getD b.root .blank != .blank, stState),
    (!rootOk s 0 || !b.kwpOk, stCheck)]
  if st = stOk then (s.updKey fun k => { k with roots := lset k.roots b.root .valid }, stOk) else (s, st)

/-- The handler of ROOT; a unit that replays the entry programs nothing (R391). -/
def rootHandler (b : RootBody) : Handler := fun c s =>
  if c.replay then (s, some (stOk, []))
  else
    let r := rootOp b s
    (r.1, some (r.2, []))

/-- ROOT (R391, 17_host R437). -/
def execRoot (h : GmpHdr) (b : RootBody) (s : State) : Host.Outcome State Fault Refusal :=
  .next (gmpRequest h (.root b) false true (fun k t => hasRight t k 5) (rootHandler b) s)

/-! Blobs and the keyring (R394 to R399). -/

/-- The usages a TYPE allows, as a mask (R395). -/
def usageSet (typ : Nat) : Nat :=
  if typ = 1 then 0x33 else if typ = 2 then 0x0F else if typ = 3 then 0x3C else if typ = 4 then 0x40 else 0

/-- KEY_LEN of a TYPE (R395). -/
def keyLen (typ : Nat) : Nat := if typ = 1 then 16 else if typ = 4 then 97 else 32

/-- A parent that is a root: its place among vendor, customer-A, customer-B, return (R394). -/
def parentRoot (p : Nat) : Option Nat := if within 0xFF00 0xFF03 p then some (p - 0xFF00) else none

/-- The world of a root (R386). -/
def rootWorld (r : Nat) : Nat := if r = 0 then 0 else if r = 3 then 2 else 1

/-- The blobs from a parent up to its root, nearest first, at most `n` of them, and whether the chain reaches a
root within them (R395). -/
def chainOf (ring : KRing) : Nat → Nat → List Blob × Option Nat
  | 0, p => ([], parentRoot p)
  | n + 1, p =>
    match parentRoot p with
    | some r => ([], some r)
    | none => match kfind ring.blobs p with
      | none => ([], none)
      | some b => let x := chainOf ring n b.parent; (b :: x.1, x.2)

/-- R394 and R395 hold of a blob's own fields. -/
def blobForm (b : Blob) : Bool :=
  within 1 4 b.typ && within 1 0xFEFF b.keyId && !within 5 0xF b.keyId && decide (1 ≤ b.gen) &&
  decide (b.masters < 32) && decide (b.usage ≠ 0) && (b.usage &&& usageSet b.typ) == b.usage &&
  decide (b.lcMask < 16) && decide (b.world ≤ 2) && decide (b.flags ≤ 1) && b.zero0 == 0 && b.zero1 == 0 &&
  b.keyLen == keyLen b.typ && b.wrapLen == 8 * ((b.keyLen + 7) / 8) + 8 && b.wrapped.length == b.wrapLen &&
  (within 1 0xFEFF b.parent || (parentRoot b.parent).isSome) &&
  (!(parentRoot b.parent).isSome || b.parentGen == 0)

/-- R395 holds of a blob's place below its parents: a parent with WRAP usage and of its WORLD, and at most four
blobs below a root, itself included. -/
def blobChain (ring : KRing) (b : Blob) : Bool :=
  let c := chainOf { ring with blobs := kins ring.blobs b.keyId b } 4 b.parent
  decide (c.1.length ≤ 3) &&
  (match parentRoot b.parent with
   | some r => rootWorld r == b.world
   | none => match c.1.head? with
     | some p => p.usage.testBit 2 && p.world == b.world
     | none => true)

/-- The parent is absent, revoked or of another generation, or GEN lies below its floor (R396 step 5). -/
def blobStale (s : State) (ring : KRing) (b : Blob) : Bool :=
  let c := chainOf ring 4 b.parent
  (match parentRoot b.parent with
   | some r => s.key.roots.getD r .blank == .blank
   | none => match kfind ring.blobs b.parent with
     | none => true
     | some p => p.gen != b.parentGen) ||
  (c.2 == some 1 && revokedA s) || decide (b.gen < kget 0 ring.floors b.keyId)

/-- The checks of R396 on a blob against a keyring, in their order. -/
def blobCheck (s : State) (ring : KRing) (b : Blob) : Nat :=
  firstErr stOk [
    (b.world != lcWorld (lcState s) || !b.lcMask.testBit (lcState s), stAuth),
    (b.magic != 0x5A4B || b.version != 1, stVersion),
    (!blobForm b || !blobChain ring b, stField),
    (dbgCust s, stState),
    (blobStale s ring b, stStale),
    (b.crc != crc32c (blobHead b) || !b.kwpOk ||
      (match (chainOf ring 4 b.parent).2 with
       | some r => s.key.roots.getD r .blank == .faulty
       | none => false), stCheck)]

/-- A change of the keyring put in line for its write (R398, R399). -/
def ringQueue (ring : KRing) (w : Option Waiter) (isPut : Bool) (s : State) : State :=
  s.updKey fun k => { k with next := ring, writes := k.writes ++ [⟨ring, w, isPut⟩] }

/-- A slot that becomes STALE, or is zeroed at once where nothing runs on it (R402). -/
def staleSlot (x : KSlot) : Option KSlot :=
  if x.running = 0 then none else some { x with st := .stale }

/-- A KEY_ID lies in the chain of a resident blob, or is its own (R402). -/
def hangsFrom (ring : KRing) (id : Nat) (b : Blob) : Bool :=
  b.keyId == id || (chainOf ring 4 b.parent).1.any (fun p => p.keyId == id)

/-- The resident slots of a KEY_ID and of its descendants go STALE, with the effects on the keys of the
system: GMP_IDENTITY closes every session (R402, R404, 17_host R431). -/
def staleKey (id : Nat) (s : State) : State :=
  let hit (x : KSlot) : Bool := x.st == .ready && hangsFrom s.key.next id x.blob
  let gmp := s.key.slots.any (fun e => hit e.2 && e.2.blob.keyId == 3)
  let s1 := s.updKey fun k => { k with slots := k.slots.filterMap (fun e =>
    if hit e.2 then (staleSlot e.2).map (fun y => (e.1, y)) else some e) }
  if gmp then closeAll s1 else s1

/-- The floor of a KEY_ID raised above a generation (R402). -/
def raiseFloor (ring : KRing) (id gen : Nat) : KRing := { ring with floors := kset 0 ring.floors id (gen + 1) }

/-- INVALIDATE of a KEY_ID at its position (R402): OK_EMPTY where no blob has it, an error, or none while the
keyring's write is awaited. -/
def invalidateOp (id : Nat) (w : Option Waiter) (s : State) : State × Option Nat :=
  let ring := s.key.next
  match kfind ring.blobs id with
  | none => (s, some stEmpty)
  | some b =>
    let r := raiseFloor ring id b.gen
    if ring.gen = 0xFFFFFFFF ∨ 256 < r.floors.length then (s, some stFull)
    else
      let s1 := staleKey id s
      (ringQueue { r with gen := r.gen + 1, blobs := kdel r.blobs id } w false s1, none)

/-- A put of a blob that passed R396 goes on to R399: the generation, the room. -/
def putCheck (ring : KRing) (b : Blob) : Nat :=
  let old := kfind ring.blobs b.keyId
  let bl := kins ring.blobs b.keyId b
  firstErr stOk [
    ((match old with
      | some o => decide (b.gen ≤ o.gen)
      | none => false), stStale),
    (decide (256 < bl.length) || decide (16 < (bl.filter (fun e => e.2.flags == 1)).length) ||
      ring.gen == 0xFFFFFFFF, stFull)]

/-- The resident key goes on under a new blob: same TYPE, USAGE, MASTERS, WORLD and value (R403). -/
def reparents (s : State) (b : Blob) : Bool :=
  b.sameKey && s.key.slots.any (fun e => e.2.st == .ready && e.2.blob.keyId == b.keyId && e.2.blob.typ == b.typ &&
    e.2.blob.usage == b.usage && e.2.blob.masters == b.masters && e.2.blob.world == b.world)

/-- KEY_PUT at its position (R399, R403). -/
def putOp (b : Blob) (w : Option Waiter) (s : State) : State × Option Nat :=
  let ring := s.key.next
  let st := firstErr stOk [(blobCheck s ring b != stOk, blobCheck s ring b), (putCheck ring b != stOk, putCheck ring b)]
  if st ≠ stOk then (s, some st)
  else
    let re := reparents s b
    let ring1 := match kfind ring.blobs b.keyId with
      | some o => if re then ring else raiseFloor ring b.keyId o.gen
      | none => ring
    if 256 < ring1.floors.length then (s, some stFull)
    else
      let s1 := if re then
          s.updKey fun k => { k with slots := k.slots.map (fun e =>
            if e.2.st = .ready ∧ e.2.blob.keyId = b.keyId then (e.1, { e.2 with blob := b }) else e) }
        else if (kfind ring.blobs b.keyId).isSome then staleKey b.keyId s else s
      (ringQueue { ring1 with gen := ring1.gen + 1, blobs := kins ring1.blobs b.keyId b } w true s1, none)

/-- An error result counted in KEY_CNT_STALE, _CHECK or _AUTH (R408). -/
def keyCount (st : Nat) (s : State) : State :=
  if st = stStale then bump Addr.KEY_CNT_STALE s else if st = stCheck then bump Addr.KEY_CNT_CHECK s
  else if st = stAuth then bump Addr.KEY_CNT_AUTH s else s

/-- The result of an operation that completes at once or waits for its MARK. -/
def keyResult (r : State × Option Nat) : State × Option (Nat × List Nat) :=
  match r.2 with
  | some st => (keyCount st r.1, some (st, []))
  | none => (r.1, none)

/-- The handler of KEY_PUT. -/
def putHandler (b : Blob) : Handler := fun c s => keyResult (putOp b (some c.waiter) s)

/-- The handler of KEY_INVALIDATE. -/
def invalidateHandler (id zero : Nat) : Handler := fun c s =>
  if zero ≠ 0 then (s, some (stField, [])) else keyResult (invalidateOp id (some c.waiter) s)

/-- KEY_PUT (R399, 17_host R437). -/
def execKeyPut (h : GmpHdr) (b : Blob) (s : State) : Host.Outcome State Fault Refusal :=
  .next (gmpRequest h (.keyPut b) false true (fun k t => hasRight t k 6) (putHandler b) s)

/-- KEY_INVALIDATE (R402, 17_host R437). -/
def execKeyInvalidate (h : GmpHdr) (id zero : Nat) (s : State) : Host.Outcome State Fault Refusal :=
  .next (gmpRequest h (.keyInvalidate id zero) false true (fun k t => hasRight t k 6) (invalidateHandler id zero) s)

/-- KEYRING_WRITTEN: the MARK of the oldest change is written in the slot not in force, and the change
completes (R398, R399); or no usable channel took the write, and the change is given up (18_boot R469). -/
def execKeyringWritten (ok0 ok1 : Bool) (s : State) : Host.Outcome State Fault Refusal :=
  match s.key.writes with
  | [] => .next s
  | w :: rest =>
    let r := nvmWrite ok0 ok1 (regionOff s (6 + otherSlot s.key.active)) s
    let to_ := otherSlot s.key.active
    let s1 := r.1.updKey fun k => { k with writes := rest }
    if r.2 then
      let s2 := s1.updNvm fun n => { n with flash := { n.flash with keys := lset n.flash.keys to_ (.valid w.ring) } }
      let s3 := s2.updKey fun k => { k with active := to_, ring := w.ring,
                                             cmdStatus := if w.waiter.isNone then stOk else k.cmdStatus }
      match w.waiter with
      | some x => .next (completeReq x stOk (if w.isPut then be 4 w.ring.gen else []) s3)
      | none => .next s3
    else
      let s2 := s1.updNvm fun n => { n with flash := { n.flash with keys := lset n.flash.keys to_ .torn } }
      let s3 := s2.updKey fun k => { k with next := if rest.isEmpty then k.ring else k.next,
                                             cmdStatus := if w.waiter.isNone then stCheck else k.cmdStatus }
      match w.waiter with
      | some x => .next (completeReq x stCheck [] s3)
      | none => .next s3

/-- EVICT at its position (R408): a pinned slot is not emptied (log entry 40). -/
def evictOp (id : Nat) (s : State) : State × Nat :=
  match s.key.slots.find? (fun e => e.2.st == .ready && e.2.blob.keyId == id) with
  | none => (s, stEmpty)
  | some e =>
    if e.2.blob.flags = 1 then (s, stState)
    else if e.2.running ≠ 0 then (s, stBusy)
    else (bump Addr.KEY_CNT_EVICT (s.updKey fun k => { k with slots := kdel k.slots e.1 }), stOk)

/-- A write of KEY_CMD (R408): an INVALIDATE accepted answers OK, and LAST_STATUS follows its MARK. -/
def keyCmdWord (w : Word) (s : State) : State × Nat :=
  let op := fld w 2 0
  let id := fld w 31 16
  let r : State × Option Nat := if op = 1 then invalidateOp id none s
    else if op = 2 then (let e := evictOp id s; (e.1, some e.2)) else (s, some stField)
  match r.2 with
  | some st => (r.1.updKey fun k => { k with cmdStatus := st }, st)
  | none => (r.1, stOk)

/-- A KEY_CMD word. -/
def keyCmdOf (op id : Nat) : Word := wordOf (pack [(op % 8, 0), (id % 65536, 16)])

/-- INVALIDATE: KEY_CMD OP 1 (R402). -/
def execInvalidate (h : GmpHdr) (id : Nat) (s : State) : Host.Outcome State Fault Refusal :=
  .next (gmpWord h Addr.KEY_CMD (keyCmdOf 1 id) 6 (keyCmdWord (keyCmdOf 1 id)) s)

/-- EVICT: KEY_CMD OP 2 (R408). -/
def execEvict (h : GmpHdr) (id : Nat) (s : State) : Host.Outcome State Fault Refusal :=
  .next (gmpWord h Addr.KEY_CMD (keyCmdOf 2 id) 6 (keyCmdWord (keyCmdOf 2 id)) s)

/-! Key slots and operations (R400, R401). -/

/-- The lowest EMPTY slot, or else the least recently used READY slot with PIN clear and nothing running; the
flag says that a slot is evicted (R400). -/
def slotFor (s : State) : Option (Nat × Bool) :=
  match (List.range 64).find? (fun i => (kfind s.key.slots i).isNone) with
  | some i => some (i, false)
  | none =>
    let c := s.key.slots.filter (fun e => e.2.st == .ready && e.2.blob.flags == 0 && e.2.running == 0)
    (c.foldl (fun (m : Option (Nat × KSlot)) e => match m with
      | none => some e
      | some x => if e.2.used < x.2.used then some e else m) none).map (fun e => (e.1, true))

/-- The blob to load next for a KEY_ID: its topmost ancestor that is not resident, or itself (R400). -/
def nextToLoad (s : State) (id : Nat) : Option Blob :=
  match kfind s.key.ring.blobs id with
  | none => none
  | some b =>
    let c := (chainOf s.key.ring 4 b.parent).1
    (c.reverse.find? (fun p => (readySlot s p.keyId).isNone)).orElse (fun _ => some b)

/-- A blob loaded into a slot (R396, R400). -/
def loadBlob (b : Blob) (s : State) : State × Nat :=
  let st := blobCheck s s.key.ring b
  if st ≠ stOk then (s, st)
  else match slotFor s with
    | none => (s, stBusy)
    | some (i, ev) =>
      let s1 := if ev then bump Addr.KEY_CNT_EVICT s else s
      (bump Addr.KEY_CNT_LOAD (s1.updKey fun k =>
        { k with slots := kins k.slots i ⟨.ready, b, 0, k.clock⟩, clock := k.clock + 1 }), stOk)

/-- The checks of a use against a slot's attributes (R401). -/
def useCheck (s : State) (b : Blob) (master usage : Nat) : Nat :=
  firstErr stOk [(!b.masters.testBit master || !b.usage.testBit usage || !b.lcMask.testBit (lcState s), stAuth)]

/-- The end of an operation request with a status: counted and told to the unit that asked. -/
def keyEnd (id st : Nat) (s : State) : State := emit (.keyOp id st) (keyCount st s)

/-- KEY_LOAD: a unit asks for an operation by KEY_ID (R400, R401). A READY slot serves it at once; otherwise one
level of the chain is loaded, parents first, and the request stands until its own key is resident. -/
def execKeyLoad (id master usage : Nat) (s : State) : Host.Outcome State Fault Refusal :=
  if dbgCust s then .next (keyEnd id stState s)
  else match readySlot s id with
    | some (i, x) =>
      let st := useCheck s x.blob master usage
      if st ≠ stOk then .next (keyEnd id st s)
      else .next (emit (.keyOp id stOk) (s.updKey fun k =>
        { k with slots := kins k.slots i { x with running := x.running + 1, used := k.clock }, clock := k.clock + 1 }))
    | none =>
      match nextToLoad s id with
      | none => .next (keyEnd id stStale s)
      | some b =>
        let r := loadBlob b s
        if r.2 ≠ stOk then .next (keyEnd id r.2 r.1) else .next r.1

/-- KEY_OPERATION_END: an operation on a slot ends; a STALE slot is zeroed with its last one (R402). -/
def execKeyOperationEnd (slot : Nat) (s : State) : Host.Outcome State Fault Refusal :=
  match kfind s.key.slots slot with
  | none => .next s
  | some x =>
    let n := x.running - 1
    if x.st = .stale ∧ n = 0 then .next (s.updKey fun k => { k with slots := kdel k.slots slot })
    else .next (s.updKey fun k => { k with slots := kins k.slots slot { x with running := n } })

/-- A blob loaded with the ancestors it needs, parents first (R400). -/
def loadChain (b : Blob) (s : State) : State :=
  ((chainOf s.key.ring 4 b.parent).1.reverse ++ [b]).foldl (fun u x =>
    if (readySlot u x.keyId).isSome then u else (loadBlob x u).1) s

/-- Every blob with PIN set is loaded, parents first (R400); one that fails its checks stays out. -/
def loadPinned (s : State) : State :=
  s.key.ring.blobs.foldl (fun t e => if e.2.flags = 1 then loadChain e.2 t else t) s

/-- A system key brought into its slot for a use by its unit, where the keyring has it (R400). -/
def loadSystem (id : Nat) (s : State) : State :=
  match kfind s.key.ring.blobs id with
  | some b => if (readySlot s id).isSome then s else loadChain b s
  | none => s

/-- A system key is READY and lets a master use it (R401). -/
def systemOk (s : State) (id master usage : Nat) : Bool :=
  match readySlot s id with
  | some (_, x) => useCheck s x.blob master usage == stOk && !dbgCust s
  | none => false

/-! Debug access (R405 to R407). -/

/-- NEW_CHAL: UID and eight random bytes (R406). -/
def newChal (s : State) : State :=
  let r := Config.freeWord64 s.free
  (s.updKey fun k => { k with
    chal := [wordOf (ofLe (be 4 (k.uid / 2 ^ 32))), wordOf (ofLe (be 4 k.uid)), r.setWidth 32, (r >>> 32).setWidth 32],
    chalFresh := true }).updFree (· + 1)

/-- What an unlock in the customer world does (R407). -/
def dbgUnlock (s : State) : State :=
  let s1 := s.updKey fun k => { k with dbgOpen := true, slots := [] }
  evTrig 0x07 [lcWorld (lcState s)] (if lcWorld (lcState s) = 1 then closeAll s1 else s1)

/-- SUBMIT: the response checked (R406); `right` is the verdict of the HMAC under K_DBG. -/
def submitOp (right : Bool) (s : State) : State × Nat :=
  let lc := lcState s
  if lc = 4 ∨ lc = 0 ∨ (lcWorld lc = 1 ∧ !s.safe.latch) ∨ !s.key.chalFresh ∨ 3 ≤ s.key.fails then (s, stState)
  else
    let s1 := s.updKey fun k => { k with chalFresh := false }
    if right then (dbgUnlock s1, stOk)
    else (s1.updKey fun k => { k with fails := k.fails + 1 }, stCheck)

/-- A write of KEY_DBG_CTRL (R408): NEW_CHAL, then SUBMIT. -/
def dbgCtrlWord (right : Bool) (w : Word) (s : State) : State × Nat :=
  let s1 := if bit w 0 then newChal s else s
  let r := if bit w 1 then submitOp right s1 else (s1, stOk)
  (r.1.updKey fun k => { k with dbgStatus := r.2 }, r.2)

/-- A write of KEY_DBG_RESPm (R406). -/
def dbgRespWord (m : Nat) (w : Word) (s : State) : State × Nat :=
  (s.updKey fun k => { k with resp := lset k.resp m w }, stOk)

/-- NEW_CHAL: by GMP with the life-cycle right or by the JTAG debug port (R406). -/
def execNewChal (src : Option GmpHdr) (s : State) : Host.Outcome State Fault Refusal :=
  match src with
  | some h => .next (gmpWord h Addr.KEY_DBG_CTRL 1#32 5 (dbgCtrlWord false 1#32) s)
  | none => .next (dbgCtrlWord false 1#32 s).1

/-- SUBMIT: by GMP with the life-cycle right or by the JTAG debug port, which writes the response first (R406). -/
def execSubmit (src : Option GmpHdr) (resp : List Word) (right : Bool) (s : State) : Host.Outcome State Fault Refusal :=
  match src with
  | some h => .next (gmpWord h Addr.KEY_DBG_CTRL 2#32 5 (dbgCtrlWord right 2#32) s)
  | none => .next (dbgCtrlWord right 2#32 (s.updKey fun k => { k with resp := if resp.length = 4 then resp else k.resp })).1

end Sys2Proof.Machine
end

