-- ==== Sys2Proof/Machine/Lkp.lean ====
section
/-!
DEFINITION. The lookup pipelines, learning, ageing, IPv6 rules, table commands and the bridge (13_tables). A lookup
sees both buckets of its key, so it is written as a search of the bank.
-/

namespace Sys2Proof.Machine

open Sys2Proof

/-! Exact match (R348 to R355). -/

/-- A counter of LKP (R366): 0 LEARN, 1 MOVE, 2 AGED_OUT, 3 LEARN_FULL, 4 FLOOD, 5 STATIC_VIOL, 6 VLAN_DROP,
7 RULE_DROP, 8 CHECK_FAIL, 9 RELOC. -/
def lkpCnt (i : Nat) (s : State) : State := bump (Addr.LKP_CNT + 4 * i) s

/-- A pipeline changed. -/
def modPipe (p : Nat) (f : Pipe → Pipe) (s : State) : State := s.updLkp fun l => { l with pipes := lmod l.pipes p f }

/-- An entry of a bank changed. -/
def emMod (f : EmEnt → EmEnt) (node : Bool) (vid addr : Nat) (m : KMap EmEnt) : KMap EmEnt :=
  m.map (fun e => if e.2.has node vid addr then (e.1, f e.2) else e)

/-- What learning found (R354). -/
inductive Learnt where
  | inserted (moves : Nat)
  | same
  | moved
  | violation
  | full
  deriving DecidableEq, Repr

/-- A learned entry offered to a bank (R353, R354). -/
def emLearn (e : EmEnt) (m : KMap EmEnt) : KMap EmEnt × Learnt :=
  match emFind m e.node e.vid e.addr with
  | some (_, o) =>
    if o.port = e.port ∧ o.via = e.via then (emMod (fun x => { x with hit := true }) e.node e.vid e.addr m, .same)
    else if o.static then (m, .violation)
    else (emMod (fun x => { x with port := e.port, via := e.via, hit := true }) e.node e.vid e.addr m, .moved)
  | none => match bankPlace emBuckets e m with
    | some (m', n) => (m', .inserted n)
    | none => (m, .full)

/-- A learned entry offered to both banks of a pipeline, with its counts (R353 to R355); moves count in RELOC and
in WALK_RELOC. -/
def pipeLearn (p : Nat) (e : EmEnt) (s : State) : State × Learnt :=
  let q := pipe s p
  let a := emLearn e q.live
  let b := emLearn e q.shadow
  let n := match a.2 with
    | .inserted k => k
    | _ => 0
  let s1 := countReloc n (modPipe p (fun x => { x with live := a.1, shadow := b.1, walkReloc := x.walkReloc + n }) s)
  (match a.2 with
    | .full => lkpCnt 3 s1
    | .inserted _ => if e.node then s1 else lkpCnt 0 s1
    | .moved => if e.node then s1 else lkpCnt 1 s1
    | .violation => lkpCnt 5 s1
    | .same => s1, a.2)

/-- The entry of a key in a pipeline, whose HIT a lookup sets (R351, R357). -/
def pipeLookup (p : Nat) (node : Bool) (vid addr : Nat) (s : State) : State × Option EmEnt :=
  match emFind (pipe s p).live node vid addr with
  | some (_, e) =>
    let f (m : KMap EmEnt) := emMod (fun x => { x with hit := true }) node vid addr m
    (modPipe p (fun x => { x with live := f x.live, shadow := f x.shadow }) s, some { e with hit := true })
  | none => (s, none)

/-- Entries of both banks of a pipeline that satisfy `f` deleted. -/
def pipeDrop (p : Nat) (f : EmEnt → Bool) (s : State) : State :=
  modPipe p (fun x => { x with live := x.live.filter (fun e => !f e.2), shadow := x.shadow.filter (fun e => !f e.2) }) s

/-- A lookup meets an entry that fails its check (R350): counted; a learned entry is deleted, and a static one is
rebuilt from the static list as it was. -/
def pipeCheckFail (p : Nat) (node : Bool) (vid addr : Nat) (s : State) : State :=
  match emFind (pipe s p).live node vid addr with
  | some (_, e) =>
    let s1 := lkpCnt 8 s
    if e.static then s1 else pipeDrop p (fun x => x.has node vid addr) s1
  | none => s

/-! NODE entries (R355; 10_radio_frames R300). -/

/-- The NODE entry that a RADIO_RX entry writes in both pipelines (R355). -/
def nodeLearn (addr port via : Nat) (s : State) : State :=
  let e : EmEnt := ⟨true, false, true, false, 0, addr, port, via⟩
  (pipeLearn 1 e (pipeLearn 0 e s).1).1

/-- The NODE entries of an address that becomes FREE deleted (R355). -/
def nodeForget (addr : Nat) (s : State) : State :=
  let f (e : EmEnt) := e.has true 0 addr
  pipeDrop 1 f (pipeDrop 0 f s)

/-! Ageing (R356, R357). -/

/-- One entry at a visit of its bucket (R356): none where it is deleted. -/
def ageEnt (e : EmEnt) : Option EmEnt :=
  if e.static then some e
  else if e.hit then some { e with hit := false, aged := false }
  else if !e.aged then some { e with aged := true }
  else none

/-- A bank after the visit of a bucket. -/
def ageBank (b : Nat) (m : KMap EmEnt) : KMap EmEnt :=
  m.filterMap (fun e => if e.1 / 4 = b then (ageEnt e.2).map (fun x => (e.1, x)) else some e)

/-- The next station time at or after `t` that lies `o` into a period of `p` nanoseconds. -/
def nextPhase (t p o : Nat) : Nat := t + ((o + p) - t % p) % p

/-- AGE_VISIT: the sweep of a pipeline visits a bucket (R356). -/
def execAgeVisit (p bucket : Nat) (s : State) : Host.Outcome State Fault Refusal :=
  if p ≤ 1 ∧ bucket < 65536 then
    let len := max 1 (cfg s Addr.LKP_CFG 11 0) * 1000000000
    let s1 := advTo (nextPhase (now s) len ((bucket * len / 65536 + p * (len / 2)) % len)) s
    if !pipeOk s1 p then .next s1
    else
      let q := pipe s1 p
      let live := ageBank bucket q.live
      let n := q.live.length - live.length
      let s2 := modPipe p (fun x => { x with live := live, shadow := ageBank bucket x.shadow }) s1
      .next (if n = 0 then s2 else bumpF (Addr.LKP_CNT + 8) 31 0 n s2)
  else .next s

/-! Static entries (R360, R361). -/

/-- The key of a static entry in its list: VID, then MAC address. -/
def staticKey (vid mac : Nat) : Nat := vid * 2 ^ 48 + mac

/-- A static entry placed in a bank: it takes the place of a learned entry of its key (R354). -/
def staticPlace (vid mac port : Nat) (m : KMap EmEnt) : Option (KMap EmEnt × Nat) :=
  let e : EmEnt := ⟨false, true, false, false, vid, mac, port, 0⟩
  if (emFind m false vid mac).isSome then some (emMod (fun _ => e) false vid mac m, 0) else bankPlace emBuckets e m

/-- A static entry staged in the SHADOW banks (R361). -/
def staticAdd (vid mac port : Nat) (s : State) : State × Nat :=
  if (kfind s.lkp.stagedStatics (staticKey vid mac)).isSome then (s, stConflict)
  else if 4096 ≤ s.lkp.stagedStatics.length then (s, stFull)
  else
    match staticPlace vid mac port (pipe s 0).shadow, staticPlace vid mac port (pipe s 1).shadow with
    | some a, some b =>
      let s1 := modPipe 1 (fun x => { x with shadow := b.1, walkReloc := x.walkReloc + b.2 })
        (modPipe 0 (fun x => { x with shadow := a.1, walkReloc := x.walkReloc + a.2 }) s)
      (countReloc (a.2 + b.2) (s1.updLkp fun l => { l with stagedStatics := kins l.stagedStatics (staticKey vid mac) port }), stOk)
    | _, _ => (s, stFull)

/-- The deletion of a static entry staged (R361). -/
def staticDel (vid mac : Nat) (s : State) : State × Nat :=
  if (kfind s.lkp.stagedStatics (staticKey vid mac)).isNone then (s, stEmpty)
  else
    let f (x : Pipe) := { x with shadow := x.shadow.filter (fun e => !(e.2.static && e.2.has false vid mac)) }
    ((modPipe 1 f (modPipe 0 f s)).updLkp fun l => { l with stagedStatics := kdel l.stagedStatics (staticKey vid mac) }, stOk)

/-! IPv6 rules (R364). -/

/-- The rule table as staged. -/
structure RuleTab where
  recs : KMap RuleRec
  bank : KMap LpmKey
  moves : Nat
  deriving DecidableEq, Repr

/-- The stored prefix of a rule. -/
def ruleKey (r : RuleRec) : LpmKey := ⟨1, r.len, r.pfx⟩

/-- A rule record checked against a table and applied to it (R364). -/
def ruleApply (r : RuleRec) (t : RuleTab) : RuleTab × Nat :=
  let b := match kfind t.recs r.index with
    | some o => if r.op = 1 ∧ ruleKey o = ruleKey r then t.bank else lpmDrop (ruleKey o) t.bank
    | none => t.bank
  if r.op = 2 then ({ t with recs := kdel t.recs r.index, bank := b }, stOk)
  else
    let st := firstErr stOk
      [(r.op != 1, stField), (decide (65535 < r.index), stField), (decide (128 < r.len), stField),
       (decide (r.pfx % 2 ^ (128 - r.len) ≠ 0), stField), (decide (2 < r.action ∨ 3 < r.ports ∨ r.zero ≠ 0), stField),
       (t.recs.any (fun e => e.1 != r.index && ruleKey e.2 == ruleKey r), stConflict)]
    if st ≠ stOk then (t, st)
    else match lpmPlace (ruleKey r) b with
      | some x => (⟨kins t.recs r.index r, x.1, t.moves + x.2⟩, stOk)
      | none => (t, stFull)

/-- The records of a message in order (R364, 06_zones R171). -/
def ruleFold : Nat → List RuleRec → RuleTab → RuleTab × Option (Nat × Nat)
  | _, [], t => (t, none)
  | i, r :: l, t =>
    let x := ruleApply r t
    if x.2 = stOk then ruleFold (i + 1) l x.1 else (t, some (i, x.2))

/-- The staged rule table. -/
def ruleTab (s : State) : RuleTab := ⟨s.lkp.stagedRules, s.lkp.ruleShadow, 0⟩

/-- The staged rule table written back. -/
def setRuleTab (t : RuleTab) (s : State) : State :=
  countReloc (2 * t.moves) (s.updLkp fun l => { l with stagedRules := t.recs, ruleShadow := t.bank })

/-- A rule message at its position (R364). -/
def ruleHandler (rs : List RuleRec) : Handler := fun _ s =>
  match ruleFold 0 rs (ruleTab s) with
  | (t, none) => (setRuleTab t s, some (stOk, indexBody 0xFFFF))
  | (_, some (i, st)) => (s, some (st, indexBody i))

/-- RULE: a GMP rule message (R364). -/
def execRule (h : GmpHdr) (rs : List RuleRec) (s : State) : Host.Outcome State Fault Refusal :=
  .next (gmpRequest h (.rule rs) rs.isEmpty true (needs 1) (ruleHandler rs) s)

/-- The bytes of a number in reverse order: register words hold byte 0 of a wire field in bits 7:0. -/
def swapBytes (n v : Nat) : Nat := ofLe (be n v)

/-- The rule that the data registers spell (R366). -/
def ruleOfRegs (s : State) (op : Nat) : RuleRec :=
  let a := Addr.LKP_RULE_ATTR
  let w (m : Nat) := swapBytes 4 (cfg s (Addr.LKP_RULE_PFX + 4 * m) 31 0)
  ⟨op, cfg s a 7 0, cfg s Addr.LKP_RULE_IDX 15 0, w 0 * 2 ^ 96 + w 1 * 2 ^ 64 + w 2 * 2 ^ 32 + w 3, cfg s a 9 8,
   cfg s a 11 10, 0⟩

/-- LAST_STATUS of LKP_RULE_STATUS. -/
def ruleNote (st : Nat) (s : State) : State := s.updLkp fun l => { l with ruleStatus := st }

/-- WRITE or DELETE of LKP_RULE_CTRL (R366). -/
def ruleStage (op : Nat) (s : State) : State × Nat :=
  let x := ruleApply (ruleOfRegs s op) (ruleTab s)
  (ruleNote x.2 (setRuleTab x.1 s), x.2)

/-- READ of LKP_RULE_CTRL (R366). -/
def ruleRead (s : State) : State × Nat :=
  let r := kfind s.lkp.stagedRules (cfg s Addr.LKP_RULE_IDX 15 0)
  let v := r.getD ⟨0, 0, 0, 0, 0, 0, 0⟩
  let s1 := (List.range 4).foldl (fun t m =>
    setForce (rkey (Addr.LKP_RULE_PFX + 4 * m)) (wordOf (swapBytes 4 (v.pfx / 2 ^ (32 * (3 - m)) % 2 ^ 32))) t) s
  let s2 := setForce (rkey Addr.LKP_RULE_ATTR) (wordOf (pack [(v.len, 0), (v.action, 8), (v.ports, 10)])) s1
  let st := if r.isSome then stOk else stEmpty
  (ruleNote st (s2.updLkp fun l => { l with rulePresent := r.isSome }), st)

/-- A write of LKP_RULE_CTRL (R366). -/
def ruleCtrlWord (v : Word) (s : State) : State × Nat :=
  if bit v 0 && bit v 1 then (ruleNote stField s, stField)
  else
    let x := if bit v 0 then ruleStage 1 s else if bit v 1 then ruleStage 2 s else (s, stOk)
    if isErr x.2 || !bit v 2 then x else ruleRead x.1

/-- RULE_WRITE: a write of 1 to WRITE in LKP_RULE_CTRL (R364, R366). -/
def execRuleWrite (h : GmpHdr) (s : State) : Host.Outcome State Fault Refusal :=
  .next (gmpWord h Addr.LKP_RULE_CTRL 1#32 1 (ruleCtrlWord 1#32) s)

/-- RULE_DELETE: a write of 1 to DELETE in LKP_RULE_CTRL (R366). -/
def execRuleDelete (h : GmpHdr) (s : State) : Host.Outcome State Fault Refusal :=
  .next (gmpWord h Addr.LKP_RULE_CTRL 2#32 1 (ruleCtrlWord 2#32) s)

/-- RULE_READ: a write of 1 to READ in LKP_RULE_CTRL (R366). -/
def execRuleRead (h : GmpHdr) (s : State) : Host.Outcome State Fault Refusal :=
  .next (gmpWord h Addr.LKP_RULE_CTRL 4#32 1 (ruleCtrlWord 4#32) s)

/-- The governing rule of an address (R359, R364). -/
def governRule (rs : KMap RuleRec) (addr : Nat) : Option RuleRec :=
  (rs.filter (fun e => addr / 2 ^ (128 - e.2.len) == e.2.pfx / 2 ^ (128 - e.2.len))).foldl (fun (b : Option RuleRec) e =>
    match b with
    | some x => if x.len < e.2.len then some e.2 else b
    | none => some e.2) none

/-- The port of an UPLINK rule, none where the chosen link is down (R364). -/
def uplinkPort (s : State) (r : RuleRec) : Option Nat :=
  let p := r.ports % 2
  let isUp (i : Nat) := s.gmp.link.getD i false
  if isUp p then some p else if r.ports.testBit 1 && isUp (1 - p) then some (1 - p) else none

/-- The port on which a datagram that is no response leaves for a session (R364). -/
def notifyPort (s : State) (x : Session) : Option Nat :=
  match x.peer.bind (governRule s.lkp.rules) with
  | none => some x.port
  | some r => if r.action = 0 then some x.port else if r.action = 1 then uplinkPort s r else none

/-! Commits (R360). -/

/-- Both pipelines swap LIVE and SHADOW at a COMMIT entry with OK, and the catch-up copies the new LIVE bank into
the new SHADOW bank (R360). A swap that meets a catch-up shows in BANK when that has ended. -/
def lkpSwap (s : State) : State :=
  let turn := !s.lkp.catchup
  (zoneCommit s).updLkp fun l =>
    { l with pipes := l.pipes.map (fun q => { q with live := q.shadow, bank := if turn then 1 - q.bank else q.bank }),
             statics := l.stagedStatics, rules := l.stagedRules, ruleLive := l.ruleShadow,
             swapDue := !turn, catchup := true }

/-- A DISCARD copies LIVE into SHADOW (R360; 02_journal R58). -/
def lkpDiscard (s : State) : State :=
  (zoneDiscard s).updLkp fun l =>
    { l with pipes := l.pipes.map (fun q => { q with shadow := q.live }), stagedStatics := l.statics,
             stagedRules := l.rules, ruleShadow := l.ruleLive }

/-- CATCHUP_END: the catch-up ends, and a swap that waits for it follows with its own (R360). -/
def execCatchupEnd (s : State) : Host.Outcome State Fault Refusal :=
  if !s.lkp.catchup then .next s
  else if s.lkp.swapDue then
    .next (s.updLkp fun l => { l with pipes := l.pipes.map (fun q => { q with bank := 1 - q.bank }), swapDue := false })
  else .next (s.updLkp fun l => { l with catchup := false })

/-- TABLE_REBUILD: an entry of the zone table (0) or of the rule table fails its check in both pipelines, and the
table is rebuilt from its source (R350). -/
def execTableRebuild (table : Nat) (s : State) : Host.Outcome State Fault Refusal :=
  let s1 := lkpCnt 8 s
  if table = 0 then
    .next (s1.updLkp fun l => { l with
      zoneLive := lpmBuild (s1.scr.cov.zones.map (fun e => e.2.key)) [],
      zoneShadow := lpmBuild (s1.scr.staged.map (fun e => e.2.key)) [] })
  else
    .next (s1.updLkp fun l => { l with
      ruleLive := lpmBuild (l.rules.map (fun e => ruleKey e.2)) [],
      ruleShadow := lpmBuild (l.stagedRules.map (fun e => ruleKey e.2)) [] })

/-! Commands (R361, R362). -/

/-- The 16 bytes of an entry as one little-endian number (R351). -/
def emBits (e : EmEnt) : Nat :=
  let body (hit aged : Bool) := pack [(if e.node then 2 else 1, 0), (b2n e.static, 2), (b2n hit, 3), (b2n aged, 4), (e.vid, 8),
    (if e.node then e.addr else swapBytes 6 e.addr, 32), (e.port, 80), (e.via, 96)]
  body e.hit e.aged + crc32c (le 14 (body false false)) % 2 ^ 16 * 2 ^ 112

/-- LKP_RES0 to LKP_RES3 loaded with an entry. -/
def setRes (e : EmEnt) (s : State) : State :=
  s.updLkp fun l => { l with res := (List.range 4).map (fun m => wordOf (emBits e / 2 ^ (32 * m))) }

/-- The key that LKP_KEY0 to LKP_KEY2 spell for a kind (R366): VID and address. -/
def keyRegs (s : State) (node : Bool) : Nat × Nat :=
  if node then (0, cfg s Addr.LKP_KEY0 31 16)
  else (cfg s Addr.LKP_KEY0 11 0, swapBytes 6 (cfg s Addr.LKP_KEY1 31 0 + 2 ^ 32 * cfg s Addr.LKP_KEY2 15 0))

/-- SEARCH (R361). -/
def cmdSearch (p : Nat) (node : Bool) (s : State) : State × Nat :=
  let k := keyRegs s node
  let x := pipeLookup (servedBy s p) node k.1 k.2 s
  match x.2 with
  | some e => (setRes e x.1, stOk)
  | none => (x.1, stEmpty)

/-- NEXT (R361, R362). -/
def cmdNext (p : Nat) (s : State) : State × Nat :=
  let q := servedBy s p
  let c := selVal s Addr.LKP_CURSOR
  let start := c % 2 ^ 16 * 4 + c / 2 ^ 16
  let s0 := s.updLkp fun l => { l with lastPipe := q, walkEnd := false }
  let s1 := if start = 0 ∧ !s.lkp.walkEnd then modPipe q (fun x => { x with walkReloc := 0 }) s0 else s0
  let setCur (n : Nat) (t : State) := setForce (rkey Addr.LKP_CURSOR) (wordOf (n / 4 % 2 ^ 16 + n % 4 * 2 ^ 16)) t
  match if s.lkp.walkEnd then none else (pipe s q).live.find? (fun e => decide (start ≤ e.1)) with
  | some (i, e) => (setCur (i + 1) ((setRes e s1).updLkp fun l => { l with walkEnd := decide (i + 1 = 262144) }), stOk)
  | none => (setCur 0 s1, stEmpty)

/-- Learned entries of a kind and a port deleted from both banks of both pipelines (R361, R365); the flag says
that one was. -/
def flushPort (node : Bool) (port : Nat) (s : State) : State × Bool :=
  let f (e : EmEnt) := e.node == node && e.port == port && !e.static
  let any := (List.range 2).any (fun p => ((pipe s p).live ++ (pipe s p).shadow).any (fun e => f e.2))
  (pipeDrop 1 f (pipeDrop 0 f s), any)

/-- A write of LKP_CMD (R361): admitted as a job of class 17 (11_scheduler R310). -/
def lkpCmdWord (w : Word) (s : State) : State × Nat :=
  let op := fld w 3 0
  let p := fld w 4 4
  let kind := fld w 6 5
  let port := fld w 9 7
  let node := kind == 2
  let bad := !within 1 5 op || !within 1 2 kind || decide ((if node then 3 else 2) < port) || (decide (4 ≤ op) && node)
  let r : State × Nat :=
    if bad then (s, stField)
    else
      let a := admitTo 17 s
      if !a.2 then (a.1, stBusy)
      else
        let s1 := bumpW Addr.SCHED_CLASS_SEL 17 Addr.SCHED_CLASS_CNT_JOBS a.1
        if op = 1 then cmdSearch p node s1
        else if op = 2 then cmdNext p s1
        else if op = 3 then let x := flushPort node port s1; (x.1, if x.2 then stOk else stEmpty)
        else
          let k := keyRegs s1 false
          if op = 4 then staticAdd k.1 k.2 port s1 else staticDel k.1 k.2 s1
  (r.1.updLkp fun l => { l with cmdStatus := r.2 }, r.2)

/-- The word of a command (R366). -/
def lkpCmd (op pipe kind port : Nat) : Word := wordOf (pack [(op, 0), (pipe % 2, 4), (kind % 4, 5), (port % 8, 7)])

/-- A command of LKP_CMD by GMP. -/
def lkpSend (h : GmpHdr) (op pipe kind port : Nat) (s : State) : State :=
  gmpWord h Addr.LKP_CMD (lkpCmd op pipe kind port) 1 (lkpCmdWord (lkpCmd op pipe kind port)) s

/-- SEARCH: LKP_CMD OP 1 (R361). -/
def execSearch (h : GmpHdr) (pipe kind port : Nat) (s : State) : Host.Outcome State Fault Refusal :=
  .next (lkpSend h 1 pipe kind port s)

/-- NEXT: LKP_CMD OP 2 (R362). -/
def execNextEntry (h : GmpHdr) (pipe kind port : Nat) (s : State) : Host.Outcome State Fault Refusal :=
  .next (lkpSend h 2 pipe kind port s)

/-- FLUSH_PORT: LKP_CMD OP 3 (R361). -/
def execFlushPort (h : GmpHdr) (pipe kind port : Nat) (s : State) : Host.Outcome State Fault Refusal :=
  .next (lkpSend h 3 pipe kind port s)

/-- STATIC_ADD: LKP_CMD OP 4 (R361). -/
def execStaticAdd (h : GmpHdr) (pipe kind port : Nat) (s : State) : Host.Outcome State Fault Refusal :=
  .next (lkpSend h 4 pipe kind port s)

/-- STATIC_DEL: LKP_CMD OP 5 (R361). -/
def execStaticDel (h : GmpHdr) (pipe kind port : Nat) (s : State) : Host.Outcome State Fault Refusal :=
  .next (lkpSend h 5 pipe kind port s)

/-! The bridge (R363 to R365; 17_host R427, R428). -/

/-- The device's own MAC address (17_host R448). -/
def ownMac (s : State) : Nat := swapBytes 6 (cfg s Addr.NET_MAC_LO 31 0 + 2 ^ 32 * cfg s Addr.NET_MAC_HI 15 0)

/-- The VLAN table entry of a VID (R366). -/
def vlanOf (s : State) (vid : Nat) : Option Word :=
  ((List.range 16).map (fun v => forceW s (rkey (Addr.LKP_VLAN + 4 * v)))).find? (fun w => bit w 12 && fld w 11 0 == vid)

/-- A frame leaves on a host port (R363), untagged where the VLAN's UNTAG bit says so; a link that is down carries
nothing. -/
def egress (vlan : Word) (f : EthFrame) (p : Nat) (s : State) : State :=
  if s.gmp.link.getD p false then
    emit (.eth p f.dst f.src (if bit vlan (16 + p) then none else some (fld vlan 11 0)) f.etype) s
  else s

/-- The reassembly of a fragment for the endpoint (17_host R428). -/
def fragIn (g : FragIn) (s : State) : State :=
  let known := s.gmp.frags.any (fun e => e.1 == g.id)
  let drop := s.updGmp fun m => { m with frags := m.frags.filter (fun e => e.1 != g.id) }
  if 4200 < g.bytes then bump (Addr.NET_CNT + 32) drop
  else if g.whole then drop
  else if known then s
  else if 16 ≤ s.gmp.frags.length then bump (Addr.NET_CNT + 32) s
  else
    let t := s.time.op
    s.updGmp fun m => { m with frags := m.frags ++ [(g.id, t)] }

/-- A frame delivered to LOCAL: requests for its addresses are answered, fragments collected (17_host R428). The
messages it may carry for GMP and PTP are commands of their own. -/
def toLocal (f : EthFrame) (s : State) : State :=
  let v4 := f.etype == 0x0806 || f.etype == 0x0800
  if f.etype = 0x88F7 ∧ f.dst = 0x0180C200000E then bump Addr.TIME_CNT_PTP_DROP s
  else if v4 && cfg s Addr.NET_IP4 31 0 == 0 then s
  else
    let s1 := match f.frag with
      | some g => fragIn g s
      | none => s
    if f.ask then emit (.eth f.port f.src (ownMac s1) f.tag f.etype) s1 else s1

/-- Step 3 of R363: the source is learned in both pipelines (R354); the flag says that the frame is dropped. -/
def bridgeLearn (vid : Nat) (f : EthFrame) (s : State) : State × Bool :=
  if f.src.testBit 40 then (s, true)
  else if !cfgB s Addr.LKP_CFG 12 then (s, false)
  else
    let e : EmEnt := ⟨false, false, true, false, vid, f.src, f.port, 0⟩
    let one (p : Nat) (bad : Bool) (t : State) : State × Bool :=
      if !pipeOk t p then (t, false)
      else
        let x := pipeLearn p e (if bad then pipeCheckFail p false vid f.src t else t)
        (x.1, x.2 == .violation)
    let a := one 0 f.badSrc0 s
    let b := one 1 f.badSrc1 a.1
    (b.1, if servedBy s f.port = 0 then a.2 else b.2)

/-- A destination for LOCAL (R363 step 4). -/
def isLocalMac (s : State) (vid dst : Nat) : Bool :=
  dst == ownMac s || kfind s.lkp.statics (staticKey vid dst) == some 2

/-- A frame sent to every member port of its VID but the one it came in on. -/
def toMembers (vlan : Word) (f : EthFrame) (local_ : Bool) (s : State) : State :=
  let s1 := (List.range 2).foldl (fun t p => if p ≠ f.port ∧ bit vlan (13 + p) then egress vlan f p t else t) s
  if local_ && bit vlan 15 then toLocal f s1 else s1

/-- Steps 6 to 8 of R363. -/
def bridgeDeliver (vid : Nat) (vlan : Word) (f : EthFrame) (s : State) : State :=
  if f.dst.testBit 40 then toMembers vlan f true s
  else
    let p := servedBy s f.port
    let x := pipeLookup p false vid f.dst (if f.badDst then pipeCheckFail p false vid f.dst s else s)
    match x.2 with
    | some e => if e.port = f.port then x.1 else if e.port = 2 then toLocal f x.1 else egress vlan f e.port x.1
    | none => toMembers vlan f false (lkpCnt 4 x.1)

/-- Step 5 of R363 under R364, and what follows it. -/
def bridgeRules (vid : Nat) (vlan : Word) (f : EthFrame) (s : State) : State :=
  match (if f.etype = 0x86DD ∧ cfgB s (Addr.LKP_PORT_CFG + 4 * f.port) 12 then f.ip6 else none) with
  | none => bridgeDeliver vid vlan f s
  | some a =>
    let s1 := if f.badRule then lkpCnt 8 s else s
    match governRule s1.lkp.rules a with
    | none => bridgeDeliver vid vlan f s1
    | some r =>
      if r.action = 0 then bridgeDeliver vid vlan f s1
      else if r.action = 2 then lkpCnt 7 s1
      else match uplinkPort s1 r with
        | some p => if p = f.port then lkpCnt 7 s1 else egress vlan f p s1
        | none => lkpCnt 7 s1

/-- A reserved group address of step 2 of R363. -/
def isReservedMac (a : Nat) : Bool := within 0x0180C2000000 0x0180C200000F a || a == 0x011B19000000

/-- The handling of a received frame (R363). -/
def bridge (f : EthFrame) (s : State) : State :=
  let vid := match f.tag with
    | some 0 => cfg s (Addr.LKP_PORT_CFG + 4 * f.port) 11 0
    | some v => v
    | none => cfg s (Addr.LKP_PORT_CFG + 4 * f.port) 11 0
  match vlanOf s vid with
  | none => lkpCnt 6 s
  | some vlan =>
    if !bit vlan (13 + f.port) then lkpCnt 6 s
    else if 1522 < f.len then s
    else if isReservedMac f.dst then if f.etype = 0x88F7 then toLocal f s else s
    else
      let x := bridgeLearn vid f s
      if x.2 then x.1
      else if isLocalMac x.1 vid f.dst then toLocal f x.1
      else if cfgB x.1 Addr.LKP_CFG 13 && holdsToken x.1 then bridgeRules vid vlan f x.1
      else x.1

/-- ETH_FRAME: a frame received on ETH0 or ETH1 (R363). -/
def execEthFrame (f : EthFrame) (s : State) : Host.Outcome State Fault Refusal :=
  if f.port ≤ 1 ∧ s.gmp.link.getD f.port false ∧ engUsable s (0x38 + f.port) then .next (bridge f s) else .next s

/-- ETH_LINK_CHANGE: a host port's link goes up, with its speed code, or down (R365; 17_host R448). -/
def execEthLinkChange (p : Nat) (isUp : Bool) (speed : Nat) (s : State) : Host.Outcome State Fault Refusal :=
  if p ≤ 1 ∧ cfg s (Addr.NET_PORT_CFG + 4 * p) 1 0 ≠ 0 then
    let was := s.gmp.link.getD p false
    let s1 := s.updGmp fun g => { g with link := lset g.link p isUp, speed := lset g.speed p (if isUp then speed % 4 else 0) }
    if was && !isUp then .next (flushPort false p (alarm (Addr.NET_PORT_STATUS + 4 * p) 4 s1)).1 else .next s1
  else .next s

end Sys2Proof.Machine
end

