-- ==== Sys2Proof/Machine/Mac.lean ====
section
/-!
DEFINITION. The radio ports (09_radio_ports): plans and listings, discovery and departure, and the transactions
with the heads.
-/

namespace Sys2Proof.Machine

open Sys2Proof

/-! Ports and plans. -/

/-- A port changed. -/
def modPort (k : Nat) (f : Port → Port) (s : State) : State :=
  s.updMac fun m => { m with ports := lmod m.ports k f }

/-- The address of counter i of a port (R267). -/
def portCnt (k i : Nat) : Nat := Addr.MAC_P_CNT + 0x100 * k + 4 * i

/-- The newest plan of a port: the next one where one is pending (R285). -/
def newestPlan (s : State) (k : Nat) : SlotPlan := if (port s k).sw.isSome then planOf s k else (port s k).air

/-- TABLE_GEN after a generation (R260). -/
def nextGen (g : Nat) : Nat := if g = 0xFFFF then 1 else g + 1

/-- The largest PSDU of a rate code (R251). -/
def psduLimit (bw20 : Bool) (rate : Nat) : Nat :=
  if bw20 then [312, 627, 1257].getD rate 0 else [297, 597, 1197].getD rate 0

/-- The airtime of a frame in nanoseconds (R252). -/
def airtime (bw20 : Bool) (rate len : Nat) : Nat :=
  let n := (if bw20 then [24, 48, 96] else [48, 96, 192]).getD rate 24
  let sym := (22 + 8 * len + n - 1) / n
  if bw20 then 20000 + 4000 * sym else 40000 + 8000 * sym

/-- BW of a port. -/
def bw20 (s : State) (k : Nat) : Bool := portCfg s k 1 1 == 1

/-! Listings and wake slots (10_radio_frames R285, R294, R299). -/

/-- The kind code of an entry in a node's SCHED listing (10_radio_frames R284, R285, R299). -/
def listKind (s : State) (a : Nat) (w : Word) : Option Nat :=
  let k := entKind w
  let o := entOwner w
  if k = 2 then
    if o = a then some 0
    else if isMachine s.part a && (relayOf s o == some a || relayOf s a == some o) then some 6 else none
  else if k = 3 then if o = a then some 1 else if o = addrAll then some 2 else none
  else if k = 4 then some 3
  else if k = 5 then some 4
  else if k = 6 then if isPendant a && (o == a || o == addrAll) then some 5 else none
  else none

/-- The listing of a node in a plan: entry index and kind code (10_radio_frames R285). -/
def listing (s : State) (p : SlotPlan) (a : Nat) : List (Nat × Nat) :=
  (p.slots.zipIdx.filterMap fun x => (listKind s a x.1).map (fun c => (x.2, c)))

/-- The wake slot of an address in a plan whose CYCLE divides its period (10_radio_frames R294). -/
def wakeSlot (p : SlotPlan) (a : Nat) : Option Nat :=
  let n := if isPendant a then a - 0x101 else a - 1
  let row := (List.range 40).map fun i => (i, p.entry n i)
  let find (kind owner : Nat) : Option Nat :=
    (row.find? (fun x => entKind x.2 == kind && entOwner x.2 == owner)).map (fun x => x.1)
  if isPendant a then (find 6 a).orElse (fun _ => find 6 addrAll) else find 2 a

/-- The body of a SCHED item for a node (10_radio_frames R284): the newest plan of its home port. -/
def schedBody (s : State) (a : Nat) : List Nat :=
  let n := node s a
  let p := port s n.home
  let pl := newestPlan s n.home
  let l := listing s pl a
  let ws := if n.period = 0 then 0xFF else (wakeSlot pl a).getD 0xFF
  be 2 (if p.sw.isSome then nextGen p.gen else p.gen) ++ be 6 (p.sw.getD 0) ++ [pl.cycle, ws, l.length, 0] ++
    l.flatMap (fun x => be 2 (x.1 + x.2 * 2 ^ 13))

/-- A SCHED item queued for a node (10_radio_frames R285). -/
def queueSched (a : Nat) (s : State) : State := queueAck a 4 0 (schedBody s a) s

/-- Addresses that have a home port, rising. -/
def homed (s : State) : List Nat := (s.memb.nodes.filter (fun e => e.2.st != .free)).map (fun e => e.1)

/-! Discovery and departure (R265). -/

/-- A port enters DISCOVER: the head is reset and its identity asked for. CMD 0 stands for the reset pulse. -/
def portDiscover (k : Nat) (s : State) : State :=
  let t := s.time.op
  emit (.head k 1 []) (emit (.head k 0 []) (modPort k (fun p =>
    { p with st := .discover, since := t, upFrom := none, failed := none, irq := false, stampSeq := 0, stamps := [],
             lastTaken := none, tx := none }) s))

/-- A port leaves for DOWN or OFF; the stop requests that wait at it go (R254). Leaving UP is recorded, and the
NODE entries of the port are flushed (13_tables R365). -/
def portLeave (k : Nat) (st : PortSt) (reason : Nat) (s : State) : State :=
  let was := (port s k).st
  let t := s.time.op
  let s1 := modPort k (fun p => { p with st := st, reason := reason, since := t, upFrom := none, failed := none, tx := none }) s
  let s2 := s1.updSafe fun b => { b with ports := kset StopReq.none b.ports k StopReq.none }
  if was = .up then evTrig 0x22 [k, reason, (port s2 k).faultCode] (eligWatch s (flushPort true k s2).1) else s2

/-- A port to DOWN with a reason (R265). -/
def portDown (k reason : Nat) (s : State) : State := portLeave k .down reason s

/-- EN in force taken up or ended (R265). -/
def portEnable (k : Nat) (s : State) : State :=
  let on := portEn s k
  if on ∧ (port s k).st = .off then eligWatch s (portDiscover k s)
  else if !on ∧ (port s k).st ≠ .off then portLeave k .off 0 s
  else s

/-- The first plans come into force at boot, and the enabled ports start discovery (R260, 18_boot R454 step 8). -/
def portsStart (s : State) : State :=
  (List.range (portCount s.part)).foldl (fun t k =>
    portEnable k (modPort k (fun p => { p with air := planOf s k, gen := 1, sw := none }) t)) s

/-- Ports whose identity covers their plan are UP from the next superframe boundary on (R265). -/
def portsRise (s : State) : State :=
  let sf := sfOf (now s)
  let t := s.time.op
  s.updMac fun m => { m with ports := m.ports.map (fun p =>
    match p.st, p.upFrom with
    | .discover, some u => if u ≤ sf then { p with st := .up, since := t, upFrom := none } else p
    | _, _ => p) }

/-- The rate codes that a plan sends at, as a mask: beacons and stops, corrections, downlinks (R261, R265). -/
def ratesUsed (p : SlotPlan) : Nat :=
  let d := p.slots.foldl (fun m w => if entKind w = 3 then setBitN m (entRate w) true else m) (2 ^ p.brate)
  if p.slots.any (fun w => entKind w == 4) then setBitN d p.crate true else d

/-- RATE_CAP of the identity last read. -/
def rateCap (p : Port) : Nat := p.ident.getD 17 0

/-- D_TX and D_RX of the identity last read, in nanoseconds. -/
def headDtx (p : Port) : Nat := ofBe ((p.ident.drop 20).take 2)
/-- D_RX of the identity last read. -/
def headDrx (p : Port) : Nat := ofBe ((p.ident.drop 22).take 2)

/-- The 32 bytes of an identity record (R248). -/
def idBytes (h : HeadId) : List Nat :=
  be 2 h.format ++ be 2 h.maker ++ be 2 h.model ++ be 2 h.hwRev ++ be 4 h.fwVer ++ be 2 h.fMin ++ be 2 h.fMax ++
  [h.bwCap % 256, h.rateCap % 256, unsgn 8 h.pMin, unsgn 8 h.pMax] ++ be 2 h.dTx ++ be 2 h.dRx ++
  [h.rxBuf % 256, 0, 0, 0] ++ be 4 h.serial

/-- The identity covers the plan (R265). -/
def idCovers (s : State) (k : Nat) (h : HeadId) : Bool :=
  let c := portCfg s k 28 16
  let pw := sgn 8 (portCfg s k 15 8)
  within h.fMin h.fMax c && h.bwCap.testBit (portCfg s k 1 1) &&
  (ratesUsed (newestPlan s k) &&& h.rateCap) == ratesUsed (newestPlan s k) &&
  withinI h.pMin h.pMax pw && decide (h.dTx ≤ 10000) && decide (h.dRx ≤ 20000) && decide (4 ≤ h.rxBuf)

/-! Transactions (R245, R246). -/

/-- An attempt at a transaction has failed (R246). -/
def respFails : HeadResp → Bool
  | .missing => true
  | .badCrc => true
  | .status st => st == stCheck

/-- A transaction's second failure (R246): BUS_ERR counts, the frame that waits for its load is dropped, and an
UP port goes DOWN with reason 4. -/
def busErr (k : Nat) (s : State) : State :=
  let s1 := bump (portCnt k 6) (modPort k (fun p => { p with failed := none }) s)
  let skip := match (port s1 k).tx with
    | some x => !x.loaded
    | none => false
  let s2 := if skip then bump (portCnt k 8) (modPort k (fun p => { p with tx := none }) s1) else s1
  if (port s2 k).st = .up then portDown k 4 s2 else s2

/-- One attempt at a transaction: its STATUS where it did not fail; a first failure is repeated, RX_READ as MODE 1
(R246). -/
def attempt (k cmd : Nat) (r : HeadResp) (s : State) : State × Option Nat :=
  if respFails r then
    if (port s k).failed = some cmd then (busErr k s, none)
    else (emit (.head k cmd (if cmd = 0x30 then [1] else [])) (modPort k (fun p => { p with failed := some cmd }) s), none)
  else
    let s1 := modPort k (fun p => { p with failed := none }) s
    match r with
    | .status st => (s1, some st)
    | _ => (s1, none)

/-- READ_ID: the identity of a head in DISCOVER (R247, R265). -/
def execReadId (k : Nat) (r : HeadResp) (h : HeadId) (s : State) : Host.Outcome State Fault Refusal :=
  if (port s k).st ≠ .discover then .next s
  else
    let x := attempt k 0x01 r s
    if x.2 ≠ some stOk then .next x.1
    else
      let s1 := modPort k (fun p => { p with ident := idBytes h }) x.1
      if h.format ≠ 1 then .next (portDown k 2 s1)
      else if !idCovers s1 k h then .next (portDown k 3 s1)
      else
        let u := sfOf (now s1) + 1
        let s2 := emit (.head k 0x10 [portCfg s1 k 28 16, portCfg s1 k 1 1]) (modPort k (fun p => { p with upFrom := some u }) s1)
        .next (emit (.head k 0x31 []) (emit (.head k 0x11 [portCfg s2 k 15 8]) s2))

/-- STATUS: read once per superframe from an UP port (R247, R265). -/
def execStatus (k : Nat) (r : HeadResp) (flags rxCount fault : Nat) (s : State) : Host.Outcome State Fault Refusal :=
  if (port s k).st ≠ .up then .next s
  else
    let x := attempt k 0x02 r s
    if x.2 ≠ some stOk then .next x.1
    else
      let s1 := modPort k (fun p => { p with irq := flags.testBit 0 && decide (0 < rxCount) }) x.1
      if flags.testBit 3 || !flags.testBit 2 then .next (portDown k 5 (modPort k (fun p => { p with faultCode := fault }) s1))
      else .next s1

/-- SET_CHANNEL (R247). -/
def execSetChannel (k : Nat) (r : HeadResp) (s : State) : Host.Outcome State Fault Refusal :=
  if (port s k).st = .off then .next s else .next (attempt k 0x10 r s).1

/-- SET_POWER (R247). -/
def execSetPower (k : Nat) (r : HeadResp) (s : State) : Host.Outcome State Fault Refusal :=
  if (port s k).st = .off then .next s else .next (attempt k 0x11 r s).1

/-- TX_LOAD: the chosen frame goes into the head's buffer; only one that completes with OK is triggered (R247,
R254). -/
def execTxLoad (k : Nat) (r : HeadResp) (s : State) : Host.Outcome State Fault Refusal :=
  if (port s k).tx.isNone then .next s
  else
    let x := attempt k 0x20 r s
    .next (match x.2 with
      | some st => modPort k (fun p => { p with tx := p.tx.map (fun t => { t with loaded := st == stOk }) }) x.1
      | none => x.1)

/-- TX_CANCEL: the head's buffer is emptied (R247). -/
def execTxCancel (k : Nat) (r : HeadResp) (s : State) : Host.Outcome State Fault Refusal :=
  if (port s k).st = .off then .next s
  else
    let x := attempt k 0x21 r s
    if x.2 = some stOk then .next (modPort k (fun p => { p with tx := none }) x.1) else .next x.1

/-- RX_FLUSH: every frame the head holds is discarded (R247). -/
def execRxFlush (k : Nat) (r : HeadResp) (s : State) : Host.Outcome State Fault Refusal :=
  if (port s k).st = .off then .next s
  else
    let x := attempt k 0x31 r s
    if x.2 = some stOk then .next (modPort k (fun p => { p with irq := false, lastTaken := none }) x.1) else .next x.1

/-- START_NIBBLE_TIMEOUT: the start nibble of a transaction is late, and the attempt has failed (R245, R246). -/
def execStartNibbleTimeout (k cmd : Nat) (s : State) : Host.Outcome State Fault Refusal :=
  if (port s k).st = .off then .next s else .next (attempt k cmd .missing s).1

/-- NO_HEAD_TIMEOUT: no OK response within 50 ms of entry to DISCOVER (R265). -/
def execNoHeadTimeout (k : Nat) (s : State) : Host.Outcome State Fault Refusal :=
  let p := port s k
  if p.st = .discover ∧ p.upFrom = none then .next (portDown k 1 (advOp (p.since + 50000000) s)) else .next s

/-- PORT_RETRY: RETRY has elapsed in DOWN (R265). -/
def execPortRetry (k : Nat) (s : State) : Host.Outcome State Fault Refusal :=
  let p := port s k
  if p.st = .down then .next (portDiscover k (advOp (p.since + cfg s Addr.MAC_CFG 13 8 * 1000000000) s)) else .next s

/-- A write of MAC_Pk_CTRL (R267). -/
def portCtrlWord (k : Nat) (w : Word) (s : State) : State × Nat :=
  if !bit w 0 then (s, stOk)
  else match (port s k).st with
    | .off => (s, stEmpty)
    | .up => (portDiscover k (portDown k 0 s), stOk)
    | _ => (portDiscover k s, stOk)

/-- RESET_HEAD: a write of 1 to RESET_HEAD in MAC_Pk_CTRL (R265, R267). -/
def execResetHead (h : GmpHdr) (k : Nat) (s : State) : Host.Outcome State Fault Refusal :=
  if k < portCount s.part then
    .next (gmpWord h (Addr.MAC_P_CTRL + 0x100 * k) 1#32 1 (portCtrlWord k 1#32) s)
  else .next (gmpWord h (Addr.MAC_P_CTRL + 0x100 * k) 1#32 1 (fun t => (t, if k < 4 then stOk else stField)) s)

/-! Commits and switches (R260, R261). -/

/-- SW of a plan committed at a superframe (R260). -/
def switchSf (sf lead cyc : Nat) : Nat := roundUp cyc (sf + lead)

/-- A port's plan after a COMMIT entry with OK, `old` being the state before it (R260): a changed plan waits for
its SW, and TX_POWER is sent to the head. -/
def portCommit (old : State) (sf k : Nat) (s : State) : State :=
  let new := planOf s k
  let s1 := if (port s k).sw.isNone ∧ new ≠ (port s k).air then
      modPort k (fun p => { p with sw := some (switchSf sf (cfg s Addr.MAC_CFG 7 0) (cycleLen new.cycle)) }) s
    else s
  let s2 := portEnable k s1
  if portCfg old k 15 8 ≠ portCfg s k 15 8 ∧ (port s2 k).st = .up then emit (.head k 0x11 [portCfg s k 15 8]) s2 else s2

/-- The radio side of a COMMIT entry with OK: plans, enables, and a SCHED item to every node whose listing has
changed (R260, 10_radio_frames R285). -/
def macCommit (old : State) (sf : Nat) (s : State) : State :=
  let s1 := (List.range (portCount s.part)).foldl (fun t k => portCommit old sf k t) s
  (homed s1).foldl (fun t a =>
    let h := (node t a).home
    if isAssoc t a && listing old (newestPlan old h) a != listing t (newestPlan t h) a then queueSched a t else t) s1

/-- The sleepers of a port take their WAKE_SLOT from the plan on air (10_radio_frames R294). -/
def wakeSlots (k : Nat) (s : State) : State :=
  s.updMemb fun m => { m with nodes := kmap Node.zero (fun a n =>
    if n.st ≠ .free ∧ n.home = k ∧ n.period ≠ 0 then { n with wslot := (wakeSlot (port s k).air a).getD n.wslot } else n) m.nodes }

/-- The switch of a port's plan at the SF_MARK of its SW (R260). -/
def planSwitch (k sf : Nat) (s : State) : State :=
  match (port s k).sw with
  | some w => if w ≤ sf then
      wakeSlots k (modPort k (fun p => { p with air := planOf s k, gen := nextGen p.gen, sw := none }) s)
    else s
  | none => s

/-- PLAN_SWITCH: the switch of a port's plan, which the SF_MARK of its SW takes (R260). -/
def execPlanSwitch (k : Nat) (s : State) : Host.Outcome State Fault Refusal := .next (planSwitch k s.jr.sf s)

end Sys2Proof.Machine
end

