-- ==== Sys2Proof/Machine/Down.lean ====
section
/-!
DEFINITION. The cut-off of a slot (09_radio_ports R259): the frame each port chooses, with the stop frame, the
beacon, the corrections, the frames for machines and pendants and the join answers (10_radio_frames R276 to R286).
-/

namespace Sys2Proof.Machine

open Sys2Proof

/-- A counter of membership (10_radio_frames R302): 0 HDR_BAD, 1 CCM_FAIL, 2 DUP, 3 SEQ_STALE, 4 JOIN_OK,
5 JOIN_REFUSED, 6 LEAVE, 7 TIMEOUT, 8 ADDR_FREED, 9 RELAY_IN, 10 RELAY_OUT, 11 ITEM_DROP, 12 WAKE_MISS. -/
def macCnt (i : Nat) (s : State) : State := bump (Addr.MAC_CNT + 4 * i) s

/-- The plan of a port in a superframe: from slot 0 of SW the next one (R260), with its generation. -/
def airPlan (s : State) (k sf : Nat) : SlotPlan × Nat :=
  let p := port s k
  match p.sw with
  | some w => if w ≤ sf then (planOf s k, nextGen p.gen) else (p.air, p.gen)
  | none => (p.air, p.gen)

/-- The port may send in a slot (R254; 10_radio_frames R271, R272; 16_pair R416). -/
def maySend (s : State) (k sf slot : Nat) : Bool :=
  (port s k).st == .up && onDuty s && radioRootOk s && engUsable s (0x30 + k) && decide (s.pair.txFrom ≤ sf) &&
  (match (port s k).sent with
    | some p => posLt p (sf, slot)
    | none => true)

/-! Stop frames and beacons (07_motion_safety R195 to R197). -/

/-- GLOBAL_STOP, the map and STOP_EPOCH of a beacon (R48, R196, R197). -/
def beaconSafe (s : State) : Bool × Nat × Nat :=
  let b := s.safe.snap
  let g := b.latch || s.safe.latch || s.safe.cLatch
  let cut := Nat.land b.permit s.safe.wdSince
  let early := (g && !b.latch) || cut != 0
  (g, if g then 0 else b.permit - cut, if early then (b.epoch + 1) % 65536 else b.epoch)

/-- The beacon of a port (10_radio_frames R279). -/
def beaconFrame (s : State) (k sf : Nat) : TxFrame :=
  let x := beaconSafe s
  let p := airPlan s k sf
  let sw := match (port s k).sw with
    | some w => if w ≤ sf then none else some w
    | none => none
  .beacon x.2.1 s.safe.firstCause x.1 (cfg s Addr.SAFE_LEASE 6 0) x.2.2
    (slotStart sf 0 + 20000 + headDtx (port s k)) (cfg s Addr.TIME_UTC 5 0) s.jr.digest p.2
    (if sw.isSome then nextGen p.2 else 0) (sw.getD 0) p.1.cycle

/-- A stop frame (10_radio_frames R280; R195, R197): the live map, against the covered state. -/
def stopFrame (s : State) : TxFrame :=
  let early := (s.safe.latch && !s.safe.cLatch) || Nat.land s.safe.cPermit s.safe.permit != s.safe.cPermit
  .stop (if s.safe.latch then 0 else s.safe.permit) s.safe.firstCause s.safe.latch
    (if early then (s.safe.epoch + 1) % 65536 else s.safe.epoch)

/-- What waits at a port once a frame has carried its stop (R195). -/
def stopTaken (s : State) (k : Nat) : State :=
  let n := cfg s Addr.SAFE_LEASE 10 8
  s.updSafe fun b => { b with ports := kmod StopReq.none b.ports k (fun r =>
    { want := false, glob := false, since := 0,
      repeats := if r.want && r.glob then max n (r.repeats - 1) else r.repeats - 1 }) }

/-- The stop request of a port. -/
def stopReq (s : State) (k : Nat) : StopReq := kget StopReq.none s.safe.ports k

/-! Corrections (03_fix_inputs R86, R87; 10_radio_frames R286). -/

/-- The message a port sends next: the first in the queue that it has not passed. -/
def corrNext (s : State) (k : Nat) : Option CorrMsg := s.fix.corr.queue.find? (fun m => decide ((port s k).corrId ≤ m.id))

/-- The bytes of one fragment at a rate. -/
def corrRoom (s : State) (k rate : Nat) : Nat := psduLimit (bw20 s k) rate - 26

/-- The ports that relay corrections: UP, with a CORR slot in their plan. -/
def corrPorts (s : State) : List Nat :=
  (List.range (portCount s.part)).filter (fun k => (port s k).st == .up && (port s k).air.slots.any (fun w => entKind w == 4))

/-- Messages that every relaying port has passed leave the queue. -/
def corrPrune (s : State) : State :=
  let l := corrPorts s
  let keep (m : CorrMsg) : Bool := l.isEmpty || l.any (fun k => decide ((port s k).corrId ≤ m.id))
  s.updFix fun f => { f with corr := { f.corr with queue := f.corr.queue.filter keep } }

/-- The next fragment for a CORR slot, and the port moved on. -/
def corrFrame (k rate : Nat) (s : State) : Option (TxFrame × State) :=
  match corrNext s k with
  | none => none
  | some m =>
    let room := corrRoom s k rate
    let total := m.msg.len + 6
    let n := (total + room - 1) / room
    let i := if (port s k).corrId = m.id then (port s k).corrFrag else 0
    let last := decide (n ≤ i + 1)
    some (.corr m.epochId (m.idx + 16 * m.n) (i + 16 * n) m.msg,
      corrPrune (modPort k (fun p => { p with corrId := if last then m.id + 1 else m.id, corrFrag := if last then 0 else i + 1 }) s))

/-! Frames for machines and pendants (10_radio_frames R276 to R285, R300). -/

/-- The ACK field for a node (R276). -/
def ackFor (n : Node) : AckField := if n.rxAny then ⟨n.rxLast, n.rxMap⟩ else ⟨0, 0⟩

/-- The body of a CMD item (R284; 08_control_loops R237). -/
def cmdBody (c : CmdItem) : List Nat :=
  be 6 c.epoch ++ be 2 (c.speed.getD 0x8000) ++ be 2 (c.curv.getD 0x8000) ++ [c.flags, 0]

/-- The place of an acknowledged item in the order of R283. -/
def ackRank (x : AckItem) : Nat × Nat := ([(7, 0), (4, 1), (6, 2), (5, 3)].lookup x.typ |>.getD 4, x.key)

/-- An item put before those that come after it in R283; equals keep their order. -/
def ackInsert (x : AckItem) : List AckItem → List AckItem
  | [] => [x]
  | y :: r =>
    let a := ackRank x
    let b := ackRank y
    if a.1 < b.1 ∨ (a.1 = b.1 ∧ a.2 < b.2) then x :: y :: r else y :: ackInsert x r

/-- The items of a node in the order of R283; the number names the source: 0 CMD, 1 FIX, 2 WARN, 3 an item that is
acknowledged. -/
def itemOrder (i : Items) : List (Nat × Nat × List Nat) :=
  (if i.cmd.due then [(0, 2, cmdBody i.cmd)] else []) ++ (i.fix.toList.map (fun b => (1, 1, b))) ++
  (i.warns.map (fun b => (2, 3, b))) ++ ((i.acks.foldl (fun l x => ackInsert x l) []).map (fun x => (3, x.typ, x.body)))

/-- The items that fit, up to the first that does not (R283). -/
def itemsFit : Nat → List (Nat × Nat × List Nat) → List (Nat × Nat × List Nat)
  | _, [] => []
  | room, x :: r => if x.2.2.length + 2 ≤ room then x :: itemsFit (room - x.2.2.length - 2) r else []

/-- What is left of a command once it has been placed: a loop that has ceased leaves no value (08_control_loops
R237). -/
def cmdPlaced (c : CmdItem) : CmdItem :=
  { c with due := false, speed := if c.speedEnd then none else c.speed, curv := if c.curvEnd then none else c.curv,
           speedEnd := false, curvEnd := false }

/-- The items left after a frame has carried some (R283, R285), queued again at the cut-off. -/
def itemsAfter (t seq : Nat) (sent : List (Nat × Nat × List Nat)) (i : Items) : Items :=
  let nw := (sent.filter (fun x => x.1 == 2)).length
  let acks := i.acks.map (fun x =>
    if sent.any (fun y => y.1 == 3 && y.2.1 == x.typ && y.2.2 == x.body) then { x with sends := x.sends + 1, seqs := x.seqs ++ [seq] } else x)
  let j : Items := { i with cmd := if sent.any (fun x => x.1 == 0) then cmdPlaced i.cmd else i.cmd,
                            fix := if sent.any (fun x => x.1 == 1) then none else i.fix,
                            warns := i.warns.drop nw, acks := acks, owed := none }
  { j with queued := if j.cmd.due || j.fix.isSome || !j.warns.isEmpty || !j.acks.isEmpty then some t else none }

/-- Items sent ITEM_RETRY times without acknowledgement are dropped and counted (R285). -/
def dropTired (a : Nat) (s : State) : State :=
  let n := cfg s Addr.MAC_MEMB_CFG0 27 24
  let tired := ((node s a).items.acks.filter (fun x => decide (n ≤ x.sends))).length
  if tired = 0 then s
  else bumpF (Addr.MAC_CNT + 44) 31 0 tired (modNode a (fun d =>
    let acks := d.items.acks.filter (fun x => !decide (n ≤ x.sends))
    let i := { d.items with acks := acks }
    { d with items := { i with queued := if i.cmd.due || i.fix.isSome || !i.warns.isEmpty || !acks.isEmpty then i.queued else none } }) s)

/-- The node receives its items in a superframe: a sleeper in its wake superframes (R294). -/
def awakeIn (n : Node) (sf : Nat) : Bool := n.period == 0 || sf % n.period == n.phase

/-- A node's frame of type DOWN or ACK of at most `room` bytes in a superframe, with the state after it (R276, R278,
R282, R283). -/
def devFrame (a sf room : Nat) (s : State) : DevFrame × Nat × State :=
  let n := node s a
  let l := if awakeIn n sf ∧ n.items.queued.isSome then itemsFit (room - 28) (itemOrder n.items) else []
  let t := now s
  let len := if l.isEmpty then 27 else 28 + (l.map (fun x => x.2.2.length + 2)).sum
  let f : DevFrame := { typ := if l.isEmpty then 5 else 4, ackReq := l.any (fun x => x.1 == 3), seq := n.txSeq, dst := a,
                        ack := ackFor n, items := l.map (fun x => x.2) }
  (f, len, modNode a (fun d =>
    let i := if l.isEmpty then { d.items with owed := none } else itemsAfter t n.txSeq l d.items
    { d with txSeq := (d.txSeq + 1) % 256, items := i }) s)

/-- The time since which a node's frame waits, where it is one for this cut-off: its pending frame, or an
acknowledgement that is owed (R259, R278). -/
def waitsSince (n : Node) (sf t : Nat) : Option Nat :=
  let q := if awakeIn n sf then n.items.queued else none
  match q, n.items.owed with
  | some a, some b => if min a b < t then some (min a b) else none
  | some a, none => if a < t then some a else none
  | none, some b => if b < t then some b else none
  | none, none => none

/-- The machines whose frames go through a relay and wait at this cut-off, rising. -/
def relayedBy (s : State) (r sf t : Nat) : List Nat :=
  (homed s).filter (fun a => viaRelay s a == some r && (waitsSince (node s a) sf t).isSome)

/-- Frames built for machines in order, each where `room` allows one (R272, R300). -/
def relayFill (sf : Nat) : List Nat → Nat → List DevFrame → State → List DevFrame × State
  | [], _, acc, s => (acc.reverse, s)
  | a :: r, room, acc, s =>
    if room < 29 then (acc.reverse, s)
    else
      let x := devFrame a sf (room - 2) s
      relayFill sf r (room - 2 - x.2.1) (x.1 :: acc) x.2.2

/-- The frame for a node in a slot of `limit` bytes (R300): plain, or a RELAY frame to `r` with the relay's own
frame first and those for the machines behind it. -/
def nodeFrame (r sf limit : Nat) (s : State) : TxFrame × State :=
  let os := relayedBy s r sf (now s)
  let s1 := (r :: os).foldl (fun t a => dropTired a t) s
  if os.isEmpty then
    let x := devFrame r sf limit s1
    (.node x.1, x.2.2)
  else
    let q := (node s1 r).txSeq
    let s2 := modNode r (fun d => { d with txSeq := (d.txSeq + 1) % 256 }) s1
    let own := (waitsSince (node s2 r) sf (now s2)).isSome
    let y := relayFill sf ((if own then [r] else []) ++ os) (limit - 23) [] s2
    (.relay r q y.1, bumpF (Addr.MAC_CNT + 40) 31 0 (y.1.length - b2n own) y.2)

/-- The node that receives the frame for a node: its relay, or itself. -/
def targetOf (s : State) (a : Nat) : Nat := (viaRelay s a).getD a

/-- What a DOWN slot may carry (R259): the time since which it waits, the address, where a JOIN_ACC stands as 0. -/
def downChoices (s : State) (k sf owner : Nat) : List (Nat × Nat) :=
  let t := now s
  if owner = addrAll then
    ((s.memb.joins.filter (fun j => j.port == k && decide (j.queued < t) && decide (sf ≤ j.until_))).map (fun j => (j.queued, 0))) ++
    ((homed s).filter (fun a => (node s a).home == k)).filterMap (fun a => (waitsSince (node s a) sf t).map (fun q => (q, a)))
  else if homePort s owner = some k ∧ viaRelay s owner = none then
    let own := (waitsSince (node s owner) sf t).toList
    let rel := (relayedBy s owner sf t).filterMap (fun a => waitsSince (node s a) sf t)
    match own ++ rel with
    | [] => []
    | q :: r => [(r.foldl min q, owner)]
  else []

/-- The oldest choice; of two as old, a JOIN_ACC, then the lower address (R259). -/
def oldest : List (Nat × Nat) → Option (Nat × Nat)
  | [] => none
  | x :: r => match oldest r with
    | none => some x
    | some y => if y.1 < x.1 ∨ (y.1 = x.1 ∧ y.2 < x.2) then some y else some x

/-- The JOIN_ACC chosen on a port: the oldest, of two as old the one queued first. -/
def joinTake (k q : Nat) : List JoinAcc → Option (JoinAcc × List JoinAcc)
  | [] => none
  | j :: r => if j.port = k ∧ j.queued = q then some (j, r) else (joinTake k q r).map (fun x => (x.1, j :: x.2))

/-- The frame of a DOWN slot (R259 step 4). -/
def downFrame (k sf : Nat) (w : Word) (s : State) : Option (TxFrame × State) :=
  match oldest (downChoices s k sf (entOwner w)) with
  | none => none
  | some (q, a) =>
    if a = 0 then
      match joinTake k q s.memb.joins with
      | some (j, r) => some (.joinAcc j (j.status == stOk), s.updMemb fun m => { m with joins := r })
      | none => none
    else some (nodeFrame (targetOf s a) sf (psduLimit (bw20 s k) (entRate w)) s)

/-! The choice (R259). -/

/-- The frame chosen loaded into the port, and TX_LOAD asked of the head; its build is a job of class 9. -/
def chosen (k sf slot rate : Nat) (f : TxFrame) (since : Option Nat) (s : State) : State :=
  emit (.head k 0x20 [rate]) (createJob 9 (0, 0) k (some (slotStart sf slot / 1000))
    (modPort k (fun p => { p with tx := some ⟨sf, slot, rate, f, since, false⟩ }) s))

/-- One port at the cut-off of a slot (R195, R254, R259, R266). -/
def portCutoff (sf slot k : Nat) (s : State) : State :=
  let r := stopReq s k
  let s0 := modPort k (fun p => { p with tx := none }) s
  if !maySend s k sf slot then
    if (port s k).st == .up && onDuty s then s0
    else s0.updSafe fun b => { b with ports := kset StopReq.none b.ports k StopReq.none }
  else
    let p := (airPlan s k sf).1
    let w := p.entry sf slot
    let stop := r.want || decide (0 < r.repeats)
    let since := if r.want then some r.since else none
    if slot = 0 then
      if (match s.mac.first with
          | some f => decide (f < sf)
          | none => false) then
        chosen k sf 0 p.brate (beaconFrame s k sf) since (if stop then stopTaken s0 k else s0)
      else s0
    else if stop then chosen k sf slot p.brate (stopFrame s) since (stopTaken s0 k)
    else if entKind w = 4 then
      match corrFrame k p.crate s0 with
      | some x => chosen k sf slot p.crate x.1 none x.2
      | none => s0
    else if entKind w = 3 then
      match downFrame k sf w s0 with
      | some x => chosen k sf slot (entRate w) x.1 none x.2
      | none => s0
    else s0

/-- SLOT_CUTOFF: 100 µs before the start of a slot each port chooses its frame (R253, R259). -/
def execSlotCutoff (sf slot : Nat) (s : State) : Host.Outcome State Fault Refusal :=
  if slot < 40 then
    .next ((List.range (portCount s.part)).foldl (fun t k => portCutoff sf slot k t) (advTo (slotStart sf slot - 100000) s))
  else .next s

end Sys2Proof.Machine
end

