-- ==== Sys2Proof/Machine/Slot.lean ====
section
/-!
DEFINITION. The start of a slot and the reception of frames (09_radio_ports R246 to R256, R266): triggers, missed
beacons, stamps, RX_READ and the acceptance of R255.
-/

namespace Sys2Proof.Machine

open Sys2Proof

/-! Triggers (R254, R266). -/

/-- The port fires its trigger in a slot. -/
def fires (s : State) (k sf slot : Nat) : Bool :=
  match (port s k).tx with
  | some x => x.sf == sf && x.slot == slot && x.loaded && maySend s k sf slot
  | none => false

/-- The trigger of a loaded frame, 20 µs into the slot (R254), with SAFE_LAT for a stop. -/
def fire (k : Nat) (s : State) : State :=
  match (port s k).tx with
  | none => s
  | some x =>
    let s1 := emit (.tx k x.sf x.slot x.rate x.frame) (modPort k (fun p => { p with tx := none, sent := some (x.sf, x.slot) }) s)
    let s2 := finishJob 9 k stOk (bump (portCnt k 0) (s1.updPair fun p => { p with lastSent := max p.lastSent x.sf }))
    match x.stopAt with
    | some t => maxF Addr.SAFE_LAT 15 0 ((s.time.op - t) / 1000) s2
    | none => s2

/-- A frame that was not loaded in time is not sent (R254). -/
def skip (k : Nat) (s : State) : State :=
  if (port s k).tx.isSome then finishJob 9 k stOk (bump (portCnt k 8) (modPort k (fun p => { p with tx := none }) s)) else s

/-- The FAULT entry of an enabled port that did not fire its slot-0 trigger (R266; 07_motion_safety R201). -/
def beaconMissed (k sf : Nat) (s : State) : State :=
  if portEn s k && canWrite s && s.jr.sf == sf && (match s.mac.first with
      | some f => decide (f < sf)
      | none => false) then
    postFault (0x30 + k) (if (port s k).st = .up then 0x20 else 0x21) 0 (bump (portCnt k 7) s)
  else s

/-- One port at the start of a slot; after the slot-0 trigger an UP port asks its head for STATUS (R265). -/
def portSlot (sf slot k : Nat) (s : State) : State :=
  let f := fires s k sf slot
  let s1 := if f then fire k s else skip k s
  if slot ≠ 0 then s1
  else
    let s2 := if f then s1 else beaconMissed k sf s1
    if (port s2 k).st = .up then emit (.head k 0x02 []) s2 else s2

/-- SLOT_START: each port fires its trigger 20 µs after the slot start for a loaded frame, or receives (R253, R254,
R266). -/
def execSlotStart (sf slot : Nat) (s : State) : Host.Outcome State Fault Refusal :=
  if slot < 40 then
    .next ((List.range (portCount s.part)).foldl (fun t k => portSlot sf slot k t) (advTo (slotStart sf slot + 20000) s))
  else .next s

/-! Stamps and reads (R246, R249, R255). -/

/-- The port listens to its head. -/
def listens (s : State) (k : Nat) : Bool := (port s k).st == .up || (port s k).st == .discover

/-- RXSTAMP: a pulse at a preamble, at a station time; the last eight stamps are kept (R249, R255). -/
def execRxstamp (k ns : Nat) (s : State) : Host.Outcome State Fault Refusal :=
  if !listens s k then .next s
  else .next (modPort k (fun p =>
    let n := (p.stampSeq + 1) % 65536
    let l := p.stamps ++ [⟨n, ns, false⟩]
    { p with stampSeq := n, stamps := l.drop (l.length - 8) }) (advTo ns s))

/-- STAMP_ONLY: no frame has claimed a stamp within 1 ms (R255). -/
def execStampOnly (k seq : Nat) (s : State) : Host.Outcome State Fault Refusal :=
  match (port s k).stamps.find? (fun x => x.seq == seq && !x.claimed) with
  | none => .next s
  | some x =>
    .next (bump (portCnt k 4) (modPort k (fun p => { p with stamps := p.stamps.map (fun y =>
      if y.seq = seq then { y with claimed := true } else y) }) (advTo (x.ns + 1000000) s)))

/-- RX_IRQ: IRQ_N falls, and the device reads the oldest frame (R242, R247). -/
def execRxIrq (k : Nat) (s : State) : Host.Outcome State Fault Refusal :=
  if (port s k).st = .up then .next (emit (.head k 0x30 [0]) (modPort k (fun p => { p with irq := true }) s)) else .next s

/-- The frame of a PSDU. -/
def psduMsg : RxPsdu → Option RxMsg
  | .short => none
  | .frame m => some m
  | .relay m _ => some m

/-- The type of a received frame is one that a machine or pendant sends (10_radio_frames R269). -/
def knownRx (p : RxPsdu) : Bool :=
  match psduMsg p with
  | none => false
  | some m => decide (22 ≤ m.len) && [3, 5, 6, 8, 9, 11].contains m.hdr.typ

/-- A fenced unit hears a beacon later than the last superframe it sent (16_pair R417). -/
def hearBeacon (k : Nat) (r : RxRead) (s : State) : State :=
  match psduMsg r.psdu with
  | some m => if s.pair.role = .fenced ∧ m.hdr.typ = 1 ∧ m.micOk ∧ s.pair.lastSent < m.hdr.sf ∧ s.pair.fencedPorts.testBit k then
      s.updPair fun p => { p with heard := true }
    else s
  | none => s

/-- The intake of an accepted frame (R255): a standby counts it and goes no further (R264), a hold drops it
(14_station_time R377), and a type that nobody sends fails check 1 of 10_radio_frames R273. -/
def takeIn (k sf slot arrival : Nat) (r : RxRead) (s : State) : State :=
  let s1 := bump (portCnt k 1) s
  if !canWrite s1 then s1
  else if s1.time.hold.isSome then bump Addr.TIME_CNT_HOLD_DROP s1
  else if !knownRx r.psdu then macCnt 0 s1
  else s1.updMac fun m => { m with intake := m.intake ++ [⟨k, sf, slot, arrival, r.psdu⟩] }

/-- The checks of R255 on a frame that the port has taken (R251, R252). -/
def rxAccept (k : Nat) (r : RxRead) (s : State) : State :=
  if !radioRootOk s || !engUsable s (0x30 + k) then s
  else
    match (port s k).stamps.find? (fun x => x.seq == r.stampSeq) with
    | none => bump (portCnt k 3) s
    | some x =>
      let s1 := modPort k (fun p => { p with stamps := p.stamps.map (fun y => if y.seq = r.stampSeq then { y with claimed := true } else y) }) s
      let t := x.ns - headDrx (port s k)
      let sf := sfOf t
      let slot := (t - sfStart sf) / 500000
      let kind := entKind ((airPlan s k sf).1.entry sf slot)
      if kind = 0 then bump (portCnt k 5) s1
      else if !(kind == 2 || kind == 5 || kind == 6) || decide (50000 < t - slotStart sf slot) || decide (2 < r.rate) ||
          decide (psduLimit (bw20 s k) r.rate < r.len) then bump (portCnt k 2) s1
      else takeIn k sf slot (t + airtime (bw20 s k) r.rate r.len) r s1

/-- A frame that the port takes from its head. -/
def rxTake (k : Nat) (r : RxRead) (s : State) : State :=
  rxAccept k r (hearBeacon k r (modPort k (fun p => { p with lastTaken := some r.stampSeq }) s))

/-- RX_READ: the oldest frame with MODE 0, or the frame last returned with the MODE 1 of a repeat (R246, R247). -/
def execRxRead (k : Nat) (r : HeadResp) (f : Option RxRead) (s : State) : Host.Outcome State Fault Refusal :=
  if (port s k).st ≠ .up then .next s
  else
    let again := (port s k).failed == some 0x30
    let x := attempt k 0x30 r s
    match x.2, f with
    | some 0x00, some g =>
      if again && (port s k).lastTaken == some g.stampSeq then .next (emit (.head k 0x30 [0]) x.1)
      else .next (rxTake k g x.1)
    | some 0x01, _ =>
      if again then .next (emit (.head k 0x30 [0]) x.1)
      else .next (modPort k (fun p => { p with irq := false, lastTaken := none }) x.1)
    | _, _ => .next x.1

end Sys2Proof.Machine
end

