-- ==== Sys2Proof/Machine/Memb.lean ====
section
/-!
DEFINITION. Membership (10_radio_frames R273 to R300): the checks of a received frame, the duplicate window, what
each RADIO_RX entry does, joins, departures, relays, and the writes of MAC_NODE_CTRL.
-/

namespace Sys2Proof.Machine

open Sys2Proof

/-! The duplicate window (R277). -/

/-- What the window says of a frame (R277): accepted with the new LAST and MAP, a duplicate, or stale. -/
inductive Win where
  | accepted (last map : Nat)
  | dup
  | stale
  deriving DecidableEq, Repr

/-- The window applied to a SEQ (R277). -/
def window (n : Node) (seq : Nat) : Win :=
  let a := (seq + 256 - n.rxLast % 256) % 256
  if !n.rxAny then .accepted seq 1
  else if a = 0 then .dup
  else if a ≤ 127 then .accepted seq (n.rxMap * 2 ^ a % 2 ^ 32 + 1)
  else if 256 - a ≤ 31 then if n.rxMap.testBit (256 - a) then .dup else .accepted n.rxLast (setBitN n.rxMap (256 - a) true)
  else .stale

/-- An acknowledgement owed to a node, since now (R278). -/
def owe (a : Nat) (s : State) : State :=
  let t := now s
  modNode a (fun n => { n with items := { n.items with owed := some (n.items.owed.getD t) } }) s

/-- The window moved by an accepted frame. -/
def windowTake (a last map : Nat) (s : State) : State :=
  modNode a (fun n => { n with rxAny := true, rxLast := last, rxMap := map }) s

/-! States of an address (R292). -/

/-- ASSOC becomes HELD at an SF (R292). -/
def holdAddr (a sf : Nat) (s : State) : State := modNode a (fun n => { n with st := .held, heldSf := sf }) s

/-- What waits for an address once it is FREE: the track items only. -/
def itemsFreed (i : Items) : Items :=
  let l := (i.acks.filter (fun x => x.typ == 5 || x.typ == 6)).map (fun x => { x with seqs := [] })
  { Items.zero with acks := l, queued := if l.isEmpty then none else i.queued }

/-- HELD becomes FREE at a position (R292). -/
def freeAddr (pos : Nat × Nat) (a : Nat) (s : State) : State :=
  let bound := kfind s.memb.binds a
  let s1 := modNode a (fun n => { Node.zero with eui := bound.getD 0, items := itemsFreed n.items }) s
  let s2 := macCnt 8 (nodeForget a s1)
  if isMachine s.part a then loopsFreed a (roverFreed a (withdraw pos a 14 s2)) else s2

/-- The silence of an awake address at the newest SF_MARK (R292). -/
def silenceCheck (a : Nat) (s : State) : State :=
  let n := node s a
  if n.st = .assoc ∧ !n.sleepy ∧ n.lastSf + cfg s Addr.MAC_MEMB_CFG0 11 4 * 10 ≤ s.jr.sf then
    macCnt 7 (holdAddr a s.jr.sf s)
  else s

/-- The wake of a sleeper in the superframe before the newest SF_MARK (R292, R297). -/
def wakeCheck (a : Nat) (s : State) : State :=
  let n := node s a
  let w := s.jr.sf - 1
  if n.st = .assoc ∧ n.sleepy ∧ n.period ≠ 0 ∧ w % n.period = n.phase ∧ n.frameSf < w then
    let s1 := macCnt 12 (modNode a (fun d => { d with wakeMiss := d.wakeMiss + 1, frameSf := w }) s)
    if 8 ≤ n.wakeMiss + 1 then macCnt 7 (holdAddr a s.jr.sf s1) else s1
  else s

/-- The hold of an address at the newest SF_MARK (R292). -/
def addrHoldCheck (a : Nat) (s : State) : State :=
  let n := node s a
  if n.st = .held ∧ n.heldSf + cfg s Addr.MAC_MEMB_CFG0 23 12 * 50 ≤ s.jr.sf then freeAddr (s.jr.sf, 0) a s else s

/-- SILENCE_TIMEOUT: the check of an awake address, which SF_MARK takes for every address (R292). -/
def execSilenceTimeout (a : Nat) (s : State) : Host.Outcome State Fault Refusal := .next (silenceCheck a s)

/-- WAKE_MISS: the check of a sleeper, which SF_MARK takes for every address (R297). -/
def execWakeMiss (a : Nat) (s : State) : Host.Outcome State Fault Refusal := .next (wakeCheck a s)

/-- ADDR_HOLD_EXPIRY: the check of a held address, which SF_MARK takes for every address (R292). -/
def execAddrHoldExpiry (a : Nat) (s : State) : Host.Outcome State Fault Refusal := .next (addrHoldCheck a s)

/-- The address checks of an SF_MARK (R292, R297). -/
def membMark (s : State) : State :=
  (homed s).foldl (fun t a => addrHoldCheck a (wakeCheck a (silenceCheck a t))) s

/-- A write of MAC_NODE_CTRL at a position (R292, R302): DISASSOC, then FREE_ADDR. -/
def nodeCtrlWord (w : Word) (s : State) : State × Nat :=
  let a := selVal s Addr.MAC_NODE_SEL % 65536
  let pos := lastPos s
  let d := bit w 0 && (node s a).st == .assoc
  let s1 := if d then
      let s2 := if isMachine s.part a then withdraw pos a 4 s else s
      queueAck a 7 0 [1, 0] (holdAddr a pos.1 s2)
    else s
  if !bit w 1 then (s1, if d || !bit w 0 then stOk else stEmpty)
  else match (node s1 a).st with
    | .assoc => (s1, stState)
    | .held => (freeAddr pos a s1, stOk)
    | .free => (s1, if d then stOk else stEmpty)

/-- DISASSOC: a write of 1 to DISASSOC in MAC_NODE_CTRL (R292). -/
def execDisassoc (h : GmpHdr) (s : State) : Host.Outcome State Fault Refusal :=
  .next (gmpWord h Addr.MAC_NODE_CTRL 1#32 1 (nodeCtrlWord 1#32) s)

/-- FREE_ADDR: a write of 1 to FREE_ADDR in MAC_NODE_CTRL (R292). -/
def execFreeAddr (h : GmpHdr) (s : State) : Host.Outcome State Fault Refusal :=
  .next (gmpWord h Addr.MAC_NODE_CTRL 2#32 1 (nodeCtrlWord 2#32) s)

/-! Joins (R289 to R291, R294). -/

/-- The addresses of a role. -/
def roleRange (s : State) (machine : Bool) : List Nat :=
  if machine then (List.range (machineCount s.part)).map (· + 1) else (List.range 31).map (· + 0x101)

/-- The machine has a PENDING or LIVE descriptor (05_track R142). -/
def hasDescriptor (s : State) (m : Nat) : Bool := s.scr.cov.hasDesc m || s.scr.inserts.any (fun x => x.machine == m)

/-- The address of a join (R291): with its state before it. -/
def joinAddr (s : State) (machine : Bool) (eui : Nat) : Option Nat :=
  let l := roleRange s machine
  (l.find? (fun a => (node s a).st != .free && (node s a).eui == eui)).orElse fun _ =>
    (l.find? (fun a => kfind s.memb.binds a == some eui)).orElse fun _ =>
      l.find? (fun a => (node s a).st == .free && (kfind s.memb.binds a).isNone && !(machine && hasDescriptor s a))

/-- The granted wake arrangement (R294): period, phase and slot; none where there is no such slot. -/
def wakeGrant (s : State) (k a req : Nat) : Option (Nat × Nat × Nat) :=
  let p := (port s k).air
  let per := roundUp (cycleLen p.cycle) req
  let base := if isPendant a then 0x101 else 1
  (wakeSlot p a).map (fun w => (per, (a - base) % per, w))

/-- The fields of a JOIN_REQ are in range (R289, R290). -/
def joinFieldsOk (b : JoinBody) : Bool :=
  decide (b.flags < 4) && decide (b.zero = 0) && within 1 200 b.clkPpm &&
  (if b.flags.testBit 0 then within 1 250 b.wakeReq else b.wakeReq == 0)

/-- A JOIN_ACC queued when its request's entry retires (R290). -/
def queueJoin (j : JoinAcc) (s : State) : State :=
  let t := now s
  macCnt (if j.status = stOk then 4 else 5)
    (s.updMemb fun m => { m with joins := m.joins ++ [{ j with until_ := s.jr.sf + 50, queued := t }] })

/-- The association of an address (R275, R292). -/
def associate (pos : Nat × Nat) (k a key : Nat) (b : JoinBody) (w : Nat × Nat × Nat) (hsf : Nat) (s : State) : State :=
  let was := (node s a).st
  let nd := pos.1 * 65536 + pos.2 % 65536
  let s1 := if was ≠ .free then evTrig 0x27 (be 2 a ++ be 8 b.eui) s else s
  let s2 := if was = .assoc ∧ isMachine s.part a then withdraw pos a 14 s1 else s1
  let s3 := modNode a (fun n => { n with
    st := .assoc, home := k, eui := b.eui, sleepy := b.flags.testBit 0, relayCap := b.flags.testBit 1, period := w.1,
    phase := w.2.1, wslot := w.2.2, clkPpm := b.clkPpm, txSeq := 0, rxAny := false, rxLast := 0, rxMap := 0,
    lastSf := pos.1, heldSf := 0, frameSf := hsf, wakeMiss := 0, nonceM := b.nonce, nonceD := nd, joinKey := key,
    items := { n.items with acks := n.items.acks.map (fun x => { x with seqs := [] }), owed := none } }) s2
  queueSched a (if was = .free ∧ isMachine s.part a then roverAssigned a s3 else s3)

/-- A JOIN_REQ decided at its position (R289 to R292, R294). -/
def joinDecide (pos : Nat × Nat) (k : Nat) (h : FrameHdr) (b : JoinBody) (s : State) : State :=
  let machine := h.key == 2
  let refuse (st : Nat) : State := queueJoin ⟨k, h.key, b.eui, st, addrNone, 0, 0, 0, 0, 0, 0, 0⟩ s
  match kfind s.memb.lastJoin b.eui with
  | some (n, j) => if n = b.nonce then queueJoin j s else fresh refuse machine
  | none => fresh refuse machine
where
  /-- The decision of a request that is no repeat. -/
  fresh (refuse : Nat → State) (machine : Bool) : State :=
    if !joinFieldsOk b then refuse stField
    else if !cfgB s Addr.MAC_MEMB_CFG0 (if machine then 0 else 1) then refuse stState
    else match joinAddr s machine b.eui with
      | none => refuse stFull
      | some a =>
        match (if b.flags.testBit 0 then wakeGrant s k a b.wakeReq else some (0, 0, 0xFF)) with
        | none => refuse stState
        | some w =>
          let s1 := associate pos k a h.key b w h.sf s
          let j : JoinAcc := ⟨k, h.key, b.eui, stOk, a, pos.1 * 65536 + pos.2 % 65536, w.1, w.2.2, w.2.1,
            cfg s Addr.MAC_MEMB_CFG1 7 0, 0, 0⟩
          queueJoin j (s1.updMemb fun m => { m with lastJoin := kins m.lastJoin b.eui (b.nonce, j) })

/-- JOIN_ACC_ABANDON: answers that have waited 50 superframes are abandoned (R290). -/
def execJoinAccAbandon (s : State) : Host.Outcome State Fault Refusal :=
  let sf := sfOf (now s)
  .next (s.updMemb fun m => { m with joins := m.joins.filter (fun j => decide (sf ≤ j.until_)) })

/-! What a RADIO_RX entry does (02_journal R46, R60; R274 to R288). -/

/-- The frames of a node that an ACK field acknowledges leave its items (R276, R285). -/
def takeAck (a : Nat) (f : AckField) (s : State) : State :=
  let shows (q : Nat) : Bool := let i := (f.seq + 256 - q % 256) % 256; decide (i ≤ 31) && f.map.testBit i
  modNode a (fun n =>
    let l := n.items.acks.filter (fun x => !x.seqs.any shows)
    let i := { n.items with acks := l }
    { n with items := { i with queued := if i.cmd.due || i.fix.isSome || !i.warns.isEmpty || !l.isEmpty then i.queued else none } }) s

/-- The digest echo of an uplink (02_journal R60). -/
def echo (m tag sf : Nat) (s : State) : State :=
  let ok := tag == ofBe (s.jr.digest.take 8) || (match s.jr.prevTag with
    | some (t, last) => t == tag && decide (sf ≤ last)
    | none => false)
  let s1 := s.updJr fun j => { j with mismatch := setBitN j.mismatch (machineBit m) (!ok) }
  if ok then s1 else evTrig 0x16 (be 2 m ++ be 8 tag) (alarm Addr.TOP_CFG_ALARM 1 s1)

/-- The effect of an UP body at its position (R287; 07_motion_safety R188). -/
def applyUp (pos : Nat × Nat) (m arrival : Nat) (b : UpBody) (s : State) : State :=
  let flag := b.status % 4 != 0
  let s1 := modMach m (fun x => { x with flagged := flag }) (echo m b.tag pos.1 (takeAck m b.ack s))
  let s2 := if flag then withdraw pos m 14 s1 else s1
  if b.obsLen = 0 then s2 else offerEpoch m arrival pos b.obs s2

/-- The effect of an accepted frame at the position of its RADIO_RX entry (R274): the window, the newest path, and
its body. `via` is the relay that brought it. -/
def applyRx (pos : Nat × Nat) (k arrival : Nat) (via : Option Nat) (h : FrameHdr) (b : RadioBody) (s : State) : State :=
  match b with
  | .joinReq j => joinDecide pos k h j s
  | _ =>
    let a := h.src
    let s1 := match window (node s a) h.seq with
      | .accepted l m => windowTake a l m s
      | _ => s
    let s2 := modNode a (fun n => { n with lastSf := pos.1, frameSf := max n.frameSf h.sf, wakeMiss := 0 }) s1
    let s3 := nodeLearn a k (via.getD addrNone) (if h.ackReq then owe a s2 else s2)
    match b with
    | .up u => if isMachine s.part a then applyUp pos a arrival u s3 else s3
    | .ack f => takeAck a f s3
    | .leave _ =>
      let s4 := macCnt 6 s3
      holdAddr a pos.1 (if isMachine s.part a then withdraw pos a 14 s4 else s4)
    | .pend p => if p.event = 1 then pendantStop pos a s3 else s3
    | .joinReq _ => s3

/-- The RADIO_RX entry of an accepted frame and its effect (R274; 02_journal R41, R42). -/
def enterRx (k arrival : Nat) (via : Option Nat) (h : FrameHdr) (b : RadioBody) (s : State) : State :=
  let s1 := jWrite h.src arrival (.radioRx k h b) s
  applyRx (lastPos s1) k arrival via h b s1

/-! The checks of R273. -/

/-- TYPE is allowed in the slot's kind, and SRC in its OWNER (R269, R273 check 1). -/
def typeAllowed (w : Word) (h : FrameHdr) : Bool :=
  let kd := entKind w
  let own := entOwner w == addrAll || h.src == entOwner w
  own && h.version == 0 &&
  (if h.typ = 3 ∨ h.typ = 11 then kd == 2
   else if h.typ = 5 ∨ h.typ = 8 then kd == 2 || kd == 6
   else if h.typ = 9 then kd == 6
   else if h.typ = 6 then kd == 5 || (kd == 6 && entOwner w == addrAll && h.key == 3)
   else false)

/-- The addresses and the key are those of a member, or of a JOIN_REQ (R273 check 3). -/
def addrsOk (s : State) (h : FrameHdr) : Bool :=
  h.dst == 0 && (if h.typ = 6 then h.src == addrNone && (h.key == 2 || h.key == 3) else isAssoc s h.src && h.key == 1)

/-- Checks 1 to 3 of R273 on a frame received in a slot. -/
def headOk (s : State) (x : Intake) (m : RxMsg) : Bool :=
  decide (22 ≤ m.len) && typeAllowed ((airPlan s x.port x.sf).1.entry x.sf x.slot) m.hdr &&
  m.hdr.sf == x.sf && m.hdr.slot == x.slot && m.hdr.port == x.port && addrsOk s m.hdr

/-- Checks 4 and 5 of R273: the flag says that the frame is admitted, and its body then stands. -/
def ccmAndWindow (m : RxMsg) (s : State) : State × Bool :=
  if !m.micOk then (macCnt 1 s, false)
  else if m.hdr.typ = 6 then (s, true)
  else match window (node s m.hdr.src) m.hdr.seq with
    | .accepted _ _ => (s, true)
    | .dup => (macCnt 2 (if m.hdr.ackReq then owe m.hdr.src s else s), false)
    | .stale => (macCnt 3 s, false)

/-- A frame from the intake taken through R273 and journalled (R274). -/
def receive (x : Intake) (m : RxMsg) (s : State) : State :=
  if !headOk s x m then macCnt 0 s
  else
    let r := ccmAndWindow m s
    match r.2, m.body with
    | true, some b => enterRx x.port x.arrival none m.hdr b r.1
    | _, _ => r.1

/-- The oldest frame at the intake of a port. -/
def intakeTake (k : Nat) : List Intake → Option (Intake × List Intake)
  | [] => none
  | x :: r => if x.port = k then some (x, r) else (intakeTake k r).map (fun p => (p.1, x :: p.2))

/-- A command that takes the oldest frame of a port where its type is `typ`: any other frame stays. -/
def takeFrame (k typ : Nat) (f : Intake → RxMsg → State → State) (s : State) : State :=
  match intakeTake k s.mac.intake with
  | some (x, rest) => match psduMsg x.psdu with
    | some m => if m.hdr.typ = typ then f x m (s.updMac fun c => { c with intake := rest }) else s
    | none => s
  | none => s

/-- UP_FRAME: the oldest frame of a port's intake, an UP frame (R273, R287). -/
def execUpFrame (k : Nat) (s : State) : Host.Outcome State Fault Refusal := .next (takeFrame k 3 receive s)

/-- ACK_FRAME: an ACK frame (R276). -/
def execAckFrame (k : Nat) (s : State) : Host.Outcome State Fault Refusal := .next (takeFrame k 5 receive s)

/-- JOIN_REQ: a join request (R289 to R291). -/
def execJoinReq (k : Nat) (s : State) : Host.Outcome State Fault Refusal := .next (takeFrame k 6 receive s)

/-- LEAVE: a machine or pendant leaves (R292). -/
def execLeave (k : Nat) (s : State) : Host.Outcome State Fault Refusal := .next (takeFrame k 8 receive s)

/-- PEND: a pendant polls or stops (R288; 07_motion_safety R189). -/
def execPend (k : Nat) (s : State) : Host.Outcome State Fault Refusal := .next (takeFrame k 9 receive s)

/-! Relays (R300). -/

/-- Checks 1 to 3 of R300 on an inner frame of the relay `r`. -/
def innerOk (s : State) (x : Intake) (outer m : RxMsg) : Bool :=
  let r := outer.hdr.src
  let w := (airPlan s x.port m.hdr.sf).1.entry m.hdr.sf m.hdr.slot
  decide (22 ≤ m.len) && m.hdr.version == 0 && [3, 5, 8].contains m.hdr.typ && decide (m.hdr.slot < 40) &&
  entKind w == 2 && entOwner w == m.hdr.src && m.hdr.port == x.port &&
  decide (m.hdr.sf ≤ outer.hdr.sf ∧ outer.hdr.sf ≤ m.hdr.sf + cfg s Addr.MAC_MEMB_CFG1 13 8) &&
  (m.hdr.sf != outer.hdr.sf || decide (m.hdr.slot ≤ outer.hdr.slot)) && addrsOk s m.hdr &&
  (m.hdr.src == r || relayOf s m.hdr.src == some r)

/-- One inner frame taken from a RELAY frame (R274, R300). -/
def innerTake (x : Intake) (outer : RxMsg) (s : State) (m : RxMsg) : State :=
  if m.hdr.src = 0 then s
  else if !innerOk s x outer m then macCnt 0 s
  else
    let r := ccmAndWindow m s
    match r.2, m.body with
    | true, some b =>
      macCnt 9 (enterRx x.port x.arrival (if m.hdr.src = outer.hdr.src then none else some outer.hdr.src) m.hdr b r.1)
    | _, _ => r.1

/-- A RELAY frame: it makes no entry of its own, and each inner frame that passes makes one (R274, R300). -/
def relayTake (x : Intake) (m : RxMsg) (s : State) : State :=
  if !headOk s x m then macCnt 0 s
  else
    let r := ccmAndWindow m s
    if !r.2 then r.1
    else
      let s1 := match window (node s m.hdr.src) m.hdr.seq with
        | .accepted l mp => windowTake m.hdr.src l mp r.1
        | _ => r.1
      match x.psdu with
      | .relay _ inner => inner.foldl (innerTake x m) s1
      | _ => s1

/-- RELAY: the oldest frame of a port's intake, a RELAY frame (R300). -/
def execRelay (k : Nat) (s : State) : Host.Outcome State Fault Refusal := .next (takeFrame k 11 relayTake s)

/-! Checks of a commit (R261, R285, R294, R298). `t` is the state as the commit would leave its fields. -/

/-- Some relay breaks R298. -/
def relayBad (t : State) : Bool :=
  let via (m : Nat) : Nat := cfgW t Addr.MAC_NODE_SEL m Addr.MAC_NODE_RELAY 15 0
  (roleRange t true).any (fun m => via m != addrNone && (!isMachine t.part (via m) || via m == m || via (via m) != addrNone))

/-- An entry of a plan allowed by R257 and R258, in a place of its superframe (R261 checks 1 and 2). -/
def entryOk (s : State) (slot : Nat) (w : Word) : Bool :=
  let kd := entKind w
  let o := entOwner w
  (kd == 1) == (slot == 0) && decide (kd ≤ 6) && entRate w != 3 &&
  (if kd = 2 then isMachine s.part o
   else if kd = 3 then isMachine s.part o || o == addrAll
   else if kd = 6 then isPendant o || o == addrAll
   else o == addrAll)

/-- Some enabled port's plan breaks checks 1 or 2 of R261. -/
def planBad (t : State) : Bool :=
  (List.range (portCount t.part)).any (fun k => portEn t k &&
    (let p := planOf t k; p.brate == 3 || p.crate == 3 || p.slots.zipIdx.any (fun x => !entryOk t (x.2 % 40) x.1)))

/-- A port whose next plan is not yet on air has its plan changed (R261 check 3). -/
def planBusy (s t : State) : Bool :=
  (List.range (portCount s.part)).any (fun k => (port s k).sw.isSome && planOf t k != planOf s k)

/-- EN becomes 0 for the home port of a machine whose permit is set (R261 check 4). -/
def enBad (s t : State) : Bool :=
  (machinesIn s.safe.cPermit).any (fun m => match homePort s m with
    | some k => portEn s k && !portEn t k
    | none => false)

/-- A rate outside RATE_CAP of a head that is UP (R261 check 5). -/
def rateBad (s t : State) : Bool :=
  (List.range (portCount s.part)).any (fun k => portEn t k && (port s k).st == .up &&
    (let u := ratesUsed (planOf t k); Nat.land u (rateCap (port s k)) != u))

/-- Some listing would hold more than 121 entries (R285). -/
def listingBad (t : State) : Bool :=
  (homed t).any (fun a => decide (121 < (listing t (planOf t (node t a).home) a).length))

/-- Some sleeper would lose its wake slot, or have a period the cycle does not divide (R294). -/
def wakeBad (t : State) : Bool :=
  (homed t).any (fun a =>
    let n := node t a
    let p := planOf t n.home
    n.period != 0 && ((wakeSlot p a).isNone || n.period % cycleLen p.cycle != 0))

/-- The status that the radio checks give a commit (R261, R285, R294, R298; 00_scope R17). -/
def macCheck (s t : State) : Nat :=
  firstErr stOk [(planBad t || relayBad t || listingBad t, stField), (enBad s t || rateBad s t || wakeBad t, stState),
    (planBusy s t, stBusy)]

end Sys2Proof.Machine
end

