-- ==== Sys2Proof/Machine/Primer.lean ====
section
/-!
DEFINITION. The encodings of the configuration (18_boot R456 to R459, R533; 02_journal R59): the primer image and its
records, the order of REG pairs with their selectors, table bodies, and the canonical string of the digest.
-/

namespace Sys2Proof.Machine

open Sys2Proof

/-! REG bodies (R533). -/

/-- The selectors of R533. -/
def isSelector (a : Nat) : Bool :=
  [Addr.SCHED_CLASS_SEL, Addr.HOD_SEL, Addr.SCR_ALLOT_SEL, Addr.LOOP_SEL, Addr.MAC_NODE_SEL, Addr.NET_IDENT_SEL].contains a

/-- The window that a selector pair's VALUE names, read as the selector field. -/
def selWindow (a : Nat) (w : Word) : Nat :=
  if a = Addr.SCHED_CLASS_SEL then fld w 4 0 else if a = Addr.HOD_SEL ∨ a = Addr.LOOP_SEL then fld w 8 0
  else if a = Addr.NET_IDENT_SEL then fld w 2 0 else fld w 15 0

/-- The window is one of the part. -/
def selOk (p : Part) (a win : Nat) : Bool :=
  if a = Addr.SCHED_CLASS_SEL then win != 22 && win != 23
  else if a = Addr.SCR_ALLOT_SEL ∨ a = Addr.MAC_NODE_SEL then isMachine p win else true

/-- The windows of a selector on the part. -/
def selWindows (p : Part) (a : Nat) : List Nat :=
  (List.range (if a = Addr.SCHED_CLASS_SEL then 32 else if a = Addr.NET_IDENT_SEL then 8
    else if a = Addr.HOD_SEL ∨ a = Addr.LOOP_SEL then 512 else 257)).filter (selOk p a)

/-- The bits of a register that are not reserved (R459): held fields, W1C, RC and WO bits, and UTC_PTP of TIME_UTC. -/
def RegD.usedMask (d : RegD) : Nat :=
  d.heldMask ||| d.w1c ||| d.rc ||| d.wo ||| (if d.base = Addr.TIME_UTC then 0x3F00 else 0)

/-- Every primer field in its range (R459, R461), the signed angle of FIX_SITE_ROT among them (03_fix_inputs R88). -/
def RegD.primerOk (d : RegD) (w : Word) : Bool :=
  d.fields.all (fun f => !f.primer || (decide (f.rmin ≤ fld w f.hi f.lo) && decide (fld w f.hi f.lo ≤ f.rmax))) &&
  (d.base != Addr.FIX_SITE_ROT || withinI (-314159265) 314159265 (sgn 32 w.toNat))

/-- What the decoding of a REG body has found so far: the key of the last pair plus one, the windows named, the
words set, and whether the form or a check has failed. -/
structure RegDec where
  next : Nat
  wins : List (Nat × Nat)
  words : KMap Word
  form : Bool
  check : Bool
  deriving DecidableEq, Repr

/-- One pair of a REG body (R459, R533). -/
def regPair (p : Part) (x : RegDec) (a : Nat) (w : Word) : RegDec :=
  if isSelector a then
    let win := selWindow a w
    let k := wkey a win a
    { x with next := k + 1, wins := (a, win) :: x.wins.filter (fun e => e.1 != a), form := x.form && decide (x.next ≤ k),
             check := x.check && selOk p a win }
  else match findReg a with
    | none => { x with next := rkey a + 1, form := x.form && decide (x.next ≤ rkey a), check := false }
    | some d =>
      let win := d.sel.bind (fun sl => x.wins.find? (fun e => e.1 == sl))
      let k := match d.sel, win with
        | some sl, some e => wkey sl e.2 a
        | _, _ => rkey a
      let good := d.primerMask != 0 && (w.toNat &&& d.usedMask) == w.toNat && d.primerOk w && !absentReg p a
      let v := blend d.primerMask (dfltOf p k) w
      { x with next := k + 1, words := kset (dfltOf p k) x.words k v,
               form := x.form && decide (x.next ≤ k) && (d.sel.isNone || win.isSome), check := x.check && good }

/-- The pairs of a REG body in their order. -/
def regPairs (p : Part) : List (Nat × Word) → RegDec → RegDec
  | [], x => x
  | e :: r, x => regPairs p r (regPair p x e.1 e.2)

/-- Nothing decoded. -/
def RegDec.zero : RegDec := ⟨0, [], [], true, true⟩

/-- The addresses of a register family. -/
def dimAddrs : List (Nat × Nat) → Nat → List Nat
  | [], a => [a]
  | (stride, n) :: r, a => (List.range n).flatMap (fun i => dimAddrs r (a + stride * i))

/-- The keys of a register family in every window. -/
def RegD.keys (p : Part) (d : RegD) : List Nat :=
  match d.sel with
  | none => (dimAddrs d.dims d.base).map rkey
  | some sl => (selWindows p sl).flatMap (fun w => (dimAddrs d.dims d.base).map (wkey sl w))

/-- Every field of a register whose default its range excludes is set by the image, in every window and index
(R459). -/
def unsetOk (p : Part) (words : KMap Word) : Bool :=
  regTable.all (fun d => d.primerMask == 0 || d.primerOk (wordOf d.dfltWord) ||
    (d.keys p).all (fun k => d.primerOk (kget (dfltOf p k) words k)))

/-- Words by sort key as the pairs of R533, each window led by its selector pair. `at_` is the window led last. -/
def keyPairs : Option (Nat × Nat) → List (Nat × Word) → List (Nat × Word)
  | _, [] => []
  | last, (k, w) :: r =>
    match keyWin k with
    | none => (keyAddr k, w) :: keyPairs last r
    | some win =>
      let e := (keySel k, win)
      if last = some e then (keyAddr k, w) :: keyPairs last r
      else (keySel k, wordOf win) :: (keyAddr k, w) :: keyPairs (some e) r

/-- Pairs on the wire. -/
def pairsWire (l : List (Nat × Word)) : List Nat := l.flatMap (fun e => be 4 e.1 ++ be 4 e.2.toNat)

/-- The registers whose word in force differs, in some field that the primer image gives, from the image's word
(R59 part 2, R462), by key. -/
def regDiff (s : State) : List (Nat × Word) :=
  let keys := (s.regs.prim.foldl (fun m e => kins m e.1 ()) (s.regs.force.foldl (fun m e => kins m e.1 ()) ([] : KMap Unit))).map (fun e => e.1)
  (keys.filter (fun k => match findReg (keyAddr k) with
    | some d => blend d.primerMask 0#32 (forceW s k) != blend d.primerMask 0#32 (primW s k)
    | none => false)).map (fun k => (k, forceW s k))

/-! Table bodies (06_zones R170, 13_tables R364, 18_boot R458). -/

/-- A byte list cut into pieces of `n`; `fuel` bounds the pieces. -/
def pieces (n : Nat) : Nat → List Nat → List (List Nat)
  | 0, _ => []
  | f + 1, l => if l.isEmpty then [] else l.take n :: pieces n f (l.drop n)

/-- Bytes `o` to `o + n − 1` as a number. -/
def at_ (l : List Nat) (o n : Nat) : Nat := ofBe ((l.drop o).take n)

/-- A zone record of 16 bytes. -/
def zoneOf (l : List Nat) : ZoneRec := ⟨at_ l 0 1, at_ l 1 1, at_ l 2 2, at_ l 4 4, at_ l 8 1, at_ l 9 1, at_ l 10 2, at_ l 12 2, at_ l 14 2⟩

/-- A rule record of 24 bytes. -/
def ruleOf (l : List Nat) : RuleRec := ⟨at_ l 0 1, at_ l 1 1, at_ l 2 2, at_ l 4 16, at_ l 20 1, at_ l 21 1, at_ l 22 2⟩

/-- The zone table in force as records with OP 1, by index. -/
def zonesWire (m : KMap Zone) : List Nat :=
  m.flatMap (fun e => zoneWire ⟨1, e.2.len, e.1, e.2.pfx, e.2.action, 0, e.2.mask, e.2.cap, 0⟩)

/-- The rule table in force as records with OP 1, by index. -/
def rulesWire (m : KMap RuleRec) : List Nat := m.flatMap (fun e => ruleWire { e.2 with op := 1, index := e.1 })

/-- The static entries in force, by VID and MAC address. -/
def staticsWire (m : KMap Nat) : List Nat :=
  m.flatMap (fun e => be 2 (e.1 / 2 ^ 48) ++ be 6 (e.1 % 2 ^ 48) ++ [e.2, 0, 0, 0])

/-! The image (R456 to R458). -/

/-- The records that follow a position: ID, zero, body and whether the CRC holds; none where the bytes end first. -/
def records : Nat → List Nat → Option (List (Nat × Nat × List Nat × Bool) × List Nat)
  | 0, l => some ([], l)
  | n + 1, l =>
    let len := at_ l 4 4
    let stored := roundUp 4 (8 + len)
    if l.length < stored + 4 then none
    else
      let ok := crc32c (l.take stored) == at_ l stored 4
      match records n (l.drop (stored + 4)) with
      | some r => some ((at_ l 0 2, at_ l 2 2, (l.drop 8).take len, ok) :: r.1, r.2)
      | none => none

/-- IDs stand in strictly ascending order. -/
def rising : List Nat → Bool
  | a :: b :: r => decide (a < b) && rising (b :: r)
  | _ => true

/-- A region's bytes: blocks that are not programmed read as erased. -/
def regionBytes (m : KMap (List Nat)) (n : Nat) : List Nat :=
  ((List.range (roundUp 2048 n / 2048)).flatMap (fun i =>
    let b := (kfind m i).getD []
    b ++ List.replicate (2048 - b.length) 0xFF)).take n

/-- A decoded primer image. -/
structure Primer where
  length : Nat
  hash : List Nat
  /-- ID and body of every record but the signature. -/
  recs : List (Nat × List Nat)
  signed : Bool
  words : KMap Word
  zones : ZoneTab
  rules : RuleTab
  statics : List StaticEnt
  binds : KMap Nat
  deriving DecidableEq, Repr

/-- An image that gives nothing. -/
def Primer.zero : Primer := ⟨0, [], [], false, [], ⟨[], [], 0⟩, ⟨[], [], 0⟩, [], []⟩

/-- The body of a record, empty where the image has none. -/
def recBody (l : List (Nat × List Nat)) (id : Nat) : List Nat := ((l.find? (fun e => e.1 == id)).map (fun e => e.2)).getD []

/-- The header and the records (R455 to R458): halt code 0 with the records and the LENGTH, or the code that fails.
The format of the header is looked at first, since without it nothing else can be read; then LENGTH and the records'
CRC, then their order and IDs. -/
def primerForm (p : Part) (region : Nat) (m : KMap (List Nat)) : Nat × Nat × List (Nat × List Nat) :=
  let h := regionBytes m 32
  let len := at_ h 8 4
  let n := at_ h 12 2
  let part := at_ h 6 2
  if at_ h 0 4 ≠ 0x535A5052 ∨ at_ h 4 2 ≠ 1 ∨ (part ≠ 0xFFFF ∧ part ≠ partCode p) then (5, len, [])
  else if region < len ∨ len < 32 then (3, len, [])
  else match records n ((regionBytes m len).drop 32) with
    | none => (3, len, [])
    | some (l, rest) =>
      if !rest.isEmpty || l.any (fun e => !e.2.2.2) then (3, len, [])
      else if !rising (l.map (fun e => e.1)) ||
          l.any (fun e => !([0x10, 0x20, 0x21, 0x22, 0x30, 0xFFFF].contains e.1) || e.2.1 != 0) then (5, len, [])
      else (0, len, l.map (fun e => (e.1, e.2.2.1)))

/-- The pairs of a REG body, where COUNT agrees with its length. -/
def regBodyPairs (b : List Nat) : Option (List (Nat × Word)) :=
  if b.isEmpty then some []
  else if b.length = 4 + 8 * at_ b 0 4 then
    some ((pieces 8 (at_ b 0 4) (b.drop 4)).map (fun l => (at_ l 0 4, wordOf (at_ l 4 4))))
  else none

/-- The static entries of a STATIC body. -/
def staticOf (l : List Nat) : StaticEnt := ⟨at_ l 0 2, at_ l 2 6, at_ l 8 1⟩

/-- A static entry of the image names a port and has its zero field zero (R458, 13_tables R361). -/
def staticOk (l : List Nat) : Bool := decide (at_ l 8 1 ≤ 2) && at_ l 9 3 == 0

/-- The bindings of a BIND body: EUI by address. -/
def bindsOf (b : List Nat) : KMap Nat :=
  (pieces 12 b.length b).foldl (fun m l => kins m (at_ l 8 2) (at_ l 0 8)) []

/-- The bindings name addresses of the part, share no EUI and no address (R461, 10_radio_frames R291). -/
def bindOk (p : Part) (b : List Nat) : Bool :=
  let l := pieces 12 b.length b
  b.length % 12 == 0 && l.all (fun e => isNode p (at_ e 8 2) && at_ e 10 2 == 0) &&
  (l.map (fun e => at_ e 8 2)).eraseDups.length == l.length && (l.map (fun e => at_ e 0 8)).eraseDups.length == l.length

/-- The contents of the records (R459, R461, R533): the image, with halt code 0, 5 or 6. -/
def primerBody (p : Part) (len : Nat) (hash : List Nat) (l : List (Nat × List Nat)) : Nat × Primer :=
  let body := recBody l
  let zs := (pieces 16 (body 0x20).length (body 0x20)).map zoneOf
  let rs := (pieces 24 (body 0x21).length (body 0x21)).map ruleOf
  let ss := pieces 12 (body 0x22).length (body 0x22)
  let zt := zoneFold 0 zs ⟨[], [], 0⟩
  let rt := ruleFold 0 rs ⟨[], [], 0⟩
  match regBodyPairs (body 0x10) with
  | none => (5, Primer.zero)
  | some prs =>
    let x := regPairs p prs RegDec.zero
    let good := x.check && unsetOk p x.words && (body 0x20).length % 16 == 0 && (body 0x21).length % 24 == 0 &&
      (body 0x22).length % 12 == 0 && zs.all (fun z => z.op == 1) && rs.all (fun r => r.op == 1) && zt.2.isNone &&
      rt.2.isNone && ss.all staticOk && bindOk p (body 0x30)
    let im : Primer :=
      { length := len, hash := hash, recs := l.filter (fun e => e.1 != 0xFFFF), signed := l.any (fun e => e.1 == 0xFFFF),
        words := x.words, zones := zt.1, rules := rt.1, statics := ss.map staticOf, binds := bindsOf (body 0x30) }
    (if !x.form then 5 else if good then 0 else 6, im)

/-- The SHA-256 of the image's first LENGTH bytes (R462, R470). -/
def primerHash (m : KMap (List Nat)) (len : Nat) : List Nat := sha256 (regionBytes m len)

/-! The digest (02_journal R59). -/

/-- A table's part of the canonical string, where it differs from the image's record. -/
def tablePart (id : Nat) (body prim : List Nat) : List Nat :=
  if body = prim then [] else be 2 id ++ be 4 body.length ++ body

/-- The configuration digest in force. -/
def digestOf (s : State) : List Nat :=
  let r := s.nvm.records
  sha256 (r.flatMap (fun e => be 2 e.1 ++ be 4 e.2.length ++ e.2) ++ pairsWire (keyPairs none (regDiff s)) ++
    tablePart 0x20 (zonesWire s.scr.cov.zones) (zonesWire s.scr.primZones) ++
    tablePart 0x21 (rulesWire s.lkp.rules) (rulesWire (s.nvm.primRules.foldl (fun m x => kins m x.index x) [])) ++
    tablePart 0x22 (staticsWire s.lkp.statics)
      (staticsWire (s.nvm.primStatics.foldl (fun m x => kins m (staticKey x.vid x.mac) x.port) [])))

/-- The digest tag: its first 8 bytes as one number (02_journal R59). -/
def tagOf (digest : List Nat) : Nat := ofBe (digest.take 8)

end Sys2Proof.Machine
end

