-- ==== Sys2Proof/Machine/Commit.lean ====
section
/-!
DEFINITION. Generations and commits (02_journal R53 to R58): the request, the COMMIT entry with its checks, the
discard, and the settings write that follows (18_boot R462 to R465).
-/

namespace Sys2Proof.Machine

open Sys2Proof

/-! The checks of R57. `t` is the state as the commit would leave its registers. -/

/-- Every staged register copy brought into force. -/
def regsCommit (s : State) : State :=
  let t := s.regs.staged.foldl (fun t e => setForce e.1 (blend (commitMask e.1) (forceW t e.1) e.2) t) s
  t.updRegs fun r => { r with staged := [] }

/-- SRC disabled for both receivers while a machine holds a permit (03_fix_inputs R89). -/
def refCommitBad (s t : State) : Bool := rxSrc t 0 == 0 && rxSrc t 1 == 0 && s.safe.cPermit != 0

/-- LENGTH, WIDTH, REF_FWD and MARGIN of a class. -/
def classGeom (s : State) (c : Nat) : Nat × Nat :=
  (cfg s (Addr.SCR_CLASS_A + 8 * c) 31 0, cfg s (Addr.SCR_CLASS_B + 8 * c) 23 0)

/-- REF_FWD above LENGTH in some class (05_track R159). -/
def scrFieldBad (t : State) : Bool :=
  (List.range 16).any (fun c => decide (cfg t (Addr.SCR_CLASS_A + 8 * c) 15 0 < cfg t (Addr.SCR_CLASS_B + 8 * c) 15 0))

/-- A grid, a class or the class of a machine changed under a descriptor (05_track R159). -/
def scrStateBad (s t : State) : Bool :=
  let held := ((List.range (machineCount s.part)).map machineAt).filter (fun m => s.scr.cov.hasDesc m)
  (!held.isEmpty && cfg s Addr.SCR_CFG 8 0 != cfg t Addr.SCR_CFG 8 0) ||
  held.any (fun m => classOf s m != classOf t m || classGeom s (classOf s m) != classGeom t (classOf s m))

/-- RESERVE values that sum to more than 4,096 (11_scheduler R309). -/
def reserveBad (t : State) : Bool := decide (4096 < classIds.foldl (fun n c => n + classRes t c) 0)

/-- Two of a list are equal. -/
def twins {α : Type} [BEq α] : List α → Bool
  | [] => false
  | x :: r => r.contains x || twins r

/-- Two valid VLAN entries with one VID (13_tables R366). -/
def vlanBad (t : State) : Bool :=
  twins (((List.range 16).filter (fun v => cfgB t (Addr.LKP_VLAN + 4 * v) 12)).map (fun v => cfg t (Addr.LKP_VLAN + 4 * v) 11 0))

/-- The 16 bytes of an identity, as its four words. -/
def identWords (t : State) (k : Nat) : List Nat :=
  (List.range 4).map (fun m => cfgW t Addr.NET_IDENT_SEL k (Addr.NET_IDENT_ID + 4 * m) 31 0)

/-- An identity is enabled (17_host R430). -/
def identOn (t : State) (k : Nat) : Bool := cfgW t Addr.NET_IDENT_SEL k Addr.NET_IDENT_RIGHTS 31 31 == 1

/-- Two enabled identities with one IDENT (17_host R448). -/
def identBad (t : State) : Bool := twins (((List.range 8).filter (identOn t)).map (identWords t))

/-- The status of a commit: the first code under 00_scope R17 over every chapter's checks (R57). -/
def commitStatus (s t : State) : Nat :=
  let own := firstErr stOk
    [(scrFieldBad t, stField), (refCommitBad s t || scrStateBad s t, stState), (vlanBad t || identBad t, stConflict),
     (reserveBad t, stFull)]
  worse (worse own (macCheck s t)) (loopsCommitCheck s)

/-! What a COMMIT entry with OK does. -/

/-- A receiver whose SRC is disabled is ABSENT, and a primary follows (03_fix_inputs R74, R75). -/
def refCommit (s : State) : State :=
  choosePrimary ([0, 1].foldl (fun t k => if rxSrc t k = 0 ∧ (rx t k).st ≠ .absent then rxAbsent k t else t) s)

/-- The generation after one more commit (R53). -/
def nextGenId (g : Nat) : Nat := if g = 0xFFFFFFFF then 1 else g + 1

/-- Registers, tables, plans, loops and receivers brought into force at superframe `sf` (R57; 13_tables R360;
09_radio_ports R260; 08_control_loops R234; 14_station_time R379). -/
def commitApply (sf : Nat) (s : State) : State :=
  utcEval (refCommit (loopsCommit (macCommit s sf (lkpSwap (regsCommit s)))))

/-! Settings (18_boot R462 to R465). -/

/-- The settings as they stand (R462). -/
def settingsNow (s : State) (wcount : Nat) : Settings :=
  let z := s.scr.cov.zones
  let prules := s.nvm.primRules.foldl (fun (m : KMap RuleRec) x => kins m x.index x) []
  let pstat := s.nvm.primStatics.foldl (fun (m : KMap Nat) x => kins m (staticKey x.vid x.mac) x.port) []
  { format := s.nvm.run.setFormat, wcount := wcount, hash := s.nvm.primerHash,
    regs := (regDiff s).map (fun e => (e.1, e.2.toNat)),
    zones := if zonesWire z = zonesWire s.scr.primZones then none
      else some (z.map (fun e => ⟨1, e.2.len, e.1, e.2.pfx, e.2.action, 0, e.2.mask, e.2.cap, 0⟩)),
    rules := if rulesWire s.lkp.rules = rulesWire prules then none else some (s.lkp.rules.map (fun e => { e.2 with op := 1, index := e.1 })),
    statics := if s.lkp.statics = pstat then none
      else some (s.lkp.statics.map (fun e => ⟨e.1 / 2 ^ 48, e.1 % 2 ^ 48, e.2⟩)) }

/-- A settings slot of the memory. -/
def setSlotOf (s : State) (i : Nat) : SetSlot := s.nvm.flash.sets.getD i .blank

/-- WCOUNT of a slot, 0 where it is not valid. -/
def slotCount (x : SetSlot) : Nat :=
  match x with
  | .valid r => r.wcount
  | _ => 0

/-- The slot may be written: an image that is not confirmed spares a valid slot in another format (R465). -/
def setMay (s : State) (i : Nat) : Bool :=
  match setSlotOf s i with
  | .valid r => !s.upd.trial || r.format == s.nvm.run.setFormat
  | _ => true

/-- The slot that the next settings write goes to (R464, R465): the one not in force; where none is in force, the one
with the smaller WCOUNT. -/
def setTarget (s : State) : Option Nat :=
  let p := if s.nvm.setSlot = 1 then 1 else if s.nvm.setSlot = 2 then 0
    else if slotCount (setSlotOf s 1) < slotCount (setSlotOf s 0) then 1 else 0
  if setMay s p then some p else if setMay s (1 - p) then some (1 - p) else none

/-- A settings write begun, or kept for the end of the one that runs; a commit that is passed over counts in
SET_SKIPPED (R464). -/
def settingsStart (s : State) : State :=
  if s.nvm.writing.isSome then
    let s1 := if s.nvm.again then bump Addr.NVM_CNT_SET_SKIPPED s else s
    s1.updNvm fun n => { n with again := true }
  else match setTarget s with
    | none => s
    | some i =>
      let x := settingsNow s (max (slotCount (setSlotOf s 0)) (slotCount (setSlotOf s 1)) + 1)
      s.updNvm fun n => { n with writing := some (i, x), again := false,
                                 flash := { n.flash with sets := lset n.flash.sets i .torn } }

/-- SETTINGS_WRITTEN: the settings write that runs ends; `ok0` and `ok1` are the channels' programs (R464, R469). -/
def execSettingsWritten (ok0 ok1 : Bool) (s : State) : Host.Outcome State Fault Refusal :=
  match s.nvm.writing with
  | none => .next s
  | some (i, x) =>
    let w := nvmWrite ok0 ok1 (regionOff s (4 + i)) s
    let s1 := w.1.updNvm fun n => { n with writing := none, again := false }
    let s2 := if w.2 then
        bump Addr.NVM_CNT_SET_WRITES (s1.updNvm fun n =>
          { n with flash := { n.flash with sets := lset n.flash.sets i (.valid x) }, setSlot := i + 1, wcount := x.wcount,
                   lastStatus := stOk })
      else s1.updNvm fun n => { n with lastStatus := stCheck }
    .next (if s.nvm.again then settingsStart s2 else s2)

/-! Requests and the entry (R54 to R58). -/

/-- The response of a commit to one that waits: COMMIT carries GEN, a register write its INDEX (17_host R437, R438). -/
def commitBody (s : State) (w : Waiter) (st : Nat) : List Nat :=
  match (kget [] s.gmp.cache w.ident).find? (fun e => e.reqId == w.reqId) with
  | some e => if e.typ = 0x04 then (if isErr st then [] else be 4 s.jr.gen) else indexBody 0xFFFF
  | none => []

/-- Every request that waits for the COMMIT entry gets its status (R57). -/
def commitTell (ws : List Waiter) (st : Nat) (s : State) : State :=
  ws.foldl (fun t w => completeReq w st (commitBody t w st) t) s

/-- The COMMIT entry of the pending commit at superframe `sf` (R56, R57). `log` writes the entry, or on a standby
takes its place. -/
def commitEntry (sf : Nat) (log : Payload → State → State) (r : CommitReq) (s : State) : State :=
  let fin (st : Nat) (t : State) : State :=
    commitTell r.waiters st (countJob 11 (t.updJr fun j => { j with commit := none, lastStatus := st }))
  if !anyStaged s then fin stEmpty (log (.commit stEmpty s.jr.gen s.jr.digest) s)
  else
    let st := commitStatus s (regsCommit s)
    if st ≠ stOk then fin st (log (.commit st s.jr.gen s.jr.digest) s)
    else
      let g := nextGenId s.jr.gen
      let u := commitApply sf s
      let d := digestOf u
      let s1 := commitApply sf (log (.commit stOk g d) s)
      let s2 := s1.updJr fun j => { j with gen := g, digest := d, prevTag := some (tagOf s.jr.digest, sf + 50) }
      fin stOk (settingsStart s2)

/-- The COMMIT entry where one is due at the opening of the present superframe (R54, R55). -/
def commitDue (s : State) : State :=
  match s.jr.commit with
  | none => s
  | some r => if canWrite s && s.time.hold.isNone && decide (r.due ≤ s.jr.sf) then
      commitEntry s.jr.sf (fun p t => jWrite 0 (now t) p t) r s else s

/-- COMMIT_ENTRY: the COMMIT entry that is due and not yet written (R55, R57). -/
def execCommitEntry (s : State) : Host.Outcome State Fault Refusal := .next (commitDue s)

/-- Every staged copy reset to its value in force (R58). -/
def discardOp (s : State) : State := lkpDiscard (s.updRegs fun r => { r with staged := [] })

/-- A commit requested (R54, R56): the request joins a pending one, ends at once where nothing is staged, or waits. -/
def commitAsk (w : Waiter) (s : State) : State × Option Nat :=
  match s.jr.commit with
  | some r => (s.updJr fun j => { j with commit := some { r with waiters := r.waiters ++ [w] } }, none)
  | none =>
    if !anyStaged s then (s, some stEmpty)
    else
      let d := dueSf s
      (s.updJr fun j => { j with commit := some ⟨d, [w]⟩ }, none)

/-- A write of TOP_GEN_CTRL: the discard takes the earlier position (R62). None where the commit is awaited. -/
def genCtrl (w : Waiter) (v : Word) (s : State) : State × Option Nat :=
  let s1 := if bit v 1 then discardOp s else s
  if bit v 0 then commitAsk w s1 else (s1, some stOk)

/-- The handler of a write of TOP_GEN_CTRL alone. -/
def genHandler (v : Word) : Handler := fun c s =>
  if !hasRight s c.ident 1 then (s, some (stAuth, indexBody 0))
  else
    let r := genCtrl c.waiter v s
    (r.1, r.2.map (fun st => (st, indexBody 0xFFFF)))

/-- GEN_COMMIT: a write of 1 to COMMIT in TOP_GEN_CTRL (R54). -/
def execGenCommit (h : GmpHdr) (s : State) : Host.Outcome State Fault Refusal :=
  .next (gmpRequest h (.write [(Addr.TOP_GEN_CTRL, 1#32)]) false true (fun _ _ => true) (genHandler 1#32) s)

/-- DISCARD: a write of 1 to DISCARD in TOP_GEN_CTRL (R58). -/
def execDiscard (h : GmpHdr) (s : State) : Host.Outcome State Fault Refusal :=
  .next (gmpRequest h (.write [(Addr.TOP_GEN_CTRL, 2#32)]) false true (fun _ _ => true) (genHandler 2#32) s)

/-- The handler of a COMMIT message (17_host R437). -/
def commitHandler : Handler := fun c s =>
  let r := commitAsk c.waiter s
  (r.1, r.2.map (fun st => (st, be 4 r.1.jr.gen)))

/-- COMMIT_MSG: a GMP COMMIT message (R54). -/
def execCommitMsg (h : GmpHdr) (s : State) : Host.Outcome State Fault Refusal :=
  .next (gmpRequest h .commit false true (fun k t => hasRight t k 1) commitHandler s)

end Sys2Proof.Machine
end

