-- ==== Sys2Proof/Machine/Fw.lean ====
section
/-!
DEFINITION. The firmware image and the boot header (19_firmware R471, R472, R478; 18_boot R450 to R453).
-/

namespace Sys2Proof.Machine

open Sys2Proof

/-! The image (R471, R472). -/

/-- `n` bytes of a slot from an offset; bytes that are not programmed read as erased. -/
def fwBytes (x : FwSlot) (off n : Nat) : List Nat :=
  (List.range n).map fun i => ((kfind x.blocks ((off + i) / 2048)).getD []).getD ((off + i) % 2048) 0xFF

/-- A field of an image. -/
def fwFld (x : FwSlot) (off n : Nat) : Nat := ofBe (fwBytes x off n)

/-- A component entry (R471): KIND, VERSION, OFFSET, SIZE, CRC and its zero byte. -/
structure FwComp where
  kind : Nat
  zero : Nat
  version : Nat
  offset : Nat
  size : Nat
  crc : Nat
  deriving DecidableEq, Repr

/-- The component entries. -/
def fwComps (x : FwSlot) : List FwComp :=
  (List.range (fwFld x 6 2)).map fun i =>
    let o := 32 + 16 * i
    ⟨fwFld x o 1, fwFld x (o + 1) 1, fwFld x (o + 2) 2, fwFld x (o + 4) 4, fwFld x (o + 8) 4, fwFld x (o + 12) 4⟩

/-- LENGTH of an image. -/
def fwLen (x : FwSlot) : Nat := fwFld x 8 4

/-- The identity of an image. -/
def fwId (x : FwSlot) : FwId := ⟨fwFld x 12 4, fwFld x 16 4, fwFld x 20 4, fwFld x 24 2, fwFld x 26 2⟩

/-- No two components overlap. -/
def compsApart : List FwComp → Bool
  | [] => true
  | c :: r => r.all (fun d => decide (c.offset + c.size ≤ d.offset ∨ d.offset + d.size ≤ c.offset)) && compsApart r

/-- The layout of R471 and the kinds of R472 hold in a region of `region` bytes. -/
def fwForm (region : Nat) (x : FwSlot) : Bool :=
  let n := fwFld x 6 2
  let len := fwLen x
  !x.bad && fwFld x 0 4 == 0x535A4657 && fwFld x 4 2 == 1 && within 9 10 n && decide (128 + 16 * n ≤ len ∧ len ≤ region) &&
  decide (fwFld x 28 1 < 4) && fwFld x 30 2 == 0 &&
  (let cs := fwComps x
   cs.all (fun c => c.zero == 0 && decide (32 + 16 * n ≤ c.offset ∧ c.offset + c.size ≤ len - 96) &&
     (within 1 9 c.kind || c.kind == 0x0F)) &&
   !((cs.map (fun c => c.kind)).eraseDups.length != cs.length) &&
   (List.range 9).all (fun k => cs.any (fun c => c.kind == k + 1)) && compsApart cs)

/-- PARTS and MIN_REV name this part; its revision is A0 (17_host R447). -/
def fwPart (p : Part) (x : FwSlot) : Bool :=
  (fwFld x 28 1).testBit (match p with | .szn2560 => 0 | .szn1280 => 1) && decide (fwFld x 29 1 ≤ 0x10)

/-- Every component passes its CRC. -/
def fwCrc (x : FwSlot) : Bool := (fwComps x).all (fun c => crc32c (fwBytes x c.offset c.size) == c.crc)

/-- Every COMPAT requirement is met by a component that stands earlier in the order (R472). -/
def fwCompat (x : FwSlot) : Bool :=
  let cs := fwComps x
  match cs.find? (fun c => c.kind == 0x0F) with
  | none => true
  | some c => c.size % 4 == 0 && (List.range (c.size / 4)).all (fun i =>
      let o := c.offset + 4 * i
      let sub := fwFld x o 1
      let obj := fwFld x (o + 1) 1
      within 1 9 sub && within 1 9 obj && decide (obj < sub) &&
      cs.any (fun d => d.kind == obj && decide (fwFld x (o + 2) 2 ≤ d.version)))

/-- FAIL of an image, in the order of R476 from 2 on; `sig` is the verdict on the signature. -/
def fwFail (p : Part) (region : Nat) (sig : Bool) (x : FwSlot) : Nat :=
  if !fwForm region x then 2 else if !fwPart p x then 3 else if !(fwCrc x && fwCompat x) then 4 else if !sig then 5 else 0

/-! The boot header (R450 to R453, R478). -/

/-- MiB in bytes. -/
def mib (n : Nat) : Nat := n * 1048576

/-- The SIZE of a region that R451 allows. -/
def regionSizeOk (id size setA : Nat) : Bool :=
  if id = 1 ∨ id = 2 then within (mib 1) (mib 32) size
  else if id = 3 then within 0x10000 (mib 16) size
  else if id = 4 then within 0x10000 (mib 8) size
  else if id = 5 then size == setA
  else if id = 6 ∨ id = 7 then size == 0x10000
  else within 0x10000 (mib 128) size

/-- No two regions overlap. -/
def regionsApart : List Region → Bool
  | [] => true
  | r :: l => l.all (fun q => decide (r.offset + r.size ≤ q.offset ∨ q.offset + q.size ≤ r.offset)) && regionsApart l

/-- The SIZE of a region in a table. -/
def regionSize (l : List Region) (id : Nat) : Nat := ((l.find? (fun r => r.id == id)).map (fun r => r.size)).getD 0

/-- The region table keeps R451, on devices of which the smallest in use has `small` bytes. -/
def regionsOk (l : List Region) (small : Nat) : Bool :=
  l.length == 8 && (List.range 8).all (fun i => l.any (fun r => r.id == i + 1)) && regionsApart l &&
  l.all (fun r => r.offset % 0x10000 == 0 && r.size % 0x10000 == 0 && decide (0x20000 ≤ r.offset ∧ r.offset + r.size ≤ small) &&
    regionSizeOk r.id r.size (regionSize l 4))

/-- Bytes of the smallest device in use under MIRROR (R451, R453). -/
def smallest (ch : List Chan) (mirror : Bool) : Nat :=
  let c0 := ch.getD 0 ⟨0, false⟩
  let c1 := ch.getD 1 ⟨0, false⟩
  mib (if c0.ok && c1.ok && mirror then min c0.size c1.size else if c0.ok then c0.size else c1.size)

/-- A copy is valid (R452). -/
def hdrValid (ch : List Chan) (x : HdrSlot) : Option HdrCopy :=
  match x with
  | .copy h => if h.magic = 0x535A4E42 ∧ h.version = 1 ∧ h.nregion = 8 ∧ h.mirror ≤ 1 ∧ h.crcOk ∧ regionsOk h.regions (smallest ch (h.mirror == 1))
      then some h else none
  | _ => none

/-- The copy in force, with its index (R452). -/
def hdrChoose (ch : List Chan) (l : List HdrSlot) : Option (Nat × HdrCopy) :=
  match (l[0]?).bind (hdrValid ch), (l[1]?).bind (hdrValid ch) with
  | some a, some b => if a.gen < b.gen then some (1, b) else some (0, a)
  | some a, none => some (0, a)
  | none, some b => some (1, b)
  | none, none => none

/-- A copy that is neither valid nor blank (R452). -/
def hdrTorn (ch : List Chan) (l : List HdrSlot) : Bool := l.any (fun x => x != .blank && (hdrValid ch x).isNone)

/-- The header in force. -/
def hdrNow (s : State) : Option HdrCopy :=
  match s.nvm.flash.hdr.getD s.nvm.hdrCopy .blank with
  | .copy h => some h
  | _ => none

/-- The header written into the copy that is not in force, with HDR_GEN + 1 (R452); the flag says that a channel took
it. -/
def hdrWrite (ok0 ok1 : Bool) (f : HdrCopy → HdrCopy) (s : State) : State × Bool :=
  match hdrNow s with
  | none => (s, false)
  | some h =>
    let to_ := otherSlot s.nvm.hdrCopy
    let x := { f h with gen := h.gen + 1 }
    let w := nvmWrite ok0 ok1 (0x10000 * to_) s
    let put (c : HdrSlot) (t : State) := t.updNvm fun n => { n with flash := { n.flash with hdr := lset n.flash.hdr to_ c } }
    if w.2 then ((put (.copy x) w.1).updNvm fun n => { n with hdrCopy := to_, hdrGen := h.gen + 1 }, true)
    else (put .torn w.1, false)

/-- A firmware slot. -/
def fwSlot (s : State) (i : Nat) : FwSlot := s.nvm.flash.fw.getD i ⟨[], true⟩

/-- The SIZE of a region of the header in force. -/
def regionLen (s : State) (id : Nat) : Nat := ((hdrNow s).map (fun h => regionSize h.regions id)).getD 0

end Sys2Proof.Machine
end

