-- ==== Sys2Proof/Machine/Mem.lean ====
section
/-!
DEFINITION. Tiles, the remap table and the strip (12_memory R324 to R338), and the Fix job, whose accesses are the
ones that find a failed tile (95_what_each_step_holds).
-/

namespace Sys2Proof.Machine

open Sys2Proof

/-- A bank changed. -/
def modBank (b : Nat) (f : Bank → Bank) (s : State) : State :=
  s.updMem fun m => { m with banks := kmod Bank.zero m.banks b f }

/-- The physical tile that serves a logical tile (R324). -/
def physOf (k : Bank) (l : Nat) : Nat := kget l k.remap l

/-- The logical tile that a physical tile serves. -/
def spareServes (k : Bank) (p : Nat) : Option Nat :=
  match k.remap.find? (fun e => e.2 == p) with
  | some e => some e.1
  | none => if p < 6144 ∧ (kfind k.remap p).isNone then some p else none

/-- The lowest-indexed free spare of a bank: a physical tile that serves nothing and is neither under test nor
retired (R324, R331, R499). -/
def freeSpare (k : Bank) : Option Nat :=
  let used := k.testing ++ k.retired
  match (List.range 128).find? (fun i => (spareServes k (6144 + i)).isNone && !used.contains (6144 + i)) with
  | some i => some (6144 + i)
  | none => (k.remap.map (fun e => e.1)).find? (fun p => (spareServes k p).isNone && !used.contains p)

/-- SPARE_LOW_ALARM where a bank's FREE has come down to SPARE_LOW, with its record (R337). -/
def spareAlarm (b was : Nat) (s : State) : State :=
  let n := stripFree (bank s b)
  let low := cfg s Addr.MEM_CFG 6 0
  if n ≤ low ∧ low < was then evTrig 0x26 [b, n] (alarm Addr.MEM_STATUS 1 s) else s

/-- Step 4 of R331: the logical tile moves to a free spare, and the old tile is queued for its march test;
without a spare SPARES_OUT is set (R336). -/
def remapTile (b l : Nat) (s : State) : State :=
  let k := bank s b
  match freeSpare k with
  | some sp => spareAlarm b (stripFree k) (modBank b (fun k =>
      { k with remap := kins k.remap l sp, testing := k.testing ++ [physOf k l] }) s)
  | none => evTrig 0x26 [b, stripFree k] (alarm Addr.MEM_STATUS 2 s)

/-- MEM_LAST_ERR (R346). -/
def lastErr (t : TileFail) (outcome : Nat) (s : State) : State :=
  s.updMem fun m => { m with lastRegion := t.region, lastBank := t.bank, outcome := outcome }

/-- Both copies of a CRIT tile fail (R335): the FAULT entry, and the device resets itself. -/
def critLost (t : TileFail) (s : State) : State :=
  deviceReset 7 0 (postFault (bayCode (if t.bank < 16 then 14 else 15)) 0x30 0 s)

/-- Journal entries lost with their tile: they leave the ring, and readers that had not taken them get a gap
(R328, 02_journal R52). -/
def entriesLost (l : List (Nat × Nat)) (s : State) : State :=
  match l.head?, l.getLast? with
  | some a, some b =>
    let s1 := alarm Addr.TOP_CFG_ALARM 2 (s.updJr fun j => { j with ring := j.ring.filter (fun e => !l.contains (epos e)) })
    s1.updGmp fun g => { g with sess := g.sess.map (fun e =>
      match kfind e.2.subs 6 with
      | some u => if posLt u.acked b then (e.1, (packItem 6 (gapItem a b) e.2).1) else e
      | none => e) }
  | _, _ => s

/-- The region's rule for a tile that could not be corrected (R328, R333). -/
def regionRule (t : TileFail) (s : State) : State :=
  if t.region = 1 then entriesLost t.entries s
  else if t.kind = 1 then roverSlotLost t.index s
  else if within 2 5 t.kind then stateLost t.kind 0 t.index s
  else s

/-- A tile poisoned (R331 steps 3 and 4). -/
def poisonTile (t : TileFail) (s : State) : State :=
  let s1 := evTrig 0x1E ([t.region, t.bank] ++ be 4 (t.bank * 6144 + t.tile)) (bump Addr.MEM_CNT_POISON (lastErr t 3 s))
  remapTile t.bank t.tile (modBank t.bank (fun k =>
    { k with poison := if k.poison.contains t.tile then k.poison else k.poison ++ [t.tile] }) s1)

/-- A tile fails its check (R331, R332, R335): the state after it, and whether the data was lost to the access.
A poisoned tile fails at once. -/
def tileFail (t : TileFail) (s : State) : State × Bool :=
  let k := Addr.MEM_BANK_ERR + 4 * t.bank
  if (bank s t.bank).poison.contains t.tile then (s, true)
  else if t.reread then (bumpF k 15 0 1 (bump Addr.MEM_CNT_TRANSIENT (lastErr t 1 s)), false)
  else if t.region = 0 then
    if !t.mirror then (critLost t s, true)
    else
      let s1 := bumpF k 31 16 1 (bump Addr.MEM_CNT_CORRECTED (lastErr t 2 s))
      (if t.verify then s1 else remapTile t.bank t.tile s1, false)
  else (poisonTile t s, true)

/-- A whole-tile write clears the poison of the tiles that held an object (R327): those of a rover's slot, which
its return to INIT rewrites (R116). -/
def poisonClear (b l : Nat) (s : State) : State :=
  modBank b (fun k => { k with poison := k.poison.filter (fun x => x != l) }) s

/-- A failed tile met by an access, with its region's rule (R328, R331); a rover's slot is rewritten whole. -/
def tileAccess (t : TileFail) (s : State) : State × Bool :=
  let r := tileFail t s
  if !r.2 || (t.region == 0) then r
  else
    let s1 := regionRule t r.1
    (if t.kind = 1 then poisonClear t.bank t.tile s1 else s1, true)

/-- FIX_RECORD: the oldest Fix job of a rover ends at a station time (R97, R116, R120); `tile` is a failed tile
its access to the slot met. -/
def execFixRecord (m done : Nat) (nums : FixNums) (tile : Option TileFail) (s : State) : Host.Outcome State Fault Refusal :=
  match takeFix m s.fix.jobs with
  | none => .next s
  | some (j, rest) =>
    let s0 := advTo done s
    match tile with
    | none => .next (fixJobDone m nums j rest s0)
    | some t =>
      let r := tileAccess t s0
      if r.2 then .next r.1 else .next (fixJobDone m nums j rest r.1)

/-- STRIP_END: every tile, hod and poison flag is clear, and the boot goes on (R338, 22_power R510); `us` is how
long the strip took. -/
def execStripEnd (us : Nat) (s : State) : Host.Outcome State Fault Refusal :=
  if s.pcr.phase ≠ .strip then .next s
  else
    let s1 := s.updMem fun m => { m with banks := kmap Bank.zero (fun _ k => { k with poison := [] }) m.banks,
                                         stripUs := sat 8 us, strips := sat 16 (m.strips + 1) }
    .next ((s1.updHod fun h => { h with hods := kmap Hod.zero (fun _ x => { x with used := 0, packets := 0 }) h.hods }).updPcr
      fun p => { p with phase := .boot })

/-- STRIP_OVERRUN: a strip longer than 200 µs is a CORE fault (R338). -/
def execStripOverrun (s : State) : Host.Outcome State Fault Refusal :=
  if s.pcr.phase = .strip then .next (deviceReset 4 0 s) else .next s

end Sys2Proof.Machine
end

