-- ==== Sys2Proof/Machine/Path.lean ====
section
/-!
DEFINITION. A path to the partner that goes down and a state copy that fails (16_pair R413, R422).
-/

namespace Sys2Proof.Machine

open Sys2Proof

/-- A path of the pair: 0 the link, 1 the witness line. -/
def path (s : State) (i : Nat) : PathS := if i = 0 then s.pair.link else s.pair.wit

/-- A path changed. -/
def modPath (i : Nat) (f : PathS → PathS) (s : State) : State :=
  s.updPair fun p => if i = 0 then { p with link := f p.link } else { p with wit := f p.wit }

/-- A copy fails: discarded whole, with COPY_FAIL and reason 1 (R422); a sender only stops. -/
def copyFail (s : State) : State :=
  let s1 := s.updPair fun p => { p with copy := { CopyS.reset with epoch := p.copy.epoch, asked := p.copy.asked } }
  if s.pair.copy.st = .receiving ∨ s.pair.copy.st = .applying then
    evTrig 0x21 ([1] ++ be 4 s.pair.copy.epoch) (bump (Addr.PAIR_CNT + 20) (alarm Addr.PAIR_ALARM 4
      (s1.updPair fun p => { p with sync := false, why := 1 })))
  else s1

/-- A path goes down: its alarm and its record; with the link a copy fails, and eligibility (R413, R420, R422). -/
def pathDown (i : Nat) (s : State) : State :=
  if !(path s i).up then s
  else
    let s1 := evTrig 0x20 [i, 0] (alarm Addr.PAIR_ALARM i (modPath i (fun p => { p with up := false, run := 0 }) s))
    eligWatch s (if i = 0 then copyFail s1 else s1)

end Sys2Proof.Machine
end

