-- ==== Sys2Proof/Machine/Fence.lean ====
section
/-!
DEFINITION. Fencing an engine and starting a bay restart (21_snag_sweep R497, R498, R502, R503; 01_architecture
R28 to R31).
-/

namespace Sys2Proof.Machine

open Sys2Proof

/-- A counter of the sweep (R506). -/
def snagCnt (i : Nat) (s : State) : State := bump (Addr.SNAG_CNT + 4 * i) s

/-- A REPAIR record (R505). -/
def repair (action unit item tile : Nat) (s : State) : State :=
  evTrig 0x25 ([action % 256, unit % 256] ++ be 2 item ++ be 4 tile) s

/-- A bay that R28 marks "Yes". -/
def bayFree (b : Nat) : Bool := within 3 8 b

/-- A bay's record changed. -/
def modBay (b : Nat) (f : BaySt → BaySt) (s : State) : State :=
  s.updSnag fun n => { n with bays := kmod BaySt.zero n.bays b f }

/-- Fix engines in service outside a bay (R502 step 1). -/
def fixOutside (s : State) (b : Nat) : Nat :=
  (engineIds.filter (fun e => kindOf e == 1 && engUsable s e && bayOf e != b)).length

/-- The engines that the checks of step 1 of R502 ask to stay are in service. -/
def bayRoom (s : State) (b : Nat) : Bool :=
  if within 5 8 b then decide ((match s.part with | .szn2560 => 8 | .szn1280 => 3) ≤ fixOutside s b)
  else if b = 3 then engUsable s 1
  else if b = 4 then engUsable s 0
  else true

/-- R29 for a restricted bay: a standby's own sweep, or a farm host's command on the only unit under a global
stop. -/
def bayMay (s : State) (b : Nat) (host : Bool) : Bool :=
  bayFree b || s.pair.role == .standby || (host && s.pair.role == .unpaired && s.safe.latch)

/-- Steps 1 and 2 of R502 done: the bay's engines leave dispatch and its domain is switched off. -/
def startRestart (b : Nat) (s : State) : State :=
  let es := bayEngines s b
  let s1 := es.foldl (fun t e => modEng e (fun g => { g with restart := true }) (evictEngine e t)) s
  let s2 := es.foldl (fun t e => dispatch 31 (kindOf e) t) s1
  let op := s.time.op
  let s3 := (modBay b (fun y => { y with restarts := y.restarts.filter (fun x => decide (op < x + 86400000000000)) ++ [op], asked := false }) s2).updSnag fun n =>
    { n with restart := some ⟨b, op, false⟩ }
  let s4 := dynEval (repair 6 (bayCode b) 0 0 (s3.updPcr fun p => { p with domOn := setBitN p.domOn b false }))
  if b = 1 ∨ within 13 15 b then loseSync 5 s4 else s4

/-- The sweep restarts a bay that it asked for, where it may now (R502, R503). -/
def sweepRestart (b : Nat) (s : State) : State :=
  if !(baySt s b).asked || s.snag.restart.isSome then s
  else if recentRestarts s b < cfg s Addr.SNAG_CFG 12 9 && bayMay s b false && bayRoom s b then startRestart b s
  else s

/-- The sweep's request after a fence (R503): a bay that R28 restricts sets BAY_ATTN instead, but on a standby
that RESTART_STBY allows. -/
def askRestart (b : Nat) (s : State) : State :=
  if !cfgB s Addr.SNAG_CFG 13 then s
  else if bayFree b || (s.pair.role == .standby && cfgB s Addr.SNAG_CFG 14) then
    sweepRestart b (modBay b (fun y => { y with asked := true }) s)
  else if s.pair.role == .standby then s
  else alarm Addr.SNAG_STATUS 11 s

/-- NO_CP stands while both CP engines are fenced (R498, 07_motion_safety R213). -/
def noCpEval (s : State) : State :=
  if (engOf s 0).fenced && (engOf s 1).fenced then faultRaise 7 s else faultEnd 7 s

/-- An engine fenced (R498, R503): its job returns to READY, the record and, where a fault code tells why and the
unit holds the token, the FAULT entry. -/
def fenceEng (e : Nat) (code : Option Nat) (item : Nat) (s : State) : State :=
  if (engOf s e).fenced || !isEngine s.part e then s
  else
    let s1 := dispatch 31 (kindOf e) (evictEngine e (modEng e (fun g => { g with fenced := true }) s))
    let s2 := repair 2 e item 0 (snagCnt 1 s1)
    let s3 := match code with
      | some c => if holdsToken s2 then postFault e c 0 s2 else s2
      | none => s2
    let s4 := if e = 0x3A then pathDown 0 s3 else s3
    let s5 := if e ≤ 1 then noCpEval s4 else s4
    askRestart (bayOf e) s5

end Sys2Proof.Machine
end

