-- ==== Sys2Proof/Machine/Hod.lean ====
section
/-!
DEFINITION. Hods: pointer mismatch, unread timeout, RESET and DROP (12_memory R339 to R347).
-/

namespace Sys2Proof.Machine

open Sys2Proof

/-- A hod changed. -/
def modHod (h : Nat) (f : Hod → Hod) (s : State) : State :=
  s.updHod fun x => { x with hods := kmod Hod.zero x.hods h f }

/-- An alarm bit of HOD_ALARM with the hod that set it (R347). -/
def hodAlarm (b h : Nat) (s : State) : State := alarm Addr.HOD_ALARM b (s.updHod fun x => { x with last := h })

/-- A hod empty, with its pointers at zero. -/
def hodClear (h : Nat) (s : State) : State := modHod h (fun x => { x with used := 0, packets := 0, dropping := false }) s

/-- A hod reset under R342: its contents go, PTR_ERR, the record, and the fault of the bays that must not lose a
packet. SAFE_HOD ends with the reset (07_motion_safety R213). -/
def hodReset (h : Nat) (s : State) : State :=
  let s1 := evTrig 0x1F (be 2 h ++ [1])
    (bumpW Addr.HOD_SEL h Addr.HOD_CNT_PTR_ERR (hodAlarm 0 h (hodClear h s)))
  if h < 16 then faultEnd 3 (faultRaise 3 s1) else if h < 48 then faultRaise 6 s1 else s1

/-- HOD_PTR_MISMATCH: pointer copies disagree, or a word fails its check (R342). -/
def execHodPtrMismatch (hod : Nat) (s : State) : Host.Outcome State Fault Refusal :=
  if hod < 512 then .next (hodReset hod s) else .next s

/-- HOD_UNREAD: the unread timeout of a hod that holds `used` words and `packets` whole packets (R343). -/
def execHodUnread (hod used packets : Nat) (s : State) : Host.Outcome State Fault Refusal :=
  if hod < 512 ∧ 0 < used then
    let s1 := modHod hod (fun x => { x with used := used % 4096, packets := packets % 4096 }) s
    let s2 := evTrig 0x1F (be 2 hod ++ [2]) (bumpW Addr.HOD_SEL hod Addr.HOD_CNT_UNREAD (hodAlarm 1 hod s1))
    if hod < 16 then .next (faultRaise 3 s2)
    else if hod < 48 then .next (faultRaise 6 s2)
    else .next (hodClear hod (fenceEng (hodConsumerOf s hod) (some 0x33) 0 s2))
  else .next s

/-- DROP on a hod (R344): `rest` is what waits of the packet being read, words and whether its end mark is
among them; none where no packet is under way. -/
def hodDrop (h : Nat) (rest : Option (Nat × Bool)) (s : State) : State × Nat :=
  match rest with
  | none => (s, stEmpty)
  | some (n, ended) =>
    (modHod h (fun x => { x with used := x.used - n, packets := x.packets - b2n ended, dropping := !ended })
      (bumpW Addr.HOD_SEL h Addr.HOD_CNT_DROP s), stOk)

/-- A write of HOD_CTRL (R347): by GMP, DROP is refused, and RESET but for a fenced consumer's hod. -/
def hodCtrlWord (gmp : Bool) (rest : Option (Nat × Bool)) (v : Word) (s : State) : State × Nat :=
  let h := cfg s Addr.HOD_SEL 8 0
  if gmp && bit v 1 then (s, stAuth)
  else if bit v 0 then
    if gmp && !(decide (48 ≤ h) && (engOf s (hodConsumerOf s h)).fenced) then (s, stState) else (hodReset h s, stOk)
  else if bit v 1 then hodDrop h rest s
  else (s, stOk)

/-- A HOD_CTRL word by a GMP write, or by a CP engine for the consumer. -/
def hodCmd (src : Option GmpHdr) (rest : Option (Nat × Bool)) (v : Word) (s : State) : State :=
  match src with
  | some h => gmpWord h Addr.HOD_CTRL v 1 (hodCtrlWord true rest v) s
  | none => (hodCtrlWord false rest v s).1

/-- HOD_RESET: a write of 1 to RESET in HOD_CTRL (R342, R345, R347). -/
def execHodReset (src : Option GmpHdr) (s : State) : Host.Outcome State Fault Refusal := .next (hodCmd src none 1#32 s)

/-- HOD_DROP: a write of 1 to DROP in HOD_CTRL (R344, R347). -/
def execHodDrop (src : Option GmpHdr) (rest : Option (Nat × Bool)) (s : State) : Host.Outcome State Fault Refusal :=
  .next (hodCmd src rest 2#32 s)

end Sys2Proof.Machine
end

