-- ==== Sys2Proof/Machine/Boot.lean ====
section
/-!
DEFINITION. The boot sequence (18_boot R449 to R463): memory, header, firmware, keyring, primer image, settings, and
the start of service.
-/

namespace Sys2Proof.Machine

open Sys2Proof

/-! The checks of an image with its settings (R459 to R463). -/

/-- The store with the words of an image over the defaults, and over what stands already. -/
def putWords (l : KMap Word) (s : State) : State :=
  l.foldl (fun t e => match findReg (keyAddr e.1) with
    | some d => setForce e.1 (blend d.primerMask (forceW t e.1) e.2) t
    | none => t) s

/-- The image's words with those of settings over them (R462). -/
def overWords (p : Part) (im : KMap Word) (l : List (Nat × Nat)) : KMap Word :=
  l.foldl (fun m e =>
    let d := dfltOf p e.1
    let mask := match findReg (keyAddr e.1) with
      | some r => r.primerMask
      | none => 0
    kset d m e.1 (blend mask (kget d m e.1) (wordOf e.2))) im

/-- Channels of enabled ports keep R262, and the part has the ports (00_scope R2). -/
def channelsOk (s : State) : Bool :=
  let on (k : Nat) := cfgB s (Addr.MAC_P_CFG + 0x100 * k) 0
  let centre (k : Nat) := portCfg s k 28 16
  let bw (k : Nat) := if bw20 s k then 20 else 10
  (List.range 4).all (fun a => !on a || (decide (a < portCount s.part) && (List.range a).all (fun b => !on b ||
    decide (bw a + bw b ≤ 2 * (if centre a < centre b then centre b - centre a else centre a - centre b)))))

/-- The values checked as one commit, on a state with no permit, no descriptor and no loop in RUN (R461). -/
def valuesOk (p : Part) (words : KMap Word) : Bool :=
  let s := putWords words { State.reset with part := p }
  commitStatus s s == stOk && channelsOk s

/-- A primer image read and checked (R456 to R461): halt code, image, and whether it stands unsigned. `sig` is the
verdict on its signature. -/
def primerCheck (region : Nat) (blocks : KMap (List Nat)) (sig : Bool) (s : State) : Nat × Primer × Bool :=
  let f := primerForm s.part region blocks
  if f.1 ≠ 0 then (f.1, Primer.zero, false)
  else
    let signed := f.2.2.any (fun e => e.1 == 0xFFFF)
    let key := systemOk s 2 3 6
    let bare := lcState s == 0 && !key
    if !bare && !(key && signed && sig) then (4, Primer.zero, false)
    else
      let b := primerBody s.part f.2.1 (primerHash blocks f.2.1) f.2.2
      if b.1 ≠ 0 then (b.1, Primer.zero, false)
      else if valuesOk s.part b.2.words then (0, b.2, bare) else (6, Primer.zero, false)

/-- Static entries as a list by key. -/
def staticsOf (l : List StaticEnt) : KMap Nat := l.foldl (fun m x => kins m (staticKey x.vid x.mac) x.port) []

/-- Static entries placed in an empty bank. -/
def staticsBank (l : List StaticEnt) : KMap EmEnt :=
  l.foldl (fun m x => ((staticPlace x.vid x.mac x.port m).map (fun r => r.1)).getD m) []

/-- The values that come into force: the words, the tables, and the slot they come from. -/
structure BootValues where
  words : KMap Word
  zones : ZoneTab
  rules : RuleTab
  statics : List StaticEnt
  slot : Nat
  reason : Nat
  wcount : Nat

/-- Settings over an image. -/
def settingsValues (p : Part) (im : Primer) (x : Settings) (slot : Nat) : Option BootValues :=
  let words := overWords p im.words x.regs
  let z := match x.zones with
    | some l => zoneFold 0 l ⟨[], [], 0⟩
    | none => (im.zones, none)
  let r := match x.rules with
    | some l => ruleFold 0 l ⟨[], [], 0⟩
    | none => (im.rules, none)
  if valuesOk p words && z.2.isNone && r.2.isNone then
    some ⟨words, z.1, r.1, x.statics.getD im.statics, slot, 0, x.wcount⟩
  else none

/-- The settings of a slot. -/
def setSlot (l : List SetSlot) (i : Nat) : Option Settings :=
  match l.getD i .blank with
  | .valid x => some x
  | _ => none

/-- Why a slot does not qualify, 0 where it does (R463, R470). -/
def setReason (id : FwId) (hash : List Nat) (x : Settings) : Nat :=
  if !within id.setRead id.setFormat x.format then 2 else if x.hash ≠ hash then 3 else 0

/-- The slots that are valid, the greatest WCOUNT first. -/
def setOrder (l : List SetSlot) : List (Nat × Settings) :=
  match setSlot l 0, setSlot l 1 with
  | some a, some b => if a.wcount < b.wcount then [(1, b), (0, a)] else [(0, a), (1, b)]
  | some a, none => [(0, a)]
  | none, some b => [(1, b)]
  | none, none => []

/-- The values chosen at step 7 (R463). -/
def chooseValues (p : Part) (id : FwId) (im : Primer) (l : List SetSlot) : BootValues :=
  let alone (r : Nat) : BootValues := ⟨im.words, im.zones, im.rules, im.statics, 0, r, 0⟩
  let o := setOrder l
  match o.find? (fun e => setReason id im.hash e.2 == 0) with
  | some (i, x) => (settingsValues p im x (i + 1)).getD (alone 4)
  | none => match o with
    | [] => alone 1
    | (_, x) :: _ => alone (setReason id im.hash x)

/-! The steps. -/

/-- A halt (R455): its record where the log is known, and the code in the AON domain. -/
def halt (code : Nat) (s : State) : State :=
  evTrig 0x02 [code] (s.updPcr fun p => { p with phase := .halted, halt := code, lastHalt := code })

/-- A device on a channel that meets R449. -/
def chanGood (c : ChanIn) : Bool := within 1 256 c.size && c.erase64 && c.octal

/-- The channels as their devices answer (R449). -/
def bootChannels (b : BootIn) (s : State) : State :=
  let mk (c : Option ChanIn) : Chan := match c with
    | some x => ⟨x.size, chanGood x⟩
    | none => ⟨0, false⟩
  let c0 := mk b.ch0
  let c1 := mk b.ch1
  let s1 := s.updNvm fun n => { n with flash := b.fitted.getD n.flash, ch := [c0, c1] }
  let s2 := if c0.ok then s1 else alarm Addr.NVM_ALARM 1 s1
  if c1.ok || b.ch1.isNone then s2 else alarm Addr.NVM_ALARM 2 s2

/-- Root faults (15_keys R390). -/
def bootRoots (s : State) : State :=
  let m := s.key.roots.zipIdx.foldl (fun m x => if x.1 = .faulty then m + 2 ^ x.2 else m) 0
  if m = 0 then s else evTrig 0x06 [m] (alarm Addr.KEY_LC_STATUS 12 s)

/-- The first slot of the log that is blank (20_event_recorder R490). -/
def firstBlank : Nat → KMap LogSlot → Nat
  | n, [] => n
  | n, (i, _) :: r => if i = n then firstBlank (n + 1) r else n

/-- The log region known (20_event_recorder R490): TOTAL, and the records that wait. -/
def bootLog (size : Nat) (s : State) : State :=
  let cap := size / 256
  let t := min cap (firstBlank 0 s.evr.log)
  let s1 := s.updEvr fun e => { e with cap := cap, total := t, full := decide (cap ≤ t), logOk := true }
  let n := s1.evr.early
  if n = 0 then evrKick 17 s1 else evTrig 0x0C (be 2 (sat 16 n)) (evrKick 17 (s1.updEvr fun e => { e with early := 0 }))

/-- The boot header chosen (R452), with the log that its table names. -/
def bootHeader (s : State) : Option State :=
  match hdrChoose s.nvm.ch s.nvm.flash.hdr with
  | none => none
  | some (i, h) =>
    let s1 := s.updNvm fun n => { n with hdrCopy := i, hdrGen := h.gen, mirror := h.mirror == 1 }
    let s2 := if hdrTorn s.nvm.ch s.nvm.flash.hdr then alarm Addr.NVM_ALARM 3 s1 else s1
    let s3 := if h.mirror = 1 ∧ (s.nvm.ch.getD 1 ⟨0, false⟩).ok = false then alarm Addr.NVM_ALARM 2 s2 else s2
    some (bootLog (regionSize h.regions 8) s3)

/-- The slot that FW_SEL names, with the header it leaves (19_firmware R478); the flag says that a trial fell back. -/
def bootSelect (s : State) : State × Nat × Bool :=
  match hdrNow s with
  | none => (s, 0, false)
  | some h =>
    if h.trialState = 1 then ((hdrWrite true true (fun x => { x with trialState := 2 }) s).1, h.trial, false)
    else if h.trialState = 2 then
      ((hdrWrite true true (fun x => { x with trial := 0xFF, trialState := 0 }) s).1, h.confirmed, true)
    else (s, h.confirmed, false)

/-- A slot passes step 4 of R454: its layout, its part and its signature, and it was not recorded as failed
(19_firmware R472). -/
def slotGood (b : BootIn) (s : State) (i : Nat) : Bool :=
  s.pcr.failedSlot != some i && fwForm (regionLen s (1 + i)) (fwSlot s i) && fwPart s.part (fwSlot s i) &&
  (if i = 0 then b.sigA else b.sigB)

/-- Every component of a slot installs (19_firmware R472). -/
def slotInstalls (b : BootIn) (s : State) (i : Nat) : Bool :=
  fwCrc (fwSlot s i) && fwCompat (fwSlot s i) && (if i = 0 then b.katA else b.katB)

/-- The keyring chosen (15_keys R398), and pinned blobs loaded (R400). -/
def bootKeys (s : State) : State :=
  let ring (i : Nat) : Option KRing := match s.nvm.flash.keys.getD i .blank with
    | .valid r => some r
    | _ => none
  let c : Nat × KRing := match ring 0, ring 1 with
    | some a, some b => if a.gen < b.gen then (1, b) else (0, a)
    | some a, none => (0, a)
    | none, some b => (1, b)
    | none, none => (0, KRing.empty)
  let s1 := s.updKey fun k => { k with active := c.1, ring := c.2, next := c.2 }
  let s2 := if s.nvm.flash.keys.any (fun x => x == .torn) then alarm Addr.KEY_RING_STATUS 3 s1 else s1
  loadPinned s2

/-- The hods as firmware assigns them (12_memory R340). -/
def bootHods (l : List HodAsg) (s : State) : State :=
  s.updHod fun h => { h with hods := l.foldl (fun m a => if a.hod < 512 then
    kset Hod.zero m a.hod { kget Hod.zero m a.hod with prod := a.prod, cons := a.cons, cap := a.cap } else m) h.hods }

/-- Values and tables put in place (step 8). -/
def bootValues (im : Primer) (v : BootValues) (s : State) : State :=
  let s1 := (putWords v.words s).updRegs fun r => { r with prim := im.words }
  let bank := staticsBank v.statics
  let st := staticsOf v.statics
  let s2 := s1.updLkp fun l => { l with
    pipes := l.pipes.map (fun q => { q with live := bank, shadow := bank }), statics := st, stagedStatics := st,
    rules := v.rules.recs, stagedRules := v.rules.recs, ruleLive := v.rules.bank, ruleShadow := v.rules.bank,
    zoneLive := v.zones.bank, zoneShadow := v.zones.bank }
  let s3 := s2.updScr fun c => { c with cov := { c.cov with zones := v.zones.recs }, staged := v.zones.recs, primZones := im.zones.recs }
  s3.updMemb fun m => { m with binds := im.binds }

/-- What the boot shows of the memory (R470). -/
def bootShows (im : Primer) (v : BootValues) (bare : Bool) (s : State) : State :=
  let h := s.pcr.lastHalt
  let s1 := s.updNvm fun n => { n with
    unsigned := bare, primerLen := im.length, primerHash := im.hash, primStatics := im.statics,
    primRules := im.rules.recs.map (fun e => { e.2 with op := 1, index := e.1 }), records := im.recs,
    setSlot := v.slot, setReason := v.reason, wcount := v.wcount, lastHalt := h }
  let s2 := if 2 ≤ v.reason then alarm Addr.NVM_ALARM 5 s1 else s1
  let s3 := if s.nvm.flash.sets.any (fun x => x == .torn) then alarm Addr.NVM_ALARM 4 s2 else s2
  s3.updPcr fun p => { p with phase := .up, lastHalt := 0 }

/-- Step 8: service begins (R454, R467; 16_pair R409). -/
def bootStart (hods : List HodAsg) (s : State) : State :=
  let mode := cfgB s Addr.PAIR_CFG 0
  let s1 := s.updPair fun p => { p with role := if mode then .seek else .unpaired, why := 1 }
  portsStart (bootHods hods s1)

/-- Steps 5 to 8, once the firmware runs. -/
def bootPrimer (b : BootIn) (s : State) : State :=
  let s1 := loadSystem 2 (bootKeys s)
  let c := primerCheck (regionLen s1 3) s1.nvm.flash.primer b.primerSig s1
  if c.1 ≠ 0 then halt c.1 s1
  else
    let v := chooseValues s1.part s1.nvm.run c.2.1 s1.nvm.flash.sets
    bootStart b.hods (bootShows c.2.1 v c.2.2 (bootValues c.2.1 v s1))

/-- Step 4: the firmware slot (R454; 19_firmware R472, R478). -/
def bootFirmware (b : BootIn) (s : State) : State :=
  let x := bootSelect s
  let s1 := if x.2.2 then
      bump Addr.UPD_CNT_FALLBACK (alarm Addr.UPD_STATUS 17 (evTrig 0x0B [otherSlot x.2.1, 2] x.1))
    else x.1
  let run := if slotGood b s1 x.2.1 then some x.2.1 else if slotGood b s1 (otherSlot x.2.1) then some (otherSlot x.2.1) else none
  match run with
  | none => halt 2 s1
  | some i =>
    if !slotInstalls b s1 i then selfReset (s1.updPcr fun p => { p with failedSlot := some i })
    else
      let back := x.2.2 || i != x.2.1
      let h := hdrNow s1
      let trial := (h.map (fun y => y.trialState == 2 && y.trial == i)).getD false
      let s2 := s1.updNvm fun n => { n with fwSlot := i, fallback := back, run := fwId (fwSlot s1 i) }
      bootPrimer b (s2.updUpd fun u => { u with trial := trial })

/-- BOOT: the sequence of R454 from the end of the strip to the start of service, or to a halt of R455. -/
def execBoot (b : BootIn) (s : State) : Host.Outcome State Fault Refusal :=
  if s.pcr.phase ≠ .boot then .next s
  else
    let s1 := bootRoots (bootChannels b s)
    match bootHeader s1 with
    | none => .next (halt (if lcState s1 = 4 then 7 else 1) s1)
    | some s2 => .next (if lcState s2 = 4 then halt 7 s2 else bootFirmware b s2)

end Sys2Proof.Machine
end

