-- ==== Sys2Proof/Machine/Conf.lean ====
section
/-!
DEFINITION. Conformance checks of fix records against the reservations and zones of their position, and the
warnings and alarms that follow (05_track R152 to R157, 06_zones R167, R168).
-/

namespace Sys2Proof.Machine

open Sys2Proof

/-- The cells of the test set: those whose centre lies within CONF_D of the fix (R153). -/
def Geom.testSet (g : Geom) (x y : Int) : List (Int × Int) :=
  let r := 10 * g.confD
  let c := g.cellAt x y
  let n : Int := r / (10 * g.cell) + 1
  (intRange (c.2 - n) (c.2 + n)).flatMap (fun cy => (intRange (c.1 - n) (c.1 + n)).filterMap (fun cx =>
    let dx := 10 * g.centreX cx - x
    let dy := 10 * g.centreY cy - y
    if dx * dx + dy * dy ≤ (r : Int) * r then some (cx, cy) else none))

/-- A cell is held by a machine at a slot (R148, R153). -/
def ScrCov.mine (c : ScrCov) (cur m slot : Nat) (p : Int × Int) : Bool :=
  cellOk p && (c.holders cur p.1.toNat p.2.toNat slot).any (fun e => e.owner == m - 1)

/-- The zone that governs the cell of a fix, where it lies in the grid (06_zones R163). -/
def zoneOfFix (j : ConfJob) : Option (Nat × Zone) :=
  let c := j.geom.cellAt j.record.x j.record.y
  if cellOk c then governing j.scr.zones c.1.toNat c.2.toNat else none

/-- The check passes (R153, 06_zones R167). -/
def confPass (j : ConfJob) : Bool :=
  let g := j.geom
  let c := g.cellAt j.record.x j.record.y
  let cur := g.slotOf j.sf
  cellOk c && (g.testSet j.record.x j.record.y).all (j.scr.mine cur j.record.source cur) &&
  (forbid j.scr.zones c.1.toNat c.2.toNat g.cls).1 == 0

/-- The machines warned: every other one that holds, at the current slot or the next, an entry whose cell
centre lies within WARN_R of the fix (R157). -/
def warned (j : ConfJob) : List Nat :=
  let g := j.geom
  let cur := g.slotOf j.sf
  let r : Int := 10 * g.warnR
  if g.warnR = 0 then []
  else (j.scr.table.foldl (fun (l : KMap Unit) e =>
    let f := fullSlot (j.scr.entDesc e.2) e.2.slotLo
    let dx := 10 * g.centreX e.2.cx - j.record.x
    let dy := 10 * g.centreY e.2.cy - j.record.y
    if j.scr.held cur e.2 && (f == cur || f == cur + 1) && e.2.owner + 1 != j.record.source &&
      decide (dx * dx + dy * dy ≤ r * r) then kins l (e.2.owner + 1) () else l) []).map (fun e => e.1)

/-- The body of a warning (10_radio_frames R284, 17_host R443). -/
def warnBody (r : FixRec) : List Nat := be 2 r.source ++ be 6 r.epoch ++ be 4 (unsgn 32 r.x) ++ be 4 (unsgn 32 r.y)

/-- One machine warned (R157). -/
def warnOne (r : FixRec) (s : State) (m : Nat) : State := queueWarn m (warnBody r) (bump Addr.SCR_CNT_WARN s)

/-- The consequences of a FAIL (R154, R157). -/
def confFail (j : ConfJob) (s : State) : State :=
  let m := j.record.source
  let pos := (j.sf, j.seq)
  let s1 := if s.safe.permit.testBit (machineBit m) || s.safe.cPermit.testBit (machineBit m) then
      evTrig 0x13 (fixRecWire j.record) (bump Addr.SCR_CNT_CONF_FAIL (withdraw pos m 10 s))
    else s
  let l := warned j
  let s2 := l.foldl (warnOne j.record) s1
  if l.isEmpty then s2 else notify 2 (maskHas m) (.bytes 2 (warnBody j.record)) s2

/-- The alarm of R168, and the governing zone remembered. -/
def zoneAlarm (j : ConfJob) (s : State) : State :=
  let m := j.record.source
  let z := zoneOfFix j
  let code := (z.map (fun e => e.1 + 1)).getD 0
  let s1 := s.updScr fun c => { c with lastZone := kset 0 c.lastZone m code }
  match z with
  | some (i, zn) =>
    if zn.acts 3 && kget 0 s.scr.lastZone m != code then
      let body := be 2 m ++ be 2 i ++ be 6 j.record.epoch ++ [0, 0]
      notify 3 (fun _ => true) (.bytes 5 body) (evTrig 0x15 body (bump Addr.SCR_CNT_ZONE_ALARM s1))
    else s1
  | none => s1

/-- CONFORMANCE_CHECK: the oldest record of a machine that waits for its check (R152 to R157, 06_zones R167,
R168). -/
def confTake (m : Nat) : List ConfJob → Option (ConfJob × List ConfJob)
  | [] => none
  | a :: r => if a.record.source = m then some (a, r) else (confTake m r).map (fun p => (p.1, a :: p.2))

/-- CONFORMANCE_CHECK: the oldest record of a machine that waits is checked at its position. -/
def execConformanceCheck (m : Nat) (s : State) : Host.Outcome State Fault Refusal :=
  match confTake m s.fix.confs with
  | none => .next s
  | some (j, rest) =>
    let ok := confPass j
    let s1 := finishJob 2 m stOk (s.updFix fun f => { f with confs := rest })
    let s2 := modMach m (fun x => { x with conf := ok }) s1
    .next (zoneAlarm j (if ok then s2 else confFail j s2))

end Sys2Proof.Machine
end

