-- ==== Sys2Proof/Machine/Evr.lean ====
section
/-!
DEFINITION. The event recorder's log (20_event_recorder R489 to R493): the end of a record's write, LOG_READ and
LOG_ERASE. Capture and the queue stand in Machine/Ops.lean.
-/

namespace Sys2Proof.Machine

open Sys2Proof

/-- A GMP request that makes no entry and whose work is a job of a class with admission (11_scheduler R304,
R310): the right, the admission, then `f`. -/
def gmpServe (h : GmpHdr) (typ right cls : Nat) (f : Session → State → State × (Nat × List Nat)) (s : State) : State :=
  gmpPlain h typ right (fun x t =>
    let a := admitTo cls t
    if a.2 then f x (bumpW Addr.SCHED_CLASS_SEL cls Addr.SCHED_CLASS_CNT_JOBS a.1) else (a.1, (stBusy, []))) s

/-- An erase that waited for the write in progress is compared and begun, or refused (R493 steps 1 and 2). -/
def eraseBegin (s : State) : State :=
  match s.evr.eraseWait with
  | none => s
  | some (j, total) =>
    let s1 := s.updEvr fun e => { e with eraseWait := none }
    if total ≠ s.evr.total then
      modSession j.sess (fun y => { y with outstanding := y.outstanding - 1 }) (reply j.sess 0x39 j.reqId stStale [] s1)
    else
      let b := s.evr.total
      s1.updEvr fun e => { e with erasing := some { j with before := b } }

/-- The log when a record has been written into its next slot (R489). -/
def slotPut (x : LogSlot) (s : State) : State :=
  s.updEvr fun e => { e with log := kins e.log e.total x, total := e.total + 1, writing := none }

/-- The second attempt at a record whose first write failed: into the next slot, as a LOG_FULL record where
that is the last one, or discarded from a full log (R489, R491). -/
def rewrite (r : EvrRec) (s : State) : State :=
  if s.evr.cap ≤ s.evr.total then bump Addr.EVR_CNT_DISCARDED s
  else if s.evr.total + 1 = s.evr.cap ∧ r.trig ≠ 0x04 then
    alarm Addr.EVR_ALARM 1 (s.updEvr fun e => { e with writing := some (evrFullRec r), again := true, full := true })
  else s.updEvr fun e => { e with writing := some r, again := true }

/-- RECORD_WRITTEN: the write of a record and its read-back end; `same` is the comparison, `ok0` and `ok1` the
channels' programs (R489). -/
def execRecordWritten (same ok0 ok1 : Bool) (s : State) : Host.Outcome State Fault Refusal :=
  match s.evr.writing with
  | none => .next s
  | some r =>
    let n := nvmWrite ok0 ok1 (regionOff s 8 + 256 * s.evr.total) s
    let s1 := n.1
    if same && n.2 then
      let s2 := bump Addr.EVR_CNT_WRITTEN (slotPut (.valid r) s1)
      .next (evrKick 17 (eraseBegin (notify 4 (fun _ => true) (.bytes 6 (evrWire r)) s2)))
    else
      let s2 := bump Addr.EVR_CNT_TORN (alarm Addr.EVR_ALARM 2 (slotPut .torn s1))
      if s.evr.again then .next (evrKick 17 (eraseBegin (bump Addr.EVR_CNT_WRITE_ERR s2)))
      else .next (rewrite r s2)

/-- The bytes of a slot as stored: those of a torn slot are open (R489, R492). -/
def slotBytes (free : Nat) (i : Nat) (x : Option LogSlot) : List Nat :=
  match x with
  | some (.valid r) => evrWire r
  | some .torn => (List.range 256).map fun b => (Config.freeByte (free + 256 * i + b)).toNat
  | none => List.replicate 256 0xFF

/-- LOG_READ served (17_host R439): NEXT, TOTAL and the records from FIRST. -/
def logRead (first count zeros : Nat) (s : State) : State × (Nat × List Nat) :=
  if zeros ≠ 0 ∨ 15 < count then (s, (stField, []))
  else
    let t := s.evr.total
    if count = 0 ∨ t ≤ first then (s, (stEmpty, be 4 first ++ be 4 t))
    else
      let n := min count (t - first)
      let rs := (List.range n).flatMap fun i => slotBytes s.free i (kfind s.evr.log (first + i))
      (s.updFree (· + 256 * n), (stOk, be 4 (first + n) ++ be 4 t ++ rs))

/-- LOG_READ (R492, 17_host R439). -/
def execLogRead (h : GmpHdr) (first count zeros : Nat) (s : State) : Host.Outcome State Fault Refusal :=
  .next (gmpServe h 0x38 0 21 (fun _ => logRead first count zeros) s)

/-- LOG_ERASE (R493, 17_host R439): refused while another runs; otherwise it waits for the write in progress. -/
def execLogErase (h : GmpHdr) (total : Nat) (s : State) : Host.Outcome State Fault Refusal :=
  match gmpIntake h 0x39 s with
  | (s1, none) => .next s1
  | (s1, some x) =>
    if !hasRight s1 x.ident 8 then .next (reply h.sess 0x39 h.reqId stAuth [] s1)
    else if s1.evr.erasing.isSome || s1.evr.eraseWait.isSome then .next (reply h.sess 0x39 h.reqId stBusy [] s1)
    else
      let j : EraseJob := ⟨h.sess, h.reqId, x.ident, 0⟩
      let s2 := modSession h.sess (fun y => { y with outstanding := y.outstanding + 1 })
        (s1.updEvr fun e => { e with eraseWait := some (j, total) })
      .next (if s2.evr.writing.isSome then s2 else eraseBegin s2)

/-- LOG_ERASE_DONE: the region is erased; the first record of the new log is LOG_ERASED (R493 steps 3 and 4). -/
def execLogEraseDone (s : State) : Host.Outcome State Fault Refusal :=
  match s.evr.erasing with
  | none => .next s
  | some j =>
    let r := evrCapture 0x03 ([j.ident] ++ be 4 j.before) s
    let t := now s
    let s1 := s.updEvr fun e =>
      { e with log := [], total := 0, full := false, erasing := none, queue := r :: e.queue, seq := e.seq + 1,
               lost := 0, prevSt := some t, setSince := false }
    let s2 := evrKick 17 s1
    .next (match session s2 j.sess with
      | some x => if x.ident = j.ident then
          modSession j.sess (fun y => { y with outstanding := y.outstanding - 1 }) (reply j.sess 0x39 j.reqId stOk [] s2)
        else s2
      | none => s2)

end Sys2Proof.Machine
end

