-- ==== Sys2Proof/Machine/Gmp.lean ====
section
/-!
DEFINITION. GMP sessions (17_host R429 to R431), register reads (R438), subscriptions (R442 to R445), and the end of
a datagram's reassembly (R428).
-/

namespace Sys2Proof.Machine

open Sys2Proof

/-! Sessions. -/

/-- The enabled identity whose IDENT equals the 16 bytes of a PSK identity (R430). -/
def identOf (s : State) (bytes : List Nat) : Option Nat :=
  (List.range 8).find? (fun k => identOn s k && bytes.length == 16 && identWords s k == (List.range 4).map (byteWord bytes))

/-- The session that an identity holds. -/
def sessOf (s : State) (ident : Nat) : Option Nat := (s.gmp.sess.find? (fun e => e.2.ident == ident)).map (fun e => e.1)

/-- The lowest free session number (R431). -/
def freeSess (s : State) : Option Nat := (List.range 4).find? (fun k => (session s k).isNone)

/-- A refused handshake: its alert and its counter. -/
def hsFail (counter : Nat) (s : State) : State := emit .alert (bump (Addr.NET_CNT + 4 * counter) s)

/-- CLIENT_HELLO: a ClientHello that has passed the cookie exchange, or with `fin` the handshake that it leads to
(R429 to R431). `binder` is the verdict on the binder, and `suite` the cipher suite chosen. -/
def execClientHello (bytes : List Nat) (binder : Bool) (suite port : Nat) (peer : Option Nat) (fin : Bool) (s : State) :
    Host.Outcome State Fault Refusal :=
  let who := identOf s bytes
  let own := who.bind (sessOf s)
  if !unitUp s then .next s
  else if own.isNone ∧ (freeSess s).isNone then .next (hsFail 2 s)
  else
    let s1 := loadSystem 3 s
    match who with
    | none => .next (hsFail 1 s1)
    | some k =>
      if !binder || !systemOk s1 3 1 3 || (lcWorld (lcState s1) == 1 && !radioRootOk s1) then .next (hsFail 1 s1)
      else if !fin then
        .next (match freeSess s1 with
          | some n => s1.updGmp fun g => { g with handshake := if g.handshake.contains n then g.handshake else g.handshake ++ [n] }
          | none => s1)
      else
        let s2 := match own with
          | some o => closeSess o s1
          | none => s1
        match freeSess s2 with
        | none => .next s2
        | some n =>
          let x : Session := ⟨k, suite % 2, port, peer, s2.time.op, 0, [], []⟩
          .next (bump Addr.NET_CNT (s2.updGmp fun g =>
            { g with sess := kins g.sess n x, handshake := g.handshake.filter (fun y => y != n) }))

/-- SESSION_CLOSE: close_notify or a fatal alert on a session (R431). -/
def execSessionClose (k : Nat) (s : State) : Host.Outcome State Fault Refusal := .next (closeSess k s)

/-- IDLE_TIMEOUT: a session without a valid record for IDLE_TO (R431). -/
def execIdleTimeout (k : Nat) (s : State) : Host.Outcome State Fault Refusal :=
  match session s k with
  | some x => if x.lastAt + cfg s Addr.NET_GMP_CFG 9 0 * 1000000000 ≤ s.time.op then .next (closeSess k s) else .next s
  | none => .next s

/-- FRAGMENT_REASSEMBLY_TIMEOUT: a datagram not whole within 100 ms of its first fragment (R428). -/
def execFragmentReassemblyTimeout (id : Nat) (s : State) : Host.Outcome State Fault Refusal :=
  match s.gmp.frags.find? (fun e => e.1 == id) with
  | some e => if e.2 + 100000000 ≤ s.time.op then
      .next (bump (Addr.NET_CNT + 32) (s.updGmp fun g => { g with frags := g.frags.filter (fun x => x.1 != id) }))
    else .next s
  | none => .next s

/-! Reads (R438). -/

/-- What a read of a LO register latches for the reads of its fellows (02_journal R62, 05_track R158, 08_control_loops
R242, 09_radio_ports R267, 11_scheduler R323, 14_station_time R385, 16_pair R426, 20_event_recorder R494). -/
def latchRead (a : Nat) (s : State) : State :=
  if a = Addr.TOP_JRNL_SF_LO then s.updJr fun j => { j with latHi := j.lastSf / 2 ^ 32, latSeq := j.lastSeq }
  else if a = Addr.TIME_NOW_S_LO then
    s.updTime fun t => { t with latHi := t.ns / 1000000000 / 2 ^ 32, latNs := t.ns % 1000000000, latFrac := t.frac / 2 ^ 16 }
  else if a = Addr.EVR_OPSEC_LO then
    let op := s.time.op
    s.updEvr fun e => { e with latHi := op / 1000000000 / 2 ^ 32, latPc := e.pcycle, latSeq := e.seq }
  else if a = Addr.PAIR_ACK_SF_LO then s.updPair fun p => { p with latHi := p.ack.1 / 2 ^ 32, latSeq := p.ack.2 }
  else if a = Addr.SCR_SLOT_LO then
    let cur := slotOfSf s s.jr.sf
    s.updScr fun c => { c with latHi := cur / 2 ^ 32 }
  else if a = Addr.LOOP_LAST_EPOCH_LO then
    let x := ((kfind s.loop.loops (selLoop s)).map (fun l => l.lastEpoch)).getD 0
    s.updLoop fun l => { l with latHi := x / 2 ^ 32 }
  else if a = Addr.SCHED_JOB_WORD then
    let b := match kfind s.sched.jobs (cfg s Addr.SCHED_JOB_SEL 11 0) with
      | some j => jobBytes j
      | none => []
    s.updSched fun c => { c with latched := (List.range 9).map (fun m => byteWord b (m + 1)) }
  else
    let k := idxOf Addr.MAC_P_SWITCH_LO 0x100 4 a
    if k < 4 then modPort k (fun p => { p with latSw := p.sw.getD 0 / 2 ^ 32 }) s else s

/-- One word read: what it shows, its latches, and its RC bits cleared (00_scope R9). -/
def readWord (a : Nat) (s : State) : State × Word := (clearRc a (latchRead a s), readPlain a s)

/-- Consecutive words read in ascending address order (R438). -/
def readWords : Nat → Nat → State → State × List Nat
  | 0, _, s => (s, [])
  | n + 1, a, s =>
    let x := readWord a s
    let y := readWords n (a + 4) x.1
    (y.1, be 4 x.2.toNat ++ y.2)

/-- A span of words lies in one block window, and every word is assigned (R438, R446; 00_scope R7). -/
def spanOk (a n : Nat) : Bool :=
  a % 4 == 0 && blockOf a == blockOf (a + 4 * (n - 1)) && (List.range n).all (fun i => (findReg (a + 4 * i)).isSome)

/-- A READ served (R437, R438). -/
def readOp (a n zero : Nat) (s : State) : State × (Nat × List Nat) :=
  if zero ≠ 0 ∨ 256 < n then (s, (stField, []))
  else if n = 0 then (s, (stEmpty, []))
  else if !spanOk a n then (s, (stField, []))
  else
    let r := readWords n a s
    (r.1, (stOk, r.2))

/-- READ (R438), a job of class 12 (11_scheduler R304). -/
def execRead (h : GmpHdr) (addr count zero : Nat) (s : State) : Host.Outcome State Fault Refusal :=
  .next (gmpServe h 0x01 0 12 (fun _ => readOp addr count zero) s)

/-! Subscriptions (R442 to R445). -/

/-- The entries after a position packed for a session's JOURNAL subscription, led by a gap notice where some have left
the ring (R445). -/
def resend (k : Nat) (pos : Nat × Nat) (s : State) : State :=
  let lost := posLt pos s.jr.gone
  let l := s.jr.ring.filter (fun e => posLt pos (epos e))
  let last := (l.getLast?.map epos).getD (if lost then s.jr.gone else pos)
  let gap := s.jr.gone
  modSession k (fun x =>
    let x1 := if lost then (packItem 6 (gapItem (pos.1, pos.2 + 1) gap) x).1 else x
    let x2 := l.foldl (fun y e => (packItem 6 (.entry e (entrySize e)) y).1) x1
    match kfind x2.subs 6 with
    | some u => { x2 with subs := kins x2.subs 6 { u with sent := last, acked := if lost then gap else u.acked } }
    | none => x2) s

/-- The position just before one. -/
def posPrev (p : Nat × Nat) : Nat × Nat := if 0 < p.2 then (p.1, p.2 - 1) else (p.1 - 1, 2 ^ 32 - 1)

/-- A SUBSCRIBE served (R436, R442). -/
def subscribeOp (k topic zero mask : Nat) (start : Nat × Nat) (s : State) : State × (Nat × List Nat) :=
  let masked := topic = 1 ∨ topic = 2 ∨ topic = 5
  if zero ≠ 0 ∨ !within 1 6 topic ∨ (mask ≠ 0 ∧ ¬ masked) ∨ (start ≠ (0, 0) ∧ topic ≠ 6) then (s, (stField, []))
  else if topic = 6 ∧ !holdsToken s then (s, (stState, []))
  else if topic = 1 ∧ mask = 0 then (s, (stEmpty, []))
  else
    let last := (s.jr.lastSf, s.jr.lastSeq)
    let base := if start = (0, 0) then last else posPrev start
    let s1 := modSession k (fun x => { x with subs := kins x.subs topic ⟨mask, 0, [], base, base⟩ }) s
    (if topic = 6 ∧ start ≠ (0, 0) then resend k base s1 else s1, (stOk, []))

/-- SUBSCRIBE (R442). -/
def execSubscribe (h : GmpHdr) (topic zero mask sf seq : Nat) (s : State) : Host.Outcome State Fault Refusal :=
  .next (gmpPlain h 0x30 0 (fun _ => subscribeOp h.sess topic zero mask (sf, seq)) s)

/-- UNSUBSCRIBE (R437): a topic that is not subscribed gives OK_EMPTY. -/
def execUnsubscribe (h : GmpHdr) (topic zero : Nat) (s : State) : Host.Outcome State Fault Refusal :=
  .next (gmpPlain h 0x31 0 (fun x t =>
    if zero ≠ 0 ∨ !within 1 6 topic then (t, (stField, []))
    else if (kfind x.subs topic).isNone then (t, (stEmpty, []))
    else (freeRing (modSession h.sess (fun y => { y with subs := kdel y.subs topic }) t), (stOk, []))) s)

/-- The position of a JOURNAL_ACK taken (R445, 02_journal R52). -/
def journalAck (k : Nat) (pos : Nat × Nat) (s : State) : State :=
  match (session s k).bind (fun x => kfind x.subs 6) with
  | none => s
  | some u =>
    let s1 := if posLt u.acked pos then
        freeRing (modSession k (fun x => { x with subs := kins x.subs 6 { u with acked := pos } }) s) else s
    if posLt pos u.sent then resend k pos s1 else s1

/-- JOURNAL_ACK (R445): no response is sent. -/
def execJournalAck (h : GmpHdr) (sf seq zero : Nat) (s : State) : Host.Outcome State Fault Refusal :=
  match gmpEnvelope h 0x32 s with
  | (s1, none) => .next s1
  | (s1, some x) => if !hasRight s1 x.ident 0 || zero != 0 then .next s1 else .next (journalAck h.sess (sf, seq) s1)

end Sys2Proof.Machine
end

