-- ==== Sys2Proof/Machine/Pair.lean ====
section
/-!
DEFINITION. The pair's paths, roles and lease (16_pair R409 to R415): frames sent and received, the role table, the
fence, and the commands of PAIR_CTRL.
-/

namespace Sys2Proof.Machine

open Sys2Proof

/-! Frames sent (R411 to R414). -/

/-- The role that STATE shows (R411). -/
def wireRole : Role → Nat
  | .unpaired => 0
  | .seek => 0
  | .active => 1
  | .standby => 2
  | .fenced => 3

/-- A member of a pair, in service (R409). -/
def paired (s : State) : Bool := cfgB s Addr.PAIR_CFG 0 && unitUp s

/-- STATE of the frames sent now. -/
def stateByte (s : State) : Nat := wireRole s.pair.role + 128 * b2n (eligible s)

/-- A pair-link frame sent, with its COUNTER (R411), where the engine is in service. -/
def sendLink (typ : Nat) (body : List Nat) (s : State) : State :=
  if engUsable s 0x3A then
    emit (.pair 0 typ ([stateByte s, s.pair.txCounter] ++ body)) (s.updPair fun p => { p with txCounter := p.txCounter + 1 })
  else s

/-- A witness frame sent (R412); with LEAVING it shows ELIGIBLE clear (R414). -/
def sendWit (typ num : Nat) (leaving : Bool) (s : State) : State :=
  emit (.pair 1 typ [if leaving then wireRole s.pair.role else stateByte s, b2n s.pair.session + 2 * b2n leaving, num, s.key.uid]) s

/-- The HELLO of the pair link, with UID and R. -/
def sendHello (s : State) : State := sendLink 0x01 [s.key.uid, s.pair.ownR] s

/-- The random R drawn where the unit has none (R411). -/
def drawR (s : State) : State :=
  if s.pair.ownR ≠ 0 then s
  else
    let r := (Config.freeWord64 s.free).toNat * 2 ^ 64 + (Config.freeWord64 (s.free + 1)).toNat
    (s.updFree fun n => n + 2).updPair fun p => { p with ownR := r }

/-- HELLO_SEND: every 2 ms a unit in SEEK or FENCED sends HELLO on both paths (R413). -/
def execHelloSend (s : State) : Host.Outcome State Fault Refusal :=
  if paired s && (s.pair.role == .seek || s.pair.role == .fenced) then
    let s1 := drawR (advOp (s.pair.sentAt + 2000000) s)
    let t := s1.time.op
    .next (sendWit 0x01 0 false (sendHello (s1.updPair fun p => { p with sentAt := t })))
  else .next s

/-- RENEW_SEND: every 2 ms the active unit sends a RENEW on both paths; the one before it counts where neither path
has acknowledged it (R414). -/
def execRenewSend (s : State) : Host.Outcome State Fault Refusal :=
  if paired s && s.pair.role == .active then
    let s1 := advOp (s.pair.sentAt + 2000000) s
    let s2 := if s1.pair.unacked.any (fun e => e.1 == s1.pair.num) then bump (Addr.PAIR_CNT + 4) s1 else s1
    let t := s2.time.op
    let n := s2.pair.num + 1
    let s3 := bump Addr.PAIR_CNT (s2.updPair fun p => { p with sentAt := t, num := n, unacked := p.unacked ++ [(n, t)] })
    .next (sendWit 0x02 n false (if s3.pair.session then sendLink 0x02 [n] s3 else s3))
  else .next s

/-! Roles (R410). -/

/-- A change of role, with its record (20_event_recorder R486). -/
def setRole (r : Role) (code : Nat) (s : State) : State :=
  let old := s
  let s1 := s.updPair fun p => { p with role := r, dual := false, handover := none, six := none, hoRx := false }
  dynEval (evTrig 0x0A [roleCode old.pair.role, roleCode r, code] s1)

/-- A unit that returns through SEEK: a standby first sends three witness frames with LEAVING set (R410, R414). -/
def roleReset (s : State) : State :=
  let f (t : State) := sendWit 0x03 0 true t
  deviceReset 7 0 (if s.pair.role = .standby then f (f (f s)) else s)

/-- A COPY_REQ for a whole copy, or for one chunk (R421, R422). -/
def askCopy (chunk : Option Nat) (s : State) : State :=
  let t := s.time.op
  sendLink 0x20 chunk.toList (s.updPair fun p => { p with copy := { p.copy with asked := some t } })

/-- SEEK to STANDBY: UNSYNC reason 1, and a state copy requested (R410). -/
def toStandby (s : State) : State :=
  let t := s.time.op
  let s1 := setRole .standby 0 (s.updPair fun p => { p with sync := false, why := 1, heardAt := some t, copy := { CopyS.reset with epoch := p.copy.epoch } })
  if s1.pair.link.up then askCopy none s1 else s1

/-- The token taken with a ROLE code due at an opening of the journal (R55, R410). -/
def toActive (code : Nat) (s : State) : State :=
  setRole .active code (s.updPair fun p => { p with roleDue := some code, base := none, unacked := [], fwd := [], copy := { CopyS.reset with epoch := p.copy.epoch } })

/-- The ports that are UP, as bits. -/
def portsUp (s : State) : Nat :=
  s.mac.ports.zipIdx.foldl (fun m x => if x.1.st = .up then setBitN m x.2 true else m) 0

/-- The active unit fences itself (R410, R414; 07_motion_safety R204). -/
def fenceSelf (s : State) : State :=
  let t := s.time.op
  let m := portsUp s
  bump (Addr.PAIR_CNT + 32) (setRole .fenced 0 (s.updPair fun p => { p with fencedAt := t, fencedPorts := m, heard := false }))

/-- The partner heard in ACTIVE by an active unit: DUAL_ACTIVE and the FAULT entry once, and the unit of the higher UID
fences (R410). -/
def dualActive (s : State) : State :=
  let s1 := if s.pair.dual then s
    else postFault 0x3A 0x40 0 (alarm Addr.PAIR_ALARM 7 (s.updPair fun p => { p with dual := true }))
  match s1.pair.uid with
  | some u => if u < s1.key.uid then fenceSelf s1 else s1
  | none => s1

/-- What a HELLO or RENEW heard from a partner of a role does (R410). -/
def hearRole (role : Nat) (s : State) : State :=
  match s.pair.role with
  | .seek =>
    if role = 1 then toStandby s
    else if role = 0 then
      match s.pair.uid with
      | some u => if s.key.uid < u then toActive 1 s else s
      | none => s
    else s
  | .standby => if role = 0 then roleReset s else s
  | .active => if role = 1 then dualActive s else s.updPair fun p => { p with dual := false }
  | _ => s

/-! Frames received (R411 to R413). -/

/-- A valid frame on a path: up again after three in a row, and what it shows of the partner (R413, R426). A partner
that leaves ACTIVE ends a copy (R422). -/
def pairSeen (f : PairHdr) (s : State) : State :=
  let t := s.time.op
  let s1 := modPath f.path (fun p =>
    let r := if p.up then 0 else p.run + 1
    { up := p.up || decide (3 ≤ r), lastAt := some t, run := if 3 ≤ r then 0 else r }) s
  let s2 := s1.updPair fun p => { p with partner := some f.role, elig := f.elig }
  if f.role ≠ 1 ∧ (s2.pair.copy.st = .receiving ∨ s2.pair.copy.st = .applying) then copyFail s2 else s2

/-- An invalid frame on a path breaks a run of valid ones. -/
def pairBad (i : Nat) (s : State) : State := modPath i (fun p => { p with run := 0 }) s

/-- Units of equal UID never pair (R411). -/
def sameUid (f : PairHdr) (s : State) : Bool := f.uid == s.key.uid

/-- The checks of R412 on a witness frame. -/
def witIn (f : PairHdr) (s : State) : State × Bool :=
  if !f.ok then (bump (Addr.PAIR_CNT + 12) (pairBad 1 s), false)
  else if sameUid f s then (alarm Addr.PAIR_ALARM 7 s, false)
  else (pairSeen f s, true)

/-- The COUNTER of a link frame exceeds the last accepted one (R411). -/
def counterOk (f : PairHdr) (s : State) : Bool :=
  match s.pair.rxCounter with
  | some c => decide (c < f.counter)
  | none => true

/-- The checks of R411 on a link frame; `r` is the R of a HELLO. A HELLO with another R starts a session, and a unit
that sends no HELLO of its own answers it with one (log entry 60). -/
def linkIn (r : Option Nat) (f : PairHdr) (s : State) : State × Bool :=
  if !engUsable s 0x3A then (s, false)
  else
    let fresh := match r with
      | some x => !(s.pair.session && s.pair.partnerR == x)
      | none => false
    if !f.ok || !(fresh || ((r.isSome || s.pair.session) && counterOk f s)) then
      (bump (Addr.PAIR_CNT + 8) (pairBad 0 s), false)
    else if r.isSome && sameUid f s then (alarm Addr.PAIR_ALARM 7 s, false)
    else
      let s1 := if fresh then
          let s2 := drawR s
          let s3 := s2.updPair fun p => { p with session := true, partnerR := r.getD 0, txCounter := 0 }
          if s3.pair.role = .active ∨ s3.pair.role = .standby then sendHello s3 else s3
        else s
      (pairSeen f (s1.updPair fun p => { p with rxCounter := some f.counter, uid := if r.isSome then some f.uid else p.uid }), true)

/-- A frame from the partner taken in: the state after its checks, and whether it is valid (R411 to R413). -/
def pairIn (r : Option Nat) (f : PairHdr) (s : State) : State × Bool :=
  if !paired s then (s, false) else if f.path = 0 then linkIn r f s else if f.path = 1 then witIn f s else (s, false)

/-- A frame that only the pair link carries (R411). -/
def linkOnly (f : PairHdr) (s : State) : State × Bool := if f.path = 0 then pairIn none f s else (s, false)

/-- HELLO: a HELLO on either path (R410, R411). -/
def execHello (f : PairHdr) (r : Nat) (s : State) : Host.Outcome State Fault Refusal :=
  let x := pairIn (some r) f s
  if x.2 then .next (hearRole f.role (x.1.updPair fun p => { p with uid := some f.uid })) else .next x.1

/-- RENEW: a RENEW on either path; the standby's lease base moves, and it acknowledges (R414, R415). -/
def execRenew (f : PairHdr) (num : Nat) (s : State) : Host.Outcome State Fault Refusal :=
  let x := pairIn none f s
  if !x.2 then .next x.1
  else
    let s1 := hearRole f.role x.1
    if s1.pair.role ≠ .standby then .next s1
    else
      let t := s1.time.op
      let s2 := s1.updPair fun p => { p with heardAt := some t }
      .next (if f.path = 0 then sendLink 0x03 [num] s2 else sendWit 0x03 num false s2)

/-- PAIR_ACK: an ACK; the lease base is the send time of the highest NUM acknowledged (R414). -/
def execPairAck (f : PairHdr) (num : Nat) (s : State) : Host.Outcome State Fault Refusal :=
  let x := pairIn none f s
  if !x.2 || x.1.pair.role != .active then .next x.1
  else match x.1.pair.unacked.find? (fun e => e.1 == num) with
    | some e => .next (x.1.updPair fun p => { p with base := some e.2, unacked := p.unacked.filter (fun y => decide (num < y.1)) })
    | none => .next x.1

/-- PATH_DOWN_TIMEOUT: no valid frame on a path for 6 ms (R413). -/
def execPathDownTimeout (i : Nat) (s : State) : Host.Outcome State Fault Refusal :=
  match (path s i).lastAt with
  | some t => if i < 2 ∧ (path s i).up then .next (pathDown i (advOp (t + 6000000) s)) else .next s
  | none => .next s

/-- FENCE: 10 ms after its lease base the active unit fences, while its partner is eligible (R414). -/
def execFence (s : State) : Host.Outcome State Fault Refusal :=
  match s.pair.base with
  | some b => if paired s && s.pair.role == .active && s.pair.elig then .next (fenceSelf (advOp (b + 10000000) s)) else .next s
  | none => .next s

/-! PAIR_CTRL (R423, R424, R426). -/

/-- LAST_STATUS of PAIR_CTRL_STATUS. -/
def pairNote (st : Nat) (s : State) : State := s.updPair fun p => { p with ctrlStatus := st }

/-- The status of a HANDOVER request at its position (R423). -/
def handoverStatus (force : Bool) (s : State) : Nat :=
  let may := s.pair.elig || (force && s.safe.cLatch && s.pair.link.up)
  firstErr stOk [(s.pair.role != .active || !may || s.time.set.isSome || s.time.hold.isSome, stState),
    (s.pair.handover.isSome, stBusy)]

/-- A write of PAIR_CTRL at its position. A unit that replays it takes the handover from the entries that follow. -/
def pairCtrlWord (replay : Bool) (v : Word) (s : State) : State × Nat :=
  let st := if replay then stOk
    else if bit v 2 then (if v = 4#32 then stState else stField)
    else if bit v 0 then handoverStatus (bit v 1) s else stOk
  if replay || isErr st || !bit v 0 then (pairNote st s, st)
  else (pairNote st (s.updPair fun p => { p with handover := some (bit v 1) }), st)

/-- HANDOVER: a write of 1 to HANDOVER in PAIR_CTRL, with FORCE or without (R423). -/
def execHandover (h : GmpHdr) (force : Bool) (s : State) : Host.Outcome State Fault Refusal :=
  let v : Word := if force then 3#32 else 1#32
  .next (gmpWord h Addr.PAIR_CTRL v 1 (pairCtrlWord false v) s)

/-- A valid frame from the partner was received on a path within the last 6 ms (R424). -/
def heardLately (s : State) (i : Nat) : Bool :=
  match (path s i).lastAt with
  | some t => decide (s.time.op < t + 6000000)
  | none => false

/-- The TAKE_ALONE write that a unit in SEEK serves (R424). -/
def takeAloneOp (v : Word) (s : State) : State × (Nat × List Nat) :=
  let st := firstErr stOk [(v != 4#32, stField), (s.pair.role != .seek || !s.safe.latch || !s.time.valid, stState),
    (heardLately s 0 || heardLately s 1, stState)]
  if st = stOk then (pairNote st (toActive 3 s), (st, indexBody 0xFFFF)) else (pairNote st s, (st, indexBody 0))

/-- A WRITE that holds only the PAIR_CTRL word with TAKE_ALONE, in SEEK (R424): neither journalled nor cached. -/
def takeAlone (h : GmpHdr) (v : Word) (s : State) : State :=
  gmpPlain h 0x02 1 (fun _ => takeAloneOp v) s

/-- TAKE_ALONE: a write of PAIR_CTRL with TAKE_ALONE 1; `v` holds its other bits (R424). -/
def execTakeAlone (h : GmpHdr) (v : Word) (s : State) : Host.Outcome State Fault Refusal :=
  let w := v ||| 4#32
  if s.pair.role = .seek then .next (takeAlone h w s)
  else .next (gmpWord h Addr.PAIR_CTRL w 1 (pairCtrlWord false w) s)

end Sys2Proof.Machine
end

