-- ==== Sys2Proof/Machine/Mark.lean ====
section
/-!
DEFINITION. The opening of a superframe: its SF_MARK with the time-driven actions taken there, and the entries bound to
the opening (02_journal R43, R47, R48, R55; 14_station_time R376, R377; 16_pair R416, R421, R423; 18_boot R466, R468).
-/

namespace Sys2Proof.Machine

open Sys2Proof

/-! The actions of a mark, which a unit takes alike for its own marks and for those it replays. -/

/-- Words written to Superframe registers that are due (00_scope R14). -/
def sfqApply (sf : Nat) (s : State) : State :=
  let mask (k : Nat) : Nat := match findReg (keyAddr k) with
    | some d => d.tagMask .sframe
    | none => 0
  let s1 := (s.regs.sfq.filter (fun e => decide (e.1 ≤ sf))).foldl
    (fun t e => setForce e.2.1 (blend (mask e.2.1) (forceW t e.2.1) e.2.2) t) s
  s1.updRegs fun r => { r with sfq := r.sfq.filter (fun e => !decide (e.1 ≤ sf)) }

/-- HOSTLESS at the mark of `sf` (18_boot R468). -/
def hostlessMark (sf : Nat) (s : State) : State :=
  let on := cfgB s Addr.NVM_POLICY 0 && decide (s.jr.lastReq + cfg s Addr.NVM_POLICY 12 1 * 50 ≤ sf)
  s.updJr fun j => { j with hostless := on }

/-- The round of the mark, which HOSTLESS suppresses (18_boot R468; 06_zones R175). -/
def roundAt (pos : Nat × Nat) (s : State) : State :=
  if s.jr.hostless then s.updScr fun c => { c with roundSf := pos.1 } else roundMark pos s

/-- The covered state from which the next beacons are built (R48). -/
def snapMark (s : State) : State :=
  s.updSafe fun b => { b with snapPrev := b.snap, snap := ⟨b.cPermit, b.cLatch, b.cGroups, b.epoch⟩, wdSince := 0, missed := 0 }

/-- The lease checks of a mark (07_motion_safety R200). -/
def leasesMark (s : State) : State := (machinesIn s.safe.cPermit).foldl (fun t m => leaseCheck m t) s

/-- The time-driven actions at the SF_MARK of `sf` (R47), whose mark before was that of `prev`. -/
def markApply (prev sf : Nat) (s : State) : State :=
  let pos := (sf, 0)
  let s1 := hostlessMark sf (sfqApply sf (snapMark (mirrorUpdate prev s)))
  let s2 := (List.range (portCount s.part)).foldl (fun t k => planSwitch k sf t) s1
  let s3 := refMark sf (membMark s2)
  let s4 := roundAt pos (slotAdvance pos s3)
  loopsMark pos (leasesMark (ageMark pos s4))

/-- The SF_MARK entry of `sf` written by the sequencer, with its actions. -/
def writeMark (sf : Nat) (s : State) : State :=
  let prev := s.jr.sf
  let s1 := s.updJr fun j => { j with sf := sf, nextSeq := 0 }
  let s2 := jWrite 0 (sfStart sf) .sfMark (s1.updTime fun t => { t with jump := false })
  let t := s2.time.op
  markApply prev sf (if s2.upd.trial && s2.upd.trialFrom.isNone then s2.updUpd fun u => { u with trialFrom := some t } else s2)

/-! What follows the mark (R55). -/

/-- The place of a held entry in the order of R44. -/
def heldRank : Payload → Nat
  | .estop _ => 0
  | .fault _ _ _ => 1
  | .stateLoss _ _ _ => 2
  | .role _ => 3
  | _ => 4

/-- A held entry written, with its effect at its position (14_station_time R377). -/
def writeHeld (p : Payload) (s : State) : State :=
  let t := jWrite 0 (now s) p s
  match p with
  | .estop b => covEstop b t
  | .fault u c ph => faultRecord (covFault u c ph t)
  | .stateLoss k f i => covLoss (lastPos t) k f i (lossRecord (bump Addr.MEM_CNT_STATE_LOSS t))
  | _ => t

/-- The entries held back, in the order of R44. -/
def heldWrite (s : State) : State :=
  let l := s.jr.held
  let s1 := s.updJr fun j => { j with held := [] }
  ((List.range 5).flatMap (fun r => l.filter (fun p => heldRank p == r))).foldl (fun t p => writeHeld p t) s1

/-- The ROLE entry that is due at this opening (R55; 16_pair R410). -/
def roleWrite (s : State) : State :=
  match s.pair.roleDue with
  | some c => jWrite 0 (now s) (.role c) (s.updPair fun p => { p with roleDue := none })
  | none => s

/-- Every notification built and sent at a boundary (17_host R443; log entry 10). -/
def notifyFlush (s : State) : State :=
  let build (x : Session) : Session × Nat :=
    [1, 2, 3, 4, 5, 6].foldl (fun (a : Session × Nat) t => let r := buildNotify t a.1; (r.1, a.2 + b2n r.2)) (x, 0)
  s.gmp.sess.foldl (fun t e =>
    let r := build e.2
    let t1 := if r.2 = 0 then t else bumpF (Addr.NET_CNT + 24) 31 0 r.2 t
    let port := notifyPort t1 r.1
    let t2 := r.1.queue.foldl (fun u m => emit (.notify port e.1 m.topic m.nseq m.items) u) t1
    t2.updGmp fun g => { g with sess := kins g.sess e.1 { r.1 with queue := [] } }) s

/-- The DIGEST frame of a superframe (16_pair R419). -/
def digestSend (s : State) : State :=
  if (s.pair.role == .active || s.pair.role == .standby) && s.pair.session && s.pair.link.up then
    sendLink 0x30 (s.jr.digest ++ [s.jr.gen, s.nvm.run.version, s.nvm.run.build, s.nvm.run.cls]) s
  else s

/-! The state copy at P0 (16_pair R421). -/

/-- The configuration words that differ from their defaults. -/
def coveredWords (s : State) : KMap Word :=
  s.regs.force.filterMap (fun e =>
    match findReg (keyAddr e.1) with
    | some d =>
      let w := blend d.heldMask (dfltOf s.part e.1) e.2
      if w = dfltOf s.part e.1 then none else some (e.1, w)
    | none => none)

/-- The covered state as a copy carries it (16_pair R421). -/
def coveredOf (s : State) : Covered :=
  { words := coveredWords s, staged := s.regs.staged, sfq := s.regs.sfq, jr := { s.jr with ring := [], partner := none },
    fix := s.fix, scr := s.scr, safe := s.safe, memb := s.memb, loop := s.loop, mac := s.mac, lkp := s.lkp,
    ring := s.key.ring, admitTo := s.sched.admitTo, admitSf := s.sched.admitSf, set := s.time.set, hold := s.time.hold }

/-- COPY_BEGIN, the chunks and COPY_END sent after the mark that is P0; NCHUNK is free. -/
def copyStart (s : State) : State :=
  if s.pair.copy.st = .sending ∧ s.pair.copy.p0 = none then
    let n := (Config.freeWord64 s.free).toNat % 2 ^ 32
    let sf := s.jr.sf
    let e := s.pair.copy.epoch
    let t := s.time.op
    let s1 := (s.updFree fun f => f + 1).updPair fun p => { p with copy := { p.copy with p0 := some sf, nchunk := n, since := t } }
    let s2 := sendLink 0x21 ([e, sf, s.jr.gen] ++ s.jr.digest ++ [s.nvm.run.cls, n]) (s1.updJr fun j => { j with partner := some (sf, 0) })
    sendLink 0x23 [e, n] (emit (.copy e (coveredOf s)) s2)
  else s

/-- What stands after the SF_MARK of an opening, in the order of R55. -/
def afterMark (s : State) : State :=
  digestSend (notifyFlush (heldWrite (commitDue (roleWrite (copyStart s)))))

/-- The opening of superframe `sf` by the sequencer. -/
def openSf (sf : Nat) (s : State) : State := afterMark (portsRise (writeMark sf s))

/-- Marks for the superframes after the newest mark up to `m` (16_pair R416): each of them counts as missed by every
port (07_motion_safety R201). -/
def catchUp : Nat → State → State
  | 0, s => s
  | n + 1, s =>
    let all := 2 ^ portCount s.part - 1
    let s1 := writeMark (s.jr.sf + 1) (s.updSafe fun b => { b with missed := all })
    catchUp n (s1.updSafe fun b => { b with missed := all })

/-- The live map and latches of a unit that takes the token (07_motion_safety R204): the covered state, with its own
inputs and fault conditions on top. -/
def liveFollow (s : State) : State :=
  let own := s.safe.input != .inputRun || s.safe.faults != 0
  dynEval (s.updSafe fun b =>
    let l := b.cLatch || own
    { b with latch := l, groups := b.cGroups, permit := if l then 0 else b.cPermit })

/-- The token taken over or taken again at the present instant (16_pair R416, R417): marks to the present superframe,
the ROLE entry, and the first superframe in which the unit may send. Own inputs that differ from the journal's enter it. -/
def takeToken (code : Nat) (s : State) : State :=
  let m := sfOf (now s)
  let s1 := setRole .active code (s.updPair fun p => { p with base := none, unacked := [], fwd := [], copy := CopyS.reset })
  let all := 2 ^ portCount s.part - 1
  let s2 := (s1.updJr fun j => { j with started := true, partner := none }).updSafe fun b => { b with missed := all }
  let s3 := if s2.time.hold.isSome then s2 else catchUp (m - s2.jr.sf) s2
  let from_ := (now s + 1000000 + 19999999) / 20000000
  let s4 := s3.updPair fun p => { p with roleDue := some code, txFrom := max from_ (m + 1) }
  let s5 := if s4.time.hold.isSome then s4 else commitDue (roleWrite s4)
  let s6 := liveFollow (s5.updMac fun c => { c with first := some m })
  if s6.safe.input ≠ s6.safe.cInput then let b := estopByte s6; post (.estop b) (covEstop b) s6 else s6

/-- TAKEOVER: 14 ms after its lease base an eligible standby takes the token (16_pair R415, R416); one that is not
eligible resets (R410). -/
def execTakeover (s : State) : Host.Outcome State Fault Refusal :=
  match s.pair.role, s.pair.heardAt with
  | .standby, some h =>
    let s1 := advOp (h + 14000000) s
    if !eligible s1 then .next (roleReset s1)
    else if s1.pair.partner ≠ some 1 then .next s1
    else .next (bump (Addr.PAIR_CNT + 24) (alarm Addr.PAIR_ALARM 5 (takeToken 5 s1)))
  | _, _ => .next s

/-- RETAKE_WAIT_EXPIRY: a fenced unit retakes the token, or resets (16_pair R410, R417). -/
def execRetakeWaitExpiry (s : State) : Host.Outcome State Fault Refusal :=
  if s.pair.role ≠ .fenced then .next s
  else
    let s1 := advOp (s.pair.fencedAt + cfg s Addr.PAIR_CFG 7 2 * 20000000) s
    if cfgB s1 Addr.PAIR_CFG 1 && !s1.pair.heard && s1.pair.fencedPorts != 0 then
      .next (bump (Addr.PAIR_CNT + 36) (alarm Addr.PAIR_ALARM 6 (takeToken 4 s1)))
    else .next (roleReset s1)

/-! Handover (16_pair R423). -/

/-- A pending handover at the close of the present superframe: ROLE 0x06 as its last entry, HANDOVER, and STANDBY. -/
def handoverClose (s : State) : State :=
  let s1 := jWrite 0 (now s) (.role 6) s
  let s2 := sendLink 0x31 [] s1
  let t := s2.time.op
  bump (Addr.PAIR_CNT + 28) (setRole .standby 6 (s2.updPair fun p => { p with sync := true, why := 0, heardAt := some t, copy := CopyS.reset }))

/-- The boundary that the next mark stands at: the next superframe, or after a forward set the first boundary at or
after the new time (14_station_time R376). -/
def nextMark (s : State) : Nat := if s.time.jump then (now s + 19999999) / 20000000 else s.jr.sf + 1

/-- SF_MARK: the superframe boundary (R43, R47). A hold passes it over (14_station_time R377), and a unit that writes
no entries keeps what goes with the boundary itself. -/
def execSfMark (s : State) : Host.Outcome State Fault Refusal :=
  if !onDuty s then
    .next (digestSend (notifyFlush (portsRise (advTo (sfStart (sfOf (now s) + 1)) s))))
  else if s.time.hold.isSome then .next s
  else if s.pair.handover.isSome then .next (handoverClose (advTo (sfStart (nextMark s)) s))
  else
    let sf := nextMark s
    .next (openSf sf (advTo (sfStart sf) s))

/-- TIME_HOLD_END: the superframe number passes the SF of the TIME_EVENT entry, and the SF_MARK ends the hold
(14_station_time R377, R378). -/
def execTimeHoldEnd (s : State) : Host.Outcome State Fault Refusal :=
  match s.time.hold with
  | none => .next s
  | some h =>
    let s1 := (advTo (sfStart (h + 1)) s).updTime fun t => { t with hold := none }
    if onDuty s1 then .next (openSf (sfOf (now s1)) s1) else .next (portsRise s1)

/-- JOURNAL_START: the first superframe boundary after VALID, with generation 1 and its digest in force (18_boot R466). -/
def execJournalStart (s : State) : Host.Outcome State Fault Refusal :=
  if unitUp s && s.time.valid && holdsToken s && !s.jr.started then
    let sf := sfOf (now s) + 1
    let s1 := advTo (sfStart sf) s
    let d := digestOf s1
    let s2 := s1.updJr fun j => { j with started := true, sf := sf - 1, gen := 1, digest := d, lastReq := sf }
    let s3 := s2.updMac fun m => { m with first := some sf }
    let s4 := s3.updSafe fun b => { b with cInput := b.input, cFaults := b.faults }
    let s5 := s4.updFix fun f => { f with rx0 := RefRx.zero, rx1 := RefRx.zero, primary := none, acq := [Acq.zero, Acq.zero] }
    let s6 := s5.updPair fun p => { p with txFrom := sf + 1 }
    let n := s6.nvm
    let rec_ := be 4 n.run.version ++ be 4 n.run.build ++ [n.setReason, n.lastHalt, n.fwSlot]
    .next (afterMark (evTrig 0x01 rec_ (portsRise (writeMark sf s6))))
  else .next s

end Sys2Proof.Machine
end

