-- ==== Sys2Proof/Machine/Pcr.lean ====
section
/-!
DEFINITION. Power, clocks, reset, standby and temperature (22_power_clocks_reset R507 to R518).
-/

namespace Sys2Proof.Machine

open Sys2Proof

/-- A reset source acts; in standby only VSTBY is supplied, and only a wake or an AON power-on ends it. -/
def resetBy (cause rail : Nat) (s : State) : State :=
  if s.pcr.phase = .standby then s else deviceReset cause rail s

/-- AON_POWER_ON: the AON store is cleared and PWR_EN rises (R513, R514, R517). -/
def execAonPowerOn (s : State) : Host.Outcome State Fault Refusal :=
  .next (emit (.pwrEn true) (deviceReset 0 0 (s.updPcr fun p => { p with rails := 1, pllLock := false, refOk := false })))

/-- RESET_N held low for 1 µs (R513 code 2). -/
def execResetN (s : State) : Host.Outcome State Fault Refusal := .next (resetBy 2 0 s)

/-- CLOCK_LOSS: REF_IN is lost, or the PLL alone loses lock (R512, R513 code 3). -/
def execClockLoss (refLost : Bool) (s : State) : Host.Outcome State Fault Refusal :=
  .next (resetBy 3 0 (s.updPcr fun p => { p with pllLock := false, refOk := p.refOk && !refLost }))

/-- CORE_FAULT (R513 code 4). -/
def execCoreFault (s : State) : Host.Outcome State Fault Refusal := .next (resetBy 4 0 s)

/-- WATCHDOG: it acts only while a CP engine is in service (R513 code 5). -/
def execWatchdog (s : State) : Host.Outcome State Fault Refusal :=
  if engUsable s 0 || engUsable s 1 then .next (resetBy 5 0 s) else .next s

/-- A rail in or out of its window (R507, R520). -/
def railSet (r : Nat) (isIn : Bool) (s : State) : State := s.updPcr fun p => { p with rails := setBitN p.rails r isIn }

/-- The SAFE bay held in reset by its supply (R507): R203, with the fault that stands. -/
def safeHeld (s : State) : State :=
  s.updSafe fun b => { safeAfterReset s with faults := b.faults, cFaults := b.cFaults }

/-- RAIL_TRIP: a rail's monitor trips (R507). `deep`: VDD_SAFE falls below 0.65 V; `back`: the rail is in its
window again after the excursion. -/
def execRailTrip (r : Nat) (deep back : Bool) (s : State) : Host.Outcome State Fault Refusal :=
  let s1 := railSet r back s
  if r = 0 then execAonPowerOn s
  else if 10 < r then .next s
  else if s.pcr.phase = .standby then .next s1
  else if 3 ≤ r then .next (deviceReset 1 r s1)
  else
    let s2 := faultRaise 5 s1
    if deep then .next (safeHeld s2) else .next s2

/-- RAIL_GLITCH: an excursion shorter than 2 µs (R507, R520). -/
def execRailGlitch (r : Nat) (s : State) : Host.Outcome State Fault Refusal :=
  if r ≤ 10 then .next (alarm Addr.PCR_ALARM 1 (alarm Addr.PCR_RAIL_STATUS (16 + r) s)) else .next s

/-- RESET_RELEASE: the source has ended, rails and PLL are ready, the domains are switched on in order and the
CORE bay leaves reset (R509, R510, R513; 20_event_recorder R484). A power-on reset completes half-blown pairs of
fuses (15_keys R386). -/
def execResetRelease (s : State) : Host.Outcome State Fault Refusal :=
  if s.pcr.phase ≠ .held then .next s
  else
    let s1 := s.updPcr fun p =>
      { p with phase := .strip, rails := 0x7FF, refOk := true, pllLock := true, safeOsc := true, domOn := domMask s.part }
    let s2 := s1.updEvr fun e => { e with pcycle := e.pcycle + 1 }
    .next (if s.pcr.cause = 0 then s2.updKey fusesComplete else s2)

/-! PCR_CTRL (R515, R516). -/

/-- R515 refuses a unit that holds the token unless the global latch is set. -/
def pcrRefused (s : State) : Bool := holdsToken s && !s.safe.cLatch

/-- A write of PCR_CTRL at its position (R515, R516, R520). An accepted RESET acts 10 ms later. -/
def pcrCtrlWord (v : Word) (s : State) : State × Nat :=
  let st :=
    if bit v 0 && bit v 1 then stField
    else if bit v 0 then firstErr stOk [(pcrRefused s, stState)]
    else if bit v 1 then firstErr stOk
      [(pcrRefused s, stState), (s.pcr.wakeLow, stState), (s.snag.restart.isSome, stBusy)]
    else stOk
  let t := s.time.op
  let s1 := s.updPcr fun p => { p with ctrlStatus := st }
  if st ≠ stOk then (s1, st)
  else if bit v 0 then (s1.updPcr fun p => { p with resetAt := some (t + 10000000) }, st)
  else if bit v 1 then (s1.updPcr fun p => { p with phase := .drain }, st)
  else (s1, st)

/-- The reset that an accepted RESET brings 10 ms after its response (R515). -/
def pcrFinish (s : State) : State :=
  match s.pcr.resetAt with
  | some t => deviceReset 6 0 (advOp t s)
  | none => s

/-- PCR_RESET: a GMP write of 1 to RESET in PCR_CTRL (R515). -/
def execPcrReset (h : GmpHdr) (s : State) : Host.Outcome State Fault Refusal :=
  .next (pcrFinish (gmpWord h Addr.PCR_CTRL 1#32 1 (pcrCtrlWord 1#32) s))

/-- STANDBY: a GMP write of 1 to STANDBY in PCR_CTRL (R516). -/
def execStandby (h : GmpHdr) (s : State) : Host.Outcome State Fault Refusal :=
  .next (gmpWord h Addr.PCR_CTRL 2#32 1 (pcrCtrlWord 2#32) s)

/-- No program or erase of the non-volatile memory is under way and the recorder's queue is empty (R516 step 1). -/
def drained (s : State) : Bool :=
  s.evr.writing.isNone && s.evr.erasing.isNone && s.evr.eraseWait.isNone && (s.evr.queue.isEmpty || !s.evr.logOk) &&
  s.nvm.writing.isNone && s.key.writes.isEmpty && s.upd.st != .erasing

/-- A wake out of standby (R517). -/
def wakeUp (s : State) : State :=
  emit (.pwrEn true) (s.updPcr fun p => { p with phase := .held, wakePend := false })

/-- STANDBY_ENTERED: the domains are off and PWR_EN is low; the next start has cause 9. A wake that came
meanwhile is served at once (R516, R517). -/
def execStandbyEntered (s : State) : Host.Outcome State Fault Refusal :=
  if s.pcr.phase ≠ .drain || !drained s then .next s
  else
    let pend := s.pcr.wakePend
    let s1 := emit (.pwrEn false) ((deviceReset 9 0 s).updPcr fun p => { p with phase := .standby, rails := 1, domOn := 1 })
    .next (if pend then wakeUp s1 else s1)

/-- WAKE: the filtered WAKE_N changes (R517). -/
def execWake (isLow : Bool) (s : State) : Host.Outcome State Fault Refusal :=
  let s1 := s.updPcr fun p => { p with wakeLow := isLow }
  if !isLow then .next s1
  else if s.pcr.phase = .standby then .next (wakeUp s1)
  else if s.pcr.phase = .drain then .next (s1.updPcr fun p => { p with wakePend := true })
  else .next s1

/-! Temperature (R518). -/

/-- A signed 10-bit field of a word (R520). -/
def temp10 (w : Nat) : Int := if w < 512 then (w : Int) else (w : Int) - 1024

/-- TEMP_READ: the junction sensor's reading in degrees (R518, R513 code 8). -/
def execTempRead (t : Int) (s : State) : Host.Outcome State Fault Refusal :=
  if s.pcr.phase = .held || s.pcr.phase = .standby then .next s
  else
    let s1 := s.updPcr fun p => { p with temp := t }
    let m := temp10 (cfg s Addr.PCR_TEMP 25 16)
    let s2 := if m < t then putFld Addr.PCR_TEMP 25 16 (t % 1024).toNat s1 else s1
    if 135 ≤ t then .next (deviceReset 8 0 s2)
    else if (cfg s Addr.PCR_THERM_CFG 7 0 : Int) ≤ t then
      .next (evTrig Config.thermTrigger [] (alarm Addr.PCR_ALARM 0 s2))
    else .next s2

end Sys2Proof.Machine
end

