-- ==== Sys2Proof/Machine/Snag.lean ====
section
/-!
DEFINITION. The snag sweep: tests, misses, commands and bay restarts (21_snag_sweep R495 to R506).
-/

namespace Sys2Proof.Machine

open Sys2Proof

/-! Items (R495). -/

/-- An item visited in the pass; where all were, the pass is done (R495, R506). -/
def visit (k : Nat) (s : State) : State :=
  let n := passTotal s.part
  s.updSnag fun x =>
    let p := kins x.pass k ()
    if n ≤ p.length then { x with pass := [], passes := sat 32 (x.passes + 1) } else { x with pass := p }

/-- An item tested now. -/
def tested (k : Nat) (s : State) : State :=
  let t := s.time.op
  s.updSnag fun x => { x with tested := kins x.tested k t }

/-! Tests (R495 to R501). -/

/-- A lane fails: the spare takes its place, or the engine, whose spare is in use, is fenced (R497). -/
def laneFail (e lane : Nat) (s : State) : State :=
  let s1 := snagCnt 0 s
  if (kfind s.snag.spare e).isNone then
    repair 1 e lane 0 (modEng e (fun g => { g with lanes := sat 4 (g.lanes + 1) })
      (s1.updSnag fun x => { x with spare := kins x.spare e lane }))
  else fenceEng e (some 0x50) lane s1

/-- A bank's memory bay. -/
def bankBay (b : Nat) : Nat := if b < 16 then 14 else 15

/-- The end of a physical tile's march test (R331 step 4, R499). -/
def marchEnd (b p : Nat) (pass : Bool) (s : State) : State :=
  let was := stripFree (bank s b)
  let s1 := snagCnt 2 (modBank b (fun k =>
    { k with testing := k.testing.filter (fun x => x != p), retired := if pass then k.retired else k.retired ++ [p] }) s)
  if pass then repair 4 (bayCode (bankBay b)) b p s1
  else spareAlarm b was (repair 5 (bayCode (bankBay b)) b p (snagCnt 3 (bump Addr.MEM_CNT_RETIRED s1)))

/-- A logical tile moved to the lowest free spare, so that its physical tile can be tested (R499). -/
def migrate (b l p : Nat) (s : State) : State :=
  match freeSpare (bank s b) with
  | some sp => spareAlarm b (stripFree (bank s b)) (modBank b (fun k =>
      { k with remap := kins k.remap l sp, testing := k.testing ++ [p] }) s)
  | none => s

/-- A tile that waits for its test, or a spare that serves nothing. -/
def idleTile (k : Bank) (p : Nat) : Bool := k.testing.contains p || (spareServes k p).isNone

/-- The test of one physical tile (R499): a tile that serves data is migrated first, but not while the bank is
short of spares, and never while another of the bank is in test; a retired tile is not tested. -/
def tileTest (x : SnagTest) (s : State) : State × Bool :=
  let k := bank s x.unit
  if k.retired.contains x.item then (s, false)
  else if idleTile k x.item then
    if x.res = .skip then (s, false) else (marchEnd x.unit x.item (x.res == .pass) s, true)
  else if stripFree k ≤ cfg s Addr.MEM_CFG 6 0 || !k.testing.isEmpty then (s, false)
  else
    match spareServes k x.item with
    | none => (s, false)
    | some l =>
      let s1 := match x.tile with
        | some t => (tileAccess t s).1
        | none => s
      if x.res = .skip then (snagCnt 6 s1, false)
      else if spareServes (bank s1 x.unit) x.item = some l then
        (marchEnd x.unit x.item (x.res == .pass) (migrate x.unit l x.item s1), true)
      else (s1, false)

/-- A checker that does not see an injected error (R498): the engines it guards are fenced. -/
def checkerFail (es : List Nat) (unit item : Nat) (s : State) : State :=
  es.foldl (fun t e => fenceEng e (some 0x51) item t) (repair 9 unit item 0 (snagCnt 4 s))

/-- A test that fails, but for tiles (R495, R497, R498). -/
def testFail (x : SnagTest) (s : State) : State :=
  if x.cat = 0 then laneFail x.unit x.item s
  else if x.cat = 1 then checkerFail [x.unit] x.unit 1 s
  else if x.cat = 2 then fenceEng x.unit (some 0x50) 2 s
  else if x.cat = 3 then
    if kindOf x.unit = 4 then fenceEng x.unit (some 0x50) 3 s
    else fenceEng x.unit (some 0x52) 3 (repair 10 x.unit 3 0 (snagCnt 5 s))
  else if x.cat = 5 then
    checkerFail (bayEngines s (bankBay x.unit)) (bayCode (bankBay x.unit)) x.unit
      (if holdsToken s then postFault (bayCode (bankBay x.unit)) 0x51 0 s else s)
  else checkerFail [hodConsumerOf s x.unit] (hodConsumerOf s x.unit) 6 s

/-- A port that may be looped back: not while its link is up or has been down for less than 10 s, which the
event's own time tells (R500). -/
def loopIdle (s : State) (u : Nat) : Bool :=
  if u = 0x38 ∨ u = 0x39 then !s.gmp.link.getD (u - 0x38) false
  else if u = 0x3A then !cfgB s Addr.PAIR_CFG 0
  else true

/-- SNAG_TEST: a snag job completes the test of an item (R495 to R500). -/
def execSnagTest (x : SnagTest) (s : State) : Host.Outcome State Fault Refusal :=
  if !cfgB s Addr.SNAG_CFG 0 || !snagItem s.part x.cat x.unit x.item then .next s
  else
    let k := snagKey x.cat x.unit x.item
    let s0 := visit k s
    if x.cat = 4 then
      let r := tileTest x s0
      .next (if r.2 then tested k r.1 else r.1)
    else if x.res = .skip || (x.cat == 3 && !loopIdle s x.unit) then .next s0
    else
      let s1 := tested k s0
      .next (if x.res = .pass then s1 else testFail x s1)

/-- COVER_MISS: an item was not tested within COVER_T (R495). -/
def execCoverMiss (c u i : Nat) (s : State) : Host.Outcome State Fault Refusal :=
  if cfgB s Addr.SNAG_CFG 0 && snagItem s.part c u i then
    let tile := if c = 4 then i else 0
    let unit := if c = 4 ∨ c = 5 then bayCode (bankBay u) else if c = 6 then hodConsumerOf s u else u
    let item := if c = 0 then i else if c = 4 ∨ c = 5 then u else c
    .next (repair 11 unit item tile (alarm Addr.SNAG_STATUS 10 (snagCnt 9 s)))
  else .next s

/-- SAFE_SELF_CHECK: the SAFE bay's own check, once a second (R501). -/
def execSafeSelfCheck (ok : Bool) (s : State) : Host.Outcome State Fault Refusal :=
  let s1 := tested (snagKey 7 0 0) s
  if ok then .next s1 else .next (faultRaise 1 s1)

/-! Commands (R498, R502, R506). -/

/-- RESTART_BAY at its position (R29, R502 step 1, R503). -/
def restartOp (b : Nat) (s : State) : State × Nat :=
  let st := firstErr stOk [
    (!isBay s.part b, stField),
    (b == 2 || !bayMay s b true || !bayRoom s b, stState),
    (s.snag.restart.isSome, stBusy)]
  if st = stOk then (startRestart b s, stOk) else (s, st)

/-- Fewest Fix engines that must stay (04_fix R122). -/
def fixFloor : Part → Nat
  | .szn2560 => 8
  | .szn1280 => 4

/-- FENCE at its position (R506): not below the floor of 04_fix R122, and never both CP engines. -/
def fenceOp (e : Nat) (s : State) : State × Nat :=
  let left := (engineIds.filter (fun x => kindOf x == 1 && engEnabled s x && !(engOf s x).fenced && x != e)).length
  let st := firstErr stOk [
    (!isEngine s.part e, stField),
    ((engOf s e).fenced, stEmpty),
    (kindOf e == 1 && decide (left < fixFloor s.part), stState),
    (decide (e ≤ 1) && (engOf s (1 - e)).fenced, stState)]
  if st = stOk then (fenceEng e none 0 s, stOk) else (s, st)

/-- An engine back in service (R498, R505). -/
def returnEng (e : Nat) (s : State) : State :=
  let s1 := repair 3 e 0 0 (modEng e (fun g => { g with fenced := false }) s)
  dispatch 31 (kindOf e) (if e ≤ 1 then noCpEval s1 else s1)

/-- RETEST at its position (R498): a fenced engine returns where it passes every test. -/
def retestOp (e : Nat) (pass : Bool) (s : State) : State × Nat :=
  let st := firstErr stOk [(!isEngine s.part e, stField), (!(engOf s e).fenced, stState)]
  if st = stOk then (if pass then returnEng e s else s, stOk) else (s, st)

/-- A write of SNAG_CTRL (R506); `pass` is what a RETEST finds. -/
def snagCtrlWord (pass : Bool) (v : Word) (s : State) : State × Nat :=
  let op := fld v 3 0
  let x := fld v 15 8
  let r := if op = 1 then restartOp x s else if op = 2 then fenceOp x s else if op = 3 then retestOp x pass s
    else (s, stField)
  (r.1.updSnag fun n => { n with ctrlStatus := r.2 }, r.2)

/-- A SNAG_CTRL word. -/
def snagWord (op target : Nat) : Word := wordOf (pack [(op % 16, 0), (target % 256, 8)])

/-- A SNAG_CTRL command by GMP. -/
def snagCmd (h : GmpHdr) (op target : Nat) (pass : Bool) (s : State) : State :=
  gmpWord h Addr.SNAG_CTRL (snagWord op target) 1 (snagCtrlWord pass (snagWord op target)) s

/-- RESTART_BAY: SNAG_CTRL OP 1 (R502). -/
def execRestartBay (h : GmpHdr) (bay : Nat) (s : State) : Host.Outcome State Fault Refusal :=
  .next (snagCmd h 1 bay false s)

/-- SNAG_FENCE: SNAG_CTRL OP 2 (R498, R506). -/
def execSnagFence (h : GmpHdr) (engine : Nat) (s : State) : Host.Outcome State Fault Refusal :=
  .next (snagCmd h 2 engine false s)

/-- RETEST: SNAG_CTRL OP 3; `pass` says what the tests find (R498). -/
def execRetest (h : GmpHdr) (engine : Nat) (pass : Bool) (s : State) : Host.Outcome State Fault Refusal :=
  .next (snagCmd h 3 engine pass s)

/-! The course of a bay restart (R502). -/

/-- BAY_DOMAIN_ON: the domain has been off for 10 ms (R502 step 3). -/
def execBayDomainOn (s : State) : Host.Outcome State Fault Refusal :=
  match s.snag.restart with
  | none => .next s
  | some r =>
    if r.on then .next s
    else .next (((advOp (r.since + 10000000) s).updPcr fun p => { p with domOn := setBitN p.domOn r.bay true }).updSnag
      fun n => { n with restart := some { r with on := true } })

/-- What the restart of a bay does beyond its engines (07_motion_safety R203, R213; 12_memory R338; 15_keys R400):
SAFE starts as after a reset and its faults end, SEC's slots are zeroed, a memory bay is stripped. -/
def bayReload (b : Nat) (s : State) : State :=
  if b = 1 then
    faultEnd 1 (faultEnd 2 (faultEnd 5 (s.updSafe fun x =>
      { safeAfterReset s with faults := x.faults, cFaults := x.cFaults })))
  else if b = 13 then s.updKey fun k => { k with slots := [] }
  else if b = 14 ∨ b = 15 then s.updMem fun m =>
    { m with banks := kmap Bank.zero (fun i k => if bankBay i = b then { k with poison := [] } else k) m.banks }
  else s

/-- The self-test's finding of one engine (R502 step 5). -/
def engineBack (x : BayTest) (s : State) : State :=
  let e := x.engine
  let was := (engOf s e).fenced
  let s1 := modEng e (fun g => { g with restart := false }) s
  if x.other || decide (1 < x.lanes.length) then
    if was then s1 else fenceEng e (some 0x50) (x.lanes.headD 0) s1
  else
    let s2 := s1.updSnag fun n => { n with spare := kdel n.spare e }
    let s3 := match x.lanes with
      | [] => s2
      | l :: _ => laneFail e l s2
    if was then returnEng e s3 else dispatch 31 (kindOf e) s3

/-- The engines of a bay whose self-test failed whole stay fenced (R502). -/
def bayLost (b : Nat) (s : State) : State :=
  let s1 := (bayEngines s b).foldl (fun t e => modEng e (fun g => { g with fenced := true, restart := false }) t) s
  let s2 := repair 8 (bayCode b) 0 0 (snagCnt 8 (modBay b (fun y => { y with failed := true }) s1))
  let s3 := if holdsToken s2 then postFault (bayCode b) 0x53 0 s2 else s2
  if b = 3 ∨ b = 4 then noCpEval s3 else s3

/-- BAY_RESTART_DONE: `ms` after its start the reload and the self-test end; `whole`: the whole bay fails (R502
steps 4 to 6). An engine that the list does not name passed every test. -/
def execBayRestartDone (ms : Nat) (whole : Bool) (finds : List BayTest) (s : State) : Host.Outcome State Fault Refusal :=
  match s.snag.restart with
  | none => .next s
  | some r =>
    if !r.on then .next s
    else
      let s1 := advOp (r.since + ms * 1000000) s
      let s2 := modBay r.bay (fun y => { y with lastMs := sat 12 ms }) (s1.updSnag fun n => { n with restart := none })
      let s3 := bayReload r.bay s2
      let s4 :=
        if whole then bayLost r.bay s3
        else
          let s5 := (bayEngines s3 r.bay).foldl (fun t e =>
            engineBack ((finds.find? (fun x => x.engine == e)).getD ⟨e, [], false⟩) t) s3
          repair 7 (bayCode r.bay) 0 0 (snagCnt 7 (modBay r.bay (fun y => { y with failed := false }) s5))
      .next ((List.range 16).foldl (fun t b => sweepRestart b t) s4)

end Sys2Proof.Machine
end

