-- ==== Sys2Proof/Machine/RegWrite.lean ====
section
/-!
DEFINITION. Register writes by GMP (17_host R432, R438; 00_scope R7 to R15): the right of each word, the action of each
register, and WRITE and WRITE_SEQ as wholes.
-/

namespace Sys2Proof.Machine

open Sys2Proof

/-- The right that a word needs (17_host R432). -/
def wordRight (a : Nat) (w : Word) : Nat :=
  if a = Addr.SAFE_CMD then safeRight w
  else if a = Addr.TIME_CTRL then timeCtrlRight w
  else if a = Addr.KEY_LC_CTRL ∨ a = Addr.KEY_DBG_CTRL ∨ idxOf Addr.KEY_DBG_RESP 4 4 a < 4 then 5
  else if a = Addr.KEY_CMD then 6
  else if blockOf a = 15 then 7
  else 1

/-- A word that must stand alone (17_host R438). -/
def mustBeAlone (a : Nat) : Bool := a == Addr.SAFE_CMD || a == Addr.TIME_CTRL || a == Addr.KEY_LC_CTRL

/-- Words that act on one unit alone, which a replay passes over (15_keys R389, R391, R406; log entry 61). -/
def localWord (a : Nat) : Bool :=
  a == Addr.PCR_CTRL || a == Addr.KEY_LC_CTRL || a == Addr.KEY_DBG_CTRL || decide (idxOf Addr.KEY_DBG_RESP 4 4 a < 4) ||
  a == Addr.SNAG_CTRL || a == Addr.HOD_CTRL || a == Addr.SCHED_ENG_CTRL || decide (idxOf Addr.MAC_P_CTRL 0x100 4 a < 4)

/-- The W1C bits of a word, which belong to the unit's own alarms. -/
def w1cOf (a : Nat) : Nat :=
  match findReg a with
  | some d => d.w1c
  | none => 0

/-- A register without an action of its own: on a replay, alarm bits stay. -/
def plainWord (replay : Bool) (a : Nat) (v : Word) (s : State) : State × Nat :=
  storeWord a (if replay then blend (w1cOf a) v 0#32 else v) s

/-- A register's own action, for the registers that have one but TOP_GEN_CTRL and SAFE_CMD; `dbg` is the verdict on a
debug response, `pass` what a RETEST finds. -/
def ctrlWord (replay dbg pass : Bool) (a : Nat) (w : Word) (s : State) : State × Nat :=
  let port := idxOf Addr.MAC_P_CTRL 0x100 4 a
  let trig := idxOf Addr.TIME_TRIG_CFG 0x20 8 a
  let resp := idxOf Addr.KEY_DBG_RESP 4 4 a
  if replay && localWord a then (s, stOk)
  else if absentReg s.part a then (s, stOk)
  else if a = Addr.PCR_CTRL then pcrCtrlWord w s
  else if a = Addr.SCHED_ENG_CTRL then engCtrlWord w s
  else if a = Addr.HOD_CTRL then hodCtrlWord true none w s
  else if a = Addr.FIX_REF_CTRL then refCtrlWord w s
  else if a = Addr.FIX_ROVER_CTRL then roverCtrlWord w s
  else if a = Addr.FIX_ENG_CTRL then fixEngWord w s
  else if a = Addr.SCR_MACH_CTRL then machCtrlWord w s
  else if a = Addr.SCR_ZONE_CTRL then zoneCtrlWord w s
  else if a = Addr.LOOP_CTRL then loopCtrlWord w s
  else if within Addr.LOOP_COEF (Addr.LOOP_COEF + 0x3FF) a then coefWord a w s
  else if port < 4 then portCtrlWord port w s
  else if a = Addr.MAC_NODE_CTRL then nodeCtrlWord w s
  else if a = Addr.LKP_CMD then lkpCmdWord w s
  else if a = Addr.LKP_RULE_CTRL then ruleCtrlWord w s
  else if a = Addr.LKP_CURSOR then plainWord replay a w (s.updLkp fun l => { l with walkEnd := false })
  else if a = Addr.TIME_CTRL then timeCtrlWord w s
  else if trig < 8 then trigWord trig w s
  else if a = Addr.KEY_LC_CTRL then lcCtrlWord w s
  else if a = Addr.KEY_CMD then keyCmdWord w s
  else if a = Addr.KEY_DBG_CTRL then dbgCtrlWord dbg w s
  else if resp < 4 then dbgRespWord resp w s
  else if a = Addr.PAIR_CTRL then pairCtrlWord replay w s
  else if a = Addr.SNAG_CTRL then snagCtrlWord pass w s
  else plainWord replay a w s

/-- One word written at its place: the address, the right, then the action; none where a commit is awaited. -/
def wordOp (c : ReqCtx) (alone dbg pass : Bool) (a : Nat) (w : Word) (s : State) : State × Option Nat :=
  if a % 4 ≠ 0 ∨ (findReg a).isNone ∨ (mustBeAlone a ∧ !alone) then (s, some stField)
  else if !hasRight s c.ident (wordRight a w) then (s, some stAuth)
  else if a = Addr.TOP_GEN_CTRL then genCtrl c.waiter w s
  else if a = Addr.SAFE_CMD then
    let r := safeDecide c.pos w (safeLive c.sess w s)
    (r.1, some r.2)
  else
    let r := ctrlWord c.replay dbg pass a w s
    (r.1, some r.2)

/-- What the words of a write come to: the state, the status, and the failing word where one fails. -/
structure WordsRes where
  state : State
  status : Nat
  waits : Bool
  failed : Option Nat

/-- Words checked and written in order, each against the state left by those before it (17_host R438). -/
def wordsOp (c : ReqCtx) (alone dbg pass : Bool) : Nat → List (Nat × Word) → WordsRes → WordsRes
  | _, [], r => r
  | i, (a, w) :: l, r =>
    match wordOp c alone dbg pass a w r.state with
    | (t, none) => wordsOp c alone dbg pass (i + 1) l { r with state := t, waits := true }
    | (t, some st) =>
      if isErr st then ⟨t, st, false, some i⟩
      else wordsOp c alone dbg pass (i + 1) l { r with state := t, status := if st = stOk then stOk else r.status }

/-- A WRITE or WRITE_SEQ at its position: all words or none (17_host R438). A word alone keeps what its failure shows. -/
def writeHandler (dbg pass : Bool) (most : Nat) (form : Bool) (ws : List (Nat × Word)) : Handler := fun c s =>
  if most < ws.length ∨ !form then (s, some (stField, indexBody 0xFFFF))
  else
    let alone := ws.length == 1
    let r := wordsOp c alone dbg pass 0 ws ⟨s, stEmpty, false, none⟩
    match r.failed with
    | some i => (if alone then r.state else s, some (r.status, indexBody i))
    | none => (r.state, if r.waits then none else some (r.status, indexBody 0xFFFF))

/-- The words of a WRITE_SEQ with their addresses. -/
def seqWords (addr : Nat) (ws : List Word) : List (Nat × Word) := ws.zipIdx.map (fun x => (addr + 4 * x.2, x.1))

/-- The words of a WRITE_SEQ lie in one block window, aligned (17_host R438). -/
def seqForm (addr : Nat) (ws : List Word) : Bool := addr % 4 == 0 && blockOf addr == blockOf (addr + 4 * (ws.length - 1))

/-- A SAFE_CMD alone is no job of the scheduler (07_motion_safety R211). -/
def writeJob (ws : List (Nat × Word)) : Bool := !(ws.map (fun e => e.1) == [Addr.SAFE_CMD])

/-- The word of a TAKE_ALONE write (16_pair R424). -/
def takeAloneWord (s : State) (ws : List (Nat × Word)) : Option Word :=
  match ws with
  | [(a, w)] => if s.pair.role = .seek ∧ a = Addr.PAIR_CTRL ∧ bit w 2 then some w else none
  | _ => none

/-- A WRITE by GMP. -/
def writeMsg (h : GmpHdr) (ws : List (Nat × Word)) (dbg pass : Bool) (s : State) : State :=
  match takeAloneWord s ws with
  | some w => takeAlone h w s
  | none =>
    pcrFinish (gmpRequest h (.write ws) ws.isEmpty (writeJob ws) (fun _ _ => true) (writeHandler dbg pass 64 true ws) s)

/-- WRITE: a list of register words, all or none (17_host R437, R438); `dbg` is the verdict on a debug response that it
submits, `pass` what a RETEST that it asks for finds. -/
def execWrite (h : GmpHdr) (ws : List (Nat × Word)) (dbg pass : Bool) (s : State) : Host.Outcome State Fault Refusal :=
  .next (writeMsg h ws dbg pass s)

/-- WRITE_SEQ: consecutive register words, all or none (17_host R437, R438). -/
def execWriteSeq (h : GmpHdr) (addr : Nat) (ws : List Word) (dbg pass : Bool) (s : State) : Host.Outcome State Fault Refusal :=
  .next (pcrFinish (gmpRequest h (.writeSeq addr ws) ws.isEmpty (writeJob (seqWords addr ws)) (fun _ _ => true)
    (writeHandler dbg pass 256 (seqForm addr ws) (seqWords addr ws)) s))

/-- REGISTER_WRITE: a write of one register word (00_scope R7, R9, R13, R14). -/
def execRegisterWrite (h : GmpHdr) (addr : Nat) (v : Word) (s : State) : Host.Outcome State Fault Refusal :=
  .next (writeMsg h [(addr, v)] false false s)

end Sys2Proof.Machine
end

