-- ==== Sys2Proof/Machine/Repl.lean ====
section
/-!
DEFINITION. Replication (16_pair R418 to R423): entries replayed by a standby, acknowledgements, the digest, the state
copy, and a handover taken.
-/

namespace Sys2Proof.Machine

open Sys2Proof

/-! Replay (02_journal R46, R51; R418). -/

/-- The right, the admission and the handler of a journalled message. -/
def bodyDecide (b : GmpBody) : (Nat → State → Bool) × Bool × Handler :=
  match b with
  | .write ws => (fun _ _ => true, writeJob ws, writeHandler false false 64 true ws)
  | .writeSeq a ws => (fun _ _ => true, writeJob (seqWords a ws), writeHandler false false 256 (seqForm a ws) (seqWords a ws))
  | .commit => (needs 1, true, commitHandler)
  | .safe w => (needs (safeRight w), false, safeHandler w)
  | .track x => (needs 1, true, trackHandler x)
  | .cancel x => (needs 1, true, cancelHandler x)
  | .zone rs => (needs 1, true, zoneHandler rs)
  | .task x => (needs 1, true, taskHandler x)
  | .withdraw r => (needs 1, true, withdrawHandler r)
  | .connector x => (needs 1, true, connectorHandler x)
  | .rule rs => (needs 1, true, ruleHandler rs)
  | .keyPut x => (needs 6, true, putHandler x)
  | .keyInvalidate id z => (needs 6, true, invalidateHandler id z)
  | .root x => (needs 5, true, rootHandler x)

/-- A GMP_REQ entry replayed: the replay cache is rebuilt, and the request decided (R418; 17_host R440, R441). -/
def replayReq (pos : Nat × Nat) (sess ident reqId : Nat) (b : GmpBody) (s : State) : State :=
  let s1 := s.updJr fun j => { j with lastReq := pos.1, hostless := false }
  let s2 := cachePush ident ⟨reqId, reqHash b, bodyType b, sess, none⟩ s1
  let d := bodyDecide b
  gmpDecide ⟨sess, ident, reqId, pos, true⟩ b d.2.1 (d.1 ident) d.2.2 s2

/-- The effect of an entry's payload at its position. -/
def replayPayload (prev : Nat) (e : JEntry) (s : State) : State :=
  let pos := epos e
  match e.payload with
  | .sfMark => markApply prev e.sf s
  | .commit _ _ _ => commitEntry e.sf (fun _ t => t) (s.jr.commit.getD ⟨e.sf, []⟩) s
  | .radioRx k h b => applyRx pos k e.arrival none h b s
  | .refRtcm i m => refApply i e.sf e.seq e.arrival m s
  | .timeEvent c _ old new => if c = 1 then setApplied old new e.sf s else s
  | .gmpReq k i r b => replayReq pos k i r b s
  | .estop b => covEstop b (if estopState b = .inputRun then s else liveGlobal 1 0 0 s)
  | .fault u c ph => covFault u c ph (if ph = 0 ∧ within 1 7 c then liveGlobal 7 c 0 s else s)
  | .stateLoss k f i => covLoss pos k f i s
  | .role _ => s

/-- An entry applied by a standby (02_journal R46): its effect, and the live map and latches after it
(07_motion_safety R204). -/
def applyEntry (e : JEntry) (s : State) : State :=
  let prev := s.jr.sf
  let s1 := s.updJr fun j => { j with sf := e.sf, lastSf := e.sf, lastSeq := e.seq, nextSeq := e.seq + 1 }
  liveFollow (replayPayload prev e s1)

/-- How an entry stands to the last one applied (02_journal R51): it follows (some true), it was applied before
(some false), or something is missing (none). -/
def entryNext (s : State) (e : JEntry) : Option Bool :=
  if e.sf = s.jr.sf then if e.seq = s.jr.nextSeq then some true else if e.seq < s.jr.nextSeq then some false else none
  else if s.jr.sf < e.sf then if e.payload = .sfMark ∧ e.seq = 0 then some true else none
  else some false

/-- An entry that a synchronised standby applies, or that ends its synchronisation (R420). -/
def replay (e : JEntry) (s : State) : State :=
  if !s.pair.sync then s
  else match entryNext s e with
    | some true => applyEntry e s
    | some false => s
    | none => loseSync 3 s

/-- A forwarded entry received: applied, kept while a copy runs, or dropped (R418, R421). -/
def jrnlIn (x : JEntry × Bool) (s : State) : State :=
  let e := x.1
  let s1 := if e.payload = .role 6 ∧ x.2 then s.updPair fun p => { p with six := some e.sf } else s
  if s1.pair.sync then if x.2 then replay e s1 else loseSync 2 s1
  else match s1.pair.copy.st, s1.pair.copy.p0 with
    | .receiving, some p0 =>
      if !x.2 then copyFail s1
      else if posLt (p0, 0) (epos e) then
        let l := s1.pair.copy.waiting ++ [e]
        if 4194304 < ringBytes l then copyFail s1 else s1.updPair fun p => { p with copy := { p.copy with waiting := l } }
      else s1
    | _, _ => s1

/-- The SAFE bay's state as R203 has it, on a unit that takes the token without its partner's state (R423). -/
def safeFresh (s : State) : State :=
  s.updSafe fun b => { b with
    permit := 0, cPermit := 0, latch := true, cLatch := true, groups := 0, cGroups := 0, epoch := 0, epochAt := none,
    firstCause := 15, arm := none, cInput := .inputStop, snap := ⟨0, true, 0, 0⟩, snapPrev := ⟨0, true, 0, 0⟩,
    mach := kmap SafeMach.zero (fun _ x => { x with sfLast := 0 }) b.mach }

/-- A planned handover taken once ROLE 0x06 of superframe `n` is applied (R423): before the cut-off of slot 0 of n + 1
the unit sends from that slot, and its opening follows at the boundary; else it opens n + 1 now and sends from n + 2. -/
def handoverTake (n : Nat) (s : State) : State :=
  let s0 := if s.pair.sync then s else safeFresh s
  let early := decide (now s0 < sfStart (n + 1) - 100000)
  let s1 := s0.updJr fun j => { j with started := true, sf := n, partner := some (n, j.lastSeq) }
  let first := if early then n + 1 else n + 2
  let s2 := setRole .active 2 (s1.updPair fun p => { p with
    roleDue := some 2, base := none, unacked := [], fwd := [], copy := CopyS.reset, txFrom := first })
  let s3 := bump (Addr.PAIR_CNT + 28) (liveFollow (s2.updMac fun m => { m with first := some (m.first.getD n) }))
  if early then s3 else openSf (n + 1) (advTo (sfStart (n + 1)) s3)

/-- The handover, where the frame and the entry have both come. -/
def handoverTry (s : State) : State :=
  match s.pair.six with
  | some n => if s.pair.role = .standby ∧ s.pair.hoRx ∧ (!s.pair.sync ∨ n ≤ s.jr.lastSf) then handoverTake n s else s
  | none => s

/-- JRNL: forwarded entries, each with the verdict on its CRC (R418). -/
def execJrnl (f : PairHdr) (l : List (JEntry × Bool)) (s : State) : Host.Outcome State Fault Refusal :=
  let x := linkOnly f s
  if !x.2 || x.1.pair.role != .standby then .next x.1
  else
    let s1 := l.foldl (fun t e => jrnlIn e t) x.1
    let s2 := if s1.pair.sync then sendLink 0x11 [s1.jr.lastSf, s1.jr.lastSeq] s1 else s1
    .next (handoverTry s2)

/-- HANDOVER_FRAME: the HANDOVER frame of the partner (R423). -/
def execHandoverFrame (f : PairHdr) (s : State) : Host.Outcome State Fault Refusal :=
  let x := linkOnly f s
  if !x.2 || x.1.pair.role != .standby then .next x.1
  else .next (handoverTry (x.1.updPair fun p => { p with hoRx := true }))

/-- JRNL_ACK: the last entry that the standby has applied (R418, R426). -/
def execJrnlAck (f : PairHdr) (sf seq : Nat) (s : State) : Host.Outcome State Fault Refusal :=
  let x := linkOnly f s
  if !x.2 || x.1.pair.role != .active then .next x.1
  else
    let pos := (sf, seq)
    let t := x.1.time.op
    let s1 := (x.1.pair.fwd.filter (fun e => posLe e.1 pos)).foldl (fun u e => maxF Addr.PAIR_LAG 31 16 ((t - e.2) / 1000) u) x.1
    let s2 := s1.updPair fun p => { p with fwd := p.fwd.filter (fun e => posLt pos e.1), ack := pos }
    .next (freeRing (s2.updJr fun j => { j with partner := j.partner.map (fun o => if posLt o pos then pos else o) }))

/-- DIGEST: digest, generation, image identity and replay class of the partner (R419; 02_journal R61). -/
def execDigest (f : PairHdr) (digest : List Nat) (_gen _version _build cls : Nat) (s : State) : Host.Outcome State Fault Refusal :=
  let x := linkOnly f s
  if !x.2 then .next x.1
  else
    let s0 := x.1
    let dd := digest != s0.jr.digest
    let cd := cls != s0.nvm.run.cls
    let s1 := if dd && !s0.pair.digestDiff then evTrig 0x16 ([0, 0] ++ digest.take 8) s0 else s0
    let s2 := if dd then alarm Addr.TOP_CFG_ALARM 0 s1 else s1
    let s3 := if cd then alarm Addr.PAIR_ALARM 3 s2 else s2
    let s4 := s3.updPair fun p => { p with digestDiff := dd, classDiff := cd }
    .next (if dd || cd then loseSync 6 s4 else s4)

/-! The state copy (R421, R422). -/

/-- COPY_REQ: a copy asked for, or one chunk of it; a chunk sent again is followed by COPY_END again. -/
def execCopyReq (f : PairHdr) (chunk : Option Nat) (s : State) : Host.Outcome State Fault Refusal :=
  let x := linkOnly f s
  let c := x.1.pair.copy
  if !x.2 || x.1.pair.role != .active then .next x.1
  else match chunk with
    | some i => if c.st = .sending ∧ c.p0.isSome then
        .next (sendLink 0x23 [c.epoch, c.nchunk] (sendLink 0x22 [c.epoch, i] x.1)) else .next x.1
    | none => if c.st = .sending ∧ c.p0 = none then .next x.1
      else
        let t := x.1.time.op
        .next (x.1.updPair fun p => { p with copy := { CopyS.reset with st := .sending, epoch := c.epoch + 1, since := t } })

/-- COPY_REQ_RETRY: every 1 s until a copy starts. -/
def execCopyReqRetry (s : State) : Host.Outcome State Fault Refusal :=
  if s.pair.role = .standby ∧ !s.pair.sync ∧ s.pair.link.up ∧ s.pair.copy.st = .none then
    .next (askCopy none (match s.pair.copy.asked with
      | some t => advOp (t + 1000000000) s
      | none => s))
  else .next s

/-- COPY_BEGIN: a copy opens at P0. -/
def execCopyBegin (f : PairHdr) (epoch p0 _gen cls nchunk : Nat) (_digest : List Nat) (s : State) : Host.Outcome State Fault Refusal :=
  let x := linkOnly f s
  if !x.2 || x.1.pair.role != .standby || x.1.pair.sync then .next x.1
  else
    let t := x.1.time.op
    let cd := cls != x.1.nvm.run.cls
    let s1 := if cd then alarm Addr.PAIR_ALARM 3 x.1 else x.1
    .next (s1.updPair fun p => { p with classDiff := cd, copy := { CopyS.reset with
      st := .receiving, epoch := epoch, p0 := some p0, nchunk := nchunk, since := t, asked := p.copy.asked } })

/-- One more failure of a chunk: COPY_REQ four times, then the copy fails (R422). -/
def chunkFail (i : Nat) (s : State) : State :=
  let n := kget 0 s.pair.copy.fails i + 1
  if s.pair.copy.st ≠ .receiving then s
  else if 5 ≤ n then copyFail s
  else askCopy (some i) (s.updPair fun p => { p with copy := { p.copy with fails := kset 0 p.copy.fails i n } })

/-- COPY_CHUNK: a chunk with the verdict on its CRC; a chunk of another copy is dropped. -/
def execCopyChunk (f : PairHdr) (epoch index : Nat) (crcOk : Bool) (s : State) : Host.Outcome State Fault Refusal :=
  let x := linkOnly f s
  let c := x.1.pair.copy
  if !x.2 || x.1.pair.role != .standby || c.st != .receiving || c.epoch != epoch || decide (c.nchunk ≤ index) then .next x.1
  else if crcOk then .next (x.1.updPair fun p => { p with copy := { p.copy with got := kins p.copy.got index () } })
  else .next (chunkFail index x.1)

/-- The configuration words of a copy put in force; counters and alarms stay the unit's own. -/
def installWords (c : KMap Word) (s : State) : State :=
  (s.regs.force.map (fun e => e.1) ++ c.map (fun e => e.1)).foldl (fun t k =>
    match findReg (keyAddr k) with
    | some d => setForce k (blend d.heldMask (forceW t k) (kget (dfltOf t.part k) c k)) t
    | none => t) s

/-- The static entries of a pipeline made those of a copy; learned entries stay. -/
def installStatics (live staged : KMap Nat) (q : Pipe) : Pipe :=
  let put (st : KMap Nat) (m : KMap EmEnt) : KMap EmEnt :=
    st.foldl (fun t e => ((staticPlace (e.1 / 2 ^ 48) (e.1 % 2 ^ 48) e.2 t).map (fun r => r.1)).getD t) (m.filter (fun e => !e.2.static))
  { q with live := put live q.live, shadow := put staged q.shadow }

/-- The covered state of a copy installed (R421, R422). -/
def install (c : Covered) (s : State) : State :=
  let s1 := (installWords c.words s).updRegs fun r => { r with staged := c.staged, sfq := c.sfq }
  let s2 := s1.updJr fun j => { c.jr with ring := j.ring, gone := j.gone, partner := j.partner, latHi := j.latHi, latSeq := j.latSeq }
  let s3 := s2.updFix fun f => { c.fix with acq := f.acq, latSum := f.latSum, latN := f.latN, latMean := f.latMean, latSec := f.latSec }
  let s4 := s3.updScr fun x => { c.scr with latHi := x.latHi, primZones := x.primZones }
  let s5 := s4.updSafe fun b => { c.safe with
    permit := b.permit, latch := b.latch, groups := b.groups, chA := b.chA, chB := b.chB, input := b.input, differ := b.differ,
    faults := b.faults, clockOk := b.clockOk, dynOn := b.dynOn, dynPin := b.dynPin, ports := b.ports }
  let s6 := (s5.updMemb fun _ => c.memb).updLoop fun l => { c.loop with latHi := l.latHi }
  let plan (p q : Port) : Port := { p with air := q.air, gen := q.gen, sw := q.sw, corrId := q.corrId, corrFrag := q.corrFrag }
  let s7 := s6.updMac fun m => { m with ports := List.zipWith plan m.ports c.mac.ports, first := c.mac.first }
  let s8 := s7.updLkp fun l => { l with
    pipes := l.pipes.map (installStatics c.lkp.statics c.lkp.stagedStatics), statics := c.lkp.statics,
    stagedStatics := c.lkp.stagedStatics, rules := c.lkp.rules, stagedRules := c.lkp.stagedRules, ruleLive := c.lkp.ruleLive,
    ruleShadow := c.lkp.ruleShadow, zoneLive := c.lkp.zoneLive, zoneShadow := c.lkp.zoneShadow }
  let s9 := s8.updKey fun k => if k.ring = c.ring then k else
    { k with ring := c.ring, next := c.ring, writes := [⟨c.ring, none, false⟩],
             slots := k.slots.filter (fun e => kfind c.ring.blobs e.2.blob.keyId == some e.2.blob) }
  let s10 := (s9.updTime fun t => { t with set := c.set, hold := c.hold }).updSched fun x => { x with admitTo := c.admitTo, admitSf := c.admitSf }
  liveFollow s10

/-- COPY_END: missing chunks are asked for; a whole copy is installed, and the entries that waited are applied. -/
def execCopyEnd (f : PairHdr) (epoch nchunk : Nat) (digestOk : Bool) (c : Covered) (s : State) : Host.Outcome State Fault Refusal :=
  let x := linkOnly f s
  let k := x.1.pair.copy
  if !x.2 || x.1.pair.role != .standby || k.st != .receiving || k.epoch != epoch then .next x.1
  else
    let miss := if k.got.length = k.nchunk then [] else (List.range k.nchunk).filter (fun i => (kfind k.got i).isNone)
    if !miss.isEmpty then .next (miss.foldl (fun t i => chunkFail i t) x.1)
    else if !digestOk || nchunk != k.nchunk then .next (copyFail x.1)
    else
      let s1 := (install c x.1).updPair fun p => { p with
        sync := !p.classDiff, why := if p.classDiff then 6 else 0,
        copy := { CopyS.reset with epoch := epoch, asked := p.copy.asked } }
      let s2 := bump (Addr.PAIR_CNT + 16) (sendLink 0x24 [epoch, 1] s1)
      let s3 := k.waiting.foldl (fun t e => replay e t) s2
      .next (handoverTry (if s3.pair.sync then sendLink 0x11 [s3.jr.lastSf, s3.jr.lastSeq] s3 else s3))

/-- COPY_RESULT: the copy was installed. -/
def execCopyResult (f : PairHdr) (epoch : Nat) (ok : Bool) (s : State) : Host.Outcome State Fault Refusal :=
  let x := linkOnly f s
  if x.2 && ok && x.1.pair.role == .active && x.1.pair.copy.st == .sending && x.1.pair.copy.epoch == epoch then
    .next (x.1.updPair fun p => { p with copy := { CopyS.reset with epoch := epoch } })
  else .next x.1

/-- COPY_TIMEOUT: 10 s since COPY_BEGIN. -/
def execCopyTimeout (s : State) : Host.Outcome State Fault Refusal :=
  match s.pair.copy.st with
  | .none => .next s
  | _ => .next (copyFail (advOp (s.pair.copy.since + 10000000000) s))

end Sys2Proof.Machine
end

