-- ==== Sys2Proof/Machine/Update.lean ====
section
/-!
DEFINITION. Firmware update (19_firmware R471 to R482): the transfer, its verification, activation, trial and
confirmation.
-/

namespace Sys2Proof.Machine

open Sys2Proof

/-- The slot that is not running, into which every transfer goes (R474). -/
def updSlot (s : State) : Nat := otherSlot s.nvm.fwSlot

/-- A firmware slot changed. -/
def modFw (i : Nat) (f : FwSlot → FwSlot) (s : State) : State :=
  s.updNvm fun n => { n with flash := { n.flash with fw := lmod n.flash.fw i f } }

/-- An update message (R473, 17_host R437): the UPDATE right, then `f`; LAST_STATUS keeps its status. -/
def updMsg (h : GmpHdr) (typ : Nat) (f : State → State × (Nat × List Nat)) (s : State) : State :=
  gmpPlain h typ 7 (fun _ t =>
    let r := f t
    (r.1.updUpd fun u => { u with lastStatus := r.2.1 }, r.2)) s

/-- UPD_BEGIN served (R474). -/
def updBegin (target length : Nat) (s : State) : State × (Nat × List Nat) :=
  let st := firstErr stOk [(!within 1 2 target || decide (length < 32), stField), (s.upd.trial, stState),
    (decide (regionLen s (1 + updSlot s) < length), stFull), (s.upd.st == .erasing || s.upd.st == .receiving, stBusy)]
  if st ≠ stOk then (s, (st, []))
  else (modFw (updSlot s) (fun _ => ⟨[], true⟩) (s.updUpd fun u => { u with st := .erasing, target := target, length := length }), (st, []))

/-- UPD_BEGIN (R474). -/
def execUpdBegin (h : GmpHdr) (target length : Nat) (s : State) : Host.Outcome State Fault Refusal :=
  .next (updMsg h 0x40 (updBegin target length) s)

/-- UPD_ERASE_DONE: the region is erased; `ok0` and `ok1` are the channels' erases (R474). -/
def execUpdEraseDone (ok0 ok1 : Bool) (s : State) : Host.Outcome State Fault Refusal :=
  if s.upd.st ≠ .erasing then .next s
  else
    let w := nvmWrite ok0 ok1 (regionOff s (1 + updSlot s)) s
    .next (if w.2 then modFw (updSlot s) (fun _ => ⟨[], false⟩) (w.1.updUpd fun u => { u with st := .receiving })
      else w.1.updUpd fun u => { u with st := .failed })

/-- What a block message says (R473), with what its program comes to: the channels' programs and the read-back. -/
structure UpdBlockIn where
  offset : Nat
  dlen : Nat
  crc : Nat
  data : List Nat
  ok0 : Bool
  ok1 : Bool
  same : Bool

/-- Step 1 of R475. -/
def blockForm (s : State) (b : UpdBlockIn) : Bool :=
  b.offset % 2048 == 0 && b.data.length == b.dlen &&
  (if s.upd.st = .idle then within 1 2048 b.dlen
   else decide (b.offset < s.upd.length) && b.dlen == min 2048 (s.upd.length - b.offset))

/-- Steps 5 and 6 of R475. -/
def blockStore (b : UpdBlockIn) (s : State) : State × (Nat × List Nat) :=
  let i := b.offset / 2048
  match kfind (updBlocks s) i with
  | some old =>
    if old = b.data then (bump Addr.UPD_CNT_REPEAT s, (stOk, [])) else (bump Addr.UPD_CNT_CONFLICT s, (stCheck, []))
  | none =>
    let w := nvmWrite b.ok0 b.ok1 (regionOff s (1 + updSlot s) + b.offset) s
    if w.2 && b.same then
      (bump Addr.UPD_CNT_BLOCK (modFw (updSlot s) (fun x => { x with blocks := kins x.blocks i b.data }) w.1), (stOk, []))
    else (w.1.updUpd fun u => { u with st := .failed }, (stCheck, []))

/-- UPD_BLOCK served (R475, R476): a VERIFIED transfer that receives a block is RECEIVING again (log entry 62). -/
def updBlock (b : UpdBlockIn) (s : State) : State × (Nat × List Nat) :=
  if !blockForm s b then (s, (stField, []))
  else
    let s1 := if s.upd.st = .verified then s.updUpd fun u => { u with st := .receiving } else s
    if s1.upd.st ≠ .receiving ∧ s1.upd.st ≠ .erasing then (s1, (stState, []))
    else if crc32c b.data ≠ b.crc then (bump Addr.UPD_CNT_CRC s1, (stCheck, []))
    else if s1.upd.st = .erasing then (s1, (stBusy, []))
    else blockStore b s1

/-- UPD_BLOCK (R475). -/
def execUpdBlock (h : GmpHdr) (offset dlen crc : Nat) (data : List Nat) (ok0 ok1 same : Bool) (s : State) :
    Host.Outcome State Fault Refusal :=
  .next (updMsg h 0x41 (updBlock ⟨offset, dlen, crc, data, ok0, ok1, same⟩) s)

/-- UPD_STATUS (R473). -/
def execUpdStatus (h : GmpHdr) (s : State) : Host.Outcome State Fault Refusal :=
  .next (updMsg h 0x42 (fun t =>
    (t, (stOk, [updStCode t.upd.st, t.upd.target, 0, 0] ++ be 4 (updBlocks t).length ++ be 4 (updMissing t)))) s)

/-- FAIL of a halt code of R455 (R476). -/
def failOfHalt (code : Nat) (part : Bool) : Nat :=
  if code = 0 then 0 else if code = 5 then (if part then 3 else 2) else if code = 4 then 5 else 4

/-- PART of a staged primer image differs from this part's. -/
def primerPartBad (s : State) : Bool :=
  let p := ofBe (fwBytes (fwSlot s (updSlot s)) 6 2)
  p != 0xFFFF && p != partCode s.part

/-- FAIL of the transfer (R476); `sig` is the verdict on its signature. -/
def updFail (sig : Bool) (s : State) : Nat :=
  let x := fwSlot s (updSlot s)
  if updMissing s ≠ s.upd.length then 1
  else if s.upd.target = 1 then fwFail s.part s.upd.length sig x
  else
    let t := loadSystem 2 s
    failOfHalt (primerCheck (regionLen s 3) x.blocks sig t).1 (primerPartBad s)

/-- UPD_VERIFY served (R476). -/
def updVerify (sig : Bool) (s : State) : State × (Nat × List Nat) :=
  if s.upd.st ≠ .receiving ∧ s.upd.st ≠ .verified then (s, (stState, [0, 0, 0, 0]))
  else
    let f := updFail sig s
    let st := if f = 0 then stOk else if f = 1 then stField else stCheck
    let to_ : UpdSt := if f = 0 then .verified else if f = 1 then .receiving else .failed
    let s1 := s.updUpd fun u => { u with fail := f, st := to_ }
    (if f = 0 then s1 else bump Addr.UPD_CNT_VERIFY_FAIL s1, (st, [f, 0, 0, 0]))

/-- UPD_VERIFY (R476). -/
def execUpdVerify (h : GmpHdr) (sig : Bool) (s : State) : Host.Outcome State Fault Refusal :=
  .next (updMsg h 0x43 (updVerify sig) s)

/-- The staged primer image copied into PRIMER, and the staging slot marked invalid (R477). -/
def primerCopy (ok0 ok1 : Bool) (s : State) : State × Bool :=
  let w := nvmWrite ok0 ok1 (regionOff s 3) s
  if w.2 then
    (modFw (updSlot s) (fun x => { x with bad := true })
      (w.1.updNvm fun n => { n with flash := { n.flash with primer := (fwSlot s (updSlot s)).blocks } }), true)
  else (w.1, false)

/-- UPD_ACTIVATE served (R477): a write that no channel takes activates nothing. -/
def updActivate (ok0 ok1 : Bool) (s : State) : State × (Nat × List Nat) :=
  if s.upd.st ≠ .verified ∨ (holdsToken s ∧ !s.safe.cLatch) then (s, (stState, []))
  else
    let i := updSlot s
    let w := if s.upd.target = 1 then hdrWrite ok0 ok1 (fun x => { x with trial := i, trialState := 1 }) s else primerCopy ok0 ok1 s
    let id := if s.upd.target = 1 then fwBytes (fwSlot s i) 12 8 else List.replicate 8 0
    if w.2 then (evTrig 0x24 ([s.upd.target] ++ id) w.1, (stOk, [])) else (w.1, (stCheck, []))

/-- UPD_ACTIVATE (R477): the device resets once its response has gone. -/
def execUpdActivate (h : GmpHdr) (ok0 ok1 : Bool) (s : State) : Host.Outcome State Fault Refusal :=
  let t := updMsg h 0x44 (updActivate ok0 ok1) s
  let may := match gmpIntake h 0x44 s with
    | (s1, some x) => hasRight s1 x.ident 7 && (updActivate ok0 ok1 s1).2.1 == stOk
    | (_, none) => false
  .next (if may then selfReset t else t)

/-- UPD_CONFIRM served (R479). -/
def updConfirm (ok0 ok1 : Bool) (s : State) : State × (Nat × List Nat) :=
  if !s.upd.trial then (s, (stEmpty, []))
  else
    let i := s.nvm.fwSlot
    let w := hdrWrite ok0 ok1 (fun x => { x with confirmed := i, trial := 0xFF, trialState := 0 }) s
    if w.2 then (w.1.updUpd fun u => { u with trial := false, trialFrom := none }, (stOk, [])) else (w.1, (stCheck, []))

/-- UPD_CONFIRM (R479). -/
def execUpdConfirm (h : GmpHdr) (ok0 ok1 : Bool) (s : State) : Host.Outcome State Fault Refusal :=
  .next (updMsg h 0x45 (updConfirm ok0 ok1) s)

/-- UPD_ABORT served (R474): what the region holds afterwards is open. -/
def updAbort (s : State) : State × (Nat × List Nat) :=
  if s.upd.st = .idle then (s, (stEmpty, []))
  else
    let b := (Config.freeByte s.free).toNat % 2 == 1
    let u : UpdS := ⟨.idle, 0, 0, s.upd.fail, s.upd.lastStatus, s.upd.trial, s.upd.trialFrom⟩
    (((modFw (updSlot s) (fun x => { x with bad := b }) s).updUpd fun _ => u).updFree (· + 1), (stOk, []))

/-- UPD_ABORT (R474). -/
def execUpdAbort (h : GmpHdr) (s : State) : Host.Outcome State Fault Refusal := .next (updMsg h 0x46 updAbort s)

/-- SLOT_STATE (R473); `good` says whether the other slot holds a valid image. -/
def slotState (good : Bool) (s : State) (i : Nat) : Nat :=
  let x := fwSlot s i
  if i = s.nvm.fwSlot then (if s.upd.trial then 4 else 3)
  else if x.blocks.isEmpty && !x.bad then 0
  else if good && fwFail s.part (regionLen s (1 + i)) true x == 0 then 2 else 1

/-- UPD_INFO (R473); `good` is the verdict on the signature of the slot that is not running. -/
def execUpdInfo (h : GmpHdr) (good : Bool) (s : State) : Host.Outcome State Fault Refusal :=
  .next (updMsg h 0x47 (fun t =>
    let info (i : Nat) := fwBytes (fwSlot t i) 12 14 ++ [slotState good t i, 0]
    (t, (stOk, info 0 ++ info 1))) s)

/-- TRIAL_TIMEOUT: a trial not confirmed within TRIAL_T of the first SF_MARK of its journal (R479). -/
def execTrialTimeout (s : State) : Host.Outcome State Fault Refusal :=
  match s.upd.trialFrom with
  | some t => if s.upd.trial then
      .next (selfReset (evTrig 0x0B [s.nvm.fwSlot, 1] (advOp (t + cfg s Addr.UPD_CFG 19 0 * 1000000000) s)))
    else .next s
  | none => .next s

end Sys2Proof.Machine
end

