-- ==== Sys2Proof/Machine/Dispatch.lean ====
section
/-!
DEFINITION. The effect of each command on everything but the queue: one arm per constructor of Instr.
-/

namespace Sys2Proof.Machine

def exec (i : Instr) (s : State) : Host.Outcome State Fault Refusal :=
  match i with
  | .sfMark => Sys2Proof.Machine.execSfMark s
  | .genCommit h => Sys2Proof.Machine.execGenCommit h s
  | .discard h => Sys2Proof.Machine.execDiscard h s
  | .commitEntry => Sys2Proof.Machine.execCommitEntry s
  | .catchupEnd => Sys2Proof.Machine.execCatchupEnd s
  | .settingsWritten ok0 ok1 => Sys2Proof.Machine.execSettingsWritten ok0 ok1 s
  | .rtcmUartMessage k framing m => Sys2Proof.Machine.execRtcmUartMessage k framing m s
  | .rtcm h digest k count whole frames => Sys2Proof.Machine.execRtcm h digest k count whole frames s
  | .refRtcm k m => Sys2Proof.Machine.execRefRtcm k m s
  | .refLost k => Sys2Proof.Machine.execRefLost k s
  | .refAbsentTimeout k => Sys2Proof.Machine.execRefAbsentTimeout k s
  | .clear h k => Sys2Proof.Machine.execClear h k s
  | .switch h => Sys2Proof.Machine.execSwitch h s
  | .fixRecord m done nums tile => Sys2Proof.Machine.execFixRecord m done nums tile s
  | .fixAgeExpiry m => Sys2Proof.Machine.execFixAgeExpiry m s
  | .resvRebuild group => Sys2Proof.Machine.execResvRebuild group s
  | .roverReset h => Sys2Proof.Machine.execRoverReset h s
  | .track h b => Sys2Proof.Machine.execTrack h b s
  | .scrInsert => Sys2Proof.Machine.execScrInsert s
  | .cancel h b => Sys2Proof.Machine.execCancel h b s
  | .cancelAll h => Sys2Proof.Machine.execCancelAll h s
  | .slotAdvance => Sys2Proof.Machine.execSlotAdvance s
  | .conformanceCheck m => Sys2Proof.Machine.execConformanceCheck m s
  | .zone h rs => Sys2Proof.Machine.execZone h rs s
  | .zoneWrite h => Sys2Proof.Machine.execZoneWrite h s
  | .zoneDelete h => Sys2Proof.Machine.execZoneDelete h s
  | .zoneRead h => Sys2Proof.Machine.execZoneRead h s
  | .task h b => Sys2Proof.Machine.execTask h b s
  | .withdraw h ref => Sys2Proof.Machine.execWithdraw h ref s
  | .connector h b => Sys2Proof.Machine.execConnector h b s
  | .allotmentRound => Sys2Proof.Machine.execAllotmentRound s
  | .award => Sys2Proof.Machine.execAward s
  | .estopInputEdge chA level ns => Sys2Proof.Machine.execEstopInputEdge chA level ns s
  | .estopFilteredChange chA => Sys2Proof.Machine.execEstopFilteredChange chA s
  | .discrepancy => Sys2Proof.Machine.execDiscrepancy s
  | .stopAll h asWrite => Sys2Proof.Machine.execStopAll h asWrite s
  | .stopGroup h asWrite group => Sys2Proof.Machine.execStopGroup h asWrite group s
  | .stopMachine h asWrite addr => Sys2Proof.Machine.execStopMachine h asWrite addr s
  | .armAll h asWrite => Sys2Proof.Machine.execArmAll h asWrite s
  | .armGroup h asWrite group => Sys2Proof.Machine.execArmGroup h asWrite group s
  | .confirm h asWrite token => Sys2Proof.Machine.execConfirm h asWrite token s
  | .release h asWrite addr => Sys2Proof.Machine.execRelease h asWrite addr s
  | .disarm h asWrite => Sys2Proof.Machine.execDisarm h asWrite s
  | .withdrawalRequest m cause sf seq => Sys2Proof.Machine.execWithdrawalRequest m cause sf seq s
  | .leaseExpiry m => Sys2Proof.Machine.execLeaseExpiry m s
  | .safeLogic => Sys2Proof.Machine.execSafeLogic s
  | .safeStore copyOk => Sys2Proof.Machine.execSafeStore copyOk s
  | .safeClock => Sys2Proof.Machine.execSafeClock s
  | .safeClockRestored => Sys2Proof.Machine.execSafeClockRestored s
  | .seqFault => Sys2Proof.Machine.execSeqFault s
  | .loopEval m => Sys2Proof.Machine.execLoopEval m s
  | .loopTick l => Sys2Proof.Machine.execLoopTick l s
  | .loopHold l => Sys2Proof.Machine.execLoopHold l s
  | .holdStep l => Sys2Proof.Machine.execHoldStep l s
  | .holdWithdraw l => Sys2Proof.Machine.execHoldWithdraw l s
  | .resume h => Sys2Proof.Machine.execResume h s
  | .clearI h => Sys2Proof.Machine.execClearI h s
  | .coefWrite h g r w v => Sys2Proof.Machine.execCoefWrite h g r w v s
  | .readId k r hid => Sys2Proof.Machine.execReadId k r hid s
  | .status k r flags rxCount fault => Sys2Proof.Machine.execStatus k r flags rxCount fault s
  | .setChannel k r => Sys2Proof.Machine.execSetChannel k r s
  | .setPower k r => Sys2Proof.Machine.execSetPower k r s
  | .txLoad k r => Sys2Proof.Machine.execTxLoad k r s
  | .txCancel k r => Sys2Proof.Machine.execTxCancel k r s
  | .rxRead k r f => Sys2Proof.Machine.execRxRead k r f s
  | .rxFlush k r => Sys2Proof.Machine.execRxFlush k r s
  | .startNibbleTimeout k cmd => Sys2Proof.Machine.execStartNibbleTimeout k cmd s
  | .rxstamp k ns => Sys2Proof.Machine.execRxstamp k ns s
  | .rxIrq k => Sys2Proof.Machine.execRxIrq k s
  | .stampOnly k seq => Sys2Proof.Machine.execStampOnly k seq s
  | .slotCutoff sf slot => Sys2Proof.Machine.execSlotCutoff sf slot s
  | .slotStart sf slot => Sys2Proof.Machine.execSlotStart sf slot s
  | .planSwitch k => Sys2Proof.Machine.execPlanSwitch k s
  | .noHeadTimeout k => Sys2Proof.Machine.execNoHeadTimeout k s
  | .portRetry k => Sys2Proof.Machine.execPortRetry k s
  | .resetHead h k => Sys2Proof.Machine.execResetHead h k s
  | .upFrame k => Sys2Proof.Machine.execUpFrame k s
  | .ackFrame k => Sys2Proof.Machine.execAckFrame k s
  | .joinReq k => Sys2Proof.Machine.execJoinReq k s
  | .joinAccAbandon => Sys2Proof.Machine.execJoinAccAbandon s
  | .leave k => Sys2Proof.Machine.execLeave k s
  | .pend k => Sys2Proof.Machine.execPend k s
  | .relay k => Sys2Proof.Machine.execRelay k s
  | .silenceTimeout a => Sys2Proof.Machine.execSilenceTimeout a s
  | .wakeMiss a => Sys2Proof.Machine.execWakeMiss a s
  | .addrHoldExpiry a => Sys2Proof.Machine.execAddrHoldExpiry a s
  | .disassoc h => Sys2Proof.Machine.execDisassoc h s
  | .freeAddr h => Sys2Proof.Machine.execFreeAddr h s
  | .jobComplete desc status => Sys2Proof.Machine.execJobComplete desc status s
  | .jobRetire desc => Sys2Proof.Machine.execJobRetire desc s
  | .delayRelease => Sys2Proof.Machine.execDelayRelease s
  | .budgetWindow => Sys2Proof.Machine.execBudgetWindow s
  | .waitClr h => Sys2Proof.Machine.execWaitClr h s
  | .stripEnd us => Sys2Proof.Machine.execStripEnd us s
  | .stripOverrun => Sys2Proof.Machine.execStripOverrun s
  | .hodPtrMismatch hod => Sys2Proof.Machine.execHodPtrMismatch hod s
  | .hodUnread hod used packets => Sys2Proof.Machine.execHodUnread hod used packets s
  | .hodReset src => Sys2Proof.Machine.execHodReset src s
  | .hodDrop src rest => Sys2Proof.Machine.execHodDrop src rest s
  | .ethFrame f => Sys2Proof.Machine.execEthFrame f s
  | .ageVisit p bucket => Sys2Proof.Machine.execAgeVisit p bucket s
  | .tableRebuild table => Sys2Proof.Machine.execTableRebuild table s
  | .ethLinkChange p isUp speed => Sys2Proof.Machine.execEthLinkChange p isUp speed s
  | .search h pipe kind port => Sys2Proof.Machine.execSearch h pipe kind port s
  | .nextEntry h pipe kind port => Sys2Proof.Machine.execNextEntry h pipe kind port s
  | .flushPort h pipe kind port => Sys2Proof.Machine.execFlushPort h pipe kind port s
  | .staticAdd h pipe kind port => Sys2Proof.Machine.execStaticAdd h pipe kind port s
  | .staticDel h pipe kind port => Sys2Proof.Machine.execStaticDel h pipe kind port s
  | .rule h rs => Sys2Proof.Machine.execRule h rs s
  | .ruleWrite h => Sys2Proof.Machine.execRuleWrite h s
  | .ruleDelete h => Sys2Proof.Machine.execRuleDelete h s
  | .ruleRead h => Sys2Proof.Machine.execRuleRead h s
  | .ppsEdge k ns => Sys2Proof.Machine.execPpsEdge k ns s
  | .ptpSync port e ns => Sys2Proof.Machine.execPtpSync port e ns s
  | .ptpMessage port m => Sys2Proof.Machine.execPtpMessage port m s
  | .sourceAbsentTimeout k => Sys2Proof.Machine.execSourceAbsentTimeout k s
  | .holdLimitExpiry => Sys2Proof.Machine.execHoldLimitExpiry s
  | .forceSet h => Sys2Proof.Machine.execForceSet h s
  | .forceSetApply => Sys2Proof.Machine.execForceSetApply s
  | .timeHoldEnd => Sys2Proof.Machine.execTimeHoldEnd s
  | .clearDis h => Sys2Proof.Machine.execClearDis h s
  | .trigArm h k v => Sys2Proof.Machine.execTrigArm h k v s
  | .triggerFire k => Sys2Proof.Machine.execTriggerFire k s
  | .armAdvance src target => Sys2Proof.Machine.execArmAdvance src target s
  | .armRevokeA src => Sys2Proof.Machine.execArmRevokeA src s
  | .lcConfirm src token => Sys2Proof.Machine.execLcConfirm src token s
  | .lcDisarm src => Sys2Proof.Machine.execLcDisarm src s
  | .fuseBlown => Sys2Proof.Machine.execFuseBlown s
  | .root h b => Sys2Proof.Machine.execRoot h b s
  | .keyPut h b => Sys2Proof.Machine.execKeyPut h b s
  | .keyringWritten ok0 ok1 => Sys2Proof.Machine.execKeyringWritten ok0 ok1 s
  | .keyInvalidate h id zero => Sys2Proof.Machine.execKeyInvalidate h id zero s
  | .invalidate h id => Sys2Proof.Machine.execInvalidate h id s
  | .evict h id => Sys2Proof.Machine.execEvict h id s
  | .keyLoad id master usage => Sys2Proof.Machine.execKeyLoad id master usage s
  | .keyOperationEnd slot => Sys2Proof.Machine.execKeyOperationEnd slot s
  | .newChal src => Sys2Proof.Machine.execNewChal src s
  | .submit src resp right => Sys2Proof.Machine.execSubmit src resp right s
  | .hello f r => Sys2Proof.Machine.execHello f r s
  | .helloSend => Sys2Proof.Machine.execHelloSend s
  | .renewSend => Sys2Proof.Machine.execRenewSend s
  | .renew f num => Sys2Proof.Machine.execRenew f num s
  | .pairAck f num => Sys2Proof.Machine.execPairAck f num s
  | .pathDownTimeout path => Sys2Proof.Machine.execPathDownTimeout path s
  | .fence => Sys2Proof.Machine.execFence s
  | .takeover => Sys2Proof.Machine.execTakeover s
  | .retakeWaitExpiry => Sys2Proof.Machine.execRetakeWaitExpiry s
  | .jrnl f l => Sys2Proof.Machine.execJrnl f l s
  | .jrnlAck f sf seq => Sys2Proof.Machine.execJrnlAck f sf seq s
  | .digest f digest gen version build cls => Sys2Proof.Machine.execDigest f digest gen version build cls s
  | .copyReq f chunk => Sys2Proof.Machine.execCopyReq f chunk s
  | .copyReqRetry => Sys2Proof.Machine.execCopyReqRetry s
  | .copyBegin f epoch p0 gen cls nchunk digest => Sys2Proof.Machine.execCopyBegin f epoch p0 gen cls nchunk digest s
  | .copyChunk f epoch index crcOk => Sys2Proof.Machine.execCopyChunk f epoch index crcOk s
  | .copyEnd f epoch nchunk digestOk c => Sys2Proof.Machine.execCopyEnd f epoch nchunk digestOk c s
  | .copyResult f epoch ok => Sys2Proof.Machine.execCopyResult f epoch ok s
  | .copyTimeout => Sys2Proof.Machine.execCopyTimeout s
  | .handover h force => Sys2Proof.Machine.execHandover h force s
  | .handoverFrame f => Sys2Proof.Machine.execHandoverFrame f s
  | .takeAlone h v => Sys2Proof.Machine.execTakeAlone h v s
  | .clientHello bytes binder suite port peer fin => Sys2Proof.Machine.execClientHello bytes binder suite port peer fin s
  | .sessionClose k => Sys2Proof.Machine.execSessionClose k s
  | .idleTimeout k => Sys2Proof.Machine.execIdleTimeout k s
  | .read h addr count zero => Sys2Proof.Machine.execRead h addr count zero s
  | .write h ws dbg pass => Sys2Proof.Machine.execWrite h ws dbg pass s
  | .writeSeq h addr ws dbg pass => Sys2Proof.Machine.execWriteSeq h addr ws dbg pass s
  | .registerWrite h addr v => Sys2Proof.Machine.execRegisterWrite h addr v s
  | .commitMsg h => Sys2Proof.Machine.execCommitMsg h s
  | .subscribe h topic zero mask sf seq => Sys2Proof.Machine.execSubscribe h topic zero mask sf seq s
  | .unsubscribe h topic zero => Sys2Proof.Machine.execUnsubscribe h topic zero s
  | .journalAck h sf seq zero => Sys2Proof.Machine.execJournalAck h sf seq zero s
  | .logRead h first count zeros => Sys2Proof.Machine.execLogRead h first count zeros s
  | .logErase h total => Sys2Proof.Machine.execLogErase h total s
  | .logEraseDone => Sys2Proof.Machine.execLogEraseDone s
  | .recordWritten same ok0 ok1 => Sys2Proof.Machine.execRecordWritten same ok0 ok1 s
  | .updBegin h target length => Sys2Proof.Machine.execUpdBegin h target length s
  | .updEraseDone ok0 ok1 => Sys2Proof.Machine.execUpdEraseDone ok0 ok1 s
  | .updBlock h offset dlen crc data ok0 ok1 same => Sys2Proof.Machine.execUpdBlock h offset dlen crc data ok0 ok1 same s
  | .updStatus h => Sys2Proof.Machine.execUpdStatus h s
  | .updVerify h sig => Sys2Proof.Machine.execUpdVerify h sig s
  | .updActivate h ok0 ok1 => Sys2Proof.Machine.execUpdActivate h ok0 ok1 s
  | .updConfirm h ok0 ok1 => Sys2Proof.Machine.execUpdConfirm h ok0 ok1 s
  | .updAbort h => Sys2Proof.Machine.execUpdAbort h s
  | .updInfo h good => Sys2Proof.Machine.execUpdInfo h good s
  | .trialTimeout => Sys2Proof.Machine.execTrialTimeout s
  | .boot b => Sys2Proof.Machine.execBoot b s
  | .journalStart => Sys2Proof.Machine.execJournalStart s
  | .snagTest x => Sys2Proof.Machine.execSnagTest x s
  | .coverMiss cat u item => Sys2Proof.Machine.execCoverMiss cat u item s
  | .safeSelfCheck ok => Sys2Proof.Machine.execSafeSelfCheck ok s
  | .restartBay h bay => Sys2Proof.Machine.execRestartBay h bay s
  | .snagFence h engine => Sys2Proof.Machine.execSnagFence h engine s
  | .retest h engine pass => Sys2Proof.Machine.execRetest h engine pass s
  | .bayDomainOn => Sys2Proof.Machine.execBayDomainOn s
  | .bayRestartDone ms whole finds => Sys2Proof.Machine.execBayRestartDone ms whole finds s
  | .railTrip r deep back => Sys2Proof.Machine.execRailTrip r deep back s
  | .railGlitch r => Sys2Proof.Machine.execRailGlitch r s
  | .aonPowerOn => Sys2Proof.Machine.execAonPowerOn s
  | .resetN => Sys2Proof.Machine.execResetN s
  | .clockLoss refLost => Sys2Proof.Machine.execClockLoss refLost s
  | .coreFault => Sys2Proof.Machine.execCoreFault s
  | .watchdog => Sys2Proof.Machine.execWatchdog s
  | .resetRelease => Sys2Proof.Machine.execResetRelease s
  | .pcrReset h => Sys2Proof.Machine.execPcrReset h s
  | .standby h => Sys2Proof.Machine.execStandby h s
  | .standbyEntered => Sys2Proof.Machine.execStandbyEntered s
  | .wake isLow => Sys2Proof.Machine.execWake isLow s
  | .tempRead t => Sys2Proof.Machine.execTempRead t s
  | .permitDynToggle => Sys2Proof.Machine.execPermitDynToggle s
  | .fragmentReassemblyTimeout id => Sys2Proof.Machine.execFragmentReassemblyTimeout id s
  | .announceReceiptTimeout port => Sys2Proof.Machine.execAnnounceReceiptTimeout port s
  | .ptpSendInterval port kind => Sys2Proof.Machine.execPtpSendInterval port kind s

end Sys2Proof.Machine
end

