-- ==== Sys2Proof/Machine/Step.lean ====
section
/-!
DEFINITION. One step of the block: the command at the front of the queue, or, on an empty queue, one
edge of the 100 MHz clock.
-/

namespace Sys2Proof.Machine

open Sys2Proof

/-- The next step: the oldest waiting command is executed with the queue's rest; an empty queue lets one
clock edge pass (log entry 20). -/
def step (s : State) : Host.Outcome State Fault Refusal :=
  match s.pending with
  | [] => .next (tick s)
  | c :: rest => exec c (s.updPending fun _ => rest)

/-- The state with the command that a word spells at the front of the queue. -/
def State.withFetchWord (s : State) (nbits w : Nat) : State :=
  match decodeTableWord nbits w with
  | some c => s.updPending fun l => c :: l
  | none => s

end Sys2Proof.Machine
end

