-- ==== Sys2Proof/Machine/Pins.lean ====
section
/-!
DEFINITION. The levels of the output balls at rest (23_pins R521, R522; 01_architecture R40): in reset, in standby,
and in service between the events that the outputs of a command stand for. Nothing here changes the state.
-/

namespace Sys2Proof.Machine

open Sys2Proof

/-- An output ball, or the data of a bus, by port, channel or number. -/
inductive OutPin where
  | rhClk (k : Nat)
  | rhCs (k : Nat)
  | rhData (k : Nat)
  | txtrig (k : Nat)
  | rhRst (k : Nat)
  | eth (p : Nat)
  | plnk
  | permitDyn
  | witTx
  | xspiClk (c : Nat)
  | xspiCs (c : Nat)
  | xspiDqs (c : Nat)
  | xspiRst (c : Nat)
  | xspiData (c : Nat)
  | pwrEn
  | tdo
  | trig (k : Nat)
  deriving DecidableEq, Repr

/-- What a ball shows: driven, high-impedance with or without a pull, or electrical idle. -/
inductive Level where
  | low
  | high
  | z
  | pullUp
  | pullDown
  | pullDown20
  | idle
  deriving DecidableEq, Repr

/-- The domain of an output (R521, R522). -/
def OutPin.domain : OutPin → Nat
  | .rhClk _ | .rhCs _ | .rhData _ | .txtrig _ | .rhRst _ => 11
  | .eth _ | .plnk => 12
  | .permitDyn | .witTx => 1
  | .xspiClk _ | .xspiCs _ | .xspiDqs _ | .xspiRst _ | .xspiData _ | .trig _ => 2
  | .pwrEn | .tdo => 0

/-- The level while the domain is held in reset or switched off, and while the device is halted (R521, R522). -/
def OutPin.inReset : OutPin → Level
  | .rhCs _ | .xspiCs _ => .pullUp
  | .txtrig _ => .pullDown20
  | .eth _ | .plnk => .idle
  | .permitDyn | .tdo => .z
  | .witTx => .low
  | .pwrEn => .high
  | .rhClk _ | .rhData _ | .rhRst _ | .xspiClk _ | .xspiDqs _ | .xspiRst _ | .xspiData _ | .trig _ => .pullDown

/-- The level with every rail off (R521, R522). -/
def OutPin.unpowered : OutPin → Level
  | .txtrig _ => .pullDown20
  | .rhClk _ | .rhCs _ | .rhData _ | .rhRst _ | .eth _ | .plnk | .permitDyn | .witTx | .xspiClk _ | .xspiCs _ | .xspiDqs _
  | .xspiRst _ | .xspiData _ | .pwrEn | .tdo | .trig _ => .z

/-- A ball that the part does not use stays in its reset state (R521). -/
def OutPin.absent (p : Part) : OutPin → Bool
  | .rhClk k | .rhCs k | .rhData k | .txtrig k | .rhRst k => p == .szn1280 && decide (2 ≤ k)
  | .eth _ | .plnk | .permitDyn | .witTx | .xspiClk _ | .xspiCs _ | .xspiDqs _ | .xspiRst _ | .xspiData _ | .pwrEn | .tdo
  | .trig _ => false

/-- The level in service between events: none for a ball that carries traffic. TXTRIG and TRIGk rest inactive
(09_radio_ports R254, 14_station_time R384), RHk_RST_N is low at a port that is OFF (09_radio_ports R265), and
PERMIT_DYN shows what the SAFE bay drives (07_motion_safety R209). -/
def OutPin.inService (s : State) : OutPin → Option Level
  | .txtrig _ => some .low
  | .rhRst k => some (if (s.mac.ports.getD k Port.zero).st = .off then .low else .high)
  | .permitDyn => some (if s.safe.dynPin then .high else .low)
  | .trig k => some (if cfgB s (Addr.TIME_TRIG_CFG + 0x20 * k) 2 then .high else .low)
  | .pwrEn => some .high
  | .rhClk _ | .rhCs _ | .rhData _ | .eth _ | .plnk | .witTx | .xspiClk _ | .xspiCs _ | .xspiDqs _ | .xspiRst _
  | .xspiData _ | .tdo => none

/-- The level of an output ball in a state: in standby every ball outside domain 0 is unpowered and PWR_EN is low
(22_power R516); during a device reset, a halt, and while its domain is off, a ball is in its reset state. -/
def pinLevel (q : OutPin) (s : State) : Option Level :=
  if s.pcr.phase = .standby then
    some (if q = .pwrEn then .low else if q.domain = 0 then q.inReset else q.unpowered)
  else if s.pcr.phase = .held ∨ s.pcr.phase = .halted ∨ !s.pcr.domOn.testBit q.domain ∨ q.absent s.part then some q.inReset
  else q.inService s

end Sys2Proof.Machine
end

