-- ==== Sys2Proof/Safety.lean ====
section
/-!
DEFINITION. What a step may never break, whatever the command: the part, the order of the queue, what has left the
block, the canonical form of the register store, and the rule that nothing but a release sets a permit bit
(01_architecture R34). A `Touch` names the parts of the state that a piece of work may change.
-/

namespace Sys2Proof.Machine

open Sys2Proof

/-- The words in force in canonical form: keys strictly rising, no word equal to its default (18_boot R533 order). -/
def RegS.canon (p : Part) (r : RegS) : Bool :=
  krising none r.force && r.force.all (fun e => decide (e.2 ≠ dfltOf p e.1))

/-- What a session keeps while packs and queues change. -/
def Session.core (x : Session) : Nat × Nat × Nat := (x.ident, x.outstanding, x.port)

/-- Two lists of sessions agree but for packs and queues. -/
def SessLike (l m : KMap Session) : Prop := l.map (fun e => (e.1, e.2.core)) = m.map (fun e => (e.1, e.2.core))

/-- The parts of the state that may change, one flag each. `grant` allows a permit bit to be set and the global latch to be
cleared, `mark` a superframe to open or the journal to begin, `gen` the generation and the digest to change, `role` the role,
`fuse` the fuses and the trusted roots, `sess` the sessions and the replay cache beyond packs and queues, and `stage` a register's
staged copy to part from its word in force. -/
structure Touch where
  time : Bool := false
  jr : Bool := false
  regs : Bool := false
  gmp : Bool := false
  safe : Bool := false
  fix : Bool := false
  scr : Bool := false
  memb : Bool := false
  sched : Bool := false
  loop : Bool := false
  pair : Bool := false
  evr : Bool := false
  key : Bool := false
  pcr : Bool := false
  nvm : Bool := false
  upd : Bool := false
  mem : Bool := false
  hod : Bool := false
  snag : Bool := false
  mac : Bool := false
  lkp : Bool := false
  grant : Bool := false
  mark : Bool := false
  gen : Bool := false
  role : Bool := false
  fuse : Bool := false
  sess : Bool := false
  stage : Bool := false
  deriving DecidableEq, Repr

/-- `t` follows `s` by work that changes only what `c` names. -/
structure Follows (c : Touch) (s t : State) : Prop where
  /-- The part is fixed by fuses (00_scope R1, R2). -/
  part : t.part = s.part
  /-- No work puts a command into the queue or takes one out. -/
  pending : t.pending = s.pending
  /-- What has left the block stays. -/
  out : s.out <+: t.out
  /-- A free value is never drawn twice. -/
  free : s.free ≤ t.free
  /-- The register store keeps its canonical form. -/
  canon : s.regs.canon s.part = true → t.regs.canon t.part = true
  /-- Without `grant` no permit bit is set (01_architecture R34). -/
  permit : c.grant = false → ∀ m, t.safe.permit.testBit m = true → s.safe.permit.testBit m = true
  /-- Without `grant` the global stop latch stays set (07_motion_safety R205 to R207). -/
  latch : c.grant = false → s.safe.latch = true → t.safe.latch = true
  /-- Without `mark` no superframe opens (02_journal R43, R47). -/
  mark : c.mark = false → t.jr.sf = s.jr.sf ∧ t.jr.started = s.jr.started
  /-- Without `gen` the generation and its digest stay (02_journal R53, R57). -/
  gen : c.gen = false → t.jr.gen = s.jr.gen ∧ t.jr.digest = s.jr.digest
  /-- Without `role` the role stays (16_pair R410). -/
  role : c.role = false → t.pair.role = s.pair.role
  /-- Without `fuse` the fuses and the trusted roots stay (15_keys R386, R390). -/
  fuse : c.fuse = false → t.key.fuses = s.key.fuses ∧ t.key.revoke = s.key.revoke ∧ t.key.roots = s.key.roots
  /-- Without `sess` the sessions and the replay cache stay, but for packs and queues (17_host R431, R440). -/
  sess : c.sess = false → SessLike t.gmp.sess s.gmp.sess ∧ t.gmp.cache = s.gmp.cache
  /-- Without `stage` nothing is staged where nothing was (02_journal R54). -/
  stage : c.stage = false → s.regs.staged = [] → t.regs.staged = []
  /-- While the live global latch is set, no permit bit is (07_motion_safety R191, R208). -/
  calm : (s.safe.latch = true → s.safe.permit = 0) → t.safe.latch = true → t.safe.permit = 0
  time : c.time = false → t.time = s.time
  jr : c.jr = false → t.jr = s.jr
  regs : c.regs = false → t.regs = s.regs
  gmp : c.gmp = false → t.gmp = s.gmp
  safe : c.safe = false → t.safe = s.safe
  fix : c.fix = false → t.fix = s.fix
  scr : c.scr = false → t.scr = s.scr
  memb : c.memb = false → t.memb = s.memb
  sched : c.sched = false → t.sched = s.sched
  loop : c.loop = false → t.loop = s.loop
  pair : c.pair = false → t.pair = s.pair
  evr : c.evr = false → t.evr = s.evr
  key : c.key = false → t.key = s.key
  pcr : c.pcr = false → t.pcr = s.pcr
  nvm : c.nvm = false → t.nvm = s.nvm
  upd : c.upd = false → t.upd = s.upd
  mem : c.mem = false → t.mem = s.mem
  hod : c.hod = false → t.hod = s.hod
  snag : c.snag = false → t.snag = s.snag
  mac : c.mac = false → t.mac = s.mac
  lkp : c.lkp = false → t.lkp = s.lkp

/-- A GMP message passes the envelope checks of 17_host R433 and the window of R435 on session `x`. -/
structure GmpOpen (h : GmpHdr) (x : Session) (s : State) : Prop where
  isOpen : session s h.sess = some x
  known : x.ident < 8
  version : h.version = 1
  length : h.recLen = 12 + h.len
  reqId : h.reqId ≠ 0
  window : x.outstanding < 32

/-- A journalled request that nothing turns away before its entry (17_host R433 to R441, 14_station_time R377): no repeat, a
unit that writes entries, no hold. -/
structure GmpReady (h : GmpHdr) (x : Session) (s : State) : Prop extends GmpOpen h x s where
  fresh : cacheFind (kget [] s.gmp.cache x.ident) h.reqId = none
  writer : canWrite s = true
  noHold : s.time.hold = none

/-- The request holds the right it needs (17_host R432) and its job is admitted (11_scheduler R310). -/
structure GmpMay (h : GmpHdr) (x : Session) (right cls : Nat) (s : State) : Prop extends GmpReady h x s where
  right : hasRight s x.ident right = true
  room : admitted s cls < cfgW s Addr.SCHED_CLASS_SEL cls Addr.SCHED_CLASS_CFG 30 20

/-- A valid frame of the pair's session on a link that is in service (16_pair R409, R411). -/
structure LinkFrame (f : PairHdr) (s : State) : Prop where
  member : paired s = true
  engine : engUsable s 0x3A = true
  link : f.path = 0
  ok : f.ok = true
  session : s.pair.session = true
  counter : counterOk f s = true

/-- The oldest frame at the intake of port `k` is of type `typ` and passes checks 1 to 4 of 10_radio_frames R273. -/
structure RxFrame (k typ : Nat) (x : Intake) (rest : List Intake) (m : RxMsg) (s : State) : Prop where
  taken : intakeTake k s.mac.intake = some (x, rest)
  frame : psduMsg x.psdu = some m
  typ : m.hdr.typ = typ
  head : headOk s x m = true
  mic : m.micOk = true

/-- Among what the step has given out stands this response to the request (17_host R433). -/
def Answered (h : GmpHdr) (typ st : Nat) (body : List Nat) (s t : State) : Prop :=
  ∃ l, t.out = s.out ++ l ∧ Output.gmp h.sess typ h.reqId st body ∈ l

/-- Every part, and none of what the last seven flags allow. -/
def Touch.all : Touch :=
  ⟨true, true, true, true, true, true, true, true, true, true, true, true, true, true, true, true, true, true, true, true, true,
   false, false, false, false, false, false, false⟩

/-- The parts of the state that a command may change. `grant` stands only where a release, a confirmation, a register write,
a replayed entry or a change of the token may be at work. -/
def touchOf : Instr → Touch
  | .sfMark =>
    { Touch.all with
      key := false, pcr := false, mem := false, hod := false, snag := false, mark := true, gen := true, role := true,
      sess := true }
  | .genCommit _ =>
    { jr := true, regs := true, gmp := true, scr := true, sched := true, pair := true, lkp := true, sess := true }
  | .discard _ =>
    { jr := true, regs := true, gmp := true, scr := true, sched := true, pair := true, lkp := true, sess := true }
  | .commitEntry =>
    { jr := true, regs := true, gmp := true, safe := true, fix := true, scr := true, memb := true, loop := true,
      pair := true, evr := true, nvm := true, mac := true, lkp := true, gen := true, sess := true }
  | .catchupEnd => { lkp := true }
  | .settingsWritten _ _ => { regs := true, evr := true, nvm := true }
  | .rtcmUartMessage _ _ _ =>
    { time := true, jr := true, regs := true, gmp := true, fix := true, sched := true, pair := true, evr := true }
  | .rtcm _ _ _ _ _ _ =>
    { time := true, jr := true, regs := true, gmp := true, fix := true, sched := true, pair := true, evr := true,
      sess := true }
  | .refRtcm _ _ =>
    { time := true, jr := true, regs := true, gmp := true, fix := true, sched := true, pair := true, evr := true }
  | .refLost _ => { regs := true, fix := true, evr := true }
  | .refAbsentTimeout _ => { fix := true }
  | .clear _ _ => { jr := true, regs := true, gmp := true, fix := true, sched := true, pair := true, sess := true }
  | .switch _ => { jr := true, regs := true, gmp := true, fix := true, sched := true, pair := true, sess := true }
  | .fixRecord _ _ _ _ => { Touch.all with mark := true, gen := true, role := true, sess := true }
  | .fixAgeExpiry _ => { regs := true, gmp := true, safe := true, evr := true }
  | .resvRebuild _ =>
    { jr := true, regs := true, gmp := true, safe := true, fix := true, scr := true, memb := true, sched := true,
      loop := true, pair := true, evr := true }
  | .roverReset _ => { jr := true, regs := true, gmp := true, fix := true, sched := true, pair := true, sess := true }
  | .track _ _ => { jr := true, regs := true, gmp := true, scr := true, sched := true, pair := true, sess := true }
  | .scrInsert => { regs := true, gmp := true, scr := true, memb := true, sched := true, evr := true, sess := true }
  | .cancel _ _ =>
    { jr := true, regs := true, gmp := true, safe := true, scr := true, memb := true, sched := true, pair := true,
      evr := true, sess := true }
  | .cancelAll _ =>
    { jr := true, regs := true, gmp := true, safe := true, scr := true, memb := true, sched := true, pair := true,
      evr := true, sess := true }
  | .slotAdvance => { regs := true, gmp := true, safe := true, scr := true, evr := true }
  | .conformanceCheck _ =>
    { regs := true, gmp := true, safe := true, fix := true, scr := true, memb := true, sched := true, evr := true }
  | .zone _ _ =>
    { jr := true, regs := true, gmp := true, scr := true, sched := true, pair := true, lkp := true, sess := true }
  | .zoneWrite _ =>
    { jr := true, regs := true, gmp := true, scr := true, sched := true, pair := true, lkp := true, sess := true }
  | .zoneDelete _ =>
    { jr := true, regs := true, gmp := true, scr := true, sched := true, pair := true, lkp := true, sess := true }
  | .zoneRead _ =>
    { jr := true, regs := true, gmp := true, scr := true, sched := true, pair := true, lkp := true, sess := true }
  | .task _ _ => { jr := true, regs := true, gmp := true, scr := true, sched := true, pair := true, sess := true }
  | .withdraw _ _ => { jr := true, regs := true, gmp := true, scr := true, sched := true, pair := true, sess := true }
  | .connector _ _ =>
    { jr := true, regs := true, gmp := true, scr := true, sched := true, pair := true, sess := true }
  | .allotmentRound => { regs := true, gmp := true, scr := true, sched := true }
  | .award => { regs := true, gmp := true, scr := true, memb := true, sched := true, evr := true }
  | .estopInputEdge _ _ _ => { time := true, safe := true }
  | .estopFilteredChange _ =>
    { time := true, jr := true, regs := true, gmp := true, safe := true, pair := true, evr := true }
  | .discrepancy => { time := true, jr := true, regs := true, gmp := true, safe := true, pair := true, evr := true }
  | .stopAll _ _ =>
    { jr := true, regs := true, gmp := true, safe := true, sched := true, pair := true, evr := true, key := true,
      grant := true, sess := true }
  | .stopGroup _ _ _ =>
    { jr := true, regs := true, gmp := true, safe := true, sched := true, pair := true, evr := true, key := true,
      grant := true, sess := true }
  | .stopMachine _ _ _ =>
    { jr := true, regs := true, gmp := true, safe := true, sched := true, pair := true, evr := true, key := true,
      grant := true, sess := true }
  | .armAll _ _ =>
    { jr := true, regs := true, gmp := true, safe := true, sched := true, pair := true, evr := true, key := true,
      grant := true, sess := true }
  | .armGroup _ _ _ =>
    { jr := true, regs := true, gmp := true, safe := true, sched := true, pair := true, evr := true, key := true,
      grant := true, sess := true }
  | .confirm _ _ _ =>
    { jr := true, regs := true, gmp := true, safe := true, sched := true, pair := true, evr := true, key := true,
      grant := true, sess := true }
  | .release _ _ _ =>
    { jr := true, regs := true, gmp := true, safe := true, sched := true, pair := true, evr := true, key := true,
      grant := true, sess := true }
  | .disarm _ _ =>
    { jr := true, regs := true, gmp := true, safe := true, sched := true, pair := true, evr := true, key := true,
      grant := true, sess := true }
  | .withdrawalRequest _ _ _ _ => { regs := true, gmp := true, safe := true, evr := true }
  | .leaseExpiry _ => { regs := true, gmp := true, safe := true, evr := true }
  | .safeLogic => { jr := true, regs := true, gmp := true, safe := true, pair := true, evr := true }
  | .safeStore _ => { jr := true, regs := true, gmp := true, safe := true, pair := true, evr := true }
  | .safeClock => { jr := true, regs := true, gmp := true, safe := true, pair := true, evr := true }
  | .safeClockRestored => { jr := true, regs := true, gmp := true, safe := true, pair := true, evr := true }
  | .seqFault => { jr := true, regs := true, gmp := true, safe := true, pair := true, evr := true }
  | .loopEval _ => { regs := true, memb := true, sched := true, loop := true, evr := true }
  | .loopTick _ => { regs := true, loop := true }
  | .loopHold _ => { regs := true, memb := true, loop := true }
  | .holdStep _ => { memb := true, loop := true }
  | .holdWithdraw _ => { regs := true, gmp := true, safe := true, loop := true, evr := true }
  | .resume _ =>
    { jr := true, regs := true, gmp := true, memb := true, sched := true, loop := true, pair := true, sess := true }
  | .clearI _ =>
    { jr := true, regs := true, gmp := true, memb := true, sched := true, loop := true, pair := true, sess := true }
  | .coefWrite _ _ _ _ _ => { jr := true, regs := true, gmp := true, sched := true, pair := true, sess := true }
  | .readId _ _ _ => { regs := true, safe := true, evr := true, mac := true, lkp := true }
  | .status _ _ _ _ _ => { regs := true, safe := true, evr := true, mac := true, lkp := true }
  | .setChannel _ _ => { regs := true, safe := true, evr := true, mac := true, lkp := true }
  | .setPower _ _ => { regs := true, safe := true, evr := true, mac := true, lkp := true }
  | .txLoad _ _ => { regs := true, safe := true, evr := true, mac := true, lkp := true }
  | .txCancel _ _ => { regs := true, safe := true, evr := true, mac := true, lkp := true }
  | .rxRead _ _ _ => { regs := true, safe := true, pair := true, evr := true, mac := true, lkp := true }
  | .rxFlush _ _ => { regs := true, safe := true, evr := true, mac := true, lkp := true }
  | .startNibbleTimeout _ _ => { regs := true, safe := true, evr := true, mac := true, lkp := true }
  | .rxstamp _ _ => { time := true, mac := true }
  | .rxIrq _ => { mac := true }
  | .stampOnly _ _ => { time := true, regs := true, mac := true }
  | .slotCutoff _ _ =>
    { time := true, regs := true, safe := true, fix := true, memb := true, sched := true, mac := true }
  | .slotStart _ _ =>
    { time := true, jr := true, regs := true, gmp := true, safe := true, sched := true, pair := true, evr := true,
      mac := true }
  | .planSwitch _ => { memb := true, mac := true }
  | .noHeadTimeout _ => { time := true, regs := true, safe := true, evr := true, mac := true, lkp := true }
  | .portRetry _ => { time := true, mac := true }
  | .resetHead _ _ =>
    { jr := true, regs := true, gmp := true, safe := true, sched := true, pair := true, evr := true, mac := true,
      lkp := true, sess := true }
  | .upFrame _ =>
    { jr := true, regs := true, gmp := true, safe := true, fix := true, memb := true, sched := true, pair := true,
      evr := true, mac := true, lkp := true }
  | .ackFrame _ =>
    { jr := true, regs := true, gmp := true, safe := true, fix := true, memb := true, sched := true, pair := true,
      evr := true, mac := true, lkp := true }
  | .joinReq _ =>
    { jr := true, regs := true, gmp := true, safe := true, fix := true, memb := true, sched := true, pair := true,
      evr := true, mac := true, lkp := true }
  | .joinAccAbandon => { memb := true }
  | .leave _ =>
    { jr := true, regs := true, gmp := true, safe := true, fix := true, memb := true, sched := true, pair := true,
      evr := true, mac := true, lkp := true }
  | .pend _ =>
    { jr := true, regs := true, gmp := true, safe := true, fix := true, memb := true, sched := true, pair := true,
      evr := true, mac := true, lkp := true }
  | .relay _ =>
    { jr := true, regs := true, gmp := true, safe := true, fix := true, memb := true, sched := true, pair := true,
      evr := true, mac := true, lkp := true }
  | .silenceTimeout _ => { regs := true, memb := true }
  | .wakeMiss _ => { regs := true, memb := true }
  | .addrHoldExpiry _ =>
    { regs := true, gmp := true, safe := true, fix := true, memb := true, loop := true, evr := true, lkp := true }
  | .disassoc _ =>
    { jr := true, regs := true, gmp := true, safe := true, fix := true, memb := true, sched := true, loop := true,
      pair := true, evr := true, lkp := true, sess := true }
  | .freeAddr _ =>
    { jr := true, regs := true, gmp := true, safe := true, fix := true, memb := true, sched := true, loop := true,
      pair := true, evr := true, lkp := true, sess := true }
  | .jobComplete _ _ => { regs := true, sched := true, evr := true }
  | .jobRetire _ => { regs := true, sched := true }
  | .delayRelease => { time := true, regs := true, sched := true }
  | .budgetWindow => { time := true, sched := true }
  | .waitClr _ => { jr := true, regs := true, gmp := true, sched := true, pair := true, sess := true }
  | .stripEnd _ => { pcr := true, mem := true, hod := true }
  | .stripOverrun => { Touch.all with mark := true, gen := true, role := true, sess := true }
  | .hodPtrMismatch _ =>
    { jr := true, regs := true, gmp := true, safe := true, pair := true, evr := true, hod := true }
  | .hodUnread _ _ _ =>
    { jr := true, regs := true, gmp := true, safe := true, sched := true, pair := true, evr := true, pcr := true,
      hod := true, snag := true }
  | .hodReset _ =>
    { jr := true, regs := true, gmp := true, safe := true, sched := true, pair := true, evr := true, hod := true,
      sess := true }
  | .hodDrop _ _ =>
    { jr := true, regs := true, gmp := true, safe := true, sched := true, pair := true, evr := true, hod := true,
      sess := true }
  | .ethFrame _ => { regs := true, gmp := true, lkp := true }
  | .ageVisit _ _ => { time := true, regs := true, lkp := true }
  | .tableRebuild _ => { regs := true, lkp := true }
  | .ethLinkChange _ _ _ => { regs := true, gmp := true, lkp := true }
  | .search _ _ _ _ =>
    { jr := true, regs := true, gmp := true, sched := true, pair := true, lkp := true, sess := true }
  | .nextEntry _ _ _ _ =>
    { jr := true, regs := true, gmp := true, sched := true, pair := true, lkp := true, sess := true }
  | .flushPort _ _ _ _ =>
    { jr := true, regs := true, gmp := true, sched := true, pair := true, lkp := true, sess := true }
  | .staticAdd _ _ _ _ =>
    { jr := true, regs := true, gmp := true, sched := true, pair := true, lkp := true, sess := true }
  | .staticDel _ _ _ _ =>
    { jr := true, regs := true, gmp := true, sched := true, pair := true, lkp := true, sess := true }
  | .rule _ _ => { jr := true, regs := true, gmp := true, sched := true, pair := true, lkp := true, sess := true }
  | .ruleWrite _ => { jr := true, regs := true, gmp := true, sched := true, pair := true, lkp := true, sess := true }
  | .ruleDelete _ => { jr := true, regs := true, gmp := true, sched := true, pair := true, lkp := true, sess := true }
  | .ruleRead _ => { jr := true, regs := true, gmp := true, sched := true, pair := true, lkp := true, sess := true }
  | .ppsEdge _ _ => { time := true }
  | .ptpSync _ _ _ => { time := true, jr := true, regs := true, gmp := true, pair := true, evr := true }
  | .ptpMessage _ _ => { time := true, regs := true }
  | .sourceAbsentTimeout _ => { time := true, jr := true, regs := true, gmp := true, pair := true, evr := true }
  | .holdLimitExpiry => { time := true, regs := true, evr := true }
  | .forceSet _ => { time := true, jr := true, regs := true, gmp := true, sched := true, pair := true, sess := true }
  | .forceSetApply =>
    { time := true, jr := true, regs := true, gmp := true, sched := true, pair := true, evr := true }
  | .timeHoldEnd =>
    { Touch.all with
      key := false, pcr := false, mem := false, hod := false, snag := false, mark := true, gen := true, sess := true }
  | .clearDis _ => { time := true, jr := true, regs := true, gmp := true, sched := true, pair := true, sess := true }
  | .trigArm _ _ _ =>
    { time := true, jr := true, regs := true, gmp := true, sched := true, pair := true, sess := true, stage := true }
  | .triggerFire _ => { time := true }
  | .armAdvance _ _ =>
    { jr := true, regs := true, gmp := true, sched := true, pair := true, evr := true, key := true, sess := true }
  | .armRevokeA _ =>
    { jr := true, regs := true, gmp := true, sched := true, pair := true, evr := true, key := true, sess := true }
  | .lcConfirm _ _ =>
    { jr := true, regs := true, gmp := true, sched := true, pair := true, evr := true, key := true, sess := true }
  | .lcDisarm _ =>
    { jr := true, regs := true, gmp := true, sched := true, pair := true, evr := true, key := true, sess := true }
  | .fuseBlown => { Touch.all with mark := true, gen := true, role := true, fuse := true, sess := true }
  | .root _ _ =>
    { jr := true, regs := true, gmp := true, sched := true, pair := true, key := true, fuse := true, sess := true }
  | .keyPut _ _ => { jr := true, regs := true, gmp := true, sched := true, pair := true, key := true, sess := true }
  | .keyringWritten _ _ => { regs := true, gmp := true, evr := true, key := true, nvm := true, sess := true }
  | .keyInvalidate _ _ _ =>
    { jr := true, regs := true, gmp := true, sched := true, pair := true, key := true, sess := true }
  | .invalidate _ _ =>
    { jr := true, regs := true, gmp := true, sched := true, pair := true, key := true, sess := true }
  | .evict _ _ => { jr := true, regs := true, gmp := true, sched := true, pair := true, key := true, sess := true }
  | .keyLoad _ _ _ => { regs := true, key := true }
  | .keyOperationEnd _ => { key := true }
  | .newChal _ =>
    { jr := true, regs := true, gmp := true, sched := true, pair := true, evr := true, key := true, sess := true }
  | .submit _ _ _ =>
    { jr := true, regs := true, gmp := true, sched := true, pair := true, evr := true, key := true, sess := true }
  | .hello _ _ => { Touch.all with mark := true, gen := true, role := true, sess := true }
  | .helloSend => { time := true, pair := true }
  | .renewSend => { time := true, regs := true, pair := true }
  | .renew _ _ => { Touch.all with mark := true, gen := true, role := true, sess := true }
  | .pairAck _ _ => { regs := true, pair := true, evr := true }
  | .pathDownTimeout _ => { time := true, regs := true, pair := true, evr := true }
  | .fence => { time := true, regs := true, safe := true, pair := true, evr := true, role := true }
  | .takeover => { Touch.all with grant := true, mark := true, gen := true, role := true, sess := true }
  | .retakeWaitExpiry => { Touch.all with grant := true, mark := true, gen := true, role := true, sess := true }
  | .jrnl _ _ =>
    { Touch.all with
      mem := false, grant := true, mark := true, gen := true, role := true, fuse := true, sess := true,
      stage := true }
  | .jrnlAck _ _ _ => { jr := true, regs := true, pair := true, evr := true }
  | .digest _ _ _ _ _ _ => { regs := true, safe := true, pair := true, evr := true }
  | .copyReq _ _ => { regs := true, pair := true, evr := true }
  | .copyReqRetry => { time := true, pair := true }
  | .copyBegin _ _ _ _ _ _ _ => { regs := true, pair := true, evr := true }
  | .copyChunk _ _ _ _ => { regs := true, pair := true, evr := true }
  | .copyEnd _ _ _ _ _ =>
    { Touch.all with
      mem := false, grant := true, mark := true, gen := true, role := true, fuse := true, sess := true,
      stage := true }
  | .copyResult _ _ _ => { regs := true, pair := true, evr := true }
  | .copyTimeout => { time := true, regs := true, pair := true, evr := true }
  | .handover _ _ => { jr := true, regs := true, gmp := true, sched := true, pair := true, sess := true }
  | .handoverFrame _ =>
    { Touch.all with
      key := false, pcr := false, mem := false, hod := false, snag := false, grant := true, mark := true, gen := true,
      role := true, sess := true }
  | .takeAlone _ _ =>
    { jr := true, regs := true, gmp := true, safe := true, sched := true, pair := true, evr := true, role := true,
      sess := true }
  | .clientHello _ _ _ _ _ _ => { jr := true, regs := true, gmp := true, key := true, sess := true }
  | .sessionClose _ => { jr := true, gmp := true, sess := true }
  | .idleTimeout _ => { jr := true, gmp := true, sess := true }
  | .read _ _ _ _ =>
    { time := true, jr := true, regs := true, gmp := true, scr := true, sched := true, loop := true, pair := true,
      evr := true, mac := true, sess := true }
  | .write _ _ _ _ =>
    { Touch.all with
      grant := true, mark := true, gen := true, role := true, sess := true, stage := true }
  | .writeSeq _ _ _ _ _ =>
    { Touch.all with
      grant := true, mark := true, gen := true, role := true, sess := true, stage := true }
  | .registerWrite _ _ _ =>
    { Touch.all with
      grant := true, mark := true, gen := true, role := true, sess := true, stage := true }
  | .commitMsg _ => { jr := true, regs := true, gmp := true, sched := true, pair := true, sess := true }
  | .subscribe _ _ _ _ _ _ => { regs := true, gmp := true, sess := true }
  | .unsubscribe _ _ _ => { jr := true, regs := true, gmp := true, sess := true }
  | .journalAck _ _ _ _ => { jr := true, regs := true, gmp := true, sess := true }
  | .logRead _ _ _ _ => { regs := true, gmp := true, sched := true, sess := true }
  | .logErase _ _ => { regs := true, gmp := true, evr := true, sess := true }
  | .logEraseDone => { regs := true, gmp := true, evr := true, sess := true }
  | .recordWritten _ _ _ => { regs := true, gmp := true, evr := true, nvm := true, sess := true }
  | .updBegin _ _ _ => { regs := true, gmp := true, nvm := true, upd := true, sess := true }
  | .updEraseDone _ _ => { regs := true, evr := true, nvm := true, upd := true }
  | .updBlock _ _ _ _ _ _ _ _ => { regs := true, gmp := true, evr := true, nvm := true, upd := true, sess := true }
  | .updStatus _ => { regs := true, gmp := true, upd := true, sess := true }
  | .updVerify _ _ => { regs := true, gmp := true, upd := true, sess := true }
  | .updActivate _ _ _ => { Touch.all with mark := true, gen := true, role := true, sess := true }
  | .updConfirm _ _ _ => { regs := true, gmp := true, evr := true, nvm := true, upd := true, sess := true }
  | .updAbort _ => { regs := true, gmp := true, nvm := true, upd := true, sess := true }
  | .updInfo _ _ => { regs := true, gmp := true, upd := true, sess := true }
  | .trialTimeout => { Touch.all with mark := true, gen := true, role := true, sess := true }
  | .boot _ => { Touch.all with mark := true, gen := true, role := true, sess := true }
  | .journalStart =>
    { Touch.all with
      key := false, pcr := false, mem := false, hod := false, snag := false, mark := true, gen := true, sess := true }
  | .snagTest _ => { Touch.all with mark := true, gen := true, role := true, sess := true }
  | .coverMiss _ _ _ => { regs := true, evr := true }
  | .safeSelfCheck _ =>
    { jr := true, regs := true, gmp := true, safe := true, pair := true, evr := true, snag := true }
  | .restartBay _ _ =>
    { jr := true, regs := true, gmp := true, safe := true, sched := true, pair := true, evr := true, pcr := true,
      snag := true, sess := true }
  | .snagFence _ _ =>
    { jr := true, regs := true, gmp := true, safe := true, sched := true, pair := true, evr := true, pcr := true,
      snag := true, sess := true }
  | .retest _ _ _ =>
    { jr := true, regs := true, gmp := true, safe := true, sched := true, pair := true, evr := true, pcr := true,
      snag := true, sess := true }
  | .bayDomainOn => { time := true, pcr := true, snag := true }
  | .bayRestartDone _ _ _ =>
    { time := true, jr := true, regs := true, gmp := true, safe := true, sched := true, pair := true, evr := true,
      key := true, pcr := true, mem := true, snag := true }
  | .railTrip _ _ _ => { Touch.all with mark := true, gen := true, role := true, sess := true }
  | .railGlitch _ => { regs := true }
  | .aonPowerOn => { Touch.all with mark := true, gen := true, role := true, sess := true }
  | .resetN => { Touch.all with mark := true, gen := true, role := true, sess := true }
  | .clockLoss _ => { Touch.all with mark := true, gen := true, role := true, sess := true }
  | .coreFault => { Touch.all with mark := true, gen := true, role := true, sess := true }
  | .watchdog => { Touch.all with mark := true, gen := true, role := true, sess := true }
  | .resetRelease => { evr := true, key := true, pcr := true, fuse := true }
  | .pcrReset _ => { Touch.all with mark := true, gen := true, role := true, sess := true }
  | .standby _ => { jr := true, regs := true, gmp := true, sched := true, pair := true, pcr := true, sess := true }
  | .standbyEntered => { Touch.all with mark := true, gen := true, role := true, sess := true }
  | .wake _ => { pcr := true }
  | .tempRead _ => { Touch.all with mark := true, gen := true, role := true, sess := true }
  | .permitDynToggle => { time := true, safe := true }
  | .fragmentReassemblyTimeout _ => { regs := true, gmp := true }
  | .announceReceiptTimeout _ => { time := true }
  | .ptpSendInterval _ _ => { time := true }

end Sys2Proof.Machine
end

