-- ==== Sys2Proof/Certificates/Slice0/Obligations.lean ====
section
/-!
DEFINITION. The statements for the provers: what every command of the block does, family by family, what it leaves, and
what no command does. A statement that rests on a choice of the model says so and names the log entry.
-/

open Sys2Proof Sys2Proof.Machine


/-- Step takes the command at the front of the queue and executes it with the queue's rest. -/
def Obligations.StepRunsFront : Prop :=
  ∀ (s : State) (c : Instr) (rest : List Instr), s.pending = c :: rest → step s = exec c { s with pending := rest }

/-- On an empty queue one edge of the 100 MHz clock passes (14_station_time R368; the tick on an empty queue is the
model's choice, log entry 20): station time gains 10 ns times 1 + F_SERVO + F_SLEW, held to 2^-32 ns, and the
operating time 10 ns; nothing else changes. -/
def Obligations.IdleStepIsOneClockEdge : Prop :=
  ∀ s : State, s.pending = [] → ∃ t, step s = .next t ∧ Follows { time := true } s t ∧ t.out = s.out ∧ t.free = s.free ∧
    t.time.op = s.time.op + 10 ∧ t.time.frac < 2 ^ 32 ∧
    t.time.ns * 2 ^ 32 + t.time.frac = s.time.ns * 2 ^ 32 + s.time.frac +
      edgeAdd (s.time.servo + s.time.slew) ∧ edgeAdd 0 = 10 * 2 ^ 32 ∧ edgeAdd 1000000 = 10 * 2 ^ 32 + 42949 ∧
    t.time.st = s.time.st ∧ t.time.srcs = s.time.srcs ∧ t.time.trigs = s.time.trigs ∧ t.time.valid = s.time.valid

/-- Every command has an outcome, and none of them a fault or a refusal: the block answers every error with a status
code (00_scope R16) and goes on. -/
def Obligations.EveryCommandAnswersANextState : Prop :=
  ∀ (c : Instr) (s : State), ∃ t, exec c s = .next t

/-- What each command leaves unchanged: every part of the state that `touchOf` does not name for it, the part, the
queue, what has been given out, and the canonical form of the register store. -/
def Obligations.EveryCommandKeepsItsFrame : Prop :=
  ∀ (c : Instr) (s t : State), exec c s = .next t → Follows (touchOf c) s t

/-- A step takes at most the front of the queue, keeps what has been given out, the part, and the canonical form of
the register store: keys strictly rising and no word equal to its default. -/
def Obligations.StepKeepsTheStore : Prop :=
  ∀ s t : State, s.regs.canon s.part = true → step s = .next t →
    t.regs.canon t.part = true ∧ t.part = s.part ∧ t.pending = s.pending.tail ∧ s.out <+: t.out

/-- The commands in which a permit bit can be set: the SAFE requests, a register write, a journal entry applied from
the partner, a state copy, and the two that take the token. -/
def Obligations.OnlyTheseCommandsGrant : Prop :=
  ∀ (c : Instr) (s t : State), exec c s = .next t →
    ((∃ m, t.safe.permit.testBit m = true ∧ s.safe.permit.testBit m = false) ∨ (s.safe.latch = true ∧ t.safe.latch = false)) →
    (∃ h w, c = .stopAll h w) ∨ (∃ h w g, c = .stopGroup h w g) ∨ (∃ h w a, c = .stopMachine h w a) ∨ (∃ h w, c = .armAll h w) ∨
    (∃ h w g, c = .armGroup h w g) ∨ (∃ h w k, c = .confirm h w k) ∨ (∃ h w a, c = .release h w a) ∨ (∃ h w, c = .disarm h w) ∨
    c = .takeover ∨ c = .retakeWaitExpiry ∨ (∃ f l, c = .jrnl f l) ∨ (∃ f e n d x, c = .copyEnd f e n d x) ∨
    (∃ f, c = .handoverFrame f) ∨ (∃ h w d p, c = .write h w d p) ∨ (∃ h a w d p, c = .writeSeq h a w d p) ∨
    (∃ h a v, c = .registerWrite h a v)

/-- A commit is requested by TOP_GEN_CTRL or by a COMMIT message of a session with CONFIG (02_journal R54, 17_host
R437): it waits for the COMMIT entry at the superframe that R54 names; where nothing is staged it ends at once with
OK_EMPTY (R56). DISCARD of a session with CONFIG resets every staged copy to its value in force and is answered OK
(02_journal R58). Choices of the model that it rests on: log entries 13, 49. -/
def Obligations.CommitsAreRequestedAndDiscarded : Prop :=
  (∀ (h : GmpHdr) (x : Session) (s : State), GmpMay h x 1 10 s → s.jr.commit = none →
     (anyStaged s = true →
       (∃ t, exec (.genCommit h) s = .next t ∧ t.jr.commit = some ⟨dueSf s, [⟨x.ident, h.reqId⟩]⟩) ∧
       (∃ t, exec (.commitMsg h) s = .next t ∧ t.jr.commit = some ⟨dueSf s, [⟨x.ident, h.reqId⟩]⟩)) ∧
     (anyStaged s = false →
       (∃ t, exec (.genCommit h) s = .next t ∧ Answered h 0x02 stEmpty (indexBody 0xFFFF) s t ∧ t.jr.commit = none) ∧
       (∃ t, exec (.commitMsg h) s = .next t ∧ Answered h 0x04 stEmpty (be 4 s.jr.gen) s t ∧ t.jr.commit = none))) ∧
  (∀ (h : GmpHdr) (x : Session) (s : State), GmpMay h x 1 10 s →
     ∃ t, exec (.discard h) s = .next t ∧ Answered h 0x02 stOk (indexBody 0xFFFF) s t ∧ t.regs.staged = [] ∧
       t.scr.staged = s.scr.cov.zones ∧ t.lkp.stagedRules = s.lkp.rules ∧ t.lkp.stagedStatics = s.lkp.statics)

/-- The COMMIT entry that is due (02_journal R53, R55 to R57, R60): where every check passes, what is staged comes
into force, the generation becomes the next one, the tag in force before stays accepted for 50 superframes, and the
request is answered; where a check fails nothing comes into force. A settings write that ends (18_boot R463, R464,
R469): with a channel that took it the slot is in force and counted; with none NVM_FAULT is shown and the slot in
force stays. Choices of the model that it rests on: log entry 48. -/
def Obligations.CommitsDecideAndSettingsAreWritten : Prop :=
  (∀ (s : State) (r : CommitReq), s.jr.commit = some r → canWrite s = true → s.time.hold = none → r.due ≤ s.jr.sf →
     anyStaged s = true →
     (commitStatus s (regsCommit s) = stOk → ∃ t, exec .commitEntry s = .next t ∧ t.jr.gen = nextGenId s.jr.gen ∧
       t.jr.commit = none ∧ t.jr.lastStatus = stOk ∧ t.jr.prevTag = some (tagOf s.jr.digest, s.jr.sf + 50) ∧
       t.regs.staged = []) ∧
     (commitStatus s (regsCommit s) ≠ stOk → ∃ t, exec .commitEntry s = .next t ∧ t.jr.gen = s.jr.gen ∧
       t.jr.digest = s.jr.digest ∧ t.jr.commit = none ∧ t.jr.lastStatus = commitStatus s (regsCommit s) ∧ t.safe = s.safe ∧
       t.scr = s.scr ∧ t.lkp = s.lkp)) ∧
  (∀ (s : State) (i : Nat) (x : Settings), s.nvm.writing = some (i, x) → s.nvm.again = false →
     (chanUsed s 0 = true → ∃ t, exec (.settingsWritten true true) s = .next t ∧
       t.nvm.flash.sets = lset s.nvm.flash.sets i (.valid x) ∧ t.nvm.setSlot = i + 1 ∧ t.nvm.wcount = x.wcount ∧
       t.nvm.writing = none ∧ t.nvm.lastStatus = stOk ∧
       cfg t Addr.NVM_CNT_SET_WRITES 31 0 = min (2 ^ 32 - 1) (cfg s Addr.NVM_CNT_SET_WRITES 31 0 + 1)) ∧
     (∃ t, exec (.settingsWritten false false) s = .next t ∧ t.nvm.writing = none ∧ t.nvm.flash = s.nvm.flash ∧
       t.nvm.setSlot = s.nvm.setSlot ∧ cfg t Addr.NVM_ALARM 0 0 = 1 ∧ t.nvm.lastStatus = stCheck))

/-- The generation and the digest in force change in no command but those that write or apply a COMMIT entry, install
a copy, begin the journal or reset the device (02_journal R53, R57). The role changes in no command but those of
16_pair R410, an entry applied or a copy installed from the partner, and those in which the device is reset. -/
def Obligations.OnlyTheseCommandsChangeGenerationOrRole : Prop :=
  (∀ (c : Instr) (s t : State), exec c s = .next t → (t.jr.gen ≠ s.jr.gen ∨ t.jr.digest ≠ s.jr.digest) →
     c = .sfMark ∨ c = .commitEntry ∨ c = .timeHoldEnd ∨ c = .journalStart ∨ c = .takeover ∨ c = .retakeWaitExpiry ∨
     (∃ f l, c = .jrnl f l) ∨ (∃ f e n d x, c = .copyEnd f e n d x) ∨ (∃ f, c = .handoverFrame f) ∨
     (∃ m d n i, c = .fixRecord m d n i) ∨ c = .stripOverrun ∨ c = .fuseBlown ∨ (∃ f r, c = .hello f r) ∨ (∃ f n, c = .renew f n) ∨
     (∃ h w d p, c = .write h w d p) ∨ (∃ h a w d p, c = .writeSeq h a w d p) ∨ (∃ h a v, c = .registerWrite h a v) ∨
     (∃ h a b, c = .updActivate h a b) ∨ c = .trialTimeout ∨ (∃ b, c = .boot b) ∨ (∃ x, c = .snagTest x) ∨
     (∃ r d b, c = .railTrip r d b) ∨ c = .aonPowerOn ∨ c = .resetN ∨ (∃ b, c = .clockLoss b) ∨ c = .coreFault ∨ c = .watchdog ∨
     (∃ h, c = .pcrReset h) ∨ c = .standbyEntered ∨ (∃ x, c = .tempRead x)) ∧
  (∀ (c : Instr) (s t : State), exec c s = .next t → t.pair.role ≠ s.pair.role →
     c = .sfMark ∨ c = .takeover ∨ c = .retakeWaitExpiry ∨ c = .fence ∨ (∃ f r, c = .hello f r) ∨ (∃ f n, c = .renew f n) ∨
     (∃ h v, c = .takeAlone h v) ∨ (∃ f, c = .handoverFrame f) ∨ (∃ f l, c = .jrnl f l) ∨ (∃ f e n d x, c = .copyEnd f e n d x) ∨
     (∃ b, c = .boot b) ∨ (∃ h w d p, c = .write h w d p) ∨ (∃ h a w d p, c = .writeSeq h a w d p) ∨
     (∃ h a v, c = .registerWrite h a v) ∨ (∃ h, c = .pcrReset h) ∨ (∃ m d n i, c = .fixRecord m d n i) ∨ c = .stripOverrun ∨
     c = .fuseBlown ∨ (∃ h a b, c = .updActivate h a b) ∨ c = .trialTimeout ∨ (∃ x, c = .snagTest x) ∨ (∃ r d b, c = .railTrip r d b) ∨
     c = .aonPowerOn ∨ c = .resetN ∨ (∃ b, c = .clockLoss b) ∨ c = .coreFault ∨ c = .watchdog ∨ c = .standbyEntered ∨ (∃ x, c = .tempRead x))

/-- SF_MARK opens the next superframe of a unit that writes the journal (02_journal R43, R47); a hold passes it over
(14_station_time R377), and a unit that writes no entries opens none. JOURNAL_START begins the journal at the first
superframe boundary after VALID (18_boot R466), and TIME_HOLD_END ends a hold (14_station_time R377, R378): the unit
that holds the token opens the superframe in which the hold ends. Choices of the model that it rests on: log entries
9, 11. -/
def Obligations.SuperframesOpenAndTheJournalResumes : Prop :=
  (∀ s : State,
     (onDuty s = true → s.time.hold = none → s.pair.handover = none → ∃ t, exec .sfMark s = .next t ∧
       t.jr.sf = nextMark s ∧ t.jr.started = true ∧ t.time.ns = max s.time.ns (sfStart (nextMark s)) ∧ t.pair.role = s.pair.role) ∧
     (onDuty s = true → s.time.hold ≠ none → exec .sfMark s = .next s) ∧
     (onDuty s = false → ∃ t, exec .sfMark s = .next t ∧ t.jr.sf = s.jr.sf ∧ t.jr.started = s.jr.started)) ∧
  (∀ s : State,
     (unitUp s = true → s.time.valid = true → holdsToken s = true → s.jr.started = false → ∃ t, exec .journalStart s = .next t ∧
       t.jr.started = true ∧ t.jr.sf = sfOf (now s) + 1 ∧ t.time.ns = max s.time.ns (sfStart (sfOf (now s) + 1))) ∧
     (∀ h, s.time.hold = some h → onDuty s = true → ∃ t, exec .timeHoldEnd s = .next t ∧ t.time.hold = none ∧
       t.time.ns = max s.time.ns (sfStart (h + 1)) ∧ t.jr.sf = sfOf (max s.time.ns (sfStart (h + 1)))))

/-- An eligible standby whose lease runs out while it hears the partner in ACTIVE takes the token (16_pair R410, R415,
R416), and a fenced unit that may retake it does so after its wait (R417): each becomes ACTIVE and sets its alarm.
Choices of the model that it rests on: log entry 55. -/
def Obligations.TakingTheTokenMakesTheUnitActive : Prop :=
  ∀ s : State,
    (∀ h, s.pair.role = .standby → s.pair.heardAt = some h → eligible s = true → s.pair.partner = some 1 →
      ∃ t, exec .takeover s = .next t ∧ t.pair.role = .active ∧ cfg t Addr.PAIR_ALARM 5 5 = 1 ∧ t.jr.started = true) ∧
    (s.pair.role = .fenced → cfgB s Addr.PAIR_CFG 1 = true → s.pair.heard = false → s.pair.fencedPorts ≠ 0 →
      ∃ t, exec .retakeWaitExpiry s = .next t ∧ t.pair.role = .active ∧ cfg t Addr.PAIR_ALARM 6 6 = 1 ∧ t.jr.started = true)

/-- Every 2 ms a unit in SEEK or FENCED sends HELLO on both paths (16_pair R413), and the active unit a RENEW with the
next NUM (R414); the time of sending moves on by 2 ms or to the present. A path without a valid frame for 6 ms goes
down and sets its alarm (16_pair R413), and the active unit fences itself 10 ms after its lease base while its partner
is eligible (R414). Choices of the model that it rests on: log entry 56. -/
def Obligations.PairSendsAndFencesItself : Prop :=
  (∀ s : State, paired s = true →
     ((s.pair.role = .seek ∨ s.pair.role = .fenced) → ∃ t l b, exec .helloSend s = .next t ∧
       t.out = s.out ++ l ++ [Output.pair 1 0x01 b] ∧ t.pair.sentAt = max s.time.op (s.pair.sentAt + 2000000) ∧
       t.pair.role = s.pair.role) ∧
     (s.pair.role = .active → ∃ t l b, exec .renewSend s = .next t ∧ t.out = s.out ++ l ++ [Output.pair 1 0x02 b] ∧
       t.pair.num = s.pair.num + 1 ∧ t.pair.sentAt = max s.time.op (s.pair.sentAt + 2000000) ∧
       (s.pair.num + 1, max s.time.op (s.pair.sentAt + 2000000)) ∈ t.pair.unacked)) ∧
  (∀ s : State,
     (∀ i a, i < 2 → (path s i).up = true → (path s i).lastAt = some a → ∃ t, exec (.pathDownTimeout i) s = .next t ∧
       (path t i).up = false ∧ cfg t Addr.PAIR_ALARM i i = 1) ∧
     (∀ b, paired s = true → s.pair.role = .active → s.pair.elig = true → s.pair.base = some b → ∃ t, exec .fence s = .next t ∧
       t.pair.role = .fenced ∧ t.pair.fencedAt = max s.time.op (b + 10000000) ∧ t.pair.fencedPorts = portsUp s))

/-- What a valid frame on the witness line does (16_pair R410, R414, R415): a unit in SEEK that hears an active
partner becomes STANDBY, and one that hears a partner in SEEK of the greater UID becomes ACTIVE; a standby that hears
a RENEW moves its lease base to the present and acknowledges on the same path; an ACK moves the active unit's lease
base to the time the acknowledged RENEW was sent. Choices of the model that it rests on: log entries 56, 60. -/
def Obligations.PairHearsItsPartner : Prop :=
  ∀ (f : PairHdr) (s : State), paired s = true → f.path = 1 → f.ok = true → f.uid ≠ s.key.uid →
    (∀ r, s.pair.role = .seek → f.role = 1 → ∃ t, exec (.hello f r) s = .next t ∧ t.pair.role = .standby ∧ t.pair.sync = false) ∧
    (∀ r, s.pair.role = .seek → f.role = 0 → s.key.uid < f.uid →
      ∃ t, exec (.hello f r) s = .next t ∧ t.pair.role = .active ∧ t.pair.roleDue = some 1) ∧
    (∀ n, s.pair.role = .standby → f.role = 1 → ∃ t l b, exec (.renew f n) s = .next t ∧ t.pair.heardAt = some s.time.op ∧
      t.out = s.out ++ l ++ [Output.pair 1 0x03 b] ∧ t.pair.role = .standby) ∧
    (∀ n e, s.pair.role = .active → s.pair.unacked.find? (fun y => y.1 == n) = some e →
      ∃ t, exec (.pairAck f n) s = .next t ∧ t.pair.base = some e.2 ∧ e ∉ t.pair.unacked)

/-- PAIR_CTRL (16_pair R423, R424): a planned handover that may begin is answered OK and pends; in SEEK, TAKE_ALONE of
a unit with the global latch set, VALID time and neither path heard in the last 6 ms is answered OK and makes it
ACTIVE. Choices of the model that it rests on: log entries 13, 56. -/
def Obligations.PairControlActs : Prop :=
  ∀ (h : GmpHdr) (x : Session) (s : State),
    (∀ force, GmpMay h x 1 10 s → handoverStatus force s = stOk → ∃ t, exec (.handover h force) s = .next t ∧
      Answered h 0x02 stOk (indexBody 0xFFFF) s t ∧ t.pair.handover = some force ∧ t.pair.role = .active) ∧
    (GmpOpen h x s → hasRight s x.ident 1 = true → s.pair.role = .seek → s.safe.latch = true → s.time.valid = true →
      heardLately s 0 = false → heardLately s 1 = false → ∃ t, exec (.takeAlone h 0#32) s = .next t ∧
      Answered h 0x02 stOk (indexBody 0xFFFF) s t ∧ t.pair.role = .active ∧ t.pair.roleDue = some 3)

/-- The journal between the units (16_pair R418, R419, R423; 02_journal R51, R61): a synchronised standby applies the
entry that follows its last one and acknowledges it; an acknowledgement drops what it covers and becomes JRNL_ACK; a
DIGEST that differs in digest or class marks the difference and ends synchronisation, and one that agrees clears the
marks; a HANDOVER frame is noted, and with ROLE 0x06 applied before the cut-off of slot 0 the standby takes the token.
The state copy (16_pair R421, R422): the active unit answers COPY_REQ with a new copy of the next epoch; a standby
asks again every second, opens the copy that COPY_BEGIN names, keeps its chunks, and installs it whole at COPY_END;
the result or 10 s end it. Choices of the model that it rests on: log entries 57, 61, 63, 68. -/
def Obligations.PairReplicatesJournalAndCopy : Prop :=
  (∀ (f : PairHdr) (s : State), LinkFrame f s →
     (∀ e b, f.role = 1 → s.pair.role = .standby → s.pair.sync = true → s.pair.six = none → e.payload = .estop b →
       entryNext s e = some true → ∃ t l c, exec (.jrnl f [(e, true)]) s = .next t ∧ t.jr.sf = e.sf ∧ t.jr.lastSf = e.sf ∧
         t.jr.lastSeq = e.seq ∧ t.jr.nextSeq = e.seq + 1 ∧ t.safe.cInput = estopState b ∧
         t.out = s.out ++ l ++ [Output.pair 0 0x11 c]) ∧
     (∀ sf seq, s.pair.role = .active → ∃ t, exec (.jrnlAck f sf seq) s = .next t ∧ t.pair.ack = (sf, seq) ∧
       t.pair.fwd = s.pair.fwd.filter (fun e => posLt (sf, seq) e.1)) ∧
     (∀ g v b, ∃ t, exec (.digest f s.jr.digest g v b s.nvm.run.cls) s = .next t ∧ t.pair.digestDiff = false ∧
       t.pair.classDiff = false) ∧
     (∀ d g v b c, (d ≠ s.jr.digest ∨ c ≠ s.nvm.run.cls) → s.pair.role = .standby → s.pair.sync = true → f.role = 1 →
       ∃ t, exec (.digest f d g v b c) s = .next t ∧ t.pair.sync = false ∧ t.pair.why = 6 ∧
         t.pair.digestDiff = (d != s.jr.digest) ∧ t.pair.classDiff = (c != s.nvm.run.cls)) ∧
     (s.pair.role = .standby → s.pair.six = none → f.role = 1 → ∃ t, exec (.handoverFrame f) s = .next t ∧ t.pair.hoRx = true ∧
       t.pair.role = .standby) ∧
     (∀ n, s.pair.role = .standby → s.pair.six = some n → s.pair.sync = true → n ≤ s.jr.lastSf → f.role = 1 →
       now s < sfStart (n + 1) - 100000 → ∃ t, exec (.handoverFrame f) s = .next t ∧ t.pair.role = .active ∧ t.jr.started = true ∧
         t.jr.sf = n ∧ t.pair.txFrom = n + 1)) ∧
  (∀ (f : PairHdr) (s : State),
     (LinkFrame f s → s.pair.role = .active → ¬ (s.pair.copy.st = .sending ∧ s.pair.copy.p0 = none) → s.pair.copy.st ≠ .receiving →
       s.pair.copy.st ≠ .applying → ∃ t, exec (.copyReq f none) s = .next t ∧ t.pair.copy.st = .sending ∧
       t.pair.copy.epoch = s.pair.copy.epoch + 1 ∧ t.pair.copy.p0 = none) ∧
     (∀ a, engUsable s 0x3A = true → s.pair.role = .standby → s.pair.sync = false → s.pair.link.up = true → s.pair.copy.st = .none →
       s.pair.copy.asked = some a → ∃ t b, exec .copyReqRetry s = .next t ∧ t.out = s.out ++ [Output.pair 0 0x20 b] ∧
       t.pair.copy.asked = some (max s.time.op (a + 1000000000))) ∧
     (∀ e p g c n d, LinkFrame f s → f.role = 1 → s.pair.role = .standby → s.pair.sync = false →
       ∃ t, exec (.copyBegin f e p g c n d) s = .next t ∧ t.pair.copy.st = .receiving ∧ t.pair.copy.epoch = e ∧
         t.pair.copy.p0 = some p ∧ t.pair.copy.nchunk = n ∧ t.pair.copy.got = [] ∧ t.pair.classDiff = (c != s.nvm.run.cls)) ∧
     (∀ i, LinkFrame f s → f.role = 1 → s.pair.role = .standby → s.pair.copy.st = .receiving → i < s.pair.copy.nchunk →
       ∃ t, exec (.copyChunk f s.pair.copy.epoch i true) s = .next t ∧ kfind t.pair.copy.got i = some () ∧
         t.pair.copy.st = .receiving) ∧
     (∀ c, LinkFrame f s → f.role = 1 → s.pair.role = .standby → s.pair.copy.st = .receiving →
       s.pair.copy.got.length = s.pair.copy.nchunk → s.pair.copy.waiting = [] → s.pair.six = none →
       ∃ t, exec (.copyEnd f s.pair.copy.epoch s.pair.copy.nchunk true c) s = .next t ∧ t.pair.sync = !s.pair.classDiff ∧
         t.pair.copy.st = .none ∧ t.jr.gen = c.jr.gen ∧ t.jr.digest = c.jr.digest ∧ t.jr.sf = c.jr.sf ∧
         t.safe.cPermit = c.safe.cPermit ∧ t.memb = c.memb ∧ t.key.ring = c.ring) ∧
     (LinkFrame f s → s.pair.role = .active → s.pair.copy.st = .sending →
       ∃ t, exec (.copyResult f s.pair.copy.epoch true) s = .next t ∧ t.pair.copy.st = .none) ∧
     (s.pair.copy.st ≠ .none → ∃ t, exec .copyTimeout s = .next t ∧ t.pair.copy.st = .none ∧
       t.time.op = max s.time.op (s.pair.copy.since + 10000000000) ∧
       (s.pair.copy.st = .receiving → t.pair.sync = false ∧ t.pair.why = 1)))

/-- After reset the machine is stopped (07_motion_safety R193, R203, R209): no permit bit set, both global latches
set, both inputs in INPUT_STOP, nothing armed, PERMIT_DYN low. The register store is canonical after reset. -/
def Obligations.ResetIsStoppedWithACanonicalStore : Prop :=
  (State.reset.safe.permit = 0 ∧ State.reset.safe.cPermit = 0 ∧ State.reset.safe.latch = true ∧ State.reset.safe.cLatch = true ∧
   State.reset.safe.input = .inputStop ∧ State.reset.safe.arm = none ∧ State.reset.safe.dynPin = false ∧
   State.reset.safe.epoch = 0) ∧
  (State.reset.regs.canon State.reset.part = true)

/-- While the live global latch is set no permit bit is set (07_motion_safety R191, R208), and no step breaks this. -/
def Obligations.NoPermitUnderTheLatch : Prop :=
  ∀ s t : State, (s.safe.latch = true → s.safe.permit = 0) → step s = .next t → t.safe.latch = true → t.safe.permit = 0

/-- The stop commands of a session with STOP, as a SAFE message or as a WRITE of SAFE_CMD (07_motion_safety R190,
R191, R194, R205): STOP_ALL sets the global latch and clears the map, STOP_GROUP sets the group's latch and clears the
bits of its machines, STOP_MACHINE clears the machine's bit; each is answered OK. Choices of the model that it rests
on: log entries 13, 64. -/
def Obligations.StopCommandsStop : Prop :=
  ∀ (h : GmpHdr) (x : Session) (s : State) (w : Bool), GmpReady h x s → hasRight s x.ident 2 = true →
    ((s.safe.latch = true → s.safe.permit = 0) → ∃ t b, exec (.stopAll h w) s = .next t ∧
      Answered h (if w then 0x02 else 0x08) stOk b s t ∧ t.safe.latch = true ∧ t.safe.permit = 0 ∧ t.safe.cLatch = true ∧
      t.safe.cPermit = 0 ∧ t.safe.arm = none) ∧
    (∀ g, g < 8 → ∃ t b, exec (.stopGroup h w g) s = .next t ∧ Answered h (if w then 0x02 else 0x08) stOk b s t ∧
      t.safe.groups.testBit g = true ∧ t.safe.cGroups.testBit g = true ∧ t.safe.latch = s.safe.latch ∧
      ∀ a, isMachine s.part a = true → groupOf s a = g → t.safe.permit.testBit (machineBit a) = false) ∧
    (∀ a, isMachine s.part a = true → ∃ t b, exec (.stopMachine h w a) s = .next t ∧
      Answered h (if w then 0x02 else 0x08) stOk b s t ∧ t.safe.permit.testBit (machineBit a) = false ∧
      t.safe.cPermit.testBit (machineBit a) = false ∧ t.safe.latch = s.safe.latch)

/-- The release commands of a session with RELEASE (07_motion_safety R205 to R208): ARM_ALL and ARM_GROUP of a set
latch arm its release with the next TOKEN, CONFIRM with the token in time clears that latch, RELEASE sets the
machine's bit where no reason stands against it, and DISARM ends an armed release; each is answered OK. Choices of the
model that it rests on: log entry 13. -/
def Obligations.ReleaseCommandsRelease : Prop :=
  ∀ (h : GmpHdr) (x : Session) (s : State) (w : Bool), GmpReady h x s → hasRight s x.ident 3 = true →
    (armRefused s false = false → s.safe.cLatch = true → ∃ t b, exec (.armAll h w) s = .next t ∧
      Answered h (if w then 0x02 else 0x08) stOk b s t ∧
      t.safe.arm = some ⟨nextToken s.safe.lastToken, none, s.jr.sf⟩ ∧ t.safe.lastToken = nextToken s.safe.lastToken ∧
      t.safe.latch = s.safe.latch) ∧
    (∀ g, g < 8 → armRefused s true = false → s.safe.cGroups.testBit g = true → ∃ t b, exec (.armGroup h w g) s = .next t ∧
      Answered h (if w then 0x02 else 0x08) stOk b s t ∧
      t.safe.arm = some ⟨nextToken s.safe.lastToken, some g, s.jr.sf⟩ ∧ t.safe.groups = s.safe.groups) ∧
    (∀ k sf, k < 256 → s.safe.arm = some ⟨k, none, sf⟩ → armRefused s false = false →
      s.jr.sf ≤ sf + cfg s Addr.SAFE_LEASE 21 16 * 50 → ∃ t b, exec (.confirm h w k) s = .next t ∧
      Answered h (if w then 0x02 else 0x08) stOk b s t ∧ t.safe.latch = false ∧ t.safe.cLatch = false ∧ t.safe.arm = none ∧
      t.safe.permit = s.safe.permit ∧ t.key.arm = none) ∧
    (∀ a, isMachine s.part a = true → releaseReason s a = 0 → s.safe.cPermit.testBit (machineBit a) = false →
      ∃ t b, exec (.release h w a) s = .next t ∧ Answered h (if w then 0x02 else 0x08) stOk b s t ∧
        t.safe.permit = setBitN s.safe.permit (machineBit a) true ∧ t.safe.cPermit = setBitN s.safe.cPermit (machineBit a) true ∧
        (safeMach t a).sfLast = s.jr.sf) ∧
    (s.safe.arm ≠ none → ∃ t b, exec (.disarm h w) s = .next t ∧ Answered h (if w then 0x02 else 0x08) stOk b s t ∧
      t.safe.arm = none ∧ t.safe.permit = s.safe.permit ∧ t.safe.latch = s.safe.latch)

/-- What withdraws in the SAFE bay itself (07_motion_safety R189, R200, R209, R212, R213): a withdrawal over a hod or
a lapsed lease clears the machine's bit, live and covered; each internal fault becomes active and sets the global
latch; a store word whose copy corrects it is only counted; the clock's return ends its fault. The emergency-stop
inputs and PERMIT_DYN (07_motion_safety R192, R193, R209): an edge starts the channel's filter; a channel low for its
filter time takes INPUT_RUN to INPUT_STOP and sets the latch, and both high lead to INPUT_RUN; channels that differ
for DISC_T are DISCREPANT; PERMIT_DYN toggles with the half milliseconds of station time while every condition holds.
Choices of the model that it rests on: log entries 8, 12. -/
def Obligations.SafeBayWithdrawsAndWatchesItsInputs : Prop :=
  (∀ s : State,
     (∀ m cause sf seq, isMachine s.part m = true → 1 ≤ cause → cause ≤ 14 → ∃ t, exec (.withdrawalRequest m cause sf seq) s = .next t ∧
       t.safe.permit = setBitN s.safe.permit (machineBit m) false ∧ t.safe.cPermit = setBitN s.safe.cPermit (machineBit m) false ∧
       (s.safe.permit.testBit (machineBit m) = true → t.safe.lastCause = cause)) ∧
     (∀ m, isMachine s.part m = true → leaseLapsed s m = true → ∃ t, exec (.leaseExpiry m) s = .next t ∧
       t.safe.permit = setBitN s.safe.permit (machineBit m) false ∧ t.safe.cPermit = setBitN s.safe.cPermit (machineBit m) false) ∧
     (∃ t, exec .safeLogic s = .next t ∧ t.safe.faults.testBit 0 = true ∧ (s.safe.faults.testBit 0 = false → t.safe.latch = true)) ∧
     (∃ t, exec (.safeStore false) s = .next t ∧ t.safe.faults.testBit 1 = true ∧
       (s.safe.faults.testBit 1 = false → t.safe.latch = true)) ∧
     (∃ t, exec (.safeStore true) s = .next t ∧ t.safe = s.safe ∧
       cfg t Addr.SAFE_STORE 15 0 = min 65535 (cfg s Addr.SAFE_STORE 15 0 + 1)) ∧
     (∃ t, exec .safeClock s = .next t ∧ t.safe.clockOk = false ∧ t.safe.dynPin = false ∧ t.safe.faults.testBit 3 = true ∧
       (s.safe.faults.testBit 3 = false → t.safe.latch = true)) ∧
     (∃ t, exec .safeClockRestored s = .next t ∧ t.safe.clockOk = true ∧ t.safe.faults.testBit 3 = false ∧
       t.safe.latch = s.safe.latch) ∧
     (∃ t, exec .seqFault s = .next t ∧ t.safe.faults.testBit 5 = true ∧ (s.safe.faults.testBit 5 = false → t.safe.latch = true))) ∧
  (∀ s : State,
     (∀ level ns, ∃ t, exec (.estopInputEdge true level ns) s = .next t ∧ t.safe.chA.raw = level ∧ t.safe.chA.filt = s.safe.chA.filt ∧
       (s.safe.chA.raw ≠ level → t.safe.chA.since = t.time.op) ∧ t.safe.chB = s.safe.chB) ∧
     (s.safe.input = .inputRun → s.safe.chA.raw = false → s.safe.chA.filt = true → ∃ t, exec (.estopFilteredChange true) s = .next t ∧
       t.safe.chA.filt = false ∧ t.safe.input = .inputStop ∧ t.safe.latch = true ∧ t.safe.dynPin = false ∧
       t.time.op = max s.time.op (s.safe.chA.since + filterTime s false)) ∧
     (s.safe.input = .inputStop → s.safe.chB.raw = true → s.safe.chB.filt = false → s.safe.chA.filt = true →
       ∃ t, exec (.estopFilteredChange false) s = .next t ∧ t.safe.chB.filt = true ∧ t.safe.input = .inputRun ∧
         t.safe.latch = s.safe.latch ∧ t.safe.permit = s.safe.permit) ∧
     (∀ a, s.safe.input = .inputStop → s.safe.differ = some a → ∃ t, exec .discrepancy s = .next t ∧ t.safe.input = .discrepant ∧
       t.time.op = max s.time.op (a + cfg s Addr.SAFE_ESTOP_CFG 13 8 * 10000000)) ∧
     (∃ t, exec .permitDynToggle s = .next t ∧ t.time.ns = (now s / 500000 + 1) * 500000 ∧
       (dynOk s = false → t.safe.dynPin = false) ∧
       (dynOk s = true → t.safe.dynPin = decide (t.time.ns / 500000 % 2 = 0))))

/-- Track requests and cancels (05_track_reservation R129, R137, R141 to R145): a request with a field out of range is
answered ERR_FIELD and leaves the table; one with good fields is decided at its position, whole or not at all, and its
result waits as the newest insert; SCR_INSERT retires the oldest; a cancel cuts its descriptor at the later of
FROM_SLOT and the current slot; CANCEL_ALL leaves no LIVE descriptor of the selected machine at or past the current
slot. A track request is inserted whole or not at all (05_track_reservation R130, R139, R141): where its result is not
OK no descriptor becomes LIVE or stops being so, a request with a bad field leaves everything and a conflict the table
as it was; where it is OK a descriptor of the machine that was not LIVE is, under its next SEQ, from the START to the
LAST of the result. Choices of the model that it rests on: log entry 23. -/
def Obligations.TracksAreReservedWholeAndCancelled : Prop :=
  (∀ (h : GmpHdr) (x : Session) (s : State), GmpMay h x 1 10 s →
     (∀ b, b.wps ≠ [] → trackFields s.part (slotOfSf s s.jr.sf) b = false → ∃ t, exec (.track h b) s = .next t ∧
       Answered h 0x20 stField (TrackRes.blank stField b.start).wire s t ∧ t.scr = s.scr) ∧
     (∀ b, b.wps ≠ [] → trackFields s.part (slotOfSf s s.jr.sf) b = true → ∃ t p, exec (.track h b) s = .next t ∧
       t.scr.cov = (trackOutcome (geomFor s b.machine) ((geomFor s b.machine).slotOf s.jr.sf) (s.jr.sf, s.jr.nextSeq) b s.scr.cov).1 ∧
       t.scr.inserts = s.scr.inserts ++ [p] ∧ p.ident = x.ident ∧ p.reqId = h.reqId ∧ p.machine = b.machine ∧
       p.res = (trackOutcome (geomFor s b.machine) ((geomFor s b.machine).slotOf s.jr.sf) (s.jr.sf, s.jr.nextSeq) b s.scr.cov).2.1) ∧
     (∀ b, b.zero = 0 → b.resId / 256 % 256 ≤ 7 → isMachine s.part (b.resId / 2 ^ 16) = true →
       (s.scr.cov.desc (b.resId / 2 ^ 16) (b.resId / 256 % 256)).live = true →
       (s.scr.cov.desc (b.resId / 2 ^ 16) (b.resId / 256 % 256)).seq = b.resId % 256 →
       max b.fromSlot (slotOfSf s s.jr.sf) ≤ (s.scr.cov.desc (b.resId / 2 ^ 16) (b.resId / 256 % 256)).last →
       ∃ t n, exec (.cancel h b) s = .next t ∧
         Answered h 0x21 stOk (cancelBodyWire stOk b.resId (max b.fromSlot (slotOfSf s s.jr.sf)) n) s t ∧
         ((t.scr.cov.desc (b.resId / 2 ^ 16) (b.resId / 256 % 256)).live = true →
           (t.scr.cov.desc (b.resId / 2 ^ 16) (b.resId / 256 % 256)).last + 1 = max b.fromSlot (slotOfSf s s.jr.sf))) ∧
     (∃ t, exec (.cancelAll h) s = .next t ∧ Answered h 0x02 stOk (indexBody 0xFFFF) s t ∧
       ∀ i, i < 8 → (t.scr.cov.desc (cfg s Addr.SCR_MACH_SEL 15 0) i).live = true →
         (t.scr.cov.desc (cfg s Addr.SCR_MACH_SEL 15 0) i).last < slotOfSf s s.jr.sf) ∧
     (∀ p rest, s.scr.inserts = p :: rest → ∃ t, exec .scrInsert s = .next t ∧ t.scr = { s.scr with inserts := rest })) ∧
  (∀ (g : Geom) (cur : Nat) (pos : Nat × Nat) (b : TrackBody) (c : ScrCov),
     ((trackOutcome g cur pos b c).2.1.status ≠ stOk → ∀ m i, ((trackOutcome g cur pos b c).1.desc m i).live = (c.desc m i).live) ∧
     ((trackOutcome g cur pos b c).2.1.status = stField → (trackOutcome g cur pos b c).1 = c) ∧
     ((trackOutcome g cur pos b c).2.1.status = stConflict → (trackOutcome g cur pos b c).1.table = c.table) ∧
     ((trackOutcome g cur pos b c).2.1.status = stOk → ∃ i d, i < 8 ∧ (c.desc b.machine i).live = false ∧
       (trackOutcome g cur pos b c).1.desc b.machine i = d ∧ d.live = true ∧
       d.first = (trackOutcome g cur pos b c).2.1.start ∧ d.last = (trackOutcome g cur pos b c).2.1.last ∧
       (trackOutcome g cur pos b c).2.1.resId = resIdOf b.machine i d.seq ∧ d.seq = ((c.desc b.machine i).seq + 1) % 256))

/-- A superframe that opens a slot (05_track_reservation R146, R156): no LIVE descriptor is left whose last slot is
before it, and a machine that holds no entry at it has its conformance result FAIL and no permit. Choices of the model
that it rests on: log entry 11. -/
def Obligations.SlotAdvanceExpiresAndChecks : Prop :=
  ∀ s : State, s.scr.slotSf < s.jr.sf → slotOfSf s s.scr.slotSf < slotOfSf s s.jr.sf →
    ∃ t, exec .slotAdvance s = .next t ∧ t.scr.slotSf = s.jr.sf ∧
      (∀ m i, i < 8 → (t.scr.cov.desc m i).live = true → slotOfSf s s.jr.sf ≤ (t.scr.cov.desc m i).last) ∧
      (∀ m, isMachine s.part m = true → t.scr.cov.holdsAt (slotOfSf s s.jr.sf) m (slotOfSf s s.jr.sf) = false →
        (safeMach t m).conf = false ∧ t.safe.permit.testBit (machineBit m) = false ∧
        t.safe.cPermit.testBit (machineBit m) = false)

/-- Records and their checks (04_fix R97, R111, R115; 05_track_reservation R153, R154): the oldest Fix job of a rover
makes the record of its position, marked late more than 12 ms after its arrival; a check gives its machine the result
of R153 and withdraws the permit on a FAIL; a count beyond AGE_MAX fails the gate and withdraws; RESET returns the
selected rover to INIT. Choices of the model that it rests on: log entries 16, 18. -/
def Obligations.RecordsAreMadeAndChecked : Prop :=
  ∀ s : State,
    (∀ m done nums j rest, takeFix m s.fix.jobs = some (j, rest) → ∃ t r, exec (.fixRecord m done nums none) s = .next t ∧
      t.fix.jobs = rest ∧ (rover t m).recs.head? = some r ∧ r.sf = j.sf ∧ r.seq = j.seq ∧
      r.status = lateIf (decide ((j.arrival + 12000000) / 1000 < max s.time.ns done / 1000)) stOk ∧
      t.time.ns = max s.time.ns done) ∧
    (∀ m j rest, confTake m s.fix.confs = some (j, rest) → ∃ t, exec (.conformanceCheck m) s = .next t ∧ t.fix.confs = rest ∧
      (safeMach t m).conf = confPass j ∧ (confPass j = false → t.safe.permit.testBit (machineBit m) = false ∧
        t.safe.cPermit.testBit (machineBit m) = false)) ∧
    (∀ m, isMachine s.part m = true → isAssoc s m = true → ageOk s m = false → ∃ t, exec (.fixAgeExpiry m) s = .next t ∧
      (safeMach t m).gate = false ∧ t.safe.permit.testBit (machineBit m) = false ∧
      t.safe.cPermit.testBit (machineBit m) = false) ∧
    (∀ h x, GmpMay h x 1 10 s → (rover s (cfg s Addr.FIX_ROVER_SEL 15 0)).lc ≠ .empty → ∃ t, exec (.roverReset h) s = .next t ∧
      Answered h 0x02 stOk (indexBody 0xFFFF) s t ∧ (rover t (cfg s Addr.FIX_ROVER_SEL 15 0)).lc = .init ∧
      (rover t (cfg s Addr.FIX_ROVER_SEL 15 0)).ambs = [] ∧ (rover t (cfg s Addr.FIX_ROVER_SEL 15 0)).qual = 0)

/-- A memory failure that destroys covered state is a STATE_LOSS entry at the next position (12_memory R333, R334):
lost buckets leave the table of a unit that writes entries, and with no LIVE descriptor nothing comes back. The strip
(12_memory R338): its end clears every poison flag and every hod and lets the boot go on; a strip longer than 200 µs
is a CORE fault, and the device is held in reset. Choices of the model that it rests on: log entry 26. -/
def Obligations.LostBucketsRebuildAndStripsEnd : Prop :=
  (∀ (s : State) (group : Nat), group < 65536 → s.pair.role ≠ .standby → canWrite s = true → s.time.hold = none →
     ∃ t, exec (.resvRebuild group) s = .next t ∧ t.jr.lastSf = s.jr.sf ∧ t.jr.lastSeq = s.jr.nextSeq ∧
       cfg t Addr.MEM_CNT_STATE_LOSS 31 0 = min (2 ^ 32 - 1) (cfg s Addr.MEM_CNT_STATE_LOSS 31 0 + 1) ∧
       ((∀ e ∈ s.scr.cov.descs, e.2.live = false) → t.scr.cov.table = s.scr.cov.table.filter (fun e => e.1 / 32 != group))) ∧
  (∀ s : State, s.pcr.phase = .strip →
     (∀ us, ∃ t, exec (.stripEnd us) s = .next t ∧ t.pcr.phase = .boot ∧ (∀ b, (bank t b).poison = []) ∧
       (∀ h, (hodOf t h).used = 0 ∧ (hodOf t h).packets = 0) ∧ t.mem.stripUs = min 255 us) ∧
     (∃ t, exec .stripOverrun s = .next t ∧ t.pcr.phase = .held ∧ t.pcr.cause = 4 ∧ t.safe.latch = true ∧ t.safe.permit = 0 ∧
       t.jr = State.reset.jr ∧ t.gmp = State.reset.gmp ∧ t.out = s.out))

/-- Zone records (06_zones R162, R171, R184; 13_tables R358): a ZONE message is staged whole or, at its first failing
record, not at all; WRITE and DELETE of SCR_ZONE_CTRL stage the record that the data registers spell, and READ shows
the staged record of the index; the zones in force stay until a commit. Choices of the model that it rests on: log
entry 31. -/
def Obligations.ZoneRecordsAreStaged : Prop :=
  ∀ (h : GmpHdr) (x : Session) (s : State), GmpMay h x 1 10 s →
    (∀ rs tab, rs ≠ [] → zoneFold 0 rs (zoneTab s) = (tab, none) → ∃ t, exec (.zone h rs) s = .next t ∧
      Answered h 0x22 stOk (indexBody 0xFFFF) s t ∧ t.scr = { s.scr with staged := tab.recs } ∧
      t.lkp = { s.lkp with zoneShadow := tab.bank }) ∧
    (∀ rs tab i st, rs ≠ [] → zoneFold 0 rs (zoneTab s) = (tab, some (i, st)) → ∃ t, exec (.zone h rs) s = .next t ∧
      Answered h 0x22 st (indexBody i) s t ∧ t.scr = s.scr ∧ t.lkp = s.lkp) ∧
    (∀ tab st, zoneApply (zoneOfRegs s 1) (zoneTab s) = (tab, st) → ∃ t, exec (.zoneWrite h) s = .next t ∧
      Answered h 0x02 st (indexBody (if isErr st then 0 else 0xFFFF)) s t ∧ t.scr.zoneStatus = st ∧ t.scr.staged = tab.recs ∧
      t.scr.cov = s.scr.cov) ∧
    (∃ t, exec (.zoneDelete h) s = .next t ∧ Answered h 0x02 stOk (indexBody 0xFFFF) s t ∧ t.scr.zoneStatus = stOk ∧
      t.scr.staged = kdel s.scr.staged (cfg s Addr.SCR_ZONE_IDX 15 0) ∧ t.scr.cov = s.scr.cov) ∧
    (∀ z, kfind s.scr.staged (cfg s Addr.SCR_ZONE_IDX 15 0) = some z → ∃ t, exec (.zoneRead h) s = .next t ∧
      Answered h 0x02 stOk (indexBody 0xFFFF) s t ∧ t.scr.zonePresent = true ∧
      cfg t Addr.SCR_ZONE_PREFIX 31 0 = z.pfx % 2 ^ 32 ∧ t.scr.staged = s.scr.staged) ∧
    (kfind s.scr.staged (cfg s Addr.SCR_ZONE_IDX 15 0) = none → ∃ t, exec (.zoneRead h) s = .next t ∧
      Answered h 0x02 stEmpty (indexBody 0xFFFF) s t ∧ t.scr.zonePresent = false ∧ t.scr.zoneStatus = stEmpty)

/-- Tasks (06_zones R172 to R174, R182): a task with good fields takes the lowest free index, WAITING, under the next
SEQ of that index; a withdraw of a task that is not ASSIGNED frees it; a connector request for one that its machine
can do waits as the newest insert and, where it is clear, ASSIGNs the task. Choices of the model that it rests on: log
entry 13. -/
def Obligations.TasksAreHeldWithdrawnAndAssigned : Prop :=
  ∀ (h : GmpHdr) (x : Session) (s : State), GmpMay h x 1 10 s →
    (∀ b, b.wps ≠ [] → taskFields (slotOfSf s s.jr.sf) b = true → s.scr.tasks.length < 4096 → ∃ t i, exec (.task h b) s = .next t ∧
      i = freeTask 0 s.scr.tasks ∧ Answered h 0x23 stOk (be 4 (taskRef i ((kget 0 s.scr.taskSeq i + 1) % 256))) s t ∧
      kfind t.scr.tasks i = some ⟨.waiting, (kget 0 s.scr.taskSeq i + 1) % 256, b, 0, 0⟩) ∧
    (∀ ref i k, findTask s ref = .inr (i, k) → k.st ≠ .assigned → ∃ t, exec (.withdraw h ref) s = .next t ∧
      Answered h 0x24 stOk [] s t ∧ t.scr = { s.scr with tasks := kdel s.scr.tasks i }) ∧
    (∀ b i k, b.wps ≠ [] → b.zero0 = 0 → b.zero1 = 0 → isMachine s.part b.machine = true → findTask s b.ref = .inr (i, k) →
      k.st ≠ .assigned → hasCaps s b.machine k.body.capMask = true →
      trackFields s.part (slotOfSf s s.jr.sf) (taskTrack (slotOfSf s s.jr.sf) b.machine b.wps k.body) = true →
      ∃ t p, exec (.connector h b) s = .next t ∧ t.scr.inserts = s.scr.inserts ++ [p] ∧ p.ident = x.ident ∧
        p.reqId = h.reqId ∧ p.machine = b.machine ∧
        (p.res.status = stOk → kfind t.scr.tasks i = some { k with st := .assigned, machine := b.machine, resId := p.res.resId }) ∧
        (p.res.status ≠ stOk → t.scr.tasks = s.scr.tasks))

/-- The allotment round (06_zones R174, R175, R180, R181): at a mark where one is due it is counted, it frees every
task that waits past its DEADLINE, and its report is that of the last round as soon as no award is left; AWARD retires
the oldest award, and the last one ends the round. -/
def Obligations.AllotmentRoundsRun : Prop :=
  ∀ s : State,
    (s.scr.roundSf < s.jr.sf → roundDue s s.jr.sf = true → ∃ t, exec .allotmentRound s = .next t ∧ t.scr.roundSf = s.jr.sf ∧
      cfg t Addr.SCR_CNT_ROUND 31 0 = min (2 ^ 32 - 1) (cfg s Addr.SCR_CNT_ROUND 31 0 + 1) ∧
      (∀ i k, kfind s.scr.tasks i = some k → k.st ≠ .assigned → k.body.deadline < slotOfSf s s.jr.sf →
        kfind t.scr.tasks i = none) ∧
      (t.scr.awards = [] → t.scr.lastRound.sf = s.jr.sf ∧ t.scr.ending = none) ∧
      (t.scr.awards ≠ [] → ∃ e, t.scr.ending = some e ∧ e.rep.sf = s.jr.sf)) ∧
    (s.scr.roundSf < s.jr.sf → roundDue s s.jr.sf = false → ∃ t, exec .allotmentRound s = .next t ∧
      t = s.updScr (fun c => { c with roundSf := s.jr.sf })) ∧
    (∀ a rest, s.scr.awards = a :: rest → ∃ t, exec .award s = .next t ∧ t.scr.awards = rest ∧ t.scr.cov = s.scr.cov ∧
      (a.notice.event = 1 → cfg t Addr.SCR_CNT_AWARD 31 0 = min (2 ^ 32 - 1) (cfg s Addr.SCR_CNT_AWARD 31 0 + 1)) ∧
      (∀ e, rest = [] → s.scr.ending = some e → t.scr.lastRound = e.rep ∧ t.scr.ending = none))

/-- Messages of the references (03_fix_inputs R64 to R67, R73, R81): a message is an entry at the next position; a
station message of an ABSENT receiver that fits the survey makes it CANDIDATE, one too far away REFUSED; a valid
ephemeris of a satellite that has none is taken, an invalid one counted; a framing error and a failed CRC on the
receiver's own line are counted and give no entry; a delivery by GMP answers with how many of its frames were
journalled. The receivers at a mark and by command (03_fix_inputs R74, R75, R88): one whose newest epoch is too old is
LOST, and the other, where USABLE, becomes primary; one LOST for 60 s is ABSENT; CLEAR frees a REFUSED one; SWITCH
waits for the next mark. Choices of the model that it rests on: log entries 18, 19. -/
def Obligations.ReferenceReceiversAreFollowed : Prop :=
  (∀ s : State,
     (∀ k m sid x y z f, k < 2 → m.body = .arp sid x y z f → canWrite s = true → s.time.hold = none → (rx s k).st = .absent →
       idMatches s k sid = true → ∃ t, exec (.refRtcm k m) s = .next t ∧ t.jr.lastSf = s.jr.sf ∧ t.jr.lastSeq = s.jr.nextSeq ∧
         (arpNear s k x y z = true → (rx t k).st = .candidate ∧ (rx t k).sid = sid) ∧
         (arpNear s k x y z = false → (rx t k).st = .refused)) ∧
     (∀ k m e near, k < 3 → m.body = .eph e near → canWrite s = true → s.time.hold = none → ∃ t, exec (.refRtcm k m) s = .next t ∧
       (ephValid e (gpsMs s.jr.sf) = true → (ephOf s (satKey e.sys e.num)).sets = [] → (ephOf t (satKey e.sys e.num)).sets = [e]) ∧
       (ephValid e (gpsMs s.jr.sf) = false → t.fix.eph = s.fix.eph ∧
         cfg t Addr.FIX_EPH_CNT_REJECT 31 0 = min (2 ^ 32 - 1) (cfg s Addr.FIX_EPH_CNT_REJECT 31 0 + 1))) ∧
     (∀ k m, k < 2 → rxSrc s k = 1 →
       (∃ t, exec (.rtcmUartMessage k true m) s = .next t ∧ t.jr = s.jr ∧
         cfg t (Addr.FIX_REF_CNT_BAD + 4 * k) 15 8 = min 255 (cfg s (Addr.FIX_REF_CNT_BAD + 4 * k) 15 8 + 1)) ∧
       (m.crcOk = false → ∃ t, exec (.rtcmUartMessage k false m) s = .next t ∧ t.jr = s.jr ∧
         cfg t (Addr.FIX_REF_CNT_BAD + 4 * k) 7 0 = min 255 (cfg s (Addr.FIX_REF_CNT_BAD + 4 * k) 7 0 + 1)) ∧
       (m.crcOk = true → m.len ≤ 1023 → canWrite s = true → s.time.hold = none → ∃ t, exec (.rtcmUartMessage k false m) s = .next t ∧
         t.jr.lastSf = s.jr.sf ∧ t.jr.lastSeq = s.jr.nextSeq)) ∧
     (∀ h x d frames, GmpReady h x s → hasRight s x.ident 1 = true → frames ≠ [] →
       ∃ t n, exec (.rtcm h d 2 frames.length true frames) s = .next t ∧
         n = (frames.filter (fun m => m.crcOk && decide (m.len ≤ 1023))).length ∧
         Answered h 0x10 (if n = 0 then stEmpty else stOk) (be 2 n ++ be 2 0) s t)) ∧
  (∀ s : State,
     (∀ k, k < 2 → rxTooOld s k (gpsMs s.jr.sf) = true → ∃ t, exec (.refLost k) s = .next t ∧ (rx t k).st = .lost ∧
       (rx t k).qual = 0 ∧ (s.fix.primary = some k → usable s (1 - k) = true → t.fix.primary = some (1 - k))) ∧
     (∀ k, k < 2 → (rx s k).st = .lost → (rx s k).lastSf + 3000 ≤ s.jr.sf → ∃ t, exec (.refAbsentTimeout k) s = .next t ∧
       rx t k = RefRx.zero ∧ rx t (1 - k) = rx s (1 - k)) ∧
     (∀ h x k, GmpMay h x 1 10 s → k < 2 → (rx s k).st = .refused → ∃ t, exec (.clear h k) s = .next t ∧
       Answered h 0x02 stOk (indexBody 0xFFFF) s t ∧ rx t k = RefRx.zero ∧ rx t (1 - k) = rx s (1 - k)) ∧
     (∀ h x, GmpMay h x 1 10 s → ∃ t, exec (.switch h) s = .next t ∧ Answered h 0x02 stOk (indexBody 0xFFFF) s t ∧
       t.fix.swReq = true ∧ t.fix.primary = s.fix.primary))

/-- A sample at the loops of its machine (08_control_loops R217, R219, R221, R239): the oldest one is taken, and every
loop at which it is usable and plausible has seen it. A loop at a mark (08_control_loops R221, R234 to R236): a
superframe without a usable sample raises BAD; a loop in RUN goes to READY without its permit and to HOLD at BAD_MAX;
a step of HOLD is taken once a mark, and a SPEED ramp at zero ends its commands; after T_HOLD the permit is withdrawn.
Choices of the model that it rests on: log entry 11. -/
def Obligations.LoopsEvaluateHoldAndWithdraw : Prop :=
  (∀ (s : State) (m : Nat) (a : LoopSample) (rest : List LoopSample), takeSample m s.loop.samples = some (a, rest) →
     leadPending s a = false → ∃ t, exec (.loopEval m) s = .next t ∧ t.loop.samples = rest ∧
       ∀ l x, l < 512 → kfind s.loop.loops l = some x → x.machine = m → usableRec s l a.fix a.status = true →
         (x.fresh = true ∨ x.base = none ∨ ∃ b, x.base = some b ∧ loopImpl s l b a.fix = false) →
         ∃ y, kfind t.loop.loops l = some y ∧ y.lastEpoch = a.fix.epoch ∧ y.seen = true ∧ y.machine = m) ∧
  (∀ (s : State) (l : Nat) (x : Loop), kfind s.loop.loops l = some x →
     (x.tickSf < s.jr.sf → ∃ t y, exec (.loopTick l) s = .next t ∧ kfind t.loop.loops l = some y ∧ y.tickSf = s.jr.sf ∧
       y.seen = false ∧ y.bad = (if x.seen then x.bad else min (x.bad + 1) 63) ∧ y.st = x.st) ∧
     (x.st = .run → permitted s x.machine = false → ∃ t y, exec (.loopHold l) s = .next t ∧ kfind t.loop.loops l = some y ∧
       y.st = .ready ∧ y.inner = Stage.zero ∧ y.outer = Stage.zero) ∧
     (x.st = .run → permitted s x.machine = true → lcfg s l Addr.LOOP_CFG1 21 16 ≤ x.bad → ∃ t y, exec (.loopHold l) s = .next t ∧
       kfind t.loop.loops l = some y ∧ y.st = .hold ∧ y.sfHold = s.jr.sf) ∧
     (x.st = .hold → x.sfHold < s.jr.sf → x.stepSf < s.jr.sf → x.ceased = false → ∃ t y, exec (.holdStep l) s = .next t ∧
       kfind t.loop.loops l = some y ∧ y.stepSf = s.jr.sf ∧ y.st = .hold ∧ (permitted s x.machine = false → y.ceased = true) ∧
       (permitted s x.machine = true → x.kind = 1 → y.ceased = !fpLt 0 (rampAt x (s.jr.sf - x.sfHold)))) ∧
     (x.st = .hold → x.withdrawn = false → x.sfHold + lcfg s l Addr.LOOP_CFG1 30 24 ≤ s.jr.sf → ∃ t y,
       exec (.holdWithdraw l) s = .next t ∧ kfind t.loop.loops l = some y ∧ y.withdrawn = true ∧
       t.safe.permit.testBit (machineBit x.machine) = false ∧ t.safe.cPermit.testBit (machineBit x.machine) = false))

/-- LOOP_CTRL and the coefficients of the selected loop (08_control_loops R233, R234, R240): RESUME takes a loop in
HOLD with BAD 0 to READY, CLEAR_I sets both integrators to 0 within their limits, and a coefficient that R233 allows
comes into force at once, one that it does not is answered ERR_FIELD. Choices of the model that it rests on: log entry
13. -/
def Obligations.LoopControlActs : Prop :=
  ∀ (h : GmpHdr) (x : Session) (s : State), GmpMay h x 1 10 s →
    (∀ l y, l = selLoop s → kfind s.loop.loops l = some y → y.st = .hold → y.bad = 0 → ∃ t z, exec (.resume h) s = .next t ∧
      Answered h 0x02 stOk (indexBody 0xFFFF) s t ∧ kfind t.loop.loops l = some z ∧ z.st = .ready ∧ z.inner = Stage.zero) ∧
    (∀ l y, l = selLoop s → kfind s.loop.loops l = some y → y.region < 8 → ∃ t z, exec (.clearI h) s = .next t ∧
      Answered h 0x02 stOk (indexBody 0xFFFF) s t ∧ kfind t.loop.loops l = some z ∧ z.st = y.st ∧
      z.inner.i = fpClamp 0 (coefs s l 0 y.region).imin (coefs s l 0 y.region).imax ∧
      z.outer.i = fpClamp 0 (coefs s l 1 y.region).imin (coefs s l 1 y.region).imax) ∧
    (∀ g r w v a, g < 2 → r < 8 → w < 10 → a = Addr.LOOP_COEF + 0x200 * g + 0x40 * r + 4 * w →
      ((coefWord a v s).2 = stOk → ∃ t, exec (.coefWrite h g r w v) s = .next t ∧
        Answered h 0x02 stOk (indexBody 0xFFFF) s t ∧ lcfg t (selLoop s) a 31 0 = v.toNat) ∧
      (fpBad v.toNat = true → ∃ t, exec (.coefWrite h g r w v) s = .next t ∧
        Answered h 0x02 stField (indexBody 0) s t ∧ lcfg t (selLoop s) a 31 0 = lcfg s (selLoop s) a 31 0))

/-- Discovery (09_radio_ports R247, R248, R265): an identity that covers the plan makes its port UP from the next
superframe on and sets the head's channel and power; one of another format or that does not cover it sends the port
DOWN; no answer in 50 ms does; RETRY and RESET_HEAD bring it back to DISCOVER. Transactions with a head
(09_radio_ports R245 to R247, R265): the first failed attempt is repeated once, and a second one is BUS_ERR, which
takes an UP port DOWN; a STATUS without READY or with FAULT takes it DOWN; a frame whose load completes with OK is
ready for its trigger; TX_CANCEL and RX_FLUSH empty what they name. Choices of the model that it rests on: log entry
36. -/
def Obligations.PortsAreDiscoveredAndTransact : Prop :=
  (∀ (s : State) (k : Nat),
     (∀ i, (port s k).st = .discover → i.format = 1 → idCovers s k i = true → ∃ t, exec (.readId k (.status stOk) i) s = .next t ∧
       (port t k).ident = idBytes i ∧ (port t k).upFrom = some (sfOf (now s) + 1) ∧ t.out = s.out ++
         [.head k 0x10 [portCfg s k 28 16, portCfg s k 1 1], .head k 0x11 [portCfg s k 15 8], .head k 0x31 []]) ∧
     (∀ i, (port s k).st = .discover → (i.format ≠ 1 ∨ idCovers s k i = false) → ∃ t, exec (.readId k (.status stOk) i) s = .next t ∧
       (port t k).st = .down ∧ (port t k).reason = (if i.format = 1 then 3 else 2)) ∧
     ((port s k).st = .discover → (port s k).upFrom = none → ∃ t, exec (.noHeadTimeout k) s = .next t ∧ (port t k).st = .down ∧
       (port t k).reason = 1 ∧ t.time.op = max s.time.op ((port s k).since + 50000000)) ∧
     ((port s k).st = .down → ∃ t, exec (.portRetry k) s = .next t ∧ (port t k).st = .discover ∧
       t.out = s.out ++ [.head k 0 [], .head k 1 []] ∧
       t.time.op = max s.time.op ((port s k).since + cfg s Addr.MAC_CFG 13 8 * 1000000000)) ∧
     (∀ h x, GmpMay h x 1 10 s → k < portCount s.part → (port s k).st ≠ .off → ∃ t, exec (.resetHead h k) s = .next t ∧
       Answered h 0x02 stOk (indexBody 0xFFFF) s t ∧ (port t k).st = .discover) ∧
     (∀ w, (port s k).sw = some w → w ≤ s.jr.sf → ∃ t, exec (.planSwitch k) s = .next t ∧ (port t k).air = planOf s k ∧
       (port t k).gen = nextGen (port s k).gen ∧ (port t k).sw = none)) ∧
  (∀ (s : State) (k : Nat), (port s k).st ≠ .off →
     (∀ r, respFails r = false → (∃ t, exec (.setChannel k r) s = .next t ∧ (port t k).failed = none ∧ t.out = s.out) ∧
       (∃ t, exec (.setPower k r) s = .next t ∧ (port t k).failed = none ∧ t.out = s.out)) ∧
     (∀ cmd, cmd ≠ 0x30 → (port s k).failed ≠ some cmd → ∃ t, exec (.startNibbleTimeout k cmd) s = .next t ∧
       (port t k).failed = some cmd ∧ t.out = s.out ++ [.head k cmd []] ∧ (port t k).st = (port s k).st) ∧
     (∀ cmd, (port s k).failed = some cmd → ∃ t, exec (.startNibbleTimeout k cmd) s = .next t ∧ (port t k).failed = none ∧
       ((port s k).st = .up → (port t k).st = .down ∧ (port t k).reason = 4)) ∧
     (∀ f n c, (port s k).st = .up → f.testBit 3 = false → f.testBit 2 = true → ∃ t, exec (.status k (.status stOk) f n c) s = .next t ∧
       (port t k).st = .up ∧ (port t k).irq = (f.testBit 0 && decide (0 < n))) ∧
     (∀ f n c, (port s k).st = .up → (f.testBit 3 = true ∨ f.testBit 2 = false) → ∃ t, exec (.status k (.status stOk) f n c) s = .next t ∧
       (port t k).st = .down ∧ (port t k).reason = 5 ∧ (port t k).faultCode = c) ∧
     (∀ y, (port s k).tx = some y → ∃ t, exec (.txLoad k (.status stOk)) s = .next t ∧
       (port t k).tx = some { y with loaded := true }) ∧
     (∃ t, exec (.txCancel k (.status stOk)) s = .next t ∧ (port t k).tx = none) ∧
     (∃ t, exec (.rxFlush k (.status stOk)) s = .next t ∧ (port t k).irq = false ∧ (port t k).lastTaken = none))

/-- Reception (09_radio_ports R246, R249, R255): a preamble's stamp is kept, the newest last; one that no frame claims
in 1 ms is counted; IRQ_N asks for the oldest frame; a frame within its slot's first 50 µs that fits its rate waits
for its checks, and one whose stamp is unknown is counted. Choices of the model that it rests on: log entries 15, 27.
-/
def Obligations.FramesAreStampedAndTaken : Prop :=
  ∀ (s : State) (k : Nat), (port s k).st = .up →
    (∀ ns, ∃ t, exec (.rxstamp k ns) s = .next t ∧ t.time.ns = max s.time.ns ns ∧
      (port t k).stampSeq = ((port s k).stampSeq + 1) % 65536 ∧
      (port t k).stamps.getLast? = some ⟨((port s k).stampSeq + 1) % 65536, ns, false⟩) ∧
    (∀ q x, (port s k).stamps.find? (fun x => x.seq == q && !x.claimed) = some x → ∃ t, exec (.stampOnly k q) s = .next t ∧
      (port t k).stamps.find? (fun x => x.seq == q && !x.claimed) = none ∧
      cfg t (portCnt k 4) 31 0 = min (2 ^ 32 - 1) (cfg s (portCnt k 4) 31 0 + 1)) ∧
    (∃ t, exec (.rxIrq k) s = .next t ∧ (port t k).irq = true ∧ t.out = s.out ++ [.head k 0x30 [0]]) ∧
    (∀ f, (port s k).failed = none → ∃ t, exec (.rxRead k (.status 0x01) f) s = .next t ∧ (port t k).irq = false ∧
      (port t k).lastTaken = none ∧ t.mac.intake = s.mac.intake) ∧
    (∀ r x sf slot, (port s k).failed = none → radioRootOk s = true → engUsable s (0x30 + k) = true → canWrite s = true →
      s.time.hold = none → knownRx r.psdu = true → (port s k).stamps.find? (fun x => x.seq == r.stampSeq) = some x →
      sf = sfOf (x.ns - headDrx (port s k)) → slot = (x.ns - headDrx (port s k) - sfStart sf) / 500000 →
      entKind ((airPlan s k sf).1.entry sf slot) = 2 → x.ns - headDrx (port s k) - slotStart sf slot ≤ 50000 → r.rate ≤ 2 →
      r.len ≤ psduLimit (bw20 s k) r.rate → ∃ t, exec (.rxRead k (.status 0x00) (some r)) s = .next t ∧
        (port t k).lastTaken = some r.stampSeq ∧ t.mac.intake = s.mac.intake ++
          [⟨k, sf, slot, x.ns - headDrx (port s k) + airtime (bw20 s k) r.rate r.len, r.psdu⟩]) ∧
    (∀ r, (port s k).failed = none → radioRootOk s = true → engUsable s (0x30 + k) = true →
      (port s k).stamps.find? (fun x => x.seq == r.stampSeq) = none → ∃ t, exec (.rxRead k (.status 0x00) (some r)) s = .next t ∧
        cfg t (portCnt k 3) 31 0 = min (2 ^ 32 - 1) (cfg s (portCnt k 3) 31 0 + 1) ∧ t.mac.intake = s.mac.intake)

/-- The cut-off of a slot (09_radio_ports R253, R259; 07_motion_safety R195, R196): each port that may send chooses
anew, the beacon in slot 0 and a stop frame in any other slot while a stop waits at it; a port that is not UP holds no
frame. A slot begins (09_radio_ports R253, R254): 20 µs into it no port holds a frame any more; the one frame that is
loaded for the slot and may be sent has gone out. Choices of the model that it rests on: log entries 35, 36. -/
def Obligations.SlotsAreCutOffAndFired : Prop :=
  (∀ (s : State) (sf slot : Nat), slot < 40 → ∃ t, exec (.slotCutoff sf slot) s = .next t ∧
     t.time.ns = max s.time.ns (slotStart sf slot - 100000) ∧ ∀ k, k < portCount s.part →
       ((port s k).st ≠ .up → (port t k).tx = none ∧ (port t k).st = (port s k).st) ∧
       (∀ f, slot = 0 → maySend s k sf 0 = true → s.mac.first = some f → f < sf → ∃ y, (port t k).tx = some y ∧ y.sf = sf ∧
         y.slot = 0 ∧ y.rate = (airPlan s k sf).1.brate ∧ y.frame = beaconFrame s k sf ∧ y.loaded = false) ∧
       (slot ≠ 0 → maySend s k sf slot = true → (stopReq s k).want = true → ∃ y, (port t k).tx = some y ∧ y.sf = sf ∧
         y.slot = slot ∧ y.rate = (airPlan s k sf).1.brate ∧ y.frame = stopFrame s ∧ y.stopAt = some (stopReq s k).since ∧
         (stopReq t k).want = false)) ∧
  (∀ (s : State) (sf slot : Nat), slot < 40 → ∃ t, exec (.slotStart sf slot) s = .next t ∧
     t.time.ns = max s.time.ns (slotStart sf slot + 20000) ∧ (∀ k, k < portCount s.part → (port t k).tx = none) ∧
     (∀ k x, slot ≠ 0 → k < portCount s.part → (∀ j, j ≠ k → (port s j).tx = none) → (port s k).tx = some x → x.sf = sf →
       x.slot = slot → x.loaded = true → maySend s k sf slot = true →
       t.out = s.out ++ [.tx k sf slot x.rate x.frame] ∧ (port t k).sent = some (sf, slot)))

/-- Frames of members (10_radio_frames R273, R274, R276, R277, R287, R288, R292; 07_motion_safety R188 to R190): one
that passes its checks is an entry at the next position and moves its sender's window; LEAVE holds the address and
withdraws its permit, an UP with a status flag withdraws it, and the stop of a pendant of global scope sets the latch.
Joins and relays (10_radio_frames R289 to R292, R294, R300): a request that may join takes its address and an answer
OK waits for its DOWN slot, one with a field out of range gets an answer ERR_FIELD; a RELAY frame makes no entry of
its own, and each inner frame that passes makes one. Choices of the model that it rests on: log entries 15, 29, 34. -/
def Obligations.MembersJoinSendAndRelay : Prop :=
  (∀ (s : State) (k : Nat) (x : Intake) (rest : List Intake) (m : RxMsg) (l mp : Nat),
     window (node s m.hdr.src) m.hdr.seq = .accepted l mp →
     (∀ u, RxFrame k 3 x rest m s → m.body = some (.up u) → ∃ t, exec (.upFrame k) s = .next t ∧ t.mac.intake = rest ∧
       t.jr.lastSf = s.jr.sf ∧ t.jr.lastSeq = s.jr.nextSeq ∧ (node t m.hdr.src).rxLast = l ∧ (node t m.hdr.src).rxMap = mp ∧
       (node t m.hdr.src).lastSf = s.jr.sf ∧ (isMachine s.part m.hdr.src = true → u.status % 4 ≠ 0 →
         t.safe.permit.testBit (machineBit m.hdr.src) = false ∧ (safeMach t m.hdr.src).flagged = true)) ∧
     (∀ f, RxFrame k 5 x rest m s → m.body = some (.ack f) → ∃ t, exec (.ackFrame k) s = .next t ∧ t.mac.intake = rest ∧
       t.jr.lastSf = s.jr.sf ∧ t.jr.lastSeq = s.jr.nextSeq ∧ (node t m.hdr.src).rxLast = l ∧ (node t m.hdr.src).rxMap = mp ∧
       (node t m.hdr.src).lastSf = s.jr.sf) ∧
     (∀ n, RxFrame k 8 x rest m s → m.body = some (.leave n) → ∃ t, exec (.leave k) s = .next t ∧ t.mac.intake = rest ∧
       t.jr.lastSf = s.jr.sf ∧ t.jr.lastSeq = s.jr.nextSeq ∧ (node t m.hdr.src).st = .held ∧
       (node t m.hdr.src).heldSf = s.jr.sf ∧
       (isMachine s.part m.hdr.src = true → t.safe.permit.testBit (machineBit m.hdr.src) = false)) ∧
     (∀ p, RxFrame k 9 x rest m s → m.body = some (.pend p) → p.event = 1 → isPendant m.hdr.src = true →
       pendScope s m.hdr.src = 8 → ∃ t, exec (.pend k) s = .next t ∧ t.mac.intake = rest ∧ t.jr.lastSf = s.jr.sf ∧
       t.jr.lastSeq = s.jr.nextSeq ∧ t.safe.latch = true ∧ t.safe.cLatch = true ∧ t.safe.cPermit = 0)) ∧
  (∀ (s : State) (k : Nat) (x : Intake) (rest : List Intake) (m : RxMsg),
     (∀ b a w, RxFrame k 6 x rest m s → m.body = some (.joinReq b) → kfind s.memb.lastJoin b.eui = none → joinFieldsOk b = true →
       cfgB s Addr.MAC_MEMB_CFG0 (if m.hdr.key = 2 then 0 else 1) = true → joinAddr s (m.hdr.key == 2) b.eui = some a →
       (if b.flags.testBit 0 then wakeGrant s x.port a b.wakeReq else some (0, 0, 0xFF)) = some w →
       ∃ t j, exec (.joinReq k) s = .next t ∧ t.mac.intake = rest ∧ t.jr.lastSf = s.jr.sf ∧ t.jr.lastSeq = s.jr.nextSeq ∧
         (node t a).st = .assoc ∧ (node t a).eui = b.eui ∧ (node t a).home = x.port ∧ (node t a).period = w.1 ∧
         t.memb.joins = s.memb.joins ++ [j] ∧ j.addr = a ∧ j.status = stOk ∧ j.eui = b.eui ∧ j.until_ = s.jr.sf + 50) ∧
     (∀ b, RxFrame k 6 x rest m s → m.body = some (.joinReq b) → kfind s.memb.lastJoin b.eui = none → joinFieldsOk b = false →
       ∃ t j, exec (.joinReq k) s = .next t ∧ t.mac.intake = rest ∧ t.memb.nodes = s.memb.nodes ∧
         t.memb.joins = s.memb.joins ++ [j] ∧ j.addr = addrNone ∧ j.status = stField) ∧
     (∀ l mp, RxFrame k 11 x rest m s → x.psdu = .relay m [] →
       window (node s m.hdr.src) m.hdr.seq = .accepted l mp → ∃ t, exec (.relay k) s = .next t ∧ t.mac.intake = rest ∧
         t.jr = s.jr ∧ (node t m.hdr.src).rxLast = l ∧ (node t m.hdr.src).rxMap = mp) ∧
     (∀ l mp i f li mi, RxFrame k 11 x rest m s → x.psdu = .relay m [i] → window (node s m.hdr.src) m.hdr.seq = .accepted l mp →
       i.hdr.src ≠ m.hdr.src → i.hdr.src ≠ 0 → innerOk s x m i = true → i.micOk = true → i.hdr.typ = 5 →
       i.body = some (.ack f) → window (node s i.hdr.src) i.hdr.seq = .accepted li mi → ∃ t, exec (.relay k) s = .next t ∧
         t.mac.intake = rest ∧ t.jr.lastSf = s.jr.sf ∧ t.jr.lastSeq = s.jr.nextSeq ∧ (node t i.hdr.src).rxLast = li ∧
         (node t m.hdr.src).rxLast = l))

/-- The states of an address (10_radio_frames R290, R292, R297): silence and the eighth missed wake hold it, the
hold's end frees it and withdraws its permit; DISASSOC and FREE_ADDR do so by command; a join's answer is abandoned 50
superframes on. Choices of the model that it rests on: log entries 13, 28. -/
def Obligations.AddressesAreHeldAndFreed : Prop :=
  ∀ (s : State) (a : Nat),
    ((node s a).st = .assoc → (node s a).sleepy = false →
      (node s a).lastSf + cfg s Addr.MAC_MEMB_CFG0 11 4 * 10 ≤ s.jr.sf → ∃ t, exec (.silenceTimeout a) s = .next t ∧
      (node t a).st = .held ∧ (node t a).heldSf = s.jr.sf ∧ t.safe = s.safe) ∧
    ((node s a).st = .assoc → (node s a).sleepy = true → (node s a).period ≠ 0 →
      (s.jr.sf - 1) % (node s a).period = (node s a).phase → (node s a).frameSf < s.jr.sf - 1 →
      ∃ t, exec (.wakeMiss a) s = .next t ∧ (node t a).wakeMiss = (node s a).wakeMiss + 1 ∧
        (node t a).st = (if 8 ≤ (node s a).wakeMiss + 1 then .held else .assoc)) ∧
    ((node s a).st = .held → (node s a).heldSf + cfg s Addr.MAC_MEMB_CFG0 23 12 * 50 ≤ s.jr.sf →
      ∃ t, exec (.addrHoldExpiry a) s = .next t ∧ (node t a).st = .free ∧
        (isMachine s.part a = true → t.safe.permit.testBit (machineBit a) = false ∧ (rover t a).lc = .empty)) ∧
    (∀ h x, GmpMay h x 1 10 s → a = selVal s Addr.MAC_NODE_SEL % 65536 → (node s a).st = .assoc →
      ∃ t, exec (.disassoc h) s = .next t ∧ Answered h 0x02 stOk (indexBody 0xFFFF) s t ∧ (node t a).st = .held ∧
        (node t a).heldSf = s.jr.sf ∧ (isMachine s.part a = true → t.safe.permit.testBit (machineBit a) = false)) ∧
    (∀ h x, GmpMay h x 1 10 s → a = selVal s Addr.MAC_NODE_SEL % 65536 → (node s a).st = .held →
      ∃ t, exec (.freeAddr h) s = .next t ∧ Answered h 0x02 stOk (indexBody 0xFFFF) s t ∧ (node t a).st = .free) ∧
    (∀ h x, GmpMay h x 1 10 s → a = selVal s Addr.MAC_NODE_SEL % 65536 → (node s a).st = .assoc →
      ∃ t, exec (.freeAddr h) s = .next t ∧ Answered h 0x02 stState (indexBody 0) s t ∧ (node t a).st = .assoc) ∧
    (∃ t, exec .joinAccAbandon s = .next t ∧ t.memb.joins = s.memb.joins.filter (fun j => decide (sfOf (now s) ≤ j.until_)))

/-- Jobs (11_scheduler R307, R308, R311, R317, R318, R323): completion makes a covered job DONE, with ERR_LATE where
its deadline has passed, and frees another; a DONE job retires once every earlier one has; the tick of the delay list
releases its jobs; a budget window ends with nothing used; WAIT_CLR resets an engine's extremes. Choices of the model
that it rests on: log entry 17. -/
def Obligations.JobsCompleteRetireAndRelease : Prop :=
  ∀ s : State,
    (∀ d st j, kfind s.sched.jobs d = some j → j.st = .running → j.covered = true → ∃ t k, exec (.jobComplete d st) s = .next t ∧
      kfind t.sched.jobs d = some k ∧ k.st = .done ∧ k.status = lateIf (decide (deadlineOf j < nowUs s)) st) ∧
    (∀ d st j, kfind s.sched.jobs d = some j → j.st = .running → j.covered = false → s.sched.stalled = [] →
      ∃ t, exec (.jobComplete d st) s = .next t ∧ kfind t.sched.jobs d = none) ∧
    (∀ d j, kfind s.sched.jobs d = some j → j.st = .done → canRetire s j = true → s.sched.stalled = [] →
      ∃ t, exec (.jobRetire d) s = .next t ∧ t.sched = { s.sched with jobs := kdel s.sched.jobs d }) ∧
    (∀ n i r, s.sched.delay = (n, i) :: r → ∃ t, exec .delayRelease s = .next t ∧ t.time.ns = max s.time.ns (n * 10000) ∧
      (∀ e, t.sched.delay.head? = some e → n < e.1) ∧
      (∀ j, kfind s.sched.jobs i = some j → j.st = .delayed → ∃ k, kfind t.sched.jobs i = some k ∧ k.st ≠ .delayed)) ∧
    (∃ t, exec .budgetWindow s = .next t ∧ t.sched.used = [] ∧ t.time.ns = (now s / 100000000 + 1) * 100000000 ∧
      t.sched.winStart = t.time.ns) ∧
    (∀ h x, GmpMay h x 1 10 s → ∃ t, exec (.waitClr h) s = .next t ∧ Answered h 0x02 stOk (indexBody 0xFFFF) s t ∧
      (engOf t (selEngine s)).waitMin = 0xFFFFFFFF ∧ (engOf t (selEngine s)).waitMax = 0)

/-- Hods (12_memory R342 to R344, R347; 07_motion_safety R213): a mismatch empties the hod, and one of the SAFE bay or
the sequencer is a fault of the SAFE bay; a hod left unread fences its consumer and is emptied; RESET and DROP act for
the consumer, and for the host only RESET of a fenced consumer's hod. Choices of the model that it rests on: log entry
45. -/
def Obligations.HodsAreResetAndFenced : Prop :=
  ∀ s : State,
    (∀ d, d < 512 → ∃ t, exec (.hodPtrMismatch d) s = .next t ∧ (hodOf t d).used = 0 ∧ (hodOf t d).packets = 0 ∧
      cfgW t Addr.HOD_SEL d Addr.HOD_CNT_PTR_ERR 31 0 = min (2 ^ 32 - 1) (cfgW s Addr.HOD_SEL d Addr.HOD_CNT_PTR_ERR 31 0 + 1) ∧
      (d < 16 → t.safe.faults.testBit 2 = false ∧ (s.safe.faults.testBit 2 = false → t.safe.latch = true)) ∧
      (16 ≤ d → d < 48 → t.safe.faults.testBit 5 = true ∧ (s.safe.faults.testBit 5 = false → t.safe.latch = true))) ∧
    (∀ d u p, d < 512 → 0 < u → ∃ t, exec (.hodUnread d u p) s = .next t ∧
      cfgW t Addr.HOD_SEL d Addr.HOD_CNT_UNREAD 31 0 = min (2 ^ 32 - 1) (cfgW s Addr.HOD_SEL d Addr.HOD_CNT_UNREAD 31 0 + 1) ∧
      (d < 16 → t.safe.faults.testBit 2 = true) ∧ (16 ≤ d → d < 48 → t.safe.faults.testBit 5 = true) ∧
      (48 ≤ d → (hodOf t d).used = 0 ∧ (isEngine s.part (hodConsumerOf s d) = true →
        (engOf t (hodConsumerOf s d)).fenced = true))) ∧
    (∃ t, exec (.hodReset none) s = .next t ∧ (hodOf t (cfg s Addr.HOD_SEL 8 0)).used = 0 ∧
      (hodOf t (cfg s Addr.HOD_SEL 8 0)).packets = 0) ∧
    (∀ h x, GmpMay h x 1 10 s → 48 ≤ cfg s Addr.HOD_SEL 8 0 → (engOf s (hodConsumerOf s (cfg s Addr.HOD_SEL 8 0))).fenced = true →
      ∃ t, exec (.hodReset (some h)) s = .next t ∧ Answered h 0x02 stOk (indexBody 0xFFFF) s t ∧
        (hodOf t (cfg s Addr.HOD_SEL 8 0)).used = 0) ∧
    (∀ h x, GmpMay h x 1 10 s → (cfg s Addr.HOD_SEL 8 0 < 48 ∨ (engOf s (hodConsumerOf s (cfg s Addr.HOD_SEL 8 0))).fenced = false) →
      ∃ t, exec (.hodReset (some h)) s = .next t ∧ Answered h 0x02 stState (indexBody 0) s t ∧ t.hod = s.hod) ∧
    (∀ n e, ∃ t, exec (.hodDrop none (some (n, e))) s = .next t ∧
      (hodOf t (cfg s Addr.HOD_SEL 8 0)).used = (hodOf s (cfg s Addr.HOD_SEL 8 0)).used - n ∧
      (hodOf t (cfg s Addr.HOD_SEL 8 0)).dropping = !e) ∧
    (∀ h x r, GmpMay h x 1 10 s → ∃ t, exec (.hodDrop (some h) r) s = .next t ∧ Answered h 0x02 stAuth (indexBody 0) s t ∧
      t.hod = s.hod)

/-- IPv6 rules (13_tables R358, R364, R366): a RULE message is staged whole or, at its first failing record, not at
all; WRITE and DELETE of LKP_RULE_CTRL stage the record that the data registers spell, READ shows the staged record of
the index; the rules in force stay until a commit. Choices of the model that it rests on: log entry 31. -/
def Obligations.RulesAreStaged : Prop :=
  ∀ (h : GmpHdr) (x : Session) (s : State), GmpMay h x 1 10 s →
    (∀ rs tab, rs ≠ [] → ruleFold 0 rs (ruleTab s) = (tab, none) → ∃ t, exec (.rule h rs) s = .next t ∧
      Answered h 0x26 stOk (indexBody 0xFFFF) s t ∧ t.lkp = { s.lkp with stagedRules := tab.recs, ruleShadow := tab.bank }) ∧
    (∀ rs tab i st, rs ≠ [] → ruleFold 0 rs (ruleTab s) = (tab, some (i, st)) → ∃ t, exec (.rule h rs) s = .next t ∧
      Answered h 0x26 st (indexBody i) s t ∧ t.lkp = s.lkp) ∧
    (∀ tab st, ruleApply (ruleOfRegs s 1) (ruleTab s) = (tab, st) → ∃ t, exec (.ruleWrite h) s = .next t ∧
      Answered h 0x02 st (indexBody (if isErr st then 0 else 0xFFFF)) s t ∧ t.lkp.ruleStatus = st ∧
      t.lkp.stagedRules = tab.recs ∧ t.lkp.rules = s.lkp.rules) ∧
    (∃ t, exec (.ruleDelete h) s = .next t ∧ Answered h 0x02 stOk (indexBody 0xFFFF) s t ∧ t.lkp.ruleStatus = stOk ∧
      t.lkp.stagedRules = kdel s.lkp.stagedRules (cfg s Addr.LKP_RULE_IDX 15 0) ∧ t.lkp.rules = s.lkp.rules) ∧
    (∀ r, kfind s.lkp.stagedRules (cfg s Addr.LKP_RULE_IDX 15 0) = some r → ∃ t, exec (.ruleRead h) s = .next t ∧
      Answered h 0x02 stOk (indexBody 0xFFFF) s t ∧ t.lkp.rulePresent = true ∧
      cfg t Addr.LKP_RULE_PFX 31 0 = swapBytes 4 (r.pfx / 2 ^ 96 % 2 ^ 32) ∧ t.lkp.stagedRules = s.lkp.stagedRules) ∧
    (kfind s.lkp.stagedRules (cfg s Addr.LKP_RULE_IDX 15 0) = none → ∃ t, exec (.ruleRead h) s = .next t ∧
      Answered h 0x02 stEmpty (indexBody 0xFFFF) s t ∧ t.lkp.rulePresent = false)

/-- LKP_CMD (13_tables R361, R362): an admitted command acts on its pipeline, or on the other while that one is out of
service. SEARCH loads what it finds, NEXT the entry at or after the cursor, FLUSH_PORT deletes what was learned on the
port, and STATIC_ADD and STATIC_DEL stage a static entry's addition and deletion. Choices of the model that it rests
on: log entries 13, 31, 32. -/
def Obligations.LookupCommandsAct : Prop :=
  ∀ (h : GmpHdr) (x : Session) (s : State) (p kind : Nat), GmpMay h x 1 10 s → p ≤ 1 → (kind = 1 ∨ kind = 2) →
    admitted s 17 < cfgW s Addr.SCHED_CLASS_SEL 17 Addr.SCHED_CLASS_CFG 30 20 →
    (∀ i e, emFind (pipe s (servedBy s p)).live (kind == 2) (keyRegs s (kind == 2)).1 (keyRegs s (kind == 2)).2 = some (i, e) →
      ∃ t, exec (.search h p kind 0) s = .next t ∧ Answered h 0x02 stOk (indexBody 0xFFFF) s t ∧ t.lkp.cmdStatus = stOk ∧
        t.lkp.res = (List.range 4).map (fun m => wordOf (emBits { e with hit := true } / 2 ^ (32 * m)))) ∧
    (emFind (pipe s (servedBy s p)).live (kind == 2) (keyRegs s (kind == 2)).1 (keyRegs s (kind == 2)).2 = none →
      ∃ t, exec (.search h p kind 0) s = .next t ∧ Answered h 0x02 stEmpty (indexBody 0xFFFF) s t ∧ t.lkp.cmdStatus = stEmpty ∧
        t.lkp.res = s.lkp.res) ∧
    (∀ i e, s.lkp.walkEnd = false → (pipe s (servedBy s p)).live.find? (fun e =>
        decide (selVal s Addr.LKP_CURSOR % 2 ^ 16 * 4 + selVal s Addr.LKP_CURSOR / 2 ^ 16 ≤ e.1)) = some (i, e) →
      ∃ t, exec (.nextEntry h p kind 0) s = .next t ∧ Answered h 0x02 stOk (indexBody 0xFFFF) s t ∧
        t.lkp.res = (List.range 4).map (fun m => wordOf (emBits e / 2 ^ (32 * m))) ∧
        selVal t Addr.LKP_CURSOR = (i + 1) / 4 % 2 ^ 16 + (i + 1) % 4 * 2 ^ 16) ∧
    (∀ q, q ≤ 2 → ∃ t st, exec (.flushPort h p kind q) s = .next t ∧ Answered h 0x02 st (indexBody 0xFFFF) s t ∧
      t.lkp.cmdStatus = st ∧ (st = stOk ∨ st = stEmpty) ∧ ∀ i, i < 2 → ∀ e, e ∈ (pipe t i).live ++ (pipe t i).shadow →
        (e.2.node == (kind == 2) && e.2.port == q && !e.2.static) = false) ∧
    (∀ q, q ≤ 2 → (staticAdd (keyRegs s false).1 (keyRegs s false).2 q s).2 = stOk → ∃ t, exec (.staticAdd h p 1 q) s = .next t ∧
      Answered h 0x02 stOk (indexBody 0xFFFF) s t ∧ t.lkp.statics = s.lkp.statics ∧
      t.lkp.stagedStatics = kins s.lkp.stagedStatics (staticKey (keyRegs s false).1 (keyRegs s false).2) q) ∧
    (kfind s.lkp.stagedStatics (staticKey (keyRegs s false).1 (keyRegs s false).2) ≠ none →
      ∃ t, exec (.staticDel h p 1 0) s = .next t ∧ Answered h 0x02 stOk (indexBody 0xFFFF) s t ∧ t.lkp.statics = s.lkp.statics ∧
        t.lkp.stagedStatics = kdel s.lkp.stagedStatics (staticKey (keyRegs s false).1 (keyRegs s false).2))

/-- Tables and the bridge by themselves (13_tables R350, R356, R357, R360, R363, R365): ageing visits a bucket at its
time, the catch-up after a commit ends, a table that fails its check is rebuilt from its source, a frame without a
VLAN is counted, one of unknown destination flooded, and a link that goes down takes what was learned on it. Choices
of the model that it rests on: log entries 32, 33. -/
def Obligations.TablesAgeRebuildAndBridge : Prop :=
  ∀ s : State,
    (∀ p b, p ≤ 1 → b < 65536 → pipeOk s p = true → ∃ t, exec (.ageVisit p b) s = .next t ∧
      (pipe t p).live = ageBank b (pipe s p).live ∧ (pipe t p).shadow = ageBank b (pipe s p).shadow ∧ now s ≤ t.time.ns) ∧
    (s.lkp.catchup = true → s.lkp.swapDue = false → ∃ t, exec .catchupEnd s = .next t ∧ t.lkp = { s.lkp with catchup := false }) ∧
    (s.lkp.catchup = true → s.lkp.swapDue = true → ∃ t, exec .catchupEnd s = .next t ∧ t.lkp.catchup = true ∧
      t.lkp.swapDue = false ∧ ∀ p, p < s.lkp.pipes.length → (pipe t p).bank = 1 - (pipe s p).bank) ∧
    (∃ t, exec (.tableRebuild 0) s = .next t ∧ t.lkp.zoneLive = lpmBuild (s.scr.cov.zones.map (fun e => e.2.key)) [] ∧
      t.lkp.zoneShadow = lpmBuild (s.scr.staged.map (fun e => e.2.key)) [] ∧
      cfg t (Addr.LKP_CNT + 32) 31 0 = min (2 ^ 32 - 1) (cfg s (Addr.LKP_CNT + 32) 31 0 + 1)) ∧
    (∀ f v, f.port ≤ 1 → s.gmp.link.getD f.port false = true → engUsable s (0x38 + f.port) = true → f.tag = some v → v ≠ 0 →
      vlanOf s v = none → ∃ t, exec (.ethFrame f) s = .next t ∧ t.lkp = s.lkp ∧ t.out = s.out ∧
        cfg t (Addr.LKP_CNT + 24) 31 0 = min (2 ^ 32 - 1) (cfg s (Addr.LKP_CNT + 24) 31 0 + 1)) ∧
    (∀ f v vlan q, f.port ≤ 1 → q = 1 - f.port → s.gmp.link.getD f.port false = true → engUsable s (0x38 + f.port) = true →
      f.tag = some v → v ≠ 0 → vlanOf s v = some vlan → bit vlan (13 + f.port) = true → bit vlan (13 + q) = true → f.len ≤ 1522 →
      isReservedMac f.dst = false → f.src.testBit 40 = false → f.dst.testBit 40 = false → cfgB s Addr.LKP_CFG 12 = false →
      cfgB s Addr.LKP_CFG 13 = true → holdsToken s = true → isLocalMac s v f.dst = false → f.etype ≠ 0x86DD →
      emFind (pipe s (servedBy s f.port)).live false v f.dst = none → s.gmp.link.getD q false = true → f.badDst = false →
      ∃ t, exec (.ethFrame f) s = .next t ∧
        t.out = s.out ++ [.eth q f.dst f.src (if bit vlan (16 + q) then none else some (fld vlan 11 0)) f.etype] ∧
        cfg t (Addr.LKP_CNT + 16) 31 0 = min (2 ^ 32 - 1) (cfg s (Addr.LKP_CNT + 16) 31 0 + 1)) ∧
    (∀ p up sp, p ≤ 1 → cfg s (Addr.NET_PORT_CFG + 4 * p) 1 0 ≠ 0 → ∃ t, exec (.ethLinkChange p up sp) s = .next t ∧
      t.gmp.link = lset s.gmp.link p up ∧ (s.gmp.link.getD p false = true → up = false → ∀ i, i < 2 →
        ∀ e, e ∈ (pipe t i).live ++ (pipe t i).shadow → (!e.2.node && e.2.port == p && !e.2.static) = false))

/-- Sources of time (14_station_time R369 to R373, R379): a pulse is stamped less its delay, a Sync of the followed
master is a measurement, an Announce names the master; a source that has not been a candidate for 3 s is ABSENT, and
HOLD_LIMIT ends HOLD in FREE. Choices of the model that it rests on: log entries 21, 30. -/
def Obligations.TimeSourcesAreFollowed : Prop :=
  ∀ s : State, s.time.srcs.length = 3 →
    (∀ k ns, k < 2 → ∃ t, exec (.ppsEdge k ns) s = .next t ∧ t.time.ns = max s.time.ns ns ∧ (src t k).lastAt = some t.time.op ∧
      (src t k).pulse = some ((t.time.ns : Int) - sgn 16 (cfg s (Addr.TIME_PPS_DELAY + 4 * k) 15 0))) ∧
    (∀ p e ns m, ptpUsed s p = true → ptpState s p = ptpSlave → s.time.master = some m → m.ptpScale = true →
      ∃ t, exec (.ptpSync p e ns) s = .next t ∧ (src t 2).e = e ∧ (src t 2).prevE = some e) ∧
    (∀ p d, ptpUsed s p = true → ∃ t, exec (.ptpMessage p (.announce d ptpSlave)) s = .next t ∧ t.time.master = some d ∧
      t.time.utcPtp = (d.utcOffset - 19) % 64) ∧
    (∀ p i q, ptpUsed s p = true → ptpState s p = ptpMaster → ∃ t, exec (.ptpMessage p (.delayReq i q)) s = .next t ∧
      t = emit (.ptp p 3 (cfg s Addr.TIME_PTP_CFG 11 4) q [i]) s) ∧
    (∀ p, ptpUsed s p = true → ptpState s p ≠ ptpMaster → p < s.time.ptp.length → ∃ t, exec (.announceReceiptTimeout p) s = .next t ∧
      ptpState t p = if cfg s Addr.TIME_PTP_CFG 1 0 = 1 then ptpListening else ptpMaster) ∧
    (∀ p, ptpUsed s p = true → ptpState s p = ptpMaster → ∃ t q, exec (.ptpSendInterval p 1) s = .next t ∧
      t.out = s.out ++ [.ptp p 1 (cfg s Addr.TIME_PTP_CFG 11 4) q (announceFields s)]) ∧
    (∀ k a, (src s k).st ≠ .absent → (src s k).lostAt = some a → isCand (advOp (a + 3000000000) s) k = false →
      ∃ t, exec (.sourceAbsentTimeout k) s = .next t ∧ (src t k).st = .absent ∧ t.time.op = max s.time.op (a + 3000000000)) ∧
    (s.time.st = .hold → ∃ t, exec .holdLimitExpiry s = .next t ∧ t.time.st = .free ∧ cfg t Addr.TIME_ALARM 2 2 = 1 ∧
      t.time.op = max s.time.op (s.time.holdSince + cfg s Addr.TIME_CFG 21 10 * 1000000000))

/-- Forced sets and triggers (14_station_time R370, R374, R375, R377, R382 to R384): a set that R374 allows waits for
the next whole second and then steps time with its TIME_EVENT entry, one without the global stop is answered
ERR_STATE; CLEAR_DIS frees DISAGREE sources; a single trigger far enough ahead is armed, and an armed one fires at its
edge. Choices of the model that it rests on: log entries 21, 22. -/
def Obligations.TimeIsSetAndTriggersFire : Prop :=
  ∀ (h : GmpHdr) (x : Session) (s : State),
    (GmpMay h x 4 10 s → cfg s Addr.TIME_SET_NS 31 0 ≤ 999999999 → s.time.set = none → s.pair.handover = none →
      now s ≤ setValue s + 60000000000 →
      (s.safe.cLatch = true → ∃ t, exec (.forceSet h) s = .next t ∧ Answered h 0x02 stOk (indexBody 0xFFFF) s t ∧
        t.time.set = some ⟨setValue s, (now s / 1000000000 + 1) * 1000000000⟩ ∧ t.time.setStatus = stOk) ∧
      (s.safe.cLatch = false → ∃ t, exec (.forceSet h) s = .next t ∧ Answered h 0x02 stState (indexBody 0) s t ∧
        t.time.set = none ∧ t.time.setStatus = stState)) ∧
    (∀ f, s.time.set = some f → canWrite s = true → s.safe.cLatch = true → ∃ t, exec .forceSetApply s = .next t ∧
      t.time.ns = f.value ∧ t.time.set = none ∧ t.time.sel = none ∧ t.jr.lastSf = s.jr.sf ∧ t.jr.lastSeq = s.jr.nextSeq ∧
      t.time.hold = (if f.value < f.told then some s.jr.sf else none)) ∧
    (GmpMay h x 1 10 s → ∃ t, exec (.clearDis h) s = .next t ∧ Answered h 0x02 stOk (indexBody 0xFFFF) s t ∧
      ∀ k, (src t k).st ≠ .disagree) ∧
    (∀ k v, GmpMay h x 1 10 s → k < 8 → k < s.time.trigs.length → fld v 1 0 = 1 → now s + 100000 ≤ trigStart s k →
      (storeWord (Addr.TIME_TRIG_CFG + 0x20 * k) v s).2 = stOk → ∃ t, exec (.trigArm h k v) s = .next t ∧
        Answered h 0x02 stOk (indexBody 0xFFFF) s t ∧ t.time.trigs.getD k ⟨false, 0, 0⟩ = ⟨true, 0, trigStart s k⟩) ∧
    (∀ k y, s.time.trigs.getD k ⟨false, 0, 0⟩ = y → y.armed = true → trigLive s = true → trigMode s k ≠ 2 →
      ∃ t, exec (.triggerFire k) s = .next t ∧ t.time.ns = max s.time.ns y.next ∧
        t.out = s.out ++ [.trigger k (!cfgB s (Addr.TIME_TRIG_CFG + 0x20 * k) 2) y.next (trigWidth s k)] ∧
        (t.time.trigs.getD k ⟨false, 0, 0⟩).armed = false ∧
        (t.time.trigs.getD k ⟨false, 0, 0⟩).fired = min 65535 (y.fired + 1))

/-- The life cycle (15_keys R386 to R389, R392): a change that is allowed is armed with the next TOKEN, by GMP with
the life-cycle right or in BLANK by the debug port; CONFIRM with that TOKEN starts blowing, DISARM ends it; the first
fuse of a pair leaves the device running, the second resets it. Choices of the model that it rests on: log entries 24,
25. -/
def Obligations.LifeCycleAdvances : Prop :=
  ∀ s : State,
    (∀ h x, GmpMay h x 5 10 s →
      (∀ g, g ≤ 4 → lcAllowed s false g = true → ∃ t, exec (.armAdvance (some h) g) s = .next t ∧
        Answered h 0x02 stOk (indexBody 0xFFFF) s t ∧ t.key.lcStatus = stOk ∧
        t.key.arm = some ⟨nextToken s.key.lastToken, false, g, s.jr.sf⟩) ∧
      (∀ g, g ≤ 4 → lcAllowed s false g = false → ∃ t, exec (.armAdvance (some h) g) s = .next t ∧
        Answered h 0x02 stState (indexBody 0) s t ∧ t.key.arm = s.key.arm) ∧
      (lcAllowed s true 0 = true → ∃ t, exec (.armRevokeA (some h)) s = .next t ∧
        Answered h 0x02 stOk (indexBody 0xFFFF) s t ∧ t.key.arm = some ⟨nextToken s.key.lastToken, true, 0, s.jr.sf⟩) ∧
      (∀ a, s.key.arm = some a → a.token < 256 → lcAllowed s a.revoke a.target = true → s.jr.sf ≤ a.sf + 500 →
        ∃ t, exec (.lcConfirm (some h) a.token) s = .next t ∧ Answered h 0x02 stOk (indexBody 0xFFFF) s t ∧
          t.key.blow = some a ∧ t.key.arm = none) ∧
      (s.key.arm ≠ none → ∃ t, exec (.lcDisarm (some h)) s = .next t ∧ Answered h 0x02 stOk (indexBody 0xFFFF) s t ∧
        t.key.arm = none)) ∧
    (∀ g, lcState s = 0 → g ≤ 4 → lcAllowed s false g = true → ∃ t, exec (.armAdvance none g) s = .next t ∧
      t.key.arm = some ⟨nextToken s.key.lastToken, false, g, s.jr.lastSf⟩ ∧ t.jr = s.jr) ∧
    (∀ a, s.key.blow = some a → a.revoke = false → a.target - 1 < s.key.fuses.length → s.key.fuses.getD (a.target - 1) 0 = 0 →
      ∃ t, exec .fuseBlown s = .next t ∧ t.key.fuses.getD (a.target - 1) 0 = 1 ∧ t.pcr = s.pcr ∧ t.key.blow = some a) ∧
    (∀ a, s.key.blow = some a → a.revoke = false → s.key.fuses.getD (a.target - 1) 0 = 1 →
      ∃ t, exec .fuseBlown s = .next t ∧ t.key.fuses.getD (a.target - 1) 0 = 2 ∧ t.pcr.phase = .held ∧ t.pcr.cause = 7 ∧
        t.key.blow = none)

/-- Roots and the keyring (15_keys R391, R396 to R399, R402, R403, R408): a root is programmed once; a blob that
passes its checks waits for its write under the next keyring, one that fails is answered with the check's status; an
invalidated KEY_ID leaves the next keyring and its generation is barred; a written change is in force, one that no
channel took is given up; EVICT empties a slot. Choices of the model that it rests on: log entries 15, 25, 40. -/
def Obligations.KeyringChangesAreWritten : Prop :=
  ∀ (h : GmpHdr) (x : Session) (s : State),
    (∀ b, GmpMay h x 5 10 s → (b.root = 1 ∨ b.root = 2) → b.zero = 0 → b.wrapped.length = 40 → lcState s = 1 →
      b.root < s.key.roots.length → s.key.roots.getD b.root .blank = .blank → rootOk s 0 = true → b.kwpOk = true →
      ∃ t, exec (.root h b) s = .next t ∧ Answered h 0x4A stOk [] s t ∧ t.key.roots.getD b.root .blank = .valid) ∧
    (∀ b, GmpMay h x 6 10 s → (putOp b none s).2 = none → ∃ t w, exec (.keyPut h b) s = .next t ∧
      t.key.writes = s.key.writes ++ [w] ∧ t.key.next = w.ring ∧ w.waiter = some ⟨x.ident, h.reqId⟩ ∧ w.isPut = true ∧
      kfind w.ring.blobs b.keyId = some b ∧ w.ring.gen = s.key.next.gen + 1 ∧ t.key.ring = s.key.ring) ∧
    (∀ b, GmpMay h x 6 10 s → blobCheck s s.key.next b ≠ stOk → ∃ t, exec (.keyPut h b) s = .next t ∧
      Answered h 0x48 (blobCheck s s.key.next b) [] s t ∧ t.key = s.key) ∧
    (∀ id b, GmpMay h x 6 10 s → kfind s.key.next.blobs id = some b → s.key.next.gen ≠ 0xFFFFFFFF →
      (raiseFloor s.key.next id b.gen).floors.length ≤ 256 →
      (∃ t w, exec (.keyInvalidate h id 0) s = .next t ∧ t.key.writes = s.key.writes ++ [w] ∧ t.key.next = w.ring ∧
        w.waiter = some ⟨x.ident, h.reqId⟩ ∧ kfind w.ring.blobs id = none ∧ kget 0 w.ring.floors id = b.gen + 1) ∧
      (id < 65536 → ∃ t w, exec (.invalidate h id) s = .next t ∧ t.key.writes = s.key.writes ++ [w] ∧ t.key.next = w.ring ∧
        w.waiter = none ∧ kfind w.ring.blobs id = none ∧ kget 0 w.ring.floors id = b.gen + 1)) ∧
    (∀ id, GmpMay h x 6 10 s → kfind s.key.next.blobs id = none → ∃ t, exec (.keyInvalidate h id 0) s = .next t ∧
      Answered h 0x49 stEmpty [] s t ∧ t.key = s.key) ∧
    (∀ w rest o, s.key.writes = w :: rest → chanUsed s 0 = true → ∃ t, exec (.keyringWritten true o) s = .next t ∧
      t.key.writes = rest ∧ t.key.ring = w.ring ∧ t.key.active = otherSlot s.key.active ∧
      t.nvm.flash.keys = lset s.nvm.flash.keys (otherSlot s.key.active) (.valid w.ring)) ∧
    (∀ w rest, s.key.writes = w :: rest → ∃ t, exec (.keyringWritten false false) s = .next t ∧ t.key.writes = rest ∧
      t.key.ring = s.key.ring ∧ t.key.active = s.key.active ∧ cfg t Addr.NVM_ALARM 0 0 = 1) ∧
    (∀ id e, GmpMay h x 6 10 s → id < 65536 → s.key.slots.find? (fun e => e.2.st == .ready && e.2.blob.keyId == id) = some e →
      e.2.blob.flags ≠ 1 → e.2.running = 0 → ∃ t, exec (.evict h id) s = .next t ∧
        Answered h 0x02 stOk (indexBody 0xFFFF) s t ∧ t.key.slots = kdel s.key.slots e.1)

/-- Key slots and debug access (15_keys R400 to R402, R405 to R407): a READY key whose attributes allow the use serves
it, one whose attributes do not is refused, one that the keyring lacks is stale; the last operation on a STALE slot
zeroes it; a new challenge is answered once, and the right response opens debug access and zeroes every slot. Choices
of the model that it rests on: log entries 15, 24. -/
def Obligations.KeysServeAndDebugOpens : Prop :=
  ∀ s : State,
    (∀ id m u i y, dbgCust s = false → readySlot s id = some (i, y) → useCheck s y.blob m u = stOk → ∃ t,
      exec (.keyLoad id m u) s = .next t ∧ t.out = s.out ++ [.keyOp id stOk] ∧
      ∃ z, kfind t.key.slots i = some z ∧ z.running = y.running + 1 ∧ z.blob = y.blob) ∧
    (∀ id m u i y, dbgCust s = false → readySlot s id = some (i, y) → useCheck s y.blob m u ≠ stOk → ∃ t,
      exec (.keyLoad id m u) s = .next t ∧ t.out = s.out ++ [.keyOp id stAuth] ∧ t.key = s.key) ∧
    (∀ id m u, dbgCust s = false → readySlot s id = none → kfind s.key.ring.blobs id = none → ∃ t,
      exec (.keyLoad id m u) s = .next t ∧ t.out = s.out ++ [.keyOp id stStale] ∧ t.key = s.key) ∧
    (∀ i y, kfind s.key.slots i = some y → y.st = .stale → y.running ≤ 1 → ∃ t, exec (.keyOperationEnd i) s = .next t ∧
      kfind t.key.slots i = none) ∧
    (∀ i y, kfind s.key.slots i = some y → y.st ≠ .stale → ∃ t, exec (.keyOperationEnd i) s = .next t ∧
      kfind t.key.slots i = some { y with running := y.running - 1 }) ∧
    (∃ t, exec (.newChal none) s = .next t ∧ t.key.chalFresh = true ∧ t.free = s.free + 1 ∧ t.key.chal.length = 4) ∧
    (∀ h x, GmpMay h x 5 10 s → ∃ t, exec (.newChal (some h)) s = .next t ∧ Answered h 0x02 stOk (indexBody 0xFFFF) s t ∧
      t.key.chalFresh = true) ∧
    (∀ r, lcState s ≠ 0 → lcState s ≠ 4 → (lcWorld (lcState s) = 1 → s.safe.latch = true) → s.key.chalFresh = true →
      s.key.fails < 3 →
      (∃ t, exec (.submit none r true) s = .next t ∧ t.key.dbgOpen = true ∧ t.key.slots = [] ∧ t.key.chalFresh = false) ∧
      (∃ t, exec (.submit none r false) s = .next t ∧ t.key.dbgOpen = s.key.dbgOpen ∧ t.key.fails = s.key.fails + 1 ∧
        t.key.chalFresh = false ∧ t.key.dbgStatus = stCheck) ∧
      (∀ h x, GmpMay h x 5 10 s → ∃ t, exec (.submit (some h) r false) s = .next t ∧
        Answered h 0x02 stCheck (indexBody 0) s t ∧ t.key.fails = s.key.fails + 1 ∧ t.key.dbgStatus = stCheck))

/-- READ, SUBSCRIBE, UNSUBSCRIBE and JOURNAL_ACK make no entry (17_host R436 to R438, R442, R445; 00_scope R7): a READ
of assigned words within one block window answers the words in ascending order, one of any other span ERR_FIELD, one
of no words OK_EMPTY; a subscription starts at the journal's last position, one that is ended is gone; an
acknowledgement moves the session's place in the journal. Choices of the model that it rests on: log entry 50. -/
def Obligations.ReadsAndSubscriptionsAreServed : Prop :=
  ∀ (h : GmpHdr) (x : Session) (s : State), GmpOpen h x s → hasRight s x.ident 0 = true →
    (admitted s 12 < cfgW s Addr.SCHED_CLASS_SEL 12 Addr.SCHED_CLASS_CFG 30 20 →
      (∀ a n, 1 ≤ n → n ≤ 256 → spanOk a n = true → ∃ t u, exec (.read h a n 0) s = .next t ∧
        (∀ k, k ≠ wkey Addr.SCHED_CLASS_SEL 12 Addr.SCHED_CLASS_CNT_JOBS → forceW u k = forceW s k) ∧ u.time = s.time ∧
        u.jr = s.jr ∧ u.safe = s.safe ∧ t.regs = (readWords n a u).1.regs ∧
        t.out = s.out ++ [.gmp h.sess 0x01 h.reqId stOk (readWords n a u).2]) ∧
      (∀ a n, 1 ≤ n → n ≤ 256 → spanOk a n = false → ∃ t, exec (.read h a n 0) s = .next t ∧ Answered h 0x01 stField [] s t) ∧
      (∀ a, ∃ t, exec (.read h a 0 0) s = .next t ∧ Answered h 0x01 stEmpty [] s t)) ∧
    (∀ topic mask, 1 ≤ topic → topic ≤ 5 → (topic = 1 → mask ≠ 0) → (mask = 0 ∨ topic = 1 ∨ topic = 2 ∨ topic = 5) →
      ∃ t y, exec (.subscribe h topic 0 mask 0 0) s = .next t ∧ Answered h 0x30 stOk [] s t ∧ session t h.sess = some y ∧
        kfind y.subs topic = some ⟨mask, 0, [], (s.jr.lastSf, s.jr.lastSeq), (s.jr.lastSf, s.jr.lastSeq)⟩) ∧
    (holdsToken s = true → ∃ t y, exec (.subscribe h 6 0 0 0 0) s = .next t ∧ Answered h 0x30 stOk [] s t ∧
      session t h.sess = some y ∧
      kfind y.subs 6 = some ⟨0, 0, [], (s.jr.lastSf, s.jr.lastSeq), (s.jr.lastSf, s.jr.lastSeq)⟩) ∧
    (holdsToken s = false → ∃ t, exec (.subscribe h 6 0 0 0 0) s = .next t ∧ Answered h 0x30 stState [] s t) ∧
    (∀ topic, 1 ≤ topic → topic ≤ 6 → ∃ t y, exec (.unsubscribe h topic 0) s = .next t ∧
      Answered h 0x31 (if (kfind x.subs topic).isSome then stOk else stEmpty) [] s t ∧ session t h.sess = some y ∧
      kfind y.subs topic = none) ∧
    (∀ v sf seq, kfind x.subs 6 = some v → posLt v.acked (sf, seq) = true → posLt (sf, seq) v.sent = false →
      ∃ t y, exec (.journalAck h sf seq 0) s = .next t ∧ t.out = s.out ∧ session t h.sess = some y ∧
        kfind y.subs 6 = some { v with acked := (sf, seq) })

/-- Sessions (17_host R428 to R431): a handshake of an enabled identity with a good binder opens a session with the
lowest free number, one that fails is answered with an alert, one with no number free counts in SESS_FULL; a session
ends when it is closed or idle for IDLE_TO; a datagram not whole in 100 ms is dropped. Choices of the model that it
rests on: log entries 15, 51, 52. -/
def Obligations.SessionsOpenAndClose : Prop :=
  ∀ s : State,
    (unitUp s = true →
      (∀ bytes suite port peer k n, identOf s bytes = some k → sessOf s k = none → freeSess s = some n →
        systemOk (loadSystem 3 s) 3 1 3 = true →
        (lcWorld (lcState (loadSystem 3 s)) = 1 → radioRootOk (loadSystem 3 s) = true) →
        ∃ t y, exec (.clientHello bytes true suite port peer true) s = .next t ∧ session t n = some y ∧ y.ident = k ∧
          y.outstanding = 0 ∧ y.subs = [] ∧ y.lastAt = s.time.op ∧ y.port = port) ∧
      (∀ bytes suite port peer fin k n, identOf s bytes = some k → freeSess s = some n →
        ∃ t l, exec (.clientHello bytes false suite port peer fin) s = .next t ∧ t.out = s.out ++ l ++ [.alert] ∧
          t.gmp = s.gmp) ∧
      (∀ bytes binder suite port peer fin, freeSess s = none → (∀ k, identOf s bytes = some k → sessOf s k = none) →
        ∃ t, exec (.clientHello bytes binder suite port peer fin) s = .next t ∧ t.out = s.out ++ [.alert] ∧ t.gmp = s.gmp ∧
          cfg t (Addr.NET_CNT + 8) 31 0 = min (2 ^ 32 - 1) (cfg s (Addr.NET_CNT + 8) 31 0 + 1))) ∧
    (∀ k, ∃ t, exec (.sessionClose k) s = .next t ∧ session t k = none ∧ ∀ j, j ≠ k → session t j = session s j) ∧
    (∀ k x, session s k = some x → x.lastAt + cfg s Addr.NET_GMP_CFG 9 0 * 1000000000 ≤ s.time.op →
      ∃ t, exec (.idleTimeout k) s = .next t ∧ session t k = none ∧ ∀ j, j ≠ k → session t j = session s j) ∧
    (∀ k x, session s k = some x → s.time.op < x.lastAt + cfg s Addr.NET_GMP_CFG 9 0 * 1000000000 →
      exec (.idleTimeout k) s = .next s) ∧
    (∀ i e, s.gmp.frags.find? (fun e => e.1 == i) = some e → e.2 + 100000000 ≤ s.time.op →
      ∃ t, exec (.fragmentReassemblyTimeout i) s = .next t ∧ t.gmp.frags = s.gmp.frags.filter (fun y => y.1 != i) ∧
        cfg t (Addr.NET_CNT + 32) 31 0 = min (2 ^ 32 - 1) (cfg s (Addr.NET_CNT + 32) 31 0 + 1))

/-- Register writes (00_scope R7, R9, R13; 17_host R432, R437, R438): a word of a selector takes effect at once, one
out of its field's values answers ERR_FIELD and changes nothing, one whose field is of the tag Commit waits in its
staged copy; a WRITE writes all its words or none and names the word that fails; a WRITE_SEQ counts its addresses up.
Choices of the model that it rests on: log entry 13. -/
def Obligations.WritesAreWholeOrNotAtAll : Prop :=
  ∀ (h : GmpHdr) (x : Session) (s : State), GmpMay h x 1 10 s → s.pcr.resetAt = none →
    (∀ a d v, a ∈ [Addr.FIX_ROVER_SEL, Addr.SCR_MACH_SEL, Addr.LOOP_SEL, Addr.SCHED_ENG_SEL, Addr.HOD_SEL] → findReg a = some d →
      d.inRange v = true →
      (∃ t, exec (.registerWrite h a v) s = .next t ∧ Answered h 0x02 stOk (indexBody 0xFFFF) s t ∧
        forceW t (rkey a) = blend (d.tagMask .now) (forceW s (rkey a)) v) ∧
      (∃ t, exec (.writeSeq h a [v] false false) s = .next t ∧ Answered h 0x03 stOk (indexBody 0xFFFF) s t ∧
        forceW t (rkey a) = blend (d.tagMask .now) (forceW s (rkey a)) v) ∧
      (∀ b w, findReg b = none → ∃ t, exec (.write h [(a, v), (b, w)] false false) s = .next t ∧
        Answered h 0x02 stField (indexBody 1) s t ∧ forceW t (rkey a) = forceW s (rkey a)) ∧
      (∀ b e w, b ∈ [Addr.FIX_ROVER_SEL, Addr.SCR_MACH_SEL, Addr.LOOP_SEL, Addr.SCHED_ENG_SEL, Addr.HOD_SEL] → b ≠ a →
        findReg b = some e → e.inRange w = true → ∃ t, exec (.write h [(a, v), (b, w)] false false) s = .next t ∧
          Answered h 0x02 stOk (indexBody 0xFFFF) s t ∧ forceW t (rkey a) = blend (d.tagMask .now) (forceW s (rkey a)) v ∧
          forceW t (rkey b) = blend (e.tagMask .now) (forceW s (rkey b)) w)) ∧
    (∀ a d v, a ∈ [Addr.FIX_ROVER_SEL, Addr.SCR_MACH_SEL] → findReg a = some d → d.inRange v = false →
      ∃ t, exec (.registerWrite h a v) s = .next t ∧ Answered h 0x02 stField (indexBody 0) s t ∧
        forceW t (rkey a) = forceW s (rkey a)) ∧
    (∀ d v, findReg Addr.SAFE_LEASE = some d → d.inRange v = true → ∃ t, exec (.registerWrite h Addr.SAFE_LEASE v) s = .next t ∧
      Answered h 0x02 stOk (indexBody 0xFFFF) s t ∧ forceW t (rkey Addr.SAFE_LEASE) = forceW s (rkey Addr.SAFE_LEASE) ∧
      kget (forceW s (rkey Addr.SAFE_LEASE)) t.regs.staged (rkey Addr.SAFE_LEASE) =
        blend (d.tagMask .commit) (forceW s (rkey Addr.SAFE_LEASE)) v) ∧
    (∀ a v, findReg a = none ∨ a % 4 ≠ 0 → ∃ t, exec (.registerWrite h a v) s = .next t ∧
      Answered h 0x02 stField (indexBody 0) s t ∧ ∀ k, k ∉ [rkey Addr.TOP_CFG_ALARM, rkey (Addr.NET_CNT + 24),
        wkey Addr.SCHED_CLASS_SEL 10 Addr.SCHED_CLASS_CNT_JOBS] → forceW t k = forceW s k) ∧
    (∃ t, exec (.write h [] false false) s = .next t ∧ Answered h 0x02 stEmpty (indexBody 0xFFFF) s t ∧ t.jr = s.jr ∧
      t.regs = s.regs)

/-- The log (20_event_recorder R489, R491 to R493; 17_host R439): a record whose write and read-back hold is placed at
TOTAL and counted; one whose read-back differs leaves a torn slot and is written once more; LOG_READ answers what is
stored from FIRST on; LOG_ERASE with the TOTAL that stands begins the erase, with another answers ERR_STALE, while one
runs ERR_BUSY; the erased log is empty and its first record is LOG_ERASED. Choices of the model that it rests on: log
entry 58. -/
def Obligations.RecordsAreWrittenReadAndErased : Prop :=
  ∀ s : State,
    (∀ r, s.evr.writing = some r → chanUsed s 0 = true →
      (∃ t, exec (.recordWritten true true true) s = .next t ∧ kfind t.evr.log s.evr.total = some (.valid r) ∧
        t.evr.total = s.evr.total + 1 ∧
        cfg t Addr.EVR_CNT_WRITTEN 31 0 = min (2 ^ 32 - 1) (cfg s Addr.EVR_CNT_WRITTEN 31 0 + 1)) ∧
      (s.evr.again = false → s.evr.total + 2 < s.evr.cap → ∃ t, exec (.recordWritten false true true) s = .next t ∧
        kfind t.evr.log s.evr.total = some .torn ∧ t.evr.total = s.evr.total + 1 ∧ t.evr.writing = some r ∧
        t.evr.again = true ∧ cfg t Addr.EVR_ALARM 2 2 = 1 ∧
        cfg t Addr.EVR_CNT_TORN 31 0 = min (2 ^ 32 - 1) (cfg s Addr.EVR_CNT_TORN 31 0 + 1)) ∧
      (s.evr.again = true → ∃ t, exec (.recordWritten false true true) s = .next t ∧
        kfind t.evr.log s.evr.total = some .torn ∧ t.evr.total = s.evr.total + 1 ∧
        cfg t Addr.EVR_CNT_WRITE_ERR 31 0 = min (2 ^ 32 - 1) (cfg s Addr.EVR_CNT_WRITE_ERR 31 0 + 1))) ∧
    (∀ h x, GmpOpen h x s → hasRight s x.ident 0 = true →
      admitted s 21 < cfgW s Addr.SCHED_CLASS_SEL 21 Addr.SCHED_CLASS_CFG 30 20 →
      (∀ i r, i < s.evr.total → kfind s.evr.log i = some (.valid r) → ∃ t, exec (.logRead h i 1 0) s = .next t ∧
        Answered h 0x38 stOk (be 4 (i + 1) ++ be 4 s.evr.total ++ evrWire r) s t) ∧
      (∀ i n, n ≤ 15 → (n = 0 ∨ s.evr.total ≤ i) → ∃ t, exec (.logRead h i n 0) s = .next t ∧
        Answered h 0x38 stEmpty (be 4 i ++ be 4 s.evr.total) s t) ∧
      (∀ i n, 15 < n → ∃ t, exec (.logRead h i n 0) s = .next t ∧ Answered h 0x38 stField [] s t)) ∧
    (∀ h x, GmpOpen h x s → hasRight s x.ident 8 = true →
      (s.evr.erasing = none → s.evr.eraseWait = none →
        (s.evr.writing = none → ∃ t, exec (.logErase h s.evr.total) s = .next t ∧
          t.evr.erasing = some ⟨h.sess, h.reqId, x.ident, s.evr.total⟩ ∧ t.out = s.out) ∧
        (∀ n, s.evr.writing = none → n ≠ s.evr.total → ∃ t, exec (.logErase h n) s = .next t ∧
          Answered h 0x39 stStale [] s t ∧ t.evr.erasing = none) ∧
        (∀ n, s.evr.writing ≠ none → ∃ t, exec (.logErase h n) s = .next t ∧
          t.evr.eraseWait = some (⟨h.sess, h.reqId, x.ident, 0⟩, n) ∧ t.out = s.out)) ∧
      (∀ n, s.evr.erasing ≠ none → ∃ t, exec (.logErase h n) s = .next t ∧ Answered h 0x39 stBusy [] s t ∧
        t.evr = s.evr)) ∧
    (∀ j y, s.evr.erasing = some j → s.evr.writing = none → s.evr.logOk = true → 1 < s.evr.cap →
      session s j.sess = some y → y.ident = j.ident → ∃ t r, exec .logEraseDone s = .next t ∧ t.evr.log = [] ∧
        t.evr.total = 0 ∧ t.evr.erasing = none ∧ t.evr.writing = some r ∧ r.trig = 3 ∧
        r.detail = [j.ident] ++ be 4 j.before ∧ t.out = s.out ++ [.gmp j.sess 0x39 j.reqId stOk []])

/-- A transfer of firmware or of a primer image (19_firmware R473 to R477): begun into the slot that does not run,
received in blocks whose CRC holds, each kept once, verified, and activated by a reset; ABORT ends it. Choices of the
model that it rests on: log entries 59, 62. -/
def Obligations.TransfersRun : Prop :=
  ∀ (h : GmpHdr) (x : Session) (s : State), GmpOpen h x s → hasRight s x.ident 7 = true → updSlot s < s.nvm.flash.fw.length →
    (∀ target len, 1 ≤ target → target ≤ 2 → 32 ≤ len → s.upd.trial = false → len ≤ regionLen s (1 + updSlot s) →
      (s.upd.st ≠ .erasing → s.upd.st ≠ .receiving → ∃ t, exec (.updBegin h target len) s = .next t ∧
        Answered h 0x40 stOk [] s t ∧ t.upd.st = .erasing ∧ t.upd.target = target ∧ t.upd.length = len ∧
        t.upd.lastStatus = stOk ∧ fwSlot t (updSlot s) = ⟨[], true⟩) ∧
      (s.upd.st = .receiving → ∃ t, exec (.updBegin h target len) s = .next t ∧ Answered h 0x40 stBusy [] s t ∧
        t.upd.st = .receiving ∧ t.nvm = s.nvm)) ∧
    (s.upd.st = .erasing → chanUsed s 0 = true → ∃ t, exec (.updEraseDone true true) s = .next t ∧ t.upd.st = .receiving ∧
      fwSlot t (updSlot s) = ⟨[], false⟩) ∧
    (s.upd.st = .erasing → ∃ t, exec (.updEraseDone false false) s = .next t ∧ t.upd.st = .failed) ∧
    (∀ off n d, s.upd.st = .receiving → blockForm s ⟨off, n, crc32c d, d, true, true, true⟩ = true →
      (kfind (updBlocks s) (off / 2048) = none → chanUsed s 0 = true →
        ∃ t, exec (.updBlock h off n (crc32c d) d true true true) s = .next t ∧ Answered h 0x41 stOk [] s t ∧
          kfind (updBlocks t) (off / 2048) = some d ∧ t.upd.st = .receiving) ∧
      (∀ e, kfind (updBlocks s) (off / 2048) = some e →
        ∃ t, exec (.updBlock h off n (crc32c d) d true true true) s = .next t ∧
          Answered h 0x41 (if e = d then stOk else stCheck) [] s t ∧ updBlocks t = updBlocks s) ∧
      (∀ c, c ≠ crc32c d → ∃ t, exec (.updBlock h off n c d true true true) s = .next t ∧ Answered h 0x41 stCheck [] s t ∧
        updBlocks t = updBlocks s)) ∧
    (∃ t, exec (.updStatus h) s = .next t ∧ Answered h 0x42 stOk
      ([updStCode s.upd.st, s.upd.target, 0, 0] ++ be 4 (updBlocks s).length ++ be 4 (updMissing s)) s t) ∧
    (∀ sig, s.upd.st = .receiving →
      (updMissing s ≠ s.upd.length → ∃ t, exec (.updVerify h sig) s = .next t ∧ Answered h 0x43 stField [1, 0, 0, 0] s t ∧
        t.upd.st = .receiving ∧ t.upd.fail = 1) ∧
      (∀ f, updMissing s = s.upd.length → s.upd.target = 1 → fwFail s.part s.upd.length sig (fwSlot s (updSlot s)) = f →
        ∃ t, exec (.updVerify h sig) s = .next t ∧ Answered h 0x43 (if f = 0 then stOk else stCheck) [f, 0, 0, 0] s t ∧
          t.upd.st = (if f = 0 then .verified else .failed) ∧ t.upd.fail = f)) ∧
    (∀ sig, s.upd.st = .idle → ∃ t, exec (.updVerify h sig) s = .next t ∧ Answered h 0x43 stState [0, 0, 0, 0] s t) ∧
    (s.upd.st = .verified → (holdsToken s = true → s.safe.cLatch = true) → chanUsed s 0 = true →
      (∀ c, s.upd.target = 1 → hdrNow s = some c → otherSlot s.nvm.hdrCopy < s.nvm.flash.hdr.length →
        ∃ t, exec (.updActivate h true true) s = .next t ∧ Answered h 0x44 stOk [] s t ∧ t.pcr.phase = .held ∧ t.pcr.cause = 7 ∧
          t.nvm.flash.hdr.getD (otherSlot s.nvm.hdrCopy) .blank =
            .copy { c with trial := updSlot s, trialState := 1, gen := c.gen + 1 }) ∧
      (s.upd.target = 2 → ∃ t, exec (.updActivate h true true) s = .next t ∧ Answered h 0x44 stOk [] s t ∧
        t.pcr.phase = .held ∧ t.pcr.cause = 7 ∧ t.nvm.flash.primer = (fwSlot s (updSlot s)).blocks)) ∧
    (s.upd.st ≠ .verified → ∃ t, exec (.updActivate h true true) s = .next t ∧ Answered h 0x44 stState [] s t ∧
      t.pcr = s.pcr ∧ t.nvm = s.nvm) ∧
    (s.upd.st ≠ .idle → ∃ t, exec (.updAbort h) s = .next t ∧ Answered h 0x46 stOk [] s t ∧ t.upd.st = .idle ∧
      t.upd.length = 0) ∧
    (s.upd.st = .idle → ∃ t, exec (.updAbort h) s = .next t ∧ Answered h 0x46 stEmpty [] s t ∧ t.nvm = s.nvm)

/-- A trial (19_firmware R473, R478, R479): CONFIRM makes the slot on trial the confirmed one, without a trial it
answers OK_EMPTY; a trial that TRIAL_T passes unconfirmed resets the device; UPD_INFO shows both slots. Choices of the
model that it rests on: log entries 15, 58, 59. -/
def Obligations.TrialsAreConfirmedOrFallBack : Prop :=
  ∀ s : State,
    (∀ h x, GmpOpen h x s → hasRight s x.ident 7 = true →
      (s.upd.trial = false → ∃ t, exec (.updConfirm h true true) s = .next t ∧ Answered h 0x45 stEmpty [] s t ∧
        t.nvm = s.nvm) ∧
      (∀ c, s.upd.trial = true → chanUsed s 0 = true → hdrNow s = some c →
        otherSlot s.nvm.hdrCopy < s.nvm.flash.hdr.length → ∃ t, exec (.updConfirm h true true) s = .next t ∧
          Answered h 0x45 stOk [] s t ∧ t.upd.trial = false ∧
          hdrNow t = some { c with confirmed := s.nvm.fwSlot, trial := 0xFF, trialState := 0, gen := c.gen + 1 }) ∧
      (∀ good, ∃ t, exec (.updInfo h good) s = .next t ∧ Answered h 0x47 stOk
        ((fwBytes (fwSlot s 0) 12 14 ++ [slotState good s 0, 0]) ++ (fwBytes (fwSlot s 1) 12 14 ++ [slotState good s 1, 0]))
        s t)) ∧
    (∀ a, s.upd.trialFrom = some a → s.upd.trial = true → ∃ t, exec .trialTimeout s = .next t ∧ t.pcr.phase = .held ∧
      t.pcr.cause = 7 ∧ t.time.op = max s.time.op (a + cfg s Addr.UPD_CFG 19 0 * 1000000000)) ∧
    (∀ a, s.upd.trialFrom = some a → s.upd.trial = false → exec .trialTimeout s = .next s)

/-- The boot (18_boot R449, R452, R454, R455; 19_firmware R472, R478): without a valid header it halts with code 1, in
RMA with code 7, without a good firmware slot with code 2; with a header, a slot that passes its checks and installs,
and a primer image that passes, the unit is up with that slot, in SEEK or unpaired as PAIR_CFG says. Choices of the
model that it rests on: log entries 46, 47. -/
def Obligations.BootStartsOrHalts : Prop :=
  ∀ (b : BootIn) (s : State), s.pcr.phase = .boot →
    (b.ch0 = none → b.ch1 = none → lcState s ≠ 4 → ∃ t, exec (.boot b) s = .next t ∧ t.pcr.phase = .halted ∧ t.pcr.halt = 1 ∧
      t.pcr.lastHalt = 1) ∧
    (lcState s = 4 → ∃ t, exec (.boot b) s = .next t ∧ t.pcr.phase = .halted ∧ t.pcr.halt = 7) ∧
    (∀ u v i, bootHeader (bootRoots (bootChannels b s)) = some u → lcState u ≠ 4 → bootSelect u = (v, i, false) →
      (slotGood b v i = false → slotGood b v (otherSlot i) = false → ∃ t, exec (.boot b) s = .next t ∧
        t.pcr.phase = .halted ∧ t.pcr.halt = 2) ∧
      (∀ w, slotGood b v i = true → slotInstalls b v i = true →
        w = loadSystem 2 (bootKeys ((v.updNvm fun n => { n with fwSlot := i, fallback := false, run := fwId (fwSlot v i) }).updUpd
          fun y => { y with trial := ((hdrNow v).map (fun c => c.trialState == 2 && c.trial == i)).getD false })) →
        ((primerCheck (regionLen w 3) w.nvm.flash.primer b.primerSig w).1 = 0 → ∃ t, exec (.boot b) s = .next t ∧
          t.pcr.phase = .up ∧ t.nvm.fwSlot = i ∧ t.nvm.fallback = false ∧ t.pcr.lastHalt = 0 ∧
          (t.pair.role = .seek ∨ t.pair.role = .unpaired)) ∧
        (∀ c, (primerCheck (regionLen w 3) w.nvm.flash.primer b.primerSig w).1 = c → c ≠ 0 → ∃ t, exec (.boot b) s = .next t ∧
          t.pcr.phase = .halted ∧ t.pcr.halt = c)) ∧
      (slotGood b v i = true → slotInstalls b v i = false → ∃ t, exec (.boot b) s = .next t ∧ t.pcr.phase = .held ∧
        t.pcr.cause = 7 ∧ t.pcr.failedSlot = some i))

/-- The sweep's tests (21_snag_sweep R495 to R499, R501, R506; 12_memory R331): an item that passes is tested now, one
passed over is not; a failing lane takes the spare, a second one fences the engine, and so does a failing checker or
port; a tile out of service that fails its march test is retired; COVER_MISS is shown and counted; the SAFE bay's own
failing check raises fault 1. Choices of the model that it rests on: log entry 69. -/
def Obligations.SweepTestsAndRepairs : Prop :=
  ∀ s : State,
    (cfgB s Addr.SNAG_CFG 0 = true →
      (∀ c u i y, snagItem s.part c u i = true → c ≠ 4 → (c = 3 → loopIdle s u = true) →
        ∃ t, exec (.snagTest ⟨c, u, i, .pass, y⟩) s = .next t ∧ kfind t.snag.tested (snagKey c u i) = some s.time.op ∧
          t.sched = s.sched) ∧
      (∀ c u i y, snagItem s.part c u i = true → c ≠ 4 → ∃ t, exec (.snagTest ⟨c, u, i, .skip, y⟩) s = .next t ∧
        t.snag.tested = s.snag.tested ∧ t.sched = s.sched) ∧
      (∀ u i y, snagItem s.part 0 u i = true → kfind s.snag.spare u = none →
        ∃ t, exec (.snagTest ⟨0, u, i, .fail, y⟩) s = .next t ∧ kfind t.snag.spare u = some i ∧
          (engOf t u).fenced = (engOf s u).fenced) ∧
      (∀ u i y, snagItem s.part 0 u i = true → kfind s.snag.spare u ≠ none →
        ∃ t, exec (.snagTest ⟨0, u, i, .fail, y⟩) s = .next t ∧ (engOf t u).fenced = true) ∧
      (∀ c u y, (c = 1 ∨ c = 2) → snagItem s.part c u 0 = true →
        ∃ t, exec (.snagTest ⟨c, u, 0, .fail, y⟩) s = .next t ∧ (engOf t u).fenced = true) ∧
      (∀ u i y, snagItem s.part 4 u i = true → (bank s u).retired.contains i = false → idleTile (bank s u) i = true →
        (∃ t, exec (.snagTest ⟨4, u, i, .fail, y⟩) s = .next t ∧ (bank t u).retired = (bank s u).retired ++ [i] ∧
          (bank t u).testing.contains i = false) ∧
        (∃ t, exec (.snagTest ⟨4, u, i, .pass, y⟩) s = .next t ∧ (bank t u).retired = (bank s u).retired ∧
          (bank t u).testing.contains i = false)) ∧
      (∀ c u i, snagItem s.part c u i = true → ∃ t, exec (.coverMiss c u i) s = .next t ∧ cfg t Addr.SNAG_STATUS 10 10 = 1 ∧
        cfg t (Addr.SNAG_CNT + 36) 31 0 = min (2 ^ 32 - 1) (cfg s (Addr.SNAG_CNT + 36) 31 0 + 1))) ∧
    (∃ t, exec (.safeSelfCheck true) s = .next t ∧ kfind t.snag.tested (snagKey 7 0 0) = some s.time.op ∧ t.safe = s.safe) ∧
    (∃ t, exec (.safeSelfCheck false) s = .next t ∧ t.safe.faults.testBit 0 = true ∧
      (s.safe.faults.testBit 0 = false → t.safe.latch = true))

/-- SNAG_CTRL (21_snag_sweep R498, R502, R506; 01_architecture R28, R29): a bay that may restart begins with its
domain off, one that may not answers ERR_STATE, a second one ERR_BUSY; the domain is on again 10 ms later, and the
restart ends with the bay's engines back, or all of them fenced where the whole bay failed; FENCE takes an engine out
of service, RETEST returns one that passes. Choices of the model that it rests on: log entries 43, 44. -/
def Obligations.BaysRestartAndEnginesAreFenced : Prop :=
  ∀ s : State,
    (∀ h x, GmpMay h x 1 10 s →
      (∀ b, isBay s.part b = true → b ≠ 2 → bayMay s b true = true → bayRoom s b = true →
        (s.snag.restart = none → ∃ t, exec (.restartBay h b) s = .next t ∧ Answered h 0x02 stOk (indexBody 0xFFFF) s t ∧
          t.snag.restart = some ⟨b, s.time.op, false⟩ ∧ t.pcr.domOn.testBit b = false ∧ t.snag.ctrlStatus = stOk) ∧
        (s.snag.restart ≠ none → ∃ t, exec (.restartBay h b) s = .next t ∧ Answered h 0x02 stBusy (indexBody 0) s t ∧
          t.snag.restart = s.snag.restart)) ∧
      (∀ b, isBay s.part b = true → (b = 2 ∨ bayMay s b true = false ∨ bayRoom s b = false) →
        ∃ t, exec (.restartBay h b) s = .next t ∧ Answered h 0x02 stState (indexBody 0) s t ∧
          t.snag.restart = s.snag.restart) ∧
      (∀ e, isEngine s.part e = true → (engOf s e).fenced = false →
        (kindOf e = 1 → fixFloor s.part ≤
          (engineIds.filter (fun y => kindOf y == 1 && engEnabled s y && !(engOf s y).fenced && y != e)).length) →
        (e ≤ 1 → (engOf s (1 - e)).fenced = false) → ∃ t, exec (.snagFence h e) s = .next t ∧
          Answered h 0x02 stOk (indexBody 0xFFFF) s t ∧ (engOf t e).fenced = true) ∧
      (∀ e, isEngine s.part e = true → (engOf s e).fenced = true →
        (∃ t, exec (.snagFence h e) s = .next t ∧ Answered h 0x02 stEmpty (indexBody 0xFFFF) s t ∧ (engOf t e).fenced = true) ∧
        (∃ t, exec (.retest h e true) s = .next t ∧ Answered h 0x02 stOk (indexBody 0xFFFF) s t ∧ (engOf t e).fenced = false) ∧
        (∃ t, exec (.retest h e false) s = .next t ∧ Answered h 0x02 stOk (indexBody 0xFFFF) s t ∧
          (engOf t e).fenced = true)) ∧
      (∀ e, isEngine s.part e = true → (engOf s e).fenced = false → ∃ t, exec (.retest h e true) s = .next t ∧
        Answered h 0x02 stState (indexBody 0) s t ∧ (engOf t e).fenced = false)) ∧
    (∀ r, s.snag.restart = some r → r.on = false → r.bay < 16 → ∃ t, exec .bayDomainOn s = .next t ∧
      t.pcr.domOn.testBit r.bay = true ∧ t.snag.restart = some { r with on := true } ∧
      t.time.op = max s.time.op (r.since + 10000000)) ∧
    (∀ r ms, s.snag.restart = some r → r.on = true → (∀ b, b < 16 → (baySt s b).asked = false) →
      (∃ t, exec (.bayRestartDone ms false []) s = .next t ∧ t.snag.restart = none ∧ (baySt t r.bay).failed = false ∧
        (baySt t r.bay).lastMs = min 4095 ms ∧
        ∀ e ∈ bayEngines s r.bay, (engOf t e).restart = false ∧ (engOf t e).fenced = false) ∧
      (∃ t, exec (.bayRestartDone ms true []) s = .next t ∧ t.snag.restart = none ∧ (baySt t r.bay).failed = true ∧
        ∀ e ∈ bayEngines s r.bay, (engOf t e).fenced = true))

/-- Reset sources (22_power_clocks_reset R507, R512 to R515; 00_scope R9): each puts the device at its reset values
under its cause, while fuses, the memory's contents and operating time stand; an AON power-on starts operating time
again and raises PWR_EN; a trip of VDD_SAFE or VDD_SAFEIO is fault 5 of the SAFE bay alone; a glitch is only shown;
RESET by GMP needs the global latch and acts 10 ms after its response; the release starts the strip with every domain
on. Choices of the model that it rests on: log entries 38, 39. -/
def Obligations.ResetSourcesAct : Prop :=
  ∀ s : State,
    (∀ c k, (c, k) ∈ [(Instr.resetN, 2), (.clockLoss true, 3), (.clockLoss false, 3), (.coreFault, 4)] →
      (s.pcr.phase ≠ .standby → ∃ t, exec c s = .next t ∧ t.pcr.phase = .held ∧ t.pcr.cause = k ∧ t.jr = State.reset.jr ∧
        t.gmp = State.reset.gmp ∧ t.safe.latch = State.reset.safe.latch ∧ t.safe.permit = State.reset.safe.permit ∧
        t.key.fuses = s.key.fuses ∧ t.key.slots = [] ∧ t.nvm.flash.hdr = s.nvm.flash.hdr ∧ t.nvm.flash.fw = s.nvm.flash.fw ∧
        t.nvm.flash.primer = s.nvm.flash.primer ∧ t.time.op = s.time.op ∧ t.evr.pcycle = s.evr.pcycle ∧ t.out = s.out) ∧
      (s.pcr.phase = .standby → ∃ t, exec c s = .next t ∧ t.pcr.phase = .standby ∧ t.jr = s.jr ∧ t.out = s.out)) ∧
    (s.pcr.phase ≠ .standby → (engUsable s 0 = true ∨ engUsable s 1 = true) → ∃ t, exec .watchdog s = .next t ∧
      t.pcr.phase = .held ∧ t.pcr.cause = 5) ∧
    (engUsable s 0 = false → engUsable s 1 = false → exec .watchdog s = .next s) ∧
    (∃ t, exec .aonPowerOn s = .next t ∧ t.pcr.phase = .held ∧ t.pcr.cause = 0 ∧ t.time.op = 0 ∧ t.evr.pcycle = 0 ∧
      t.mem.banks = [] ∧ t.key.fuses = s.key.fuses ∧ t.nvm.flash.hdr = s.nvm.flash.hdr ∧ t.out = s.out ++ [.pwrEn true]) ∧
    (∀ d b, ∃ t, exec (.railTrip 0 d b) s = .next t ∧ t.pcr.phase = .held ∧ t.pcr.cause = 0) ∧
    (∀ r d b, 3 ≤ r → r ≤ 10 → s.pcr.phase ≠ .standby → ∃ t, exec (.railTrip r d b) s = .next t ∧ t.pcr.phase = .held ∧
      t.pcr.cause = 1 ∧ t.pcr.rail = r ∧ t.pcr.rails.testBit r = b) ∧
    (∀ r d b, 1 ≤ r → r ≤ 2 → s.pcr.phase ≠ .standby → ∃ t, exec (.railTrip r d b) s = .next t ∧
      t.pcr.phase = s.pcr.phase ∧ t.pcr.rails.testBit r = b ∧ t.safe.faults.testBit 4 = true ∧
      (s.safe.faults.testBit 4 = false → t.safe.latch = true)) ∧
    (∀ r, r ≤ 10 → ∃ t, exec (.railGlitch r) s = .next t ∧ t.pcr = s.pcr ∧ cfg t Addr.PCR_ALARM 1 1 = 1 ∧
      cfg t Addr.PCR_RAIL_STATUS (16 + r) (16 + r) = 1) ∧
    (s.pcr.phase = .held → ∃ t, exec .resetRelease s = .next t ∧ t.pcr.phase = .strip ∧ t.pcr.rails = 0x7FF ∧
      t.pcr.domOn = domMask s.part ∧ t.evr.pcycle = s.evr.pcycle + 1 ∧
      t.key = (if s.pcr.cause = 0 then fusesComplete s.key else s.key)) ∧
    (s.pcr.phase ≠ .held → exec .resetRelease s = .next s) ∧
    (∀ h x, GmpMay h x 1 10 s →
      (s.safe.cLatch = true → ∃ t, exec (.pcrReset h) s = .next t ∧ Answered h 0x02 stOk (indexBody 0xFFFF) s t ∧
        t.pcr.phase = .held ∧ t.pcr.cause = 6 ∧ t.time.op = s.time.op + 10000000) ∧
      (s.safe.cLatch = false → s.pcr.resetAt = none → ∃ t, exec (.pcrReset h) s = .next t ∧
        Answered h 0x02 stState (indexBody 0) s t ∧ t.pcr = { s.pcr with ctrlStatus := stState }))

/-- Standby and temperature (22_power_clocks_reset R516 to R518): an accepted STANDBY drains, and once nothing is
under way the domains and PWR_EN go off; a wake in standby raises PWR_EN and holds the device in reset with cause 9,
one during the drain is served at the entry; a reading at 135 degrees resets the device with cause 8, one at the
warning level is shown. Choices of the model that it rests on: log entries 38, 41. -/
def Obligations.StandbyWakeAndTemperature : Prop :=
  ∀ s : State,
    (∀ h x, GmpMay h x 1 10 s → s.safe.cLatch = true →
      (s.pcr.wakeLow = false → s.snag.restart = none → ∃ t, exec (.standby h) s = .next t ∧
        Answered h 0x02 stOk (indexBody 0xFFFF) s t ∧ t.pcr.phase = .drain ∧ t.pcr.ctrlStatus = stOk) ∧
      (s.pcr.wakeLow = true → ∃ t, exec (.standby h) s = .next t ∧ Answered h 0x02 stState (indexBody 0) s t ∧
        t.pcr.phase = s.pcr.phase) ∧
      (s.pcr.wakeLow = false → s.snag.restart ≠ none → ∃ t, exec (.standby h) s = .next t ∧
        Answered h 0x02 stBusy (indexBody 0) s t ∧ t.pcr.phase = s.pcr.phase)) ∧
    (∀ h x, GmpMay h x 1 10 s → s.safe.cLatch = false → ∃ t, exec (.standby h) s = .next t ∧
      Answered h 0x02 stState (indexBody 0) s t ∧ t.pcr.phase = s.pcr.phase) ∧
    (s.pcr.phase = .drain → drained s = true →
      (s.pcr.wakePend = false → ∃ t, exec .standbyEntered s = .next t ∧ t.pcr.phase = .standby ∧ t.pcr.cause = 9 ∧
        t.pcr.rails = 1 ∧ t.pcr.domOn = 1 ∧ t.out = s.out ++ [.pwrEn false]) ∧
      (s.pcr.wakePend = true → ∃ t, exec .standbyEntered s = .next t ∧ t.pcr.phase = .held ∧ t.pcr.cause = 9 ∧
        t.out = s.out ++ [.pwrEn false, .pwrEn true])) ∧
    (s.pcr.phase = .drain → drained s = false → exec .standbyEntered s = .next s) ∧
    (s.pcr.phase = .standby → ∃ t, exec (.wake true) s = .next t ∧ t.pcr.phase = .held ∧ t.pcr.wakeLow = true ∧
      t.out = s.out ++ [.pwrEn true]) ∧
    (s.pcr.phase = .drain → ∃ t, exec (.wake true) s = .next t ∧ t.pcr.phase = .drain ∧ t.pcr.wakePend = true) ∧
    (∃ t, exec (.wake false) s = .next t ∧ t.pcr = { s.pcr with wakeLow := false } ∧ t.out = s.out) ∧
    (∀ d : Int, s.pcr.phase ≠ .held → s.pcr.phase ≠ .standby →
      (135 ≤ d → ∃ t, exec (.tempRead d) s = .next t ∧ t.pcr.phase = .held ∧ t.pcr.cause = 8) ∧
      (d < 135 → ∃ t, exec (.tempRead d) s = .next t ∧ t.pcr = { s.pcr with temp := d } ∧
        ((cfg s Addr.PCR_THERM_CFG 7 0 : Int) ≤ d → cfg t Addr.PCR_ALARM 0 0 = 1) ∧
        (d < (cfg s Addr.PCR_THERM_CFG 7 0 : Int) → cfg t Addr.PCR_ALARM 0 0 = cfg s Addr.PCR_ALARM 0 0))) ∧
    (∀ d : Int, (s.pcr.phase = .held ∨ s.pcr.phase = .standby) → exec (.tempRead d) s = .next s)

/-- The Morton code of a cell (06_zones R160): bit 2i is bit i of CX, bit 2i + 1 is bit i of CY, and the code has 32
bits. -/
def Obligations.MortonCodeInterleaves : Prop :=
  ∀ cx cy : Nat, morton cx cy < 2 ^ 32 ∧
    ∀ i, i < 16 → (morton cx cy).testBit (2 * i) = cx.testBit i ∧ (morton cx cy).testBit (2 * i + 1) = cy.testBit i

/-- ENABLE of the Fix engines (04_fix_solution R122): a write that would leave fewer than eight enabled engines, four
on SZN1280-FB1225-E, is rejected with ERR_STATE while any machine holds a permit, and changes nothing; any other is
written. Choices of the model that it rests on: log entry 13. -/
def Obligations.FixEnginesStayWhilePermitsStand : Prop :=
  ∀ (h : GmpHdr) (x : Session) (s : State) (v : Word), GmpMay h x 1 10 s → s.pcr.resetAt = none →
    (s.safe.cPermit ≠ 0 → popc (fixCount s.part) v.toNat < (if s.part = .szn2560 then 8 else 4) →
      ∃ t, exec (.registerWrite h Addr.FIX_ENG_CTRL v) s = .next t ∧ Answered h 0x02 stState (indexBody 0) s t ∧
        forceW t (rkey Addr.FIX_ENG_CTRL) = forceW s (rkey Addr.FIX_ENG_CTRL)) ∧
    ((s.safe.cPermit = 0 ∨ (if s.part = .szn2560 then 8 else 4) ≤ popc (fixCount s.part) v.toNat) →
      ∃ t, exec (.registerWrite h Addr.FIX_ENG_CTRL v) s = .next t ∧ Answered h 0x02 stOk (indexBody 0xFFFF) s t ∧
        cfg t Addr.FIX_ENG_CTRL 11 0 = if s.part = .szn2560 then fld v 11 0 else fld v 5 0)

/-- A command whose count is zero completes at once with OK_EMPTY, changes nothing and makes no journal entry
(00_scope R21): WRITE, WRITE_SEQ, ZONE, RULE, TRACK, TASK, CONNECTOR, READ and LOG_READ. Choices of the model that it
rests on: log entry 50. -/
def Obligations.CommandsOfCountZeroChangeNothing : Prop :=
  ∀ (h : GmpHdr) (x : Session) (s : State), GmpReady h x s → s.pcr.resetAt = none →
    (∀ c typ, ((∃ d p, c = Instr.write h [] d p ∧ typ = 0x02) ∨ (∃ a d p, c = .writeSeq h a [] d p ∧ typ = 0x03) ∨
        (c = .zone h [] ∧ typ = 0x22) ∨ (c = .rule h [] ∧ typ = 0x26) ∨ (∃ b, b.wps = [] ∧ c = .track h b ∧ typ = 0x20) ∨
        (∃ b, b.wps = [] ∧ c = .task h b ∧ typ = 0x23) ∨ (∃ b, b.wps = [] ∧ c = .connector h b ∧ typ = 0x25)) →
      ∃ t body, exec c s = .next t ∧ Answered h typ stEmpty body s t ∧ t.jr = s.jr ∧ t.regs = s.regs ∧ t.scr = s.scr ∧
        t.lkp = s.lkp ∧ t.safe = s.safe ∧ t.sched = s.sched) ∧
    (∀ a, hasRight s x.ident 0 = true → admitted s 12 < cfgW s Addr.SCHED_CLASS_SEL 12 Addr.SCHED_CLASS_CFG 30 20 →
      ∃ t, exec (.read h a 0 0) s = .next t ∧ Answered h 0x01 stEmpty [] s t ∧ t.jr = s.jr) ∧
    (∀ i, hasRight s x.ident 0 = true → admitted s 21 < cfgW s Addr.SCHED_CLASS_SEL 21 Addr.SCHED_CLASS_CFG 30 20 →
      ∃ t body, exec (.logRead h i 0 0) s = .next t ∧ Answered h 0x38 stEmpty body s t ∧ t.jr = s.jr)

/-- Output balls at rest (23_pins R521, R522; 01_architecture R40; 22_power R516): in a device reset PERMIT_DYN is not
driven, every TX trigger is held by its pull-down, the witness line is silent and PWR_EN is high; in standby every
ball outside domain 0 is unpowered and PWR_EN is low; in service PERMIT_DYN shows what the SAFE bay drives while its
domain is on. -/
def Obligations.OutputBallsRest : Prop :=
  ∀ s : State,
    (s.pcr.phase = .held → pinLevel .permitDyn s = some .z ∧ pinLevel .witTx s = some .low ∧ pinLevel .pwrEn s = some .high ∧
      ∀ k, pinLevel (.txtrig k) s = some .pullDown20) ∧
    (s.pcr.phase = .standby → pinLevel .pwrEn s = some .low ∧ ∀ q : OutPin, q.domain ≠ 0 → pinLevel q s = some q.unpowered) ∧
    (s.pcr.phase = .up → s.pcr.domOn.testBit 1 = true →
      pinLevel .permitDyn s = some (if s.safe.dynPin then .high else .low)) ∧
    (∀ k, s.part = .szn1280 → 2 ≤ k → s.pcr.phase ≠ .standby → pinLevel (.txtrig k) s = some .pullDown20)
end

