-- ==== Sys2Proof/Laws/Bits.lean ====
section
/-!
SUPPORT. Bits of numbers: what setting and clearing one bit is read as.
-/

set_option Elab.async false

namespace Sys2Proof.Machine

/-- One bit of a number whose bit is set, taken away. -/
theorem testBit_sub_two_pow {n i m : Nat} (hi : n.testBit i = true) : (n - 2 ^ i).testBit m = (n.testBit m && decide (m ≠ i)) := by
  have hx : n - 2 ^ i = n ^^^ 2 ^ i := by
    have h1 : (n ^^^ 2 ^ i).testBit i = false := by simp [Nat.testBit_xor, hi]
    have h2 : n = (n ^^^ 2 ^ i) + 2 ^ i := by
      have h3 : (n ^^^ 2 ^ i) ||| 2 ^ i = n := by
        apply Nat.eq_of_testBit_eq; intro j
        simp only [Nat.testBit_or, Nat.testBit_xor, Nat.testBit_two_pow]
        by_cases hj : i = j
        · subst hj; simp [hi]
        · simp [hj]
      have h4 : ∀ a : Nat, a.testBit i = false → a ||| 2 ^ i = a + 2 ^ i := by
        intro a ha
        have := Nat.two_pow_add_eq_or_of_lt (i := i) (b := a % 2 ^ i) (Nat.mod_lt _ (Nat.two_pow_pos i)) (a / 2 ^ i)
        have e1 : a = 2 ^ i * (a / 2 ^ i) + a % 2 ^ i := (Nat.div_add_mod a (2 ^ i)).symm
        have he : (a / 2 ^ i) % 2 = 0 := by
          have := ha; rw [Nat.testBit_eq_decide_div_mod_eq] at this; simp at this; omega
        apply Nat.eq_of_testBit_eq; intro j
        have e2 : a + 2 ^ i = 2 ^ i * (a / 2 ^ i + 1) + a % 2 ^ i := by
          conv_lhs => rw [e1]
          ring
        rw [e2, Nat.testBit_or, Nat.testBit_two_pow, Nat.testBit_two_pow_mul_add _ (Nat.mod_lt _ (Nat.two_pow_pos i))]
        conv_lhs => rw [e1, Nat.testBit_two_pow_mul_add _ (Nat.mod_lt _ (Nat.two_pow_pos i))]
        by_cases hj : j < i
        · have : i ≠ j := by omega
          simp [hj, this]
        · simp only [hj, if_false]
          have hodd : ∀ q : Nat, q % 2 = 0 → ∀ k, (q + 1).testBit k = (q.testBit k || decide (k = 0)) := by
            intro q hq k
            cases k with
            | zero => simp [Nat.testBit_zero]; omega
            | succ k => simp [Nat.testBit_succ]; congr 1; omega
          rw [hodd _ he]
          congr 1
          by_cases hji : i = j
          · subst hji; simp
          · have : j - i ≠ 0 := by omega
            simp [hji, this]
      rw [← h4 _ h1, h3]
    omega
  rw [hx]
  simp only [Nat.testBit_xor, Nat.testBit_two_pow]
  by_cases h : i = m
  · subst h; simp [hi]
  · have : m ≠ i := fun e => h e.symm
    simp [h, this]

/-- A bit read after one bit is set or cleared. -/
theorem testBit_setBitN {n i m : Nat} {b : Bool} : (setBitN n i b).testBit m = if m = i then b else n.testBit m := by
  unfold setBitN
  cases b with
  | true =>
    simp only [if_true, Nat.testBit_or, Nat.testBit_two_pow]
    by_cases h : m = i
    · subst h; simp
    · have : i ≠ m := fun e => h e.symm
      simp [h, this]
  | false =>
    simp only [Bool.false_eq_true, if_false]
    split
    · rename_i h
      rw [testBit_sub_two_pow h]
      by_cases e : m = i <;> simp [e]
    · rename_i h
      by_cases e : m = i
      · subst e; simpa using h
      · simp [e]

/-- Clearing one bit sets none. -/
theorem setBitN_false_sub {n i m : Nat} (h : (setBitN n i false).testBit m = true) : n.testBit m = true := by
  rw [testBit_setBitN] at h
  split at h
  · cases h
  · exact h

/-- Clearing a bit of zero leaves zero. -/
theorem setBitN_zero (i : Nat) : setBitN 0 i false = 0 := by simp [setBitN]

end Sys2Proof.Machine
end

