-- ==== Sys2Proof/Laws/State.lean ====
section
/-!
SUPPORT. One lemma per field per update of State, each true by rfl, so that no proof unfolds an update.
-/

set_option Elab.async false

namespace Sys2Proof.Machine

open Sys2Proof

section UpdPart

variable (s : State) (f : Part → Part)

@[simp] theorem updPart_part : (s.updPart f).part = f s.part := rfl
@[simp] theorem updPart_time : (s.updPart f).time = s.time := rfl
@[simp] theorem updPart_jr : (s.updPart f).jr = s.jr := rfl
@[simp] theorem updPart_regs : (s.updPart f).regs = s.regs := rfl
@[simp] theorem updPart_gmp : (s.updPart f).gmp = s.gmp := rfl
@[simp] theorem updPart_safe : (s.updPart f).safe = s.safe := rfl
@[simp] theorem updPart_fix : (s.updPart f).fix = s.fix := rfl
@[simp] theorem updPart_scr : (s.updPart f).scr = s.scr := rfl
@[simp] theorem updPart_memb : (s.updPart f).memb = s.memb := rfl
@[simp] theorem updPart_sched : (s.updPart f).sched = s.sched := rfl
@[simp] theorem updPart_loop : (s.updPart f).loop = s.loop := rfl
@[simp] theorem updPart_pair : (s.updPart f).pair = s.pair := rfl
@[simp] theorem updPart_evr : (s.updPart f).evr = s.evr := rfl
@[simp] theorem updPart_key : (s.updPart f).key = s.key := rfl
@[simp] theorem updPart_pcr : (s.updPart f).pcr = s.pcr := rfl
@[simp] theorem updPart_nvm : (s.updPart f).nvm = s.nvm := rfl
@[simp] theorem updPart_upd : (s.updPart f).upd = s.upd := rfl
@[simp] theorem updPart_mem : (s.updPart f).mem = s.mem := rfl
@[simp] theorem updPart_hod : (s.updPart f).hod = s.hod := rfl
@[simp] theorem updPart_snag : (s.updPart f).snag = s.snag := rfl
@[simp] theorem updPart_mac : (s.updPart f).mac = s.mac := rfl
@[simp] theorem updPart_lkp : (s.updPart f).lkp = s.lkp := rfl
@[simp] theorem updPart_out : (s.updPart f).out = s.out := rfl
@[simp] theorem updPart_free : (s.updPart f).free = s.free := rfl
@[simp] theorem updPart_pending : (s.updPart f).pending = s.pending := rfl

end UpdPart

section UpdTime

variable (s : State) (f : TimeS → TimeS)

@[simp] theorem updTime_part : (s.updTime f).part = s.part := rfl
@[simp] theorem updTime_time : (s.updTime f).time = f s.time := rfl
@[simp] theorem updTime_jr : (s.updTime f).jr = s.jr := rfl
@[simp] theorem updTime_regs : (s.updTime f).regs = s.regs := rfl
@[simp] theorem updTime_gmp : (s.updTime f).gmp = s.gmp := rfl
@[simp] theorem updTime_safe : (s.updTime f).safe = s.safe := rfl
@[simp] theorem updTime_fix : (s.updTime f).fix = s.fix := rfl
@[simp] theorem updTime_scr : (s.updTime f).scr = s.scr := rfl
@[simp] theorem updTime_memb : (s.updTime f).memb = s.memb := rfl
@[simp] theorem updTime_sched : (s.updTime f).sched = s.sched := rfl
@[simp] theorem updTime_loop : (s.updTime f).loop = s.loop := rfl
@[simp] theorem updTime_pair : (s.updTime f).pair = s.pair := rfl
@[simp] theorem updTime_evr : (s.updTime f).evr = s.evr := rfl
@[simp] theorem updTime_key : (s.updTime f).key = s.key := rfl
@[simp] theorem updTime_pcr : (s.updTime f).pcr = s.pcr := rfl
@[simp] theorem updTime_nvm : (s.updTime f).nvm = s.nvm := rfl
@[simp] theorem updTime_upd : (s.updTime f).upd = s.upd := rfl
@[simp] theorem updTime_mem : (s.updTime f).mem = s.mem := rfl
@[simp] theorem updTime_hod : (s.updTime f).hod = s.hod := rfl
@[simp] theorem updTime_snag : (s.updTime f).snag = s.snag := rfl
@[simp] theorem updTime_mac : (s.updTime f).mac = s.mac := rfl
@[simp] theorem updTime_lkp : (s.updTime f).lkp = s.lkp := rfl
@[simp] theorem updTime_out : (s.updTime f).out = s.out := rfl
@[simp] theorem updTime_free : (s.updTime f).free = s.free := rfl
@[simp] theorem updTime_pending : (s.updTime f).pending = s.pending := rfl

end UpdTime

section UpdJr

variable (s : State) (f : JrnlS → JrnlS)

@[simp] theorem updJr_part : (s.updJr f).part = s.part := rfl
@[simp] theorem updJr_time : (s.updJr f).time = s.time := rfl
@[simp] theorem updJr_jr : (s.updJr f).jr = f s.jr := rfl
@[simp] theorem updJr_regs : (s.updJr f).regs = s.regs := rfl
@[simp] theorem updJr_gmp : (s.updJr f).gmp = s.gmp := rfl
@[simp] theorem updJr_safe : (s.updJr f).safe = s.safe := rfl
@[simp] theorem updJr_fix : (s.updJr f).fix = s.fix := rfl
@[simp] theorem updJr_scr : (s.updJr f).scr = s.scr := rfl
@[simp] theorem updJr_memb : (s.updJr f).memb = s.memb := rfl
@[simp] theorem updJr_sched : (s.updJr f).sched = s.sched := rfl
@[simp] theorem updJr_loop : (s.updJr f).loop = s.loop := rfl
@[simp] theorem updJr_pair : (s.updJr f).pair = s.pair := rfl
@[simp] theorem updJr_evr : (s.updJr f).evr = s.evr := rfl
@[simp] theorem updJr_key : (s.updJr f).key = s.key := rfl
@[simp] theorem updJr_pcr : (s.updJr f).pcr = s.pcr := rfl
@[simp] theorem updJr_nvm : (s.updJr f).nvm = s.nvm := rfl
@[simp] theorem updJr_upd : (s.updJr f).upd = s.upd := rfl
@[simp] theorem updJr_mem : (s.updJr f).mem = s.mem := rfl
@[simp] theorem updJr_hod : (s.updJr f).hod = s.hod := rfl
@[simp] theorem updJr_snag : (s.updJr f).snag = s.snag := rfl
@[simp] theorem updJr_mac : (s.updJr f).mac = s.mac := rfl
@[simp] theorem updJr_lkp : (s.updJr f).lkp = s.lkp := rfl
@[simp] theorem updJr_out : (s.updJr f).out = s.out := rfl
@[simp] theorem updJr_free : (s.updJr f).free = s.free := rfl
@[simp] theorem updJr_pending : (s.updJr f).pending = s.pending := rfl

end UpdJr

section UpdRegs

variable (s : State) (f : RegS → RegS)

@[simp] theorem updRegs_part : (s.updRegs f).part = s.part := rfl
@[simp] theorem updRegs_time : (s.updRegs f).time = s.time := rfl
@[simp] theorem updRegs_jr : (s.updRegs f).jr = s.jr := rfl
@[simp] theorem updRegs_regs : (s.updRegs f).regs = f s.regs := rfl
@[simp] theorem updRegs_gmp : (s.updRegs f).gmp = s.gmp := rfl
@[simp] theorem updRegs_safe : (s.updRegs f).safe = s.safe := rfl
@[simp] theorem updRegs_fix : (s.updRegs f).fix = s.fix := rfl
@[simp] theorem updRegs_scr : (s.updRegs f).scr = s.scr := rfl
@[simp] theorem updRegs_memb : (s.updRegs f).memb = s.memb := rfl
@[simp] theorem updRegs_sched : (s.updRegs f).sched = s.sched := rfl
@[simp] theorem updRegs_loop : (s.updRegs f).loop = s.loop := rfl
@[simp] theorem updRegs_pair : (s.updRegs f).pair = s.pair := rfl
@[simp] theorem updRegs_evr : (s.updRegs f).evr = s.evr := rfl
@[simp] theorem updRegs_key : (s.updRegs f).key = s.key := rfl
@[simp] theorem updRegs_pcr : (s.updRegs f).pcr = s.pcr := rfl
@[simp] theorem updRegs_nvm : (s.updRegs f).nvm = s.nvm := rfl
@[simp] theorem updRegs_upd : (s.updRegs f).upd = s.upd := rfl
@[simp] theorem updRegs_mem : (s.updRegs f).mem = s.mem := rfl
@[simp] theorem updRegs_hod : (s.updRegs f).hod = s.hod := rfl
@[simp] theorem updRegs_snag : (s.updRegs f).snag = s.snag := rfl
@[simp] theorem updRegs_mac : (s.updRegs f).mac = s.mac := rfl
@[simp] theorem updRegs_lkp : (s.updRegs f).lkp = s.lkp := rfl
@[simp] theorem updRegs_out : (s.updRegs f).out = s.out := rfl
@[simp] theorem updRegs_free : (s.updRegs f).free = s.free := rfl
@[simp] theorem updRegs_pending : (s.updRegs f).pending = s.pending := rfl

end UpdRegs

section UpdGmp

variable (s : State) (f : GmpS → GmpS)

@[simp] theorem updGmp_part : (s.updGmp f).part = s.part := rfl
@[simp] theorem updGmp_time : (s.updGmp f).time = s.time := rfl
@[simp] theorem updGmp_jr : (s.updGmp f).jr = s.jr := rfl
@[simp] theorem updGmp_regs : (s.updGmp f).regs = s.regs := rfl
@[simp] theorem updGmp_gmp : (s.updGmp f).gmp = f s.gmp := rfl
@[simp] theorem updGmp_safe : (s.updGmp f).safe = s.safe := rfl
@[simp] theorem updGmp_fix : (s.updGmp f).fix = s.fix := rfl
@[simp] theorem updGmp_scr : (s.updGmp f).scr = s.scr := rfl
@[simp] theorem updGmp_memb : (s.updGmp f).memb = s.memb := rfl
@[simp] theorem updGmp_sched : (s.updGmp f).sched = s.sched := rfl
@[simp] theorem updGmp_loop : (s.updGmp f).loop = s.loop := rfl
@[simp] theorem updGmp_pair : (s.updGmp f).pair = s.pair := rfl
@[simp] theorem updGmp_evr : (s.updGmp f).evr = s.evr := rfl
@[simp] theorem updGmp_key : (s.updGmp f).key = s.key := rfl
@[simp] theorem updGmp_pcr : (s.updGmp f).pcr = s.pcr := rfl
@[simp] theorem updGmp_nvm : (s.updGmp f).nvm = s.nvm := rfl
@[simp] theorem updGmp_upd : (s.updGmp f).upd = s.upd := rfl
@[simp] theorem updGmp_mem : (s.updGmp f).mem = s.mem := rfl
@[simp] theorem updGmp_hod : (s.updGmp f).hod = s.hod := rfl
@[simp] theorem updGmp_snag : (s.updGmp f).snag = s.snag := rfl
@[simp] theorem updGmp_mac : (s.updGmp f).mac = s.mac := rfl
@[simp] theorem updGmp_lkp : (s.updGmp f).lkp = s.lkp := rfl
@[simp] theorem updGmp_out : (s.updGmp f).out = s.out := rfl
@[simp] theorem updGmp_free : (s.updGmp f).free = s.free := rfl
@[simp] theorem updGmp_pending : (s.updGmp f).pending = s.pending := rfl

end UpdGmp

section UpdSafe

variable (s : State) (f : SafeS → SafeS)

@[simp] theorem updSafe_part : (s.updSafe f).part = s.part := rfl
@[simp] theorem updSafe_time : (s.updSafe f).time = s.time := rfl
@[simp] theorem updSafe_jr : (s.updSafe f).jr = s.jr := rfl
@[simp] theorem updSafe_regs : (s.updSafe f).regs = s.regs := rfl
@[simp] theorem updSafe_gmp : (s.updSafe f).gmp = s.gmp := rfl
@[simp] theorem updSafe_safe : (s.updSafe f).safe = f s.safe := rfl
@[simp] theorem updSafe_fix : (s.updSafe f).fix = s.fix := rfl
@[simp] theorem updSafe_scr : (s.updSafe f).scr = s.scr := rfl
@[simp] theorem updSafe_memb : (s.updSafe f).memb = s.memb := rfl
@[simp] theorem updSafe_sched : (s.updSafe f).sched = s.sched := rfl
@[simp] theorem updSafe_loop : (s.updSafe f).loop = s.loop := rfl
@[simp] theorem updSafe_pair : (s.updSafe f).pair = s.pair := rfl
@[simp] theorem updSafe_evr : (s.updSafe f).evr = s.evr := rfl
@[simp] theorem updSafe_key : (s.updSafe f).key = s.key := rfl
@[simp] theorem updSafe_pcr : (s.updSafe f).pcr = s.pcr := rfl
@[simp] theorem updSafe_nvm : (s.updSafe f).nvm = s.nvm := rfl
@[simp] theorem updSafe_upd : (s.updSafe f).upd = s.upd := rfl
@[simp] theorem updSafe_mem : (s.updSafe f).mem = s.mem := rfl
@[simp] theorem updSafe_hod : (s.updSafe f).hod = s.hod := rfl
@[simp] theorem updSafe_snag : (s.updSafe f).snag = s.snag := rfl
@[simp] theorem updSafe_mac : (s.updSafe f).mac = s.mac := rfl
@[simp] theorem updSafe_lkp : (s.updSafe f).lkp = s.lkp := rfl
@[simp] theorem updSafe_out : (s.updSafe f).out = s.out := rfl
@[simp] theorem updSafe_free : (s.updSafe f).free = s.free := rfl
@[simp] theorem updSafe_pending : (s.updSafe f).pending = s.pending := rfl

end UpdSafe

section UpdFix

variable (s : State) (f : FixS → FixS)

@[simp] theorem updFix_part : (s.updFix f).part = s.part := rfl
@[simp] theorem updFix_time : (s.updFix f).time = s.time := rfl
@[simp] theorem updFix_jr : (s.updFix f).jr = s.jr := rfl
@[simp] theorem updFix_regs : (s.updFix f).regs = s.regs := rfl
@[simp] theorem updFix_gmp : (s.updFix f).gmp = s.gmp := rfl
@[simp] theorem updFix_safe : (s.updFix f).safe = s.safe := rfl
@[simp] theorem updFix_fix : (s.updFix f).fix = f s.fix := rfl
@[simp] theorem updFix_scr : (s.updFix f).scr = s.scr := rfl
@[simp] theorem updFix_memb : (s.updFix f).memb = s.memb := rfl
@[simp] theorem updFix_sched : (s.updFix f).sched = s.sched := rfl
@[simp] theorem updFix_loop : (s.updFix f).loop = s.loop := rfl
@[simp] theorem updFix_pair : (s.updFix f).pair = s.pair := rfl
@[simp] theorem updFix_evr : (s.updFix f).evr = s.evr := rfl
@[simp] theorem updFix_key : (s.updFix f).key = s.key := rfl
@[simp] theorem updFix_pcr : (s.updFix f).pcr = s.pcr := rfl
@[simp] theorem updFix_nvm : (s.updFix f).nvm = s.nvm := rfl
@[simp] theorem updFix_upd : (s.updFix f).upd = s.upd := rfl
@[simp] theorem updFix_mem : (s.updFix f).mem = s.mem := rfl
@[simp] theorem updFix_hod : (s.updFix f).hod = s.hod := rfl
@[simp] theorem updFix_snag : (s.updFix f).snag = s.snag := rfl
@[simp] theorem updFix_mac : (s.updFix f).mac = s.mac := rfl
@[simp] theorem updFix_lkp : (s.updFix f).lkp = s.lkp := rfl
@[simp] theorem updFix_out : (s.updFix f).out = s.out := rfl
@[simp] theorem updFix_free : (s.updFix f).free = s.free := rfl
@[simp] theorem updFix_pending : (s.updFix f).pending = s.pending := rfl

end UpdFix

section UpdScr

variable (s : State) (f : ScrS → ScrS)

@[simp] theorem updScr_part : (s.updScr f).part = s.part := rfl
@[simp] theorem updScr_time : (s.updScr f).time = s.time := rfl
@[simp] theorem updScr_jr : (s.updScr f).jr = s.jr := rfl
@[simp] theorem updScr_regs : (s.updScr f).regs = s.regs := rfl
@[simp] theorem updScr_gmp : (s.updScr f).gmp = s.gmp := rfl
@[simp] theorem updScr_safe : (s.updScr f).safe = s.safe := rfl
@[simp] theorem updScr_fix : (s.updScr f).fix = s.fix := rfl
@[simp] theorem updScr_scr : (s.updScr f).scr = f s.scr := rfl
@[simp] theorem updScr_memb : (s.updScr f).memb = s.memb := rfl
@[simp] theorem updScr_sched : (s.updScr f).sched = s.sched := rfl
@[simp] theorem updScr_loop : (s.updScr f).loop = s.loop := rfl
@[simp] theorem updScr_pair : (s.updScr f).pair = s.pair := rfl
@[simp] theorem updScr_evr : (s.updScr f).evr = s.evr := rfl
@[simp] theorem updScr_key : (s.updScr f).key = s.key := rfl
@[simp] theorem updScr_pcr : (s.updScr f).pcr = s.pcr := rfl
@[simp] theorem updScr_nvm : (s.updScr f).nvm = s.nvm := rfl
@[simp] theorem updScr_upd : (s.updScr f).upd = s.upd := rfl
@[simp] theorem updScr_mem : (s.updScr f).mem = s.mem := rfl
@[simp] theorem updScr_hod : (s.updScr f).hod = s.hod := rfl
@[simp] theorem updScr_snag : (s.updScr f).snag = s.snag := rfl
@[simp] theorem updScr_mac : (s.updScr f).mac = s.mac := rfl
@[simp] theorem updScr_lkp : (s.updScr f).lkp = s.lkp := rfl
@[simp] theorem updScr_out : (s.updScr f).out = s.out := rfl
@[simp] theorem updScr_free : (s.updScr f).free = s.free := rfl
@[simp] theorem updScr_pending : (s.updScr f).pending = s.pending := rfl

end UpdScr

section UpdMemb

variable (s : State) (f : MembS → MembS)

@[simp] theorem updMemb_part : (s.updMemb f).part = s.part := rfl
@[simp] theorem updMemb_time : (s.updMemb f).time = s.time := rfl
@[simp] theorem updMemb_jr : (s.updMemb f).jr = s.jr := rfl
@[simp] theorem updMemb_regs : (s.updMemb f).regs = s.regs := rfl
@[simp] theorem updMemb_gmp : (s.updMemb f).gmp = s.gmp := rfl
@[simp] theorem updMemb_safe : (s.updMemb f).safe = s.safe := rfl
@[simp] theorem updMemb_fix : (s.updMemb f).fix = s.fix := rfl
@[simp] theorem updMemb_scr : (s.updMemb f).scr = s.scr := rfl
@[simp] theorem updMemb_memb : (s.updMemb f).memb = f s.memb := rfl
@[simp] theorem updMemb_sched : (s.updMemb f).sched = s.sched := rfl
@[simp] theorem updMemb_loop : (s.updMemb f).loop = s.loop := rfl
@[simp] theorem updMemb_pair : (s.updMemb f).pair = s.pair := rfl
@[simp] theorem updMemb_evr : (s.updMemb f).evr = s.evr := rfl
@[simp] theorem updMemb_key : (s.updMemb f).key = s.key := rfl
@[simp] theorem updMemb_pcr : (s.updMemb f).pcr = s.pcr := rfl
@[simp] theorem updMemb_nvm : (s.updMemb f).nvm = s.nvm := rfl
@[simp] theorem updMemb_upd : (s.updMemb f).upd = s.upd := rfl
@[simp] theorem updMemb_mem : (s.updMemb f).mem = s.mem := rfl
@[simp] theorem updMemb_hod : (s.updMemb f).hod = s.hod := rfl
@[simp] theorem updMemb_snag : (s.updMemb f).snag = s.snag := rfl
@[simp] theorem updMemb_mac : (s.updMemb f).mac = s.mac := rfl
@[simp] theorem updMemb_lkp : (s.updMemb f).lkp = s.lkp := rfl
@[simp] theorem updMemb_out : (s.updMemb f).out = s.out := rfl
@[simp] theorem updMemb_free : (s.updMemb f).free = s.free := rfl
@[simp] theorem updMemb_pending : (s.updMemb f).pending = s.pending := rfl

end UpdMemb

section UpdSched

variable (s : State) (f : SchedS → SchedS)

@[simp] theorem updSched_part : (s.updSched f).part = s.part := rfl
@[simp] theorem updSched_time : (s.updSched f).time = s.time := rfl
@[simp] theorem updSched_jr : (s.updSched f).jr = s.jr := rfl
@[simp] theorem updSched_regs : (s.updSched f).regs = s.regs := rfl
@[simp] theorem updSched_gmp : (s.updSched f).gmp = s.gmp := rfl
@[simp] theorem updSched_safe : (s.updSched f).safe = s.safe := rfl
@[simp] theorem updSched_fix : (s.updSched f).fix = s.fix := rfl
@[simp] theorem updSched_scr : (s.updSched f).scr = s.scr := rfl
@[simp] theorem updSched_memb : (s.updSched f).memb = s.memb := rfl
@[simp] theorem updSched_sched : (s.updSched f).sched = f s.sched := rfl
@[simp] theorem updSched_loop : (s.updSched f).loop = s.loop := rfl
@[simp] theorem updSched_pair : (s.updSched f).pair = s.pair := rfl
@[simp] theorem updSched_evr : (s.updSched f).evr = s.evr := rfl
@[simp] theorem updSched_key : (s.updSched f).key = s.key := rfl
@[simp] theorem updSched_pcr : (s.updSched f).pcr = s.pcr := rfl
@[simp] theorem updSched_nvm : (s.updSched f).nvm = s.nvm := rfl
@[simp] theorem updSched_upd : (s.updSched f).upd = s.upd := rfl
@[simp] theorem updSched_mem : (s.updSched f).mem = s.mem := rfl
@[simp] theorem updSched_hod : (s.updSched f).hod = s.hod := rfl
@[simp] theorem updSched_snag : (s.updSched f).snag = s.snag := rfl
@[simp] theorem updSched_mac : (s.updSched f).mac = s.mac := rfl
@[simp] theorem updSched_lkp : (s.updSched f).lkp = s.lkp := rfl
@[simp] theorem updSched_out : (s.updSched f).out = s.out := rfl
@[simp] theorem updSched_free : (s.updSched f).free = s.free := rfl
@[simp] theorem updSched_pending : (s.updSched f).pending = s.pending := rfl

end UpdSched

section UpdLoop

variable (s : State) (f : LoopS → LoopS)

@[simp] theorem updLoop_part : (s.updLoop f).part = s.part := rfl
@[simp] theorem updLoop_time : (s.updLoop f).time = s.time := rfl
@[simp] theorem updLoop_jr : (s.updLoop f).jr = s.jr := rfl
@[simp] theorem updLoop_regs : (s.updLoop f).regs = s.regs := rfl
@[simp] theorem updLoop_gmp : (s.updLoop f).gmp = s.gmp := rfl
@[simp] theorem updLoop_safe : (s.updLoop f).safe = s.safe := rfl
@[simp] theorem updLoop_fix : (s.updLoop f).fix = s.fix := rfl
@[simp] theorem updLoop_scr : (s.updLoop f).scr = s.scr := rfl
@[simp] theorem updLoop_memb : (s.updLoop f).memb = s.memb := rfl
@[simp] theorem updLoop_sched : (s.updLoop f).sched = s.sched := rfl
@[simp] theorem updLoop_loop : (s.updLoop f).loop = f s.loop := rfl
@[simp] theorem updLoop_pair : (s.updLoop f).pair = s.pair := rfl
@[simp] theorem updLoop_evr : (s.updLoop f).evr = s.evr := rfl
@[simp] theorem updLoop_key : (s.updLoop f).key = s.key := rfl
@[simp] theorem updLoop_pcr : (s.updLoop f).pcr = s.pcr := rfl
@[simp] theorem updLoop_nvm : (s.updLoop f).nvm = s.nvm := rfl
@[simp] theorem updLoop_upd : (s.updLoop f).upd = s.upd := rfl
@[simp] theorem updLoop_mem : (s.updLoop f).mem = s.mem := rfl
@[simp] theorem updLoop_hod : (s.updLoop f).hod = s.hod := rfl
@[simp] theorem updLoop_snag : (s.updLoop f).snag = s.snag := rfl
@[simp] theorem updLoop_mac : (s.updLoop f).mac = s.mac := rfl
@[simp] theorem updLoop_lkp : (s.updLoop f).lkp = s.lkp := rfl
@[simp] theorem updLoop_out : (s.updLoop f).out = s.out := rfl
@[simp] theorem updLoop_free : (s.updLoop f).free = s.free := rfl
@[simp] theorem updLoop_pending : (s.updLoop f).pending = s.pending := rfl

end UpdLoop

section UpdPair

variable (s : State) (f : PairS → PairS)

@[simp] theorem updPair_part : (s.updPair f).part = s.part := rfl
@[simp] theorem updPair_time : (s.updPair f).time = s.time := rfl
@[simp] theorem updPair_jr : (s.updPair f).jr = s.jr := rfl
@[simp] theorem updPair_regs : (s.updPair f).regs = s.regs := rfl
@[simp] theorem updPair_gmp : (s.updPair f).gmp = s.gmp := rfl
@[simp] theorem updPair_safe : (s.updPair f).safe = s.safe := rfl
@[simp] theorem updPair_fix : (s.updPair f).fix = s.fix := rfl
@[simp] theorem updPair_scr : (s.updPair f).scr = s.scr := rfl
@[simp] theorem updPair_memb : (s.updPair f).memb = s.memb := rfl
@[simp] theorem updPair_sched : (s.updPair f).sched = s.sched := rfl
@[simp] theorem updPair_loop : (s.updPair f).loop = s.loop := rfl
@[simp] theorem updPair_pair : (s.updPair f).pair = f s.pair := rfl
@[simp] theorem updPair_evr : (s.updPair f).evr = s.evr := rfl
@[simp] theorem updPair_key : (s.updPair f).key = s.key := rfl
@[simp] theorem updPair_pcr : (s.updPair f).pcr = s.pcr := rfl
@[simp] theorem updPair_nvm : (s.updPair f).nvm = s.nvm := rfl
@[simp] theorem updPair_upd : (s.updPair f).upd = s.upd := rfl
@[simp] theorem updPair_mem : (s.updPair f).mem = s.mem := rfl
@[simp] theorem updPair_hod : (s.updPair f).hod = s.hod := rfl
@[simp] theorem updPair_snag : (s.updPair f).snag = s.snag := rfl
@[simp] theorem updPair_mac : (s.updPair f).mac = s.mac := rfl
@[simp] theorem updPair_lkp : (s.updPair f).lkp = s.lkp := rfl
@[simp] theorem updPair_out : (s.updPair f).out = s.out := rfl
@[simp] theorem updPair_free : (s.updPair f).free = s.free := rfl
@[simp] theorem updPair_pending : (s.updPair f).pending = s.pending := rfl

end UpdPair

section UpdEvr

variable (s : State) (f : EvrS → EvrS)

@[simp] theorem updEvr_part : (s.updEvr f).part = s.part := rfl
@[simp] theorem updEvr_time : (s.updEvr f).time = s.time := rfl
@[simp] theorem updEvr_jr : (s.updEvr f).jr = s.jr := rfl
@[simp] theorem updEvr_regs : (s.updEvr f).regs = s.regs := rfl
@[simp] theorem updEvr_gmp : (s.updEvr f).gmp = s.gmp := rfl
@[simp] theorem updEvr_safe : (s.updEvr f).safe = s.safe := rfl
@[simp] theorem updEvr_fix : (s.updEvr f).fix = s.fix := rfl
@[simp] theorem updEvr_scr : (s.updEvr f).scr = s.scr := rfl
@[simp] theorem updEvr_memb : (s.updEvr f).memb = s.memb := rfl
@[simp] theorem updEvr_sched : (s.updEvr f).sched = s.sched := rfl
@[simp] theorem updEvr_loop : (s.updEvr f).loop = s.loop := rfl
@[simp] theorem updEvr_pair : (s.updEvr f).pair = s.pair := rfl
@[simp] theorem updEvr_evr : (s.updEvr f).evr = f s.evr := rfl
@[simp] theorem updEvr_key : (s.updEvr f).key = s.key := rfl
@[simp] theorem updEvr_pcr : (s.updEvr f).pcr = s.pcr := rfl
@[simp] theorem updEvr_nvm : (s.updEvr f).nvm = s.nvm := rfl
@[simp] theorem updEvr_upd : (s.updEvr f).upd = s.upd := rfl
@[simp] theorem updEvr_mem : (s.updEvr f).mem = s.mem := rfl
@[simp] theorem updEvr_hod : (s.updEvr f).hod = s.hod := rfl
@[simp] theorem updEvr_snag : (s.updEvr f).snag = s.snag := rfl
@[simp] theorem updEvr_mac : (s.updEvr f).mac = s.mac := rfl
@[simp] theorem updEvr_lkp : (s.updEvr f).lkp = s.lkp := rfl
@[simp] theorem updEvr_out : (s.updEvr f).out = s.out := rfl
@[simp] theorem updEvr_free : (s.updEvr f).free = s.free := rfl
@[simp] theorem updEvr_pending : (s.updEvr f).pending = s.pending := rfl

end UpdEvr

section UpdKey

variable (s : State) (f : KeyS → KeyS)

@[simp] theorem updKey_part : (s.updKey f).part = s.part := rfl
@[simp] theorem updKey_time : (s.updKey f).time = s.time := rfl
@[simp] theorem updKey_jr : (s.updKey f).jr = s.jr := rfl
@[simp] theorem updKey_regs : (s.updKey f).regs = s.regs := rfl
@[simp] theorem updKey_gmp : (s.updKey f).gmp = s.gmp := rfl
@[simp] theorem updKey_safe : (s.updKey f).safe = s.safe := rfl
@[simp] theorem updKey_fix : (s.updKey f).fix = s.fix := rfl
@[simp] theorem updKey_scr : (s.updKey f).scr = s.scr := rfl
@[simp] theorem updKey_memb : (s.updKey f).memb = s.memb := rfl
@[simp] theorem updKey_sched : (s.updKey f).sched = s.sched := rfl
@[simp] theorem updKey_loop : (s.updKey f).loop = s.loop := rfl
@[simp] theorem updKey_pair : (s.updKey f).pair = s.pair := rfl
@[simp] theorem updKey_evr : (s.updKey f).evr = s.evr := rfl
@[simp] theorem updKey_key : (s.updKey f).key = f s.key := rfl
@[simp] theorem updKey_pcr : (s.updKey f).pcr = s.pcr := rfl
@[simp] theorem updKey_nvm : (s.updKey f).nvm = s.nvm := rfl
@[simp] theorem updKey_upd : (s.updKey f).upd = s.upd := rfl
@[simp] theorem updKey_mem : (s.updKey f).mem = s.mem := rfl
@[simp] theorem updKey_hod : (s.updKey f).hod = s.hod := rfl
@[simp] theorem updKey_snag : (s.updKey f).snag = s.snag := rfl
@[simp] theorem updKey_mac : (s.updKey f).mac = s.mac := rfl
@[simp] theorem updKey_lkp : (s.updKey f).lkp = s.lkp := rfl
@[simp] theorem updKey_out : (s.updKey f).out = s.out := rfl
@[simp] theorem updKey_free : (s.updKey f).free = s.free := rfl
@[simp] theorem updKey_pending : (s.updKey f).pending = s.pending := rfl

end UpdKey

section UpdPcr

variable (s : State) (f : PcrS → PcrS)

@[simp] theorem updPcr_part : (s.updPcr f).part = s.part := rfl
@[simp] theorem updPcr_time : (s.updPcr f).time = s.time := rfl
@[simp] theorem updPcr_jr : (s.updPcr f).jr = s.jr := rfl
@[simp] theorem updPcr_regs : (s.updPcr f).regs = s.regs := rfl
@[simp] theorem updPcr_gmp : (s.updPcr f).gmp = s.gmp := rfl
@[simp] theorem updPcr_safe : (s.updPcr f).safe = s.safe := rfl
@[simp] theorem updPcr_fix : (s.updPcr f).fix = s.fix := rfl
@[simp] theorem updPcr_scr : (s.updPcr f).scr = s.scr := rfl
@[simp] theorem updPcr_memb : (s.updPcr f).memb = s.memb := rfl
@[simp] theorem updPcr_sched : (s.updPcr f).sched = s.sched := rfl
@[simp] theorem updPcr_loop : (s.updPcr f).loop = s.loop := rfl
@[simp] theorem updPcr_pair : (s.updPcr f).pair = s.pair := rfl
@[simp] theorem updPcr_evr : (s.updPcr f).evr = s.evr := rfl
@[simp] theorem updPcr_key : (s.updPcr f).key = s.key := rfl
@[simp] theorem updPcr_pcr : (s.updPcr f).pcr = f s.pcr := rfl
@[simp] theorem updPcr_nvm : (s.updPcr f).nvm = s.nvm := rfl
@[simp] theorem updPcr_upd : (s.updPcr f).upd = s.upd := rfl
@[simp] theorem updPcr_mem : (s.updPcr f).mem = s.mem := rfl
@[simp] theorem updPcr_hod : (s.updPcr f).hod = s.hod := rfl
@[simp] theorem updPcr_snag : (s.updPcr f).snag = s.snag := rfl
@[simp] theorem updPcr_mac : (s.updPcr f).mac = s.mac := rfl
@[simp] theorem updPcr_lkp : (s.updPcr f).lkp = s.lkp := rfl
@[simp] theorem updPcr_out : (s.updPcr f).out = s.out := rfl
@[simp] theorem updPcr_free : (s.updPcr f).free = s.free := rfl
@[simp] theorem updPcr_pending : (s.updPcr f).pending = s.pending := rfl

end UpdPcr

section UpdNvm

variable (s : State) (f : NvmS → NvmS)

@[simp] theorem updNvm_part : (s.updNvm f).part = s.part := rfl
@[simp] theorem updNvm_time : (s.updNvm f).time = s.time := rfl
@[simp] theorem updNvm_jr : (s.updNvm f).jr = s.jr := rfl
@[simp] theorem updNvm_regs : (s.updNvm f).regs = s.regs := rfl
@[simp] theorem updNvm_gmp : (s.updNvm f).gmp = s.gmp := rfl
@[simp] theorem updNvm_safe : (s.updNvm f).safe = s.safe := rfl
@[simp] theorem updNvm_fix : (s.updNvm f).fix = s.fix := rfl
@[simp] theorem updNvm_scr : (s.updNvm f).scr = s.scr := rfl
@[simp] theorem updNvm_memb : (s.updNvm f).memb = s.memb := rfl
@[simp] theorem updNvm_sched : (s.updNvm f).sched = s.sched := rfl
@[simp] theorem updNvm_loop : (s.updNvm f).loop = s.loop := rfl
@[simp] theorem updNvm_pair : (s.updNvm f).pair = s.pair := rfl
@[simp] theorem updNvm_evr : (s.updNvm f).evr = s.evr := rfl
@[simp] theorem updNvm_key : (s.updNvm f).key = s.key := rfl
@[simp] theorem updNvm_pcr : (s.updNvm f).pcr = s.pcr := rfl
@[simp] theorem updNvm_nvm : (s.updNvm f).nvm = f s.nvm := rfl
@[simp] theorem updNvm_upd : (s.updNvm f).upd = s.upd := rfl
@[simp] theorem updNvm_mem : (s.updNvm f).mem = s.mem := rfl
@[simp] theorem updNvm_hod : (s.updNvm f).hod = s.hod := rfl
@[simp] theorem updNvm_snag : (s.updNvm f).snag = s.snag := rfl
@[simp] theorem updNvm_mac : (s.updNvm f).mac = s.mac := rfl
@[simp] theorem updNvm_lkp : (s.updNvm f).lkp = s.lkp := rfl
@[simp] theorem updNvm_out : (s.updNvm f).out = s.out := rfl
@[simp] theorem updNvm_free : (s.updNvm f).free = s.free := rfl
@[simp] theorem updNvm_pending : (s.updNvm f).pending = s.pending := rfl

end UpdNvm

section UpdUpd

variable (s : State) (f : UpdS → UpdS)

@[simp] theorem updUpd_part : (s.updUpd f).part = s.part := rfl
@[simp] theorem updUpd_time : (s.updUpd f).time = s.time := rfl
@[simp] theorem updUpd_jr : (s.updUpd f).jr = s.jr := rfl
@[simp] theorem updUpd_regs : (s.updUpd f).regs = s.regs := rfl
@[simp] theorem updUpd_gmp : (s.updUpd f).gmp = s.gmp := rfl
@[simp] theorem updUpd_safe : (s.updUpd f).safe = s.safe := rfl
@[simp] theorem updUpd_fix : (s.updUpd f).fix = s.fix := rfl
@[simp] theorem updUpd_scr : (s.updUpd f).scr = s.scr := rfl
@[simp] theorem updUpd_memb : (s.updUpd f).memb = s.memb := rfl
@[simp] theorem updUpd_sched : (s.updUpd f).sched = s.sched := rfl
@[simp] theorem updUpd_loop : (s.updUpd f).loop = s.loop := rfl
@[simp] theorem updUpd_pair : (s.updUpd f).pair = s.pair := rfl
@[simp] theorem updUpd_evr : (s.updUpd f).evr = s.evr := rfl
@[simp] theorem updUpd_key : (s.updUpd f).key = s.key := rfl
@[simp] theorem updUpd_pcr : (s.updUpd f).pcr = s.pcr := rfl
@[simp] theorem updUpd_nvm : (s.updUpd f).nvm = s.nvm := rfl
@[simp] theorem updUpd_upd : (s.updUpd f).upd = f s.upd := rfl
@[simp] theorem updUpd_mem : (s.updUpd f).mem = s.mem := rfl
@[simp] theorem updUpd_hod : (s.updUpd f).hod = s.hod := rfl
@[simp] theorem updUpd_snag : (s.updUpd f).snag = s.snag := rfl
@[simp] theorem updUpd_mac : (s.updUpd f).mac = s.mac := rfl
@[simp] theorem updUpd_lkp : (s.updUpd f).lkp = s.lkp := rfl
@[simp] theorem updUpd_out : (s.updUpd f).out = s.out := rfl
@[simp] theorem updUpd_free : (s.updUpd f).free = s.free := rfl
@[simp] theorem updUpd_pending : (s.updUpd f).pending = s.pending := rfl

end UpdUpd

section UpdMem

variable (s : State) (f : MemS → MemS)

@[simp] theorem updMem_part : (s.updMem f).part = s.part := rfl
@[simp] theorem updMem_time : (s.updMem f).time = s.time := rfl
@[simp] theorem updMem_jr : (s.updMem f).jr = s.jr := rfl
@[simp] theorem updMem_regs : (s.updMem f).regs = s.regs := rfl
@[simp] theorem updMem_gmp : (s.updMem f).gmp = s.gmp := rfl
@[simp] theorem updMem_safe : (s.updMem f).safe = s.safe := rfl
@[simp] theorem updMem_fix : (s.updMem f).fix = s.fix := rfl
@[simp] theorem updMem_scr : (s.updMem f).scr = s.scr := rfl
@[simp] theorem updMem_memb : (s.updMem f).memb = s.memb := rfl
@[simp] theorem updMem_sched : (s.updMem f).sched = s.sched := rfl
@[simp] theorem updMem_loop : (s.updMem f).loop = s.loop := rfl
@[simp] theorem updMem_pair : (s.updMem f).pair = s.pair := rfl
@[simp] theorem updMem_evr : (s.updMem f).evr = s.evr := rfl
@[simp] theorem updMem_key : (s.updMem f).key = s.key := rfl
@[simp] theorem updMem_pcr : (s.updMem f).pcr = s.pcr := rfl
@[simp] theorem updMem_nvm : (s.updMem f).nvm = s.nvm := rfl
@[simp] theorem updMem_upd : (s.updMem f).upd = s.upd := rfl
@[simp] theorem updMem_mem : (s.updMem f).mem = f s.mem := rfl
@[simp] theorem updMem_hod : (s.updMem f).hod = s.hod := rfl
@[simp] theorem updMem_snag : (s.updMem f).snag = s.snag := rfl
@[simp] theorem updMem_mac : (s.updMem f).mac = s.mac := rfl
@[simp] theorem updMem_lkp : (s.updMem f).lkp = s.lkp := rfl
@[simp] theorem updMem_out : (s.updMem f).out = s.out := rfl
@[simp] theorem updMem_free : (s.updMem f).free = s.free := rfl
@[simp] theorem updMem_pending : (s.updMem f).pending = s.pending := rfl

end UpdMem

section UpdHod

variable (s : State) (f : HodS → HodS)

@[simp] theorem updHod_part : (s.updHod f).part = s.part := rfl
@[simp] theorem updHod_time : (s.updHod f).time = s.time := rfl
@[simp] theorem updHod_jr : (s.updHod f).jr = s.jr := rfl
@[simp] theorem updHod_regs : (s.updHod f).regs = s.regs := rfl
@[simp] theorem updHod_gmp : (s.updHod f).gmp = s.gmp := rfl
@[simp] theorem updHod_safe : (s.updHod f).safe = s.safe := rfl
@[simp] theorem updHod_fix : (s.updHod f).fix = s.fix := rfl
@[simp] theorem updHod_scr : (s.updHod f).scr = s.scr := rfl
@[simp] theorem updHod_memb : (s.updHod f).memb = s.memb := rfl
@[simp] theorem updHod_sched : (s.updHod f).sched = s.sched := rfl
@[simp] theorem updHod_loop : (s.updHod f).loop = s.loop := rfl
@[simp] theorem updHod_pair : (s.updHod f).pair = s.pair := rfl
@[simp] theorem updHod_evr : (s.updHod f).evr = s.evr := rfl
@[simp] theorem updHod_key : (s.updHod f).key = s.key := rfl
@[simp] theorem updHod_pcr : (s.updHod f).pcr = s.pcr := rfl
@[simp] theorem updHod_nvm : (s.updHod f).nvm = s.nvm := rfl
@[simp] theorem updHod_upd : (s.updHod f).upd = s.upd := rfl
@[simp] theorem updHod_mem : (s.updHod f).mem = s.mem := rfl
@[simp] theorem updHod_hod : (s.updHod f).hod = f s.hod := rfl
@[simp] theorem updHod_snag : (s.updHod f).snag = s.snag := rfl
@[simp] theorem updHod_mac : (s.updHod f).mac = s.mac := rfl
@[simp] theorem updHod_lkp : (s.updHod f).lkp = s.lkp := rfl
@[simp] theorem updHod_out : (s.updHod f).out = s.out := rfl
@[simp] theorem updHod_free : (s.updHod f).free = s.free := rfl
@[simp] theorem updHod_pending : (s.updHod f).pending = s.pending := rfl

end UpdHod

section UpdSnag

variable (s : State) (f : SnagS → SnagS)

@[simp] theorem updSnag_part : (s.updSnag f).part = s.part := rfl
@[simp] theorem updSnag_time : (s.updSnag f).time = s.time := rfl
@[simp] theorem updSnag_jr : (s.updSnag f).jr = s.jr := rfl
@[simp] theorem updSnag_regs : (s.updSnag f).regs = s.regs := rfl
@[simp] theorem updSnag_gmp : (s.updSnag f).gmp = s.gmp := rfl
@[simp] theorem updSnag_safe : (s.updSnag f).safe = s.safe := rfl
@[simp] theorem updSnag_fix : (s.updSnag f).fix = s.fix := rfl
@[simp] theorem updSnag_scr : (s.updSnag f).scr = s.scr := rfl
@[simp] theorem updSnag_memb : (s.updSnag f).memb = s.memb := rfl
@[simp] theorem updSnag_sched : (s.updSnag f).sched = s.sched := rfl
@[simp] theorem updSnag_loop : (s.updSnag f).loop = s.loop := rfl
@[simp] theorem updSnag_pair : (s.updSnag f).pair = s.pair := rfl
@[simp] theorem updSnag_evr : (s.updSnag f).evr = s.evr := rfl
@[simp] theorem updSnag_key : (s.updSnag f).key = s.key := rfl
@[simp] theorem updSnag_pcr : (s.updSnag f).pcr = s.pcr := rfl
@[simp] theorem updSnag_nvm : (s.updSnag f).nvm = s.nvm := rfl
@[simp] theorem updSnag_upd : (s.updSnag f).upd = s.upd := rfl
@[simp] theorem updSnag_mem : (s.updSnag f).mem = s.mem := rfl
@[simp] theorem updSnag_hod : (s.updSnag f).hod = s.hod := rfl
@[simp] theorem updSnag_snag : (s.updSnag f).snag = f s.snag := rfl
@[simp] theorem updSnag_mac : (s.updSnag f).mac = s.mac := rfl
@[simp] theorem updSnag_lkp : (s.updSnag f).lkp = s.lkp := rfl
@[simp] theorem updSnag_out : (s.updSnag f).out = s.out := rfl
@[simp] theorem updSnag_free : (s.updSnag f).free = s.free := rfl
@[simp] theorem updSnag_pending : (s.updSnag f).pending = s.pending := rfl

end UpdSnag

section UpdMac

variable (s : State) (f : MacS → MacS)

@[simp] theorem updMac_part : (s.updMac f).part = s.part := rfl
@[simp] theorem updMac_time : (s.updMac f).time = s.time := rfl
@[simp] theorem updMac_jr : (s.updMac f).jr = s.jr := rfl
@[simp] theorem updMac_regs : (s.updMac f).regs = s.regs := rfl
@[simp] theorem updMac_gmp : (s.updMac f).gmp = s.gmp := rfl
@[simp] theorem updMac_safe : (s.updMac f).safe = s.safe := rfl
@[simp] theorem updMac_fix : (s.updMac f).fix = s.fix := rfl
@[simp] theorem updMac_scr : (s.updMac f).scr = s.scr := rfl
@[simp] theorem updMac_memb : (s.updMac f).memb = s.memb := rfl
@[simp] theorem updMac_sched : (s.updMac f).sched = s.sched := rfl
@[simp] theorem updMac_loop : (s.updMac f).loop = s.loop := rfl
@[simp] theorem updMac_pair : (s.updMac f).pair = s.pair := rfl
@[simp] theorem updMac_evr : (s.updMac f).evr = s.evr := rfl
@[simp] theorem updMac_key : (s.updMac f).key = s.key := rfl
@[simp] theorem updMac_pcr : (s.updMac f).pcr = s.pcr := rfl
@[simp] theorem updMac_nvm : (s.updMac f).nvm = s.nvm := rfl
@[simp] theorem updMac_upd : (s.updMac f).upd = s.upd := rfl
@[simp] theorem updMac_mem : (s.updMac f).mem = s.mem := rfl
@[simp] theorem updMac_hod : (s.updMac f).hod = s.hod := rfl
@[simp] theorem updMac_snag : (s.updMac f).snag = s.snag := rfl
@[simp] theorem updMac_mac : (s.updMac f).mac = f s.mac := rfl
@[simp] theorem updMac_lkp : (s.updMac f).lkp = s.lkp := rfl
@[simp] theorem updMac_out : (s.updMac f).out = s.out := rfl
@[simp] theorem updMac_free : (s.updMac f).free = s.free := rfl
@[simp] theorem updMac_pending : (s.updMac f).pending = s.pending := rfl

end UpdMac

section UpdLkp

variable (s : State) (f : LkpS → LkpS)

@[simp] theorem updLkp_part : (s.updLkp f).part = s.part := rfl
@[simp] theorem updLkp_time : (s.updLkp f).time = s.time := rfl
@[simp] theorem updLkp_jr : (s.updLkp f).jr = s.jr := rfl
@[simp] theorem updLkp_regs : (s.updLkp f).regs = s.regs := rfl
@[simp] theorem updLkp_gmp : (s.updLkp f).gmp = s.gmp := rfl
@[simp] theorem updLkp_safe : (s.updLkp f).safe = s.safe := rfl
@[simp] theorem updLkp_fix : (s.updLkp f).fix = s.fix := rfl
@[simp] theorem updLkp_scr : (s.updLkp f).scr = s.scr := rfl
@[simp] theorem updLkp_memb : (s.updLkp f).memb = s.memb := rfl
@[simp] theorem updLkp_sched : (s.updLkp f).sched = s.sched := rfl
@[simp] theorem updLkp_loop : (s.updLkp f).loop = s.loop := rfl
@[simp] theorem updLkp_pair : (s.updLkp f).pair = s.pair := rfl
@[simp] theorem updLkp_evr : (s.updLkp f).evr = s.evr := rfl
@[simp] theorem updLkp_key : (s.updLkp f).key = s.key := rfl
@[simp] theorem updLkp_pcr : (s.updLkp f).pcr = s.pcr := rfl
@[simp] theorem updLkp_nvm : (s.updLkp f).nvm = s.nvm := rfl
@[simp] theorem updLkp_upd : (s.updLkp f).upd = s.upd := rfl
@[simp] theorem updLkp_mem : (s.updLkp f).mem = s.mem := rfl
@[simp] theorem updLkp_hod : (s.updLkp f).hod = s.hod := rfl
@[simp] theorem updLkp_snag : (s.updLkp f).snag = s.snag := rfl
@[simp] theorem updLkp_mac : (s.updLkp f).mac = s.mac := rfl
@[simp] theorem updLkp_lkp : (s.updLkp f).lkp = f s.lkp := rfl
@[simp] theorem updLkp_out : (s.updLkp f).out = s.out := rfl
@[simp] theorem updLkp_free : (s.updLkp f).free = s.free := rfl
@[simp] theorem updLkp_pending : (s.updLkp f).pending = s.pending := rfl

end UpdLkp

section UpdOut

variable (s : State) (f : (List Output) → (List Output))

@[simp] theorem updOut_part : (s.updOut f).part = s.part := rfl
@[simp] theorem updOut_time : (s.updOut f).time = s.time := rfl
@[simp] theorem updOut_jr : (s.updOut f).jr = s.jr := rfl
@[simp] theorem updOut_regs : (s.updOut f).regs = s.regs := rfl
@[simp] theorem updOut_gmp : (s.updOut f).gmp = s.gmp := rfl
@[simp] theorem updOut_safe : (s.updOut f).safe = s.safe := rfl
@[simp] theorem updOut_fix : (s.updOut f).fix = s.fix := rfl
@[simp] theorem updOut_scr : (s.updOut f).scr = s.scr := rfl
@[simp] theorem updOut_memb : (s.updOut f).memb = s.memb := rfl
@[simp] theorem updOut_sched : (s.updOut f).sched = s.sched := rfl
@[simp] theorem updOut_loop : (s.updOut f).loop = s.loop := rfl
@[simp] theorem updOut_pair : (s.updOut f).pair = s.pair := rfl
@[simp] theorem updOut_evr : (s.updOut f).evr = s.evr := rfl
@[simp] theorem updOut_key : (s.updOut f).key = s.key := rfl
@[simp] theorem updOut_pcr : (s.updOut f).pcr = s.pcr := rfl
@[simp] theorem updOut_nvm : (s.updOut f).nvm = s.nvm := rfl
@[simp] theorem updOut_upd : (s.updOut f).upd = s.upd := rfl
@[simp] theorem updOut_mem : (s.updOut f).mem = s.mem := rfl
@[simp] theorem updOut_hod : (s.updOut f).hod = s.hod := rfl
@[simp] theorem updOut_snag : (s.updOut f).snag = s.snag := rfl
@[simp] theorem updOut_mac : (s.updOut f).mac = s.mac := rfl
@[simp] theorem updOut_lkp : (s.updOut f).lkp = s.lkp := rfl
@[simp] theorem updOut_out : (s.updOut f).out = f s.out := rfl
@[simp] theorem updOut_free : (s.updOut f).free = s.free := rfl
@[simp] theorem updOut_pending : (s.updOut f).pending = s.pending := rfl

end UpdOut

section UpdFree

variable (s : State) (f : Nat → Nat)

@[simp] theorem updFree_part : (s.updFree f).part = s.part := rfl
@[simp] theorem updFree_time : (s.updFree f).time = s.time := rfl
@[simp] theorem updFree_jr : (s.updFree f).jr = s.jr := rfl
@[simp] theorem updFree_regs : (s.updFree f).regs = s.regs := rfl
@[simp] theorem updFree_gmp : (s.updFree f).gmp = s.gmp := rfl
@[simp] theorem updFree_safe : (s.updFree f).safe = s.safe := rfl
@[simp] theorem updFree_fix : (s.updFree f).fix = s.fix := rfl
@[simp] theorem updFree_scr : (s.updFree f).scr = s.scr := rfl
@[simp] theorem updFree_memb : (s.updFree f).memb = s.memb := rfl
@[simp] theorem updFree_sched : (s.updFree f).sched = s.sched := rfl
@[simp] theorem updFree_loop : (s.updFree f).loop = s.loop := rfl
@[simp] theorem updFree_pair : (s.updFree f).pair = s.pair := rfl
@[simp] theorem updFree_evr : (s.updFree f).evr = s.evr := rfl
@[simp] theorem updFree_key : (s.updFree f).key = s.key := rfl
@[simp] theorem updFree_pcr : (s.updFree f).pcr = s.pcr := rfl
@[simp] theorem updFree_nvm : (s.updFree f).nvm = s.nvm := rfl
@[simp] theorem updFree_upd : (s.updFree f).upd = s.upd := rfl
@[simp] theorem updFree_mem : (s.updFree f).mem = s.mem := rfl
@[simp] theorem updFree_hod : (s.updFree f).hod = s.hod := rfl
@[simp] theorem updFree_snag : (s.updFree f).snag = s.snag := rfl
@[simp] theorem updFree_mac : (s.updFree f).mac = s.mac := rfl
@[simp] theorem updFree_lkp : (s.updFree f).lkp = s.lkp := rfl
@[simp] theorem updFree_out : (s.updFree f).out = s.out := rfl
@[simp] theorem updFree_free : (s.updFree f).free = f s.free := rfl
@[simp] theorem updFree_pending : (s.updFree f).pending = s.pending := rfl

end UpdFree

section UpdPending

variable (s : State) (f : (List Instr) → (List Instr))

@[simp] theorem updPending_part : (s.updPending f).part = s.part := rfl
@[simp] theorem updPending_time : (s.updPending f).time = s.time := rfl
@[simp] theorem updPending_jr : (s.updPending f).jr = s.jr := rfl
@[simp] theorem updPending_regs : (s.updPending f).regs = s.regs := rfl
@[simp] theorem updPending_gmp : (s.updPending f).gmp = s.gmp := rfl
@[simp] theorem updPending_safe : (s.updPending f).safe = s.safe := rfl
@[simp] theorem updPending_fix : (s.updPending f).fix = s.fix := rfl
@[simp] theorem updPending_scr : (s.updPending f).scr = s.scr := rfl
@[simp] theorem updPending_memb : (s.updPending f).memb = s.memb := rfl
@[simp] theorem updPending_sched : (s.updPending f).sched = s.sched := rfl
@[simp] theorem updPending_loop : (s.updPending f).loop = s.loop := rfl
@[simp] theorem updPending_pair : (s.updPending f).pair = s.pair := rfl
@[simp] theorem updPending_evr : (s.updPending f).evr = s.evr := rfl
@[simp] theorem updPending_key : (s.updPending f).key = s.key := rfl
@[simp] theorem updPending_pcr : (s.updPending f).pcr = s.pcr := rfl
@[simp] theorem updPending_nvm : (s.updPending f).nvm = s.nvm := rfl
@[simp] theorem updPending_upd : (s.updPending f).upd = s.upd := rfl
@[simp] theorem updPending_mem : (s.updPending f).mem = s.mem := rfl
@[simp] theorem updPending_hod : (s.updPending f).hod = s.hod := rfl
@[simp] theorem updPending_snag : (s.updPending f).snag = s.snag := rfl
@[simp] theorem updPending_mac : (s.updPending f).mac = s.mac := rfl
@[simp] theorem updPending_lkp : (s.updPending f).lkp = s.lkp := rfl
@[simp] theorem updPending_out : (s.updPending f).out = s.out := rfl
@[simp] theorem updPending_free : (s.updPending f).free = s.free := rfl
@[simp] theorem updPending_pending : (s.updPending f).pending = f s.pending := rfl

end UpdPending

end Sys2Proof.Machine
end

