-- ==== Sys2Proof/Laws/Follow.lean ====
section
/-!
SUPPORT. The relation Follows: reflexive and transitive, and kept by each update of one part of State.
-/

set_option Elab.async false

namespace Sys2Proof.Machine

open Sys2Proof

/-- Nothing has changed. -/
theorem Follows.refl (c : Touch) (s : State) : Follows c s s :=
  ⟨rfl, rfl, List.prefix_refl _, Nat.le_refl _, id, fun _ _ h => h, fun _ h => h, fun _ => ⟨rfl, rfl⟩, fun _ => ⟨rfl, rfl⟩, fun _ => rfl, fun _ => ⟨rfl, rfl, rfl⟩, fun _ => ⟨rfl, rfl⟩, fun _ h => h, fun h => h, fun _ => rfl, fun _ => rfl, fun _ => rfl, fun _ => rfl, fun _ => rfl, fun _ => rfl, fun _ => rfl, fun _ => rfl, fun _ => rfl, fun _ => rfl, fun _ => rfl, fun _ => rfl, fun _ => rfl, fun _ => rfl, fun _ => rfl, fun _ => rfl, fun _ => rfl, fun _ => rfl, fun _ => rfl, fun _ => rfl, fun _ => rfl⟩

/-- One piece of work after another. -/
theorem Follows.trans {c : Touch} {s t u : State} (a : Follows c s t) (b : Follows c t u) : Follows c s u :=
  ⟨b.part.trans a.part, b.pending.trans a.pending, a.out.trans b.out, a.free.trans b.free, b.canon ∘ a.canon,
   fun g m h => a.permit g m (b.permit g m h), fun g h => b.latch g (a.latch g h),
   fun g => ⟨(b.mark g).1.trans (a.mark g).1, (b.mark g).2.trans (a.mark g).2⟩,
   fun g => ⟨(b.gen g).1.trans (a.gen g).1, (b.gen g).2.trans (a.gen g).2⟩, fun g => (b.role g).trans (a.role g),
   fun g => ⟨(b.fuse g).1.trans (a.fuse g).1, (b.fuse g).2.1.trans (a.fuse g).2.1, (b.fuse g).2.2.trans (a.fuse g).2.2⟩,
   fun g => ⟨(b.sess g).1.trans (a.sess g).1, (b.sess g).2.trans (a.sess g).2⟩, fun g e => b.stage g (a.stage g e), fun g => b.calm (a.calm g),
   fun g => (b.time g).trans (a.time g), fun g => (b.jr g).trans (a.jr g), fun g => (b.regs g).trans (a.regs g), fun g => (b.gmp g).trans (a.gmp g), fun g => (b.safe g).trans (a.safe g), fun g => (b.fix g).trans (a.fix g), fun g => (b.scr g).trans (a.scr g), fun g => (b.memb g).trans (a.memb g), fun g => (b.sched g).trans (a.sched g), fun g => (b.loop g).trans (a.loop g), fun g => (b.pair g).trans (a.pair g), fun g => (b.evr g).trans (a.evr g), fun g => (b.key g).trans (a.key g), fun g => (b.pcr g).trans (a.pcr g), fun g => (b.nvm g).trans (a.nvm g), fun g => (b.upd g).trans (a.upd g), fun g => (b.mem g).trans (a.mem g), fun g => (b.hod g).trans (a.hod g), fun g => (b.snag g).trans (a.snag g), fun g => (b.mac g).trans (a.mac g), fun g => (b.lkp g).trans (a.lkp g)⟩

/-- One set of parts lies within another. -/
def Touch.le (c d : Touch) : Bool :=
  (!c.time || d.time) && (!c.jr || d.jr) && (!c.regs || d.regs) && (!c.gmp || d.gmp) && (!c.safe || d.safe) &&
  (!c.fix || d.fix) && (!c.scr || d.scr) && (!c.memb || d.memb) && (!c.sched || d.sched) && (!c.loop || d.loop)
  && (!c.pair || d.pair) && (!c.evr || d.evr) && (!c.key || d.key) && (!c.pcr || d.pcr) && (!c.nvm || d.nvm) &&
  (!c.upd || d.upd) && (!c.mem || d.mem) && (!c.hod || d.hod) && (!c.snag || d.snag) && (!c.mac || d.mac) &&
  (!c.lkp || d.lkp) && (!c.grant || d.grant) && (!c.mark || d.mark) && (!c.gen || d.gen) && (!c.role || d.role)
  && (!c.fuse || d.fuse) && (!c.sess || d.sess) && (!c.stage || d.stage)

/-- A flag that the larger set lacks, the smaller lacks. -/
theorem flag_le {a b : Bool} (h : (!a || b) = true) (g : b = false) : a = false := by subst g; simpa using h

/-- What changes no more than one set of parts changes no more than a larger one. -/
theorem Follows.mono {c d : Touch} {s t : State} (h : Follows c s t) (hl : c.le d = true) : Follows d s t := by
  simp only [Touch.le, Bool.and_eq_true] at hl
  obtain ⟨⟨⟨⟨⟨⟨⟨⟨⟨⟨⟨⟨⟨⟨⟨⟨⟨⟨⟨⟨⟨⟨⟨⟨⟨⟨⟨l_time, l_jr⟩, l_regs⟩, l_gmp⟩, l_safe⟩, l_fix⟩, l_scr⟩, l_memb⟩, l_sched⟩, l_loop⟩, l_pair⟩, l_evr⟩, l_key⟩, l_pcr⟩, l_nvm⟩, l_upd⟩, l_mem⟩, l_hod⟩, l_snag⟩, l_mac⟩, l_lkp⟩, l_grant⟩, l_mark⟩, l_gen⟩, l_role⟩, l_fuse⟩, l_sess⟩, l_stage⟩ := hl
  exact ⟨h.part,
    h.pending,
    h.out,
    h.free,
    h.canon,
    fun g => h.permit (flag_le l_grant g),
    fun g => h.latch (flag_le l_grant g),
    fun g => h.mark (flag_le l_mark g),
    fun g => h.gen (flag_le l_gen g),
    fun g => h.role (flag_le l_role g),
    fun g => h.fuse (flag_le l_fuse g),
    fun g => h.sess (flag_le l_sess g),
    fun g => h.stage (flag_le l_stage g), h.calm,
    fun g => h.time (flag_le l_time g),
    fun g => h.jr (flag_le l_jr g),
    fun g => h.regs (flag_le l_regs g),
    fun g => h.gmp (flag_le l_gmp g),
    fun g => h.safe (flag_le l_safe g),
    fun g => h.fix (flag_le l_fix g),
    fun g => h.scr (flag_le l_scr g),
    fun g => h.memb (flag_le l_memb g),
    fun g => h.sched (flag_le l_sched g),
    fun g => h.loop (flag_le l_loop g),
    fun g => h.pair (flag_le l_pair g),
    fun g => h.evr (flag_le l_evr g),
    fun g => h.key (flag_le l_key g),
    fun g => h.pcr (flag_le l_pcr g),
    fun g => h.nvm (flag_le l_nvm g),
    fun g => h.upd (flag_le l_upd g),
    fun g => h.mem (flag_le l_mem g),
    fun g => h.hod (flag_le l_hod g),
    fun g => h.snag (flag_le l_snag g),
    fun g => h.mac (flag_le l_mac g),
    fun g => h.lkp (flag_le l_lkp g)⟩

theorem updTime_fol {c : Touch} {s0 s : State} {f : TimeS → TimeS} (hc : c.time = true) (h : Follows c s0 s) :
    Follows c s0 (s.updTime f) :=
  ⟨h.part, h.pending, h.out, h.free, h.canon, h.permit, h.latch, h.mark, h.gen, h.role, h.fuse, h.sess, h.stage, h.calm, fun g => absurd (hc.symm.trans g) (by decide), h.jr, h.regs, h.gmp, h.safe, h.fix, h.scr, h.memb, h.sched, h.loop, h.pair, h.evr, h.key, h.pcr, h.nvm, h.upd, h.mem, h.hod, h.snag, h.mac, h.lkp⟩

theorem updJr_fol {c : Touch} {s0 s : State} {f : JrnlS → JrnlS} (hc : c.jr = true) (h : Follows c s0 s)
    (hm : c.mark = true ∨ ∀ j, (f j).sf = j.sf ∧ (f j).started = j.started := by first | exact Or.inl ‹_› | exact Or.inr (fun _ => ⟨rfl, rfl⟩))
    (hn : c.gen = true ∨ ∀ j, (f j).gen = j.gen ∧ (f j).digest = j.digest := by first | exact Or.inl ‹_› | exact Or.inr (fun _ => ⟨rfl, rfl⟩)) :
    Follows c s0 (s.updJr f) :=
  ⟨h.part, h.pending, h.out, h.free, h.canon, h.permit, h.latch, fun g => hm.elim (fun q => absurd (q.symm.trans g) (by decide)) (fun q => ⟨(q _).1.trans (h.mark g).1, (q _).2.trans (h.mark g).2⟩), fun g => hn.elim (fun q => absurd (q.symm.trans g) (by decide)) (fun q => ⟨(q _).1.trans (h.gen g).1, (q _).2.trans (h.gen g).2⟩), h.role, h.fuse, h.sess, h.stage, h.calm, h.time, fun g => absurd (hc.symm.trans g) (by decide), h.regs, h.gmp, h.safe, h.fix, h.scr, h.memb, h.sched, h.loop, h.pair, h.evr, h.key, h.pcr, h.nvm, h.upd, h.mem, h.hod, h.snag, h.mac, h.lkp⟩

/-- An update of the sessions that changes only packs and queues, or is allowed more. -/
theorem updGmp_folS {c : Touch} {s0 s : State} {f : GmpS → GmpS} (hc : c.gmp = true) (h : Follows c s0 s)
    (hr : c.sess = true ∨ SessLike (f s.gmp).sess s.gmp.sess ∧ (f s.gmp).cache = s.gmp.cache) :
    Follows c s0 (s.updGmp f) :=
  ⟨h.part, h.pending, h.out, h.free, h.canon, h.permit, h.latch, h.mark, h.gen, h.role, h.fuse, fun g => hr.elim (fun q => absurd (q.symm.trans g) (by decide)) (fun q => ⟨q.1.trans (h.sess g).1, q.2.trans (h.sess g).2⟩), h.stage, h.calm, h.time, h.jr, h.regs, fun g => absurd (hc.symm.trans g) (by decide), h.safe, h.fix, h.scr, h.memb, h.sched, h.loop, h.pair, h.evr, h.key, h.pcr, h.nvm, h.upd, h.mem, h.hod, h.snag, h.mac, h.lkp⟩

theorem updGmp_fol {c : Touch} {s0 s : State} {f : GmpS → GmpS} (hc : c.gmp = true) (h : Follows c s0 s)
    (hr : c.sess = true ∨ ∀ g, (f g).sess = g.sess ∧ (f g).cache = g.cache := by first | exact Or.inl ‹_› | exact Or.inr (fun _ => ⟨rfl, rfl⟩)) :
    Follows c s0 (s.updGmp f) :=
  updGmp_folS hc h (hr.imp id (fun q => ⟨by rw [(q _).1]; rfl, (q _).2⟩))

theorem updFix_fol {c : Touch} {s0 s : State} {f : FixS → FixS} (hc : c.fix = true) (h : Follows c s0 s) :
    Follows c s0 (s.updFix f) :=
  ⟨h.part, h.pending, h.out, h.free, h.canon, h.permit, h.latch, h.mark, h.gen, h.role, h.fuse, h.sess, h.stage, h.calm, h.time, h.jr, h.regs, h.gmp, h.safe, fun g => absurd (hc.symm.trans g) (by decide), h.scr, h.memb, h.sched, h.loop, h.pair, h.evr, h.key, h.pcr, h.nvm, h.upd, h.mem, h.hod, h.snag, h.mac, h.lkp⟩

theorem updScr_fol {c : Touch} {s0 s : State} {f : ScrS → ScrS} (hc : c.scr = true) (h : Follows c s0 s) :
    Follows c s0 (s.updScr f) :=
  ⟨h.part, h.pending, h.out, h.free, h.canon, h.permit, h.latch, h.mark, h.gen, h.role, h.fuse, h.sess, h.stage, h.calm, h.time, h.jr, h.regs, h.gmp, h.safe, h.fix, fun g => absurd (hc.symm.trans g) (by decide), h.memb, h.sched, h.loop, h.pair, h.evr, h.key, h.pcr, h.nvm, h.upd, h.mem, h.hod, h.snag, h.mac, h.lkp⟩

theorem updMemb_fol {c : Touch} {s0 s : State} {f : MembS → MembS} (hc : c.memb = true) (h : Follows c s0 s) :
    Follows c s0 (s.updMemb f) :=
  ⟨h.part, h.pending, h.out, h.free, h.canon, h.permit, h.latch, h.mark, h.gen, h.role, h.fuse, h.sess, h.stage, h.calm, h.time, h.jr, h.regs, h.gmp, h.safe, h.fix, h.scr, fun g => absurd (hc.symm.trans g) (by decide), h.sched, h.loop, h.pair, h.evr, h.key, h.pcr, h.nvm, h.upd, h.mem, h.hod, h.snag, h.mac, h.lkp⟩

theorem updSched_fol {c : Touch} {s0 s : State} {f : SchedS → SchedS} (hc : c.sched = true) (h : Follows c s0 s) :
    Follows c s0 (s.updSched f) :=
  ⟨h.part, h.pending, h.out, h.free, h.canon, h.permit, h.latch, h.mark, h.gen, h.role, h.fuse, h.sess, h.stage, h.calm, h.time, h.jr, h.regs, h.gmp, h.safe, h.fix, h.scr, h.memb, fun g => absurd (hc.symm.trans g) (by decide), h.loop, h.pair, h.evr, h.key, h.pcr, h.nvm, h.upd, h.mem, h.hod, h.snag, h.mac, h.lkp⟩

theorem updLoop_fol {c : Touch} {s0 s : State} {f : LoopS → LoopS} (hc : c.loop = true) (h : Follows c s0 s) :
    Follows c s0 (s.updLoop f) :=
  ⟨h.part, h.pending, h.out, h.free, h.canon, h.permit, h.latch, h.mark, h.gen, h.role, h.fuse, h.sess, h.stage, h.calm, h.time, h.jr, h.regs, h.gmp, h.safe, h.fix, h.scr, h.memb, h.sched, fun g => absurd (hc.symm.trans g) (by decide), h.pair, h.evr, h.key, h.pcr, h.nvm, h.upd, h.mem, h.hod, h.snag, h.mac, h.lkp⟩

theorem updPair_fol {c : Touch} {s0 s : State} {f : PairS → PairS} (hc : c.pair = true) (h : Follows c s0 s)
    (hr : c.role = true ∨ ∀ p, (f p).role = p.role := by first | exact Or.inl ‹_› | exact Or.inr (fun _ => rfl)) :
    Follows c s0 (s.updPair f) :=
  ⟨h.part, h.pending, h.out, h.free, h.canon, h.permit, h.latch, h.mark, h.gen, fun g => hr.elim (fun q => absurd (q.symm.trans g) (by decide)) (fun q => (q _).trans (h.role g)), h.fuse, h.sess, h.stage, h.calm, h.time, h.jr, h.regs, h.gmp, h.safe, h.fix, h.scr, h.memb, h.sched, h.loop, fun g => absurd (hc.symm.trans g) (by decide), h.evr, h.key, h.pcr, h.nvm, h.upd, h.mem, h.hod, h.snag, h.mac, h.lkp⟩

theorem updEvr_fol {c : Touch} {s0 s : State} {f : EvrS → EvrS} (hc : c.evr = true) (h : Follows c s0 s) :
    Follows c s0 (s.updEvr f) :=
  ⟨h.part, h.pending, h.out, h.free, h.canon, h.permit, h.latch, h.mark, h.gen, h.role, h.fuse, h.sess, h.stage, h.calm, h.time, h.jr, h.regs, h.gmp, h.safe, h.fix, h.scr, h.memb, h.sched, h.loop, h.pair, fun g => absurd (hc.symm.trans g) (by decide), h.key, h.pcr, h.nvm, h.upd, h.mem, h.hod, h.snag, h.mac, h.lkp⟩

theorem updKey_fol {c : Touch} {s0 s : State} {f : KeyS → KeyS} (hc : c.key = true) (h : Follows c s0 s)
    (hr : c.fuse = true ∨ ∀ k, (f k).fuses = k.fuses ∧ (f k).revoke = k.revoke ∧ (f k).roots = k.roots := by first | exact Or.inl ‹_› | exact Or.inr (fun _ => ⟨rfl, rfl, rfl⟩)) :
    Follows c s0 (s.updKey f) :=
  ⟨h.part, h.pending, h.out, h.free, h.canon, h.permit, h.latch, h.mark, h.gen, h.role, fun g => hr.elim (fun q => absurd (q.symm.trans g) (by decide)) (fun q => ⟨(q _).1.trans (h.fuse g).1, (q _).2.1.trans (h.fuse g).2.1, (q _).2.2.trans (h.fuse g).2.2⟩), h.sess, h.stage, h.calm, h.time, h.jr, h.regs, h.gmp, h.safe, h.fix, h.scr, h.memb, h.sched, h.loop, h.pair, h.evr, fun g => absurd (hc.symm.trans g) (by decide), h.pcr, h.nvm, h.upd, h.mem, h.hod, h.snag, h.mac, h.lkp⟩

theorem updPcr_fol {c : Touch} {s0 s : State} {f : PcrS → PcrS} (hc : c.pcr = true) (h : Follows c s0 s) :
    Follows c s0 (s.updPcr f) :=
  ⟨h.part, h.pending, h.out, h.free, h.canon, h.permit, h.latch, h.mark, h.gen, h.role, h.fuse, h.sess, h.stage, h.calm, h.time, h.jr, h.regs, h.gmp, h.safe, h.fix, h.scr, h.memb, h.sched, h.loop, h.pair, h.evr, h.key, fun g => absurd (hc.symm.trans g) (by decide), h.nvm, h.upd, h.mem, h.hod, h.snag, h.mac, h.lkp⟩

theorem updNvm_fol {c : Touch} {s0 s : State} {f : NvmS → NvmS} (hc : c.nvm = true) (h : Follows c s0 s) :
    Follows c s0 (s.updNvm f) :=
  ⟨h.part, h.pending, h.out, h.free, h.canon, h.permit, h.latch, h.mark, h.gen, h.role, h.fuse, h.sess, h.stage, h.calm, h.time, h.jr, h.regs, h.gmp, h.safe, h.fix, h.scr, h.memb, h.sched, h.loop, h.pair, h.evr, h.key, h.pcr, fun g => absurd (hc.symm.trans g) (by decide), h.upd, h.mem, h.hod, h.snag, h.mac, h.lkp⟩

theorem updUpd_fol {c : Touch} {s0 s : State} {f : UpdS → UpdS} (hc : c.upd = true) (h : Follows c s0 s) :
    Follows c s0 (s.updUpd f) :=
  ⟨h.part, h.pending, h.out, h.free, h.canon, h.permit, h.latch, h.mark, h.gen, h.role, h.fuse, h.sess, h.stage, h.calm, h.time, h.jr, h.regs, h.gmp, h.safe, h.fix, h.scr, h.memb, h.sched, h.loop, h.pair, h.evr, h.key, h.pcr, h.nvm, fun g => absurd (hc.symm.trans g) (by decide), h.mem, h.hod, h.snag, h.mac, h.lkp⟩

theorem updMem_fol {c : Touch} {s0 s : State} {f : MemS → MemS} (hc : c.mem = true) (h : Follows c s0 s) :
    Follows c s0 (s.updMem f) :=
  ⟨h.part, h.pending, h.out, h.free, h.canon, h.permit, h.latch, h.mark, h.gen, h.role, h.fuse, h.sess, h.stage, h.calm, h.time, h.jr, h.regs, h.gmp, h.safe, h.fix, h.scr, h.memb, h.sched, h.loop, h.pair, h.evr, h.key, h.pcr, h.nvm, h.upd, fun g => absurd (hc.symm.trans g) (by decide), h.hod, h.snag, h.mac, h.lkp⟩

theorem updHod_fol {c : Touch} {s0 s : State} {f : HodS → HodS} (hc : c.hod = true) (h : Follows c s0 s) :
    Follows c s0 (s.updHod f) :=
  ⟨h.part, h.pending, h.out, h.free, h.canon, h.permit, h.latch, h.mark, h.gen, h.role, h.fuse, h.sess, h.stage, h.calm, h.time, h.jr, h.regs, h.gmp, h.safe, h.fix, h.scr, h.memb, h.sched, h.loop, h.pair, h.evr, h.key, h.pcr, h.nvm, h.upd, h.mem, fun g => absurd (hc.symm.trans g) (by decide), h.snag, h.mac, h.lkp⟩

theorem updSnag_fol {c : Touch} {s0 s : State} {f : SnagS → SnagS} (hc : c.snag = true) (h : Follows c s0 s) :
    Follows c s0 (s.updSnag f) :=
  ⟨h.part, h.pending, h.out, h.free, h.canon, h.permit, h.latch, h.mark, h.gen, h.role, h.fuse, h.sess, h.stage, h.calm, h.time, h.jr, h.regs, h.gmp, h.safe, h.fix, h.scr, h.memb, h.sched, h.loop, h.pair, h.evr, h.key, h.pcr, h.nvm, h.upd, h.mem, h.hod, fun g => absurd (hc.symm.trans g) (by decide), h.mac, h.lkp⟩

theorem updMac_fol {c : Touch} {s0 s : State} {f : MacS → MacS} (hc : c.mac = true) (h : Follows c s0 s) :
    Follows c s0 (s.updMac f) :=
  ⟨h.part, h.pending, h.out, h.free, h.canon, h.permit, h.latch, h.mark, h.gen, h.role, h.fuse, h.sess, h.stage, h.calm, h.time, h.jr, h.regs, h.gmp, h.safe, h.fix, h.scr, h.memb, h.sched, h.loop, h.pair, h.evr, h.key, h.pcr, h.nvm, h.upd, h.mem, h.hod, h.snag, fun g => absurd (hc.symm.trans g) (by decide), h.lkp⟩

theorem updLkp_fol {c : Touch} {s0 s : State} {f : LkpS → LkpS} (hc : c.lkp = true) (h : Follows c s0 s) :
    Follows c s0 (s.updLkp f) :=
  ⟨h.part, h.pending, h.out, h.free, h.canon, h.permit, h.latch, h.mark, h.gen, h.role, h.fuse, h.sess, h.stage, h.calm, h.time, h.jr, h.regs, h.gmp, h.safe, h.fix, h.scr, h.memb, h.sched, h.loop, h.pair, h.evr, h.key, h.pcr, h.nvm, h.upd, h.mem, h.hod, h.snag, h.mac, fun g => absurd (hc.symm.trans g) (by decide)⟩

/-- An update of the register store that leaves the words in force. -/
theorem updRegs_fol {c : Touch} {s0 s : State} {f : RegS → RegS} (hc : c.regs = true) (hf : (f s.regs).force = s.regs.force)
    (h : Follows c s0 s)
    (hs : c.stage = true ∨ ∀ r, r.staged = [] → (f r).staged = [] := by first | exact Or.inl ‹_› | exact Or.inr (fun _ h => h)) : Follows c s0 (s.updRegs f) :=
  ⟨h.part, h.pending, h.out, h.free, fun g => by show (f s.regs).canon s.part = true; rw [RegS.canon, hf]; exact h.canon g, h.permit, h.latch, h.mark, h.gen, h.role, h.fuse, h.sess, fun g e => hs.elim (fun q => absurd (q.symm.trans g) (by decide)) (fun q => q _ (h.stage g e)), h.calm, h.time, h.jr, fun g => absurd (hc.symm.trans g) (by decide), h.gmp, h.safe, h.fix, h.scr, h.memb, h.sched, h.loop, h.pair, h.evr, h.key, h.pcr, h.nvm, h.upd, h.mem, h.hod, h.snag, h.mac, h.lkp⟩

/-- An update of the register store that keeps the canonical form. -/
theorem updRegs_folC {c : Touch} {s0 s : State} {f : RegS → RegS} (hc : c.regs = true)
    (hf : s.regs.canon s.part = true → (f s.regs).canon s.part = true) (h : Follows c s0 s)
    (hs : c.stage = true ∨ ∀ r, r.staged = [] → (f r).staged = [] := by first | exact Or.inl ‹_› | exact Or.inr (fun _ h => h)) : Follows c s0 (s.updRegs f) :=
  ⟨h.part, h.pending, h.out, h.free, fun g => hf (h.canon g), h.permit, h.latch, h.mark, h.gen, h.role, h.fuse, h.sess, fun g e => hs.elim (fun q => absurd (q.symm.trans g) (by decide)) (fun q => q _ (h.stage g e)), h.calm, h.time, h.jr, fun g => absurd (hc.symm.trans g) (by decide), h.gmp, h.safe, h.fix, h.scr, h.memb, h.sched, h.loop, h.pair, h.evr, h.key, h.pcr, h.nvm, h.upd, h.mem, h.hod, h.snag, h.mac, h.lkp⟩

/-- An update of the SAFE bay that sets no permit bit and clears no latch. -/
theorem updSafe_folM {c : Touch} {s0 s : State} {f : SafeS → SafeS} (hc : c.safe = true)
    (hp : ∀ m, (f s.safe).permit.testBit m = true → s.safe.permit.testBit m = true)
    (hl : s.safe.latch = true → (f s.safe).latch = true)
    (hq : (s.safe.latch = true → s.safe.permit = 0) → (f s.safe).latch = true → (f s.safe).permit = 0) (h : Follows c s0 s) : Follows c s0 (s.updSafe f) :=
  ⟨h.part, h.pending, h.out, h.free, h.canon, fun g m a => h.permit g m (hp m a), fun g a => hl (h.latch g a), h.mark, h.gen, h.role, h.fuse, h.sess, h.stage, fun g => hq (h.calm g), h.time, h.jr, h.regs, h.gmp, fun g => absurd (hc.symm.trans g) (by decide), h.fix, h.scr, h.memb, h.sched, h.loop, h.pair, h.evr, h.key, h.pcr, h.nvm, h.upd, h.mem, h.hod, h.snag, h.mac, h.lkp⟩

/-- An update of the SAFE bay that keeps the permit map and the global latch. -/
theorem updSafe_fol {c : Touch} {s0 s : State} {f : SafeS → SafeS} (hc : c.safe = true) (h : Follows c s0 s)
    (hp : ∀ b, (f b).permit = b.permit := by intro _; first | rfl | (dsimp only; split <;> rfl))
    (hl : ∀ b, (f b).latch = b.latch := by intro _; first | rfl | (dsimp only; split <;> rfl)) : Follows c s0 (s.updSafe f) :=
  updSafe_folM hc (fun m a => by rwa [hp] at a) (fun a => by rwa [hl]) (fun q a => by rw [hp]; rw [hl] at a; exact q a) h

/-- An update of the SAFE bay under a grant. -/
theorem updSafe_folG {c : Touch} {s0 s : State} {f : SafeS → SafeS} (hg : c.grant = true) (hc : c.safe = true) (h : Follows c s0 s)
    (hq : (s.safe.latch = true → s.safe.permit = 0) → (f s.safe).latch = true → (f s.safe).permit = 0) : Follows c s0 (s.updSafe f) :=
  ⟨h.part, h.pending, h.out, h.free, h.canon, fun g => absurd (hg.symm.trans g) (by decide), fun g => absurd (hg.symm.trans g) (by decide), h.mark, h.gen, h.role, h.fuse, h.sess, h.stage, fun g => hq (h.calm g), h.time, h.jr, h.regs, h.gmp, fun g => absurd (hc.symm.trans g) (by decide), h.fix, h.scr, h.memb, h.sched, h.loop, h.pair, h.evr, h.key, h.pcr, h.nvm, h.upd, h.mem, h.hod, h.snag, h.mac, h.lkp⟩

/-- An output appended. -/
theorem emit_fol {c : Touch} {s0 s : State} {o : Output} (h : Follows c s0 s) : Follows c s0 (emit o s) :=
  ⟨h.part, h.pending, h.out.trans (List.prefix_append _ _), h.free, h.canon, h.permit, h.latch, h.mark, h.gen, h.role, h.fuse, h.sess, h.stage, h.calm, h.time, h.jr, h.regs, h.gmp, h.safe, h.fix, h.scr, h.memb, h.sched, h.loop, h.pair, h.evr, h.key, h.pcr, h.nvm, h.upd, h.mem, h.hod, h.snag, h.mac, h.lkp⟩

/-- Free values drawn. -/
theorem updFree_fol {c : Touch} {s0 s : State} {f : Nat → Nat} (hf : ∀ n, n ≤ f n) (h : Follows c s0 s) : Follows c s0 (s.updFree f) :=
  ⟨h.part, h.pending, h.out, h.free.trans (hf _), h.canon, h.permit, h.latch, h.mark, h.gen, h.role, h.fuse, h.sess, h.stage, h.calm, h.time, h.jr, h.regs, h.gmp, h.safe, h.fix, h.scr, h.memb, h.sched, h.loop, h.pair, h.evr, h.key, h.pcr, h.nvm, h.upd, h.mem, h.hod, h.snag, h.mac, h.lkp⟩

/-- A command's outcome, where it is a next state, follows. -/
def OutFollows (c : Touch) (s : State) : Host.Outcome State Fault Refusal → Prop
  | .next t => Follows c s t
  | .fault _ => True
  | .refused _ => True

/-- A next state that follows. -/
theorem next_fol {c : Touch} {s t : State} (h : Follows c s t) : OutFollows c s (.next t) := h

/-- The state of a pair that has been taken apart. -/
theorem fol_fst {c : Touch} {s0 u : State} {β : Type} {r : State × β} {y : β} (e : r = (u, y)) (h : Follows c s0 r.1) :
    Follows c s0 u := by rw [e] at h; exact h

/-- The same where the state stands second. -/
theorem fol_snd {c : Touch} {s0 u : State} {β : Type} {r : β × State} {y : β} (e : r = (y, u)) (h : Follows c s0 r.2) :
    Follows c s0 u := by rw [e] at h; exact h

/-- Either branch, of a pair. -/
theorem ite_fol1 {c : Touch} {s0 : State} {β : Type} {p : Prop} [Decidable p] {a b : State × β} (ha : Follows c s0 a.1)
    (hb : Follows c s0 b.1) : Follows c s0 (if p then a else b).1 := by
  split
  · exact ha
  · exact hb

/-- Either branch. -/
theorem ite_fol {c : Touch} {s0 : State} {p : Prop} [Decidable p] {a b : State} (ha : Follows c s0 a) (hb : Follows c s0 b) :
    Follows c s0 (if p then a else b) := by
  split
  · exact ha
  · exact hb

/-- Either branch, of an outcome. -/
theorem ite_folO {c : Touch} {s0 : State} {p : Prop} [Decidable p] {a b : Host.Outcome State Fault Refusal}
    (ha : OutFollows c s0 a) (hb : OutFollows c s0 b) : OutFollows c s0 (if p then a else b) := by
  split
  · exact ha
  · exact hb

/-- The empty map shows no permit. -/
theorem no_perm {n : Nat} (m : Nat) (h : (0 : Nat).testBit m = true) : n.testBit m = true := by simp at h

/-- A fold over states. -/
theorem foldl_fol {c : Touch} {s0 s : State} {α : Type} {F : State → α → State} {l : List α}
    (hF : ∀ t k, Follows c s0 t → Follows c s0 (F t k)) (h : Follows c s0 s) : Follows c s0 (l.foldl F s) := by
  induction l generalizing s with
  | nil => exact h
  | cons a r ih => exact ih (hF _ _ h)

/-- A fold that carries a value beside the state. -/
theorem foldl_fol1 {c : Touch} {s0 : State} {α β : Type} {F : State × β → α → State × β} {l : List α} {a : State × β}
    (hF : ∀ a k, Follows c s0 a.1 → Follows c s0 (F a k).1) (h : Follows c s0 a.1) : Follows c s0 (l.foldl F a).1 := by
  induction l generalizing a with
  | nil => exact h
  | cons b r ih => exact ih (hF _ _ h)

/-- A fold that carries a value before the state. -/
theorem foldl_fol2 {c : Touch} {s0 : State} {α β : Type} {F : β × State → α → β × State} {l : List α} {a : β × State}
    (hF : ∀ a k, Follows c s0 a.2 → Follows c s0 (F a k).2) (h : Follows c s0 a.2) : Follows c s0 (l.foldl F a).2 := by
  induction l generalizing a with
  | nil => exact h
  | cons b r ih => exact ih (hF _ _ h)

end Sys2Proof.Machine
end

