-- ==== Sys2Proof/Laws/Maps.lean ====
section
/-!
SUPPORT. Maps: a read after a write, and the canonical form that every operation keeps.
-/

set_option Elab.async false

namespace Sys2Proof.Machine

open Sys2Proof

variable {α : Type}

/-- Keys that rise above a bound rise above a lower one. -/
theorem krising_weaken {m : KMap α} {a b : Nat} (hab : a ≤ b) (h : krising (some b) m = true) : krising (some a) m = true := by
  cases m with
  | nil => rfl
  | cons e r =>
    obtain ⟨k, v⟩ := e
    simp only [krising, Bool.and_eq_true, decide_eq_true_eq] at h ⊢
    exact ⟨by omega, h.2⟩

/-- Keys that rise above a bound rise. -/
theorem krising_none {m : KMap α} {a : Nat} (h : krising (some a) m = true) : krising none m = true := by
  cases m with
  | nil => rfl
  | cons e r => obtain ⟨k, v⟩ := e; simp only [krising, Bool.and_eq_true] at h ⊢; exact h.2

/-- Insertion keeps the keys rising above a bound. -/
theorem krising_kins_some {m : KMap α} {lo key : Nat} {x : α} (hk : lo < key) (h : krising (some lo) m = true) :
    krising (some lo) (kins m key x) = true := by
  induction m generalizing lo with
  | nil => simpa [kins, krising] using hk
  | cons e r ih =>
    obtain ⟨k, v⟩ := e
    simp only [krising, Bool.and_eq_true, decide_eq_true_eq] at h
    unfold kins
    split
    · subst_vars; simp [krising, hk, h.2]
    · split
      · simp [krising, hk, h.2]; omega
      · simp only [krising, Bool.and_eq_true, decide_eq_true_eq]
        exact ⟨h.1, ih (by omega) h.2⟩

/-- Insertion keeps the keys rising. -/
theorem krising_kins {m : KMap α} {key : Nat} {x : α} (h : krising none m = true) : krising none (kins m key x) = true := by
  cases m with
  | nil => rfl
  | cons e r =>
    obtain ⟨k, v⟩ := e
    simp only [krising] at h
    unfold kins
    split
    · subst_vars; simpa [krising] using h
    · split
      · simp [krising, h]; omega
      · simp only [krising]; exact krising_kins_some (by omega) h

/-- The entries after an insertion: the new one, or one that stood. -/
theorem mem_kins {m : KMap α} {key : Nat} {x : α} {e : Nat × α} (h : e ∈ kins m key x) : e = (key, x) ∨ e ∈ m := by
  induction m with
  | nil => simpa [kins] using h
  | cons a r ih =>
    obtain ⟨k, v⟩ := a
    unfold kins at h
    split at h
    · subst_vars; simp only [List.mem_cons] at h ⊢; tauto
    · split at h
      · simpa using h
      · simp only [List.mem_cons] at h ⊢; rcases h with h | h
        · tauto
        · have := ih h; tauto

/-- What an insertion is read as. -/
theorem kfind_kins {m : KMap α} {key k : Nat} {x : α} :
    kfind (kins m key x) k = if k = key then some x else kfind m k := by
  induction m with
  | nil => simp [kins, kfind]
  | cons e r ih =>
    obtain ⟨k', v⟩ := e
    unfold kins
    split
    · rename_i hk; subst hk; by_cases h1 : k = key <;> simp [kfind, h1]
    · split
      · by_cases h1 : k = key <;> simp [kfind, h1]
      · simp only [kfind, ih]
        by_cases h1 : k = k'
        · have : k ≠ key := by omega
          simp [h1]; omega
        · simp [h1]

/-- No key at or below the bound is listed. -/
theorem kfind_below {m : KMap α} {lo k : Nat} (h : krising (some lo) m = true) (hk : k ≤ lo) : kfind m k = none := by
  induction m generalizing lo with
  | nil => rfl
  | cons e r ih =>
    obtain ⟨k', v⟩ := e
    simp only [krising, Bool.and_eq_true, decide_eq_true_eq] at h
    have : k ≠ k' := by omega
    simp only [kfind, this, if_false]
    exact ih h.2 (by omega)

/-- What a deletion is read as. -/
theorem kfind_kdel {m : KMap α} {key k : Nat} : kfind (kdel m key) k = if k = key then none else kfind m k := by
  induction m with
  | nil => simp [kdel, kfind]
  | cons e r ih =>
    obtain ⟨k', v⟩ := e
    unfold kdel at ih ⊢
    by_cases h : k' = key
    · subst h
      by_cases h1 : k = k'
      · subst h1; simpa using ih
      · simpa [kfind, h1] using ih
    · by_cases h1 : k = k'
      · subst h1; simp [kfind, h]
      · simpa [kfind, h, h1] using ih

/-- The entries after a deletion stood before it. -/
theorem mem_kdel {m : KMap α} {key : Nat} {e : Nat × α} (h : e ∈ kdel m key) : e ∈ m := List.mem_of_mem_filter h

/-- A read after a write: the value written at its key, every other key as before. -/
theorem kget_kset [DecidableEq α] {d : α} {m : KMap α} {key k : Nat} {x : α} :
    kget d (kset d m key x) k = if k = key then x else kget d m k := by
  unfold kget kset
  split
  · rename_i hx; subst hx; rw [kfind_kdel]; by_cases hk : k = key <;> simp [hk]
  · rw [kfind_kins]; by_cases hk : k = key <;> simp [hk]

/-- A read after a change: the value changed at its key, every other key as before. -/
theorem kget_kmod [DecidableEq α] {d : α} {m : KMap α} {key k : Nat} {f : α → α} :
    kget d (kmod d m key f) k = if k = key then f (kget d m key) else kget d m k := kget_kset

/-- A filter keeps the keys rising above a bound. -/
theorem krising_filter_some {m : KMap α} {lo : Nat} {p : Nat × α → Bool} (h : krising (some lo) m = true) :
    krising (some lo) (m.filter p) = true := by
  induction m generalizing lo with
  | nil => rfl
  | cons e r ih =>
    obtain ⟨k, v⟩ := e
    simp only [krising, Bool.and_eq_true, decide_eq_true_eq] at h
    simp only [List.filter_cons]
    split
    · simp only [krising, Bool.and_eq_true, decide_eq_true_eq]; exact ⟨h.1, ih h.2⟩
    · exact krising_weaken (Nat.le_of_lt h.1) (ih h.2)

/-- A filter keeps the keys rising. -/
theorem krising_filter {m : KMap α} {p : Nat × α → Bool} (h : krising none m = true) : krising none (m.filter p) = true := by
  cases m with
  | nil => rfl
  | cons e r =>
    obtain ⟨k, v⟩ := e
    simp only [krising] at h
    simp only [List.filter_cons]
    split
    · simp only [krising]; exact krising_filter_some h
    · exact krising_none (krising_filter_some h)

/-- Taking out a key leaves what a filter keeps that does not keep that key. -/
theorem filter_kdel {α : Type} {p : Nat → Bool} {m : KMap α} {k : Nat} (hk : p k = false) :
    (kdel m k).filter (fun e => p e.1) = m.filter (fun e => p e.1) := by
  unfold kdel
  rw [List.filter_filter]
  apply List.filter_congr
  intro e _
  by_cases h : e.1 = k
  · subst h; simp [hk]
  · simp [h]

/-- Deletion keeps the keys rising. -/
theorem krising_kdel {m : KMap α} {key : Nat} (h : krising none m = true) : krising none (kdel m key) = true := krising_filter h

/-- A write keeps the keys rising. -/
theorem krising_kset [DecidableEq α] {d : α} {m : KMap α} {key : Nat} {x : α} (h : krising none m = true) :
    krising none (kset d m key x) = true := by
  unfold kset; split
  · exact krising_kdel h
  · exact krising_kins h

/-- A write keeps the canonical form. -/
theorem kwf_kset [DecidableEq α] {d : α} {m : KMap α} {key : Nat} {x : α} (h : kwf d m = true) : kwf d (kset d m key x) = true := by
  simp only [kwf, Bool.and_eq_true, List.all_eq_true, decide_eq_true_eq] at h ⊢
  refine ⟨krising_kset h.1, fun e he => ?_⟩
  unfold kset at he
  split at he
  · exact h.2 e (mem_kdel he)
  · rcases mem_kins he with rfl | he
    · assumption
    · exact h.2 e he

end Sys2Proof.Machine
end

