-- ==== Sys2Proof/Laws/FolRegs.lean ====
section
/-!
SUPPORT. What the operations of Machine/Regs.lean may change: one lemma each.
-/

set_option Elab.async false

namespace Sys2Proof.Machine

open Sys2Proof

theorem setForce_fol {kc : Touch} {s0 s : State} {k : Nat} {w : Word} (k_regs : kc.regs = true)
    (hfol : Follows kc s0 s) : Follows kc s0 (setForce k w s) := by
  unfold setForce
  refine updRegs_folC ‹_› (fun g => ?_) hfol (.inr fun r e => by dsimp only; rw [e]; split <;> rfl)
  simp only [RegS.canon, Bool.and_eq_true, List.all_eq_true, decide_eq_true_eq] at g ⊢
  refine ⟨krising_kset g.1, fun e he => ?_⟩
  unfold kset at he
  split at he
  · exact g.2 e (mem_kdel he)
  · rcases mem_kins he with rfl | he
    · assumption
    · exact g.2 e he


theorem setStaged_fol {kc : Touch} {s0 s : State} {k : Nat} {w : Word} (k_regs : kc.regs = true) (k_stage : kc.stage = true)
    (hfol : Follows kc s0 s) : Follows kc s0 (setStaged k w s) := by
  unfold setStaged
  repeat' first
    | with_reducible assumption
    | intro _
    | with_reducible refine updRegs_fol ‹_› rfl ?_
    | with_reducible refine updRegs_fol ‹_› rfl ?_ (.inr fun _ _ => rfl)
    | split
    | dsimp only

theorem putFld_fol {kc : Touch} {s0 s : State} {a : Nat} {hi : Nat} {lo : Nat} {v : Nat} (k_regs : kc.regs = true)
    (hfol : Follows kc s0 s) : Follows kc s0 (putFld a hi lo v s) := by
  unfold putFld
  repeat' first
    | with_reducible assumption
    | with_reducible refine setForce_fol ‹_› ?_
    | split
    | dsimp only

theorem bumpF_fol {kc : Touch} {s0 s : State} {a : Nat} {hi : Nat} {lo : Nat} {n : Nat} (k_regs : kc.regs = true)
    (hfol : Follows kc s0 s) : Follows kc s0 (bumpF a hi lo n s) := by
  unfold bumpF
  repeat' first
    | with_reducible assumption
    | with_reducible refine putFld_fol ‹_› ?_
    | split
    | dsimp only

theorem bump_fol {kc : Touch} {s0 s : State} {a : Nat} (k_regs : kc.regs = true)
    (hfol : Follows kc s0 s) : Follows kc s0 (bump a s) := by
  unfold bump
  repeat' first
    | with_reducible assumption
    | with_reducible refine bumpF_fol ‹_› ?_
    | split
    | dsimp only

theorem bumpW_fol {kc : Touch} {s0 s : State} {sel : Nat} {w : Nat} {a : Nat} (k_regs : kc.regs = true)
    (hfol : Follows kc s0 s) : Follows kc s0 (bumpW sel w a s) := by
  unfold bumpW
  repeat' first
    | with_reducible assumption
    | with_reducible refine setForce_fol ‹_› ?_
    | split
    | dsimp only

theorem maxF_fol {kc : Touch} {s0 s : State} {a : Nat} {hi : Nat} {lo : Nat} {v : Nat} (k_regs : kc.regs = true)
    (hfol : Follows kc s0 s) : Follows kc s0 (maxF a hi lo v s) := by
  unfold maxF
  repeat' first
    | with_reducible assumption
    | with_reducible refine putFld_fol ‹_› ?_
    | split
    | dsimp only

theorem alarm_fol {kc : Touch} {s0 s : State} {a : Nat} {b : Nat} (k_regs : kc.regs = true)
    (hfol : Follows kc s0 s) : Follows kc s0 (alarm a b s) := by
  unfold alarm
  repeat' first
    | with_reducible assumption
    | with_reducible refine putFld_fol ‹_› ?_
    | split
    | dsimp only

theorem clearRc_fol {kc : Touch} {s0 s : State} {a : Nat} (k_regs : kc.regs = true)
    (hfol : Follows kc s0 s) : Follows kc s0 (clearRc a s) := by
  unfold clearRc
  repeat' first
    | with_reducible assumption
    | with_reducible refine fol_fst (by assumption) ?_
    | with_reducible refine ite_fol ?_ ?_
    | with_reducible refine setForce_fol ‹_› ?_
    | split
    | dsimp only

theorem clearW1c_fol {kc : Touch} {s0 s : State} {a : Nat} {v : Word} (k_regs : kc.regs = true)
    (hfol : Follows kc s0 s) : Follows kc s0 (clearW1c a v s) := by
  unfold clearW1c
  repeat' first
    | with_reducible assumption
    | with_reducible refine fol_fst (by assumption) ?_
    | with_reducible refine ite_fol ?_ ?_
    | with_reducible refine setForce_fol ‹_› ?_
    | split
    | dsimp only

theorem storeWord_fol {kc : Touch} {s0 s : State} {a : Nat} {v : Word} (k_regs : kc.regs = true) (k_stage : kc.stage = true)
    (hfol : Follows kc s0 s) : Follows kc s0 (storeWord a v s).1 := by
  unfold storeWord
  repeat' first
    | with_reducible assumption
    | with_reducible refine fol_fst (by assumption) ?_
    | intro _
    | with_reducible refine ite_fol1 ?_ ?_
    | with_reducible refine ite_fol ?_ ?_
    | with_reducible refine updRegs_fol ‹_› rfl ?_
    | with_reducible refine updRegs_fol ‹_› rfl ?_ (.inr fun _ _ => rfl)
    | with_reducible refine clearW1c_fol ‹_› ?_
    | with_reducible refine setForce_fol ‹_› ?_
    | with_reducible refine setStaged_fol ‹_› ‹_› ?_
    | split
    | dsimp only

end Sys2Proof.Machine
end

