-- ==== Sys2Proof/Laws/SessLike.lean ====
section
/-!
SUPPORT. Sessions that stay but for packs and queues: the relation, and the notifications that keep it.
-/

set_option Elab.async false

namespace Sys2Proof.Machine

open Sys2Proof

/-! Sessions keep their identity. -/

theorem SessLike.refl (l : KMap Session) : SessLike l l := rfl

theorem SessLike.find {l m : KMap Session} (h : SessLike l m) (k : Nat) : (kfind l k).map Session.core = (kfind m k).map Session.core := by
  induction l generalizing m with
  | nil => cases m with
    | nil => rfl
    | cons _ _ => simp [SessLike] at h
  | cons a r ih =>
    cases m with
    | nil => simp [SessLike] at h
    | cons b q =>
      simp only [SessLike, List.map_cons, List.cons.injEq, Prod.mk.injEq] at h
      obtain ⟨ak, av⟩ := a
      obtain ⟨bk, bv⟩ := b
      simp only at h
      obtain ⟨⟨rfl, hc⟩, ht⟩ := h
      by_cases e : k = ak
      · simp [kfind, e, hc]
      · simp only [kfind, e, if_false]; exact ih ht

theorem buildNotify_core (t : Nat) (x : Session) : (buildNotify t x).1.core = x.core := by
  unfold buildNotify
  dsimp only
  split
  · rfl
  · split
    · rfl
    · split <;> rfl

theorem packItem_core (t : Nat) (i : NItem) (x : Session) : (packItem t i x).1.core = x.core := by
  unfold packItem
  dsimp only
  split
  · rfl
  · have g (p : Bool) : (if p = true then (x, false) else buildNotify t x).1.core = x.core := by
      cases p
      · exact buildNotify_core t x
      · rfl
    split
    · exact g _
    · exact g _

/-- What the notifications of an item make of the sessions. -/
theorem notifyFold_like (t : Nat) (p : Nat → Bool) (i : NItem) (l : KMap Session) :
    SessLike (l.foldl (fun (acc : KMap Session × Nat) (e : Nat × Session) =>
      match kfind e.2.subs t with
      | some u => if p u.mask then
          let r := packItem t i e.2
          (acc.1 ++ [(e.1, r.1)], acc.2 + b2n r.2)
        else (acc.1 ++ [e], acc.2)
      | none => (acc.1 ++ [e], acc.2)) ([], 0)).1 l := by
  have key : ∀ (l acc : KMap Session) (n : Nat),
      SessLike (l.foldl (fun (acc : KMap Session × Nat) (e : Nat × Session) =>
        match kfind e.2.subs t with
        | some u => if p u.mask then
            let r := packItem t i e.2
            (acc.1 ++ [(e.1, r.1)], acc.2 + b2n r.2)
          else (acc.1 ++ [e], acc.2)
        | none => (acc.1 ++ [e], acc.2)) (acc, n)).1 (acc ++ l) := by
    intro l
    induction l with
    | nil => intro acc n; simp [SessLike]
    | cons a r ih =>
      intro acc n
      simp only [List.foldl_cons]
      split
      · split
        · refine (ih _ _).trans ?_
          simp only [List.map_append, List.map_cons, List.map_nil, packItem_core]
          simp
        · refine (ih _ _).trans ?_; simp
      · refine (ih _ _).trans ?_; simp
  exact key l [] 0

theorem sessMap_like (f : Nat × Session → Nat × Session) (hf : ∀ e, (f e).1 = e.1 ∧ (f e).2.core = e.2.core) (l : KMap Session) :
    SessLike (l.map f) l := by
  unfold SessLike
  rw [List.map_map]
  apply List.map_congr_left
  intro e _
  simp [hf e]

end Sys2Proof.Machine
end

