-- ==== Sys2Proof/Laws/FolOps.lean ====
section
/-!
SUPPORT. What the operations of Machine/Ops.lean may change: one lemma each.
-/

set_option Elab.async false

namespace Sys2Proof.Machine

open Sys2Proof

theorem advTo_fol {kc : Touch} {s0 s : State} {ns : Nat} (k_time : kc.time = true)
    (hfol : Follows kc s0 s) : Follows kc s0 (advTo ns s) := by
  unfold advTo
  repeat' first
    | with_reducible assumption
    | intro _
    | with_reducible refine ite_fol ?_ ?_
    | with_reducible refine updTime_fol ‹_› ?_
    | split
    | dsimp only

theorem advOp_fol {kc : Touch} {s0 s : State} {op : Nat} (k_time : kc.time = true)
    (hfol : Follows kc s0 s) : Follows kc s0 (advOp op s) := by
  unfold advOp
  repeat' first
    | with_reducible assumption
    | intro _
    | with_reducible refine ite_fol ?_ ?_
    | with_reducible refine updTime_fol ‹_› ?_
    | split
    | dsimp only

theorem evrKick_fol {kc : Touch} {s0 s : State} {n : Nat} (k_regs : kc.regs = true) (k_evr : kc.evr = true)
    (hfol : Follows kc s0 s) : Follows kc s0 (evrKick n s) := by
  induction n generalizing s with
  | zero => exact hfol
  | succ n ih =>
    unfold evrKick
    repeat' first
      | with_reducible assumption
      | refine ih ?_
      | with_reducible refine alarm_fol ‹_› ?_
      | with_reducible refine bump_fol ‹_› ?_
      | with_reducible refine updEvr_fol ‹_› ?_
      | split
      | dsimp only


theorem evTrig_fol {kc : Touch} {s0 s : State} {t : Nat} {detail : List Nat} (k_regs : kc.regs = true) (k_evr : kc.evr = true)
    (hfol : Follows kc s0 s) : Follows kc s0 (evTrig t detail s) := by
  unfold evTrig
  repeat' first
    | with_reducible assumption
    | intro _
    | with_reducible refine ite_fol ?_ ?_
    | with_reducible refine updEvr_fol ‹_› ?_
    | with_reducible refine alarm_fol ‹_› ?_
    | with_reducible refine bump_fol ‹_› ?_
    | with_reducible refine evrKick_fol ‹_› ‹_› ?_
    | split
    | dsimp only

theorem unsync_fol {kc : Touch} {s0 s : State} {reason : Nat} (k_regs : kc.regs = true) (k_pair : kc.pair = true) (k_evr : kc.evr = true)
    (hfol : Follows kc s0 s) : Follows kc s0 (unsync reason s) := by
  unfold unsync
  repeat' first
    | with_reducible assumption
    | intro _
    | with_reducible refine ite_fol ?_ ?_
    | with_reducible refine updPair_fol ‹_› ?_
    | with_reducible refine alarm_fol ‹_› ?_
    | with_reducible refine evTrig_fol ‹_› ‹_› ?_
    | split
    | dsimp only

theorem eligWatch_fol {kc : Touch} {s0 s : State} {old : State} (k_regs : kc.regs = true) (k_evr : kc.evr = true)
    (hfol : Follows kc s0 s) : Follows kc s0 (eligWatch old s) := by
  unfold eligWatch
  repeat' first
    | with_reducible assumption
    | with_reducible refine ite_fol ?_ ?_
    | with_reducible refine evTrig_fol ‹_› ‹_› ?_
    | split
    | dsimp only

theorem notify_fol {kc : Touch} {s0 s : State} {topic : Nat} {p : Nat → Bool} {i : NItem} (k_regs : kc.regs = true) (k_gmp : kc.gmp = true)
    (hfol : Follows kc s0 s) : Follows kc s0 (notify topic p i s) := by
  unfold notify
  dsimp only
  split
  · exact updGmp_folS ‹_› hfol (.inr ⟨notifyFold_like topic p i s.gmp.sess, rfl⟩)
  · exact bumpF_fol ‹_› (updGmp_folS ‹_› hfol (.inr ⟨notifyFold_like topic p i s.gmp.sess, rfl⟩))


theorem freeRing_fol {kc : Touch} {s0 s : State} (k_jr : kc.jr = true)
    (hfol : Follows kc s0 s) : Follows kc s0 (freeRing s) := by
  unfold freeRing
  repeat' first
    | with_reducible assumption
    | intro _
    | with_reducible refine updJr_fol ‹_› ?_
    | split
    | dsimp only

theorem overwriteRing_fol {kc : Touch} {s0 s : State} (k_jr : kc.jr = true) (k_regs : kc.regs = true) (k_gmp : kc.gmp = true)
    (hfol : Follows kc s0 s) : Follows kc s0 (overwriteRing s) := by
  unfold overwriteRing
  dsimp only
  split
  · exact hfol
  · have g : Follows kc s0 ((alarm Addr.TOP_CFG_ALARM 2 (s.updJr fun j => { j with ring := (trimRing s.jr.ring.length s.jr.ring).2, gone := epos ((trimRing s.jr.ring.length s.jr.ring).1.getLast?.getD ‹JEntry›) })).updGmp fun g => { g with sess := g.sess.map (fun e =>
        match kfind e.2.subs 6 with
        | some u => if posLt u.acked (epos ((trimRing s.jr.ring.length s.jr.ring).1.getLast?.getD ‹JEntry›)) then
            (e.1, (packItem 6 (gapItem (epos ‹JEntry›) (epos ((trimRing s.jr.ring.length s.jr.ring).1.getLast?.getD ‹JEntry›))) { e.2 with subs := kins e.2.subs 6 { u with acked := epos ((trimRing s.jr.ring.length s.jr.ring).1.getLast?.getD ‹JEntry›) } }).1)
          else e
        | none => e) }) := by
      refine updGmp_folS ‹_› (alarm_fol ‹_› (updJr_fol ‹_› hfol)) (.inr ⟨sessMap_like _ (fun e => ?_) _, rfl⟩)
      split
      · split
        · exact ⟨rfl, packItem_core _ _ _⟩
        · exact ⟨rfl, rfl⟩
      · exact ⟨rfl, rfl⟩
    split
    · split
      · exact updJr_fol ‹_› g
      · exact g
    · exact g


theorem forward_fol {kc : Touch} {s0 s : State} {e : JEntry} (k_pair : kc.pair = true)
    (hfol : Follows kc s0 s) : Follows kc s0 (forward e s) := by
  unfold forward
  repeat' first
    | with_reducible assumption
    | intro _
    | with_reducible refine ite_fol ?_ ?_
    | with_reducible refine updPair_fol ‹_› ?_
    | with_reducible refine emit_fol ?_
    | split
    | dsimp only

theorem jWrite_fol {kc : Touch} {s0 s : State} {source arrival : Nat} {p : Payload} (k_jr : kc.jr = true) (k_regs : kc.regs = true) (k_gmp : kc.gmp = true) (k_pair : kc.pair = true)
    (hfol : Follows kc s0 s) : Follows kc s0 (jWrite source arrival p s) := by
  unfold jWrite
  dsimp only
  refine overwriteRing_fol ‹_› ‹_› ‹_› (freeRing_fol ‹_› (updGmp_folS ‹_› (notify_fol ‹_› ‹_› (forward_fol ‹_› (updJr_fol ‹_› hfol))) (.inr ⟨sessMap_like _ (fun e => ?_) _, rfl⟩)))
  split <;> exact ⟨rfl, rfl⟩


theorem modSession_fol {kc : Touch} {s0 s : State} {k : Nat} {f : Session → Session} (k_gmp : kc.gmp = true) (k_sess : kc.sess = true)
    (hfol : Follows kc s0 s) : Follows kc s0 (modSession k f s) := by
  unfold modSession
  repeat' first
    | with_reducible assumption
    | with_reducible refine fol_fst (by assumption) ?_
    | intro _
    | with_reducible refine updGmp_fol ‹_› ?_
    | split
    | dsimp only

theorem reply_fol {kc : Touch} {s0 s : State} {sess : Nat} {typ : Nat} {reqId : Nat} {st : Nat} {body : List Nat}
    (hfol : Follows kc s0 s) : Follows kc s0 (reply sess typ reqId st body s) := by
  unfold reply
  repeat' first
    | with_reducible assumption
    | with_reducible refine emit_fol ?_
    | split
    | dsimp only

theorem gmpEnvelope_fol {kc : Touch} {s0 s : State} {h : GmpHdr} {typ : Nat} (k_regs : kc.regs = true) (k_gmp : kc.gmp = true) (k_sess : kc.sess = true)
    (hfol : Follows kc s0 s) : Follows kc s0 (gmpEnvelope h typ s).1 := by
  unfold gmpEnvelope
  repeat' first
    | with_reducible assumption
    | with_reducible refine fol_fst (by assumption) ?_
    | intro _
    | with_reducible refine ite_fol1 ?_ ?_
    | with_reducible refine ite_fol ?_ ?_
    | with_reducible refine bump_fol ‹_› ?_
    | with_reducible refine modSession_fol ‹_› ‹_› ?_
    | with_reducible refine reply_fol ?_
    | split
    | dsimp only

theorem gmpIntake_fol {kc : Touch} {s0 s : State} {h : GmpHdr} {typ : Nat} (k_regs : kc.regs = true) (k_gmp : kc.gmp = true) (k_sess : kc.sess = true)
    (hfol : Follows kc s0 s) : Follows kc s0 (gmpIntake h typ s).1 := by
  unfold gmpIntake
  repeat' first
    | with_reducible assumption
    | with_reducible refine fol_fst (by assumption) ?_
    | with_reducible refine ite_fol1 ?_ ?_
    | with_reducible refine ite_fol ?_ ?_
    | with_reducible refine bump_fol ‹_› ?_
    | with_reducible refine gmpEnvelope_fol ‹_› ‹_› ‹_› ?_
    | with_reducible refine reply_fol ?_
    | split
    | dsimp only

theorem gmpPlain_fol {kc : Touch} {s0 s : State} {h : GmpHdr} {typ : Nat} {right : Nat} {f : Session → State → State × (Nat × List Nat)} (k_regs : kc.regs = true) (k_gmp : kc.gmp = true) (k_sess : kc.sess = true)
    (f_f : ∀ (a0 : Session) (t : State), Follows kc s0 t → Follows kc s0 (f a0 t).1)
    (hfol : Follows kc s0 s) : Follows kc s0 (gmpPlain h typ right f s) := by
  unfold gmpPlain
  repeat' first
    | with_reducible assumption
    | with_reducible refine fol_fst (by assumption) ?_
    | with_reducible refine ite_fol ?_ ?_
    | with_reducible refine ite_fol1 ?_ ?_
    | with_reducible refine gmpIntake_fol ‹_› ‹_› ‹_› ?_
    | with_reducible refine reply_fol ?_
    | with_reducible apply f_f
    | split
    | dsimp only

theorem cachePush_fol {kc : Touch} {s0 s : State} {ident : Nat} {e : CacheEnt} (k_gmp : kc.gmp = true) (k_sess : kc.sess = true)
    (hfol : Follows kc s0 s) : Follows kc s0 (cachePush ident e s) := by
  unfold cachePush
  repeat' first
    | with_reducible assumption
    | intro _
    | with_reducible refine updGmp_fol ‹_› ?_
    | split
    | dsimp only

theorem completeReq_fol {kc : Touch} {s0 s : State} {w : Waiter} {st : Nat} {body : List Nat} (k_gmp : kc.gmp = true) (k_sess : kc.sess = true)
    (hfol : Follows kc s0 s) : Follows kc s0 (completeReq w st body s) := by
  unfold completeReq
  repeat' first
    | with_reducible assumption
    | with_reducible refine fol_fst (by assumption) ?_
    | intro _
    | with_reducible refine ite_fol ?_ ?_
    | with_reducible refine updGmp_fol ‹_› ?_
    | with_reducible refine modSession_fol ‹_› ‹_› ?_
    | with_reducible refine reply_fol ?_
    | split
    | dsimp only

theorem admitTo_fol {kc : Touch} {s0 s : State} {cls : Nat} (k_regs : kc.regs = true) (k_sched : kc.sched = true)
    (hfol : Follows kc s0 s) : Follows kc s0 (admitTo cls s).1 := by
  unfold admitTo
  repeat' first
    | with_reducible assumption
    | intro _
    | with_reducible refine ite_fol1 ?_ ?_
    | with_reducible refine ite_fol ?_ ?_
    | with_reducible refine updSched_fol ‹_› ?_
    | with_reducible refine bump_fol ‹_› ?_
    | with_reducible refine bumpW_fol ‹_› ?_
    | split
    | dsimp only

theorem gmpDecide_fol {kc : Touch} {s0 s : State} {c : ReqCtx} {b : GmpBody} {adm : Bool} {ok : State → Bool} {f : Handler} (k_regs : kc.regs = true) (k_gmp : kc.gmp = true) (k_sched : kc.sched = true) (k_sess : kc.sess = true)
    (f_f : ∀ (a : ReqCtx) (t : State), Follows kc s0 t → Follows kc s0 (f a t).1)
    (hfol : Follows kc s0 s) : Follows kc s0 (gmpDecide c b adm ok f s) := by
  unfold gmpDecide
  repeat' first
    | with_reducible assumption
    | with_reducible refine fol_fst (by assumption) ?_
    | with_reducible refine ite_fol ?_ ?_
    | with_reducible refine ite_fol1 ?_ ?_
    | with_reducible refine admitTo_fol ‹_› ‹_› ?_
    | with_reducible refine bumpW_fol ‹_› ?_
    | with_reducible refine completeReq_fol ‹_› ‹_› ?_
    | with_reducible apply f_f
    | split
    | dsimp only

theorem gmpEnter_fol {kc : Touch} {s0 s : State} {h : GmpHdr} {ident : Nat} {b : GmpBody} (k_jr : kc.jr = true) (k_regs : kc.regs = true) (k_gmp : kc.gmp = true) (k_pair : kc.pair = true) (k_sess : kc.sess = true)
    (hfol : Follows kc s0 s) : Follows kc s0 (gmpEnter h ident b s) := by
  unfold gmpEnter
  repeat' first
    | with_reducible assumption
    | intro _
    | with_reducible refine updJr_fol ‹_› ?_
    | with_reducible refine cachePush_fol ‹_› ‹_› ?_
    | with_reducible refine jWrite_fol ‹_› ‹_› ‹_› ‹_› ?_
    | with_reducible refine modSession_fol ‹_› ‹_› ?_
    | split
    | dsimp only

theorem gmpRepeat_fol {kc : Touch} {s0 s : State} {h : GmpHdr} {ident : Nat} {e : CacheEnt} (k_regs : kc.regs = true) (k_gmp : kc.gmp = true) (k_sess : kc.sess = true)
    (hfol : Follows kc s0 s) : Follows kc s0 (gmpRepeat h ident e s) := by
  unfold gmpRepeat
  repeat' first
    | with_reducible assumption
    | with_reducible refine fol_fst (by assumption) ?_
    | intro _
    | with_reducible refine ite_fol ?_ ?_
    | with_reducible refine updGmp_fol ‹_› ?_
    | with_reducible refine bump_fol ‹_› ?_
    | with_reducible refine reply_fol ?_
    | split
    | dsimp only

theorem gmpGate_fol {kc : Touch} {s0 s : State} {h : GmpHdr} {typ : Nat} {hash : Nat} {zero : Bool} {errb : Nat → List Nat} {k : Nat → State → State} (k_regs : kc.regs = true) (k_gmp : kc.gmp = true) (k_sess : kc.sess = true)
    (f_k : ∀ (a0 : Nat) (t : State), Follows kc s0 t → Follows kc s0 (k a0 t))
    (hfol : Follows kc s0 s) : Follows kc s0 (gmpGate h typ hash zero errb k s) := by
  unfold gmpGate
  repeat' first
    | with_reducible assumption
    | with_reducible refine fol_fst (by assumption) ?_
    | with_reducible refine ite_fol ?_ ?_
    | with_reducible refine bump_fol ‹_› ?_
    | with_reducible refine gmpEnvelope_fol ‹_› ‹_› ‹_› ?_
    | with_reducible refine gmpRepeat_fol ‹_› ‹_› ‹_› ?_
    | with_reducible refine reply_fol ?_
    | with_reducible apply f_k
    | split
    | dsimp only

theorem gmpRequest_fol {kc : Touch} {s0 s : State} {h : GmpHdr} {b : GmpBody} {zero : Bool} {adm : Bool} {ok : Nat → State → Bool} {f : Handler} (k_jr : kc.jr = true) (k_regs : kc.regs = true) (k_gmp : kc.gmp = true) (k_sched : kc.sched = true) (k_pair : kc.pair = true) (k_sess : kc.sess = true)
    (f_f : ∀ (a : ReqCtx) (t : State), Follows kc s0 t → Follows kc s0 (f a t).1)
    (hfol : Follows kc s0 s) : Follows kc s0 (gmpRequest h b zero adm ok f s) := by
  unfold gmpRequest
  repeat' first
    | with_reducible assumption
    | intro _
    | with_reducible refine gmpDecide_fol ‹_› ‹_› ‹_› ‹_› ?_ ?_
    | with_reducible refine gmpEnter_fol ‹_› ‹_› ‹_› ‹_› ‹_› ?_
    | with_reducible refine gmpGate_fol ‹_› ‹_› ‹_› ?_ ?_
    | with_reducible apply f_f
    | split
    | dsimp only

theorem wordHandler_fol {kc : Touch} {s0 s : State} {right : Nat} {f : State → State × Nat} {x : ReqCtx}
    (f_f : ∀ (t : State), Follows kc s0 t → Follows kc s0 (f t).1)
    (hfol : Follows kc s0 s) : Follows kc s0 (wordHandler right f x s).1 := by
  unfold wordHandler
  repeat' first
    | with_reducible assumption
    | intro _
    | with_reducible refine ite_fol1 ?_ ?_
    | with_reducible refine ite_fol ?_ ?_
    | with_reducible apply f_f
    | split
    | dsimp only

theorem gmpWord_fol {kc : Touch} {s0 s : State} {h : GmpHdr} {a : Nat} {v : Word} {right : Nat} {f : State → State × Nat} (k_jr : kc.jr = true) (k_regs : kc.regs = true) (k_gmp : kc.gmp = true) (k_sched : kc.sched = true) (k_pair : kc.pair = true) (k_sess : kc.sess = true)
    (f_f : ∀ (t : State), Follows kc s0 t → Follows kc s0 (f t).1)
    (hfol : Follows kc s0 s) : Follows kc s0 (gmpWord h a v right f s) := by
  unfold gmpWord
  repeat' first
    | with_reducible assumption
    | intro _
    | with_reducible refine gmpRequest_fol ‹_› ‹_› ‹_› ‹_› ‹_› ‹_› ?_ ?_
    | with_reducible refine wordHandler_fol ?_ ?_
    | with_reducible apply f_f
    | split
    | dsimp only

end Sys2Proof.Machine
end

