-- ==== Sys2Proof/Laws/FolSched.lean ====
section
/-!
SUPPORT. What the operations of Machine/Sched.lean may change: one lemma each.
-/

set_option Elab.async false

namespace Sys2Proof.Machine

open Sys2Proof

theorem modJob_fol {kc : Touch} {s0 s : State} {i : Nat} {f : Job → Job} (k_sched : kc.sched = true)
    (hfol : Follows kc s0 s) : Follows kc s0 (modJob i f s) := by
  unfold modJob
  repeat' first
    | with_reducible assumption
    | intro _
    | with_reducible refine ite_fol ?_ ?_
    | with_reducible refine ite_fol1 ?_ ?_
    | with_reducible refine updSched_fol ‹_› ?_
    | split
    | dsimp only

theorem modEng_fol {kc : Touch} {s0 s : State} {e : Nat} {f : Eng → Eng} (k_sched : kc.sched = true)
    (hfol : Follows kc s0 s) : Follows kc s0 (modEng e f s) := by
  unfold modEng
  repeat' first
    | with_reducible assumption
    | intro _
    | with_reducible refine updSched_fol ‹_› ?_
    | split
    | dsimp only

theorem startJob_fol {kc : Touch} {s0 s : State} {i : Nat} {e : Nat} (k_sched : kc.sched = true)
    (hfol : Follows kc s0 s) : Follows kc s0 (startJob i e s) := by
  unfold startJob
  repeat' first
    | with_reducible assumption
    | with_reducible refine fol_fst (by assumption) ?_
    | intro _
    | with_reducible refine modEng_fol ‹_› ?_
    | with_reducible refine modJob_fol ‹_› ?_
    | split
    | dsimp only

theorem stopEng_fol {kc : Touch} {s0 s : State} {e : Nat} {cls : Nat} (k_sched : kc.sched = true)
    (hfol : Follows kc s0 s) : Follows kc s0 (stopEng e cls s) := by
  unfold stopEng
  repeat' first
    | with_reducible assumption
    | intro _
    | with_reducible refine updSched_fol ‹_› ?_
    | with_reducible refine modEng_fol ‹_› ?_
    | split
    | dsimp only

theorem depthMax_fol {kc : Touch} {s0 s : State} {k : Nat} (k_regs : kc.regs = true)
    (hfol : Follows kc s0 s) : Follows kc s0 (depthMax k s) := by
  unfold depthMax
  repeat' first
    | with_reducible assumption
    | with_reducible refine maxF_fol ‹_› ?_
    | split
    | dsimp only

theorem dispatch_fol {kc : Touch} {s0 s : State} {n k : Nat} (k_sched : kc.sched = true)
    (hfol : Follows kc s0 s) : Follows kc s0 (dispatch n k s) := by
  induction n generalizing s with
  | zero => exact hfol
  | succ n ih =>
    unfold dispatch
    repeat' first
      | with_reducible assumption
      | with_reducible refine fol_fst (by assumption) ?_
      | with_reducible refine ih ?_
      | with_reducible refine startJob_fol ‹_› ?_
      | split
      | dsimp only


theorem preemptJob_fol {kc : Touch} {s0 s : State} {i : Nat} {j : Job} (k_regs : kc.regs = true) (k_sched : kc.sched = true)
    (hfol : Follows kc s0 s) : Follows kc s0 (preemptJob i j s) := by
  unfold preemptJob
  repeat' first
    | with_reducible assumption
    | intro _
    | with_reducible refine bump_fol ‹_› ?_
    | with_reducible refine modJob_fol ‹_› ?_
    | with_reducible refine stopEng_fol ‹_› ?_
    | split
    | dsimp only

theorem tryPreempt_fol {kc : Touch} {s0 s : State} {i : Nat} (k_regs : kc.regs = true) (k_sched : kc.sched = true)
    (hfol : Follows kc s0 s) : Follows kc s0 (tryPreempt i s) := by
  unfold tryPreempt
  repeat' first
    | with_reducible assumption
    | with_reducible refine fol_fst (by assumption) ?_
    | intro _
    | with_reducible refine ite_fol ?_ ?_
    | with_reducible refine ite_fol1 ?_ ?_
    | with_reducible refine preemptJob_fol ‹_› ‹_› ?_
    | with_reducible refine startJob_fol ‹_› ?_
    | split
    | dsimp only

theorem readyJob_fol {kc : Touch} {s0 s : State} {i : Nat} (k_regs : kc.regs = true) (k_sched : kc.sched = true)
    (hfol : Follows kc s0 s) : Follows kc s0 (readyJob i s) := by
  unfold readyJob
  repeat' first
    | with_reducible assumption
    | with_reducible refine fol_fst (by assumption) ?_
    | intro _
    | with_reducible refine depthMax_fol ‹_› ?_
    | with_reducible refine dispatch_fol ‹_› ?_
    | with_reducible refine modJob_fol ‹_› ?_
    | with_reducible refine tryPreempt_fol ‹_› ‹_› ?_
    | split
    | dsimp only

theorem placeJob_fol {kc : Touch} {s0 s : State} {j : Job} {delayTick : Option Nat} (k_regs : kc.regs = true) (k_sched : kc.sched = true)
    (hfol : Follows kc s0 s) : Follows kc s0 (placeJob j delayTick s) := by
  unfold placeJob
  repeat' first
    | with_reducible assumption
    | with_reducible refine fol_fst (by assumption) ?_
    | intro _
    | with_reducible refine ite_fol ?_ ?_
    | with_reducible refine ite_fol1 ?_ ?_
    | with_reducible refine updSched_fol ‹_› ?_
    | with_reducible refine readyJob_fol ‹_› ‹_› ?_
    | split
    | dsimp only

theorem addJob_fol {kc : Touch} {s0 s : State} {j : Job} {delayTick : Option Nat} (k_regs : kc.regs = true) (k_sched : kc.sched = true)
    (hfol : Follows kc s0 s) : Follows kc s0 (addJob j delayTick s).1 := by
  unfold addJob
  repeat' first
    | with_reducible assumption
    | intro _
    | with_reducible refine ite_fol1 ?_ ?_
    | with_reducible refine ite_fol ?_ ?_
    | with_reducible refine updSched_fol ‹_› ?_
    | with_reducible refine bump_fol ‹_› ?_
    | with_reducible refine placeJob_fol ‹_› ‹_› ?_
    | split
    | dsimp only

theorem createJob_fol {kc : Touch} {s0 s : State} {cls : Nat} {pos : Nat × Nat} {object : Nat} {deadline : Option Nat} (k_regs : kc.regs = true) (k_sched : kc.sched = true)
    (hfol : Follows kc s0 s) : Follows kc s0 (createJob cls pos object deadline s) := by
  unfold createJob
  repeat' first
    | with_reducible assumption
    | with_reducible refine addJob_fol ‹_› ‹_› ?_
    | split
    | dsimp only

theorem delayJob_fol {kc : Touch} {s0 s : State} {cls : Nat} {object : Nat} {deadline : Nat} {atNs : Nat} (k_regs : kc.regs = true) (k_sched : kc.sched = true)
    (hfol : Follows kc s0 s) : Follows kc s0 (delayJob cls object deadline atNs s) := by
  unfold delayJob
  repeat' first
    | with_reducible assumption
    | with_reducible refine ite_fol ?_ ?_
    | with_reducible refine ite_fol1 ?_ ?_
    | with_reducible refine addJob_fol ‹_› ‹_› ?_
    | with_reducible refine bump_fol ‹_› ?_
    | split
    | dsimp only

theorem unstall_fol {kc : Touch} {s0 s : State} {n : Nat} (k_regs : kc.regs = true) (k_sched : kc.sched = true)
    (hfol : Follows kc s0 s) : Follows kc s0 (unstall n s) := by
  induction n generalizing s with
  | zero => exact hfol
  | succ n ih =>
    unfold unstall
    repeat' first
      | with_reducible assumption
      | with_reducible refine fol_fst (by assumption) ?_
      | with_reducible refine ih ?_
      | with_reducible refine placeJob_fol ‹_› ‹_› ?_
      | with_reducible refine updSched_fol ‹_› ?_
      | split
      | dsimp only


theorem freeJob_fol {kc : Touch} {s0 s : State} {i : Nat} (k_regs : kc.regs = true) (k_sched : kc.sched = true)
    (hfol : Follows kc s0 s) : Follows kc s0 (freeJob i s) := by
  unfold freeJob
  repeat' first
    | with_reducible assumption
    | intro _
    | with_reducible refine updSched_fol ‹_› ?_
    | with_reducible refine unstall_fol ‹_› ‹_› ?_
    | split
    | dsimp only

theorem markLate_fol {kc : Touch} {s0 s : State} {i : Nat} {j : Job} (k_regs : kc.regs = true) (k_sched : kc.sched = true) (k_evr : kc.evr = true)
    (hfol : Follows kc s0 s) : Follows kc s0 (markLate i j s) := by
  unfold markLate
  repeat' first
    | with_reducible assumption
    | with_reducible refine fol_fst (by assumption) ?_
    | intro _
    | with_reducible refine updSched_fol ‹_› ?_
    | with_reducible refine bump_fol ‹_› ?_
    | with_reducible refine bumpW_fol ‹_› ?_
    | with_reducible refine evTrig_fol ‹_› ‹_› ?_
    | with_reducible refine modJob_fol ‹_› ?_
    | split
    | dsimp only

theorem wakeChain_fol {kc : Touch} {s0 s : State} {cls : Nat} {object : Nat} (k_regs : kc.regs = true) (k_sched : kc.sched = true)
    (hfol : Follows kc s0 s) : Follows kc s0 (wakeChain cls object s) := by
  unfold wakeChain
  repeat' first
    | with_reducible assumption
    | with_reducible refine fol_fst (by assumption) ?_
    | intro _
    | with_reducible refine ite_fol ?_ ?_
    | with_reducible refine ite_fol1 ?_ ?_
    | with_reducible refine readyJob_fol ‹_› ‹_› ?_
    | split
    | dsimp only

theorem completeJob_fol {kc : Touch} {s0 s : State} {i : Nat} {st : Nat} (k_regs : kc.regs = true) (k_sched : kc.sched = true) (k_evr : kc.evr = true)
    (hfol : Follows kc s0 s) : Follows kc s0 (completeJob i st s) := by
  unfold completeJob
  repeat' first
    | with_reducible assumption
    | with_reducible refine fol_fst (by assumption) ?_
    | intro _
    | with_reducible refine ite_fol ?_ ?_
    | with_reducible refine bumpW_fol ‹_› ?_
    | with_reducible refine dispatch_fol ‹_› ?_
    | with_reducible refine freeJob_fol ‹_› ‹_› ?_
    | with_reducible refine markLate_fol ‹_› ‹_› ‹_› ?_
    | with_reducible refine modJob_fol ‹_› ?_
    | with_reducible refine stopEng_fol ‹_› ?_
    | with_reducible refine wakeChain_fol ‹_› ‹_› ?_
    | split
    | dsimp only

theorem finishJob_fol {kc : Touch} {s0 s : State} {cls : Nat} {object : Nat} {st : Nat} (k_regs : kc.regs = true) (k_sched : kc.sched = true) (k_evr : kc.evr = true)
    (hfol : Follows kc s0 s) : Follows kc s0 (finishJob cls object st s) := by
  unfold finishJob
  repeat' first
    | with_reducible assumption
    | with_reducible refine fol_fst (by assumption) ?_
    | with_reducible refine completeJob_fol ‹_› ‹_› ‹_› ?_
    | split
    | dsimp only

theorem countJob_fol {kc : Touch} {s0 s : State} {cls : Nat} (k_regs : kc.regs = true)
    (hfol : Follows kc s0 s) : Follows kc s0 (countJob cls s) := by
  unfold countJob
  repeat' first
    | with_reducible assumption
    | with_reducible refine bumpW_fol ‹_› ?_
    | split
    | dsimp only

theorem execJobComplete_fol {kc : Touch} {s0 s : State} {desc : Nat} {status : Nat} (k_regs : kc.regs = true) (k_sched : kc.sched = true) (k_evr : kc.evr = true)
    (hfol : Follows kc s0 s) : OutFollows kc s0 (execJobComplete desc status s) := by
  unfold execJobComplete
  repeat' first
    | with_reducible assumption
    | with_reducible refine fol_fst (by assumption) ?_
    | with_reducible refine ite_folO ?_ ?_
    | with_reducible refine ite_fol ?_ ?_
    | with_reducible refine next_fol ?_
    | with_reducible refine completeJob_fol ‹_› ‹_› ‹_› ?_
    | split
    | dsimp only

theorem execJobRetire_fol {kc : Touch} {s0 s : State} {desc : Nat} (k_regs : kc.regs = true) (k_sched : kc.sched = true)
    (hfol : Follows kc s0 s) : OutFollows kc s0 (execJobRetire desc s) := by
  unfold execJobRetire
  repeat' first
    | with_reducible assumption
    | with_reducible refine fol_fst (by assumption) ?_
    | with_reducible refine ite_folO ?_ ?_
    | with_reducible refine ite_fol ?_ ?_
    | with_reducible refine next_fol ?_
    | with_reducible refine freeJob_fol ‹_› ‹_› ?_
    | split
    | dsimp only

theorem releaseTick_fol {kc : Touch} {s0 s : State} {n k : Nat} (k_regs : kc.regs = true) (k_sched : kc.sched = true)
    (hfol : Follows kc s0 s) : Follows kc s0 (releaseTick n k s) := by
  induction n generalizing s with
  | zero => exact hfol
  | succ n ih =>
    unfold releaseTick
    repeat' first
      | with_reducible assumption
      | with_reducible refine fol_fst (by assumption) ?_
      | with_reducible refine ih ?_
      | with_reducible refine readyJob_fol ‹_› ‹_› ?_
      | with_reducible refine modJob_fol ‹_› ?_
      | with_reducible refine updSched_fol ‹_› ?_
      | split
      | dsimp only


theorem execDelayRelease_fol {kc : Touch} {s0 s : State} (k_time : kc.time = true) (k_regs : kc.regs = true) (k_sched : kc.sched = true)
    (hfol : Follows kc s0 s) : OutFollows kc s0 (execDelayRelease s) := by
  unfold execDelayRelease
  repeat' first
    | with_reducible assumption
    | with_reducible refine fol_fst (by assumption) ?_
    | with_reducible refine next_fol ?_
    | with_reducible refine advTo_fol ‹_› ?_
    | with_reducible refine releaseTick_fol ‹_› ‹_› ?_
    | split
    | dsimp only

theorem rollEngines_fol {kc : Touch} {s0 s : State} {t : Nat} (k_sched : kc.sched = true)
    (hfol : Follows kc s0 s) : Follows kc s0 (rollEngines t s) := by
  unfold rollEngines
  repeat' first
    | with_reducible assumption
    | intro _
    | with_reducible refine updSched_fol ‹_› ?_
    | split
    | dsimp only

theorem execBudgetWindow_fol {kc : Touch} {s0 s : State} (k_time : kc.time = true) (k_sched : kc.sched = true)
    (hfol : Follows kc s0 s) : OutFollows kc s0 (execBudgetWindow s) := by
  unfold execBudgetWindow
  repeat' first
    | with_reducible assumption
    | intro _
    | with_reducible refine next_fol ?_
    | with_reducible refine updSched_fol ‹_› ?_
    | with_reducible refine advTo_fol ‹_› ?_
    | with_reducible refine dispatch_fol ‹_› ?_
    | with_reducible refine rollEngines_fol ‹_› ?_
    | with_reducible refine foldl_fol ?_ ?_
    | with_reducible refine foldl_fol1 ?_ ?_
    | split
    | dsimp only

theorem waitClr_fol {kc : Touch} {s0 s : State} {e : Nat} (k_sched : kc.sched = true)
    (hfol : Follows kc s0 s) : Follows kc s0 (waitClr e s) := by
  unfold waitClr
  repeat' first
    | with_reducible assumption
    | intro _
    | with_reducible refine modEng_fol ‹_› ?_
    | split
    | dsimp only

theorem engCtrlWord_fol {kc : Touch} {s0 s : State} {v : Word} (k_sched : kc.sched = true)
    (hfol : Follows kc s0 s) : Follows kc s0 (engCtrlWord v s).1 := by
  unfold engCtrlWord
  repeat' first
    | with_reducible assumption
    | with_reducible refine ite_fol1 ?_ ?_
    | with_reducible refine ite_fol ?_ ?_
    | with_reducible refine waitClr_fol ‹_› ?_
    | split
    | dsimp only

theorem execWaitClr_fol {kc : Touch} {s0 s : State} {h : GmpHdr} (k_jr : kc.jr = true) (k_regs : kc.regs = true) (k_gmp : kc.gmp = true) (k_sched : kc.sched = true) (k_pair : kc.pair = true) (k_sess : kc.sess = true)
    (hfol : Follows kc s0 s) : OutFollows kc s0 (execWaitClr h s) := by
  unfold execWaitClr
  repeat' first
    | with_reducible assumption
    | intro _
    | with_reducible refine next_fol ?_
    | with_reducible refine engCtrlWord_fol ‹_› ?_
    | with_reducible refine gmpWord_fol ‹_› ‹_› ‹_› ‹_› ‹_› ‹_› ?_ ?_
    | split
    | dsimp only

theorem evictEngine_fol {kc : Touch} {s0 s : State} {e : Nat} (k_sched : kc.sched = true)
    (hfol : Follows kc s0 s) : Follows kc s0 (evictEngine e s) := by
  unfold evictEngine
  repeat' first
    | with_reducible assumption
    | with_reducible refine fol_fst (by assumption) ?_
    | intro _
    | with_reducible refine modJob_fol ‹_› ?_
    | with_reducible refine stopEng_fol ‹_› ?_
    | split
    | dsimp only

theorem schedShift_fol {kc : Touch} {s0 s : State} {d : Int} (k_sched : kc.sched = true)
    (hfol : Follows kc s0 s) : Follows kc s0 (schedShift d s) := by
  unfold schedShift
  repeat' first
    | with_reducible assumption
    | intro _
    | with_reducible refine updSched_fol ‹_› ?_
    | split
    | dsimp only

end Sys2Proof.Machine
end

