-- ==== Sys2Proof/Laws/FolItems.lean ====
section
/-!
SUPPORT. What the operations of Machine/Items.lean may change: one lemma each.
-/

set_option Elab.async false

namespace Sys2Proof.Machine

open Sys2Proof

theorem modNode_fol {kc : Touch} {s0 s : State} {a : Nat} {f : Node → Node} (k_memb : kc.memb = true)
    (hfol : Follows kc s0 s) : Follows kc s0 (modNode a f s) := by
  unfold modNode
  repeat' first
    | with_reducible assumption
    | intro _
    | with_reducible refine updMemb_fol ‹_› ?_
    | split
    | dsimp only

theorem queueOn_fol {kc : Touch} {s0 s : State} {a : Nat} {f : Items → Items} (k_memb : kc.memb = true)
    (hfol : Follows kc s0 s) : Follows kc s0 (queueOn a f s) := by
  unfold queueOn
  repeat' first
    | with_reducible assumption
    | intro _
    | with_reducible refine modNode_fol ‹_› ?_
    | split
    | dsimp only

theorem queueFix_fol {kc : Touch} {s0 s : State} {a : Nat} {body : List Nat} (k_memb : kc.memb = true)
    (hfol : Follows kc s0 s) : Follows kc s0 (queueFix a body s) := by
  unfold queueFix
  repeat' first
    | with_reducible assumption
    | intro _
    | with_reducible refine queueOn_fol ‹_› ?_
    | split
    | dsimp only

theorem queueWarn_fol {kc : Touch} {s0 s : State} {a : Nat} {body : List Nat} (k_memb : kc.memb = true)
    (hfol : Follows kc s0 s) : Follows kc s0 (queueWarn a body s) := by
  unfold queueWarn
  repeat' first
    | with_reducible assumption
    | intro _
    | with_reducible refine queueOn_fol ‹_› ?_
    | split
    | dsimp only

theorem queueAck_fol {kc : Touch} {s0 s : State} {a : Nat} {typ : Nat} {sub : Nat} {body : List Nat} (k_memb : kc.memb = true)
    (hfol : Follows kc s0 s) : Follows kc s0 (queueAck a typ sub body s) := by
  unfold queueAck
  repeat' first
    | with_reducible assumption
    | intro _
    | with_reducible refine ite_fol ?_ ?_
    | with_reducible refine queueOn_fol ‹_› ?_
    | split
    | dsimp only

theorem queueCmd_fol {kc : Touch} {s0 s : State} {a : Nat} {steer : Bool} {v : Nat} {epoch : Nat} {flags : Nat} {last : Bool} (k_memb : kc.memb = true)
    (hfol : Follows kc s0 s) : Follows kc s0 (queueCmd a steer v epoch flags last s) := by
  unfold queueCmd
  repeat' first
    | with_reducible assumption
    | intro _
    | with_reducible refine ite_fol ?_ ?_
    | with_reducible refine queueOn_fol ‹_› ?_
    | split
    | dsimp only

theorem ceaseCmd_fol {kc : Touch} {s0 s : State} {a : Nat} {steer : Bool} (k_memb : kc.memb = true)
    (hfol : Follows kc s0 s) : Follows kc s0 (ceaseCmd a steer s) := by
  unfold ceaseCmd
  repeat' first
    | with_reducible assumption
    | intro _
    | with_reducible refine ite_fol ?_ ?_
    | with_reducible refine modNode_fol ‹_› ?_
    | split
    | dsimp only

theorem queueTrack_fol {kc : Touch} {s0 s : State} {a : Nat} {resId : Nat} {d : Desc} (k_memb : kc.memb = true)
    (hfol : Follows kc s0 s) : Follows kc s0 (queueTrack a resId d s) := by
  unfold queueTrack
  repeat' first
    | with_reducible assumption
    | intro _
    | with_reducible refine queueAck_fol ‹_› ?_
    | with_reducible refine foldl_fol ?_ ?_
    | with_reducible refine foldl_fol1 ?_ ?_
    | split
    | dsimp only

theorem queueCut_fol {kc : Touch} {s0 s : State} {a : Nat} {resId : Nat} {cut : Nat} (k_memb : kc.memb = true)
    (hfol : Follows kc s0 s) : Follows kc s0 (queueCut a resId cut s) := by
  unfold queueCut
  repeat' first
    | with_reducible assumption
    | with_reducible refine queueAck_fol ‹_› ?_
    | split
    | dsimp only

end Sys2Proof.Machine
end

