-- ==== Sys2Proof/Laws/FolSafe.lean ====
section
/-!
SUPPORT. What the operations of Machine/Safe.lean may change: one lemma each.
-/

set_option Elab.async false

namespace Sys2Proof.Machine

open Sys2Proof

theorem modMach_fol {kc : Touch} {s0 s : State} {m : Nat} {f : SafeMach → SafeMach} (k_safe : kc.safe = true)
    (hfol : Follows kc s0 s) : Follows kc s0 (modMach m f s) := by
  unfold modMach
  repeat' first
    | with_reducible assumption
    | intro _
    | with_reducible refine updSafe_fol ‹_› ?_
    | split
    | dsimp only

theorem noticeMach_fol {kc : Touch} {s0 s : State} {m : Nat} {ev : Nat} {cause : Nat} (k_regs : kc.regs = true) (k_gmp : kc.gmp = true)
    (hfol : Follows kc s0 s) : Follows kc s0 (noticeMach m ev cause s) := by
  unfold noticeMach
  repeat' first
    | with_reducible assumption
    | with_reducible refine notify_fol ‹_› ‹_› ?_
    | split
    | dsimp only

theorem noticeLatch_fol {kc : Touch} {s0 s : State} {who : Nat} {ev : Nat} {cause : Nat} (k_regs : kc.regs = true) (k_gmp : kc.gmp = true)
    (hfol : Follows kc s0 s) : Follows kc s0 (noticeLatch who ev cause s) := by
  unfold noticeLatch
  repeat' first
    | with_reducible assumption
    | intro _
    | with_reducible refine notify_fol ‹_› ‹_› ?_
    | split
    | dsimp only

theorem stopAt_fol {kc : Touch} {s0 s : State} {k : Nat} {glob : Bool} (k_safe : kc.safe = true)
    (hfol : Follows kc s0 s) : Follows kc s0 (stopAt k glob s) := by
  unfold stopAt
  repeat' first
    | with_reducible assumption
    | intro _
    | with_reducible refine ite_fol ?_ ?_
    | with_reducible refine updSafe_fol ‹_› ?_
    | split
    | dsimp only

theorem stopAll_fol {kc : Touch} {s0 s : State} (k_safe : kc.safe = true)
    (hfol : Follows kc s0 s) : Follows kc s0 (stopAll s) := by
  unfold stopAll
  repeat' first
    | with_reducible assumption
    | intro _
    | with_reducible refine stopAt_fol ‹_› ?_
    | with_reducible refine foldl_fol ?_ ?_
    | with_reducible refine foldl_fol1 ?_ ?_
    | split
    | dsimp only

theorem stopHome_fol {kc : Touch} {s0 s : State} {m : Nat} (k_safe : kc.safe = true)
    (hfol : Follows kc s0 s) : Follows kc s0 (stopHome m s) := by
  unfold stopHome
  repeat' first
    | with_reducible assumption
    | with_reducible refine fol_fst (by assumption) ?_
    | with_reducible refine stopAt_fol ‹_› ?_
    | split
    | dsimp only

theorem dynEval_fol {kc : Touch} {s0 s : State} (k_safe : kc.safe = true)
    (hfol : Follows kc s0 s) : Follows kc s0 (dynEval s) := by
  unfold dynEval
  repeat' first
    | with_reducible assumption
    | intro _
    | with_reducible refine ite_fol ?_ ?_
    | with_reducible refine updSafe_fol ‹_› ?_
    | split
    | dsimp only

theorem loseSync_fol {kc : Touch} {s0 s : State} {reason : Nat} (k_regs : kc.regs = true) (k_safe : kc.safe = true) (k_pair : kc.pair = true) (k_evr : kc.evr = true)
    (hfol : Follows kc s0 s) : Follows kc s0 (loseSync reason s) := by
  unfold loseSync
  repeat' first
    | with_reducible assumption
    | with_reducible refine dynEval_fol ‹_› ?_
    | with_reducible refine unsync_fol ‹_› ‹_› ‹_› ?_
    | split
    | dsimp only

theorem raiseEpoch_fol {kc : Touch} {s0 s : State} {pos : Nat × Nat} (k_safe : kc.safe = true)
    (hfol : Follows kc s0 s) : Follows kc s0 (raiseEpoch pos s) := by
  unfold raiseEpoch
  repeat' first
    | with_reducible assumption
    | intro _
    | with_reducible refine ite_fol ?_ ?_
    | with_reducible refine updSafe_fol ‹_› ?_
    | split
    | dsimp only

theorem covWithdraw_fol {kc : Touch} {s0 s : State} {pos : Nat × Nat} {m : Nat} (k_safe : kc.safe = true)
    (hfol : Follows kc s0 s) : Follows kc s0 (covWithdraw pos m s) := by
  unfold covWithdraw
  repeat' first
    | with_reducible assumption
    | intro _
    | with_reducible refine ite_fol ?_ ?_
    | with_reducible refine updSafe_fol ‹_› ?_
    | with_reducible refine raiseEpoch_fol ‹_› ?_
    | split
    | dsimp only

theorem covGlobal_fol {kc : Touch} {s0 s : State} {pos : Nat × Nat} (k_safe : kc.safe = true)
    (hfol : Follows kc s0 s) : Follows kc s0 (covGlobal pos s) := by
  unfold covGlobal
  repeat' first
    | with_reducible assumption
    | intro _
    | with_reducible refine ite_fol ?_ ?_
    | with_reducible refine updSafe_fol ‹_› ?_
    | with_reducible refine raiseEpoch_fol ‹_› ?_
    | split
    | dsimp only

theorem covGroup_fol {kc : Touch} {s0 s : State} {pos : Nat × Nat} {g : Nat} (k_safe : kc.safe = true)
    (hfol : Follows kc s0 s) : Follows kc s0 (covGroup pos g s) := by
  unfold covGroup
  repeat' first
    | with_reducible assumption
    | intro _
    | with_reducible refine ite_fol ?_ ?_
    | with_reducible refine updSafe_fol ‹_› ?_
    | with_reducible refine raiseEpoch_fol ‹_› ?_
    | split
    | dsimp only

theorem liveClear_fol {kc : Touch} {s0 s : State} {m cause : Nat} (k_regs : kc.regs = true) (k_gmp : kc.gmp = true) (k_safe : kc.safe = true)
    (hfol : Follows kc s0 s) : Follows kc s0 (liveClear m cause s) := by
  unfold liveClear
  refine noticeMach_fol ‹_› ‹_› (modMach_fol ‹_› (updSafe_folM ‹_› (fun i h => setBitN_false_sub h) (fun h => h) (fun q l => by show setBitN s.safe.permit _ false = 0; rw [q l]; exact setBitN_zero _) hfol))


theorem liveWithdraw_fol {kc : Touch} {s0 s : State} {m : Nat} {cause : Nat} (k_regs : kc.regs = true) (k_gmp : kc.gmp = true) (k_safe : kc.safe = true) (k_evr : kc.evr = true)
    (hfol : Follows kc s0 s) : Follows kc s0 (liveWithdraw m cause s) := by
  unfold liveWithdraw
  repeat' first
    | with_reducible assumption
    | with_reducible refine ite_fol ?_ ?_
    | with_reducible refine bump_fol ‹_› ?_
    | with_reducible refine evTrig_fol ‹_› ‹_› ?_
    | with_reducible refine liveClear_fol ‹_› ‹_› ‹_› ?_
    | with_reducible refine stopHome_fol ‹_› ?_
    | split
    | dsimp only

theorem liveGlobal_fol {kc : Touch} {s0 s : State} {cause code origin : Nat} (k_regs : kc.regs = true) (k_gmp : kc.gmp = true) (k_safe : kc.safe = true) (k_evr : kc.evr = true)
    (hfol : Follows kc s0 s) : Follows kc s0 (liveGlobal cause code origin s) := by
  unfold liveGlobal
  split
  · exact hfol
  · refine evTrig_fol ‹_› ‹_› (noticeLatch_fol ‹_› ‹_› (bump_fol ‹_› (stopAll_fol ‹_› (updSafe_folM ‹_› ?_ (fun _ => rfl) (fun _ _ => rfl) ?_))))
    · intro m h; simp at h
    · exact foldl_fol (fun t k h => liveClear_fol ‹_› ‹_› ‹_› h) hfol


theorem liveGroup_fol {kc : Touch} {s0 s : State} {g : Nat} {cause : Nat} (k_regs : kc.regs = true) (k_gmp : kc.gmp = true) (k_safe : kc.safe = true)
    (hfol : Follows kc s0 s) : Follows kc s0 (liveGroup g cause s) := by
  unfold liveGroup
  repeat' first
    | with_reducible assumption
    | intro _
    | with_reducible refine ite_fol ?_ ?_
    | with_reducible refine updSafe_fol ‹_› ?_
    | with_reducible refine liveClear_fol ‹_› ‹_› ‹_› ?_
    | with_reducible refine noticeLatch_fol ‹_› ‹_› ?_
    | with_reducible refine stopHome_fol ‹_› ?_
    | with_reducible refine foldl_fol ?_ ?_
    | with_reducible refine foldl_fol1 ?_ ?_
    | split
    | dsimp only

theorem withdraw_fol {kc : Touch} {s0 s : State} {pos : Nat × Nat} {m : Nat} {cause : Nat} (k_regs : kc.regs = true) (k_gmp : kc.gmp = true) (k_safe : kc.safe = true) (k_evr : kc.evr = true)
    (hfol : Follows kc s0 s) : Follows kc s0 (withdraw pos m cause s) := by
  unfold withdraw
  repeat' first
    | with_reducible assumption
    | with_reducible refine covWithdraw_fol ‹_› ?_
    | with_reducible refine liveWithdraw_fol ‹_› ‹_› ‹_› ‹_› ?_
    | split
    | dsimp only

theorem pendantStop_fol {kc : Touch} {s0 s : State} {pos : Nat × Nat} {p : Nat} (k_regs : kc.regs = true) (k_gmp : kc.gmp = true) (k_safe : kc.safe = true) (k_evr : kc.evr = true)
    (hfol : Follows kc s0 s) : Follows kc s0 (pendantStop pos p s) := by
  unfold pendantStop
  repeat' first
    | with_reducible assumption
    | with_reducible refine ite_fol ?_ ?_
    | with_reducible refine covGlobal_fol ‹_› ?_
    | with_reducible refine covGroup_fol ‹_› ?_
    | with_reducible refine liveGlobal_fol ‹_› ‹_› ‹_› ‹_› ?_
    | with_reducible refine liveGroup_fol ‹_› ‹_› ‹_› ?_
    | split
    | dsimp only

theorem post_fol {kc : Touch} {s0 s : State} {p : Payload} {cov : State → State} (k_jr : kc.jr = true) (k_regs : kc.regs = true) (k_gmp : kc.gmp = true) (k_pair : kc.pair = true)
    (f_cov : ∀ (t : State), Follows kc s0 t → Follows kc s0 (cov t))
    (hfol : Follows kc s0 s) : Follows kc s0 (post p cov s) := by
  unfold post
  repeat' first
    | with_reducible assumption
    | intro _
    | with_reducible refine ite_fol ?_ ?_
    | with_reducible refine updJr_fol ‹_› ?_
    | with_reducible refine jWrite_fol ‹_› ‹_› ‹_› ‹_› ?_
    | with_reducible apply f_cov
    | split
    | dsimp only

theorem faultRecord_fol {kc : Touch} {s0 s : State} (k_regs : kc.regs = true) (k_evr : kc.evr = true)
    (hfol : Follows kc s0 s) : Follows kc s0 (faultRecord s) := by
  unfold faultRecord
  repeat' first
    | with_reducible assumption
    | with_reducible refine fol_fst (by assumption) ?_
    | with_reducible refine evTrig_fol ‹_› ‹_› ?_
    | split
    | dsimp only

theorem covFault_fol {kc : Touch} {s0 s : State} {unit : Nat} {code : Nat} {phase : Nat} (k_safe : kc.safe = true)
    (hfol : Follows kc s0 s) : Follows kc s0 (covFault unit code phase s) := by
  unfold covFault
  repeat' first
    | with_reducible assumption
    | intro _
    | with_reducible refine ite_fol ?_ ?_
    | with_reducible refine updSafe_fol ‹_› ?_
    | with_reducible refine covGlobal_fol ‹_› ?_
    | split
    | dsimp only

theorem postFault_fol {kc : Touch} {s0 s : State} {unit : Nat} {code : Nat} {phase : Nat} (k_jr : kc.jr = true) (k_regs : kc.regs = true) (k_gmp : kc.gmp = true) (k_safe : kc.safe = true) (k_pair : kc.pair = true) (k_evr : kc.evr = true)
    (hfol : Follows kc s0 s) : Follows kc s0 (postFault unit code phase s) := by
  unfold postFault
  repeat' first
    | with_reducible assumption
    | intro _
    | with_reducible refine covFault_fol ‹_› ?_
    | with_reducible refine faultRecord_fol ‹_› ‹_› ?_
    | with_reducible refine post_fol ‹_› ‹_› ‹_› ‹_› ?_ ?_
    | split
    | dsimp only

theorem faultRaise_fol {kc : Touch} {s0 s : State} {code : Nat} (k_jr : kc.jr = true) (k_regs : kc.regs = true) (k_gmp : kc.gmp = true) (k_safe : kc.safe = true) (k_pair : kc.pair = true) (k_evr : kc.evr = true)
    (hfol : Follows kc s0 s) : Follows kc s0 (faultRaise code s) := by
  unfold faultRaise
  repeat' first
    | with_reducible assumption
    | intro _
    | with_reducible refine ite_fol ?_ ?_
    | with_reducible refine updSafe_fol ‹_› ?_
    | with_reducible refine alarm_fol ‹_› ?_
    | with_reducible refine dynEval_fol ‹_› ?_
    | with_reducible refine eligWatch_fol ‹_› ‹_› ?_
    | with_reducible refine liveGlobal_fol ‹_› ‹_› ‹_› ‹_› ?_
    | with_reducible refine postFault_fol ‹_› ‹_› ‹_› ‹_› ‹_› ‹_› ?_
    | split
    | dsimp only

theorem faultEnd_fol {kc : Touch} {s0 s : State} {code : Nat} (k_jr : kc.jr = true) (k_regs : kc.regs = true) (k_gmp : kc.gmp = true) (k_safe : kc.safe = true) (k_pair : kc.pair = true) (k_evr : kc.evr = true)
    (hfol : Follows kc s0 s) : Follows kc s0 (faultEnd code s) := by
  unfold faultEnd
  repeat' first
    | with_reducible assumption
    | intro _
    | with_reducible refine ite_fol ?_ ?_
    | with_reducible refine updSafe_fol ‹_› ?_
    | with_reducible refine postFault_fol ‹_› ‹_› ‹_› ‹_› ‹_› ‹_› ?_
    | split
    | dsimp only

theorem covEstop_fol {kc : Touch} {s0 s : State} {b : Nat} (k_safe : kc.safe = true)
    (hfol : Follows kc s0 s) : Follows kc s0 (covEstop b s) := by
  unfold covEstop
  repeat' first
    | with_reducible assumption
    | intro _
    | with_reducible refine ite_fol ?_ ?_
    | with_reducible refine updSafe_fol ‹_› ?_
    | with_reducible refine covGlobal_fol ‹_› ?_
    | split
    | dsimp only

theorem enterInput_fol {kc : Touch} {s0 s : State} {st : InputState} (k_jr : kc.jr = true) (k_regs : kc.regs = true) (k_gmp : kc.gmp = true) (k_safe : kc.safe = true) (k_pair : kc.pair = true) (k_evr : kc.evr = true)
    (hfol : Follows kc s0 s) : Follows kc s0 (enterInput st s) := by
  unfold enterInput
  repeat' first
    | with_reducible assumption
    | intro _
    | with_reducible refine ite_fol ?_ ?_
    | with_reducible refine updSafe_fol ‹_› ?_
    | with_reducible refine alarm_fol ‹_› ?_
    | with_reducible refine bump_fol ‹_› ?_
    | with_reducible refine covEstop_fol ‹_› ?_
    | with_reducible refine dynEval_fol ‹_› ?_
    | with_reducible refine evTrig_fol ‹_› ‹_› ?_
    | with_reducible refine liveGlobal_fol ‹_› ‹_› ‹_› ‹_› ?_
    | with_reducible refine post_fol ‹_› ‹_› ‹_› ‹_› ?_ ?_
    | split
    | dsimp only

theorem pairEval_fol {kc : Touch} {s0 s : State} (k_jr : kc.jr = true) (k_regs : kc.regs = true) (k_gmp : kc.gmp = true) (k_safe : kc.safe = true) (k_pair : kc.pair = true) (k_evr : kc.evr = true)
    (hfol : Follows kc s0 s) : Follows kc s0 (pairEval s) := by
  unfold pairEval
  repeat' first
    | with_reducible assumption
    | with_reducible refine fol_fst (by assumption) ?_
    | intro _
    | with_reducible refine ite_fol ?_ ?_
    | with_reducible refine updSafe_fol ‹_› ?_
    | with_reducible refine enterInput_fol ‹_› ‹_› ‹_› ‹_› ‹_› ‹_› ?_
    | split
    | dsimp only

theorem execEstopInputEdge_fol {kc : Touch} {s0 s : State} {chA : Bool} {level : Bool} {ns : Nat} (k_time : kc.time = true) (k_safe : kc.safe = true)
    (hfol : Follows kc s0 s) : OutFollows kc s0 (execEstopInputEdge chA level ns s) := by
  unfold execEstopInputEdge
  repeat' first
    | with_reducible assumption
    | intro _
    | with_reducible refine ite_folO ?_ ?_
    | with_reducible refine ite_fol ?_ ?_
    | with_reducible refine next_fol ?_
    | with_reducible refine updSafe_fol ‹_› ?_
    | with_reducible refine advTo_fol ‹_› ?_
    | split
    | dsimp only

theorem execEstopFilteredChange_fol {kc : Touch} {s0 s : State} {chA : Bool} (k_time : kc.time = true) (k_jr : kc.jr = true) (k_regs : kc.regs = true) (k_gmp : kc.gmp = true) (k_safe : kc.safe = true) (k_pair : kc.pair = true) (k_evr : kc.evr = true)
    (hfol : Follows kc s0 s) : OutFollows kc s0 (execEstopFilteredChange chA s) := by
  unfold execEstopFilteredChange
  repeat' first
    | with_reducible assumption
    | intro _
    | with_reducible refine ite_folO ?_ ?_
    | with_reducible refine ite_fol ?_ ?_
    | with_reducible refine next_fol ?_
    | with_reducible refine updSafe_fol ‹_› ?_
    | with_reducible refine advOp_fol ‹_› ?_
    | with_reducible refine pairEval_fol ‹_› ‹_› ‹_› ‹_› ‹_› ‹_› ?_
    | split
    | dsimp only

theorem execDiscrepancy_fol {kc : Touch} {s0 s : State} (k_time : kc.time = true) (k_jr : kc.jr = true) (k_regs : kc.regs = true) (k_gmp : kc.gmp = true) (k_safe : kc.safe = true) (k_pair : kc.pair = true) (k_evr : kc.evr = true)
    (hfol : Follows kc s0 s) : OutFollows kc s0 (execDiscrepancy s) := by
  unfold execDiscrepancy
  repeat' first
    | with_reducible assumption
    | with_reducible refine fol_fst (by assumption) ?_
    | with_reducible refine next_fol ?_
    | with_reducible refine advOp_fol ‹_› ?_
    | with_reducible refine enterInput_fol ‹_› ‹_› ‹_› ‹_› ‹_› ‹_› ?_
    | split
    | dsimp only

theorem armOp_fol {kc : Touch} {s0 s : State} {grp : Option Nat} (k_safe : kc.safe = true)
    (hfol : Follows kc s0 s) : Follows kc s0 (armOp grp s).1 := by
  unfold armOp
  repeat' first
    | with_reducible assumption
    | with_reducible refine fol_fst (by assumption) ?_
    | intro _
    | with_reducible refine ite_fol1 ?_ ?_
    | with_reducible refine ite_fol ?_ ?_
    | with_reducible refine updSafe_fol ‹_› ?_
    | split
    | dsimp only

theorem releaseLatch_fol {kc : Touch} {s0 s : State} {a : Arm} (k_regs : kc.regs = true) (k_gmp : kc.gmp = true) (k_safe : kc.safe = true) (k_evr : kc.evr = true) (k_key : kc.key = true) (k_grant : kc.grant = true)
    (hfol : Follows kc s0 s) : Follows kc s0 (releaseLatch a s) := by
  unfold releaseLatch
  repeat' first
    | with_reducible assumption
    | with_reducible refine fol_fst (by assumption) ?_
    | intro _
    | with_reducible refine updSafe_fol ‹_› ?_
    | with_reducible refine updKey_fol ‹_› ?_
    | with_reducible refine evTrig_fol ‹_› ‹_› ?_
    | with_reducible refine noticeLatch_fol ‹_› ‹_› ?_
    | refine updSafe_folG ‹_› ‹_› ?_ (fun _ l => by cases l)
    | split
    | dsimp only

theorem confirmOp_fol {kc : Touch} {s0 s : State} {token : Nat} (k_regs : kc.regs = true) (k_gmp : kc.gmp = true) (k_safe : kc.safe = true) (k_evr : kc.evr = true) (k_key : kc.key = true) (k_grant : kc.grant = true)
    (hfol : Follows kc s0 s) : Follows kc s0 (confirmOp token s).1 := by
  unfold confirmOp
  repeat' first
    | with_reducible assumption
    | with_reducible refine fol_fst (by assumption) ?_
    | intro _
    | with_reducible refine ite_fol1 ?_ ?_
    | with_reducible refine ite_fol ?_ ?_
    | with_reducible refine updSafe_fol ‹_› ?_
    | with_reducible refine releaseLatch_fol ‹_› ‹_› ‹_› ‹_› ‹_› ‹_› ?_
    | split
    | dsimp only

theorem grant_fol {kc : Touch} {s0 s : State} {pos : Nat × Nat} {m : Nat} (hl : s.safe.latch = false) (k_regs : kc.regs = true) (k_gmp : kc.gmp = true) (k_safe : kc.safe = true) (k_grant : kc.grant = true)
    (hfol : Follows kc s0 s) : Follows kc s0 (grant pos m s) := by
  unfold grant
  exact noticeMach_fol ‹_› ‹_› (bump_fol ‹_› (modMach_fol ‹_› (updSafe_folG ‹_› ‹_› hfol
    (fun _ l => by rw [show s.safe.latch = true from l] at hl; cases hl))))


theorem releaseReason_latch {s : State} {m : Nat} (h : releaseReason s m = 0) : s.safe.latch = false := by
  unfold releaseReason firstErr at h
  cases q : s.safe.latch with
  | false => rfl
  | true => simp [q] at h

theorem releaseOp_fol {kc : Touch} {s0 s : State} {pos : Nat × Nat} {m : Nat} (k_regs : kc.regs = true) (k_gmp : kc.gmp = true) (k_safe : kc.safe = true) (k_grant : kc.grant = true)
    (hfol : Follows kc s0 s) : Follows kc s0 (releaseOp pos m s).1 := by
  unfold releaseOp
  dsimp only
  split
  · exact bump_fol ‹_› (updSafe_fol ‹_› hfol)
  · rename_i q
    simp only [ne_eq, Decidable.not_not] at q
    split
    · exact hfol
    · exact grant_fol (releaseReason_latch q) ‹_› ‹_› ‹_› ‹_› hfol


theorem safeCov_fol {kc : Touch} {s0 s : State} {pos : Nat × Nat} {w : Word} (k_regs : kc.regs = true) (k_gmp : kc.gmp = true) (k_safe : kc.safe = true) (k_evr : kc.evr = true) (k_key : kc.key = true) (k_grant : kc.grant = true)
    (hfol : Follows kc s0 s) : Follows kc s0 (safeCov pos w s).1 := by
  unfold safeCov
  repeat' first
    | with_reducible assumption
    | intro _
    | with_reducible refine ite_fol1 ?_ ?_
    | with_reducible refine ite_fol ?_ ?_
    | with_reducible refine updSafe_fol ‹_› ?_
    | with_reducible refine armOp_fol ‹_› ?_
    | with_reducible refine confirmOp_fol ‹_› ‹_› ‹_› ‹_› ‹_› ‹_› ?_
    | with_reducible refine covGlobal_fol ‹_› ?_
    | with_reducible refine covGroup_fol ‹_› ?_
    | with_reducible refine covWithdraw_fol ‹_› ?_
    | with_reducible refine releaseOp_fol ‹_› ‹_› ‹_› ‹_› ?_
    | split
    | dsimp only

theorem safeLive_fol {kc : Touch} {s0 s : State} {sess : Nat} {w : Word} (k_regs : kc.regs = true) (k_gmp : kc.gmp = true) (k_safe : kc.safe = true) (k_evr : kc.evr = true)
    (hfol : Follows kc s0 s) : Follows kc s0 (safeLive sess w s) := by
  unfold safeLive
  repeat' first
    | with_reducible assumption
    | with_reducible refine ite_fol ?_ ?_
    | with_reducible refine liveGlobal_fol ‹_› ‹_› ‹_› ‹_› ?_
    | with_reducible refine liveGroup_fol ‹_› ‹_› ‹_› ?_
    | with_reducible refine liveWithdraw_fol ‹_› ‹_› ‹_› ‹_› ?_
    | with_reducible refine stopAll_fol ‹_› ?_
    | with_reducible refine stopHome_fol ‹_› ?_
    | split
    | dsimp only

theorem safeDecide_fol {kc : Touch} {s0 s : State} {pos : Nat × Nat} {w : Word} (k_regs : kc.regs = true) (k_gmp : kc.gmp = true) (k_safe : kc.safe = true) (k_evr : kc.evr = true) (k_key : kc.key = true) (k_grant : kc.grant = true)
    (hfol : Follows kc s0 s) : Follows kc s0 (safeDecide pos w s).1 := by
  unfold safeDecide
  repeat' first
    | with_reducible assumption
    | intro _
    | with_reducible refine updSafe_fol ‹_› ?_
    | with_reducible refine safeCov_fol ‹_› ‹_› ‹_› ‹_› ‹_› ‹_› ?_
    | split
    | dsimp only

theorem safeHandler_fol {kc : Touch} {s0 s : State} {w : Word} {x : ReqCtx} (k_regs : kc.regs = true) (k_gmp : kc.gmp = true) (k_safe : kc.safe = true) (k_evr : kc.evr = true) (k_key : kc.key = true) (k_grant : kc.grant = true)
    (hfol : Follows kc s0 s) : Follows kc s0 (safeHandler w x s).1 := by
  unfold safeHandler
  repeat' first
    | with_reducible assumption
    | intro _
    | with_reducible refine safeDecide_fol ‹_› ‹_› ‹_› ‹_› ‹_› ‹_› ?_
    | with_reducible refine safeLive_fol ‹_› ‹_› ‹_› ‹_› ?_
    | split
    | dsimp only

theorem safeWriteHandler_fol {kc : Touch} {s0 s : State} {w : Word} {x : ReqCtx} (k_regs : kc.regs = true) (k_gmp : kc.gmp = true) (k_safe : kc.safe = true) (k_evr : kc.evr = true) (k_key : kc.key = true) (k_grant : kc.grant = true)
    (hfol : Follows kc s0 s) : Follows kc s0 (safeWriteHandler w x s).1 := by
  unfold safeWriteHandler
  repeat' first
    | with_reducible assumption
    | intro _
    | with_reducible refine safeDecide_fol ‹_› ‹_› ‹_› ‹_› ‹_› ‹_› ?_
    | with_reducible refine safeLive_fol ‹_› ‹_› ‹_› ‹_› ?_
    | with_reducible refine wordHandler_fol ?_ ?_
    | split
    | dsimp only

theorem safeCmd_fol {kc : Touch} {s0 s : State} {h : GmpHdr} {asWrite : Bool} {w : Word} (k_jr : kc.jr = true) (k_regs : kc.regs = true) (k_gmp : kc.gmp = true) (k_safe : kc.safe = true) (k_sched : kc.sched = true) (k_pair : kc.pair = true) (k_evr : kc.evr = true) (k_key : kc.key = true) (k_grant : kc.grant = true) (k_sess : kc.sess = true)
    (hfol : Follows kc s0 s) : Follows kc s0 (safeCmd h asWrite w s) := by
  unfold safeCmd
  repeat' first
    | with_reducible assumption
    | intro _
    | with_reducible refine ite_fol ?_ ?_
    | with_reducible refine gmpRequest_fol ‹_› ‹_› ‹_› ‹_› ‹_› ‹_› ?_ ?_
    | with_reducible refine safeHandler_fol ‹_› ‹_› ‹_› ‹_› ‹_› ‹_› ?_
    | with_reducible refine safeWriteHandler_fol ‹_› ‹_› ‹_› ‹_› ‹_› ‹_› ?_
    | split
    | dsimp only

theorem execStopAll_fol {kc : Touch} {s0 s : State} {h : GmpHdr} {asWrite : Bool} (k_jr : kc.jr = true) (k_regs : kc.regs = true) (k_gmp : kc.gmp = true) (k_safe : kc.safe = true) (k_sched : kc.sched = true) (k_pair : kc.pair = true) (k_evr : kc.evr = true) (k_key : kc.key = true) (k_grant : kc.grant = true) (k_sess : kc.sess = true)
    (hfol : Follows kc s0 s) : OutFollows kc s0 (execStopAll h asWrite s) := by
  unfold execStopAll
  repeat' first
    | with_reducible assumption
    | with_reducible refine next_fol ?_
    | with_reducible refine safeCmd_fol ‹_› ‹_› ‹_› ‹_› ‹_› ‹_› ‹_› ‹_› ‹_› ‹_› ?_
    | split
    | dsimp only

theorem execStopGroup_fol {kc : Touch} {s0 s : State} {h : GmpHdr} {asWrite : Bool} {group : Nat} (k_jr : kc.jr = true) (k_regs : kc.regs = true) (k_gmp : kc.gmp = true) (k_safe : kc.safe = true) (k_sched : kc.sched = true) (k_pair : kc.pair = true) (k_evr : kc.evr = true) (k_key : kc.key = true) (k_grant : kc.grant = true) (k_sess : kc.sess = true)
    (hfol : Follows kc s0 s) : OutFollows kc s0 (execStopGroup h asWrite group s) := by
  unfold execStopGroup
  repeat' first
    | with_reducible assumption
    | with_reducible refine next_fol ?_
    | with_reducible refine safeCmd_fol ‹_› ‹_› ‹_› ‹_› ‹_› ‹_› ‹_› ‹_› ‹_› ‹_› ?_
    | split
    | dsimp only

theorem execStopMachine_fol {kc : Touch} {s0 s : State} {h : GmpHdr} {asWrite : Bool} {addr : Nat} (k_jr : kc.jr = true) (k_regs : kc.regs = true) (k_gmp : kc.gmp = true) (k_safe : kc.safe = true) (k_sched : kc.sched = true) (k_pair : kc.pair = true) (k_evr : kc.evr = true) (k_key : kc.key = true) (k_grant : kc.grant = true) (k_sess : kc.sess = true)
    (hfol : Follows kc s0 s) : OutFollows kc s0 (execStopMachine h asWrite addr s) := by
  unfold execStopMachine
  repeat' first
    | with_reducible assumption
    | with_reducible refine next_fol ?_
    | with_reducible refine safeCmd_fol ‹_› ‹_› ‹_› ‹_› ‹_› ‹_› ‹_› ‹_› ‹_› ‹_› ?_
    | split
    | dsimp only

theorem execArmAll_fol {kc : Touch} {s0 s : State} {h : GmpHdr} {asWrite : Bool} (k_jr : kc.jr = true) (k_regs : kc.regs = true) (k_gmp : kc.gmp = true) (k_safe : kc.safe = true) (k_sched : kc.sched = true) (k_pair : kc.pair = true) (k_evr : kc.evr = true) (k_key : kc.key = true) (k_grant : kc.grant = true) (k_sess : kc.sess = true)
    (hfol : Follows kc s0 s) : OutFollows kc s0 (execArmAll h asWrite s) := by
  unfold execArmAll
  repeat' first
    | with_reducible assumption
    | with_reducible refine next_fol ?_
    | with_reducible refine safeCmd_fol ‹_› ‹_› ‹_› ‹_› ‹_› ‹_› ‹_› ‹_› ‹_› ‹_› ?_
    | split
    | dsimp only

theorem execArmGroup_fol {kc : Touch} {s0 s : State} {h : GmpHdr} {asWrite : Bool} {group : Nat} (k_jr : kc.jr = true) (k_regs : kc.regs = true) (k_gmp : kc.gmp = true) (k_safe : kc.safe = true) (k_sched : kc.sched = true) (k_pair : kc.pair = true) (k_evr : kc.evr = true) (k_key : kc.key = true) (k_grant : kc.grant = true) (k_sess : kc.sess = true)
    (hfol : Follows kc s0 s) : OutFollows kc s0 (execArmGroup h asWrite group s) := by
  unfold execArmGroup
  repeat' first
    | with_reducible assumption
    | with_reducible refine next_fol ?_
    | with_reducible refine safeCmd_fol ‹_› ‹_› ‹_› ‹_› ‹_› ‹_› ‹_› ‹_› ‹_› ‹_› ?_
    | split
    | dsimp only

theorem execConfirm_fol {kc : Touch} {s0 s : State} {h : GmpHdr} {asWrite : Bool} {token : Nat} (k_jr : kc.jr = true) (k_regs : kc.regs = true) (k_gmp : kc.gmp = true) (k_safe : kc.safe = true) (k_sched : kc.sched = true) (k_pair : kc.pair = true) (k_evr : kc.evr = true) (k_key : kc.key = true) (k_grant : kc.grant = true) (k_sess : kc.sess = true)
    (hfol : Follows kc s0 s) : OutFollows kc s0 (execConfirm h asWrite token s) := by
  unfold execConfirm
  repeat' first
    | with_reducible assumption
    | with_reducible refine next_fol ?_
    | with_reducible refine safeCmd_fol ‹_› ‹_› ‹_› ‹_› ‹_› ‹_› ‹_› ‹_› ‹_› ‹_› ?_
    | split
    | dsimp only

theorem execRelease_fol {kc : Touch} {s0 s : State} {h : GmpHdr} {asWrite : Bool} {addr : Nat} (k_jr : kc.jr = true) (k_regs : kc.regs = true) (k_gmp : kc.gmp = true) (k_safe : kc.safe = true) (k_sched : kc.sched = true) (k_pair : kc.pair = true) (k_evr : kc.evr = true) (k_key : kc.key = true) (k_grant : kc.grant = true) (k_sess : kc.sess = true)
    (hfol : Follows kc s0 s) : OutFollows kc s0 (execRelease h asWrite addr s) := by
  unfold execRelease
  repeat' first
    | with_reducible assumption
    | with_reducible refine next_fol ?_
    | with_reducible refine safeCmd_fol ‹_› ‹_› ‹_› ‹_› ‹_› ‹_› ‹_› ‹_› ‹_› ‹_› ?_
    | split
    | dsimp only

theorem execDisarm_fol {kc : Touch} {s0 s : State} {h : GmpHdr} {asWrite : Bool} (k_jr : kc.jr = true) (k_regs : kc.regs = true) (k_gmp : kc.gmp = true) (k_safe : kc.safe = true) (k_sched : kc.sched = true) (k_pair : kc.pair = true) (k_evr : kc.evr = true) (k_key : kc.key = true) (k_grant : kc.grant = true) (k_sess : kc.sess = true)
    (hfol : Follows kc s0 s) : OutFollows kc s0 (execDisarm h asWrite s) := by
  unfold execDisarm
  repeat' first
    | with_reducible assumption
    | with_reducible refine next_fol ?_
    | with_reducible refine safeCmd_fol ‹_› ‹_› ‹_› ‹_› ‹_› ‹_› ‹_› ‹_› ‹_› ‹_› ?_
    | split
    | dsimp only

theorem execWithdrawalRequest_fol {kc : Touch} {s0 s : State} {m : Nat} {cause : Nat} {sf : Nat} {seq : Nat} (k_regs : kc.regs = true) (k_gmp : kc.gmp = true) (k_safe : kc.safe = true) (k_evr : kc.evr = true)
    (hfol : Follows kc s0 s) : OutFollows kc s0 (execWithdrawalRequest m cause sf seq s) := by
  unfold execWithdrawalRequest
  repeat' first
    | with_reducible assumption
    | with_reducible refine ite_folO ?_ ?_
    | with_reducible refine ite_fol ?_ ?_
    | with_reducible refine next_fol ?_
    | with_reducible refine withdraw_fol ‹_› ‹_› ‹_› ‹_› ?_
    | split
    | dsimp only

theorem leaseCheck_fol {kc : Touch} {s0 s : State} {m : Nat} (k_regs : kc.regs = true) (k_gmp : kc.gmp = true) (k_safe : kc.safe = true) (k_evr : kc.evr = true)
    (hfol : Follows kc s0 s) : Follows kc s0 (leaseCheck m s) := by
  unfold leaseCheck
  repeat' first
    | with_reducible assumption
    | with_reducible refine ite_fol ?_ ?_
    | with_reducible refine withdraw_fol ‹_› ‹_› ‹_› ‹_› ?_
    | split
    | dsimp only

theorem mirrorUpdate_fol {kc : Touch} {s0 s : State} {prevSf : Nat} (k_safe : kc.safe = true)
    (hfol : Follows kc s0 s) : Follows kc s0 (mirrorUpdate prevSf s) := by
  unfold mirrorUpdate
  repeat' first
    | with_reducible assumption
    | with_reducible refine fol_fst (by assumption) ?_
    | intro _
    | with_reducible refine ite_fol ?_ ?_
    | with_reducible refine modMach_fol ‹_› ?_
    | with_reducible refine foldl_fol ?_ ?_
    | with_reducible refine foldl_fol1 ?_ ?_
    | split
    | dsimp only

theorem execLeaseExpiry_fol {kc : Touch} {s0 s : State} {m : Nat} (k_regs : kc.regs = true) (k_gmp : kc.gmp = true) (k_safe : kc.safe = true) (k_evr : kc.evr = true)
    (hfol : Follows kc s0 s) : OutFollows kc s0 (execLeaseExpiry m s) := by
  unfold execLeaseExpiry
  repeat' first
    | with_reducible assumption
    | with_reducible refine ite_folO ?_ ?_
    | with_reducible refine ite_fol ?_ ?_
    | with_reducible refine next_fol ?_
    | with_reducible refine leaseCheck_fol ‹_› ‹_› ‹_› ‹_› ?_
    | split
    | dsimp only

theorem execSafeLogic_fol {kc : Touch} {s0 s : State} (k_jr : kc.jr = true) (k_regs : kc.regs = true) (k_gmp : kc.gmp = true) (k_safe : kc.safe = true) (k_pair : kc.pair = true) (k_evr : kc.evr = true)
    (hfol : Follows kc s0 s) : OutFollows kc s0 (execSafeLogic s) := by
  unfold execSafeLogic
  repeat' first
    | with_reducible assumption
    | with_reducible refine next_fol ?_
    | with_reducible refine faultRaise_fol ‹_› ‹_› ‹_› ‹_› ‹_› ‹_› ?_
    | split
    | dsimp only

theorem execSafeStore_fol {kc : Touch} {s0 s : State} {copyOk : Bool} (k_jr : kc.jr = true) (k_regs : kc.regs = true) (k_gmp : kc.gmp = true) (k_safe : kc.safe = true) (k_pair : kc.pair = true) (k_evr : kc.evr = true)
    (hfol : Follows kc s0 s) : OutFollows kc s0 (execSafeStore copyOk s) := by
  unfold execSafeStore
  repeat' first
    | with_reducible assumption
    | with_reducible refine ite_folO ?_ ?_
    | with_reducible refine ite_fol ?_ ?_
    | with_reducible refine next_fol ?_
    | with_reducible refine bumpF_fol ‹_› ?_
    | with_reducible refine faultRaise_fol ‹_› ‹_› ‹_› ‹_› ‹_› ‹_› ?_
    | split
    | dsimp only

theorem execSafeClock_fol {kc : Touch} {s0 s : State} (k_jr : kc.jr = true) (k_regs : kc.regs = true) (k_gmp : kc.gmp = true) (k_safe : kc.safe = true) (k_pair : kc.pair = true) (k_evr : kc.evr = true)
    (hfol : Follows kc s0 s) : OutFollows kc s0 (execSafeClock s) := by
  unfold execSafeClock
  repeat' first
    | with_reducible assumption
    | intro _
    | with_reducible refine next_fol ?_
    | with_reducible refine updSafe_fol ‹_› ?_
    | with_reducible refine faultRaise_fol ‹_› ‹_› ‹_› ‹_› ‹_› ‹_› ?_
    | split
    | dsimp only

theorem execSafeClockRestored_fol {kc : Touch} {s0 s : State} (k_jr : kc.jr = true) (k_regs : kc.regs = true) (k_gmp : kc.gmp = true) (k_safe : kc.safe = true) (k_pair : kc.pair = true) (k_evr : kc.evr = true)
    (hfol : Follows kc s0 s) : OutFollows kc s0 (execSafeClockRestored s) := by
  unfold execSafeClockRestored
  repeat' first
    | with_reducible assumption
    | intro _
    | with_reducible refine next_fol ?_
    | with_reducible refine updSafe_fol ‹_› ?_
    | with_reducible refine faultEnd_fol ‹_› ‹_› ‹_› ‹_› ‹_› ‹_› ?_
    | split
    | dsimp only

theorem execSeqFault_fol {kc : Touch} {s0 s : State} (k_jr : kc.jr = true) (k_regs : kc.regs = true) (k_gmp : kc.gmp = true) (k_safe : kc.safe = true) (k_pair : kc.pair = true) (k_evr : kc.evr = true)
    (hfol : Follows kc s0 s) : OutFollows kc s0 (execSeqFault s) := by
  unfold execSeqFault
  repeat' first
    | with_reducible assumption
    | with_reducible refine next_fol ?_
    | with_reducible refine faultRaise_fol ‹_› ‹_› ‹_› ‹_› ‹_› ‹_› ?_
    | split
    | dsimp only

theorem execPermitDynToggle_fol {kc : Touch} {s0 s : State} (k_time : kc.time = true) (k_safe : kc.safe = true)
    (hfol : Follows kc s0 s) : OutFollows kc s0 (execPermitDynToggle s) := by
  unfold execPermitDynToggle
  repeat' first
    | with_reducible assumption
    | intro _
    | with_reducible refine ite_folO ?_ ?_
    | with_reducible refine ite_fol ?_ ?_
    | with_reducible refine next_fol ?_
    | with_reducible refine updSafe_fol ‹_› ?_
    | with_reducible refine advTo_fol ‹_› ?_
    | with_reducible refine dynEval_fol ‹_› ?_
    | split
    | dsimp only

end Sys2Proof.Machine
end

