-- ==== Sys2Proof/Laws/FolScreed.lean ====
section
/-!
SUPPORT. What the operations of Machine/Screed.lean may change: one lemma each.
-/

set_option Elab.async false

namespace Sys2Proof.Machine

open Sys2Proof

theorem sendNotice_fol {kc : Touch} {s0 s : State} {n : TaskNotice} (k_regs : kc.regs = true) (k_gmp : kc.gmp = true)
    (hfol : Follows kc s0 s) : Follows kc s0 (sendNotice n s) := by
  unfold sendNotice
  repeat' first
    | with_reducible assumption
    | intro _
    | with_reducible refine notify_fol ‹_› ‹_› ?_
    | split
    | dsimp only

theorem taskFreed_fol {kc : Touch} {s0 s : State} {expired : Bool} {sf : Nat} {resId : Nat} (k_regs : kc.regs = true) (k_gmp : kc.gmp = true) (k_scr : kc.scr = true)
    (hfol : Follows kc s0 s) : Follows kc s0 (taskFreed expired sf resId s) := by
  unfold taskFreed
  repeat' first
    | with_reducible assumption
    | with_reducible refine fol_fst (by assumption) ?_
    | intro _
    | with_reducible refine ite_fol ?_ ?_
    | with_reducible refine updScr_fol ‹_› ?_
    | with_reducible refine sendNotice_fol ‹_› ‹_› ?_
    | split
    | dsimp only

theorem setCov_fol {kc : Touch} {s0 s : State} {c : ScrCov} (k_scr : kc.scr = true)
    (hfol : Follows kc s0 s) : Follows kc s0 (setCov c s) := by
  unfold setCov
  repeat' first
    | with_reducible assumption
    | intro _
    | with_reducible refine updScr_fol ‹_› ?_
    | split
    | dsimp only

theorem submitTrack_fol {kc : Touch} {s0 s : State} {c : ReqCtx} {b : TrackBody} {task : TrackRes → Option TaskNotice} (k_regs : kc.regs = true) (k_scr : kc.scr = true) (k_sched : kc.sched = true)
    (hfol : Follows kc s0 s) : Follows kc s0 (submitTrack c b task s).1 := by
  unfold submitTrack
  repeat' first
    | with_reducible assumption
    | intro _
    | with_reducible refine updScr_fol ‹_› ?_
    | with_reducible refine createJob_fol ‹_› ‹_› ?_
    | with_reducible refine setCov_fol ‹_› ?_
    | split
    | dsimp only

theorem trackHandler_fol {kc : Touch} {s0 s : State} {b : TrackBody} {x : ReqCtx} (k_regs : kc.regs = true) (k_scr : kc.scr = true) (k_sched : kc.sched = true)
    (hfol : Follows kc s0 s) : Follows kc s0 (trackHandler b x s).1 := by
  unfold trackHandler
  repeat' first
    | with_reducible assumption
    | intro _
    | with_reducible refine ite_fol1 ?_ ?_
    | with_reducible refine ite_fol ?_ ?_
    | with_reducible refine submitTrack_fol ‹_› ‹_› ‹_› ?_
    | split
    | dsimp only

theorem execTrack_fol {kc : Touch} {s0 s : State} {h : GmpHdr} {b : TrackBody} (k_jr : kc.jr = true) (k_regs : kc.regs = true) (k_gmp : kc.gmp = true) (k_scr : kc.scr = true) (k_sched : kc.sched = true) (k_pair : kc.pair = true) (k_sess : kc.sess = true)
    (hfol : Follows kc s0 s) : OutFollows kc s0 (execTrack h b s) := by
  unfold execTrack
  repeat' first
    | with_reducible assumption
    | intro _
    | with_reducible refine next_fol ?_
    | with_reducible refine gmpRequest_fol ‹_› ‹_› ‹_› ‹_› ‹_› ‹_› ?_ ?_
    | with_reducible refine trackHandler_fol ‹_› ‹_› ‹_› ?_
    | split
    | dsimp only

theorem countInsert_fol {kc : Touch} {s0 s : State} {r : TrackRes} {reloc : Nat} (k_regs : kc.regs = true)
    (hfol : Follows kc s0 s) : Follows kc s0 (countInsert r reloc s) := by
  unfold countInsert
  repeat' first
    | with_reducible assumption
    | with_reducible refine ite_fol ?_ ?_
    | with_reducible refine bump_fol ‹_› ?_
    | with_reducible refine bumpF_fol ‹_› ?_
    | split
    | dsimp only

theorem trackItems_fol {kc : Touch} {s0 s : State} {m : Nat} {r : TrackRes} (k_memb : kc.memb = true)
    (hfol : Follows kc s0 s) : Follows kc s0 (trackItems m r s) := by
  unfold trackItems
  repeat' first
    | with_reducible assumption
    | with_reducible refine ite_fol ?_ ?_
    | with_reducible refine queueTrack_fol ‹_› ?_
    | split
    | dsimp only

theorem execScrInsert_fol {kc : Touch} {s0 s : State} (k_regs : kc.regs = true) (k_gmp : kc.gmp = true) (k_scr : kc.scr = true) (k_memb : kc.memb = true) (k_sched : kc.sched = true) (k_evr : kc.evr = true) (k_sess : kc.sess = true)
    (hfol : Follows kc s0 s) : OutFollows kc s0 (execScrInsert s) := by
  unfold execScrInsert
  repeat' first
    | with_reducible assumption
    | with_reducible refine fol_fst (by assumption) ?_
    | intro _
    | with_reducible refine next_fol ?_
    | with_reducible refine updScr_fol ‹_› ?_
    | with_reducible refine completeReq_fol ‹_› ‹_› ?_
    | with_reducible refine countInsert_fol ‹_› ?_
    | with_reducible refine finishJob_fol ‹_› ‹_› ‹_› ?_
    | with_reducible refine maxF_fol ‹_› ?_
    | with_reducible refine sendNotice_fol ‹_› ‹_› ?_
    | with_reducible refine trackItems_fol ‹_› ?_
    | split
    | dsimp only

theorem cutDesc_fol {kc : Touch} {s0 s : State} {pos : Nat × Nat} {m : Nat} {i : Nat} {cut : Nat} (k_regs : kc.regs = true) (k_gmp : kc.gmp = true) (k_safe : kc.safe = true) (k_scr : kc.scr = true) (k_memb : kc.memb = true) (k_evr : kc.evr = true)
    (hfol : Follows kc s0 s) : Follows kc s0 (cutDesc pos m i cut s).1 := by
  unfold cutDesc
  repeat' first
    | with_reducible assumption
    | intro _
    | with_reducible refine ite_fol1 ?_ ?_
    | with_reducible refine ite_fol ?_ ?_
    | with_reducible refine queueCut_fol ‹_› ?_
    | with_reducible refine setCov_fol ‹_› ?_
    | with_reducible refine taskFreed_fol ‹_› ‹_› ‹_› ?_
    | with_reducible refine withdraw_fol ‹_› ‹_› ‹_› ‹_› ?_
    | split
    | dsimp only

theorem cancelHandler_fol {kc : Touch} {s0 s : State} {b : CancelBody} {x : ReqCtx} (k_regs : kc.regs = true) (k_gmp : kc.gmp = true) (k_safe : kc.safe = true) (k_scr : kc.scr = true) (k_memb : kc.memb = true) (k_evr : kc.evr = true)
    (hfol : Follows kc s0 s) : Follows kc s0 (cancelHandler b x s).1 := by
  unfold cancelHandler
  repeat' first
    | with_reducible assumption
    | intro _
    | with_reducible refine ite_fol1 ?_ ?_
    | with_reducible refine ite_fol ?_ ?_
    | with_reducible refine bump_fol ‹_› ?_
    | with_reducible refine countJob_fol ‹_› ?_
    | with_reducible refine cutDesc_fol ‹_› ‹_› ‹_› ‹_› ‹_› ‹_› ?_
    | split
    | dsimp only

theorem execCancel_fol {kc : Touch} {s0 s : State} {h : GmpHdr} {b : CancelBody} (k_jr : kc.jr = true) (k_regs : kc.regs = true) (k_gmp : kc.gmp = true) (k_safe : kc.safe = true) (k_scr : kc.scr = true) (k_memb : kc.memb = true) (k_sched : kc.sched = true) (k_pair : kc.pair = true) (k_evr : kc.evr = true) (k_sess : kc.sess = true)
    (hfol : Follows kc s0 s) : OutFollows kc s0 (execCancel h b s) := by
  unfold execCancel
  repeat' first
    | with_reducible assumption
    | intro _
    | with_reducible refine next_fol ?_
    | with_reducible refine cancelHandler_fol ‹_› ‹_› ‹_› ‹_› ‹_› ‹_› ?_
    | with_reducible refine gmpRequest_fol ‹_› ‹_› ‹_› ‹_› ‹_› ‹_› ?_ ?_
    | split
    | dsimp only

theorem cancelAll_fol {kc : Touch} {s0 s : State} {pos : Nat × Nat} {m : Nat} (k_regs : kc.regs = true) (k_gmp : kc.gmp = true) (k_safe : kc.safe = true) (k_scr : kc.scr = true) (k_memb : kc.memb = true) (k_evr : kc.evr = true)
    (hfol : Follows kc s0 s) : Follows kc s0 (cancelAll pos m s) := by
  unfold cancelAll
  repeat' first
    | with_reducible assumption
    | intro _
    | with_reducible refine ite_fol ?_ ?_
    | with_reducible refine ite_fol1 ?_ ?_
    | with_reducible refine bump_fol ‹_› ?_
    | with_reducible refine cutDesc_fol ‹_› ‹_› ‹_› ‹_› ‹_› ‹_› ?_
    | with_reducible refine foldl_fol ?_ ?_
    | with_reducible refine foldl_fol1 ?_ ?_
    | split
    | dsimp only

theorem machCtrlWord_fol {kc : Touch} {s0 s : State} {v : Word} (k_regs : kc.regs = true) (k_gmp : kc.gmp = true) (k_safe : kc.safe = true) (k_scr : kc.scr = true) (k_memb : kc.memb = true) (k_evr : kc.evr = true)
    (hfol : Follows kc s0 s) : Follows kc s0 (machCtrlWord v s).1 := by
  unfold machCtrlWord
  repeat' first
    | with_reducible assumption
    | with_reducible refine ite_fol1 ?_ ?_
    | with_reducible refine ite_fol ?_ ?_
    | with_reducible refine cancelAll_fol ‹_› ‹_› ‹_› ‹_› ‹_› ‹_› ?_
    | split
    | dsimp only

theorem execCancelAll_fol {kc : Touch} {s0 s : State} {h : GmpHdr} (k_jr : kc.jr = true) (k_regs : kc.regs = true) (k_gmp : kc.gmp = true) (k_safe : kc.safe = true) (k_scr : kc.scr = true) (k_memb : kc.memb = true) (k_sched : kc.sched = true) (k_pair : kc.pair = true) (k_evr : kc.evr = true) (k_sess : kc.sess = true)
    (hfol : Follows kc s0 s) : OutFollows kc s0 (execCancelAll h s) := by
  unfold execCancelAll
  repeat' first
    | with_reducible assumption
    | intro _
    | with_reducible refine next_fol ?_
    | with_reducible refine gmpWord_fol ‹_› ‹_› ‹_› ‹_› ‹_› ‹_› ?_ ?_
    | with_reducible refine machCtrlWord_fol ‹_› ‹_› ‹_› ‹_› ‹_› ‹_› ?_
    | split
    | dsimp only

theorem expireDesc_fol {kc : Touch} {s0 s : State} {sf : Nat} {m : Nat} {i : Nat} (k_regs : kc.regs = true) (k_gmp : kc.gmp = true) (k_scr : kc.scr = true)
    (hfol : Follows kc s0 s) : Follows kc s0 (expireDesc sf m i s) := by
  unfold expireDesc
  repeat' first
    | with_reducible assumption
    | intro _
    | with_reducible refine setCov_fol ‹_› ?_
    | with_reducible refine taskFreed_fol ‹_› ‹_› ‹_› ?_
    | split
    | dsimp only

theorem expireAll_fol {kc : Touch} {s0 s : State} {sf : Nat} {cur : Nat} (k_regs : kc.regs = true) (k_gmp : kc.gmp = true) (k_scr : kc.scr = true)
    (hfol : Follows kc s0 s) : Follows kc s0 (expireAll sf cur s) := by
  unfold expireAll
  repeat' first
    | with_reducible assumption
    | intro _
    | with_reducible refine ite_fol ?_ ?_
    | with_reducible refine ite_fol1 ?_ ?_
    | with_reducible refine expireDesc_fol ‹_› ‹_› ‹_› ?_
    | with_reducible refine foldl_fol ?_ ?_
    | with_reducible refine foldl_fol1 ?_ ?_
    | split
    | dsimp only

theorem slotConf_fol {kc : Touch} {s0 s : State} {pos : Nat × Nat} {cur : Nat} {m : Nat} (k_regs : kc.regs = true) (k_gmp : kc.gmp = true) (k_safe : kc.safe = true) (k_evr : kc.evr = true)
    (hfol : Follows kc s0 s) : Follows kc s0 (slotConf pos cur m s) := by
  unfold slotConf
  repeat' first
    | with_reducible assumption
    | intro _
    | with_reducible refine ite_fol ?_ ?_
    | with_reducible refine bump_fol ‹_› ?_
    | with_reducible refine evTrig_fol ‹_› ‹_› ?_
    | with_reducible refine modMach_fol ‹_› ?_
    | with_reducible refine withdraw_fol ‹_› ‹_› ‹_› ‹_› ?_
    | split
    | dsimp only

theorem slotAdvance_fol {kc : Touch} {s0 s : State} {pos : Nat × Nat} (k_regs : kc.regs = true) (k_gmp : kc.gmp = true) (k_safe : kc.safe = true) (k_scr : kc.scr = true) (k_evr : kc.evr = true)
    (hfol : Follows kc s0 s) : Follows kc s0 (slotAdvance pos s) := by
  unfold slotAdvance
  repeat' first
    | with_reducible assumption
    | intro _
    | with_reducible refine ite_fol ?_ ?_
    | with_reducible refine ite_fol1 ?_ ?_
    | with_reducible refine updScr_fol ‹_› ?_
    | with_reducible refine countJob_fol ‹_› ?_
    | with_reducible refine expireAll_fol ‹_› ‹_› ‹_› ?_
    | with_reducible refine slotConf_fol ‹_› ‹_› ‹_› ‹_› ?_
    | with_reducible refine foldl_fol ?_ ?_
    | with_reducible refine foldl_fol1 ?_ ?_
    | split
    | dsimp only

theorem execSlotAdvance_fol {kc : Touch} {s0 s : State} (k_regs : kc.regs = true) (k_gmp : kc.gmp = true) (k_safe : kc.safe = true) (k_scr : kc.scr = true) (k_evr : kc.evr = true)
    (hfol : Follows kc s0 s) : OutFollows kc s0 (execSlotAdvance s) := by
  unfold execSlotAdvance
  repeat' first
    | with_reducible assumption
    | with_reducible refine ite_folO ?_ ?_
    | with_reducible refine ite_fol ?_ ?_
    | with_reducible refine next_fol ?_
    | with_reducible refine slotAdvance_fol ‹_› ‹_› ‹_› ‹_› ‹_› ?_
    | split
    | dsimp only

theorem descLoss_fol {kc : Touch} {s0 s : State} {pos : Nat × Nat} {index : Nat} (k_regs : kc.regs = true) (k_gmp : kc.gmp = true) (k_safe : kc.safe = true) (k_scr : kc.scr = true) (k_memb : kc.memb = true) (k_evr : kc.evr = true)
    (hfol : Follows kc s0 s) : Follows kc s0 (descLoss pos index s) := by
  unfold descLoss
  repeat' first
    | with_reducible assumption
    | with_reducible refine ite_fol ?_ ?_
    | with_reducible refine ite_fol1 ?_ ?_
    | with_reducible refine cutDesc_fol ‹_› ‹_› ‹_› ‹_› ‹_› ‹_› ?_
    | split
    | dsimp only

theorem rebuildDesc_fol {kc : Touch} {s0 s : State} {pos : Nat × Nat} {group : Nat} {k : Nat} (k_regs : kc.regs = true) (k_gmp : kc.gmp = true) (k_safe : kc.safe = true) (k_scr : kc.scr = true) (k_memb : kc.memb = true) (k_evr : kc.evr = true)
    (hfol : Follows kc s0 s) : Follows kc s0 (rebuildDesc pos group s k) := by
  unfold rebuildDesc
  repeat' first
    | with_reducible assumption
    | with_reducible refine ite_fol ?_ ?_
    | with_reducible refine ite_fol1 ?_ ?_
    | with_reducible refine bumpF_fol ‹_› ?_
    | with_reducible refine cutDesc_fol ‹_› ‹_› ‹_› ‹_› ‹_› ‹_› ?_
    | with_reducible refine setCov_fol ‹_› ?_
    | split
    | dsimp only

theorem resvRebuild_fol {kc : Touch} {s0 s : State} {pos : Nat × Nat} {group : Nat} (k_regs : kc.regs = true) (k_gmp : kc.gmp = true) (k_safe : kc.safe = true) (k_scr : kc.scr = true) (k_memb : kc.memb = true) (k_evr : kc.evr = true)
    (hfol : Follows kc s0 s) : Follows kc s0 (resvRebuild pos group s) := by
  unfold resvRebuild
  repeat' first
    | with_reducible assumption
    | intro _
    | with_reducible refine rebuildDesc_fol ‹_› ‹_› ‹_› ‹_› ‹_› ‹_› ?_
    | with_reducible refine setCov_fol ‹_› ?_
    | with_reducible refine foldl_fol ?_ ?_
    | with_reducible refine foldl_fol1 ?_ ?_
    | split
    | dsimp only

end Sys2Proof.Machine
end

