-- ==== Sys2Proof/Laws/FolAllot.lean ====
section
/-!
SUPPORT. What the operations of Machine/Allot.lean may change: one lemma each.
-/

set_option Elab.async false

namespace Sys2Proof.Machine

open Sys2Proof

theorem taskHandler_fol {kc : Touch} {s0 s : State} {b : TaskBody} {x : ReqCtx} (k_scr : kc.scr = true)
    (hfol : Follows kc s0 s) : Follows kc s0 (taskHandler b x s).1 := by
  unfold taskHandler
  repeat' first
    | with_reducible assumption
    | intro _
    | with_reducible refine ite_fol1 ?_ ?_
    | with_reducible refine ite_fol ?_ ?_
    | with_reducible refine updScr_fol ‹_› ?_
    | split
    | dsimp only

theorem execTask_fol {kc : Touch} {s0 s : State} {h : GmpHdr} {b : TaskBody} (k_jr : kc.jr = true) (k_regs : kc.regs = true) (k_gmp : kc.gmp = true) (k_scr : kc.scr = true) (k_sched : kc.sched = true) (k_pair : kc.pair = true) (k_sess : kc.sess = true)
    (hfol : Follows kc s0 s) : OutFollows kc s0 (execTask h b s) := by
  unfold execTask
  repeat' first
    | with_reducible assumption
    | intro _
    | with_reducible refine next_fol ?_
    | with_reducible refine gmpRequest_fol ‹_› ‹_› ‹_› ‹_› ‹_› ‹_› ?_ ?_
    | with_reducible refine taskHandler_fol ‹_› ?_
    | split
    | dsimp only

theorem dropTask_fol {kc : Touch} {s0 s : State} {i : Nat} {n : TaskNotice} (k_regs : kc.regs = true) (k_gmp : kc.gmp = true) (k_scr : kc.scr = true)
    (hfol : Follows kc s0 s) : Follows kc s0 (dropTask i n s) := by
  unfold dropTask
  repeat' first
    | with_reducible assumption
    | intro _
    | with_reducible refine updScr_fol ‹_› ?_
    | with_reducible refine sendNotice_fol ‹_› ‹_› ?_
    | split
    | dsimp only

theorem withdrawHandler_fol {kc : Touch} {s0 s : State} {ref : Nat} {x : ReqCtx} (k_regs : kc.regs = true) (k_gmp : kc.gmp = true) (k_scr : kc.scr = true)
    (hfol : Follows kc s0 s) : Follows kc s0 (withdrawHandler ref x s).1 := by
  unfold withdrawHandler
  repeat' first
    | with_reducible assumption
    | with_reducible refine fol_fst (by assumption) ?_
    | intro _
    | with_reducible refine ite_fol1 ?_ ?_
    | with_reducible refine ite_fol ?_ ?_
    | with_reducible refine dropTask_fol ‹_› ‹_› ‹_› ?_
    | split
    | dsimp only

theorem execWithdraw_fol {kc : Touch} {s0 s : State} {h : GmpHdr} {ref : Nat} (k_jr : kc.jr = true) (k_regs : kc.regs = true) (k_gmp : kc.gmp = true) (k_scr : kc.scr = true) (k_sched : kc.sched = true) (k_pair : kc.pair = true) (k_sess : kc.sess = true)
    (hfol : Follows kc s0 s) : OutFollows kc s0 (execWithdraw h ref s) := by
  unfold execWithdraw
  repeat' first
    | with_reducible assumption
    | intro _
    | with_reducible refine next_fol ?_
    | with_reducible refine gmpRequest_fol ‹_› ‹_› ‹_› ‹_› ‹_› ‹_› ?_ ?_
    | with_reducible refine withdrawHandler_fol ‹_› ‹_› ‹_› ?_
    | split
    | dsimp only

theorem assignTask_fol {kc : Touch} {s0 s : State} {i : Nat} {m : Nat} {resId : Nat} (k_scr : kc.scr = true)
    (hfol : Follows kc s0 s) : Follows kc s0 (assignTask i m resId s) := by
  unfold assignTask
  repeat' first
    | with_reducible assumption
    | with_reducible refine fol_fst (by assumption) ?_
    | intro _
    | with_reducible refine updScr_fol ‹_› ?_
    | split
    | dsimp only

theorem connectorHandler_fol {kc : Touch} {s0 s : State} {b : ConnBody} {x : ReqCtx} (k_regs : kc.regs = true) (k_scr : kc.scr = true) (k_sched : kc.sched = true)
    (hfol : Follows kc s0 s) : Follows kc s0 (connectorHandler b x s).1 := by
  unfold connectorHandler
  repeat' first
    | with_reducible assumption
    | with_reducible refine fol_fst (by assumption) ?_
    | intro _
    | with_reducible refine ite_fol1 ?_ ?_
    | with_reducible refine ite_fol ?_ ?_
    | with_reducible refine assignTask_fol ‹_› ?_
    | with_reducible refine submitTrack_fol ‹_› ‹_› ‹_› ?_
    | split
    | dsimp only

theorem execConnector_fol {kc : Touch} {s0 s : State} {h : GmpHdr} {b : ConnBody} (k_jr : kc.jr = true) (k_regs : kc.regs = true) (k_gmp : kc.gmp = true) (k_scr : kc.scr = true) (k_sched : kc.sched = true) (k_pair : kc.pair = true) (k_sess : kc.sess = true)
    (hfol : Follows kc s0 s) : OutFollows kc s0 (execConnector h b s) := by
  unfold execConnector
  repeat' first
    | with_reducible assumption
    | intro _
    | with_reducible refine next_fol ?_
    | with_reducible refine connectorHandler_fol ‹_› ‹_› ‹_› ?_
    | with_reducible refine gmpRequest_fol ‹_› ‹_› ‹_› ‹_› ‹_› ‹_› ?_ ?_
    | split
    | dsimp only

theorem expireTasks_fol {kc : Touch} {s0 s : State} {sf : Nat} {cur : Nat} (k_regs : kc.regs = true) (k_gmp : kc.gmp = true) (k_scr : kc.scr = true)
    (hfol : Follows kc s0 s) : Follows kc s0 (expireTasks sf cur s).1 := by
  unfold expireTasks
  repeat' first
    | with_reducible assumption
    | intro _
    | with_reducible refine ite_fol1 ?_ ?_
    | with_reducible refine ite_fol ?_ ?_
    | with_reducible refine bump_fol ‹_› ?_
    | with_reducible refine dropTask_fol ‹_› ‹_› ‹_› ?_
    | with_reducible refine foldl_fol ?_ ?_
    | with_reducible refine foldl_fol1 ?_ ?_
    | split
    | dsimp only

theorem awardOne_fol {kc : Touch} {s0 s : State} {pos : Nat × Nat} {bidders : List Bidder} {e : Nat × Nat} (k_scr : kc.scr = true)
    (hfol : Follows kc s0 s) : Follows kc s0 (awardOne pos bidders s e) := by
  unfold awardOne
  repeat' first
    | with_reducible assumption
    | with_reducible refine fol_fst (by assumption) ?_
    | intro _
    | with_reducible refine ite_fol ?_ ?_
    | with_reducible refine ite_fol1 ?_ ?_
    | with_reducible refine updScr_fol ‹_› ?_
    | split
    | dsimp only

theorem roundEnd_fol {kc : Touch} {s0 s : State} (k_regs : kc.regs = true) (k_gmp : kc.gmp = true) (k_scr : kc.scr = true)
    (hfol : Follows kc s0 s) : Follows kc s0 (roundEnd s) := by
  unfold roundEnd
  repeat' first
    | with_reducible assumption
    | with_reducible refine fol_fst (by assumption) ?_
    | intro _
    | with_reducible refine ite_fol ?_ ?_
    | with_reducible refine updScr_fol ‹_› ?_
    | with_reducible refine notify_fol ‹_› ‹_› ?_
    | with_reducible refine sendNotice_fol ‹_› ‹_› ?_
    | with_reducible refine foldl_fol ?_ ?_
    | with_reducible refine foldl_fol1 ?_ ?_
    | split
    | dsimp only

theorem nextAward_fol {kc : Touch} {s0 s : State} (k_regs : kc.regs = true) (k_gmp : kc.gmp = true) (k_scr : kc.scr = true) (k_sched : kc.sched = true)
    (hfol : Follows kc s0 s) : Follows kc s0 (nextAward s) := by
  unfold nextAward
  repeat' first
    | with_reducible assumption
    | with_reducible refine fol_fst (by assumption) ?_
    | with_reducible refine createJob_fol ‹_› ‹_› ?_
    | with_reducible refine roundEnd_fol ‹_› ‹_› ‹_› ?_
    | split
    | dsimp only

theorem allotRound_fol {kc : Touch} {s0 s : State} {pos : Nat × Nat} (k_regs : kc.regs = true) (k_gmp : kc.gmp = true) (k_scr : kc.scr = true) (k_sched : kc.sched = true)
    (hfol : Follows kc s0 s) : Follows kc s0 (allotRound pos s) := by
  unfold allotRound
  repeat' first
    | with_reducible assumption
    | intro _
    | with_reducible refine ite_fol ?_ ?_
    | with_reducible refine ite_fol1 ?_ ?_
    | with_reducible refine updScr_fol ‹_› ?_
    | with_reducible refine awardOne_fol ‹_› ?_
    | with_reducible refine bump_fol ‹_› ?_
    | with_reducible refine bumpF_fol ‹_› ?_
    | with_reducible refine countJob_fol ‹_› ?_
    | with_reducible refine expireTasks_fol ‹_› ‹_› ‹_› ?_
    | with_reducible refine nextAward_fol ‹_› ‹_› ‹_› ‹_› ?_
    | with_reducible refine foldl_fol ?_ ?_
    | with_reducible refine foldl_fol1 ?_ ?_
    | split
    | dsimp only

theorem roundMark_fol {kc : Touch} {s0 s : State} {pos : Nat × Nat} (k_regs : kc.regs = true) (k_gmp : kc.gmp = true) (k_scr : kc.scr = true) (k_sched : kc.sched = true)
    (hfol : Follows kc s0 s) : Follows kc s0 (roundMark pos s) := by
  unfold roundMark
  repeat' first
    | with_reducible assumption
    | intro _
    | with_reducible refine ite_fol ?_ ?_
    | with_reducible refine ite_fol1 ?_ ?_
    | with_reducible refine updScr_fol ‹_› ?_
    | with_reducible refine allotRound_fol ‹_› ‹_› ‹_› ‹_› ?_
    | split
    | dsimp only

theorem execAllotmentRound_fol {kc : Touch} {s0 s : State} (k_regs : kc.regs = true) (k_gmp : kc.gmp = true) (k_scr : kc.scr = true) (k_sched : kc.sched = true)
    (hfol : Follows kc s0 s) : OutFollows kc s0 (execAllotmentRound s) := by
  unfold execAllotmentRound
  repeat' first
    | with_reducible assumption
    | with_reducible refine ite_folO ?_ ?_
    | with_reducible refine ite_fol ?_ ?_
    | with_reducible refine next_fol ?_
    | with_reducible refine roundMark_fol ‹_› ‹_› ‹_› ‹_› ?_
    | split
    | dsimp only

theorem execAward_fol {kc : Touch} {s0 s : State} (k_regs : kc.regs = true) (k_gmp : kc.gmp = true) (k_scr : kc.scr = true) (k_memb : kc.memb = true) (k_sched : kc.sched = true) (k_evr : kc.evr = true)
    (hfol : Follows kc s0 s) : OutFollows kc s0 (execAward s) := by
  unfold execAward
  repeat' first
    | with_reducible assumption
    | with_reducible refine fol_fst (by assumption) ?_
    | intro _
    | with_reducible refine ite_folO ?_ ?_
    | with_reducible refine ite_fol ?_ ?_
    | with_reducible refine next_fol ?_
    | with_reducible refine updScr_fol ‹_› ?_
    | with_reducible refine bump_fol ‹_› ?_
    | with_reducible refine countInsert_fol ‹_› ?_
    | with_reducible refine finishJob_fol ‹_› ‹_› ‹_› ?_
    | with_reducible refine maxF_fol ‹_› ?_
    | with_reducible refine nextAward_fol ‹_› ‹_› ‹_› ‹_› ?_
    | with_reducible refine sendNotice_fol ‹_› ‹_› ?_
    | with_reducible refine trackItems_fol ‹_› ?_
    | split
    | dsimp only

theorem taskLoss_fol {kc : Touch} {s0 s : State} {sf : Nat} {i : Nat} (k_regs : kc.regs = true) (k_gmp : kc.gmp = true) (k_scr : kc.scr = true)
    (hfol : Follows kc s0 s) : Follows kc s0 (taskLoss sf i s) := by
  unfold taskLoss
  repeat' first
    | with_reducible assumption
    | with_reducible refine fol_fst (by assumption) ?_
    | with_reducible refine ite_fol ?_ ?_
    | with_reducible refine dropTask_fol ‹_› ‹_› ‹_› ?_
    | split
    | dsimp only

end Sys2Proof.Machine
end

