-- ==== Sys2Proof/Laws/FolReset.lean ====
section
/-!
SUPPORT. What the operations of Machine/Reset.lean may change: one lemma each.
-/

set_option Elab.async false

namespace Sys2Proof.Machine

open Sys2Proof

theorem closeSess_fol {kc : Touch} {s0 s : State} {k : Nat} (k_jr : kc.jr = true) (k_gmp : kc.gmp = true) (k_sess : kc.sess = true)
    (hfol : Follows kc s0 s) : Follows kc s0 (closeSess k s) := by
  unfold closeSess
  repeat' first
    | with_reducible assumption
    | intro _
    | with_reducible refine updGmp_fol ‹_› ?_
    | with_reducible refine freeRing_fol ‹_› ?_
    | split
    | dsimp only

theorem closeAll_fol {kc : Touch} {s0 s : State} (k_jr : kc.jr = true) (k_gmp : kc.gmp = true) (k_sess : kc.sess = true)
    (hfol : Follows kc s0 s) : Follows kc s0 (closeAll s) := by
  unfold closeAll
  repeat' first
    | with_reducible assumption
    | intro _
    | with_reducible refine closeSess_fol ‹_› ‹_› ‹_› ?_
    | with_reducible refine foldl_fol ?_ ?_
    | with_reducible refine foldl_fol1 ?_ ?_
    | split
    | dsimp only

theorem deviceReset_fol {kc : Touch} {s0 s : State} {cause rail : Nat} (k_time : kc.time = true) (k_jr : kc.jr = true) (k_regs : kc.regs = true) (k_gmp : kc.gmp = true) (k_safe : kc.safe = true) (k_fix : kc.fix = true) (k_scr : kc.scr = true) (k_memb : kc.memb = true) (k_sched : kc.sched = true) (k_loop : kc.loop = true) (k_pair : kc.pair = true) (k_evr : kc.evr = true) (k_key : kc.key = true) (k_pcr : kc.pcr = true) (k_nvm : kc.nvm = true) (k_upd : kc.upd = true) (k_mem : kc.mem = true) (k_hod : kc.hod = true) (k_snag : kc.snag = true) (k_mac : kc.mac = true) (k_lkp : kc.lkp = true) (k_mark : kc.mark = true) (k_gen : kc.gen = true) (k_role : kc.role = true) (k_sess : kc.sess = true)
    (hfol : Follows kc s0 s) : Follows kc s0 (deviceReset cause rail s) := by
  have ne (b : Bool) (hb : b = true) {p : Prop} (hf : b = false) : p := by rw [hb] at hf; cases hf
  refine ⟨hfol.part, hfol.pending, hfol.out, hfol.free.trans (Nat.le_succ _), fun g => ?_, fun _ m hm => ?_, fun _ _ => rfl,
    ne _ k_mark, ne _ k_gen, ne _ k_role, fun _ => hfol.fuse ‹_›, ne _ k_sess, fun _ _ => rfl, fun _ _ => rfl, ne _ k_time, ne _ k_jr, ne _ k_regs, ne _ k_gmp, ne _ k_safe, ne _ k_fix, ne _ k_scr, ne _ k_memb, ne _ k_sched, ne _ k_loop,
    ne _ k_pair, ne _ k_evr, ne _ k_key, ne _ k_pcr, ne _ k_nvm, ne _ k_upd, ne _ k_mem, ne _ k_hod, ne _ k_snag, ne _ k_mac,
    ne _ k_lkp⟩
  · have g' := hfol.canon g
    simp only [RegS.canon, Bool.and_eq_true, List.all_eq_true] at g' ⊢
    exact ⟨krising_filter g'.1, fun e he => g'.2 e (List.mem_of_mem_filter he)⟩
  · have : (0 : Nat).testBit m = true := hm
    simp at this


theorem chanFail_fol {kc : Touch} {s0 s : State} {i : Nat} {rw : Nat} {off : Nat} (k_regs : kc.regs = true) (k_evr : kc.evr = true) (k_nvm : kc.nvm = true)
    (hfol : Follows kc s0 s) : Follows kc s0 (chanFail i rw off s) := by
  unfold chanFail
  repeat' first
    | with_reducible assumption
    | intro _
    | with_reducible refine updNvm_fol ‹_› ?_
    | with_reducible refine alarm_fol ‹_› ?_
    | with_reducible refine evTrig_fol ‹_› ‹_› ?_
    | split
    | dsimp only

theorem nvmWrite_fol {kc : Touch} {s0 s : State} {ok0 : Bool} {ok1 : Bool} {off : Nat} (k_regs : kc.regs = true) (k_evr : kc.evr = true) (k_nvm : kc.nvm = true)
    (hfol : Follows kc s0 s) : Follows kc s0 (nvmWrite ok0 ok1 off s).1 := by
  unfold nvmWrite
  repeat' first
    | with_reducible assumption
    | with_reducible refine ite_fol1 ?_ ?_
    | with_reducible refine ite_fol ?_ ?_
    | with_reducible refine alarm_fol ‹_› ?_
    | with_reducible refine bump_fol ‹_› ?_
    | with_reducible refine chanFail_fol ‹_› ‹_› ‹_› ?_
    | split
    | dsimp only

theorem evrDrain_fol {kc : Touch} {s0 s : State} {n : Nat} (k_regs : kc.regs = true) (k_evr : kc.evr = true)
    (hfol : Follows kc s0 s) : Follows kc s0 (evrDrain n s) := by
  induction n generalizing s with
  | zero => exact hfol
  | succ n ih =>
    unfold evrDrain
    repeat' first
      | with_reducible assumption
      | with_reducible refine fol_fst (by assumption) ?_
      | with_reducible refine ih ?_
      | with_reducible refine evrKick_fol ‹_› ‹_› ?_
      | with_reducible refine bump_fol ‹_› ?_
      | with_reducible refine updEvr_fol ‹_› ?_
      | split
      | dsimp only


theorem selfReset_fol {kc : Touch} {s0 s : State} (k_time : kc.time = true) (k_jr : kc.jr = true) (k_regs : kc.regs = true) (k_gmp : kc.gmp = true) (k_safe : kc.safe = true) (k_fix : kc.fix = true) (k_scr : kc.scr = true) (k_memb : kc.memb = true) (k_sched : kc.sched = true) (k_loop : kc.loop = true) (k_pair : kc.pair = true) (k_evr : kc.evr = true) (k_key : kc.key = true) (k_pcr : kc.pcr = true) (k_nvm : kc.nvm = true) (k_upd : kc.upd = true) (k_mem : kc.mem = true) (k_hod : kc.hod = true) (k_snag : kc.snag = true) (k_mac : kc.mac = true) (k_lkp : kc.lkp = true) (k_mark : kc.mark = true) (k_gen : kc.gen = true) (k_role : kc.role = true) (k_sess : kc.sess = true)
    (hfol : Follows kc s0 s) : Follows kc s0 (selfReset s) := by
  unfold selfReset
  repeat' first
    | with_reducible assumption
    | with_reducible refine deviceReset_fol ‹_› ‹_› ‹_› ‹_› ‹_› ‹_› ‹_› ‹_› ‹_› ‹_› ‹_› ‹_› ‹_› ‹_› ‹_› ‹_› ‹_› ‹_› ‹_› ‹_› ‹_› ‹_› ‹_› ‹_› ‹_› ?_
    | with_reducible refine evrDrain_fol ‹_› ‹_› ?_
    | split
    | dsimp only

end Sys2Proof.Machine
end

