-- ==== Sys2Proof/Laws/FolFw.lean ====
section
/-!
SUPPORT. What the operations of Machine/Fw.lean may change: one lemma each.
-/

set_option Elab.async false

namespace Sys2Proof.Machine

open Sys2Proof

theorem hdrWrite_fol {kc : Touch} {s0 s : State} {ok0 : Bool} {ok1 : Bool} {f : HdrCopy → HdrCopy} (k_regs : kc.regs = true) (k_evr : kc.evr = true) (k_nvm : kc.nvm = true)
    (hfol : Follows kc s0 s) : Follows kc s0 (hdrWrite ok0 ok1 f s).1 := by
  unfold hdrWrite
  repeat' first
    | with_reducible assumption
    | with_reducible refine fol_fst (by assumption) ?_
    | intro _
    | with_reducible refine ite_fol1 ?_ ?_
    | with_reducible refine ite_fol ?_ ?_
    | with_reducible refine updNvm_fol ‹_› ?_
    | with_reducible refine nvmWrite_fol ‹_› ‹_› ‹_› ?_
    | split
    | dsimp only

end Sys2Proof.Machine
end

