-- ==== Sys2Proof/Laws/FolKey.lean ====
section
/-!
SUPPORT. What the operations of Machine/Key.lean may change: one lemma each.
-/

set_option Elab.async false

namespace Sys2Proof.Machine

open Sys2Proof

theorem lcArm_fol {kc : Touch} {s0 s : State} {revoke : Bool} {target : Nat} (k_key : kc.key = true)
    (hfol : Follows kc s0 s) : Follows kc s0 (lcArm revoke target s).1 := by
  unfold lcArm
  repeat' first
    | with_reducible assumption
    | intro _
    | with_reducible refine ite_fol1 ?_ ?_
    | with_reducible refine ite_fol ?_ ?_
    | with_reducible refine updKey_fol ‹_› ?_
    | split
    | dsimp only

theorem lcConfirm_fol {kc : Touch} {s0 s : State} {token : Nat} (k_regs : kc.regs = true) (k_evr : kc.evr = true) (k_key : kc.key = true)
    (hfol : Follows kc s0 s) : Follows kc s0 (lcConfirm token s).1 := by
  unfold lcConfirm
  repeat' first
    | with_reducible assumption
    | with_reducible refine fol_fst (by assumption) ?_
    | intro _
    | with_reducible refine ite_fol1 ?_ ?_
    | with_reducible refine ite_fol ?_ ?_
    | with_reducible refine updKey_fol ‹_› ?_
    | with_reducible refine evTrig_fol ‹_› ‹_› ?_
    | split
    | dsimp only

theorem lcDisarm_fol {kc : Touch} {s0 s : State} (k_key : kc.key = true)
    (hfol : Follows kc s0 s) : Follows kc s0 (lcDisarm s).1 := by
  unfold lcDisarm
  repeat' first
    | with_reducible assumption
    | intro _
    | with_reducible refine ite_fol1 ?_ ?_
    | with_reducible refine ite_fol ?_ ?_
    | with_reducible refine updKey_fol ‹_› ?_
    | split
    | dsimp only

theorem lcCtrlWord_fol {kc : Touch} {s0 s : State} {w : Word} (k_regs : kc.regs = true) (k_evr : kc.evr = true) (k_key : kc.key = true)
    (hfol : Follows kc s0 s) : Follows kc s0 (lcCtrlWord w s).1 := by
  unfold lcCtrlWord
  repeat' first
    | with_reducible assumption
    | intro _
    | with_reducible refine ite_fol1 ?_ ?_
    | with_reducible refine ite_fol ?_ ?_
    | with_reducible refine updKey_fol ‹_› ?_
    | with_reducible refine lcArm_fol ‹_› ?_
    | with_reducible refine lcConfirm_fol ‹_› ‹_› ‹_› ?_
    | with_reducible refine lcDisarm_fol ‹_› ?_
    | split
    | dsimp only

theorem lcCmd_fol {kc : Touch} {s0 s : State} {src : Option GmpHdr} {w : Word} (k_jr : kc.jr = true) (k_regs : kc.regs = true) (k_gmp : kc.gmp = true) (k_sched : kc.sched = true) (k_pair : kc.pair = true) (k_evr : kc.evr = true) (k_key : kc.key = true) (k_sess : kc.sess = true)
    (hfol : Follows kc s0 s) : Follows kc s0 (lcCmd src w s) := by
  unfold lcCmd
  repeat' first
    | with_reducible assumption
    | with_reducible refine fol_fst (by assumption) ?_
    | intro _
    | with_reducible refine ite_fol ?_ ?_
    | with_reducible refine ite_fol1 ?_ ?_
    | with_reducible refine gmpWord_fol ‹_› ‹_› ‹_› ‹_› ‹_› ‹_› ?_ ?_
    | with_reducible refine lcCtrlWord_fol ‹_› ‹_› ‹_› ?_
    | split
    | dsimp only

theorem execArmAdvance_fol {kc : Touch} {s0 s : State} {src : Option GmpHdr} {target : Nat} (k_jr : kc.jr = true) (k_regs : kc.regs = true) (k_gmp : kc.gmp = true) (k_sched : kc.sched = true) (k_pair : kc.pair = true) (k_evr : kc.evr = true) (k_key : kc.key = true) (k_sess : kc.sess = true)
    (hfol : Follows kc s0 s) : OutFollows kc s0 (execArmAdvance src target s) := by
  unfold execArmAdvance
  repeat' first
    | with_reducible assumption
    | with_reducible refine next_fol ?_
    | with_reducible refine lcCmd_fol ‹_› ‹_› ‹_› ‹_› ‹_› ‹_› ‹_› ‹_› ?_
    | split
    | dsimp only

theorem execArmRevokeA_fol {kc : Touch} {s0 s : State} {src : Option GmpHdr} (k_jr : kc.jr = true) (k_regs : kc.regs = true) (k_gmp : kc.gmp = true) (k_sched : kc.sched = true) (k_pair : kc.pair = true) (k_evr : kc.evr = true) (k_key : kc.key = true) (k_sess : kc.sess = true)
    (hfol : Follows kc s0 s) : OutFollows kc s0 (execArmRevokeA src s) := by
  unfold execArmRevokeA
  repeat' first
    | with_reducible assumption
    | with_reducible refine next_fol ?_
    | with_reducible refine lcCmd_fol ‹_› ‹_› ‹_› ‹_› ‹_› ‹_› ‹_› ‹_› ?_
    | split
    | dsimp only

theorem execLcConfirm_fol {kc : Touch} {s0 s : State} {src : Option GmpHdr} {token : Nat} (k_jr : kc.jr = true) (k_regs : kc.regs = true) (k_gmp : kc.gmp = true) (k_sched : kc.sched = true) (k_pair : kc.pair = true) (k_evr : kc.evr = true) (k_key : kc.key = true) (k_sess : kc.sess = true)
    (hfol : Follows kc s0 s) : OutFollows kc s0 (execLcConfirm src token s) := by
  unfold execLcConfirm
  repeat' first
    | with_reducible assumption
    | with_reducible refine next_fol ?_
    | with_reducible refine lcCmd_fol ‹_› ‹_› ‹_› ‹_› ‹_› ‹_› ‹_› ‹_› ?_
    | split
    | dsimp only

theorem execLcDisarm_fol {kc : Touch} {s0 s : State} {src : Option GmpHdr} (k_jr : kc.jr = true) (k_regs : kc.regs = true) (k_gmp : kc.gmp = true) (k_sched : kc.sched = true) (k_pair : kc.pair = true) (k_evr : kc.evr = true) (k_key : kc.key = true) (k_sess : kc.sess = true)
    (hfol : Follows kc s0 s) : OutFollows kc s0 (execLcDisarm src s) := by
  unfold execLcDisarm
  repeat' first
    | with_reducible assumption
    | with_reducible refine next_fol ?_
    | with_reducible refine lcCmd_fol ‹_› ‹_› ‹_› ‹_› ‹_› ‹_› ‹_› ‹_› ?_
    | split
    | dsimp only

theorem execFuseBlown_fol {kc : Touch} {s0 s : State} (k_time : kc.time = true) (k_jr : kc.jr = true) (k_regs : kc.regs = true) (k_gmp : kc.gmp = true) (k_safe : kc.safe = true) (k_fix : kc.fix = true) (k_scr : kc.scr = true) (k_memb : kc.memb = true) (k_sched : kc.sched = true) (k_loop : kc.loop = true) (k_pair : kc.pair = true) (k_evr : kc.evr = true) (k_key : kc.key = true) (k_pcr : kc.pcr = true) (k_nvm : kc.nvm = true) (k_upd : kc.upd = true) (k_mem : kc.mem = true) (k_hod : kc.hod = true) (k_snag : kc.snag = true) (k_mac : kc.mac = true) (k_lkp : kc.lkp = true) (k_mark : kc.mark = true) (k_gen : kc.gen = true) (k_role : kc.role = true) (k_fuse : kc.fuse = true) (k_sess : kc.sess = true)
    (hfol : Follows kc s0 s) : OutFollows kc s0 (execFuseBlown s) := by
  unfold execFuseBlown
  repeat' first
    | with_reducible assumption
    | with_reducible refine fol_fst (by assumption) ?_
    | with_reducible refine ite_folO ?_ ?_
    | with_reducible refine ite_fol ?_ ?_
    | with_reducible refine next_fol ?_
    | with_reducible refine updKey_fol ‹_› ?_
    | with_reducible refine deviceReset_fol ‹_› ‹_› ‹_› ‹_› ‹_› ‹_› ‹_› ‹_› ‹_› ‹_› ‹_› ‹_› ‹_› ‹_› ‹_› ‹_› ‹_› ‹_› ‹_› ‹_› ‹_› ‹_› ‹_› ‹_› ‹_› ?_
    | split
    | dsimp only

theorem rootOp_fol {kc : Touch} {s0 s : State} {b : RootBody} (k_key : kc.key = true) (k_fuse : kc.fuse = true)
    (hfol : Follows kc s0 s) : Follows kc s0 (rootOp b s).1 := by
  unfold rootOp
  repeat' first
    | with_reducible assumption
    | intro _
    | with_reducible refine ite_fol1 ?_ ?_
    | with_reducible refine ite_fol ?_ ?_
    | with_reducible refine updKey_fol ‹_› ?_
    | split
    | dsimp only

theorem rootHandler_fol {kc : Touch} {s0 s : State} {b : RootBody} {x : ReqCtx} (k_key : kc.key = true) (k_fuse : kc.fuse = true)
    (hfol : Follows kc s0 s) : Follows kc s0 (rootHandler b x s).1 := by
  unfold rootHandler
  repeat' first
    | with_reducible assumption
    | intro _
    | with_reducible refine ite_fol1 ?_ ?_
    | with_reducible refine ite_fol ?_ ?_
    | with_reducible refine rootOp_fol ‹_› ‹_› ?_
    | split
    | dsimp only

theorem execRoot_fol {kc : Touch} {s0 s : State} {h : GmpHdr} {b : RootBody} (k_jr : kc.jr = true) (k_regs : kc.regs = true) (k_gmp : kc.gmp = true) (k_sched : kc.sched = true) (k_pair : kc.pair = true) (k_key : kc.key = true) (k_fuse : kc.fuse = true) (k_sess : kc.sess = true)
    (hfol : Follows kc s0 s) : OutFollows kc s0 (execRoot h b s) := by
  unfold execRoot
  repeat' first
    | with_reducible assumption
    | intro _
    | with_reducible refine next_fol ?_
    | with_reducible refine gmpRequest_fol ‹_› ‹_› ‹_› ‹_› ‹_› ‹_› ?_ ?_
    | with_reducible refine rootHandler_fol ‹_› ‹_› ?_
    | split
    | dsimp only

theorem ringQueue_fol {kc : Touch} {s0 s : State} {ring : KRing} {w : Option Waiter} {isPut : Bool} (k_key : kc.key = true)
    (hfol : Follows kc s0 s) : Follows kc s0 (ringQueue ring w isPut s) := by
  unfold ringQueue
  repeat' first
    | with_reducible assumption
    | intro _
    | with_reducible refine updKey_fol ‹_› ?_
    | split
    | dsimp only

theorem staleKey_fol {kc : Touch} {s0 s : State} {id : Nat} (k_jr : kc.jr = true) (k_gmp : kc.gmp = true) (k_key : kc.key = true) (k_sess : kc.sess = true)
    (hfol : Follows kc s0 s) : Follows kc s0 (staleKey id s) := by
  unfold staleKey
  repeat' first
    | with_reducible assumption
    | intro _
    | with_reducible refine ite_fol ?_ ?_
    | with_reducible refine ite_fol1 ?_ ?_
    | with_reducible refine updKey_fol ‹_› ?_
    | with_reducible refine closeAll_fol ‹_› ‹_› ‹_› ?_
    | split
    | dsimp only

theorem invalidateOp_fol {kc : Touch} {s0 s : State} {id : Nat} {w : Option Waiter} (k_jr : kc.jr = true) (k_gmp : kc.gmp = true) (k_key : kc.key = true) (k_sess : kc.sess = true)
    (hfol : Follows kc s0 s) : Follows kc s0 (invalidateOp id w s).1 := by
  unfold invalidateOp
  repeat' first
    | with_reducible assumption
    | with_reducible refine fol_fst (by assumption) ?_
    | with_reducible refine ite_fol1 ?_ ?_
    | with_reducible refine ite_fol ?_ ?_
    | with_reducible refine ringQueue_fol ‹_› ?_
    | with_reducible refine staleKey_fol ‹_› ‹_› ‹_› ‹_› ?_
    | split
    | dsimp only

theorem putOp_fol {kc : Touch} {s0 s : State} {b : Blob} {w : Option Waiter} (k_jr : kc.jr = true) (k_gmp : kc.gmp = true) (k_key : kc.key = true) (k_sess : kc.sess = true)
    (hfol : Follows kc s0 s) : Follows kc s0 (putOp b w s).1 := by
  unfold putOp
  repeat' first
    | with_reducible assumption
    | with_reducible refine fol_fst (by assumption) ?_
    | intro _
    | with_reducible refine ite_fol1 ?_ ?_
    | with_reducible refine ite_fol ?_ ?_
    | with_reducible refine updKey_fol ‹_› ?_
    | with_reducible refine ringQueue_fol ‹_› ?_
    | with_reducible refine staleKey_fol ‹_› ‹_› ‹_› ‹_› ?_
    | split
    | dsimp only

theorem keyCount_fol {kc : Touch} {s0 s : State} {st : Nat} (k_regs : kc.regs = true)
    (hfol : Follows kc s0 s) : Follows kc s0 (keyCount st s) := by
  unfold keyCount
  repeat' first
    | with_reducible assumption
    | with_reducible refine ite_fol ?_ ?_
    | with_reducible refine bump_fol ‹_› ?_
    | split
    | dsimp only

theorem keyResult_fol {kc : Touch} {s0 : State} {r : State × Option Nat} (k_regs : kc.regs = true)
    (hfol : Follows kc s0 r.1) : Follows kc s0 (keyResult r).1 := by
  unfold keyResult
  split
  · exact keyCount_fol ‹_› hfol
  · exact hfol


theorem putHandler_fol {kc : Touch} {s0 s : State} {b : Blob} {x : ReqCtx} (k_jr : kc.jr = true) (k_regs : kc.regs = true) (k_gmp : kc.gmp = true) (k_key : kc.key = true) (k_sess : kc.sess = true)
    (hfol : Follows kc s0 s) : Follows kc s0 (putHandler b x s).1 := by
  unfold putHandler
  repeat' first
    | with_reducible assumption
    | intro _
    | with_reducible refine keyResult_fol ‹_› ?_
    | with_reducible refine putOp_fol ‹_› ‹_› ‹_› ‹_› ?_
    | split
    | dsimp only

theorem invalidateHandler_fol {kc : Touch} {s0 s : State} {id : Nat} {zero : Nat} {x : ReqCtx} (k_jr : kc.jr = true) (k_regs : kc.regs = true) (k_gmp : kc.gmp = true) (k_key : kc.key = true) (k_sess : kc.sess = true)
    (hfol : Follows kc s0 s) : Follows kc s0 (invalidateHandler id zero x s).1 := by
  unfold invalidateHandler
  repeat' first
    | with_reducible assumption
    | intro _
    | with_reducible refine ite_fol1 ?_ ?_
    | with_reducible refine ite_fol ?_ ?_
    | with_reducible refine invalidateOp_fol ‹_› ‹_› ‹_› ‹_› ?_
    | with_reducible refine keyResult_fol ‹_› ?_
    | split
    | dsimp only

theorem execKeyPut_fol {kc : Touch} {s0 s : State} {h : GmpHdr} {b : Blob} (k_jr : kc.jr = true) (k_regs : kc.regs = true) (k_gmp : kc.gmp = true) (k_sched : kc.sched = true) (k_pair : kc.pair = true) (k_key : kc.key = true) (k_sess : kc.sess = true)
    (hfol : Follows kc s0 s) : OutFollows kc s0 (execKeyPut h b s) := by
  unfold execKeyPut
  repeat' first
    | with_reducible assumption
    | intro _
    | with_reducible refine next_fol ?_
    | with_reducible refine gmpRequest_fol ‹_› ‹_› ‹_› ‹_› ‹_› ‹_› ?_ ?_
    | with_reducible refine putHandler_fol ‹_› ‹_› ‹_› ‹_› ‹_› ?_
    | split
    | dsimp only

theorem execKeyInvalidate_fol {kc : Touch} {s0 s : State} {h : GmpHdr} {id : Nat} {zero : Nat} (k_jr : kc.jr = true) (k_regs : kc.regs = true) (k_gmp : kc.gmp = true) (k_sched : kc.sched = true) (k_pair : kc.pair = true) (k_key : kc.key = true) (k_sess : kc.sess = true)
    (hfol : Follows kc s0 s) : OutFollows kc s0 (execKeyInvalidate h id zero s) := by
  unfold execKeyInvalidate
  repeat' first
    | with_reducible assumption
    | intro _
    | with_reducible refine next_fol ?_
    | with_reducible refine gmpRequest_fol ‹_› ‹_› ‹_› ‹_› ‹_› ‹_› ?_ ?_
    | with_reducible refine invalidateHandler_fol ‹_› ‹_› ‹_› ‹_› ‹_› ?_
    | split
    | dsimp only

theorem execKeyringWritten_fol {kc : Touch} {s0 s : State} {ok0 : Bool} {ok1 : Bool} (k_regs : kc.regs = true) (k_gmp : kc.gmp = true) (k_evr : kc.evr = true) (k_key : kc.key = true) (k_nvm : kc.nvm = true) (k_sess : kc.sess = true)
    (hfol : Follows kc s0 s) : OutFollows kc s0 (execKeyringWritten ok0 ok1 s) := by
  unfold execKeyringWritten
  repeat' first
    | with_reducible assumption
    | with_reducible refine fol_fst (by assumption) ?_
    | intro _
    | with_reducible refine ite_folO ?_ ?_
    | with_reducible refine ite_fol ?_ ?_
    | with_reducible refine next_fol ?_
    | with_reducible refine updKey_fol ‹_› ?_
    | with_reducible refine updNvm_fol ‹_› ?_
    | with_reducible refine completeReq_fol ‹_› ‹_› ?_
    | with_reducible refine nvmWrite_fol ‹_› ‹_› ‹_› ?_
    | split
    | dsimp only

theorem evictOp_fol {kc : Touch} {s0 s : State} {id : Nat} (k_regs : kc.regs = true) (k_key : kc.key = true)
    (hfol : Follows kc s0 s) : Follows kc s0 (evictOp id s).1 := by
  unfold evictOp
  repeat' first
    | with_reducible assumption
    | with_reducible refine fol_fst (by assumption) ?_
    | intro _
    | with_reducible refine ite_fol1 ?_ ?_
    | with_reducible refine ite_fol ?_ ?_
    | with_reducible refine updKey_fol ‹_› ?_
    | with_reducible refine bump_fol ‹_› ?_
    | split
    | dsimp only

theorem keyCmdWord_fol {kc : Touch} {s0 s : State} {w : Word} (k_jr : kc.jr = true) (k_regs : kc.regs = true) (k_gmp : kc.gmp = true) (k_key : kc.key = true) (k_sess : kc.sess = true)
    (hfol : Follows kc s0 s) : Follows kc s0 (keyCmdWord w s).1 := by
  unfold keyCmdWord
  repeat' first
    | with_reducible assumption
    | with_reducible refine fol_fst (by assumption) ?_
    | intro _
    | with_reducible refine ite_fol1 ?_ ?_
    | with_reducible refine ite_fol ?_ ?_
    | with_reducible refine updKey_fol ‹_› ?_
    | with_reducible refine evictOp_fol ‹_› ‹_› ?_
    | with_reducible refine invalidateOp_fol ‹_› ‹_› ‹_› ‹_› ?_
    | split
    | dsimp only

theorem execInvalidate_fol {kc : Touch} {s0 s : State} {h : GmpHdr} {id : Nat} (k_jr : kc.jr = true) (k_regs : kc.regs = true) (k_gmp : kc.gmp = true) (k_sched : kc.sched = true) (k_pair : kc.pair = true) (k_key : kc.key = true) (k_sess : kc.sess = true)
    (hfol : Follows kc s0 s) : OutFollows kc s0 (execInvalidate h id s) := by
  unfold execInvalidate
  repeat' first
    | with_reducible assumption
    | intro _
    | with_reducible refine next_fol ?_
    | with_reducible refine gmpWord_fol ‹_› ‹_› ‹_› ‹_› ‹_› ‹_› ?_ ?_
    | with_reducible refine keyCmdWord_fol ‹_› ‹_› ‹_› ‹_› ‹_› ?_
    | split
    | dsimp only

theorem execEvict_fol {kc : Touch} {s0 s : State} {h : GmpHdr} {id : Nat} (k_jr : kc.jr = true) (k_regs : kc.regs = true) (k_gmp : kc.gmp = true) (k_sched : kc.sched = true) (k_pair : kc.pair = true) (k_key : kc.key = true) (k_sess : kc.sess = true)
    (hfol : Follows kc s0 s) : OutFollows kc s0 (execEvict h id s) := by
  unfold execEvict
  repeat' first
    | with_reducible assumption
    | intro _
    | with_reducible refine next_fol ?_
    | with_reducible refine gmpWord_fol ‹_› ‹_› ‹_› ‹_› ‹_› ‹_› ?_ ?_
    | with_reducible refine keyCmdWord_fol ‹_› ‹_› ‹_› ‹_› ‹_› ?_
    | split
    | dsimp only

theorem loadBlob_fol {kc : Touch} {s0 s : State} {b : Blob} (k_regs : kc.regs = true) (k_key : kc.key = true)
    (hfol : Follows kc s0 s) : Follows kc s0 (loadBlob b s).1 := by
  unfold loadBlob
  repeat' first
    | with_reducible assumption
    | with_reducible refine fol_fst (by assumption) ?_
    | intro _
    | with_reducible refine ite_fol1 ?_ ?_
    | with_reducible refine ite_fol ?_ ?_
    | with_reducible refine updKey_fol ‹_› ?_
    | with_reducible refine bump_fol ‹_› ?_
    | split
    | dsimp only

theorem keyEnd_fol {kc : Touch} {s0 s : State} {id : Nat} {st : Nat} (k_regs : kc.regs = true)
    (hfol : Follows kc s0 s) : Follows kc s0 (keyEnd id st s) := by
  unfold keyEnd
  repeat' first
    | with_reducible assumption
    | with_reducible refine keyCount_fol ‹_› ?_
    | with_reducible refine emit_fol ?_
    | split
    | dsimp only

theorem execKeyLoad_fol {kc : Touch} {s0 s : State} {id : Nat} {master : Nat} {usage : Nat} (k_regs : kc.regs = true) (k_key : kc.key = true)
    (hfol : Follows kc s0 s) : OutFollows kc s0 (execKeyLoad id master usage s) := by
  unfold execKeyLoad
  repeat' first
    | with_reducible assumption
    | with_reducible refine fol_fst (by assumption) ?_
    | intro _
    | with_reducible refine ite_folO ?_ ?_
    | with_reducible refine ite_fol ?_ ?_
    | with_reducible refine next_fol ?_
    | with_reducible refine updKey_fol ‹_› ?_
    | with_reducible refine keyEnd_fol ‹_› ?_
    | with_reducible refine loadBlob_fol ‹_› ‹_› ?_
    | with_reducible refine emit_fol ?_
    | split
    | dsimp only

theorem execKeyOperationEnd_fol {kc : Touch} {s0 s : State} {slot : Nat} (k_key : kc.key = true)
    (hfol : Follows kc s0 s) : OutFollows kc s0 (execKeyOperationEnd slot s) := by
  unfold execKeyOperationEnd
  repeat' first
    | with_reducible assumption
    | with_reducible refine fol_fst (by assumption) ?_
    | intro _
    | with_reducible refine ite_folO ?_ ?_
    | with_reducible refine ite_fol ?_ ?_
    | with_reducible refine next_fol ?_
    | with_reducible refine updKey_fol ‹_› ?_
    | split
    | dsimp only

theorem loadChain_fol {kc : Touch} {s0 s : State} {b : Blob} (k_regs : kc.regs = true) (k_key : kc.key = true)
    (hfol : Follows kc s0 s) : Follows kc s0 (loadChain b s) := by
  unfold loadChain
  repeat' first
    | with_reducible assumption
    | intro _
    | with_reducible refine ite_fol ?_ ?_
    | with_reducible refine ite_fol1 ?_ ?_
    | with_reducible refine loadBlob_fol ‹_› ‹_› ?_
    | with_reducible refine foldl_fol ?_ ?_
    | with_reducible refine foldl_fol1 ?_ ?_
    | split
    | dsimp only

theorem loadPinned_fol {kc : Touch} {s0 s : State} (k_regs : kc.regs = true) (k_key : kc.key = true)
    (hfol : Follows kc s0 s) : Follows kc s0 (loadPinned s) := by
  unfold loadPinned
  repeat' first
    | with_reducible assumption
    | intro _
    | with_reducible refine ite_fol ?_ ?_
    | with_reducible refine loadChain_fol ‹_› ‹_› ?_
    | with_reducible refine foldl_fol ?_ ?_
    | with_reducible refine foldl_fol1 ?_ ?_
    | split
    | dsimp only

theorem loadSystem_fol {kc : Touch} {s0 s : State} {id : Nat} (k_regs : kc.regs = true) (k_key : kc.key = true)
    (hfol : Follows kc s0 s) : Follows kc s0 (loadSystem id s) := by
  unfold loadSystem
  repeat' first
    | with_reducible assumption
    | with_reducible refine fol_fst (by assumption) ?_
    | with_reducible refine ite_fol ?_ ?_
    | with_reducible refine loadChain_fol ‹_› ‹_› ?_
    | split
    | dsimp only

theorem newChal_fol {kc : Touch} {s0 s : State} (k_key : kc.key = true)
    (hfol : Follows kc s0 s) : Follows kc s0 (newChal s) := by
  unfold newChal
  repeat' first
    | with_reducible assumption
    | intro _
    | with_reducible refine updKey_fol ‹_› ?_
    | with_reducible refine updFree_fol (fun _ => by omega) ?_
    | split
    | dsimp only

theorem dbgUnlock_fol {kc : Touch} {s0 s : State} (k_jr : kc.jr = true) (k_regs : kc.regs = true) (k_gmp : kc.gmp = true) (k_evr : kc.evr = true) (k_key : kc.key = true) (k_sess : kc.sess = true)
    (hfol : Follows kc s0 s) : Follows kc s0 (dbgUnlock s) := by
  unfold dbgUnlock
  repeat' first
    | with_reducible assumption
    | intro _
    | with_reducible refine ite_fol ?_ ?_
    | with_reducible refine updKey_fol ‹_› ?_
    | with_reducible refine closeAll_fol ‹_› ‹_› ‹_› ?_
    | with_reducible refine evTrig_fol ‹_› ‹_› ?_
    | split
    | dsimp only

theorem submitOp_fol {kc : Touch} {s0 s : State} {right : Bool} (k_jr : kc.jr = true) (k_regs : kc.regs = true) (k_gmp : kc.gmp = true) (k_evr : kc.evr = true) (k_key : kc.key = true) (k_sess : kc.sess = true)
    (hfol : Follows kc s0 s) : Follows kc s0 (submitOp right s).1 := by
  unfold submitOp
  repeat' first
    | with_reducible assumption
    | intro _
    | with_reducible refine ite_fol1 ?_ ?_
    | with_reducible refine ite_fol ?_ ?_
    | with_reducible refine updKey_fol ‹_› ?_
    | with_reducible refine dbgUnlock_fol ‹_› ‹_› ‹_› ‹_› ‹_› ‹_› ?_
    | split
    | dsimp only

theorem dbgCtrlWord_fol {kc : Touch} {s0 s : State} {right : Bool} {w : Word} (k_jr : kc.jr = true) (k_regs : kc.regs = true) (k_gmp : kc.gmp = true) (k_evr : kc.evr = true) (k_key : kc.key = true) (k_sess : kc.sess = true)
    (hfol : Follows kc s0 s) : Follows kc s0 (dbgCtrlWord right w s).1 := by
  unfold dbgCtrlWord
  repeat' first
    | with_reducible assumption
    | intro _
    | with_reducible refine ite_fol1 ?_ ?_
    | with_reducible refine ite_fol ?_ ?_
    | with_reducible refine updKey_fol ‹_› ?_
    | with_reducible refine newChal_fol ‹_› ?_
    | with_reducible refine submitOp_fol ‹_› ‹_› ‹_› ‹_› ‹_› ‹_› ?_
    | split
    | dsimp only

theorem dbgRespWord_fol {kc : Touch} {s0 s : State} {m : Nat} {w : Word} (k_key : kc.key = true)
    (hfol : Follows kc s0 s) : Follows kc s0 (dbgRespWord m w s).1 := by
  unfold dbgRespWord
  repeat' first
    | with_reducible assumption
    | intro _
    | with_reducible refine updKey_fol ‹_› ?_
    | split
    | dsimp only

theorem execNewChal_fol {kc : Touch} {s0 s : State} {src : Option GmpHdr} (k_jr : kc.jr = true) (k_regs : kc.regs = true) (k_gmp : kc.gmp = true) (k_sched : kc.sched = true) (k_pair : kc.pair = true) (k_evr : kc.evr = true) (k_key : kc.key = true) (k_sess : kc.sess = true)
    (hfol : Follows kc s0 s) : OutFollows kc s0 (execNewChal src s) := by
  unfold execNewChal
  repeat' first
    | with_reducible assumption
    | with_reducible refine fol_fst (by assumption) ?_
    | intro _
    | with_reducible refine next_fol ?_
    | with_reducible refine dbgCtrlWord_fol ‹_› ‹_› ‹_› ‹_› ‹_› ‹_› ?_
    | with_reducible refine gmpWord_fol ‹_› ‹_› ‹_› ‹_› ‹_› ‹_› ?_ ?_
    | split
    | dsimp only

theorem execSubmit_fol {kc : Touch} {s0 s : State} {src : Option GmpHdr} {resp : List Word} {right : Bool} (k_jr : kc.jr = true) (k_regs : kc.regs = true) (k_gmp : kc.gmp = true) (k_sched : kc.sched = true) (k_pair : kc.pair = true) (k_evr : kc.evr = true) (k_key : kc.key = true) (k_sess : kc.sess = true)
    (hfol : Follows kc s0 s) : OutFollows kc s0 (execSubmit src resp right s) := by
  unfold execSubmit
  repeat' first
    | with_reducible assumption
    | with_reducible refine fol_fst (by assumption) ?_
    | intro _
    | with_reducible refine ite_folO ?_ ?_
    | with_reducible refine ite_fol ?_ ?_
    | with_reducible refine next_fol ?_
    | with_reducible refine updKey_fol ‹_› ?_
    | with_reducible refine dbgCtrlWord_fol ‹_› ‹_› ‹_› ‹_› ‹_› ‹_› ?_
    | with_reducible refine gmpWord_fol ‹_› ‹_› ‹_› ‹_› ‹_› ‹_› ?_ ?_
    | split
    | dsimp only

end Sys2Proof.Machine
end

