-- ==== Sys2Proof/Laws/FolZones.lean ====
section
/-!
SUPPORT. What the operations of Machine/Zones.lean may change: one lemma each.
-/

set_option Elab.async false

namespace Sys2Proof.Machine

open Sys2Proof

theorem countReloc_fol {kc : Touch} {s0 s : State} {n : Nat} (k_regs : kc.regs = true)
    (hfol : Follows kc s0 s) : Follows kc s0 (countReloc n s) := by
  unfold countReloc
  repeat' first
    | with_reducible assumption
    | with_reducible refine ite_fol ?_ ?_
    | with_reducible refine bumpF_fol ‹_› ?_
    | split
    | dsimp only

theorem setZoneTab_fol {kc : Touch} {s0 s : State} {t : ZoneTab} (k_regs : kc.regs = true) (k_scr : kc.scr = true) (k_lkp : kc.lkp = true)
    (hfol : Follows kc s0 s) : Follows kc s0 (setZoneTab t s) := by
  unfold setZoneTab
  repeat' first
    | with_reducible assumption
    | intro _
    | with_reducible refine updScr_fol ‹_› ?_
    | with_reducible refine updLkp_fol ‹_› ?_
    | with_reducible refine countReloc_fol ‹_› ?_
    | split
    | dsimp only

theorem zoneHandler_fol {kc : Touch} {s0 s : State} {rs : List ZoneRec} {x : ReqCtx} (k_regs : kc.regs = true) (k_scr : kc.scr = true) (k_lkp : kc.lkp = true)
    (hfol : Follows kc s0 s) : Follows kc s0 (zoneHandler rs x s).1 := by
  unfold zoneHandler
  repeat' first
    | with_reducible assumption
    | with_reducible refine fol_fst (by assumption) ?_
    | intro _
    | with_reducible refine setZoneTab_fol ‹_› ‹_› ‹_› ?_
    | split
    | dsimp only

theorem execZone_fol {kc : Touch} {s0 s : State} {h : GmpHdr} {rs : List ZoneRec} (k_jr : kc.jr = true) (k_regs : kc.regs = true) (k_gmp : kc.gmp = true) (k_scr : kc.scr = true) (k_sched : kc.sched = true) (k_pair : kc.pair = true) (k_lkp : kc.lkp = true) (k_sess : kc.sess = true)
    (hfol : Follows kc s0 s) : OutFollows kc s0 (execZone h rs s) := by
  unfold execZone
  repeat' first
    | with_reducible assumption
    | intro _
    | with_reducible refine next_fol ?_
    | with_reducible refine gmpRequest_fol ‹_› ‹_› ‹_› ‹_› ‹_› ‹_› ?_ ?_
    | with_reducible refine zoneHandler_fol ‹_› ‹_› ‹_› ?_
    | split
    | dsimp only

theorem zoneNote_fol {kc : Touch} {s0 s : State} {st : Nat} (k_scr : kc.scr = true)
    (hfol : Follows kc s0 s) : Follows kc s0 (zoneNote st s) := by
  unfold zoneNote
  repeat' first
    | with_reducible assumption
    | intro _
    | with_reducible refine updScr_fol ‹_› ?_
    | split
    | dsimp only

theorem zoneStage_fol {kc : Touch} {s0 s : State} {op : Nat} (k_regs : kc.regs = true) (k_scr : kc.scr = true) (k_lkp : kc.lkp = true)
    (hfol : Follows kc s0 s) : Follows kc s0 (zoneStage op s).1 := by
  unfold zoneStage
  repeat' first
    | with_reducible assumption
    | with_reducible refine setZoneTab_fol ‹_› ‹_› ‹_› ?_
    | with_reducible refine zoneNote_fol ‹_› ?_
    | split
    | dsimp only

theorem zoneRead_fol {kc : Touch} {s0 s : State} (k_regs : kc.regs = true) (k_scr : kc.scr = true)
    (hfol : Follows kc s0 s) : Follows kc s0 (zoneRead s).1 := by
  unfold zoneRead
  repeat' first
    | with_reducible assumption
    | intro _
    | with_reducible refine ite_fol1 ?_ ?_
    | with_reducible refine ite_fol ?_ ?_
    | with_reducible refine updScr_fol ‹_› ?_
    | with_reducible refine setForce_fol ‹_› ?_
    | with_reducible refine zoneNote_fol ‹_› ?_
    | split
    | dsimp only

theorem zoneCtrlWord_fol {kc : Touch} {s0 s : State} {v : Word} (k_regs : kc.regs = true) (k_scr : kc.scr = true) (k_lkp : kc.lkp = true)
    (hfol : Follows kc s0 s) : Follows kc s0 (zoneCtrlWord v s).1 := by
  unfold zoneCtrlWord
  repeat' first
    | with_reducible assumption
    | with_reducible refine ite_fol1 ?_ ?_
    | with_reducible refine ite_fol ?_ ?_
    | with_reducible refine zoneNote_fol ‹_› ?_
    | with_reducible refine zoneRead_fol ‹_› ‹_› ?_
    | with_reducible refine zoneStage_fol ‹_› ‹_› ‹_› ?_
    | split
    | dsimp only

theorem execZoneWrite_fol {kc : Touch} {s0 s : State} {h : GmpHdr} (k_jr : kc.jr = true) (k_regs : kc.regs = true) (k_gmp : kc.gmp = true) (k_scr : kc.scr = true) (k_sched : kc.sched = true) (k_pair : kc.pair = true) (k_lkp : kc.lkp = true) (k_sess : kc.sess = true)
    (hfol : Follows kc s0 s) : OutFollows kc s0 (execZoneWrite h s) := by
  unfold execZoneWrite
  repeat' first
    | with_reducible assumption
    | intro _
    | with_reducible refine next_fol ?_
    | with_reducible refine gmpWord_fol ‹_› ‹_› ‹_› ‹_› ‹_› ‹_› ?_ ?_
    | with_reducible refine zoneCtrlWord_fol ‹_› ‹_› ‹_› ?_
    | split
    | dsimp only

theorem execZoneDelete_fol {kc : Touch} {s0 s : State} {h : GmpHdr} (k_jr : kc.jr = true) (k_regs : kc.regs = true) (k_gmp : kc.gmp = true) (k_scr : kc.scr = true) (k_sched : kc.sched = true) (k_pair : kc.pair = true) (k_lkp : kc.lkp = true) (k_sess : kc.sess = true)
    (hfol : Follows kc s0 s) : OutFollows kc s0 (execZoneDelete h s) := by
  unfold execZoneDelete
  repeat' first
    | with_reducible assumption
    | intro _
    | with_reducible refine next_fol ?_
    | with_reducible refine gmpWord_fol ‹_› ‹_› ‹_› ‹_› ‹_› ‹_› ?_ ?_
    | with_reducible refine zoneCtrlWord_fol ‹_› ‹_› ‹_› ?_
    | split
    | dsimp only

theorem execZoneRead_fol {kc : Touch} {s0 s : State} {h : GmpHdr} (k_jr : kc.jr = true) (k_regs : kc.regs = true) (k_gmp : kc.gmp = true) (k_scr : kc.scr = true) (k_sched : kc.sched = true) (k_pair : kc.pair = true) (k_lkp : kc.lkp = true) (k_sess : kc.sess = true)
    (hfol : Follows kc s0 s) : OutFollows kc s0 (execZoneRead h s) := by
  unfold execZoneRead
  repeat' first
    | with_reducible assumption
    | intro _
    | with_reducible refine next_fol ?_
    | with_reducible refine gmpWord_fol ‹_› ‹_› ‹_› ‹_› ‹_› ‹_› ?_ ?_
    | with_reducible refine zoneCtrlWord_fol ‹_› ‹_› ‹_› ?_
    | split
    | dsimp only

theorem zoneCommit_fol {kc : Touch} {s0 s : State} (k_scr : kc.scr = true) (k_lkp : kc.lkp = true)
    (hfol : Follows kc s0 s) : Follows kc s0 (zoneCommit s) := by
  unfold zoneCommit
  repeat' first
    | with_reducible assumption
    | intro _
    | with_reducible refine updScr_fol ‹_› ?_
    | with_reducible refine updLkp_fol ‹_› ?_
    | split
    | dsimp only

theorem zoneDiscard_fol {kc : Touch} {s0 s : State} (k_scr : kc.scr = true) (k_lkp : kc.lkp = true)
    (hfol : Follows kc s0 s) : Follows kc s0 (zoneDiscard s) := by
  unfold zoneDiscard
  repeat' first
    | with_reducible assumption
    | intro _
    | with_reducible refine updScr_fol ‹_› ?_
    | with_reducible refine updLkp_fol ‹_› ?_
    | split
    | dsimp only

theorem zoneLoss_fol {kc : Touch} {s0 s : State} {i : Nat} (k_scr : kc.scr = true)
    (hfol : Follows kc s0 s) : Follows kc s0 (zoneLoss i s) := by
  unfold zoneLoss
  repeat' first
    | with_reducible assumption
    | with_reducible refine fol_fst (by assumption) ?_
    | intro _
    | with_reducible refine ite_fol ?_ ?_
    | with_reducible refine updScr_fol ‹_› ?_
    | split
    | dsimp only

end Sys2Proof.Machine
end

