-- ==== Sys2Proof/Laws/FolLkp.lean ====
section
/-!
SUPPORT. What the operations of Machine/Lkp.lean may change: one lemma each.
-/

set_option Elab.async false

namespace Sys2Proof.Machine

open Sys2Proof

theorem lkpCnt_fol {kc : Touch} {s0 s : State} {i : Nat} (k_regs : kc.regs = true)
    (hfol : Follows kc s0 s) : Follows kc s0 (lkpCnt i s) := by
  unfold lkpCnt
  repeat' first
    | with_reducible assumption
    | with_reducible refine bump_fol ‹_› ?_
    | split
    | dsimp only

theorem modPipe_fol {kc : Touch} {s0 s : State} {p : Nat} {f : Pipe → Pipe} (k_lkp : kc.lkp = true)
    (hfol : Follows kc s0 s) : Follows kc s0 (modPipe p f s) := by
  unfold modPipe
  repeat' first
    | with_reducible assumption
    | intro _
    | with_reducible refine updLkp_fol ‹_› ?_
    | split
    | dsimp only

theorem pipeLearn_fol {kc : Touch} {s0 s : State} {p : Nat} {e : EmEnt} (k_regs : kc.regs = true) (k_lkp : kc.lkp = true)
    (hfol : Follows kc s0 s) : Follows kc s0 (pipeLearn p e s).1 := by
  unfold pipeLearn
  repeat' first
    | with_reducible assumption
    | with_reducible refine fol_fst (by assumption) ?_
    | intro _
    | with_reducible refine ite_fol1 ?_ ?_
    | with_reducible refine ite_fol ?_ ?_
    | with_reducible refine countReloc_fol ‹_› ?_
    | with_reducible refine lkpCnt_fol ‹_› ?_
    | with_reducible refine modPipe_fol ‹_› ?_
    | split
    | dsimp only

theorem pipeLookup_fol {kc : Touch} {s0 s : State} {p : Nat} {node : Bool} {vid : Nat} {addr : Nat} (k_lkp : kc.lkp = true)
    (hfol : Follows kc s0 s) : Follows kc s0 (pipeLookup p node vid addr s).1 := by
  unfold pipeLookup
  repeat' first
    | with_reducible assumption
    | with_reducible refine fol_fst (by assumption) ?_
    | intro _
    | with_reducible refine modPipe_fol ‹_› ?_
    | split
    | dsimp only

theorem pipeDrop_fol {kc : Touch} {s0 s : State} {p : Nat} {f : EmEnt → Bool} (k_lkp : kc.lkp = true)
    (hfol : Follows kc s0 s) : Follows kc s0 (pipeDrop p f s) := by
  unfold pipeDrop
  repeat' first
    | with_reducible assumption
    | intro _
    | with_reducible refine modPipe_fol ‹_› ?_
    | split
    | dsimp only

theorem pipeCheckFail_fol {kc : Touch} {s0 s : State} {p : Nat} {node : Bool} {vid : Nat} {addr : Nat} (k_regs : kc.regs = true) (k_lkp : kc.lkp = true)
    (hfol : Follows kc s0 s) : Follows kc s0 (pipeCheckFail p node vid addr s) := by
  unfold pipeCheckFail
  repeat' first
    | with_reducible assumption
    | with_reducible refine fol_fst (by assumption) ?_
    | intro _
    | with_reducible refine ite_fol ?_ ?_
    | with_reducible refine lkpCnt_fol ‹_› ?_
    | with_reducible refine pipeDrop_fol ‹_› ?_
    | split
    | dsimp only

theorem nodeLearn_fol {kc : Touch} {s0 s : State} {addr : Nat} {port : Nat} {via : Nat} (k_regs : kc.regs = true) (k_lkp : kc.lkp = true)
    (hfol : Follows kc s0 s) : Follows kc s0 (nodeLearn addr port via s) := by
  unfold nodeLearn
  repeat' first
    | with_reducible assumption
    | with_reducible refine pipeLearn_fol ‹_› ‹_› ?_
    | split
    | dsimp only

theorem nodeForget_fol {kc : Touch} {s0 s : State} {addr : Nat} (k_lkp : kc.lkp = true)
    (hfol : Follows kc s0 s) : Follows kc s0 (nodeForget addr s) := by
  unfold nodeForget
  repeat' first
    | with_reducible assumption
    | with_reducible refine pipeDrop_fol ‹_› ?_
    | split
    | dsimp only

theorem execAgeVisit_fol {kc : Touch} {s0 s : State} {p : Nat} {bucket : Nat} (k_time : kc.time = true) (k_regs : kc.regs = true) (k_lkp : kc.lkp = true)
    (hfol : Follows kc s0 s) : OutFollows kc s0 (execAgeVisit p bucket s) := by
  unfold execAgeVisit
  repeat' first
    | with_reducible assumption
    | intro _
    | with_reducible refine ite_folO ?_ ?_
    | with_reducible refine ite_fol ?_ ?_
    | with_reducible refine next_fol ?_
    | with_reducible refine advTo_fol ‹_› ?_
    | with_reducible refine bumpF_fol ‹_› ?_
    | with_reducible refine modPipe_fol ‹_› ?_
    | split
    | dsimp only

theorem staticAdd_fol {kc : Touch} {s0 s : State} {vid : Nat} {mac : Nat} {port : Nat} (k_regs : kc.regs = true) (k_lkp : kc.lkp = true)
    (hfol : Follows kc s0 s) : Follows kc s0 (staticAdd vid mac port s).1 := by
  unfold staticAdd
  repeat' first
    | with_reducible assumption
    | with_reducible refine fol_fst (by assumption) ?_
    | intro _
    | with_reducible refine ite_fol1 ?_ ?_
    | with_reducible refine ite_fol ?_ ?_
    | with_reducible refine updLkp_fol ‹_› ?_
    | with_reducible refine countReloc_fol ‹_› ?_
    | with_reducible refine modPipe_fol ‹_› ?_
    | split
    | dsimp only

theorem staticDel_fol {kc : Touch} {s0 s : State} {vid : Nat} {mac : Nat} (k_lkp : kc.lkp = true)
    (hfol : Follows kc s0 s) : Follows kc s0 (staticDel vid mac s).1 := by
  unfold staticDel
  repeat' first
    | with_reducible assumption
    | intro _
    | with_reducible refine ite_fol1 ?_ ?_
    | with_reducible refine ite_fol ?_ ?_
    | with_reducible refine updLkp_fol ‹_› ?_
    | with_reducible refine modPipe_fol ‹_› ?_
    | split
    | dsimp only

theorem setRuleTab_fol {kc : Touch} {s0 s : State} {t : RuleTab} (k_regs : kc.regs = true) (k_lkp : kc.lkp = true)
    (hfol : Follows kc s0 s) : Follows kc s0 (setRuleTab t s) := by
  unfold setRuleTab
  repeat' first
    | with_reducible assumption
    | intro _
    | with_reducible refine updLkp_fol ‹_› ?_
    | with_reducible refine countReloc_fol ‹_› ?_
    | split
    | dsimp only

theorem ruleHandler_fol {kc : Touch} {s0 s : State} {rs : List RuleRec} {x : ReqCtx} (k_regs : kc.regs = true) (k_lkp : kc.lkp = true)
    (hfol : Follows kc s0 s) : Follows kc s0 (ruleHandler rs x s).1 := by
  unfold ruleHandler
  repeat' first
    | with_reducible assumption
    | with_reducible refine fol_fst (by assumption) ?_
    | intro _
    | with_reducible refine setRuleTab_fol ‹_› ‹_› ?_
    | split
    | dsimp only

theorem execRule_fol {kc : Touch} {s0 s : State} {h : GmpHdr} {rs : List RuleRec} (k_jr : kc.jr = true) (k_regs : kc.regs = true) (k_gmp : kc.gmp = true) (k_sched : kc.sched = true) (k_pair : kc.pair = true) (k_lkp : kc.lkp = true) (k_sess : kc.sess = true)
    (hfol : Follows kc s0 s) : OutFollows kc s0 (execRule h rs s) := by
  unfold execRule
  repeat' first
    | with_reducible assumption
    | intro _
    | with_reducible refine next_fol ?_
    | with_reducible refine gmpRequest_fol ‹_› ‹_› ‹_› ‹_› ‹_› ‹_› ?_ ?_
    | with_reducible refine ruleHandler_fol ‹_› ‹_› ?_
    | split
    | dsimp only

theorem ruleNote_fol {kc : Touch} {s0 s : State} {st : Nat} (k_lkp : kc.lkp = true)
    (hfol : Follows kc s0 s) : Follows kc s0 (ruleNote st s) := by
  unfold ruleNote
  repeat' first
    | with_reducible assumption
    | intro _
    | with_reducible refine updLkp_fol ‹_› ?_
    | split
    | dsimp only

theorem ruleStage_fol {kc : Touch} {s0 s : State} {op : Nat} (k_regs : kc.regs = true) (k_lkp : kc.lkp = true)
    (hfol : Follows kc s0 s) : Follows kc s0 (ruleStage op s).1 := by
  unfold ruleStage
  repeat' first
    | with_reducible assumption
    | with_reducible refine ruleNote_fol ‹_› ?_
    | with_reducible refine setRuleTab_fol ‹_› ‹_› ?_
    | split
    | dsimp only

theorem ruleRead_fol {kc : Touch} {s0 s : State} (k_regs : kc.regs = true) (k_lkp : kc.lkp = true)
    (hfol : Follows kc s0 s) : Follows kc s0 (ruleRead s).1 := by
  unfold ruleRead
  repeat' first
    | with_reducible assumption
    | intro _
    | with_reducible refine ite_fol1 ?_ ?_
    | with_reducible refine ite_fol ?_ ?_
    | with_reducible refine updLkp_fol ‹_› ?_
    | with_reducible refine ruleNote_fol ‹_› ?_
    | with_reducible refine setForce_fol ‹_› ?_
    | with_reducible refine foldl_fol ?_ ?_
    | with_reducible refine foldl_fol1 ?_ ?_
    | split
    | dsimp only

theorem ruleCtrlWord_fol {kc : Touch} {s0 s : State} {v : Word} (k_regs : kc.regs = true) (k_lkp : kc.lkp = true)
    (hfol : Follows kc s0 s) : Follows kc s0 (ruleCtrlWord v s).1 := by
  unfold ruleCtrlWord
  repeat' first
    | with_reducible assumption
    | with_reducible refine ite_fol1 ?_ ?_
    | with_reducible refine ite_fol ?_ ?_
    | with_reducible refine ruleNote_fol ‹_› ?_
    | with_reducible refine ruleRead_fol ‹_› ‹_› ?_
    | with_reducible refine ruleStage_fol ‹_› ‹_› ?_
    | split
    | dsimp only

theorem execRuleWrite_fol {kc : Touch} {s0 s : State} {h : GmpHdr} (k_jr : kc.jr = true) (k_regs : kc.regs = true) (k_gmp : kc.gmp = true) (k_sched : kc.sched = true) (k_pair : kc.pair = true) (k_lkp : kc.lkp = true) (k_sess : kc.sess = true)
    (hfol : Follows kc s0 s) : OutFollows kc s0 (execRuleWrite h s) := by
  unfold execRuleWrite
  repeat' first
    | with_reducible assumption
    | intro _
    | with_reducible refine next_fol ?_
    | with_reducible refine gmpWord_fol ‹_› ‹_› ‹_› ‹_› ‹_› ‹_› ?_ ?_
    | with_reducible refine ruleCtrlWord_fol ‹_› ‹_› ?_
    | split
    | dsimp only

theorem execRuleDelete_fol {kc : Touch} {s0 s : State} {h : GmpHdr} (k_jr : kc.jr = true) (k_regs : kc.regs = true) (k_gmp : kc.gmp = true) (k_sched : kc.sched = true) (k_pair : kc.pair = true) (k_lkp : kc.lkp = true) (k_sess : kc.sess = true)
    (hfol : Follows kc s0 s) : OutFollows kc s0 (execRuleDelete h s) := by
  unfold execRuleDelete
  repeat' first
    | with_reducible assumption
    | intro _
    | with_reducible refine next_fol ?_
    | with_reducible refine gmpWord_fol ‹_› ‹_› ‹_› ‹_› ‹_› ‹_› ?_ ?_
    | with_reducible refine ruleCtrlWord_fol ‹_› ‹_› ?_
    | split
    | dsimp only

theorem execRuleRead_fol {kc : Touch} {s0 s : State} {h : GmpHdr} (k_jr : kc.jr = true) (k_regs : kc.regs = true) (k_gmp : kc.gmp = true) (k_sched : kc.sched = true) (k_pair : kc.pair = true) (k_lkp : kc.lkp = true) (k_sess : kc.sess = true)
    (hfol : Follows kc s0 s) : OutFollows kc s0 (execRuleRead h s) := by
  unfold execRuleRead
  repeat' first
    | with_reducible assumption
    | intro _
    | with_reducible refine next_fol ?_
    | with_reducible refine gmpWord_fol ‹_› ‹_› ‹_› ‹_› ‹_› ‹_› ?_ ?_
    | with_reducible refine ruleCtrlWord_fol ‹_› ‹_› ?_
    | split
    | dsimp only

theorem lkpSwap_fol {kc : Touch} {s0 s : State} (k_scr : kc.scr = true) (k_lkp : kc.lkp = true)
    (hfol : Follows kc s0 s) : Follows kc s0 (lkpSwap s) := by
  unfold lkpSwap
  repeat' first
    | with_reducible assumption
    | intro _
    | with_reducible refine ite_fol ?_ ?_
    | with_reducible refine updLkp_fol ‹_› ?_
    | with_reducible refine zoneCommit_fol ‹_› ‹_› ?_
    | split
    | dsimp only

theorem lkpDiscard_fol {kc : Touch} {s0 s : State} (k_scr : kc.scr = true) (k_lkp : kc.lkp = true)
    (hfol : Follows kc s0 s) : Follows kc s0 (lkpDiscard s) := by
  unfold lkpDiscard
  repeat' first
    | with_reducible assumption
    | intro _
    | with_reducible refine updLkp_fol ‹_› ?_
    | with_reducible refine zoneDiscard_fol ‹_› ‹_› ?_
    | split
    | dsimp only

theorem execCatchupEnd_fol {kc : Touch} {s0 s : State} (k_lkp : kc.lkp = true)
    (hfol : Follows kc s0 s) : OutFollows kc s0 (execCatchupEnd s) := by
  unfold execCatchupEnd
  repeat' first
    | with_reducible assumption
    | intro _
    | with_reducible refine ite_folO ?_ ?_
    | with_reducible refine ite_fol ?_ ?_
    | with_reducible refine next_fol ?_
    | with_reducible refine updLkp_fol ‹_› ?_
    | split
    | dsimp only

theorem execTableRebuild_fol {kc : Touch} {s0 s : State} {table : Nat} (k_regs : kc.regs = true) (k_lkp : kc.lkp = true)
    (hfol : Follows kc s0 s) : OutFollows kc s0 (execTableRebuild table s) := by
  unfold execTableRebuild
  repeat' first
    | with_reducible assumption
    | intro _
    | with_reducible refine ite_folO ?_ ?_
    | with_reducible refine ite_fol ?_ ?_
    | with_reducible refine next_fol ?_
    | with_reducible refine updLkp_fol ‹_› ?_
    | with_reducible refine lkpCnt_fol ‹_› ?_
    | split
    | dsimp only

theorem setRes_fol {kc : Touch} {s0 s : State} {e : EmEnt} (k_lkp : kc.lkp = true)
    (hfol : Follows kc s0 s) : Follows kc s0 (setRes e s) := by
  unfold setRes
  repeat' first
    | with_reducible assumption
    | intro _
    | with_reducible refine updLkp_fol ‹_› ?_
    | split
    | dsimp only

theorem cmdSearch_fol {kc : Touch} {s0 s : State} {p : Nat} {node : Bool} (k_lkp : kc.lkp = true)
    (hfol : Follows kc s0 s) : Follows kc s0 (cmdSearch p node s).1 := by
  unfold cmdSearch
  repeat' first
    | with_reducible assumption
    | with_reducible refine fol_fst (by assumption) ?_
    | with_reducible refine pipeLookup_fol ‹_› ?_
    | with_reducible refine setRes_fol ‹_› ?_
    | split
    | dsimp only

theorem cmdNext_fol {kc : Touch} {s0 s : State} {p : Nat} (k_regs : kc.regs = true) (k_lkp : kc.lkp = true)
    (hfol : Follows kc s0 s) : Follows kc s0 (cmdNext p s).1 := by
  unfold cmdNext
  repeat' first
    | with_reducible assumption
    | with_reducible refine fol_fst (by assumption) ?_
    | intro _
    | with_reducible refine ite_fol1 ?_ ?_
    | with_reducible refine ite_fol ?_ ?_
    | with_reducible refine updLkp_fol ‹_› ?_
    | with_reducible refine modPipe_fol ‹_› ?_
    | with_reducible refine setForce_fol ‹_› ?_
    | with_reducible refine setRes_fol ‹_› ?_
    | split
    | dsimp only

theorem flushPort_fol {kc : Touch} {s0 s : State} {node : Bool} {port : Nat} (k_lkp : kc.lkp = true)
    (hfol : Follows kc s0 s) : Follows kc s0 (flushPort node port s).1 := by
  unfold flushPort
  repeat' first
    | with_reducible assumption
    | intro _
    | with_reducible refine ite_fol1 ?_ ?_
    | with_reducible refine ite_fol ?_ ?_
    | with_reducible refine pipeDrop_fol ‹_› ?_
    | split
    | dsimp only

theorem lkpCmdWord_fol {kc : Touch} {s0 s : State} {w : Word} (k_regs : kc.regs = true) (k_sched : kc.sched = true) (k_lkp : kc.lkp = true)
    (hfol : Follows kc s0 s) : Follows kc s0 (lkpCmdWord w s).1 := by
  unfold lkpCmdWord
  repeat' first
    | with_reducible assumption
    | intro _
    | with_reducible refine ite_fol1 ?_ ?_
    | with_reducible refine ite_fol ?_ ?_
    | with_reducible refine updLkp_fol ‹_› ?_
    | with_reducible refine admitTo_fol ‹_› ‹_› ?_
    | with_reducible refine bumpW_fol ‹_› ?_
    | with_reducible refine cmdNext_fol ‹_› ‹_› ?_
    | with_reducible refine cmdSearch_fol ‹_› ?_
    | with_reducible refine flushPort_fol ‹_› ?_
    | with_reducible refine staticAdd_fol ‹_› ‹_› ?_
    | with_reducible refine staticDel_fol ‹_› ?_
    | split
    | dsimp only

theorem lkpSend_fol {kc : Touch} {s0 s : State} {h : GmpHdr} {op : Nat} {pipe : Nat} {kind : Nat} {port : Nat} (k_jr : kc.jr = true) (k_regs : kc.regs = true) (k_gmp : kc.gmp = true) (k_sched : kc.sched = true) (k_pair : kc.pair = true) (k_lkp : kc.lkp = true) (k_sess : kc.sess = true)
    (hfol : Follows kc s0 s) : Follows kc s0 (lkpSend h op pipe kind port s) := by
  unfold lkpSend
  repeat' first
    | with_reducible assumption
    | intro _
    | with_reducible refine gmpWord_fol ‹_› ‹_› ‹_› ‹_› ‹_› ‹_› ?_ ?_
    | with_reducible refine lkpCmdWord_fol ‹_› ‹_› ‹_› ?_
    | split
    | dsimp only

theorem execSearch_fol {kc : Touch} {s0 s : State} {h : GmpHdr} {pipe : Nat} {kind : Nat} {port : Nat} (k_jr : kc.jr = true) (k_regs : kc.regs = true) (k_gmp : kc.gmp = true) (k_sched : kc.sched = true) (k_pair : kc.pair = true) (k_lkp : kc.lkp = true) (k_sess : kc.sess = true)
    (hfol : Follows kc s0 s) : OutFollows kc s0 (execSearch h pipe kind port s) := by
  unfold execSearch
  repeat' first
    | with_reducible assumption
    | with_reducible refine next_fol ?_
    | with_reducible refine lkpSend_fol ‹_› ‹_› ‹_› ‹_› ‹_› ‹_› ‹_› ?_
    | split
    | dsimp only

theorem execNextEntry_fol {kc : Touch} {s0 s : State} {h : GmpHdr} {pipe : Nat} {kind : Nat} {port : Nat} (k_jr : kc.jr = true) (k_regs : kc.regs = true) (k_gmp : kc.gmp = true) (k_sched : kc.sched = true) (k_pair : kc.pair = true) (k_lkp : kc.lkp = true) (k_sess : kc.sess = true)
    (hfol : Follows kc s0 s) : OutFollows kc s0 (execNextEntry h pipe kind port s) := by
  unfold execNextEntry
  repeat' first
    | with_reducible assumption
    | with_reducible refine next_fol ?_
    | with_reducible refine lkpSend_fol ‹_› ‹_› ‹_› ‹_› ‹_› ‹_› ‹_› ?_
    | split
    | dsimp only

theorem execFlushPort_fol {kc : Touch} {s0 s : State} {h : GmpHdr} {pipe : Nat} {kind : Nat} {port : Nat} (k_jr : kc.jr = true) (k_regs : kc.regs = true) (k_gmp : kc.gmp = true) (k_sched : kc.sched = true) (k_pair : kc.pair = true) (k_lkp : kc.lkp = true) (k_sess : kc.sess = true)
    (hfol : Follows kc s0 s) : OutFollows kc s0 (execFlushPort h pipe kind port s) := by
  unfold execFlushPort
  repeat' first
    | with_reducible assumption
    | with_reducible refine next_fol ?_
    | with_reducible refine lkpSend_fol ‹_› ‹_› ‹_› ‹_› ‹_› ‹_› ‹_› ?_
    | split
    | dsimp only

theorem execStaticAdd_fol {kc : Touch} {s0 s : State} {h : GmpHdr} {pipe : Nat} {kind : Nat} {port : Nat} (k_jr : kc.jr = true) (k_regs : kc.regs = true) (k_gmp : kc.gmp = true) (k_sched : kc.sched = true) (k_pair : kc.pair = true) (k_lkp : kc.lkp = true) (k_sess : kc.sess = true)
    (hfol : Follows kc s0 s) : OutFollows kc s0 (execStaticAdd h pipe kind port s) := by
  unfold execStaticAdd
  repeat' first
    | with_reducible assumption
    | with_reducible refine next_fol ?_
    | with_reducible refine lkpSend_fol ‹_› ‹_› ‹_› ‹_› ‹_› ‹_› ‹_› ?_
    | split
    | dsimp only

theorem execStaticDel_fol {kc : Touch} {s0 s : State} {h : GmpHdr} {pipe : Nat} {kind : Nat} {port : Nat} (k_jr : kc.jr = true) (k_regs : kc.regs = true) (k_gmp : kc.gmp = true) (k_sched : kc.sched = true) (k_pair : kc.pair = true) (k_lkp : kc.lkp = true) (k_sess : kc.sess = true)
    (hfol : Follows kc s0 s) : OutFollows kc s0 (execStaticDel h pipe kind port s) := by
  unfold execStaticDel
  repeat' first
    | with_reducible assumption
    | with_reducible refine next_fol ?_
    | with_reducible refine lkpSend_fol ‹_› ‹_› ‹_› ‹_› ‹_› ‹_› ‹_› ?_
    | split
    | dsimp only

theorem egress_fol {kc : Touch} {s0 s : State} {vlan : Word} {f : EthFrame} {p : Nat}
    (hfol : Follows kc s0 s) : Follows kc s0 (egress vlan f p s) := by
  unfold egress
  repeat' first
    | with_reducible assumption
    | with_reducible refine ite_fol ?_ ?_
    | with_reducible refine emit_fol ?_
    | split
    | dsimp only

theorem fragIn_fol {kc : Touch} {s0 s : State} {g : FragIn} (k_regs : kc.regs = true) (k_gmp : kc.gmp = true)
    (hfol : Follows kc s0 s) : Follows kc s0 (fragIn g s) := by
  unfold fragIn
  repeat' first
    | with_reducible assumption
    | intro _
    | with_reducible refine ite_fol ?_ ?_
    | with_reducible refine ite_fol1 ?_ ?_
    | with_reducible refine updGmp_fol ‹_› ?_
    | with_reducible refine bump_fol ‹_› ?_
    | split
    | dsimp only

theorem toLocal_fol {kc : Touch} {s0 s : State} {f : EthFrame} (k_regs : kc.regs = true) (k_gmp : kc.gmp = true)
    (hfol : Follows kc s0 s) : Follows kc s0 (toLocal f s) := by
  unfold toLocal
  repeat' first
    | with_reducible assumption
    | with_reducible refine fol_fst (by assumption) ?_
    | with_reducible refine ite_fol ?_ ?_
    | with_reducible refine bump_fol ‹_› ?_
    | with_reducible refine fragIn_fol ‹_› ‹_› ?_
    | with_reducible refine emit_fol ?_
    | split
    | dsimp only

theorem bridgeLearn_fol {kc : Touch} {s0 s : State} {vid : Nat} {f : EthFrame} (k_regs : kc.regs = true) (k_lkp : kc.lkp = true)
    (hfol : Follows kc s0 s) : Follows kc s0 (bridgeLearn vid f s).1 := by
  unfold bridgeLearn
  repeat' first
    | with_reducible assumption
    | with_reducible refine ite_fol1 ?_ ?_
    | with_reducible refine ite_fol ?_ ?_
    | with_reducible refine pipeCheckFail_fol ‹_› ‹_› ?_
    | with_reducible refine pipeLearn_fol ‹_› ‹_› ?_
    | split
    | dsimp only

theorem toMembers_fol {kc : Touch} {s0 s : State} {vlan : Word} {f : EthFrame} {local_ : Bool} (k_regs : kc.regs = true) (k_gmp : kc.gmp = true)
    (hfol : Follows kc s0 s) : Follows kc s0 (toMembers vlan f local_ s) := by
  unfold toMembers
  repeat' first
    | with_reducible assumption
    | intro _
    | with_reducible refine ite_fol ?_ ?_
    | with_reducible refine egress_fol ?_
    | with_reducible refine toLocal_fol ‹_› ‹_› ?_
    | with_reducible refine foldl_fol ?_ ?_
    | with_reducible refine foldl_fol1 ?_ ?_
    | split
    | dsimp only

theorem bridgeDeliver_fol {kc : Touch} {s0 s : State} {vid : Nat} {vlan : Word} {f : EthFrame} (k_regs : kc.regs = true) (k_gmp : kc.gmp = true) (k_lkp : kc.lkp = true)
    (hfol : Follows kc s0 s) : Follows kc s0 (bridgeDeliver vid vlan f s) := by
  unfold bridgeDeliver
  repeat' first
    | with_reducible assumption
    | with_reducible refine fol_fst (by assumption) ?_
    | with_reducible refine ite_fol ?_ ?_
    | with_reducible refine ite_fol1 ?_ ?_
    | with_reducible refine egress_fol ?_
    | with_reducible refine lkpCnt_fol ‹_› ?_
    | with_reducible refine pipeCheckFail_fol ‹_› ‹_› ?_
    | with_reducible refine pipeLookup_fol ‹_› ?_
    | with_reducible refine toLocal_fol ‹_› ‹_› ?_
    | with_reducible refine toMembers_fol ‹_› ‹_› ?_
    | split
    | dsimp only

theorem bridgeRules_fol {kc : Touch} {s0 s : State} {vid : Nat} {vlan : Word} {f : EthFrame} (k_regs : kc.regs = true) (k_gmp : kc.gmp = true) (k_lkp : kc.lkp = true)
    (hfol : Follows kc s0 s) : Follows kc s0 (bridgeRules vid vlan f s) := by
  unfold bridgeRules
  repeat' first
    | with_reducible assumption
    | with_reducible refine fol_fst (by assumption) ?_
    | with_reducible refine ite_fol ?_ ?_
    | with_reducible refine bridgeDeliver_fol ‹_› ‹_› ‹_› ?_
    | with_reducible refine egress_fol ?_
    | with_reducible refine lkpCnt_fol ‹_› ?_
    | split
    | dsimp only

theorem bridge_fol {kc : Touch} {s0 s : State} {f : EthFrame} (k_regs : kc.regs = true) (k_gmp : kc.gmp = true) (k_lkp : kc.lkp = true)
    (hfol : Follows kc s0 s) : Follows kc s0 (bridge f s) := by
  unfold bridge
  repeat' first
    | with_reducible assumption
    | with_reducible refine fol_fst (by assumption) ?_
    | with_reducible refine ite_fol ?_ ?_
    | with_reducible refine ite_fol1 ?_ ?_
    | with_reducible refine bridgeLearn_fol ‹_› ‹_› ?_
    | with_reducible refine bridgeRules_fol ‹_› ‹_› ‹_› ?_
    | with_reducible refine lkpCnt_fol ‹_› ?_
    | with_reducible refine toLocal_fol ‹_› ‹_› ?_
    | split
    | dsimp only

theorem execEthFrame_fol {kc : Touch} {s0 s : State} {f : EthFrame} (k_regs : kc.regs = true) (k_gmp : kc.gmp = true) (k_lkp : kc.lkp = true)
    (hfol : Follows kc s0 s) : OutFollows kc s0 (execEthFrame f s) := by
  unfold execEthFrame
  repeat' first
    | with_reducible assumption
    | with_reducible refine ite_folO ?_ ?_
    | with_reducible refine ite_fol ?_ ?_
    | with_reducible refine next_fol ?_
    | with_reducible refine bridge_fol ‹_› ‹_› ‹_› ?_
    | split
    | dsimp only

theorem execEthLinkChange_fol {kc : Touch} {s0 s : State} {p : Nat} {isUp : Bool} {speed : Nat} (k_regs : kc.regs = true) (k_gmp : kc.gmp = true) (k_lkp : kc.lkp = true)
    (hfol : Follows kc s0 s) : OutFollows kc s0 (execEthLinkChange p isUp speed s) := by
  unfold execEthLinkChange
  repeat' first
    | with_reducible assumption
    | intro _
    | with_reducible refine ite_folO ?_ ?_
    | with_reducible refine ite_fol ?_ ?_
    | with_reducible refine next_fol ?_
    | with_reducible refine updGmp_fol ‹_› ?_
    | with_reducible refine alarm_fol ‹_› ?_
    | with_reducible refine flushPort_fol ‹_› ?_
    | split
    | dsimp only

end Sys2Proof.Machine
end

