-- ==== Sys2Proof/Laws/FolMac.lean ====
section
/-!
SUPPORT. What the operations of Machine/Mac.lean may change: one lemma each.
-/

set_option Elab.async false

namespace Sys2Proof.Machine

open Sys2Proof

theorem modPort_fol {kc : Touch} {s0 s : State} {k : Nat} {f : Port → Port} (k_mac : kc.mac = true)
    (hfol : Follows kc s0 s) : Follows kc s0 (modPort k f s) := by
  unfold modPort
  repeat' first
    | with_reducible assumption
    | intro _
    | with_reducible refine updMac_fol ‹_› ?_
    | split
    | dsimp only

theorem queueSched_fol {kc : Touch} {s0 s : State} {a : Nat} (k_memb : kc.memb = true)
    (hfol : Follows kc s0 s) : Follows kc s0 (queueSched a s) := by
  unfold queueSched
  repeat' first
    | with_reducible assumption
    | with_reducible refine queueAck_fol ‹_› ?_
    | split
    | dsimp only

theorem portDiscover_fol {kc : Touch} {s0 s : State} {k : Nat} (k_mac : kc.mac = true)
    (hfol : Follows kc s0 s) : Follows kc s0 (portDiscover k s) := by
  unfold portDiscover
  repeat' first
    | with_reducible assumption
    | intro _
    | with_reducible refine modPort_fol ‹_› ?_
    | with_reducible refine emit_fol ?_
    | split
    | dsimp only

theorem portLeave_fol {kc : Touch} {s0 s : State} {k : Nat} {st : PortSt} {reason : Nat} (k_regs : kc.regs = true) (k_safe : kc.safe = true) (k_evr : kc.evr = true) (k_mac : kc.mac = true) (k_lkp : kc.lkp = true)
    (hfol : Follows kc s0 s) : Follows kc s0 (portLeave k st reason s) := by
  unfold portLeave
  repeat' first
    | with_reducible assumption
    | intro _
    | with_reducible refine ite_fol ?_ ?_
    | with_reducible refine ite_fol1 ?_ ?_
    | with_reducible refine updSafe_fol ‹_› ?_
    | with_reducible refine eligWatch_fol ‹_› ‹_› ?_
    | with_reducible refine evTrig_fol ‹_› ‹_› ?_
    | with_reducible refine flushPort_fol ‹_› ?_
    | with_reducible refine modPort_fol ‹_› ?_
    | split
    | dsimp only

theorem portDown_fol {kc : Touch} {s0 s : State} {k : Nat} {reason : Nat} (k_regs : kc.regs = true) (k_safe : kc.safe = true) (k_evr : kc.evr = true) (k_mac : kc.mac = true) (k_lkp : kc.lkp = true)
    (hfol : Follows kc s0 s) : Follows kc s0 (portDown k reason s) := by
  unfold portDown
  repeat' first
    | with_reducible assumption
    | with_reducible refine portLeave_fol ‹_› ‹_› ‹_› ‹_› ‹_› ?_
    | split
    | dsimp only

theorem portEnable_fol {kc : Touch} {s0 s : State} {k : Nat} (k_regs : kc.regs = true) (k_safe : kc.safe = true) (k_evr : kc.evr = true) (k_mac : kc.mac = true) (k_lkp : kc.lkp = true)
    (hfol : Follows kc s0 s) : Follows kc s0 (portEnable k s) := by
  unfold portEnable
  repeat' first
    | with_reducible assumption
    | with_reducible refine ite_fol ?_ ?_
    | with_reducible refine eligWatch_fol ‹_› ‹_› ?_
    | with_reducible refine portDiscover_fol ‹_› ?_
    | with_reducible refine portLeave_fol ‹_› ‹_› ‹_› ‹_› ‹_› ?_
    | split
    | dsimp only

theorem portsStart_fol {kc : Touch} {s0 s : State} (k_regs : kc.regs = true) (k_safe : kc.safe = true) (k_evr : kc.evr = true) (k_mac : kc.mac = true) (k_lkp : kc.lkp = true)
    (hfol : Follows kc s0 s) : Follows kc s0 (portsStart s) := by
  unfold portsStart
  repeat' first
    | with_reducible assumption
    | intro _
    | with_reducible refine modPort_fol ‹_› ?_
    | with_reducible refine portEnable_fol ‹_› ‹_› ‹_› ‹_› ‹_› ?_
    | with_reducible refine foldl_fol ?_ ?_
    | with_reducible refine foldl_fol1 ?_ ?_
    | split
    | dsimp only

theorem portsRise_fol {kc : Touch} {s0 s : State} (k_mac : kc.mac = true)
    (hfol : Follows kc s0 s) : Follows kc s0 (portsRise s) := by
  unfold portsRise
  repeat' first
    | with_reducible assumption
    | with_reducible refine fol_fst (by assumption) ?_
    | intro _
    | with_reducible refine ite_fol ?_ ?_
    | with_reducible refine updMac_fol ‹_› ?_
    | split
    | dsimp only

theorem busErr_fol {kc : Touch} {s0 s : State} {k : Nat} (k_regs : kc.regs = true) (k_safe : kc.safe = true) (k_evr : kc.evr = true) (k_mac : kc.mac = true) (k_lkp : kc.lkp = true)
    (hfol : Follows kc s0 s) : Follows kc s0 (busErr k s) := by
  unfold busErr
  repeat' first
    | with_reducible assumption
    | with_reducible refine fol_fst (by assumption) ?_
    | intro _
    | with_reducible refine ite_fol ?_ ?_
    | with_reducible refine bump_fol ‹_› ?_
    | with_reducible refine modPort_fol ‹_› ?_
    | with_reducible refine portDown_fol ‹_› ‹_› ‹_› ‹_› ‹_› ?_
    | split
    | dsimp only

theorem attempt_fol {kc : Touch} {s0 s : State} {k : Nat} {cmd : Nat} {r : HeadResp} (k_regs : kc.regs = true) (k_safe : kc.safe = true) (k_evr : kc.evr = true) (k_mac : kc.mac = true) (k_lkp : kc.lkp = true)
    (hfol : Follows kc s0 s) : Follows kc s0 (attempt k cmd r s).1 := by
  unfold attempt
  repeat' first
    | with_reducible assumption
    | with_reducible refine fol_fst (by assumption) ?_
    | intro _
    | with_reducible refine ite_fol1 ?_ ?_
    | with_reducible refine ite_fol ?_ ?_
    | with_reducible refine busErr_fol ‹_› ‹_› ‹_› ‹_› ‹_› ?_
    | with_reducible refine modPort_fol ‹_› ?_
    | with_reducible refine emit_fol ?_
    | split
    | dsimp only

theorem execReadId_fol {kc : Touch} {s0 s : State} {k : Nat} {r : HeadResp} {h : HeadId} (k_regs : kc.regs = true) (k_safe : kc.safe = true) (k_evr : kc.evr = true) (k_mac : kc.mac = true) (k_lkp : kc.lkp = true)
    (hfol : Follows kc s0 s) : OutFollows kc s0 (execReadId k r h s) := by
  unfold execReadId
  repeat' first
    | with_reducible assumption
    | intro _
    | with_reducible refine ite_folO ?_ ?_
    | with_reducible refine ite_fol ?_ ?_
    | with_reducible refine next_fol ?_
    | with_reducible refine attempt_fol ‹_› ‹_› ‹_› ‹_› ‹_› ?_
    | with_reducible refine modPort_fol ‹_› ?_
    | with_reducible refine portDown_fol ‹_› ‹_› ‹_› ‹_› ‹_› ?_
    | with_reducible refine emit_fol ?_
    | split
    | dsimp only

theorem execStatus_fol {kc : Touch} {s0 s : State} {k : Nat} {r : HeadResp} {flags : Nat} {rxCount : Nat} {fault : Nat} (k_regs : kc.regs = true) (k_safe : kc.safe = true) (k_evr : kc.evr = true) (k_mac : kc.mac = true) (k_lkp : kc.lkp = true)
    (hfol : Follows kc s0 s) : OutFollows kc s0 (execStatus k r flags rxCount fault s) := by
  unfold execStatus
  repeat' first
    | with_reducible assumption
    | intro _
    | with_reducible refine ite_folO ?_ ?_
    | with_reducible refine ite_fol ?_ ?_
    | with_reducible refine next_fol ?_
    | with_reducible refine attempt_fol ‹_› ‹_› ‹_› ‹_› ‹_› ?_
    | with_reducible refine modPort_fol ‹_› ?_
    | with_reducible refine portDown_fol ‹_› ‹_› ‹_› ‹_› ‹_› ?_
    | split
    | dsimp only

theorem execSetChannel_fol {kc : Touch} {s0 s : State} {k : Nat} {r : HeadResp} (k_regs : kc.regs = true) (k_safe : kc.safe = true) (k_evr : kc.evr = true) (k_mac : kc.mac = true) (k_lkp : kc.lkp = true)
    (hfol : Follows kc s0 s) : OutFollows kc s0 (execSetChannel k r s) := by
  unfold execSetChannel
  repeat' first
    | with_reducible assumption
    | with_reducible refine ite_folO ?_ ?_
    | with_reducible refine ite_fol ?_ ?_
    | with_reducible refine next_fol ?_
    | with_reducible refine attempt_fol ‹_› ‹_› ‹_› ‹_› ‹_› ?_
    | split
    | dsimp only

theorem execSetPower_fol {kc : Touch} {s0 s : State} {k : Nat} {r : HeadResp} (k_regs : kc.regs = true) (k_safe : kc.safe = true) (k_evr : kc.evr = true) (k_mac : kc.mac = true) (k_lkp : kc.lkp = true)
    (hfol : Follows kc s0 s) : OutFollows kc s0 (execSetPower k r s) := by
  unfold execSetPower
  repeat' first
    | with_reducible assumption
    | with_reducible refine ite_folO ?_ ?_
    | with_reducible refine ite_fol ?_ ?_
    | with_reducible refine next_fol ?_
    | with_reducible refine attempt_fol ‹_› ‹_› ‹_› ‹_› ‹_› ?_
    | split
    | dsimp only

theorem execTxLoad_fol {kc : Touch} {s0 s : State} {k : Nat} {r : HeadResp} (k_regs : kc.regs = true) (k_safe : kc.safe = true) (k_evr : kc.evr = true) (k_mac : kc.mac = true) (k_lkp : kc.lkp = true)
    (hfol : Follows kc s0 s) : OutFollows kc s0 (execTxLoad k r s) := by
  unfold execTxLoad
  repeat' first
    | with_reducible assumption
    | with_reducible refine fol_fst (by assumption) ?_
    | intro _
    | with_reducible refine ite_folO ?_ ?_
    | with_reducible refine ite_fol ?_ ?_
    | with_reducible refine next_fol ?_
    | with_reducible refine attempt_fol ‹_› ‹_› ‹_› ‹_› ‹_› ?_
    | with_reducible refine modPort_fol ‹_› ?_
    | split
    | dsimp only

theorem execTxCancel_fol {kc : Touch} {s0 s : State} {k : Nat} {r : HeadResp} (k_regs : kc.regs = true) (k_safe : kc.safe = true) (k_evr : kc.evr = true) (k_mac : kc.mac = true) (k_lkp : kc.lkp = true)
    (hfol : Follows kc s0 s) : OutFollows kc s0 (execTxCancel k r s) := by
  unfold execTxCancel
  repeat' first
    | with_reducible assumption
    | intro _
    | with_reducible refine ite_folO ?_ ?_
    | with_reducible refine ite_fol ?_ ?_
    | with_reducible refine next_fol ?_
    | with_reducible refine attempt_fol ‹_› ‹_› ‹_› ‹_› ‹_› ?_
    | with_reducible refine modPort_fol ‹_› ?_
    | split
    | dsimp only

theorem execRxFlush_fol {kc : Touch} {s0 s : State} {k : Nat} {r : HeadResp} (k_regs : kc.regs = true) (k_safe : kc.safe = true) (k_evr : kc.evr = true) (k_mac : kc.mac = true) (k_lkp : kc.lkp = true)
    (hfol : Follows kc s0 s) : OutFollows kc s0 (execRxFlush k r s) := by
  unfold execRxFlush
  repeat' first
    | with_reducible assumption
    | intro _
    | with_reducible refine ite_folO ?_ ?_
    | with_reducible refine ite_fol ?_ ?_
    | with_reducible refine next_fol ?_
    | with_reducible refine attempt_fol ‹_› ‹_› ‹_› ‹_› ‹_› ?_
    | with_reducible refine modPort_fol ‹_› ?_
    | split
    | dsimp only

theorem execStartNibbleTimeout_fol {kc : Touch} {s0 s : State} {k : Nat} {cmd : Nat} (k_regs : kc.regs = true) (k_safe : kc.safe = true) (k_evr : kc.evr = true) (k_mac : kc.mac = true) (k_lkp : kc.lkp = true)
    (hfol : Follows kc s0 s) : OutFollows kc s0 (execStartNibbleTimeout k cmd s) := by
  unfold execStartNibbleTimeout
  repeat' first
    | with_reducible assumption
    | with_reducible refine ite_folO ?_ ?_
    | with_reducible refine ite_fol ?_ ?_
    | with_reducible refine next_fol ?_
    | with_reducible refine attempt_fol ‹_› ‹_› ‹_› ‹_› ‹_› ?_
    | split
    | dsimp only

theorem execNoHeadTimeout_fol {kc : Touch} {s0 s : State} {k : Nat} (k_time : kc.time = true) (k_regs : kc.regs = true) (k_safe : kc.safe = true) (k_evr : kc.evr = true) (k_mac : kc.mac = true) (k_lkp : kc.lkp = true)
    (hfol : Follows kc s0 s) : OutFollows kc s0 (execNoHeadTimeout k s) := by
  unfold execNoHeadTimeout
  repeat' first
    | with_reducible assumption
    | with_reducible refine ite_folO ?_ ?_
    | with_reducible refine ite_fol ?_ ?_
    | with_reducible refine next_fol ?_
    | with_reducible refine advOp_fol ‹_› ?_
    | with_reducible refine portDown_fol ‹_› ‹_› ‹_› ‹_› ‹_› ?_
    | split
    | dsimp only

theorem execPortRetry_fol {kc : Touch} {s0 s : State} {k : Nat} (k_time : kc.time = true) (k_mac : kc.mac = true)
    (hfol : Follows kc s0 s) : OutFollows kc s0 (execPortRetry k s) := by
  unfold execPortRetry
  repeat' first
    | with_reducible assumption
    | with_reducible refine ite_folO ?_ ?_
    | with_reducible refine ite_fol ?_ ?_
    | with_reducible refine next_fol ?_
    | with_reducible refine advOp_fol ‹_› ?_
    | with_reducible refine portDiscover_fol ‹_› ?_
    | split
    | dsimp only

theorem portCtrlWord_fol {kc : Touch} {s0 s : State} {k : Nat} {w : Word} (k_regs : kc.regs = true) (k_safe : kc.safe = true) (k_evr : kc.evr = true) (k_mac : kc.mac = true) (k_lkp : kc.lkp = true)
    (hfol : Follows kc s0 s) : Follows kc s0 (portCtrlWord k w s).1 := by
  unfold portCtrlWord
  repeat' first
    | with_reducible assumption
    | with_reducible refine fol_fst (by assumption) ?_
    | with_reducible refine ite_fol1 ?_ ?_
    | with_reducible refine ite_fol ?_ ?_
    | with_reducible refine portDiscover_fol ‹_› ?_
    | with_reducible refine portDown_fol ‹_› ‹_› ‹_› ‹_› ‹_› ?_
    | split
    | dsimp only

theorem execResetHead_fol {kc : Touch} {s0 s : State} {h : GmpHdr} {k : Nat} (k_jr : kc.jr = true) (k_regs : kc.regs = true) (k_gmp : kc.gmp = true) (k_safe : kc.safe = true) (k_sched : kc.sched = true) (k_pair : kc.pair = true) (k_evr : kc.evr = true) (k_mac : kc.mac = true) (k_lkp : kc.lkp = true) (k_sess : kc.sess = true)
    (hfol : Follows kc s0 s) : OutFollows kc s0 (execResetHead h k s) := by
  unfold execResetHead
  repeat' first
    | with_reducible assumption
    | intro _
    | with_reducible refine ite_folO ?_ ?_
    | with_reducible refine ite_fol ?_ ?_
    | with_reducible refine next_fol ?_
    | with_reducible refine gmpWord_fol ‹_› ‹_› ‹_› ‹_› ‹_› ‹_› ?_ ?_
    | with_reducible refine portCtrlWord_fol ‹_› ‹_› ‹_› ‹_› ‹_› ?_
    | split
    | dsimp only

theorem portCommit_fol {kc : Touch} {s0 s : State} {old : State} {sf : Nat} {k : Nat} (k_regs : kc.regs = true) (k_safe : kc.safe = true) (k_evr : kc.evr = true) (k_mac : kc.mac = true) (k_lkp : kc.lkp = true)
    (hfol : Follows kc s0 s) : Follows kc s0 (portCommit old sf k s) := by
  unfold portCommit
  repeat' first
    | with_reducible assumption
    | intro _
    | with_reducible refine ite_fol ?_ ?_
    | with_reducible refine modPort_fol ‹_› ?_
    | with_reducible refine portEnable_fol ‹_› ‹_› ‹_› ‹_› ‹_› ?_
    | with_reducible refine emit_fol ?_
    | split
    | dsimp only

theorem macCommit_fol {kc : Touch} {s0 s : State} {old : State} {sf : Nat} (k_regs : kc.regs = true) (k_safe : kc.safe = true) (k_memb : kc.memb = true) (k_evr : kc.evr = true) (k_mac : kc.mac = true) (k_lkp : kc.lkp = true)
    (hfol : Follows kc s0 s) : Follows kc s0 (macCommit old sf s) := by
  unfold macCommit
  repeat' first
    | with_reducible assumption
    | intro _
    | with_reducible refine ite_fol ?_ ?_
    | with_reducible refine portCommit_fol ‹_› ‹_› ‹_› ‹_› ‹_› ?_
    | with_reducible refine queueSched_fol ‹_› ?_
    | with_reducible refine foldl_fol ?_ ?_
    | with_reducible refine foldl_fol1 ?_ ?_
    | split
    | dsimp only

theorem wakeSlots_fol {kc : Touch} {s0 s : State} {k : Nat} (k_memb : kc.memb = true)
    (hfol : Follows kc s0 s) : Follows kc s0 (wakeSlots k s) := by
  unfold wakeSlots
  repeat' first
    | with_reducible assumption
    | intro _
    | with_reducible refine ite_fol ?_ ?_
    | with_reducible refine updMemb_fol ‹_› ?_
    | split
    | dsimp only

theorem planSwitch_fol {kc : Touch} {s0 s : State} {k : Nat} {sf : Nat} (k_memb : kc.memb = true) (k_mac : kc.mac = true)
    (hfol : Follows kc s0 s) : Follows kc s0 (planSwitch k sf s) := by
  unfold planSwitch
  repeat' first
    | with_reducible assumption
    | with_reducible refine fol_fst (by assumption) ?_
    | intro _
    | with_reducible refine ite_fol ?_ ?_
    | with_reducible refine modPort_fol ‹_› ?_
    | with_reducible refine wakeSlots_fol ‹_› ?_
    | split
    | dsimp only

theorem execPlanSwitch_fol {kc : Touch} {s0 s : State} {k : Nat} (k_memb : kc.memb = true) (k_mac : kc.mac = true)
    (hfol : Follows kc s0 s) : OutFollows kc s0 (execPlanSwitch k s) := by
  unfold execPlanSwitch
  repeat' first
    | with_reducible assumption
    | with_reducible refine next_fol ?_
    | with_reducible refine planSwitch_fol ‹_› ‹_› ?_
    | split
    | dsimp only

end Sys2Proof.Machine
end

