-- ==== Sys2Proof/Laws/FolBoot.lean ====
section
/-!
SUPPORT. What the operations of Machine/Boot.lean may change: one lemma each.
-/

set_option Elab.async false

namespace Sys2Proof.Machine

open Sys2Proof

theorem putWords_fol {kc : Touch} {s0 s : State} {l : KMap Word} (k_regs : kc.regs = true)
    (hfol : Follows kc s0 s) : Follows kc s0 (putWords l s) := by
  unfold putWords
  repeat' first
    | with_reducible assumption
    | with_reducible refine fol_fst (by assumption) ?_
    | intro _
    | with_reducible refine setForce_fol ‹_› ?_
    | with_reducible refine foldl_fol ?_ ?_
    | with_reducible refine foldl_fol1 ?_ ?_
    | split
    | dsimp only

theorem halt_fol {kc : Touch} {s0 s : State} {code : Nat} (k_regs : kc.regs = true) (k_evr : kc.evr = true) (k_pcr : kc.pcr = true)
    (hfol : Follows kc s0 s) : Follows kc s0 (halt code s) := by
  unfold halt
  repeat' first
    | with_reducible assumption
    | intro _
    | with_reducible refine updPcr_fol ‹_› ?_
    | with_reducible refine evTrig_fol ‹_› ‹_› ?_
    | split
    | dsimp only

theorem bootChannels_fol {kc : Touch} {s0 s : State} {b : BootIn} (k_regs : kc.regs = true) (k_nvm : kc.nvm = true)
    (hfol : Follows kc s0 s) : Follows kc s0 (bootChannels b s) := by
  unfold bootChannels
  repeat' first
    | with_reducible assumption
    | with_reducible refine fol_fst (by assumption) ?_
    | intro _
    | with_reducible refine ite_fol ?_ ?_
    | with_reducible refine updNvm_fol ‹_› ?_
    | with_reducible refine alarm_fol ‹_› ?_
    | split
    | dsimp only

theorem bootRoots_fol {kc : Touch} {s0 s : State} (k_regs : kc.regs = true) (k_evr : kc.evr = true)
    (hfol : Follows kc s0 s) : Follows kc s0 (bootRoots s) := by
  unfold bootRoots
  repeat' first
    | with_reducible assumption
    | intro _
    | with_reducible refine ite_fol ?_ ?_
    | with_reducible refine ite_fol1 ?_ ?_
    | with_reducible refine alarm_fol ‹_› ?_
    | with_reducible refine evTrig_fol ‹_› ‹_› ?_
    | with_reducible refine foldl_fol ?_ ?_
    | with_reducible refine foldl_fol1 ?_ ?_
    | split
    | dsimp only

theorem bootLog_fol {kc : Touch} {s0 s : State} {size : Nat} (k_regs : kc.regs = true) (k_evr : kc.evr = true)
    (hfol : Follows kc s0 s) : Follows kc s0 (bootLog size s) := by
  unfold bootLog
  repeat' first
    | with_reducible assumption
    | intro _
    | with_reducible refine ite_fol ?_ ?_
    | with_reducible refine updEvr_fol ‹_› ?_
    | with_reducible refine evTrig_fol ‹_› ‹_› ?_
    | with_reducible refine evrKick_fol ‹_› ‹_› ?_
    | split
    | dsimp only

theorem bootHeader_fol {kc : Touch} {s0 s t : State} (k_regs : kc.regs = true) (k_evr : kc.evr = true) (k_nvm : kc.nvm = true)
    (e : bootHeader s = some t) (hfol : Follows kc s0 s) : Follows kc s0 t := by
  unfold bootHeader at e
  split at e
  · cases e
  · simp only [Option.some.injEq] at e
    subst e
    repeat' first
      | with_reducible assumption
      | with_reducible refine bootLog_fol ‹_› ‹_› ?_
      | with_reducible refine alarm_fol ‹_› ?_
      | with_reducible refine updNvm_fol ‹_› ?_
      | split


theorem bootSelect_fol {kc : Touch} {s0 s : State} (k_regs : kc.regs = true) (k_evr : kc.evr = true) (k_nvm : kc.nvm = true)
    (hfol : Follows kc s0 s) : Follows kc s0 (bootSelect s).1 := by
  unfold bootSelect
  repeat' first
    | with_reducible assumption
    | with_reducible refine fol_fst (by assumption) ?_
    | intro _
    | with_reducible refine ite_fol1 ?_ ?_
    | with_reducible refine ite_fol ?_ ?_
    | with_reducible refine hdrWrite_fol ‹_› ‹_› ‹_› ?_
    | split
    | dsimp only

theorem bootKeys_fol {kc : Touch} {s0 s : State} (k_regs : kc.regs = true) (k_key : kc.key = true)
    (hfol : Follows kc s0 s) : Follows kc s0 (bootKeys s) := by
  unfold bootKeys
  repeat' first
    | with_reducible assumption
    | with_reducible refine fol_fst (by assumption) ?_
    | intro _
    | with_reducible refine ite_fol ?_ ?_
    | with_reducible refine ite_fol1 ?_ ?_
    | with_reducible refine updKey_fol ‹_› ?_
    | with_reducible refine alarm_fol ‹_› ?_
    | with_reducible refine loadPinned_fol ‹_› ‹_› ?_
    | split
    | dsimp only

theorem bootHods_fol {kc : Touch} {s0 s : State} {l : List HodAsg} (k_hod : kc.hod = true)
    (hfol : Follows kc s0 s) : Follows kc s0 (bootHods l s) := by
  unfold bootHods
  repeat' first
    | with_reducible assumption
    | intro _
    | with_reducible refine ite_fol ?_ ?_
    | with_reducible refine updHod_fol ‹_› ?_
    | with_reducible refine foldl_fol ?_ ?_
    | with_reducible refine foldl_fol1 ?_ ?_
    | split
    | dsimp only

theorem bootValues_fol {kc : Touch} {s0 s : State} {im : Primer} {v : BootValues} (k_regs : kc.regs = true) (k_scr : kc.scr = true) (k_memb : kc.memb = true) (k_lkp : kc.lkp = true)
    (hfol : Follows kc s0 s) : Follows kc s0 (bootValues im v s) := by
  unfold bootValues
  repeat' first
    | with_reducible assumption
    | intro _
    | with_reducible refine updRegs_fol ‹_› rfl ?_
    | with_reducible refine updRegs_fol ‹_› rfl ?_ (.inr fun _ _ => rfl)
    | with_reducible refine updScr_fol ‹_› ?_
    | with_reducible refine updMemb_fol ‹_› ?_
    | with_reducible refine updLkp_fol ‹_› ?_
    | with_reducible refine putWords_fol ‹_› ?_
    | split
    | dsimp only

theorem bootShows_fol {kc : Touch} {s0 s : State} {im : Primer} {v : BootValues} {bare : Bool} (k_regs : kc.regs = true) (k_pcr : kc.pcr = true) (k_nvm : kc.nvm = true)
    (hfol : Follows kc s0 s) : Follows kc s0 (bootShows im v bare s) := by
  unfold bootShows
  repeat' first
    | with_reducible assumption
    | intro _
    | with_reducible refine ite_fol ?_ ?_
    | with_reducible refine ite_fol1 ?_ ?_
    | with_reducible refine updPcr_fol ‹_› ?_
    | with_reducible refine updNvm_fol ‹_› ?_
    | with_reducible refine alarm_fol ‹_› ?_
    | split
    | dsimp only

theorem bootStart_fol {kc : Touch} {s0 s : State} {hods : List HodAsg} (k_regs : kc.regs = true) (k_safe : kc.safe = true) (k_pair : kc.pair = true) (k_evr : kc.evr = true) (k_hod : kc.hod = true) (k_mac : kc.mac = true) (k_lkp : kc.lkp = true) (k_role : kc.role = true)
    (hfol : Follows kc s0 s) : Follows kc s0 (bootStart hods s) := by
  unfold bootStart
  repeat' first
    | with_reducible assumption
    | intro _
    | with_reducible refine ite_fol ?_ ?_
    | with_reducible refine updPair_fol ‹_› ?_
    | with_reducible refine bootHods_fol ‹_› ?_
    | with_reducible refine portsStart_fol ‹_› ‹_› ‹_› ‹_› ‹_› ?_
    | split
    | dsimp only

theorem bootPrimer_fol {kc : Touch} {s0 s : State} {b : BootIn} (k_regs : kc.regs = true) (k_safe : kc.safe = true) (k_scr : kc.scr = true) (k_memb : kc.memb = true) (k_pair : kc.pair = true) (k_evr : kc.evr = true) (k_key : kc.key = true) (k_pcr : kc.pcr = true) (k_nvm : kc.nvm = true) (k_hod : kc.hod = true) (k_mac : kc.mac = true) (k_lkp : kc.lkp = true) (k_role : kc.role = true)
    (hfol : Follows kc s0 s) : Follows kc s0 (bootPrimer b s) := by
  unfold bootPrimer
  repeat' first
    | with_reducible assumption
    | with_reducible refine ite_fol ?_ ?_
    | with_reducible refine ite_fol1 ?_ ?_
    | with_reducible refine bootKeys_fol ‹_› ‹_› ?_
    | with_reducible refine bootShows_fol ‹_› ‹_› ‹_› ?_
    | with_reducible refine bootStart_fol ‹_› ‹_› ‹_› ‹_› ‹_› ‹_› ‹_› ‹_› ?_
    | with_reducible refine bootValues_fol ‹_› ‹_› ‹_› ‹_› ?_
    | with_reducible refine halt_fol ‹_› ‹_› ‹_› ?_
    | with_reducible refine loadSystem_fol ‹_› ‹_› ?_
    | split
    | dsimp only

theorem bootFirmware_fol {kc : Touch} {s0 s : State} {b : BootIn} (k_time : kc.time = true) (k_jr : kc.jr = true) (k_regs : kc.regs = true) (k_gmp : kc.gmp = true) (k_safe : kc.safe = true) (k_fix : kc.fix = true) (k_scr : kc.scr = true) (k_memb : kc.memb = true) (k_sched : kc.sched = true) (k_loop : kc.loop = true) (k_pair : kc.pair = true) (k_evr : kc.evr = true) (k_key : kc.key = true) (k_pcr : kc.pcr = true) (k_nvm : kc.nvm = true) (k_upd : kc.upd = true) (k_mem : kc.mem = true) (k_hod : kc.hod = true) (k_snag : kc.snag = true) (k_mac : kc.mac = true) (k_lkp : kc.lkp = true) (k_mark : kc.mark = true) (k_gen : kc.gen = true) (k_role : kc.role = true) (k_sess : kc.sess = true)
    (hfol : Follows kc s0 s) : Follows kc s0 (bootFirmware b s) := by
  unfold bootFirmware
  repeat' first
    | with_reducible assumption
    | with_reducible refine fol_fst (by assumption) ?_
    | intro _
    | with_reducible refine ite_fol ?_ ?_
    | with_reducible refine ite_fol1 ?_ ?_
    | with_reducible refine updPcr_fol ‹_› ?_
    | with_reducible refine updNvm_fol ‹_› ?_
    | with_reducible refine updUpd_fol ‹_› ?_
    | with_reducible refine alarm_fol ‹_› ?_
    | with_reducible refine bootPrimer_fol ‹_› ‹_› ‹_› ‹_› ‹_› ‹_› ‹_› ‹_› ‹_› ‹_› ‹_› ‹_› ‹_› ?_
    | with_reducible refine bootSelect_fol ‹_› ‹_› ‹_› ?_
    | with_reducible refine bump_fol ‹_› ?_
    | with_reducible refine evTrig_fol ‹_› ‹_› ?_
    | with_reducible refine halt_fol ‹_› ‹_› ‹_› ?_
    | with_reducible refine selfReset_fol ‹_› ‹_› ‹_› ‹_› ‹_› ‹_› ‹_› ‹_› ‹_› ‹_› ‹_› ‹_› ‹_› ‹_› ‹_› ‹_› ‹_› ‹_› ‹_› ‹_› ‹_› ‹_› ‹_› ‹_› ‹_› ?_
    | split
    | dsimp only

theorem execBoot_fol {kc : Touch} {s0 s : State} {b : BootIn} (k_time : kc.time = true) (k_jr : kc.jr = true) (k_regs : kc.regs = true) (k_gmp : kc.gmp = true) (k_safe : kc.safe = true) (k_fix : kc.fix = true) (k_scr : kc.scr = true) (k_memb : kc.memb = true) (k_sched : kc.sched = true) (k_loop : kc.loop = true) (k_pair : kc.pair = true) (k_evr : kc.evr = true) (k_key : kc.key = true) (k_pcr : kc.pcr = true) (k_nvm : kc.nvm = true) (k_upd : kc.upd = true) (k_mem : kc.mem = true) (k_hod : kc.hod = true) (k_snag : kc.snag = true) (k_mac : kc.mac = true) (k_lkp : kc.lkp = true) (k_mark : kc.mark = true) (k_gen : kc.gen = true) (k_role : kc.role = true) (k_sess : kc.sess = true)
    (hfol : Follows kc s0 s) : OutFollows kc s0 (execBoot b s) := by
  unfold execBoot
  repeat' first
    | with_reducible assumption
    | with_reducible refine fol_fst (by assumption) ?_
    | with_reducible refine ite_folO ?_ ?_
    | with_reducible refine ite_fol ?_ ?_
    | with_reducible refine next_fol ?_
    | with_reducible refine bootChannels_fol ‹_› ‹_› ?_
    | with_reducible refine bootFirmware_fol ‹_› ‹_› ‹_› ‹_› ‹_› ‹_› ‹_› ‹_› ‹_› ‹_› ‹_› ‹_› ‹_› ‹_› ‹_› ‹_› ‹_› ‹_› ‹_› ‹_› ‹_› ‹_› ‹_› ‹_› ‹_› ?_
    | with_reducible refine bootRoots_fol ‹_› ‹_› ?_
    | with_reducible refine halt_fol ‹_› ‹_› ‹_› ?_
    | with_reducible refine bootHeader_fol ‹_› ‹_› ‹_› (by assumption) ?_
    | split
    | dsimp only

end Sys2Proof.Machine
end

