-- ==== Sys2Proof/Laws/FolLoops.lean ====
section
/-!
SUPPORT. What the operations of Machine/Loops.lean may change: one lemma each.
-/

set_option Elab.async false

namespace Sys2Proof.Machine

open Sys2Proof

theorem modLoop_fol {kc : Touch} {s0 s : State} {l : Nat} {f : Loop → Loop} (k_loop : kc.loop = true)
    (hfol : Follows kc s0 s) : Follows kc s0 (modLoop l f s) := by
  unfold modLoop
  repeat' first
    | with_reducible assumption
    | with_reducible refine fol_fst (by assumption) ?_
    | intro _
    | with_reducible refine updLoop_fol ‹_› ?_
    | split
    | dsimp only

theorem loopReady_fol {kc : Touch} {s0 s : State} {l : Nat} (k_memb : kc.memb = true) (k_loop : kc.loop = true)
    (hfol : Follows kc s0 s) : Follows kc s0 (loopReady l s) := by
  unfold loopReady
  repeat' first
    | with_reducible assumption
    | with_reducible refine fol_fst (by assumption) ?_
    | with_reducible refine ite_fol ?_ ?_
    | with_reducible refine ceaseCmd_fol ‹_› ?_
    | with_reducible refine modLoop_fol ‹_› ?_
    | split
    | dsimp only

theorem holdOne_fol {kc : Touch} {s0 s : State} {sf : Nat} {l : Nat} (k_regs : kc.regs = true) (k_loop : kc.loop = true)
    (hfol : Follows kc s0 s) : Follows kc s0 (holdOne sf s l) := by
  unfold holdOne
  repeat' first
    | with_reducible assumption
    | with_reducible refine fol_fst (by assumption) ?_
    | intro _
    | with_reducible refine ite_fol ?_ ?_
    | with_reducible refine bump_fol ‹_› ?_
    | with_reducible refine modLoop_fol ‹_› ?_
    | split
    | dsimp only

theorem holdAll_fol {kc : Touch} {s0 s : State} {m : Nat} {sf : Nat} (k_regs : kc.regs = true) (k_loop : kc.loop = true)
    (hfol : Follows kc s0 s) : Follows kc s0 (holdAll m sf s) := by
  unfold holdAll
  repeat' first
    | with_reducible assumption
    | intro _
    | with_reducible refine holdOne_fol ‹_› ‹_› ?_
    | with_reducible refine foldl_fol ?_ ?_
    | with_reducible refine foldl_fol1 ?_ ?_
    | split
    | dsimp only

theorem loopBad_fol {kc : Touch} {s0 s : State} {l : Nat} {sf : Nat} (k_regs : kc.regs = true) (k_loop : kc.loop = true)
    (hfol : Follows kc s0 s) : Follows kc s0 (loopBad l sf s) := by
  unfold loopBad
  repeat' first
    | with_reducible assumption
    | with_reducible refine fol_fst (by assumption) ?_
    | intro _
    | with_reducible refine ite_fol ?_ ?_
    | with_reducible refine holdAll_fol ‹_› ‹_› ?_
    | with_reducible refine modLoop_fol ‹_› ?_
    | split
    | dsimp only

theorem sendOut_fol {kc : Touch} {s0 s : State} {x : Loop} {u : F32} {epoch : Nat} {flags : Nat} {last : Bool} (k_memb : kc.memb = true)
    (hfol : Follows kc s0 s) : Follows kc s0 (sendOut x u epoch flags last s) := by
  unfold sendOut
  repeat' first
    | with_reducible assumption
    | with_reducible refine ite_fol ?_ ?_
    | with_reducible refine queueCmd_fol ‹_› ?_
    | split
    | dsimp only

theorem putLoop_fol {kc : Touch} {s0 s : State} {l : Nat} {x : Loop} (k_loop : kc.loop = true)
    (hfol : Follows kc s0 s) : Follows kc s0 (putLoop l x s) := by
  unfold putLoop
  repeat' first
    | with_reducible assumption
    | intro _
    | with_reducible refine updLoop_fol ‹_› ?_
    | split
    | dsimp only

theorem loopRun_fol {kc : Touch} {s0 s : State} {l : Nat} {x : Loop} {a : LoopSample} (k_regs : kc.regs = true) (k_memb : kc.memb = true) (k_loop : kc.loop = true)
    (hfol : Follows kc s0 s) : Follows kc s0 (loopRun l x a s) := by
  unfold loopRun
  repeat' first
    | with_reducible assumption
    | with_reducible refine fol_fst (by assumption) ?_
    | with_reducible refine ite_fol ?_ ?_
    | with_reducible refine ite_fol1 ?_ ?_
    | with_reducible refine bump_fol ‹_› ?_
    | with_reducible refine loopBad_fol ‹_› ‹_› ?_
    | with_reducible refine maxF_fol ‹_› ?_
    | with_reducible refine putLoop_fol ‹_› ?_
    | with_reducible refine sendOut_fol ‹_› ?_
    | split
    | dsimp only

theorem loopSample_fol {kc : Touch} {s0 s : State} {a : LoopSample} {l : Nat} (k_regs : kc.regs = true) (k_memb : kc.memb = true) (k_loop : kc.loop = true)
    (hfol : Follows kc s0 s) : Follows kc s0 (loopSample a s l) := by
  unfold loopSample
  repeat' first
    | with_reducible assumption
    | with_reducible refine fol_fst (by assumption) ?_
    | with_reducible refine ite_fol ?_ ?_
    | with_reducible refine bump_fol ‹_› ?_
    | with_reducible refine loopBad_fol ‹_› ‹_› ?_
    | with_reducible refine loopReady_fol ‹_› ‹_› ?_
    | with_reducible refine loopRun_fol ‹_› ‹_› ‹_› ?_
    | with_reducible refine putLoop_fol ‹_› ?_
    | split
    | dsimp only

theorem execLoopEval_fol {kc : Touch} {s0 s : State} {m : Nat} (k_regs : kc.regs = true) (k_memb : kc.memb = true) (k_sched : kc.sched = true) (k_loop : kc.loop = true) (k_evr : kc.evr = true)
    (hfol : Follows kc s0 s) : OutFollows kc s0 (execLoopEval m s) := by
  unfold execLoopEval
  repeat' first
    | with_reducible assumption
    | with_reducible refine fol_fst (by assumption) ?_
    | intro _
    | with_reducible refine ite_folO ?_ ?_
    | with_reducible refine ite_fol ?_ ?_
    | with_reducible refine next_fol ?_
    | with_reducible refine updLoop_fol ‹_› ?_
    | with_reducible refine finishJob_fol ‹_› ‹_› ‹_› ?_
    | with_reducible refine loopSample_fol ‹_› ‹_› ‹_› ?_
    | with_reducible refine foldl_fol ?_ ?_
    | with_reducible refine foldl_fol1 ?_ ?_
    | split
    | dsimp only

theorem offerSample_fol {kc : Touch} {s0 s : State} {a : LoopSample} (k_regs : kc.regs = true) (k_sched : kc.sched = true) (k_loop : kc.loop = true)
    (hfol : Follows kc s0 s) : Follows kc s0 (offerSample a s) := by
  unfold offerSample
  repeat' first
    | with_reducible assumption
    | intro _
    | with_reducible refine ite_fol ?_ ?_
    | with_reducible refine updLoop_fol ‹_› ?_
    | with_reducible refine createJob_fol ‹_› ‹_› ?_
    | split
    | dsimp only

theorem tickLoop_fol {kc : Touch} {s0 s : State} {sf : Nat} {l : Nat} (k_regs : kc.regs = true) (k_loop : kc.loop = true)
    (hfol : Follows kc s0 s) : Follows kc s0 (tickLoop sf s l) := by
  unfold tickLoop
  repeat' first
    | with_reducible assumption
    | with_reducible refine fol_fst (by assumption) ?_
    | intro _
    | with_reducible refine ite_fol ?_ ?_
    | with_reducible refine bump_fol ‹_› ?_
    | with_reducible refine modLoop_fol ‹_› ?_
    | split
    | dsimp only

theorem holdCheck_fol {kc : Touch} {s0 s : State} {sf : Nat} {l : Nat} (k_regs : kc.regs = true) (k_memb : kc.memb = true) (k_loop : kc.loop = true)
    (hfol : Follows kc s0 s) : Follows kc s0 (holdCheck sf s l) := by
  unfold holdCheck
  repeat' first
    | with_reducible assumption
    | with_reducible refine fol_fst (by assumption) ?_
    | with_reducible refine ite_fol ?_ ?_
    | with_reducible refine holdAll_fol ‹_› ‹_› ?_
    | with_reducible refine loopReady_fol ‹_› ‹_› ?_
    | split
    | dsimp only

theorem holdStep_fol {kc : Touch} {s0 s : State} {sf : Nat} {l : Nat} (k_memb : kc.memb = true) (k_loop : kc.loop = true)
    (hfol : Follows kc s0 s) : Follows kc s0 (holdStep sf s l) := by
  unfold holdStep
  repeat' first
    | with_reducible assumption
    | with_reducible refine fol_fst (by assumption) ?_
    | intro _
    | with_reducible refine ite_fol ?_ ?_
    | with_reducible refine ceaseCmd_fol ‹_› ?_
    | with_reducible refine modLoop_fol ‹_› ?_
    | with_reducible refine sendOut_fol ‹_› ?_
    | split
    | dsimp only

theorem holdWithdraw_fol {kc : Touch} {s0 s : State} {pos : Nat × Nat} {l : Nat} (k_regs : kc.regs = true) (k_gmp : kc.gmp = true) (k_safe : kc.safe = true) (k_loop : kc.loop = true) (k_evr : kc.evr = true)
    (hfol : Follows kc s0 s) : Follows kc s0 (holdWithdraw pos s l) := by
  unfold holdWithdraw
  repeat' first
    | with_reducible assumption
    | with_reducible refine fol_fst (by assumption) ?_
    | intro _
    | with_reducible refine ite_fol ?_ ?_
    | with_reducible refine ite_fol1 ?_ ?_
    | with_reducible refine bump_fol ‹_› ?_
    | with_reducible refine modLoop_fol ‹_› ?_
    | with_reducible refine withdraw_fol ‹_› ‹_› ‹_› ‹_› ?_
    | split
    | dsimp only

theorem loopMark_fol {kc : Touch} {s0 s : State} {pos : Nat × Nat} {l : Nat} (k_regs : kc.regs = true) (k_gmp : kc.gmp = true) (k_safe : kc.safe = true) (k_memb : kc.memb = true) (k_loop : kc.loop = true) (k_evr : kc.evr = true)
    (hfol : Follows kc s0 s) : Follows kc s0 (loopMark pos s l) := by
  unfold loopMark
  repeat' first
    | with_reducible assumption
    | with_reducible refine holdCheck_fol ‹_› ‹_› ‹_› ?_
    | with_reducible refine holdStep_fol ‹_› ‹_› ?_
    | with_reducible refine holdWithdraw_fol ‹_› ‹_› ‹_› ‹_› ‹_› ?_
    | with_reducible refine tickLoop_fol ‹_› ‹_› ?_
    | split
    | dsimp only

theorem loopsMark_fol {kc : Touch} {s0 s : State} {pos : Nat × Nat} (k_regs : kc.regs = true) (k_gmp : kc.gmp = true) (k_safe : kc.safe = true) (k_memb : kc.memb = true) (k_loop : kc.loop = true) (k_evr : kc.evr = true)
    (hfol : Follows kc s0 s) : Follows kc s0 (loopsMark pos s) := by
  unfold loopsMark
  repeat' first
    | with_reducible assumption
    | intro _
    | with_reducible refine countJob_fol ‹_› ?_
    | with_reducible refine loopMark_fol ‹_› ‹_› ‹_› ‹_› ‹_› ‹_› ?_
    | with_reducible refine foldl_fol ?_ ?_
    | with_reducible refine foldl_fol1 ?_ ?_
    | split
    | dsimp only

theorem execLoopTick_fol {kc : Touch} {s0 s : State} {l : Nat} (k_regs : kc.regs = true) (k_loop : kc.loop = true)
    (hfol : Follows kc s0 s) : OutFollows kc s0 (execLoopTick l s) := by
  unfold execLoopTick
  repeat' first
    | with_reducible assumption
    | with_reducible refine next_fol ?_
    | with_reducible refine tickLoop_fol ‹_› ‹_› ?_
    | split
    | dsimp only

theorem execLoopHold_fol {kc : Touch} {s0 s : State} {l : Nat} (k_regs : kc.regs = true) (k_memb : kc.memb = true) (k_loop : kc.loop = true)
    (hfol : Follows kc s0 s) : OutFollows kc s0 (execLoopHold l s) := by
  unfold execLoopHold
  repeat' first
    | with_reducible assumption
    | with_reducible refine next_fol ?_
    | with_reducible refine holdCheck_fol ‹_› ‹_› ‹_› ?_
    | split
    | dsimp only

theorem execHoldStep_fol {kc : Touch} {s0 s : State} {l : Nat} (k_memb : kc.memb = true) (k_loop : kc.loop = true)
    (hfol : Follows kc s0 s) : OutFollows kc s0 (execHoldStep l s) := by
  unfold execHoldStep
  repeat' first
    | with_reducible assumption
    | with_reducible refine next_fol ?_
    | with_reducible refine holdStep_fol ‹_› ‹_› ?_
    | split
    | dsimp only

theorem execHoldWithdraw_fol {kc : Touch} {s0 s : State} {l : Nat} (k_regs : kc.regs = true) (k_gmp : kc.gmp = true) (k_safe : kc.safe = true) (k_loop : kc.loop = true) (k_evr : kc.evr = true)
    (hfol : Follows kc s0 s) : OutFollows kc s0 (execHoldWithdraw l s) := by
  unfold execHoldWithdraw
  repeat' first
    | with_reducible assumption
    | with_reducible refine next_fol ?_
    | with_reducible refine holdWithdraw_fol ‹_› ‹_› ‹_› ‹_› ‹_› ?_
    | split
    | dsimp only

theorem loopsFreed_fol {kc : Touch} {s0 s : State} {m : Nat} (k_memb : kc.memb = true) (k_loop : kc.loop = true)
    (hfol : Follows kc s0 s) : Follows kc s0 (loopsFreed m s) := by
  unfold loopsFreed
  repeat' first
    | with_reducible assumption
    | intro _
    | with_reducible refine loopReady_fol ‹_› ‹_› ?_
    | with_reducible refine modLoop_fol ‹_› ?_
    | with_reducible refine foldl_fol ?_ ?_
    | with_reducible refine foldl_fol1 ?_ ?_
    | split
    | dsimp only

theorem clearI_fol {kc : Touch} {s0 s : State} {l : Nat} (k_loop : kc.loop = true)
    (hfol : Follows kc s0 s) : Follows kc s0 (clearI l s) := by
  unfold clearI
  repeat' first
    | with_reducible assumption
    | intro _
    | with_reducible refine modLoop_fol ‹_› ?_
    | split
    | dsimp only

theorem resume_fol {kc : Touch} {s0 s : State} {l : Nat} (k_memb : kc.memb = true) (k_loop : kc.loop = true)
    (hfol : Follows kc s0 s) : Follows kc s0 (resume l s).1 := by
  unfold resume
  repeat' first
    | with_reducible assumption
    | with_reducible refine fol_fst (by assumption) ?_
    | with_reducible refine ite_fol1 ?_ ?_
    | with_reducible refine ite_fol ?_ ?_
    | with_reducible refine loopReady_fol ‹_› ‹_› ?_
    | split
    | dsimp only

theorem loopCtrlWord_fol {kc : Touch} {s0 s : State} {v : Word} (k_memb : kc.memb = true) (k_loop : kc.loop = true)
    (hfol : Follows kc s0 s) : Follows kc s0 (loopCtrlWord v s).1 := by
  unfold loopCtrlWord
  repeat' first
    | with_reducible assumption
    | with_reducible refine ite_fol1 ?_ ?_
    | with_reducible refine ite_fol ?_ ?_
    | with_reducible refine clearI_fol ‹_› ?_
    | with_reducible refine resume_fol ‹_› ‹_› ?_
    | split
    | dsimp only

theorem execResume_fol {kc : Touch} {s0 s : State} {h : GmpHdr} (k_jr : kc.jr = true) (k_regs : kc.regs = true) (k_gmp : kc.gmp = true) (k_memb : kc.memb = true) (k_sched : kc.sched = true) (k_loop : kc.loop = true) (k_pair : kc.pair = true) (k_sess : kc.sess = true)
    (hfol : Follows kc s0 s) : OutFollows kc s0 (execResume h s) := by
  unfold execResume
  repeat' first
    | with_reducible assumption
    | intro _
    | with_reducible refine next_fol ?_
    | with_reducible refine gmpWord_fol ‹_› ‹_› ‹_› ‹_› ‹_› ‹_› ?_ ?_
    | with_reducible refine loopCtrlWord_fol ‹_› ‹_› ?_
    | split
    | dsimp only

theorem execClearI_fol {kc : Touch} {s0 s : State} {h : GmpHdr} (k_jr : kc.jr = true) (k_regs : kc.regs = true) (k_gmp : kc.gmp = true) (k_memb : kc.memb = true) (k_sched : kc.sched = true) (k_loop : kc.loop = true) (k_pair : kc.pair = true) (k_sess : kc.sess = true)
    (hfol : Follows kc s0 s) : OutFollows kc s0 (execClearI h s) := by
  unfold execClearI
  repeat' first
    | with_reducible assumption
    | intro _
    | with_reducible refine next_fol ?_
    | with_reducible refine gmpWord_fol ‹_› ‹_› ‹_› ‹_› ‹_› ‹_› ?_ ?_
    | with_reducible refine loopCtrlWord_fol ‹_› ‹_› ?_
    | split
    | dsimp only

theorem coefWord_fol {kc : Touch} {s0 s : State} {addr : Nat} {v : Word} (k_regs : kc.regs = true)
    (hfol : Follows kc s0 s) : Follows kc s0 (coefWord addr v s).1 := by
  unfold coefWord
  exact ite_fol1 hfol (ite_fol1 hfol (setForce_fol ‹_› hfol))


theorem execCoefWrite_fol {kc : Touch} {s0 s : State} {h : GmpHdr} {g : Nat} {r : Nat} {w : Nat} {v : Word} (k_jr : kc.jr = true) (k_regs : kc.regs = true) (k_gmp : kc.gmp = true) (k_sched : kc.sched = true) (k_pair : kc.pair = true) (k_sess : kc.sess = true)
    (hfol : Follows kc s0 s) : OutFollows kc s0 (execCoefWrite h g r w v s) := by
  unfold execCoefWrite
  repeat' first
    | with_reducible assumption
    | intro _
    | with_reducible refine next_fol ?_
    | with_reducible refine coefWord_fol ‹_› ?_
    | with_reducible refine gmpWord_fol ‹_› ‹_› ‹_› ‹_› ‹_› ‹_› ?_ ?_
    | split
    | dsimp only

theorem loopsCommit_fol {kc : Touch} {s0 s : State} (k_memb : kc.memb = true) (k_loop : kc.loop = true)
    (hfol : Follows kc s0 s) : Follows kc s0 (loopsCommit s) := by
  unfold loopsCommit
  repeat' first
    | with_reducible assumption
    | with_reducible refine fol_fst (by assumption) ?_
    | intro _
    | with_reducible refine ite_fol ?_ ?_
    | with_reducible refine updLoop_fol ‹_› ?_
    | with_reducible refine ceaseCmd_fol ‹_› ?_
    | with_reducible refine putLoop_fol ‹_› ?_
    | with_reducible refine foldl_fol ?_ ?_
    | with_reducible refine foldl_fol1 ?_ ?_
    | split
    | dsimp only

end Sys2Proof.Machine
end

