-- ==== Sys2Proof/Laws/FolTime.lean ====
section
/-!
SUPPORT. What the operations of Machine/Time.lean may change: one lemma each.
-/

set_option Elab.async false

namespace Sys2Proof.Machine

open Sys2Proof

theorem tick_fol {kc : Touch} {s0 s : State} (k_time : kc.time = true)
    (hfol : Follows kc s0 s) : Follows kc s0 (tick s) := by
  unfold tick
  repeat' first
    | with_reducible assumption
    | intro _
    | with_reducible refine updTime_fol ‹_› ?_
    | split
    | dsimp only

theorem modSrc_fol {kc : Touch} {s0 s : State} {k : Nat} {f : TimeSrc → TimeSrc} (k_time : kc.time = true)
    (hfol : Follows kc s0 s) : Follows kc s0 (modSrc k f s) := by
  unfold modSrc
  repeat' first
    | with_reducible assumption
    | intro _
    | with_reducible refine updTime_fol ‹_› ?_
    | split
    | dsimp only

theorem postTime_fol {kc : Touch} {s0 s : State} {code : Nat} {source : Nat} {before : Nat} {after : Nat} {trig : Nat} (k_jr : kc.jr = true) (k_regs : kc.regs = true) (k_gmp : kc.gmp = true) (k_pair : kc.pair = true) (k_evr : kc.evr = true)
    (hfol : Follows kc s0 s) : Follows kc s0 (postTime code source before after trig s) := by
  unfold postTime
  repeat' first
    | with_reducible assumption
    | intro _
    | with_reducible refine evTrig_fol ‹_› ‹_› ?_
    | with_reducible refine post_fol ‹_› ‹_› ‹_› ‹_› ?_ ?_
    | with_reducible dsimp only [id_eq]
    | split
    | dsimp only

theorem selState_fol {kc : Touch} {s0 s : State} {new : Option Nat} (k_time : kc.time = true)
    (hfol : Follows kc s0 s) : Follows kc s0 (selState new s) := by
  unfold selState
  repeat' first
    | with_reducible assumption
    | with_reducible refine fol_fst (by assumption) ?_
    | intro _
    | with_reducible refine updTime_fol ‹_› ?_
    | split
    | dsimp only

theorem reselect_fol {kc : Touch} {s0 s : State} (k_time : kc.time = true) (k_jr : kc.jr = true) (k_regs : kc.regs = true) (k_gmp : kc.gmp = true) (k_pair : kc.pair = true) (k_evr : kc.evr = true)
    (hfol : Follows kc s0 s) : Follows kc s0 (reselect s) := by
  unfold reselect
  repeat' first
    | with_reducible assumption
    | intro _
    | with_reducible refine ite_fol ?_ ?_
    | with_reducible refine updTime_fol ‹_› ?_
    | with_reducible refine alarm_fol ‹_› ?_
    | with_reducible refine bump_fol ‹_› ?_
    | with_reducible refine postTime_fol ‹_› ‹_› ‹_› ‹_› ‹_› ?_
    | with_reducible refine selState_fol ‹_› ?_
    | split
    | dsimp only

theorem servoOn_fol {kc : Touch} {s0 s : State} {e : Int} (k_time : kc.time = true)
    (hfol : Follows kc s0 s) : Follows kc s0 (servoOn e s) := by
  unfold servoOn
  repeat' first
    | with_reducible assumption
    | intro _
    | with_reducible refine updTime_fol ‹_› ?_
    | split
    | dsimp only

theorem measure_fol {kc : Touch} {s0 s : State} {k : Nat} {e : Int} {inst : Nat} (k_time : kc.time = true) (k_jr : kc.jr = true) (k_regs : kc.regs = true) (k_gmp : kc.gmp = true) (k_pair : kc.pair = true) (k_evr : kc.evr = true)
    (hfol : Follows kc s0 s) : Follows kc s0 (measure k e inst s) := by
  unfold measure
  repeat' first
    | with_reducible assumption
    | intro _
    | with_reducible refine ite_fol ?_ ?_
    | with_reducible refine alarm_fol ‹_› ?_
    | with_reducible refine bump_fol ‹_› ?_
    | with_reducible refine modSrc_fol ‹_› ?_
    | with_reducible refine postTime_fol ‹_› ‹_› ‹_› ‹_› ‹_› ?_
    | with_reducible refine reselect_fol ‹_› ‹_› ‹_› ‹_› ‹_› ‹_› ?_
    | with_reducible refine servoOn_fol ‹_› ?_
    | split
    | dsimp only

theorem srcEval_fol {kc : Touch} {s0 s : State} {k : Nat} (k_time : kc.time = true)
    (hfol : Follows kc s0 s) : Follows kc s0 (srcEval k s) := by
  unfold srcEval
  repeat' first
    | with_reducible assumption
    | intro _
    | with_reducible refine ite_fol ?_ ?_
    | with_reducible refine modSrc_fol ‹_› ?_
    | split
    | dsimp only

theorem execPpsEdge_fol {kc : Touch} {s0 s : State} {k : Nat} {ns : Nat} (k_time : kc.time = true)
    (hfol : Follows kc s0 s) : OutFollows kc s0 (execPpsEdge k ns s) := by
  unfold execPpsEdge
  repeat' first
    | with_reducible assumption
    | with_reducible refine fol_fst (by assumption) ?_
    | with_reducible refine ite_folO ?_ ?_
    | with_reducible refine ite_fol ?_ ?_
    | with_reducible refine next_fol ?_
    | with_reducible refine advTo_fol ‹_› ?_
    | with_reducible refine modSrc_fol ‹_› ?_
    | with_reducible refine srcEval_fol ‹_› ?_
    | split
    | dsimp only

theorem labelPulse_fol {kc : Touch} {s0 s : State} {k : Nat} {gps : Nat} (k_time : kc.time = true) (k_jr : kc.jr = true) (k_regs : kc.regs = true) (k_gmp : kc.gmp = true) (k_pair : kc.pair = true) (k_evr : kc.evr = true)
    (hfol : Follows kc s0 s) : Follows kc s0 (labelPulse k gps s) := by
  unfold labelPulse
  repeat' first
    | with_reducible assumption
    | with_reducible refine fol_fst (by assumption) ?_
    | intro _
    | with_reducible refine ite_fol ?_ ?_
    | with_reducible refine measure_fol ‹_› ‹_› ‹_› ‹_› ‹_› ‹_› ?_
    | with_reducible refine modSrc_fol ‹_› ?_
    | with_reducible refine srcEval_fol ‹_› ?_
    | split
    | dsimp only

theorem execSourceAbsentTimeout_fol {kc : Touch} {s0 s : State} {k : Nat} (k_time : kc.time = true) (k_jr : kc.jr = true) (k_regs : kc.regs = true) (k_gmp : kc.gmp = true) (k_pair : kc.pair = true) (k_evr : kc.evr = true)
    (hfol : Follows kc s0 s) : OutFollows kc s0 (execSourceAbsentTimeout k s) := by
  unfold execSourceAbsentTimeout
  repeat' first
    | with_reducible assumption
    | intro _
    | with_reducible refine ite_folO ?_ ?_
    | with_reducible refine ite_fol ?_ ?_
    | with_reducible refine next_fol ?_
    | with_reducible refine advOp_fol ‹_› ?_
    | with_reducible refine modSrc_fol ‹_› ?_
    | with_reducible refine reselect_fol ‹_› ‹_› ‹_› ‹_› ‹_› ‹_› ?_
    | with_reducible refine srcEval_fol ‹_› ?_
    | split
    | dsimp only

theorem execHoldLimitExpiry_fol {kc : Touch} {s0 s : State} (k_time : kc.time = true) (k_regs : kc.regs = true) (k_evr : kc.evr = true)
    (hfol : Follows kc s0 s) : OutFollows kc s0 (execHoldLimitExpiry s) := by
  unfold execHoldLimitExpiry
  repeat' first
    | with_reducible assumption
    | intro _
    | with_reducible refine ite_folO ?_ ?_
    | with_reducible refine ite_fol ?_ ?_
    | with_reducible refine next_fol ?_
    | with_reducible refine updTime_fol ‹_› ?_
    | with_reducible refine advOp_fol ‹_› ?_
    | with_reducible refine alarm_fol ‹_› ?_
    | with_reducible refine evTrig_fol ‹_› ‹_› ?_
    | split
    | dsimp only

theorem clearDis_fol {kc : Touch} {s0 s : State} (k_time : kc.time = true)
    (hfol : Follows kc s0 s) : Follows kc s0 (clearDis s) := by
  unfold clearDis
  repeat' first
    | with_reducible assumption
    | intro _
    | with_reducible refine ite_fol ?_ ?_
    | with_reducible refine updTime_fol ‹_› ?_
    | split
    | dsimp only

theorem forceSetOp_fol {kc : Touch} {s0 s : State} (k_time : kc.time = true)
    (hfol : Follows kc s0 s) : Follows kc s0 (forceSetOp s).1 := by
  unfold forceSetOp
  repeat' first
    | with_reducible assumption
    | intro _
    | with_reducible refine ite_fol1 ?_ ?_
    | with_reducible refine ite_fol ?_ ?_
    | with_reducible refine updTime_fol ‹_› ?_
    | split
    | dsimp only

theorem timeCtrlWord_fol {kc : Touch} {s0 s : State} {v : Word} (k_time : kc.time = true)
    (hfol : Follows kc s0 s) : Follows kc s0 (timeCtrlWord v s).1 := by
  unfold timeCtrlWord
  repeat' first
    | with_reducible assumption
    | intro _
    | with_reducible refine ite_fol1 ?_ ?_
    | with_reducible refine ite_fol ?_ ?_
    | with_reducible refine updTime_fol ‹_› ?_
    | with_reducible refine clearDis_fol ‹_› ?_
    | with_reducible refine forceSetOp_fol ‹_› ?_
    | split
    | dsimp only

theorem execForceSet_fol {kc : Touch} {s0 s : State} {h : GmpHdr} (k_time : kc.time = true) (k_jr : kc.jr = true) (k_regs : kc.regs = true) (k_gmp : kc.gmp = true) (k_sched : kc.sched = true) (k_pair : kc.pair = true) (k_sess : kc.sess = true)
    (hfol : Follows kc s0 s) : OutFollows kc s0 (execForceSet h s) := by
  unfold execForceSet
  repeat' first
    | with_reducible assumption
    | intro _
    | with_reducible refine next_fol ?_
    | with_reducible refine gmpWord_fol ‹_› ‹_› ‹_› ‹_› ‹_› ‹_› ?_ ?_
    | with_reducible refine timeCtrlWord_fol ‹_› ?_
    | split
    | dsimp only

theorem execClearDis_fol {kc : Touch} {s0 s : State} {h : GmpHdr} (k_time : kc.time = true) (k_jr : kc.jr = true) (k_regs : kc.regs = true) (k_gmp : kc.gmp = true) (k_sched : kc.sched = true) (k_pair : kc.pair = true) (k_sess : kc.sess = true)
    (hfol : Follows kc s0 s) : OutFollows kc s0 (execClearDis h s) := by
  unfold execClearDis
  repeat' first
    | with_reducible assumption
    | intro _
    | with_reducible refine next_fol ?_
    | with_reducible refine gmpWord_fol ‹_› ‹_› ‹_› ‹_› ‹_› ‹_› ?_ ?_
    | with_reducible refine timeCtrlWord_fol ‹_› ?_
    | split
    | dsimp only

theorem stepTime_fol {kc : Touch} {s0 s : State} {told : Nat} {new : Nat} {sf : Nat} (k_time : kc.time = true) (k_regs : kc.regs = true) (k_sched : kc.sched = true)
    (hfol : Follows kc s0 s) : Follows kc s0 (stepTime told new sf s) := by
  unfold stepTime
  repeat' first
    | with_reducible assumption
    | intro _
    | with_reducible refine ite_fol ?_ ?_
    | with_reducible refine ite_fol1 ?_ ?_
    | with_reducible refine updTime_fol ‹_› ?_
    | with_reducible refine bumpF_fol ‹_› ?_
    | with_reducible refine schedShift_fol ‹_› ?_
    | split
    | dsimp only

theorem setApplied_fol {kc : Touch} {s0 s : State} {told : Nat} {new : Nat} {sf : Nat} (k_time : kc.time = true) (k_regs : kc.regs = true) (k_sched : kc.sched = true) (k_evr : kc.evr = true)
    (hfol : Follows kc s0 s) : Follows kc s0 (setApplied told new sf s) := by
  unfold setApplied
  repeat' first
    | with_reducible assumption
    | intro _
    | with_reducible refine ite_fol ?_ ?_
    | with_reducible refine updTime_fol ‹_› ?_
    | with_reducible refine updEvr_fol ‹_› ?_
    | with_reducible refine alarm_fol ‹_› ?_
    | with_reducible refine bump_fol ‹_› ?_
    | with_reducible refine evTrig_fol ‹_› ‹_› ?_
    | with_reducible refine stepTime_fol ‹_› ‹_› ‹_› ?_
    | split
    | dsimp only

theorem execForceSetApply_fol {kc : Touch} {s0 s : State} (k_time : kc.time = true) (k_jr : kc.jr = true) (k_regs : kc.regs = true) (k_gmp : kc.gmp = true) (k_sched : kc.sched = true) (k_pair : kc.pair = true) (k_evr : kc.evr = true)
    (hfol : Follows kc s0 s) : OutFollows kc s0 (execForceSetApply s) := by
  unfold execForceSetApply
  repeat' first
    | with_reducible assumption
    | with_reducible refine fol_fst (by assumption) ?_
    | intro _
    | with_reducible refine ite_folO ?_ ?_
    | with_reducible refine ite_fol ?_ ?_
    | with_reducible refine next_fol ?_
    | with_reducible refine updTime_fol ‹_› ?_
    | with_reducible refine updJr_fol ‹_› ?_
    | with_reducible refine advTo_fol ‹_› ?_
    | with_reducible refine jWrite_fol ‹_› ‹_› ‹_› ‹_› ?_
    | with_reducible refine setApplied_fol ‹_› ‹_› ‹_› ‹_› ?_
    | split
    | dsimp only

theorem utcEval_fol {kc : Touch} {s0 s : State} (k_regs : kc.regs = true)
    (hfol : Follows kc s0 s) : Follows kc s0 (utcEval s) := by
  unfold utcEval
  repeat' first
    | with_reducible assumption
    | with_reducible refine ite_fol ?_ ?_
    | with_reducible refine alarm_fol ‹_› ?_
    | split
    | dsimp only

theorem execPtpSync_fol {kc : Touch} {s0 s : State} {port : Nat} {e : Int} {ns : Nat} (k_time : kc.time = true) (k_jr : kc.jr = true) (k_regs : kc.regs = true) (k_gmp : kc.gmp = true) (k_pair : kc.pair = true) (k_evr : kc.evr = true)
    (hfol : Follows kc s0 s) : OutFollows kc s0 (execPtpSync port e ns s) := by
  unfold execPtpSync
  repeat' first
    | with_reducible assumption
    | intro _
    | with_reducible refine ite_folO ?_ ?_
    | with_reducible refine ite_fol ?_ ?_
    | with_reducible refine next_fol ?_
    | with_reducible refine advTo_fol ‹_› ?_
    | with_reducible refine measure_fol ‹_› ‹_› ‹_› ‹_› ‹_› ‹_› ?_
    | with_reducible refine modSrc_fol ‹_› ?_
    | with_reducible refine srcEval_fol ‹_› ?_
    | split
    | dsimp only

theorem setPtpState_fol {kc : Touch} {s0 s : State} {port : Nat} {st : Nat} (k_time : kc.time = true)
    (hfol : Follows kc s0 s) : Follows kc s0 (setPtpState port st s) := by
  unfold setPtpState
  repeat' first
    | with_reducible assumption
    | intro _
    | with_reducible refine ite_fol ?_ ?_
    | with_reducible refine updTime_fol ‹_› ?_
    | with_reducible refine srcEval_fol ‹_› ?_
    | split
    | dsimp only

theorem execPtpMessage_fol {kc : Touch} {s0 s : State} {port : Nat} {m : PtpMsg} (k_time : kc.time = true) (k_regs : kc.regs = true)
    (hfol : Follows kc s0 s) : OutFollows kc s0 (execPtpMessage port m s) := by
  unfold execPtpMessage
  repeat' first
    | with_reducible assumption
    | with_reducible refine fol_fst (by assumption) ?_
    | intro _
    | with_reducible refine ite_folO ?_ ?_
    | with_reducible refine ite_fol ?_ ?_
    | with_reducible refine next_fol ?_
    | with_reducible refine updTime_fol ‹_› ?_
    | with_reducible refine bump_fol ‹_› ?_
    | with_reducible refine setPtpState_fol ‹_› ?_
    | with_reducible refine srcEval_fol ‹_› ?_
    | with_reducible refine utcEval_fol ‹_› ?_
    | with_reducible refine emit_fol ?_
    | split
    | dsimp only

theorem execAnnounceReceiptTimeout_fol {kc : Touch} {s0 s : State} {port : Nat} (k_time : kc.time = true)
    (hfol : Follows kc s0 s) : OutFollows kc s0 (execAnnounceReceiptTimeout port s) := by
  unfold execAnnounceReceiptTimeout
  repeat' first
    | with_reducible assumption
    | with_reducible refine ite_folO ?_ ?_
    | with_reducible refine ite_fol ?_ ?_
    | with_reducible refine next_fol ?_
    | with_reducible refine setPtpState_fol ‹_› ?_
    | split
    | dsimp only

theorem execPtpSendInterval_fol {kc : Touch} {s0 s : State} {port : Nat} {kind : Nat} (k_time : kc.time = true)
    (hfol : Follows kc s0 s) : OutFollows kc s0 (execPtpSendInterval port kind s) := by
  unfold execPtpSendInterval
  repeat' first
    | with_reducible assumption
    | intro _
    | with_reducible refine ite_folO ?_ ?_
    | with_reducible refine ite_fol ?_ ?_
    | with_reducible refine next_fol ?_
    | with_reducible refine updTime_fol ‹_› ?_
    | with_reducible refine emit_fol ?_
    | split
    | dsimp only

theorem trigWord_fol {kc : Touch} {s0 s : State} {k : Nat} {v : Word} (k_time : kc.time = true) (k_regs : kc.regs = true) (k_stage : kc.stage = true)
    (hfol : Follows kc s0 s) : Follows kc s0 (trigWord k v s).1 := by
  unfold trigWord
  repeat' first
    | with_reducible assumption
    | intro _
    | with_reducible refine ite_fol1 ?_ ?_
    | with_reducible refine ite_fol ?_ ?_
    | with_reducible refine updTime_fol ‹_› ?_
    | with_reducible refine storeWord_fol ‹_› ‹_› ?_
    | split
    | dsimp only

theorem execTrigArm_fol {kc : Touch} {s0 s : State} {h : GmpHdr} {k : Nat} {v : Word} (k_time : kc.time = true) (k_jr : kc.jr = true) (k_regs : kc.regs = true) (k_gmp : kc.gmp = true) (k_sched : kc.sched = true) (k_pair : kc.pair = true) (k_sess : kc.sess = true) (k_stage : kc.stage = true)
    (hfol : Follows kc s0 s) : OutFollows kc s0 (execTrigArm h k v s) := by
  unfold execTrigArm
  repeat' first
    | with_reducible assumption
    | intro _
    | with_reducible refine ite_folO ?_ ?_
    | with_reducible refine ite_fol ?_ ?_
    | with_reducible refine next_fol ?_
    | with_reducible refine gmpWord_fol ‹_› ‹_› ‹_› ‹_› ‹_› ‹_› ?_ ?_
    | with_reducible refine trigWord_fol ‹_› ‹_› ‹_› ?_
    | split
    | dsimp only

theorem execTriggerFire_fol {kc : Touch} {s0 s : State} {k : Nat} (k_time : kc.time = true)
    (hfol : Follows kc s0 s) : OutFollows kc s0 (execTriggerFire k s) := by
  unfold execTriggerFire
  repeat' first
    | with_reducible assumption
    | intro _
    | with_reducible refine ite_folO ?_ ?_
    | with_reducible refine ite_fol ?_ ?_
    | with_reducible refine next_fol ?_
    | with_reducible refine updTime_fol ‹_› ?_
    | with_reducible refine advTo_fol ‹_› ?_
    | with_reducible refine emit_fol ?_
    | split
    | dsimp only

end Sys2Proof.Machine
end

