-- ==== Sys2Proof/Laws/FolRef.lean ====
section
/-!
SUPPORT. What the operations of Machine/Ref.lean may change: one lemma each.
-/

set_option Elab.async false

namespace Sys2Proof.Machine

open Sys2Proof

theorem modEph_fol {kc : Touch} {s0 s : State} {key : Nat} {f : EphSlot → EphSlot} (k_fix : kc.fix = true)
    (hfol : Follows kc s0 s) : Follows kc s0 (modEph key f s) := by
  unfold modEph
  repeat' first
    | with_reducible assumption
    | intro _
    | with_reducible refine updFix_fol ‹_› ?_
    | split
    | dsimp only

theorem ephApply_fol {kc : Touch} {s0 s : State} {source : Nat} {T : Nat} {e : EphSet} {near : Bool} (k_regs : kc.regs = true) (k_fix : kc.fix = true)
    (hfol : Follows kc s0 s) : Follows kc s0 (ephApply source T e near s) := by
  unfold ephApply
  repeat' first
    | with_reducible assumption
    | with_reducible refine fol_fst (by assumption) ?_
    | intro _
    | with_reducible refine ite_fol ?_ ?_
    | with_reducible refine bump_fol ‹_› ?_
    | with_reducible refine modEph_fol ‹_› ?_
    | split
    | dsimp only

theorem ephMark_fol {kc : Touch} {s0 s : State} {T : Nat} (k_fix : kc.fix = true)
    (hfol : Follows kc s0 s) : Follows kc s0 (ephMark T s) := by
  unfold ephMark
  repeat' first
    | with_reducible assumption
    | with_reducible refine fol_fst (by assumption) ?_
    | intro _
    | with_reducible refine ite_fol ?_ ?_
    | with_reducible refine updFix_fol ‹_› ?_
    | split
    | dsimp only

theorem modRx_fol {kc : Touch} {s0 s : State} {k : Nat} {f : RefRx → RefRx} (k_fix : kc.fix = true)
    (hfol : Follows kc s0 s) : Follows kc s0 (modRx k f s) := by
  unfold modRx
  repeat' first
    | with_reducible assumption
    | intro _
    | with_reducible refine ite_fol ?_ ?_
    | with_reducible refine updFix_fol ‹_› ?_
    | split
    | dsimp only

theorem refBad_fol {kc : Touch} {s0 s : State} {k : Nat} {hi : Nat} {lo : Nat} (k_regs : kc.regs = true)
    (hfol : Follows kc s0 s) : Follows kc s0 (refBad k hi lo s) := by
  unfold refBad
  repeat' first
    | with_reducible assumption
    | with_reducible refine bumpF_fol ‹_› ?_
    | split
    | dsimp only

theorem rxAbsent_fol {kc : Touch} {s0 s : State} {k : Nat} (k_fix : kc.fix = true)
    (hfol : Follows kc s0 s) : Follows kc s0 (rxAbsent k s) := by
  unfold rxAbsent
  repeat' first
    | with_reducible assumption
    | intro _
    | with_reducible refine modRx_fol ‹_› ?_
    | split
    | dsimp only

theorem setPrimary_fol {kc : Touch} {s0 s : State} {p : Option Nat} (k_regs : kc.regs = true) (k_fix : kc.fix = true) (k_evr : kc.evr = true)
    (hfol : Follows kc s0 s) : Follows kc s0 (setPrimary p s) := by
  unfold setPrimary
  repeat' first
    | with_reducible assumption
    | intro _
    | with_reducible refine ite_fol ?_ ?_
    | with_reducible refine updFix_fol ‹_› ?_
    | with_reducible refine bumpF_fol ‹_› ?_
    | with_reducible refine evTrig_fol ‹_› ‹_› ?_
    | split
    | dsimp only

theorem choosePrimary_fol {kc : Touch} {s0 s : State} (k_regs : kc.regs = true) (k_fix : kc.fix = true) (k_evr : kc.evr = true)
    (hfol : Follows kc s0 s) : Follows kc s0 (choosePrimary s) := by
  unfold choosePrimary
  repeat' first
    | with_reducible assumption
    | with_reducible refine fol_fst (by assumption) ?_
    | with_reducible refine ite_fol ?_ ?_
    | with_reducible refine setPrimary_fol ‹_› ‹_› ‹_› ?_
    | split
    | dsimp only

theorem rxRefuse_fol {kc : Touch} {s0 s : State} {k : Nat} {sid : Nat} (k_regs : kc.regs = true) (k_fix : kc.fix = true) (k_evr : kc.evr = true)
    (hfol : Follows kc s0 s) : Follows kc s0 (rxRefuse k sid s) := by
  unfold rxRefuse
  repeat' first
    | with_reducible assumption
    | intro _
    | with_reducible refine ite_fol ?_ ?_
    | with_reducible refine alarm_fol ‹_› ?_
    | with_reducible refine evTrig_fol ‹_› ‹_› ?_
    | with_reducible refine modRx_fol ‹_› ?_
    | split
    | dsimp only

theorem applyArp_fol {kc : Touch} {s0 s : State} {k : Nat} {sf : Nat} {sid : Nat} {x : Int} {y : Int} {z : Int} {m : RtcmMsg} (k_regs : kc.regs = true) (k_fix : kc.fix = true) (k_evr : kc.evr = true)
    (hfol : Follows kc s0 s) : Follows kc s0 (applyArp k sf sid x y z m s) := by
  unfold applyArp
  repeat' first
    | with_reducible assumption
    | with_reducible refine fol_fst (by assumption) ?_
    | intro _
    | with_reducible refine ite_fol ?_ ?_
    | with_reducible refine modRx_fol ‹_› ?_
    | with_reducible refine rxRefuse_fol ‹_› ‹_› ‹_› ?_
    | split
    | dsimp only

theorem qualify_fol {kc : Touch} {s0 s : State} {k : Nat} {good : Bool} (k_fix : kc.fix = true)
    (hfol : Follows kc s0 s) : Follows kc s0 (qualify k good s) := by
  unfold qualify
  repeat' first
    | with_reducible assumption
    | with_reducible refine fol_fst (by assumption) ?_
    | intro _
    | with_reducible refine ite_fol ?_ ?_
    | with_reducible refine updFix_fol ‹_› ?_
    | with_reducible refine modRx_fol ‹_› ?_
    | split
    | dsimp only

theorem corrEpoch_fol {kc : Touch} {s0 s : State} {k : Nat} {e : RefEpoch} (k_regs : kc.regs = true) (k_fix : kc.fix = true)
    (hfol : Follows kc s0 s) : Follows kc s0 (corrEpoch k e s) := by
  unfold corrEpoch
  repeat' first
    | with_reducible assumption
    | intro _
    | with_reducible refine ite_fol ?_ ?_
    | with_reducible refine ite_fol1 ?_ ?_
    | with_reducible refine updFix_fol ‹_› ?_
    | with_reducible refine bumpF_fol ‹_› ?_
    | split
    | dsimp only

theorem corrMark_fol {kc : Touch} {s0 s : State} {sf : Nat} (k_fix : kc.fix = true)
    (hfol : Follows kc s0 s) : Follows kc s0 (corrMark sf s) := by
  unfold corrMark
  repeat' first
    | with_reducible assumption
    | with_reducible refine fol_fst (by assumption) ?_
    | intro _
    | with_reducible refine ite_fol ?_ ?_
    | with_reducible refine updFix_fol ‹_› ?_
    | split
    | dsimp only

theorem epochComplete_fol {kc : Touch} {s0 s : State} {k : Nat} {e : RefEpoch} {arrival : Nat} (k_time : kc.time = true) (k_jr : kc.jr = true) (k_regs : kc.regs = true) (k_gmp : kc.gmp = true) (k_fix : kc.fix = true) (k_sched : kc.sched = true) (k_pair : kc.pair = true) (k_evr : kc.evr = true)
    (hfol : Follows kc s0 s) : Follows kc s0 (epochComplete k e arrival s) := by
  unfold epochComplete
  repeat' first
    | with_reducible assumption
    | intro _
    | with_reducible refine ite_fol ?_ ?_
    | with_reducible refine choosePrimary_fol ‹_› ‹_› ‹_› ?_
    | with_reducible refine corrEpoch_fol ‹_› ‹_› ?_
    | with_reducible refine createJob_fol ‹_› ‹_› ?_
    | with_reducible refine labelPulse_fol ‹_› ‹_› ‹_› ‹_› ‹_› ‹_› ?_
    | with_reducible refine modRx_fol ‹_› ?_
    | with_reducible refine qualify_fol ‹_› ?_
    | split
    | dsimp only

theorem applyMsm_fol {kc : Touch} {s0 s : State} {k : Nat} {sf : Nat} {seq : Nat} {arrival : Nat} {m : RtcmMsg} {t : Nat} {sid : Nat} {multi : Bool} {sats : List SatObs} (k_time : kc.time = true) (k_jr : kc.jr = true) (k_regs : kc.regs = true) (k_gmp : kc.gmp = true) (k_fix : kc.fix = true) (k_sched : kc.sched = true) (k_pair : kc.pair = true) (k_evr : kc.evr = true)
    (hfol : Follows kc s0 s) : Follows kc s0 (applyMsm k sf seq arrival m t sid multi sats s) := by
  unfold applyMsm
  repeat' first
    | with_reducible assumption
    | with_reducible refine fol_fst (by assumption) ?_
    | intro _
    | with_reducible refine ite_fol ?_ ?_
    | with_reducible refine epochComplete_fol ‹_› ‹_› ‹_› ‹_› ‹_› ‹_› ‹_› ‹_› ?_
    | with_reducible refine modRx_fol ‹_› ?_
    | with_reducible refine refBad_fol ‹_› ?_
    | split
    | dsimp only

theorem refApply_fol {kc : Touch} {s0 s : State} {k : Nat} {sf : Nat} {seq : Nat} {arrival : Nat} {m : RtcmMsg} (k_time : kc.time = true) (k_jr : kc.jr = true) (k_regs : kc.regs = true) (k_gmp : kc.gmp = true) (k_fix : kc.fix = true) (k_sched : kc.sched = true) (k_pair : kc.pair = true) (k_evr : kc.evr = true)
    (hfol : Follows kc s0 s) : Follows kc s0 (refApply k sf seq arrival m s) := by
  unfold refApply
  repeat' first
    | with_reducible assumption
    | with_reducible refine fol_fst (by assumption) ?_
    | intro _
    | with_reducible refine ite_fol ?_ ?_
    | with_reducible refine applyArp_fol ‹_› ‹_› ‹_› ?_
    | with_reducible refine applyMsm_fol ‹_› ‹_› ‹_› ‹_› ‹_› ‹_› ‹_› ‹_› ?_
    | with_reducible refine bump_fol ‹_› ?_
    | with_reducible refine choosePrimary_fol ‹_› ‹_› ‹_› ?_
    | with_reducible refine ephApply_fol ‹_› ‹_› ?_
    | with_reducible refine modRx_fol ‹_› ?_
    | with_reducible refine refBad_fol ‹_› ?_
    | split
    | dsimp only

theorem acqEpoch_fol {kc : Touch} {s0 s : State} {k : Nat} {tow : Nat} {multi : Bool} (k_time : kc.time = true) (k_jr : kc.jr = true) (k_regs : kc.regs = true) (k_gmp : kc.gmp = true) (k_fix : kc.fix = true) (k_pair : kc.pair = true) (k_evr : kc.evr = true)
    (hfol : Follows kc s0 s) : Follows kc s0 (acqEpoch k tow multi s) := by
  unfold acqEpoch
  repeat' first
    | with_reducible assumption
    | with_reducible refine fol_fst (by assumption) ?_
    | intro _
    | with_reducible refine ite_fol ?_ ?_
    | with_reducible refine updFix_fol ‹_› ?_
    | with_reducible refine labelPulse_fol ‹_› ‹_› ‹_› ‹_› ‹_› ‹_› ?_
    | with_reducible refine srcEval_fol ‹_› ?_
    | split
    | dsimp only

theorem acqApply_fol {kc : Touch} {s0 s : State} {k : Nat} {m : RtcmMsg} (k_time : kc.time = true) (k_jr : kc.jr = true) (k_regs : kc.regs = true) (k_gmp : kc.gmp = true) (k_fix : kc.fix = true) (k_pair : kc.pair = true) (k_evr : kc.evr = true)
    (hfol : Follows kc s0 s) : Follows kc s0 (acqApply k m s) := by
  unfold acqApply
  repeat' first
    | with_reducible assumption
    | with_reducible refine fol_fst (by assumption) ?_
    | intro _
    | with_reducible refine ite_fol ?_ ?_
    | with_reducible refine updFix_fol ‹_› ?_
    | with_reducible refine acqEpoch_fol ‹_› ‹_› ‹_› ‹_› ‹_› ‹_› ‹_› ?_
    | with_reducible refine srcEval_fol ‹_› ?_
    | split
    | dsimp only

theorem offerRtcm_fol {kc : Touch} {s0 s : State} {k : Nat} {m : RtcmMsg} (k_time : kc.time = true) (k_jr : kc.jr = true) (k_regs : kc.regs = true) (k_gmp : kc.gmp = true) (k_fix : kc.fix = true) (k_sched : kc.sched = true) (k_pair : kc.pair = true) (k_evr : kc.evr = true)
    (hfol : Follows kc s0 s) : Follows kc s0 (offerRtcm k m s).1 := by
  unfold offerRtcm
  repeat' first
    | with_reducible assumption
    | with_reducible refine ite_fol1 ?_ ?_
    | with_reducible refine ite_fol ?_ ?_
    | with_reducible refine acqApply_fol ‹_› ‹_› ‹_› ‹_› ‹_› ‹_› ‹_› ?_
    | with_reducible refine bump_fol ‹_› ?_
    | with_reducible refine jWrite_fol ‹_› ‹_› ‹_› ‹_› ?_
    | with_reducible refine refApply_fol ‹_› ‹_› ‹_› ‹_› ‹_› ‹_› ‹_› ‹_› ?_
    | split
    | dsimp only

theorem execRefRtcm_fol {kc : Touch} {s0 s : State} {k : Nat} {m : RtcmMsg} (k_time : kc.time = true) (k_jr : kc.jr = true) (k_regs : kc.regs = true) (k_gmp : kc.gmp = true) (k_fix : kc.fix = true) (k_sched : kc.sched = true) (k_pair : kc.pair = true) (k_evr : kc.evr = true)
    (hfol : Follows kc s0 s) : OutFollows kc s0 (execRefRtcm k m s) := by
  unfold execRefRtcm
  repeat' first
    | with_reducible assumption
    | with_reducible refine ite_folO ?_ ?_
    | with_reducible refine ite_fol ?_ ?_
    | with_reducible refine next_fol ?_
    | with_reducible refine offerRtcm_fol ‹_› ‹_› ‹_› ‹_› ‹_› ‹_› ‹_› ‹_› ?_
    | split
    | dsimp only

theorem execRtcmUartMessage_fol {kc : Touch} {s0 s : State} {k : Nat} {framing : Bool} {m : RtcmMsg} (k_time : kc.time = true) (k_jr : kc.jr = true) (k_regs : kc.regs = true) (k_gmp : kc.gmp = true) (k_fix : kc.fix = true) (k_sched : kc.sched = true) (k_pair : kc.pair = true) (k_evr : kc.evr = true)
    (hfol : Follows kc s0 s) : OutFollows kc s0 (execRtcmUartMessage k framing m s) := by
  unfold execRtcmUartMessage
  repeat' first
    | with_reducible assumption
    | with_reducible refine ite_folO ?_ ?_
    | with_reducible refine ite_fol ?_ ?_
    | with_reducible refine next_fol ?_
    | with_reducible refine offerRtcm_fol ‹_› ‹_› ‹_› ‹_› ‹_› ‹_› ‹_› ‹_› ?_
    | with_reducible refine refBad_fol ‹_› ?_
    | split
    | dsimp only

theorem rtcmFrames_fol {kc : Touch} {s0 s : State} {k : Nat} {l : List RtcmMsg} (k_time : kc.time = true) (k_jr : kc.jr = true) (k_regs : kc.regs = true) (k_gmp : kc.gmp = true) (k_fix : kc.fix = true) (k_sched : kc.sched = true) (k_pair : kc.pair = true) (k_evr : kc.evr = true)
    (hfol : Follows kc s0 s) : Follows kc s0 (rtcmFrames k l s).1 := by
  induction l generalizing s with
  | nil => exact hfol
  | cons a r ih =>
    unfold rtcmFrames
    repeat' first
      | with_reducible assumption
      | with_reducible refine fol_fst (by assumption) ?_
      | with_reducible refine ih ?_
      | with_reducible refine refBad_fol ‹_› ?_
      | with_reducible refine offerRtcm_fol ‹_› ‹_› ‹_› ‹_› ‹_› ‹_› ‹_› ‹_› ?_
      | split
      | dsimp only


theorem execRtcm_fol {kc : Touch} {s0 s : State} {h : GmpHdr} {digest : Nat} {k : Nat} {count : Nat} {whole : Bool} {frames : List RtcmMsg} (k_time : kc.time = true) (k_jr : kc.jr = true) (k_regs : kc.regs = true) (k_gmp : kc.gmp = true) (k_fix : kc.fix = true) (k_sched : kc.sched = true) (k_pair : kc.pair = true) (k_evr : kc.evr = true) (k_sess : kc.sess = true)
    (hfol : Follows kc s0 s) : OutFollows kc s0 (execRtcm h digest k count whole frames s) := by
  unfold execRtcm
  repeat' first
    | with_reducible assumption
    | intro _
    | with_reducible refine ite_folO ?_ ?_
    | with_reducible refine ite_fol ?_ ?_
    | with_reducible refine next_fol ?_
    | with_reducible refine cachePush_fol ‹_› ‹_› ?_
    | with_reducible refine completeReq_fol ‹_› ‹_› ?_
    | with_reducible refine gmpGate_fol ‹_› ‹_› ‹_› ?_ ?_
    | with_reducible refine modSession_fol ‹_› ‹_› ?_
    | with_reducible refine rtcmFrames_fol ‹_› ‹_› ‹_› ‹_› ‹_› ‹_› ‹_› ‹_› ?_
    | split
    | dsimp only

theorem rxLostCheck_fol {kc : Touch} {s0 s : State} {sf : Nat} {k : Nat} (k_fix : kc.fix = true)
    (hfol : Follows kc s0 s) : Follows kc s0 (rxLostCheck sf k s) := by
  unfold rxLostCheck
  repeat' first
    | with_reducible assumption
    | intro _
    | with_reducible refine ite_fol ?_ ?_
    | with_reducible refine modRx_fol ‹_› ?_
    | split
    | dsimp only

theorem rxAbsentCheck_fol {kc : Touch} {s0 s : State} {sf : Nat} {k : Nat} (k_fix : kc.fix = true)
    (hfol : Follows kc s0 s) : Follows kc s0 (rxAbsentCheck sf k s) := by
  unfold rxAbsentCheck
  repeat' first
    | with_reducible assumption
    | with_reducible refine ite_fol ?_ ?_
    | with_reducible refine rxAbsent_fol ‹_› ?_
    | split
    | dsimp only

theorem switchMark_fol {kc : Touch} {s0 s : State} (k_regs : kc.regs = true) (k_fix : kc.fix = true) (k_evr : kc.evr = true)
    (hfol : Follows kc s0 s) : Follows kc s0 (switchMark s) := by
  unfold switchMark
  repeat' first
    | with_reducible assumption
    | with_reducible refine fol_fst (by assumption) ?_
    | intro _
    | with_reducible refine ite_fol ?_ ?_
    | with_reducible refine updFix_fol ‹_› ?_
    | with_reducible refine setPrimary_fol ‹_› ‹_› ‹_› ?_
    | split
    | dsimp only

theorem refMark_fol {kc : Touch} {s0 s : State} {sf : Nat} (k_regs : kc.regs = true) (k_fix : kc.fix = true) (k_evr : kc.evr = true)
    (hfol : Follows kc s0 s) : Follows kc s0 (refMark sf s) := by
  unfold refMark
  repeat' first
    | with_reducible assumption
    | intro _
    | with_reducible refine choosePrimary_fol ‹_› ‹_› ‹_› ?_
    | with_reducible refine corrMark_fol ‹_› ?_
    | with_reducible refine ephMark_fol ‹_› ?_
    | with_reducible refine rxAbsentCheck_fol ‹_› ?_
    | with_reducible refine rxLostCheck_fol ‹_› ?_
    | with_reducible refine switchMark_fol ‹_› ‹_› ‹_› ?_
    | with_reducible refine foldl_fol ?_ ?_
    | with_reducible refine foldl_fol1 ?_ ?_
    | split
    | dsimp only

theorem execRefLost_fol {kc : Touch} {s0 s : State} {k : Nat} (k_regs : kc.regs = true) (k_fix : kc.fix = true) (k_evr : kc.evr = true)
    (hfol : Follows kc s0 s) : OutFollows kc s0 (execRefLost k s) := by
  unfold execRefLost
  repeat' first
    | with_reducible assumption
    | with_reducible refine ite_folO ?_ ?_
    | with_reducible refine ite_fol ?_ ?_
    | with_reducible refine next_fol ?_
    | with_reducible refine choosePrimary_fol ‹_› ‹_› ‹_› ?_
    | with_reducible refine rxLostCheck_fol ‹_› ?_
    | split
    | dsimp only

theorem execRefAbsentTimeout_fol {kc : Touch} {s0 s : State} {k : Nat} (k_fix : kc.fix = true)
    (hfol : Follows kc s0 s) : OutFollows kc s0 (execRefAbsentTimeout k s) := by
  unfold execRefAbsentTimeout
  repeat' first
    | with_reducible assumption
    | with_reducible refine ite_folO ?_ ?_
    | with_reducible refine ite_fol ?_ ?_
    | with_reducible refine next_fol ?_
    | with_reducible refine rxAbsentCheck_fol ‹_› ?_
    | split
    | dsimp only

theorem clearRx_fol {kc : Touch} {s0 s : State} {k : Nat} (k_fix : kc.fix = true)
    (hfol : Follows kc s0 s) : Follows kc s0 (clearRx k s) := by
  unfold clearRx
  repeat' first
    | with_reducible assumption
    | with_reducible refine ite_fol ?_ ?_
    | with_reducible refine rxAbsent_fol ‹_› ?_
    | split
    | dsimp only

theorem refCtrlWord_fol {kc : Touch} {s0 s : State} {v : Word} (k_fix : kc.fix = true)
    (hfol : Follows kc s0 s) : Follows kc s0 (refCtrlWord v s).1 := by
  unfold refCtrlWord
  repeat' first
    | with_reducible assumption
    | intro _
    | with_reducible refine ite_fol1 ?_ ?_
    | with_reducible refine ite_fol ?_ ?_
    | with_reducible refine updFix_fol ‹_› ?_
    | with_reducible refine clearRx_fol ‹_› ?_
    | split
    | dsimp only

theorem execClear_fol {kc : Touch} {s0 s : State} {h : GmpHdr} {k : Nat} (k_jr : kc.jr = true) (k_regs : kc.regs = true) (k_gmp : kc.gmp = true) (k_fix : kc.fix = true) (k_sched : kc.sched = true) (k_pair : kc.pair = true) (k_sess : kc.sess = true)
    (hfol : Follows kc s0 s) : OutFollows kc s0 (execClear h k s) := by
  unfold execClear
  repeat' first
    | with_reducible assumption
    | intro _
    | with_reducible refine ite_folO ?_ ?_
    | with_reducible refine ite_fol ?_ ?_
    | with_reducible refine next_fol ?_
    | with_reducible refine gmpWord_fol ‹_› ‹_› ‹_› ‹_› ‹_› ‹_› ?_ ?_
    | with_reducible refine refCtrlWord_fol ‹_› ?_
    | split
    | dsimp only

theorem execSwitch_fol {kc : Touch} {s0 s : State} {h : GmpHdr} (k_jr : kc.jr = true) (k_regs : kc.regs = true) (k_gmp : kc.gmp = true) (k_fix : kc.fix = true) (k_sched : kc.sched = true) (k_pair : kc.pair = true) (k_sess : kc.sess = true)
    (hfol : Follows kc s0 s) : OutFollows kc s0 (execSwitch h s) := by
  unfold execSwitch
  repeat' first
    | with_reducible assumption
    | intro _
    | with_reducible refine next_fol ?_
    | with_reducible refine gmpWord_fol ‹_› ‹_› ‹_› ‹_› ‹_› ‹_› ?_ ?_
    | with_reducible refine refCtrlWord_fol ‹_› ?_
    | split
    | dsimp only

end Sys2Proof.Machine
end

