-- ==== Sys2Proof/Laws/FolCommit.lean ====
section
/-!
SUPPORT. What the operations of Machine/Commit.lean may change: one lemma each.
-/

set_option Elab.async false

namespace Sys2Proof.Machine

open Sys2Proof

theorem regsCommit_fol {kc : Touch} {s0 s : State} (k_regs : kc.regs = true)
    (hfol : Follows kc s0 s) : Follows kc s0 (regsCommit s) := by
  unfold regsCommit
  repeat' first
    | with_reducible assumption
    | intro _
    | with_reducible refine updRegs_fol ‹_› rfl ?_
    | with_reducible refine updRegs_fol ‹_› rfl ?_ (.inr fun _ _ => rfl)
    | with_reducible refine setForce_fol ‹_› ?_
    | with_reducible refine foldl_fol ?_ ?_
    | with_reducible refine foldl_fol1 ?_ ?_
    | split
    | dsimp only

theorem refCommit_fol {kc : Touch} {s0 s : State} (k_regs : kc.regs = true) (k_fix : kc.fix = true) (k_evr : kc.evr = true)
    (hfol : Follows kc s0 s) : Follows kc s0 (refCommit s) := by
  unfold refCommit
  repeat' first
    | with_reducible assumption
    | intro _
    | with_reducible refine ite_fol ?_ ?_
    | with_reducible refine choosePrimary_fol ‹_› ‹_› ‹_› ?_
    | with_reducible refine rxAbsent_fol ‹_› ?_
    | with_reducible refine foldl_fol ?_ ?_
    | with_reducible refine foldl_fol1 ?_ ?_
    | split
    | dsimp only

theorem commitApply_fol {kc : Touch} {s0 s : State} {sf : Nat} (k_regs : kc.regs = true) (k_safe : kc.safe = true) (k_fix : kc.fix = true) (k_scr : kc.scr = true) (k_memb : kc.memb = true) (k_loop : kc.loop = true) (k_evr : kc.evr = true) (k_mac : kc.mac = true) (k_lkp : kc.lkp = true)
    (hfol : Follows kc s0 s) : Follows kc s0 (commitApply sf s) := by
  unfold commitApply
  repeat' first
    | with_reducible assumption
    | with_reducible refine lkpSwap_fol ‹_› ‹_› ?_
    | with_reducible refine loopsCommit_fol ‹_› ‹_› ?_
    | with_reducible refine macCommit_fol ‹_› ‹_› ‹_› ‹_› ‹_› ‹_› ?_
    | with_reducible refine refCommit_fol ‹_› ‹_› ‹_› ?_
    | with_reducible refine regsCommit_fol ‹_› ?_
    | with_reducible refine utcEval_fol ‹_› ?_
    | split
    | dsimp only

theorem settingsStart_fol {kc : Touch} {s0 s : State} (k_regs : kc.regs = true) (k_nvm : kc.nvm = true)
    (hfol : Follows kc s0 s) : Follows kc s0 (settingsStart s) := by
  unfold settingsStart
  repeat' first
    | with_reducible assumption
    | with_reducible refine fol_fst (by assumption) ?_
    | intro _
    | with_reducible refine ite_fol ?_ ?_
    | with_reducible refine updNvm_fol ‹_› ?_
    | with_reducible refine bump_fol ‹_› ?_
    | split
    | dsimp only

theorem execSettingsWritten_fol {kc : Touch} {s0 s : State} {ok0 : Bool} {ok1 : Bool} (k_regs : kc.regs = true) (k_evr : kc.evr = true) (k_nvm : kc.nvm = true)
    (hfol : Follows kc s0 s) : OutFollows kc s0 (execSettingsWritten ok0 ok1 s) := by
  unfold execSettingsWritten
  repeat' first
    | with_reducible assumption
    | with_reducible refine fol_fst (by assumption) ?_
    | intro _
    | with_reducible refine ite_folO ?_ ?_
    | with_reducible refine ite_fol ?_ ?_
    | with_reducible refine next_fol ?_
    | with_reducible refine updNvm_fol ‹_› ?_
    | with_reducible refine bump_fol ‹_› ?_
    | with_reducible refine nvmWrite_fol ‹_› ‹_› ‹_› ?_
    | with_reducible refine settingsStart_fol ‹_› ‹_› ?_
    | split
    | dsimp only

theorem commitTell_fol {kc : Touch} {s0 s : State} {ws : List Waiter} {st : Nat} (k_gmp : kc.gmp = true) (k_sess : kc.sess = true)
    (hfol : Follows kc s0 s) : Follows kc s0 (commitTell ws st s) := by
  unfold commitTell
  repeat' first
    | with_reducible assumption
    | intro _
    | with_reducible refine completeReq_fol ‹_› ‹_› ?_
    | with_reducible refine foldl_fol ?_ ?_
    | with_reducible refine foldl_fol1 ?_ ?_
    | split
    | dsimp only

theorem commitEntry_fol {kc : Touch} {s0 s : State} {sf : Nat} {log : Payload → State → State} {r : CommitReq} (k_jr : kc.jr = true) (k_regs : kc.regs = true) (k_gmp : kc.gmp = true) (k_safe : kc.safe = true) (k_fix : kc.fix = true) (k_scr : kc.scr = true) (k_memb : kc.memb = true) (k_loop : kc.loop = true) (k_evr : kc.evr = true) (k_nvm : kc.nvm = true) (k_mac : kc.mac = true) (k_lkp : kc.lkp = true) (k_gen : kc.gen = true) (k_sess : kc.sess = true)
    (f_log : ∀ (a0 : Payload) (t : State), Follows kc s0 t → Follows kc s0 (log a0 t))
    (hfol : Follows kc s0 s) : Follows kc s0 (commitEntry sf log r s) := by
  unfold commitEntry
  repeat' first
    | with_reducible assumption
    | intro _
    | with_reducible refine ite_fol ?_ ?_
    | with_reducible refine updJr_fol ‹_› ?_
    | with_reducible refine commitApply_fol ‹_› ‹_› ‹_› ‹_› ‹_› ‹_› ‹_› ‹_› ‹_› ?_
    | with_reducible refine commitTell_fol ‹_› ‹_› ?_
    | with_reducible refine countJob_fol ‹_› ?_
    | with_reducible refine regsCommit_fol ‹_› ?_
    | with_reducible refine settingsStart_fol ‹_› ‹_› ?_
    | with_reducible apply f_log
    | split
    | dsimp only

theorem commitDue_fol {kc : Touch} {s0 s : State} (k_jr : kc.jr = true) (k_regs : kc.regs = true) (k_gmp : kc.gmp = true) (k_safe : kc.safe = true) (k_fix : kc.fix = true) (k_scr : kc.scr = true) (k_memb : kc.memb = true) (k_loop : kc.loop = true) (k_pair : kc.pair = true) (k_evr : kc.evr = true) (k_nvm : kc.nvm = true) (k_mac : kc.mac = true) (k_lkp : kc.lkp = true) (k_gen : kc.gen = true) (k_sess : kc.sess = true)
    (hfol : Follows kc s0 s) : Follows kc s0 (commitDue s) := by
  unfold commitDue
  repeat' first
    | with_reducible assumption
    | with_reducible refine fol_fst (by assumption) ?_
    | intro _
    | with_reducible refine ite_fol ?_ ?_
    | with_reducible refine commitEntry_fol ‹_› ‹_› ‹_› ‹_› ‹_› ‹_› ‹_› ‹_› ‹_› ‹_› ‹_› ‹_› ‹_› ‹_› ?_ ?_
    | with_reducible refine jWrite_fol ‹_› ‹_› ‹_› ‹_› ?_
    | split
    | dsimp only

theorem execCommitEntry_fol {kc : Touch} {s0 s : State} (k_jr : kc.jr = true) (k_regs : kc.regs = true) (k_gmp : kc.gmp = true) (k_safe : kc.safe = true) (k_fix : kc.fix = true) (k_scr : kc.scr = true) (k_memb : kc.memb = true) (k_loop : kc.loop = true) (k_pair : kc.pair = true) (k_evr : kc.evr = true) (k_nvm : kc.nvm = true) (k_mac : kc.mac = true) (k_lkp : kc.lkp = true) (k_gen : kc.gen = true) (k_sess : kc.sess = true)
    (hfol : Follows kc s0 s) : OutFollows kc s0 (execCommitEntry s) := by
  unfold execCommitEntry
  repeat' first
    | with_reducible assumption
    | with_reducible refine next_fol ?_
    | with_reducible refine commitDue_fol ‹_› ‹_› ‹_› ‹_› ‹_› ‹_› ‹_› ‹_› ‹_› ‹_› ‹_› ‹_› ‹_› ‹_› ‹_› ?_
    | split
    | dsimp only

theorem discardOp_fol {kc : Touch} {s0 s : State} (k_regs : kc.regs = true) (k_scr : kc.scr = true) (k_lkp : kc.lkp = true)
    (hfol : Follows kc s0 s) : Follows kc s0 (discardOp s) := by
  unfold discardOp
  repeat' first
    | with_reducible assumption
    | intro _
    | with_reducible refine updRegs_fol ‹_› rfl ?_
    | with_reducible refine updRegs_fol ‹_› rfl ?_ (.inr fun _ _ => rfl)
    | with_reducible refine lkpDiscard_fol ‹_› ‹_› ?_
    | split
    | dsimp only

theorem commitAsk_fol {kc : Touch} {s0 s : State} {w : Waiter} (k_jr : kc.jr = true)
    (hfol : Follows kc s0 s) : Follows kc s0 (commitAsk w s).1 := by
  unfold commitAsk
  repeat' first
    | with_reducible assumption
    | with_reducible refine fol_fst (by assumption) ?_
    | intro _
    | with_reducible refine ite_fol1 ?_ ?_
    | with_reducible refine ite_fol ?_ ?_
    | with_reducible refine updJr_fol ‹_› ?_
    | split
    | dsimp only

theorem genCtrl_fol {kc : Touch} {s0 s : State} {w : Waiter} {v : Word} (k_jr : kc.jr = true) (k_regs : kc.regs = true) (k_scr : kc.scr = true) (k_lkp : kc.lkp = true)
    (hfol : Follows kc s0 s) : Follows kc s0 (genCtrl w v s).1 := by
  unfold genCtrl
  repeat' first
    | with_reducible assumption
    | with_reducible refine ite_fol1 ?_ ?_
    | with_reducible refine ite_fol ?_ ?_
    | with_reducible refine commitAsk_fol ‹_› ?_
    | with_reducible refine discardOp_fol ‹_› ‹_› ‹_› ?_
    | split
    | dsimp only

theorem genHandler_fol {kc : Touch} {s0 s : State} {v : Word} {x : ReqCtx} (k_jr : kc.jr = true) (k_regs : kc.regs = true) (k_scr : kc.scr = true) (k_lkp : kc.lkp = true)
    (hfol : Follows kc s0 s) : Follows kc s0 (genHandler v x s).1 := by
  unfold genHandler
  repeat' first
    | with_reducible assumption
    | intro _
    | with_reducible refine ite_fol1 ?_ ?_
    | with_reducible refine ite_fol ?_ ?_
    | with_reducible refine genCtrl_fol ‹_› ‹_› ‹_› ‹_› ?_
    | split
    | dsimp only

theorem execGenCommit_fol {kc : Touch} {s0 s : State} {h : GmpHdr} (k_jr : kc.jr = true) (k_regs : kc.regs = true) (k_gmp : kc.gmp = true) (k_scr : kc.scr = true) (k_sched : kc.sched = true) (k_pair : kc.pair = true) (k_lkp : kc.lkp = true) (k_sess : kc.sess = true)
    (hfol : Follows kc s0 s) : OutFollows kc s0 (execGenCommit h s) := by
  unfold execGenCommit
  repeat' first
    | with_reducible assumption
    | intro _
    | with_reducible refine next_fol ?_
    | with_reducible refine genHandler_fol ‹_› ‹_› ‹_› ‹_› ?_
    | with_reducible refine gmpRequest_fol ‹_› ‹_› ‹_› ‹_› ‹_› ‹_› ?_ ?_
    | split
    | dsimp only

theorem execDiscard_fol {kc : Touch} {s0 s : State} {h : GmpHdr} (k_jr : kc.jr = true) (k_regs : kc.regs = true) (k_gmp : kc.gmp = true) (k_scr : kc.scr = true) (k_sched : kc.sched = true) (k_pair : kc.pair = true) (k_lkp : kc.lkp = true) (k_sess : kc.sess = true)
    (hfol : Follows kc s0 s) : OutFollows kc s0 (execDiscard h s) := by
  unfold execDiscard
  repeat' first
    | with_reducible assumption
    | intro _
    | with_reducible refine next_fol ?_
    | with_reducible refine genHandler_fol ‹_› ‹_› ‹_› ‹_› ?_
    | with_reducible refine gmpRequest_fol ‹_› ‹_› ‹_› ‹_› ‹_› ‹_› ?_ ?_
    | split
    | dsimp only

theorem commitHandler_fol {kc : Touch} {s0 s : State} {x : ReqCtx} (k_jr : kc.jr = true)
    (hfol : Follows kc s0 s) : Follows kc s0 (commitHandler x s).1 := by
  unfold commitHandler
  repeat' first
    | with_reducible assumption
    | intro _
    | with_reducible refine commitAsk_fol ‹_› ?_
    | split
    | dsimp only

theorem execCommitMsg_fol {kc : Touch} {s0 s : State} {h : GmpHdr} (k_jr : kc.jr = true) (k_regs : kc.regs = true) (k_gmp : kc.gmp = true) (k_sched : kc.sched = true) (k_pair : kc.pair = true) (k_sess : kc.sess = true)
    (hfol : Follows kc s0 s) : OutFollows kc s0 (execCommitMsg h s) := by
  unfold execCommitMsg
  repeat' first
    | with_reducible assumption
    | intro _
    | with_reducible refine next_fol ?_
    | with_reducible refine commitHandler_fol ‹_› ?_
    | with_reducible refine gmpRequest_fol ‹_› ‹_› ‹_› ‹_› ‹_› ‹_› ?_ ?_
    | split
    | dsimp only

end Sys2Proof.Machine
end

