-- ==== Sys2Proof/Laws/FolConf.lean ====
section
/-!
SUPPORT. What the operations of Machine/Conf.lean may change: one lemma each.
-/

set_option Elab.async false

namespace Sys2Proof.Machine

open Sys2Proof

theorem warnOne_fol {kc : Touch} {s0 s : State} {r : FixRec} {m : Nat} (k_regs : kc.regs = true) (k_memb : kc.memb = true)
    (hfol : Follows kc s0 s) : Follows kc s0 (warnOne r s m) := by
  unfold warnOne
  repeat' first
    | with_reducible assumption
    | with_reducible refine bump_fol ‹_› ?_
    | with_reducible refine queueWarn_fol ‹_› ?_
    | split
    | dsimp only

theorem confFail_fol {kc : Touch} {s0 s : State} {j : ConfJob} (k_regs : kc.regs = true) (k_gmp : kc.gmp = true) (k_safe : kc.safe = true) (k_memb : kc.memb = true) (k_evr : kc.evr = true)
    (hfol : Follows kc s0 s) : Follows kc s0 (confFail j s) := by
  unfold confFail
  repeat' first
    | with_reducible assumption
    | intro _
    | with_reducible refine ite_fol ?_ ?_
    | with_reducible refine bump_fol ‹_› ?_
    | with_reducible refine evTrig_fol ‹_› ‹_› ?_
    | with_reducible refine notify_fol ‹_› ‹_› ?_
    | with_reducible refine warnOne_fol ‹_› ‹_› ?_
    | with_reducible refine withdraw_fol ‹_› ‹_› ‹_› ‹_› ?_
    | with_reducible refine foldl_fol ?_ ?_
    | with_reducible refine foldl_fol1 ?_ ?_
    | split
    | dsimp only

theorem zoneAlarm_fol {kc : Touch} {s0 s : State} {j : ConfJob} (k_regs : kc.regs = true) (k_gmp : kc.gmp = true) (k_scr : kc.scr = true) (k_evr : kc.evr = true)
    (hfol : Follows kc s0 s) : Follows kc s0 (zoneAlarm j s) := by
  unfold zoneAlarm
  repeat' first
    | with_reducible assumption
    | with_reducible refine fol_fst (by assumption) ?_
    | intro _
    | with_reducible refine ite_fol ?_ ?_
    | with_reducible refine ite_fol1 ?_ ?_
    | with_reducible refine updScr_fol ‹_› ?_
    | with_reducible refine bump_fol ‹_› ?_
    | with_reducible refine evTrig_fol ‹_› ‹_› ?_
    | with_reducible refine notify_fol ‹_› ‹_› ?_
    | split
    | dsimp only

theorem execConformanceCheck_fol {kc : Touch} {s0 s : State} {m : Nat} (k_regs : kc.regs = true) (k_gmp : kc.gmp = true) (k_safe : kc.safe = true) (k_fix : kc.fix = true) (k_scr : kc.scr = true) (k_memb : kc.memb = true) (k_sched : kc.sched = true) (k_evr : kc.evr = true)
    (hfol : Follows kc s0 s) : OutFollows kc s0 (execConformanceCheck m s) := by
  unfold execConformanceCheck
  repeat' first
    | with_reducible assumption
    | with_reducible refine fol_fst (by assumption) ?_
    | intro _
    | with_reducible refine ite_folO ?_ ?_
    | with_reducible refine ite_fol ?_ ?_
    | with_reducible refine next_fol ?_
    | with_reducible refine updFix_fol ‹_› ?_
    | with_reducible refine confFail_fol ‹_› ‹_› ‹_› ‹_› ‹_› ?_
    | with_reducible refine finishJob_fol ‹_› ‹_› ‹_› ?_
    | with_reducible refine modMach_fol ‹_› ?_
    | with_reducible refine zoneAlarm_fol ‹_› ‹_› ‹_› ‹_› ?_
    | split
    | dsimp only

end Sys2Proof.Machine
end

