-- ==== Sys2Proof/Laws/FolDown.lean ====
section
/-!
SUPPORT. What the operations of Machine/Down.lean may change: one lemma each.
-/

set_option Elab.async false

namespace Sys2Proof.Machine

open Sys2Proof

theorem macCnt_fol {kc : Touch} {s0 s : State} {i : Nat} (k_regs : kc.regs = true)
    (hfol : Follows kc s0 s) : Follows kc s0 (macCnt i s) := by
  unfold macCnt
  repeat' first
    | with_reducible assumption
    | with_reducible refine bump_fol ‹_› ?_
    | split
    | dsimp only

theorem stopTaken_fol {kc : Touch} {s0 s : State} {k : Nat} (k_safe : kc.safe = true)
    (hfol : Follows kc s0 s) : Follows kc s0 (stopTaken s k) := by
  unfold stopTaken
  repeat' first
    | with_reducible assumption
    | intro _
    | with_reducible refine ite_fol ?_ ?_
    | with_reducible refine updSafe_fol ‹_› ?_
    | split
    | dsimp only

theorem corrPrune_fol {kc : Touch} {s0 s : State} (k_fix : kc.fix = true)
    (hfol : Follows kc s0 s) : Follows kc s0 (corrPrune s) := by
  unfold corrPrune
  repeat' first
    | with_reducible assumption
    | intro _
    | with_reducible refine updFix_fol ‹_› ?_
    | split
    | dsimp only

theorem corrFrame_fol {kc : Touch} {s0 s : State} {k rate : Nat} {x : TxFrame × State} (k_fix : kc.fix = true) (k_mac : kc.mac = true)
    (e : corrFrame k rate s = some x) (hfol : Follows kc s0 s) : Follows kc s0 x.2 := by
  unfold corrFrame at e
  split at e
  · cases e
  · simp only [Option.some.injEq] at e
    subst e
    exact corrPrune_fol ‹_› (modPort_fol ‹_› hfol)


theorem dropTired_fol {kc : Touch} {s0 s : State} {a : Nat} (k_regs : kc.regs = true) (k_memb : kc.memb = true)
    (hfol : Follows kc s0 s) : Follows kc s0 (dropTired a s) := by
  unfold dropTired
  repeat' first
    | with_reducible assumption
    | intro _
    | with_reducible refine ite_fol ?_ ?_
    | with_reducible refine bumpF_fol ‹_› ?_
    | with_reducible refine modNode_fol ‹_› ?_
    | split
    | dsimp only

theorem devFrame_fol {kc : Touch} {s0 s : State} {a sf room : Nat} (k_memb : kc.memb = true)
    (hfol : Follows kc s0 s) : Follows kc s0 (devFrame a sf room s).2.2 := modNode_fol ‹_› hfol


theorem relayFill_fol {kc : Touch} {s0 s : State} {sf : Nat} {l : List Nat} {room : Nat} {acc : List DevFrame} (k_memb : kc.memb = true)
    (hfol : Follows kc s0 s) : Follows kc s0 (relayFill sf l room acc s).2 := by
  induction l generalizing s room acc with
  | nil => exact hfol
  | cons a r ih =>
    unfold relayFill
    split
    · exact hfol
    · exact ih (devFrame_fol ‹_› hfol)


theorem nodeFrame_fol {kc : Touch} {s0 s : State} {r sf limit : Nat} (k_regs : kc.regs = true) (k_memb : kc.memb = true)
    (hfol : Follows kc s0 s) : Follows kc s0 (nodeFrame r sf limit s).2 := by
  unfold nodeFrame
  have g (l : List Nat) : Follows kc s0 (l.foldl (fun t a => dropTired a t) s) :=
    foldl_fol (fun t a h => dropTired_fol ‹_› ‹_› h) hfol
  dsimp only
  split
  · exact devFrame_fol ‹_› (g _)
  · exact bumpF_fol ‹_› (relayFill_fol ‹_› (modNode_fol ‹_› (g _)))


theorem downFrame_fol {kc : Touch} {s0 s : State} {k sf : Nat} {w : Word} {x : TxFrame × State} (k_regs : kc.regs = true) (k_memb : kc.memb = true)
    (e : downFrame k sf w s = some x) (hfol : Follows kc s0 s) : Follows kc s0 x.2 := by
  unfold downFrame at e
  split at e
  · cases e
  · split at e
    · split at e
      · cases e; dsimp only; exact updMemb_fol ‹_› hfol
      · cases e
    · cases e; exact nodeFrame_fol ‹_› ‹_› hfol


theorem chosen_fol {kc : Touch} {s0 s : State} {k : Nat} {sf : Nat} {slot : Nat} {rate : Nat} {f : TxFrame} {since : Option Nat} (k_regs : kc.regs = true) (k_sched : kc.sched = true) (k_mac : kc.mac = true)
    (hfol : Follows kc s0 s) : Follows kc s0 (chosen k sf slot rate f since s) := by
  unfold chosen
  repeat' first
    | with_reducible assumption
    | intro _
    | with_reducible refine createJob_fol ‹_› ‹_› ?_
    | with_reducible refine modPort_fol ‹_› ?_
    | with_reducible refine emit_fol ?_
    | split
    | dsimp only

theorem portCutoff_fol {kc : Touch} {s0 s : State} {sf : Nat} {slot : Nat} {k : Nat} (k_regs : kc.regs = true) (k_safe : kc.safe = true) (k_fix : kc.fix = true) (k_memb : kc.memb = true) (k_sched : kc.sched = true) (k_mac : kc.mac = true)
    (hfol : Follows kc s0 s) : Follows kc s0 (portCutoff sf slot k s) := by
  unfold portCutoff
  repeat' first
    | with_reducible assumption
    | with_reducible refine fol_fst (by assumption) ?_
    | intro _
    | with_reducible refine ite_fol ?_ ?_
    | with_reducible refine ite_fol1 ?_ ?_
    | with_reducible refine updSafe_fol ‹_› ?_
    | with_reducible refine chosen_fol ‹_› ‹_› ‹_› ?_
    | with_reducible refine modPort_fol ‹_› ?_
    | with_reducible refine stopTaken_fol ‹_› ?_
    | with_reducible refine corrFrame_fol ‹_› ‹_› (by assumption) ?_
    | with_reducible refine downFrame_fol ‹_› ‹_› (by assumption) ?_
    | split
    | dsimp only

theorem execSlotCutoff_fol {kc : Touch} {s0 s : State} {sf : Nat} {slot : Nat} (k_time : kc.time = true) (k_regs : kc.regs = true) (k_safe : kc.safe = true) (k_fix : kc.fix = true) (k_memb : kc.memb = true) (k_sched : kc.sched = true) (k_mac : kc.mac = true)
    (hfol : Follows kc s0 s) : OutFollows kc s0 (execSlotCutoff sf slot s) := by
  unfold execSlotCutoff
  repeat' first
    | with_reducible assumption
    | intro _
    | with_reducible refine ite_folO ?_ ?_
    | with_reducible refine ite_fol ?_ ?_
    | with_reducible refine next_fol ?_
    | with_reducible refine advTo_fol ‹_› ?_
    | with_reducible refine portCutoff_fol ‹_› ‹_› ‹_› ‹_› ‹_› ‹_› ?_
    | with_reducible refine foldl_fol ?_ ?_
    | with_reducible refine foldl_fol1 ?_ ?_
    | split
    | dsimp only

end Sys2Proof.Machine
end

