-- ==== Sys2Proof/Laws/FolEvr.lean ====
section
/-!
SUPPORT. What the operations of Machine/Evr.lean may change: one lemma each.
-/

set_option Elab.async false

namespace Sys2Proof.Machine

open Sys2Proof

theorem gmpServe_fol {kc : Touch} {s0 s : State} {h : GmpHdr} {typ : Nat} {right : Nat} {cls : Nat} {f : Session → State → State × (Nat × List Nat)} (k_regs : kc.regs = true) (k_gmp : kc.gmp = true) (k_sched : kc.sched = true) (k_sess : kc.sess = true)
    (f_f : ∀ (a0 : Session) (t : State), Follows kc s0 t → Follows kc s0 (f a0 t).1)
    (hfol : Follows kc s0 s) : Follows kc s0 (gmpServe h typ right cls f s) := by
  unfold gmpServe
  repeat' first
    | with_reducible assumption
    | intro _
    | with_reducible refine ite_fol ?_ ?_
    | with_reducible refine ite_fol1 ?_ ?_
    | with_reducible refine admitTo_fol ‹_› ‹_› ?_
    | with_reducible refine bumpW_fol ‹_› ?_
    | with_reducible refine gmpPlain_fol ‹_› ‹_› ‹_› ?_ ?_
    | with_reducible apply f_f
    | split
    | dsimp only

theorem eraseBegin_fol {kc : Touch} {s0 s : State} (k_gmp : kc.gmp = true) (k_evr : kc.evr = true) (k_sess : kc.sess = true)
    (hfol : Follows kc s0 s) : Follows kc s0 (eraseBegin s) := by
  unfold eraseBegin
  repeat' first
    | with_reducible assumption
    | with_reducible refine fol_fst (by assumption) ?_
    | intro _
    | with_reducible refine ite_fol ?_ ?_
    | with_reducible refine updEvr_fol ‹_› ?_
    | with_reducible refine modSession_fol ‹_› ‹_› ?_
    | with_reducible refine reply_fol ?_
    | split
    | dsimp only

theorem slotPut_fol {kc : Touch} {s0 s : State} {x : LogSlot} (k_evr : kc.evr = true)
    (hfol : Follows kc s0 s) : Follows kc s0 (slotPut x s) := by
  unfold slotPut
  repeat' first
    | with_reducible assumption
    | intro _
    | with_reducible refine updEvr_fol ‹_› ?_
    | split
    | dsimp only

theorem rewrite_fol {kc : Touch} {s0 s : State} {r : EvrRec} (k_regs : kc.regs = true) (k_evr : kc.evr = true)
    (hfol : Follows kc s0 s) : Follows kc s0 (rewrite r s) := by
  unfold rewrite
  repeat' first
    | with_reducible assumption
    | intro _
    | with_reducible refine ite_fol ?_ ?_
    | with_reducible refine updEvr_fol ‹_› ?_
    | with_reducible refine alarm_fol ‹_› ?_
    | with_reducible refine bump_fol ‹_› ?_
    | split
    | dsimp only

theorem execRecordWritten_fol {kc : Touch} {s0 s : State} {same : Bool} {ok0 : Bool} {ok1 : Bool} (k_regs : kc.regs = true) (k_gmp : kc.gmp = true) (k_evr : kc.evr = true) (k_nvm : kc.nvm = true) (k_sess : kc.sess = true)
    (hfol : Follows kc s0 s) : OutFollows kc s0 (execRecordWritten same ok0 ok1 s) := by
  unfold execRecordWritten
  repeat' first
    | with_reducible assumption
    | with_reducible refine fol_fst (by assumption) ?_
    | intro _
    | with_reducible refine ite_folO ?_ ?_
    | with_reducible refine ite_fol ?_ ?_
    | with_reducible refine next_fol ?_
    | with_reducible refine alarm_fol ‹_› ?_
    | with_reducible refine bump_fol ‹_› ?_
    | with_reducible refine eraseBegin_fol ‹_› ‹_› ‹_› ?_
    | with_reducible refine evrKick_fol ‹_› ‹_› ?_
    | with_reducible refine notify_fol ‹_› ‹_› ?_
    | with_reducible refine nvmWrite_fol ‹_› ‹_› ‹_› ?_
    | with_reducible refine rewrite_fol ‹_› ‹_› ?_
    | with_reducible refine slotPut_fol ‹_› ?_
    | split
    | dsimp only

theorem logRead_fol {kc : Touch} {s0 s : State} {first : Nat} {count : Nat} {zeros : Nat}
    (hfol : Follows kc s0 s) : Follows kc s0 (logRead first count zeros s).1 := by
  unfold logRead
  repeat' first
    | with_reducible assumption
    | intro _
    | with_reducible refine ite_fol1 ?_ ?_
    | with_reducible refine ite_fol ?_ ?_
    | with_reducible refine updFree_fol (fun _ => by omega) ?_
    | split
    | dsimp only

theorem execLogRead_fol {kc : Touch} {s0 s : State} {h : GmpHdr} {first : Nat} {count : Nat} {zeros : Nat} (k_regs : kc.regs = true) (k_gmp : kc.gmp = true) (k_sched : kc.sched = true) (k_sess : kc.sess = true)
    (hfol : Follows kc s0 s) : OutFollows kc s0 (execLogRead h first count zeros s) := by
  unfold execLogRead
  repeat' first
    | with_reducible assumption
    | intro _
    | with_reducible refine next_fol ?_
    | with_reducible refine gmpServe_fol ‹_› ‹_› ‹_› ‹_› ?_ ?_
    | with_reducible refine logRead_fol ?_
    | split
    | dsimp only

theorem execLogErase_fol {kc : Touch} {s0 s : State} {h : GmpHdr} {total : Nat} (k_regs : kc.regs = true) (k_gmp : kc.gmp = true) (k_evr : kc.evr = true) (k_sess : kc.sess = true)
    (hfol : Follows kc s0 s) : OutFollows kc s0 (execLogErase h total s) := by
  unfold execLogErase
  repeat' first
    | with_reducible assumption
    | with_reducible refine fol_fst (by assumption) ?_
    | intro _
    | with_reducible refine ite_folO ?_ ?_
    | with_reducible refine ite_fol ?_ ?_
    | with_reducible refine next_fol ?_
    | with_reducible refine updEvr_fol ‹_› ?_
    | with_reducible refine eraseBegin_fol ‹_› ‹_› ‹_› ?_
    | with_reducible refine gmpIntake_fol ‹_› ‹_› ‹_› ?_
    | with_reducible refine modSession_fol ‹_› ‹_› ?_
    | with_reducible refine reply_fol ?_
    | split
    | dsimp only

theorem execLogEraseDone_fol {kc : Touch} {s0 s : State} (k_regs : kc.regs = true) (k_gmp : kc.gmp = true) (k_evr : kc.evr = true) (k_sess : kc.sess = true)
    (hfol : Follows kc s0 s) : OutFollows kc s0 (execLogEraseDone s) := by
  unfold execLogEraseDone
  repeat' first
    | with_reducible assumption
    | with_reducible refine fol_fst (by assumption) ?_
    | intro _
    | with_reducible refine ite_folO ?_ ?_
    | with_reducible refine ite_fol ?_ ?_
    | with_reducible refine next_fol ?_
    | with_reducible refine updEvr_fol ‹_› ?_
    | with_reducible refine evrKick_fol ‹_› ‹_› ?_
    | with_reducible refine modSession_fol ‹_› ‹_› ?_
    | with_reducible refine reply_fol ?_
    | split
    | dsimp only

end Sys2Proof.Machine
end

