-- ==== Sys2Proof/Laws/FolPath.lean ====
section
/-!
SUPPORT. What the operations of Machine/Path.lean may change: one lemma each.
-/

set_option Elab.async false

namespace Sys2Proof.Machine

open Sys2Proof

theorem modPath_fol {kc : Touch} {s0 s : State} {i : Nat} {f : PathS → PathS} (k_pair : kc.pair = true)
    (hfol : Follows kc s0 s) : Follows kc s0 (modPath i f s) := by
  unfold modPath
  repeat' first
    | with_reducible assumption
    | intro _
    | with_reducible refine ite_fol ?_ ?_
    | with_reducible refine updPair_fol ‹_› ?_
    | split
    | dsimp only

theorem copyFail_fol {kc : Touch} {s0 s : State} (k_regs : kc.regs = true) (k_pair : kc.pair = true) (k_evr : kc.evr = true)
    (hfol : Follows kc s0 s) : Follows kc s0 (copyFail s) := by
  unfold copyFail
  repeat' first
    | with_reducible assumption
    | intro _
    | with_reducible refine ite_fol ?_ ?_
    | with_reducible refine updPair_fol ‹_› ?_
    | with_reducible refine alarm_fol ‹_› ?_
    | with_reducible refine bump_fol ‹_› ?_
    | with_reducible refine evTrig_fol ‹_› ‹_› ?_
    | split
    | dsimp only

theorem pathDown_fol {kc : Touch} {s0 s : State} {i : Nat} (k_regs : kc.regs = true) (k_pair : kc.pair = true) (k_evr : kc.evr = true)
    (hfol : Follows kc s0 s) : Follows kc s0 (pathDown i s) := by
  unfold pathDown
  repeat' first
    | with_reducible assumption
    | intro _
    | with_reducible refine ite_fol ?_ ?_
    | with_reducible refine alarm_fol ‹_› ?_
    | with_reducible refine copyFail_fol ‹_› ‹_› ‹_› ?_
    | with_reducible refine eligWatch_fol ‹_› ‹_› ?_
    | with_reducible refine evTrig_fol ‹_› ‹_› ?_
    | with_reducible refine modPath_fol ‹_› ?_
    | split
    | dsimp only

end Sys2Proof.Machine
end

