-- ==== Sys2Proof/Laws/FolFence.lean ====
section
/-!
SUPPORT. What the operations of Machine/Fence.lean may change: one lemma each.
-/

set_option Elab.async false

namespace Sys2Proof.Machine

open Sys2Proof

theorem snagCnt_fol {kc : Touch} {s0 s : State} {i : Nat} (k_regs : kc.regs = true)
    (hfol : Follows kc s0 s) : Follows kc s0 (snagCnt i s) := by
  unfold snagCnt
  repeat' first
    | with_reducible assumption
    | with_reducible refine bump_fol ‹_› ?_
    | split
    | dsimp only

theorem repair_fol {kc : Touch} {s0 s : State} {action : Nat} {unit : Nat} {item : Nat} {tile : Nat} (k_regs : kc.regs = true) (k_evr : kc.evr = true)
    (hfol : Follows kc s0 s) : Follows kc s0 (repair action unit item tile s) := by
  unfold repair
  repeat' first
    | with_reducible assumption
    | with_reducible refine evTrig_fol ‹_› ‹_› ?_
    | split
    | dsimp only

theorem modBay_fol {kc : Touch} {s0 s : State} {b : Nat} {f : BaySt → BaySt} (k_snag : kc.snag = true)
    (hfol : Follows kc s0 s) : Follows kc s0 (modBay b f s) := by
  unfold modBay
  repeat' first
    | with_reducible assumption
    | intro _
    | with_reducible refine updSnag_fol ‹_› ?_
    | split
    | dsimp only

theorem startRestart_fol {kc : Touch} {s0 s : State} {b : Nat} (k_regs : kc.regs = true) (k_safe : kc.safe = true) (k_sched : kc.sched = true) (k_pair : kc.pair = true) (k_evr : kc.evr = true) (k_pcr : kc.pcr = true) (k_snag : kc.snag = true)
    (hfol : Follows kc s0 s) : Follows kc s0 (startRestart b s) := by
  unfold startRestart
  repeat' first
    | with_reducible assumption
    | intro _
    | with_reducible refine ite_fol ?_ ?_
    | with_reducible refine updPcr_fol ‹_› ?_
    | with_reducible refine updSnag_fol ‹_› ?_
    | with_reducible refine dispatch_fol ‹_› ?_
    | with_reducible refine dynEval_fol ‹_› ?_
    | with_reducible refine evictEngine_fol ‹_› ?_
    | with_reducible refine loseSync_fol ‹_› ‹_› ‹_› ‹_› ?_
    | with_reducible refine modBay_fol ‹_› ?_
    | with_reducible refine modEng_fol ‹_› ?_
    | with_reducible refine repair_fol ‹_› ‹_› ?_
    | with_reducible refine foldl_fol ?_ ?_
    | with_reducible refine foldl_fol1 ?_ ?_
    | split
    | dsimp only

theorem sweepRestart_fol {kc : Touch} {s0 s : State} {b : Nat} (k_regs : kc.regs = true) (k_safe : kc.safe = true) (k_sched : kc.sched = true) (k_pair : kc.pair = true) (k_evr : kc.evr = true) (k_pcr : kc.pcr = true) (k_snag : kc.snag = true)
    (hfol : Follows kc s0 s) : Follows kc s0 (sweepRestart b s) := by
  unfold sweepRestart
  repeat' first
    | with_reducible assumption
    | with_reducible refine ite_fol ?_ ?_
    | with_reducible refine startRestart_fol ‹_› ‹_› ‹_› ‹_› ‹_› ‹_› ‹_› ?_
    | split
    | dsimp only

theorem askRestart_fol {kc : Touch} {s0 s : State} {b : Nat} (k_regs : kc.regs = true) (k_safe : kc.safe = true) (k_sched : kc.sched = true) (k_pair : kc.pair = true) (k_evr : kc.evr = true) (k_pcr : kc.pcr = true) (k_snag : kc.snag = true)
    (hfol : Follows kc s0 s) : Follows kc s0 (askRestart b s) := by
  unfold askRestart
  repeat' first
    | with_reducible assumption
    | intro _
    | with_reducible refine ite_fol ?_ ?_
    | with_reducible refine alarm_fol ‹_› ?_
    | with_reducible refine modBay_fol ‹_› ?_
    | with_reducible refine sweepRestart_fol ‹_› ‹_› ‹_› ‹_› ‹_› ‹_› ‹_› ?_
    | split
    | dsimp only

theorem noCpEval_fol {kc : Touch} {s0 s : State} (k_jr : kc.jr = true) (k_regs : kc.regs = true) (k_gmp : kc.gmp = true) (k_safe : kc.safe = true) (k_pair : kc.pair = true) (k_evr : kc.evr = true)
    (hfol : Follows kc s0 s) : Follows kc s0 (noCpEval s) := by
  unfold noCpEval
  repeat' first
    | with_reducible assumption
    | with_reducible refine ite_fol ?_ ?_
    | with_reducible refine faultEnd_fol ‹_› ‹_› ‹_› ‹_› ‹_› ‹_› ?_
    | with_reducible refine faultRaise_fol ‹_› ‹_› ‹_› ‹_› ‹_› ‹_› ?_
    | split
    | dsimp only

theorem fenceEng_fol {kc : Touch} {s0 s : State} {e : Nat} {code : Option Nat} {item : Nat} (k_jr : kc.jr = true) (k_regs : kc.regs = true) (k_gmp : kc.gmp = true) (k_safe : kc.safe = true) (k_sched : kc.sched = true) (k_pair : kc.pair = true) (k_evr : kc.evr = true) (k_pcr : kc.pcr = true) (k_snag : kc.snag = true)
    (hfol : Follows kc s0 s) : Follows kc s0 (fenceEng e code item s) := by
  unfold fenceEng
  repeat' first
    | with_reducible assumption
    | with_reducible refine fol_fst (by assumption) ?_
    | intro _
    | with_reducible refine ite_fol ?_ ?_
    | with_reducible refine askRestart_fol ‹_› ‹_› ‹_› ‹_› ‹_› ‹_› ‹_› ?_
    | with_reducible refine dispatch_fol ‹_› ?_
    | with_reducible refine evictEngine_fol ‹_› ?_
    | with_reducible refine modEng_fol ‹_› ?_
    | with_reducible refine noCpEval_fol ‹_› ‹_› ‹_› ‹_› ‹_› ‹_› ?_
    | with_reducible refine pathDown_fol ‹_› ‹_› ‹_› ?_
    | with_reducible refine postFault_fol ‹_› ‹_› ‹_› ‹_› ‹_› ‹_› ?_
    | with_reducible refine repair_fol ‹_› ‹_› ?_
    | with_reducible refine snagCnt_fol ‹_› ?_
    | split
    | dsimp only

end Sys2Proof.Machine
end

