-- ==== Sys2Proof/Laws/FolFix.lean ====
section
/-!
SUPPORT. What the operations of Machine/Fix.lean may change: one lemma each.
-/

set_option Elab.async false

namespace Sys2Proof.Machine

open Sys2Proof

theorem modRover_fol {kc : Touch} {s0 s : State} {m : Nat} {f : Rover → Rover} (k_fix : kc.fix = true)
    (hfol : Follows kc s0 s) : Follows kc s0 (modRover m f s) := by
  unfold modRover
  repeat' first
    | with_reducible assumption
    | intro _
    | with_reducible refine updFix_fol ‹_› ?_
    | split
    | dsimp only

theorem acceptEpoch_fol {kc : Touch} {s0 s : State} {m : Nat} {arrival : Nat} {pos : Nat × Nat} {t : Nat} {sats : List SatObs} (k_regs : kc.regs = true) (k_safe : kc.safe = true) (k_fix : kc.fix = true) (k_sched : kc.sched = true)
    (hfol : Follows kc s0 s) : Follows kc s0 (acceptEpoch m arrival pos t sats s) := by
  unfold acceptEpoch
  repeat' first
    | with_reducible assumption
    | intro _
    | with_reducible refine updFix_fol ‹_› ?_
    | with_reducible refine bump_fol ‹_› ?_
    | with_reducible refine createJob_fol ‹_› ‹_› ?_
    | with_reducible refine modMach_fol ‹_› ?_
    | with_reducible refine modRover_fol ‹_› ?_
    | split
    | dsimp only

theorem offerEpoch_fol {kc : Touch} {s0 s : State} {m arrival : Nat} {pos : Nat × Nat} {obs : List RtcmMsg} (k_regs : kc.regs = true) (k_safe : kc.safe = true) (k_fix : kc.fix = true) (k_sched : kc.sched = true)
    (hfol : Follows kc s0 s) : Follows kc s0 (offerEpoch m arrival pos obs s) := by
  unfold offerEpoch
  refine ite_fol hfol ?_
  dsimp only
  generalize obsForm s (gpsMs pos.1) obs = o
  cases o with
  | none => exact bump_fol ‹_› hfol
  | some x => dsimp only; exact ite_fol (bump_fol ‹_› hfol) (ite_fol (bump_fol ‹_› hfol) (ite_fol (bump_fol ‹_› hfol) (acceptEpoch_fol ‹_› ‹_› ‹_› ‹_› hfol)))


theorem gateFail_fol {kc : Touch} {s0 s : State} {pos : Nat × Nat} {m : Nat} {cause : Nat} (k_regs : kc.regs = true) (k_gmp : kc.gmp = true) (k_safe : kc.safe = true) (k_evr : kc.evr = true)
    (hfol : Follows kc s0 s) : Follows kc s0 (gateFail pos m cause s) := by
  unfold gateFail
  repeat' first
    | with_reducible assumption
    | intro _
    | with_reducible refine modMach_fol ‹_› ?_
    | with_reducible refine withdraw_fol ‹_› ‹_› ‹_› ‹_› ?_
    | split
    | dsimp only

theorem gateRecord_fol {kc : Touch} {s0 s : State} {pos : Nat × Nat} {gateA : Nat} {gateB : Nat} {r : FixRec} (k_regs : kc.regs = true) (k_gmp : kc.gmp = true) (k_safe : kc.safe = true) (k_evr : kc.evr = true)
    (hfol : Follows kc s0 s) : Follows kc s0 (gateRecord pos gateA gateB r s) := by
  unfold gateRecord
  repeat' first
    | with_reducible assumption
    | intro _
    | with_reducible refine ite_fol ?_ ?_
    | with_reducible refine gateFail_fol ‹_› ‹_› ‹_› ‹_› ?_
    | with_reducible refine modMach_fol ‹_› ?_
    | split
    | dsimp only

theorem ageCheck_fol {kc : Touch} {s0 s : State} {pos : Nat × Nat} {m : Nat} (k_regs : kc.regs = true) (k_gmp : kc.gmp = true) (k_safe : kc.safe = true) (k_evr : kc.evr = true)
    (hfol : Follows kc s0 s) : Follows kc s0 (ageCheck pos m s) := by
  unfold ageCheck
  repeat' first
    | with_reducible assumption
    | with_reducible refine ite_fol ?_ ?_
    | with_reducible refine gateFail_fol ‹_› ‹_› ‹_› ‹_› ?_
    | split
    | dsimp only

theorem ageMark_fol {kc : Touch} {s0 s : State} {pos : Nat × Nat} (k_regs : kc.regs = true) (k_gmp : kc.gmp = true) (k_safe : kc.safe = true) (k_evr : kc.evr = true)
    (hfol : Follows kc s0 s) : Follows kc s0 (ageMark pos s) := by
  unfold ageMark
  repeat' first
    | with_reducible assumption
    | intro _
    | with_reducible refine ite_fol ?_ ?_
    | with_reducible refine ageCheck_fol ‹_› ‹_› ‹_› ‹_› ?_
    | with_reducible refine modMach_fol ‹_› ?_
    | with_reducible refine foldl_fol ?_ ?_
    | with_reducible refine foldl_fol1 ?_ ?_
    | split
    | dsimp only

theorem execFixAgeExpiry_fol {kc : Touch} {s0 s : State} {m : Nat} (k_regs : kc.regs = true) (k_gmp : kc.gmp = true) (k_safe : kc.safe = true) (k_evr : kc.evr = true)
    (hfol : Follows kc s0 s) : OutFollows kc s0 (execFixAgeExpiry m s) := by
  unfold execFixAgeExpiry
  repeat' first
    | with_reducible assumption
    | with_reducible refine ite_folO ?_ ?_
    | with_reducible refine ite_fol ?_ ?_
    | with_reducible refine next_fol ?_
    | with_reducible refine ageCheck_fol ‹_› ‹_› ‹_› ‹_› ?_
    | split
    | dsimp only

theorem fixLat_fol {kc : Touch} {s0 s : State} {us : Nat} (k_regs : kc.regs = true) (k_fix : kc.fix = true)
    (hfol : Follows kc s0 s) : Follows kc s0 (fixLat us s) := by
  unfold fixLat
  repeat' first
    | with_reducible assumption
    | intro _
    | with_reducible refine ite_fol ?_ ?_
    | with_reducible refine updFix_fol ‹_› ?_
    | with_reducible refine maxF_fol ‹_› ?_
    | split
    | dsimp only

theorem fixCounts_fol {kc : Touch} {s0 s : State} {r : FixRec} {status : Nat} (k_regs : kc.regs = true)
    (hfol : Follows kc s0 s) : Follows kc s0 (fixCounts r status s) := by
  unfold fixCounts
  repeat' first
    | with_reducible assumption
    | with_reducible refine ite_fol ?_ ?_
    | with_reducible refine bump_fol ‹_› ?_
    | split
    | dsimp only

theorem dispatchRec_fol {kc : Touch} {s0 s : State} {j : FixJob} {r : FixRec} {status : Nat} (k_regs : kc.regs = true) (k_gmp : kc.gmp = true) (k_safe : kc.safe = true) (k_fix : kc.fix = true) (k_memb : kc.memb = true) (k_sched : kc.sched = true) (k_loop : kc.loop = true) (k_evr : kc.evr = true)
    (hfol : Follows kc s0 s) : Follows kc s0 (dispatchRec j r status s) := by
  unfold dispatchRec
  repeat' first
    | with_reducible assumption
    | intro _
    | with_reducible refine ite_fol ?_ ?_
    | with_reducible refine updFix_fol ‹_› ?_
    | with_reducible refine createJob_fol ‹_› ‹_› ?_
    | with_reducible refine fixCounts_fol ‹_› ?_
    | with_reducible refine gateRecord_fol ‹_› ‹_› ‹_› ‹_› ?_
    | with_reducible refine modRover_fol ‹_› ?_
    | with_reducible refine notify_fol ‹_› ‹_› ?_
    | with_reducible refine offerSample_fol ‹_› ‹_› ‹_› ?_
    | with_reducible refine queueFix_fol ‹_› ?_
    | split
    | dsimp only

theorem roverLoss_fol {kc : Touch} {s0 s : State} {pos : Nat × Nat} {flags : Nat} {m : Nat} (k_regs : kc.regs = true) (k_gmp : kc.gmp = true) (k_safe : kc.safe = true) (k_fix : kc.fix = true) (k_memb : kc.memb = true) (k_sched : kc.sched = true) (k_loop : kc.loop = true) (k_evr : kc.evr = true)
    (hfol : Follows kc s0 s) : Follows kc s0 (roverLoss pos flags m s) := by
  unfold roverLoss
  repeat' first
    | with_reducible assumption
    | with_reducible refine fol_fst (by assumption) ?_
    | intro _
    | with_reducible refine ite_fol ?_ ?_
    | with_reducible refine updFix_fol ‹_› ?_
    | with_reducible refine dispatchRec_fol ‹_› ‹_› ‹_› ‹_› ‹_› ‹_› ‹_› ‹_› ?_
    | with_reducible refine finishJob_fol ‹_› ‹_› ‹_› ?_
    | with_reducible refine gateFail_fol ‹_› ‹_› ‹_› ‹_› ?_
    | with_reducible refine modRover_fol ‹_› ?_
    | split
    | dsimp only

theorem covLoss_fol {kc : Touch} {s0 s : State} {pos : Nat × Nat} {kind : Nat} {flags : Nat} {index : Nat} (k_regs : kc.regs = true) (k_gmp : kc.gmp = true) (k_safe : kc.safe = true) (k_fix : kc.fix = true) (k_scr : kc.scr = true) (k_memb : kc.memb = true) (k_sched : kc.sched = true) (k_loop : kc.loop = true) (k_evr : kc.evr = true)
    (hfol : Follows kc s0 s) : Follows kc s0 (covLoss pos kind flags index s) := by
  unfold covLoss
  repeat' first
    | with_reducible assumption
    | with_reducible refine fol_fst (by assumption) ?_
    | with_reducible refine descLoss_fol ‹_› ‹_› ‹_› ‹_› ‹_› ‹_› ?_
    | with_reducible refine resvRebuild_fol ‹_› ‹_› ‹_› ‹_› ‹_› ‹_› ?_
    | with_reducible refine roverLoss_fol ‹_› ‹_› ‹_› ‹_› ‹_› ‹_› ‹_› ‹_› ?_
    | with_reducible refine taskLoss_fol ‹_› ‹_› ‹_› ?_
    | with_reducible refine zoneLoss_fol ‹_› ?_
    | split
    | dsimp only

theorem lossRecord_fol {kc : Touch} {s0 s : State} (k_regs : kc.regs = true) (k_evr : kc.evr = true)
    (hfol : Follows kc s0 s) : Follows kc s0 (lossRecord s) := by
  unfold lossRecord
  repeat' first
    | with_reducible assumption
    | with_reducible refine fol_fst (by assumption) ?_
    | with_reducible refine evTrig_fol ‹_› ‹_› ?_
    | split
    | dsimp only

theorem stateLost_fol {kc : Touch} {s0 s : State} {kind : Nat} {flags : Nat} {index : Nat} (k_jr : kc.jr = true) (k_regs : kc.regs = true) (k_gmp : kc.gmp = true) (k_safe : kc.safe = true) (k_fix : kc.fix = true) (k_scr : kc.scr = true) (k_memb : kc.memb = true) (k_sched : kc.sched = true) (k_loop : kc.loop = true) (k_pair : kc.pair = true) (k_evr : kc.evr = true)
    (hfol : Follows kc s0 s) : Follows kc s0 (stateLost kind flags index s) := by
  unfold stateLost
  repeat' first
    | with_reducible assumption
    | intro _
    | with_reducible refine ite_fol ?_ ?_
    | with_reducible refine bump_fol ‹_› ?_
    | with_reducible refine covLoss_fol ‹_› ‹_› ‹_› ‹_› ‹_› ‹_› ‹_› ‹_› ‹_› ?_
    | with_reducible refine loseSync_fol ‹_› ‹_› ‹_› ‹_› ?_
    | with_reducible refine lossRecord_fol ‹_› ‹_› ?_
    | with_reducible refine post_fol ‹_› ‹_› ‹_› ‹_› ?_ ?_
    | split
    | dsimp only

theorem roverSlotLost_fol {kc : Touch} {s0 s : State} {m : Nat} (k_jr : kc.jr = true) (k_regs : kc.regs = true) (k_gmp : kc.gmp = true) (k_safe : kc.safe = true) (k_fix : kc.fix = true) (k_scr : kc.scr = true) (k_memb : kc.memb = true) (k_sched : kc.sched = true) (k_loop : kc.loop = true) (k_pair : kc.pair = true) (k_evr : kc.evr = true)
    (hfol : Follows kc s0 s) : Follows kc s0 (roverSlotLost m s) := by
  unfold roverSlotLost
  repeat' first
    | with_reducible assumption
    | intro _
    | with_reducible refine ite_fol ?_ ?_
    | with_reducible refine updFix_fol ‹_› ?_
    | with_reducible refine stateLost_fol ‹_› ‹_› ‹_› ‹_› ‹_› ‹_› ‹_› ‹_› ‹_› ‹_› ‹_› ?_
    | split
    | dsimp only

theorem linkUpdate_fol {kc : Touch} {s0 s : State} {nums : FixNums} (k_fix : kc.fix = true)
    (hfol : Follows kc s0 s) : Follows kc s0 (linkUpdate nums s) := by
  unfold linkUpdate
  repeat' first
    | with_reducible assumption
    | intro _
    | with_reducible refine ite_fol ?_ ?_
    | with_reducible refine updFix_fol ‹_› ?_
    | split
    | dsimp only

theorem fixJobDone_fol {kc : Touch} {s0 s : State} {m : Nat} {nums : FixNums} {j : FixJob} {rest : List FixJob} (k_regs : kc.regs = true) (k_gmp : kc.gmp = true) (k_safe : kc.safe = true) (k_fix : kc.fix = true) (k_memb : kc.memb = true) (k_sched : kc.sched = true) (k_loop : kc.loop = true) (k_evr : kc.evr = true)
    (hfol : Follows kc s0 s) : Follows kc s0 (fixJobDone m nums j rest s) := by
  unfold fixJobDone
  repeat' first
    | with_reducible assumption
    | intro _
    | with_reducible refine updFix_fol ‹_› ?_
    | with_reducible refine bumpF_fol ‹_› ?_
    | with_reducible refine dispatchRec_fol ‹_› ‹_› ‹_› ‹_› ‹_› ‹_› ‹_› ‹_› ?_
    | with_reducible refine finishJob_fol ‹_› ‹_› ‹_› ?_
    | with_reducible refine fixLat_fol ‹_› ‹_› ?_
    | with_reducible refine linkUpdate_fol ‹_› ?_
    | with_reducible refine modRover_fol ‹_› ?_
    | split
    | dsimp only

theorem resetRover_fol {kc : Touch} {s0 s : State} {m : Nat} (k_fix : kc.fix = true)
    (hfol : Follows kc s0 s) : Follows kc s0 (resetRover m s) := by
  unfold resetRover
  repeat' first
    | with_reducible assumption
    | intro _
    | with_reducible refine ite_fol ?_ ?_
    | with_reducible refine modRover_fol ‹_› ?_
    | split
    | dsimp only

theorem roverCtrlWord_fol {kc : Touch} {s0 s : State} {v : Word} (k_fix : kc.fix = true)
    (hfol : Follows kc s0 s) : Follows kc s0 (roverCtrlWord v s).1 := by
  unfold roverCtrlWord
  repeat' first
    | with_reducible assumption
    | with_reducible refine ite_fol1 ?_ ?_
    | with_reducible refine ite_fol ?_ ?_
    | with_reducible refine resetRover_fol ‹_› ?_
    | split
    | dsimp only

theorem execRoverReset_fol {kc : Touch} {s0 s : State} {h : GmpHdr} (k_jr : kc.jr = true) (k_regs : kc.regs = true) (k_gmp : kc.gmp = true) (k_fix : kc.fix = true) (k_sched : kc.sched = true) (k_pair : kc.pair = true) (k_sess : kc.sess = true)
    (hfol : Follows kc s0 s) : OutFollows kc s0 (execRoverReset h s) := by
  unfold execRoverReset
  repeat' first
    | with_reducible assumption
    | intro _
    | with_reducible refine next_fol ?_
    | with_reducible refine gmpWord_fol ‹_› ‹_› ‹_› ‹_› ‹_› ‹_› ?_ ?_
    | with_reducible refine roverCtrlWord_fol ‹_› ?_
    | split
    | dsimp only

theorem fixEngWord_fol {kc : Touch} {s0 s : State} {v : Word} (k_regs : kc.regs = true) (k_stage : kc.stage = true)
    (hfol : Follows kc s0 s) : Follows kc s0 (fixEngWord v s).1 := by
  unfold fixEngWord
  repeat' first
    | with_reducible assumption
    | with_reducible refine fol_fst (by assumption) ?_
    | with_reducible refine ite_fol1 ?_ ?_
    | with_reducible refine ite_fol ?_ ?_
    | with_reducible refine storeWord_fol ‹_› ‹_› ?_
    | split
    | dsimp only

theorem roverAssigned_fol {kc : Touch} {s0 s : State} {m : Nat} (k_safe : kc.safe = true) (k_fix : kc.fix = true)
    (hfol : Follows kc s0 s) : Follows kc s0 (roverAssigned m s) := by
  unfold roverAssigned
  repeat' first
    | with_reducible assumption
    | intro _
    | with_reducible refine modMach_fol ‹_› ?_
    | with_reducible refine modRover_fol ‹_› ?_
    | split
    | dsimp only

theorem roverFreed_fol {kc : Touch} {s0 s : State} {m : Nat} (k_fix : kc.fix = true)
    (hfol : Follows kc s0 s) : Follows kc s0 (roverFreed m s) := by
  unfold roverFreed
  repeat' first
    | with_reducible assumption
    | intro _
    | with_reducible refine updFix_fol ‹_› ?_
    | with_reducible refine modRover_fol ‹_› ?_
    | split
    | dsimp only

theorem execResvRebuild_fol {kc : Touch} {s0 s : State} {group : Nat} (k_jr : kc.jr = true) (k_regs : kc.regs = true) (k_gmp : kc.gmp = true) (k_safe : kc.safe = true) (k_fix : kc.fix = true) (k_scr : kc.scr = true) (k_memb : kc.memb = true) (k_sched : kc.sched = true) (k_loop : kc.loop = true) (k_pair : kc.pair = true) (k_evr : kc.evr = true)
    (hfol : Follows kc s0 s) : OutFollows kc s0 (execResvRebuild group s) := by
  unfold execResvRebuild
  repeat' first
    | with_reducible assumption
    | with_reducible refine ite_folO ?_ ?_
    | with_reducible refine ite_fol ?_ ?_
    | with_reducible refine next_fol ?_
    | with_reducible refine stateLost_fol ‹_› ‹_› ‹_› ‹_› ‹_› ‹_› ‹_› ‹_› ‹_› ‹_› ‹_› ?_
    | split
    | dsimp only

end Sys2Proof.Machine
end

