-- ==== Sys2Proof/Laws/FolGmp.lean ====
section
/-!
SUPPORT. What the operations of Machine/Gmp.lean may change: one lemma each.
-/

set_option Elab.async false

namespace Sys2Proof.Machine

open Sys2Proof

theorem hsFail_fol {kc : Touch} {s0 s : State} {counter : Nat} (k_regs : kc.regs = true)
    (hfol : Follows kc s0 s) : Follows kc s0 (hsFail counter s) := by
  unfold hsFail
  repeat' first
    | with_reducible assumption
    | with_reducible refine bump_fol ‹_› ?_
    | with_reducible refine emit_fol ?_
    | split
    | dsimp only

theorem execClientHello_fol {kc : Touch} {s0 s : State} {bytes : List Nat} {binder : Bool} {suite : Nat} {port : Nat} {peer : Option Nat} {fin : Bool} (k_jr : kc.jr = true) (k_regs : kc.regs = true) (k_gmp : kc.gmp = true) (k_key : kc.key = true) (k_sess : kc.sess = true)
    (hfol : Follows kc s0 s) : OutFollows kc s0 (execClientHello bytes binder suite port peer fin s) := by
  unfold execClientHello
  repeat' first
    | with_reducible assumption
    | with_reducible refine fol_fst (by assumption) ?_
    | intro _
    | with_reducible refine ite_folO ?_ ?_
    | with_reducible refine ite_fol ?_ ?_
    | with_reducible refine next_fol ?_
    | with_reducible refine updGmp_fol ‹_› ?_
    | with_reducible refine bump_fol ‹_› ?_
    | with_reducible refine closeSess_fol ‹_› ‹_› ‹_› ?_
    | with_reducible refine hsFail_fol ‹_› ?_
    | with_reducible refine loadSystem_fol ‹_› ‹_› ?_
    | split
    | dsimp only

theorem execSessionClose_fol {kc : Touch} {s0 s : State} {k : Nat} (k_jr : kc.jr = true) (k_gmp : kc.gmp = true) (k_sess : kc.sess = true)
    (hfol : Follows kc s0 s) : OutFollows kc s0 (execSessionClose k s) := by
  unfold execSessionClose
  repeat' first
    | with_reducible assumption
    | with_reducible refine next_fol ?_
    | with_reducible refine closeSess_fol ‹_› ‹_› ‹_› ?_
    | split
    | dsimp only

theorem execIdleTimeout_fol {kc : Touch} {s0 s : State} {k : Nat} (k_jr : kc.jr = true) (k_gmp : kc.gmp = true) (k_sess : kc.sess = true)
    (hfol : Follows kc s0 s) : OutFollows kc s0 (execIdleTimeout k s) := by
  unfold execIdleTimeout
  repeat' first
    | with_reducible assumption
    | with_reducible refine fol_fst (by assumption) ?_
    | with_reducible refine ite_folO ?_ ?_
    | with_reducible refine ite_fol ?_ ?_
    | with_reducible refine next_fol ?_
    | with_reducible refine closeSess_fol ‹_› ‹_› ‹_› ?_
    | split
    | dsimp only

theorem execFragmentReassemblyTimeout_fol {kc : Touch} {s0 s : State} {id : Nat} (k_regs : kc.regs = true) (k_gmp : kc.gmp = true)
    (hfol : Follows kc s0 s) : OutFollows kc s0 (execFragmentReassemblyTimeout id s) := by
  unfold execFragmentReassemblyTimeout
  repeat' first
    | with_reducible assumption
    | with_reducible refine fol_fst (by assumption) ?_
    | intro _
    | with_reducible refine ite_folO ?_ ?_
    | with_reducible refine ite_fol ?_ ?_
    | with_reducible refine next_fol ?_
    | with_reducible refine updGmp_fol ‹_› ?_
    | with_reducible refine bump_fol ‹_› ?_
    | split
    | dsimp only

theorem latchRead_fol {kc : Touch} {s0 s : State} {a : Nat} (k_time : kc.time = true) (k_jr : kc.jr = true) (k_scr : kc.scr = true) (k_sched : kc.sched = true) (k_loop : kc.loop = true) (k_pair : kc.pair = true) (k_evr : kc.evr = true) (k_mac : kc.mac = true)
    (hfol : Follows kc s0 s) : Follows kc s0 (latchRead a s) := by
  unfold latchRead
  repeat' first
    | with_reducible assumption
    | with_reducible refine fol_fst (by assumption) ?_
    | intro _
    | with_reducible refine ite_fol ?_ ?_
    | with_reducible refine ite_fol1 ?_ ?_
    | with_reducible refine updTime_fol ‹_› ?_
    | with_reducible refine updJr_fol ‹_› ?_
    | with_reducible refine updScr_fol ‹_› ?_
    | with_reducible refine updSched_fol ‹_› ?_
    | with_reducible refine updLoop_fol ‹_› ?_
    | with_reducible refine updPair_fol ‹_› ?_
    | with_reducible refine updEvr_fol ‹_› ?_
    | with_reducible refine modPort_fol ‹_› ?_
    | split
    | dsimp only

theorem readWord_fol {kc : Touch} {s0 s : State} {a : Nat} (k_time : kc.time = true) (k_jr : kc.jr = true) (k_regs : kc.regs = true) (k_scr : kc.scr = true) (k_sched : kc.sched = true) (k_loop : kc.loop = true) (k_pair : kc.pair = true) (k_evr : kc.evr = true) (k_mac : kc.mac = true)
    (hfol : Follows kc s0 s) : Follows kc s0 (readWord a s).1 := by
  unfold readWord
  repeat' first
    | with_reducible assumption
    | with_reducible refine clearRc_fol ‹_› ?_
    | with_reducible refine latchRead_fol ‹_› ‹_› ‹_› ‹_› ‹_› ‹_› ‹_› ‹_› ?_
    | split
    | dsimp only

theorem readWords_fol {kc : Touch} {s0 s : State} {n a : Nat} (k_time : kc.time = true) (k_jr : kc.jr = true) (k_regs : kc.regs = true) (k_scr : kc.scr = true) (k_sched : kc.sched = true) (k_loop : kc.loop = true) (k_pair : kc.pair = true) (k_evr : kc.evr = true) (k_mac : kc.mac = true)
    (hfol : Follows kc s0 s) : Follows kc s0 (readWords n a s).1 := by
  induction n generalizing s a with
  | zero => exact hfol
  | succ n ih =>
    unfold readWords
    repeat' first
      | with_reducible assumption
      | with_reducible refine fol_fst (by assumption) ?_
      | with_reducible refine ih ?_
      | with_reducible refine readWord_fol ‹_› ‹_› ‹_› ‹_› ‹_› ‹_› ‹_› ‹_› ‹_› ?_
      | split
      | dsimp only


theorem readOp_fol {kc : Touch} {s0 s : State} {a : Nat} {n : Nat} {zero : Nat} (k_time : kc.time = true) (k_jr : kc.jr = true) (k_regs : kc.regs = true) (k_scr : kc.scr = true) (k_sched : kc.sched = true) (k_loop : kc.loop = true) (k_pair : kc.pair = true) (k_evr : kc.evr = true) (k_mac : kc.mac = true)
    (hfol : Follows kc s0 s) : Follows kc s0 (readOp a n zero s).1 := by
  unfold readOp
  repeat' first
    | with_reducible assumption
    | with_reducible refine ite_fol1 ?_ ?_
    | with_reducible refine ite_fol ?_ ?_
    | with_reducible refine readWords_fol ‹_› ‹_› ‹_› ‹_› ‹_› ‹_› ‹_› ‹_› ‹_› ?_
    | split
    | dsimp only

theorem execRead_fol {kc : Touch} {s0 s : State} {h : GmpHdr} {addr : Nat} {count : Nat} {zero : Nat} (k_time : kc.time = true) (k_jr : kc.jr = true) (k_regs : kc.regs = true) (k_gmp : kc.gmp = true) (k_scr : kc.scr = true) (k_sched : kc.sched = true) (k_loop : kc.loop = true) (k_pair : kc.pair = true) (k_evr : kc.evr = true) (k_mac : kc.mac = true) (k_sess : kc.sess = true)
    (hfol : Follows kc s0 s) : OutFollows kc s0 (execRead h addr count zero s) := by
  unfold execRead
  repeat' first
    | with_reducible assumption
    | intro _
    | with_reducible refine next_fol ?_
    | with_reducible refine gmpServe_fol ‹_› ‹_› ‹_› ‹_› ?_ ?_
    | with_reducible refine readOp_fol ‹_› ‹_› ‹_› ‹_› ‹_› ‹_› ‹_› ‹_› ‹_› ?_
    | split
    | dsimp only

theorem resend_fol {kc : Touch} {s0 s : State} {k : Nat} {pos : Nat × Nat} (k_gmp : kc.gmp = true) (k_sess : kc.sess = true)
    (hfol : Follows kc s0 s) : Follows kc s0 (resend k pos s) := by
  unfold resend
  repeat' first
    | with_reducible assumption
    | with_reducible refine fol_fst (by assumption) ?_
    | intro _
    | with_reducible refine ite_fol ?_ ?_
    | with_reducible refine ite_fol1 ?_ ?_
    | with_reducible refine modSession_fol ‹_› ‹_› ?_
    | with_reducible refine foldl_fol ?_ ?_
    | with_reducible refine foldl_fol1 ?_ ?_
    | split
    | dsimp only

theorem subscribeOp_fol {kc : Touch} {s0 s : State} {k : Nat} {topic : Nat} {zero : Nat} {mask : Nat} {start : Nat × Nat} (k_gmp : kc.gmp = true) (k_sess : kc.sess = true)
    (hfol : Follows kc s0 s) : Follows kc s0 (subscribeOp k topic zero mask start s).1 := by
  unfold subscribeOp
  repeat' first
    | with_reducible assumption
    | intro _
    | with_reducible refine ite_fol1 ?_ ?_
    | with_reducible refine ite_fol ?_ ?_
    | with_reducible refine modSession_fol ‹_› ‹_› ?_
    | with_reducible refine resend_fol ‹_› ‹_› ?_
    | split
    | dsimp only

theorem execSubscribe_fol {kc : Touch} {s0 s : State} {h : GmpHdr} {topic : Nat} {zero : Nat} {mask : Nat} {sf : Nat} {seq : Nat} (k_regs : kc.regs = true) (k_gmp : kc.gmp = true) (k_sess : kc.sess = true)
    (hfol : Follows kc s0 s) : OutFollows kc s0 (execSubscribe h topic zero mask sf seq s) := by
  unfold execSubscribe
  repeat' first
    | with_reducible assumption
    | intro _
    | with_reducible refine next_fol ?_
    | with_reducible refine gmpPlain_fol ‹_› ‹_› ‹_› ?_ ?_
    | with_reducible refine subscribeOp_fol ‹_› ‹_› ?_
    | split
    | dsimp only

theorem execUnsubscribe_fol {kc : Touch} {s0 s : State} {h : GmpHdr} {topic : Nat} {zero : Nat} (k_jr : kc.jr = true) (k_regs : kc.regs = true) (k_gmp : kc.gmp = true) (k_sess : kc.sess = true)
    (hfol : Follows kc s0 s) : OutFollows kc s0 (execUnsubscribe h topic zero s) := by
  unfold execUnsubscribe
  repeat' first
    | with_reducible assumption
    | intro _
    | with_reducible refine ite_folO ?_ ?_
    | with_reducible refine ite_fol ?_ ?_
    | with_reducible refine next_fol ?_
    | with_reducible refine freeRing_fol ‹_› ?_
    | with_reducible refine gmpPlain_fol ‹_› ‹_› ‹_› ?_ ?_
    | with_reducible refine modSession_fol ‹_› ‹_› ?_
    | split
    | dsimp only

theorem journalAck_fol {kc : Touch} {s0 s : State} {k : Nat} {pos : Nat × Nat} (k_jr : kc.jr = true) (k_gmp : kc.gmp = true) (k_sess : kc.sess = true)
    (hfol : Follows kc s0 s) : Follows kc s0 (journalAck k pos s) := by
  unfold journalAck
  repeat' first
    | with_reducible assumption
    | with_reducible refine fol_fst (by assumption) ?_
    | intro _
    | with_reducible refine ite_fol ?_ ?_
    | with_reducible refine freeRing_fol ‹_› ?_
    | with_reducible refine modSession_fol ‹_› ‹_› ?_
    | with_reducible refine resend_fol ‹_› ‹_› ?_
    | split
    | dsimp only

theorem execJournalAck_fol {kc : Touch} {s0 s : State} {h : GmpHdr} {sf : Nat} {seq : Nat} {zero : Nat} (k_jr : kc.jr = true) (k_regs : kc.regs = true) (k_gmp : kc.gmp = true) (k_sess : kc.sess = true)
    (hfol : Follows kc s0 s) : OutFollows kc s0 (execJournalAck h sf seq zero s) := by
  unfold execJournalAck
  repeat' first
    | with_reducible assumption
    | with_reducible refine fol_fst (by assumption) ?_
    | with_reducible refine ite_folO ?_ ?_
    | with_reducible refine ite_fol ?_ ?_
    | with_reducible refine next_fol ?_
    | with_reducible refine gmpEnvelope_fol ‹_› ‹_› ‹_› ?_
    | with_reducible refine journalAck_fol ‹_› ‹_› ‹_› ?_
    | split
    | dsimp only

end Sys2Proof.Machine
end

