-- ==== Sys2Proof/Laws/FolHod.lean ====
section
/-!
SUPPORT. What the operations of Machine/Hod.lean may change: one lemma each.
-/

set_option Elab.async false

namespace Sys2Proof.Machine

open Sys2Proof

theorem modHod_fol {kc : Touch} {s0 s : State} {h : Nat} {f : Hod → Hod} (k_hod : kc.hod = true)
    (hfol : Follows kc s0 s) : Follows kc s0 (modHod h f s) := by
  unfold modHod
  repeat' first
    | with_reducible assumption
    | intro _
    | with_reducible refine updHod_fol ‹_› ?_
    | split
    | dsimp only

theorem hodAlarm_fol {kc : Touch} {s0 s : State} {b : Nat} {h : Nat} (k_regs : kc.regs = true) (k_hod : kc.hod = true)
    (hfol : Follows kc s0 s) : Follows kc s0 (hodAlarm b h s) := by
  unfold hodAlarm
  repeat' first
    | with_reducible assumption
    | intro _
    | with_reducible refine updHod_fol ‹_› ?_
    | with_reducible refine alarm_fol ‹_› ?_
    | split
    | dsimp only

theorem hodClear_fol {kc : Touch} {s0 s : State} {h : Nat} (k_hod : kc.hod = true)
    (hfol : Follows kc s0 s) : Follows kc s0 (hodClear h s) := by
  unfold hodClear
  repeat' first
    | with_reducible assumption
    | intro _
    | with_reducible refine modHod_fol ‹_› ?_
    | split
    | dsimp only

theorem hodReset_fol {kc : Touch} {s0 s : State} {h : Nat} (k_jr : kc.jr = true) (k_regs : kc.regs = true) (k_gmp : kc.gmp = true) (k_safe : kc.safe = true) (k_pair : kc.pair = true) (k_evr : kc.evr = true) (k_hod : kc.hod = true)
    (hfol : Follows kc s0 s) : Follows kc s0 (hodReset h s) := by
  unfold hodReset
  repeat' first
    | with_reducible assumption
    | with_reducible refine ite_fol ?_ ?_
    | with_reducible refine bumpW_fol ‹_› ?_
    | with_reducible refine evTrig_fol ‹_› ‹_› ?_
    | with_reducible refine faultEnd_fol ‹_› ‹_› ‹_› ‹_› ‹_› ‹_› ?_
    | with_reducible refine faultRaise_fol ‹_› ‹_› ‹_› ‹_› ‹_› ‹_› ?_
    | with_reducible refine hodAlarm_fol ‹_› ‹_› ?_
    | with_reducible refine hodClear_fol ‹_› ?_
    | split
    | dsimp only

theorem execHodPtrMismatch_fol {kc : Touch} {s0 s : State} {hod : Nat} (k_jr : kc.jr = true) (k_regs : kc.regs = true) (k_gmp : kc.gmp = true) (k_safe : kc.safe = true) (k_pair : kc.pair = true) (k_evr : kc.evr = true) (k_hod : kc.hod = true)
    (hfol : Follows kc s0 s) : OutFollows kc s0 (execHodPtrMismatch hod s) := by
  unfold execHodPtrMismatch
  repeat' first
    | with_reducible assumption
    | with_reducible refine ite_folO ?_ ?_
    | with_reducible refine ite_fol ?_ ?_
    | with_reducible refine next_fol ?_
    | with_reducible refine hodReset_fol ‹_› ‹_› ‹_› ‹_› ‹_› ‹_› ‹_› ?_
    | split
    | dsimp only

theorem execHodUnread_fol {kc : Touch} {s0 s : State} {hod : Nat} {used : Nat} {packets : Nat} (k_jr : kc.jr = true) (k_regs : kc.regs = true) (k_gmp : kc.gmp = true) (k_safe : kc.safe = true) (k_sched : kc.sched = true) (k_pair : kc.pair = true) (k_evr : kc.evr = true) (k_pcr : kc.pcr = true) (k_hod : kc.hod = true) (k_snag : kc.snag = true)
    (hfol : Follows kc s0 s) : OutFollows kc s0 (execHodUnread hod used packets s) := by
  unfold execHodUnread
  repeat' first
    | with_reducible assumption
    | intro _
    | with_reducible refine ite_folO ?_ ?_
    | with_reducible refine ite_fol ?_ ?_
    | with_reducible refine next_fol ?_
    | with_reducible refine bumpW_fol ‹_› ?_
    | with_reducible refine evTrig_fol ‹_› ‹_› ?_
    | with_reducible refine faultRaise_fol ‹_› ‹_› ‹_› ‹_› ‹_› ‹_› ?_
    | with_reducible refine fenceEng_fol ‹_› ‹_› ‹_› ‹_› ‹_› ‹_› ‹_› ‹_› ‹_› ?_
    | with_reducible refine hodAlarm_fol ‹_› ‹_› ?_
    | with_reducible refine hodClear_fol ‹_› ?_
    | with_reducible refine modHod_fol ‹_› ?_
    | split
    | dsimp only

theorem hodDrop_fol {kc : Touch} {s0 s : State} {h : Nat} {rest : Option (Nat × Bool)} (k_regs : kc.regs = true) (k_hod : kc.hod = true)
    (hfol : Follows kc s0 s) : Follows kc s0 (hodDrop h rest s).1 := by
  unfold hodDrop
  repeat' first
    | with_reducible assumption
    | with_reducible refine fol_fst (by assumption) ?_
    | intro _
    | with_reducible refine bumpW_fol ‹_› ?_
    | with_reducible refine modHod_fol ‹_› ?_
    | split
    | dsimp only

theorem hodCtrlWord_fol {kc : Touch} {s0 s : State} {gmp : Bool} {rest : Option (Nat × Bool)} {v : Word} (k_jr : kc.jr = true) (k_regs : kc.regs = true) (k_gmp : kc.gmp = true) (k_safe : kc.safe = true) (k_pair : kc.pair = true) (k_evr : kc.evr = true) (k_hod : kc.hod = true)
    (hfol : Follows kc s0 s) : Follows kc s0 (hodCtrlWord gmp rest v s).1 := by
  unfold hodCtrlWord
  repeat' first
    | with_reducible assumption
    | with_reducible refine ite_fol1 ?_ ?_
    | with_reducible refine ite_fol ?_ ?_
    | with_reducible refine hodDrop_fol ‹_› ‹_› ?_
    | with_reducible refine hodReset_fol ‹_› ‹_› ‹_› ‹_› ‹_› ‹_› ‹_› ?_
    | split
    | dsimp only

theorem hodCmd_fol {kc : Touch} {s0 s : State} {src : Option GmpHdr} {rest : Option (Nat × Bool)} {v : Word} (k_jr : kc.jr = true) (k_regs : kc.regs = true) (k_gmp : kc.gmp = true) (k_safe : kc.safe = true) (k_sched : kc.sched = true) (k_pair : kc.pair = true) (k_evr : kc.evr = true) (k_hod : kc.hod = true) (k_sess : kc.sess = true)
    (hfol : Follows kc s0 s) : Follows kc s0 (hodCmd src rest v s) := by
  unfold hodCmd
  repeat' first
    | with_reducible assumption
    | with_reducible refine fol_fst (by assumption) ?_
    | intro _
    | with_reducible refine gmpWord_fol ‹_› ‹_› ‹_› ‹_› ‹_› ‹_› ?_ ?_
    | with_reducible refine hodCtrlWord_fol ‹_› ‹_› ‹_› ‹_› ‹_› ‹_› ‹_› ?_
    | split
    | dsimp only

theorem execHodReset_fol {kc : Touch} {s0 s : State} {src : Option GmpHdr} (k_jr : kc.jr = true) (k_regs : kc.regs = true) (k_gmp : kc.gmp = true) (k_safe : kc.safe = true) (k_sched : kc.sched = true) (k_pair : kc.pair = true) (k_evr : kc.evr = true) (k_hod : kc.hod = true) (k_sess : kc.sess = true)
    (hfol : Follows kc s0 s) : OutFollows kc s0 (execHodReset src s) := by
  unfold execHodReset
  repeat' first
    | with_reducible assumption
    | with_reducible refine next_fol ?_
    | with_reducible refine hodCmd_fol ‹_› ‹_› ‹_› ‹_› ‹_› ‹_› ‹_› ‹_› ‹_› ?_
    | split
    | dsimp only

theorem execHodDrop_fol {kc : Touch} {s0 s : State} {src : Option GmpHdr} {rest : Option (Nat × Bool)} (k_jr : kc.jr = true) (k_regs : kc.regs = true) (k_gmp : kc.gmp = true) (k_safe : kc.safe = true) (k_sched : kc.sched = true) (k_pair : kc.pair = true) (k_evr : kc.evr = true) (k_hod : kc.hod = true) (k_sess : kc.sess = true)
    (hfol : Follows kc s0 s) : OutFollows kc s0 (execHodDrop src rest s) := by
  unfold execHodDrop
  repeat' first
    | with_reducible assumption
    | with_reducible refine next_fol ?_
    | with_reducible refine hodCmd_fol ‹_› ‹_› ‹_› ‹_› ‹_› ‹_› ‹_› ‹_› ‹_› ?_
    | split
    | dsimp only

end Sys2Proof.Machine
end

