-- ==== Sys2Proof/Laws/FolMemb.lean ====
section
/-!
SUPPORT. What the operations of Machine/Memb.lean may change: one lemma each.
-/

set_option Elab.async false

namespace Sys2Proof.Machine

open Sys2Proof

theorem owe_fol {kc : Touch} {s0 s : State} {a : Nat} (k_memb : kc.memb = true)
    (hfol : Follows kc s0 s) : Follows kc s0 (owe a s) := by
  unfold owe
  repeat' first
    | with_reducible assumption
    | intro _
    | with_reducible refine modNode_fol ‹_› ?_
    | split
    | dsimp only

theorem windowTake_fol {kc : Touch} {s0 s : State} {a : Nat} {last : Nat} {map : Nat} (k_memb : kc.memb = true)
    (hfol : Follows kc s0 s) : Follows kc s0 (windowTake a last map s) := by
  unfold windowTake
  repeat' first
    | with_reducible assumption
    | intro _
    | with_reducible refine modNode_fol ‹_› ?_
    | split
    | dsimp only

theorem holdAddr_fol {kc : Touch} {s0 s : State} {a : Nat} {sf : Nat} (k_memb : kc.memb = true)
    (hfol : Follows kc s0 s) : Follows kc s0 (holdAddr a sf s) := by
  unfold holdAddr
  repeat' first
    | with_reducible assumption
    | intro _
    | with_reducible refine modNode_fol ‹_› ?_
    | split
    | dsimp only

theorem freeAddr_fol {kc : Touch} {s0 s : State} {pos : Nat × Nat} {a : Nat} (k_regs : kc.regs = true) (k_gmp : kc.gmp = true) (k_safe : kc.safe = true) (k_fix : kc.fix = true) (k_memb : kc.memb = true) (k_loop : kc.loop = true) (k_evr : kc.evr = true) (k_lkp : kc.lkp = true)
    (hfol : Follows kc s0 s) : Follows kc s0 (freeAddr pos a s) := by
  unfold freeAddr
  repeat' first
    | with_reducible assumption
    | intro _
    | with_reducible refine ite_fol ?_ ?_
    | with_reducible refine loopsFreed_fol ‹_› ‹_› ?_
    | with_reducible refine macCnt_fol ‹_› ?_
    | with_reducible refine modNode_fol ‹_› ?_
    | with_reducible refine nodeForget_fol ‹_› ?_
    | with_reducible refine roverFreed_fol ‹_› ?_
    | with_reducible refine withdraw_fol ‹_› ‹_› ‹_› ‹_› ?_
    | split
    | dsimp only

theorem silenceCheck_fol {kc : Touch} {s0 s : State} {a : Nat} (k_regs : kc.regs = true) (k_memb : kc.memb = true)
    (hfol : Follows kc s0 s) : Follows kc s0 (silenceCheck a s) := by
  unfold silenceCheck
  repeat' first
    | with_reducible assumption
    | with_reducible refine ite_fol ?_ ?_
    | with_reducible refine holdAddr_fol ‹_› ?_
    | with_reducible refine macCnt_fol ‹_› ?_
    | split
    | dsimp only

theorem wakeCheck_fol {kc : Touch} {s0 s : State} {a : Nat} (k_regs : kc.regs = true) (k_memb : kc.memb = true)
    (hfol : Follows kc s0 s) : Follows kc s0 (wakeCheck a s) := by
  unfold wakeCheck
  repeat' first
    | with_reducible assumption
    | intro _
    | with_reducible refine ite_fol ?_ ?_
    | with_reducible refine holdAddr_fol ‹_› ?_
    | with_reducible refine macCnt_fol ‹_› ?_
    | with_reducible refine modNode_fol ‹_› ?_
    | split
    | dsimp only

theorem addrHoldCheck_fol {kc : Touch} {s0 s : State} {a : Nat} (k_regs : kc.regs = true) (k_gmp : kc.gmp = true) (k_safe : kc.safe = true) (k_fix : kc.fix = true) (k_memb : kc.memb = true) (k_loop : kc.loop = true) (k_evr : kc.evr = true) (k_lkp : kc.lkp = true)
    (hfol : Follows kc s0 s) : Follows kc s0 (addrHoldCheck a s) := by
  unfold addrHoldCheck
  repeat' first
    | with_reducible assumption
    | with_reducible refine ite_fol ?_ ?_
    | with_reducible refine freeAddr_fol ‹_› ‹_› ‹_› ‹_› ‹_› ‹_› ‹_› ‹_› ?_
    | split
    | dsimp only

theorem execSilenceTimeout_fol {kc : Touch} {s0 s : State} {a : Nat} (k_regs : kc.regs = true) (k_memb : kc.memb = true)
    (hfol : Follows kc s0 s) : OutFollows kc s0 (execSilenceTimeout a s) := by
  unfold execSilenceTimeout
  repeat' first
    | with_reducible assumption
    | with_reducible refine next_fol ?_
    | with_reducible refine silenceCheck_fol ‹_› ‹_› ?_
    | split
    | dsimp only

theorem execWakeMiss_fol {kc : Touch} {s0 s : State} {a : Nat} (k_regs : kc.regs = true) (k_memb : kc.memb = true)
    (hfol : Follows kc s0 s) : OutFollows kc s0 (execWakeMiss a s) := by
  unfold execWakeMiss
  repeat' first
    | with_reducible assumption
    | with_reducible refine next_fol ?_
    | with_reducible refine wakeCheck_fol ‹_› ‹_› ?_
    | split
    | dsimp only

theorem execAddrHoldExpiry_fol {kc : Touch} {s0 s : State} {a : Nat} (k_regs : kc.regs = true) (k_gmp : kc.gmp = true) (k_safe : kc.safe = true) (k_fix : kc.fix = true) (k_memb : kc.memb = true) (k_loop : kc.loop = true) (k_evr : kc.evr = true) (k_lkp : kc.lkp = true)
    (hfol : Follows kc s0 s) : OutFollows kc s0 (execAddrHoldExpiry a s) := by
  unfold execAddrHoldExpiry
  repeat' first
    | with_reducible assumption
    | with_reducible refine next_fol ?_
    | with_reducible refine addrHoldCheck_fol ‹_› ‹_› ‹_› ‹_› ‹_› ‹_› ‹_› ‹_› ?_
    | split
    | dsimp only

theorem membMark_fol {kc : Touch} {s0 s : State} (k_regs : kc.regs = true) (k_gmp : kc.gmp = true) (k_safe : kc.safe = true) (k_fix : kc.fix = true) (k_memb : kc.memb = true) (k_loop : kc.loop = true) (k_evr : kc.evr = true) (k_lkp : kc.lkp = true)
    (hfol : Follows kc s0 s) : Follows kc s0 (membMark s) := by
  unfold membMark
  repeat' first
    | with_reducible assumption
    | intro _
    | with_reducible refine addrHoldCheck_fol ‹_› ‹_› ‹_› ‹_› ‹_› ‹_› ‹_› ‹_› ?_
    | with_reducible refine silenceCheck_fol ‹_› ‹_› ?_
    | with_reducible refine wakeCheck_fol ‹_› ‹_› ?_
    | with_reducible refine foldl_fol ?_ ?_
    | with_reducible refine foldl_fol1 ?_ ?_
    | split
    | dsimp only

theorem nodeCtrlWord_fol {kc : Touch} {s0 s : State} {w : Word} (k_regs : kc.regs = true) (k_gmp : kc.gmp = true) (k_safe : kc.safe = true) (k_fix : kc.fix = true) (k_memb : kc.memb = true) (k_loop : kc.loop = true) (k_evr : kc.evr = true) (k_lkp : kc.lkp = true)
    (hfol : Follows kc s0 s) : Follows kc s0 (nodeCtrlWord w s).1 := by
  unfold nodeCtrlWord
  repeat' first
    | with_reducible assumption
    | with_reducible refine fol_fst (by assumption) ?_
    | with_reducible refine ite_fol1 ?_ ?_
    | with_reducible refine ite_fol ?_ ?_
    | with_reducible refine freeAddr_fol ‹_› ‹_› ‹_› ‹_› ‹_› ‹_› ‹_› ‹_› ?_
    | with_reducible refine holdAddr_fol ‹_› ?_
    | with_reducible refine queueAck_fol ‹_› ?_
    | with_reducible refine withdraw_fol ‹_› ‹_› ‹_› ‹_› ?_
    | split
    | dsimp only

theorem execDisassoc_fol {kc : Touch} {s0 s : State} {h : GmpHdr} (k_jr : kc.jr = true) (k_regs : kc.regs = true) (k_gmp : kc.gmp = true) (k_safe : kc.safe = true) (k_fix : kc.fix = true) (k_memb : kc.memb = true) (k_sched : kc.sched = true) (k_loop : kc.loop = true) (k_pair : kc.pair = true) (k_evr : kc.evr = true) (k_lkp : kc.lkp = true) (k_sess : kc.sess = true)
    (hfol : Follows kc s0 s) : OutFollows kc s0 (execDisassoc h s) := by
  unfold execDisassoc
  repeat' first
    | with_reducible assumption
    | intro _
    | with_reducible refine next_fol ?_
    | with_reducible refine gmpWord_fol ‹_› ‹_› ‹_› ‹_› ‹_› ‹_› ?_ ?_
    | with_reducible refine nodeCtrlWord_fol ‹_› ‹_› ‹_› ‹_› ‹_› ‹_› ‹_› ‹_› ?_
    | split
    | dsimp only

theorem execFreeAddr_fol {kc : Touch} {s0 s : State} {h : GmpHdr} (k_jr : kc.jr = true) (k_regs : kc.regs = true) (k_gmp : kc.gmp = true) (k_safe : kc.safe = true) (k_fix : kc.fix = true) (k_memb : kc.memb = true) (k_sched : kc.sched = true) (k_loop : kc.loop = true) (k_pair : kc.pair = true) (k_evr : kc.evr = true) (k_lkp : kc.lkp = true) (k_sess : kc.sess = true)
    (hfol : Follows kc s0 s) : OutFollows kc s0 (execFreeAddr h s) := by
  unfold execFreeAddr
  repeat' first
    | with_reducible assumption
    | intro _
    | with_reducible refine next_fol ?_
    | with_reducible refine gmpWord_fol ‹_› ‹_› ‹_› ‹_› ‹_› ‹_› ?_ ?_
    | with_reducible refine nodeCtrlWord_fol ‹_› ‹_› ‹_› ‹_› ‹_› ‹_› ‹_› ‹_› ?_
    | split
    | dsimp only

theorem queueJoin_fol {kc : Touch} {s0 s : State} {j : JoinAcc} (k_regs : kc.regs = true) (k_memb : kc.memb = true)
    (hfol : Follows kc s0 s) : Follows kc s0 (queueJoin j s) := by
  unfold queueJoin
  repeat' first
    | with_reducible assumption
    | intro _
    | with_reducible refine ite_fol ?_ ?_
    | with_reducible refine updMemb_fol ‹_› ?_
    | with_reducible refine macCnt_fol ‹_› ?_
    | split
    | dsimp only

theorem associate_fol {kc : Touch} {s0 s : State} {pos : Nat × Nat} {k : Nat} {a : Nat} {key : Nat} {b : JoinBody} {w : Nat × Nat × Nat} {hsf : Nat} (k_regs : kc.regs = true) (k_gmp : kc.gmp = true) (k_safe : kc.safe = true) (k_fix : kc.fix = true) (k_memb : kc.memb = true) (k_evr : kc.evr = true)
    (hfol : Follows kc s0 s) : Follows kc s0 (associate pos k a key b w hsf s) := by
  unfold associate
  repeat' first
    | with_reducible assumption
    | intro _
    | with_reducible refine ite_fol ?_ ?_
    | with_reducible refine ite_fol1 ?_ ?_
    | with_reducible refine evTrig_fol ‹_› ‹_› ?_
    | with_reducible refine modNode_fol ‹_› ?_
    | with_reducible refine queueSched_fol ‹_› ?_
    | with_reducible refine roverAssigned_fol ‹_› ‹_› ?_
    | with_reducible refine withdraw_fol ‹_› ‹_› ‹_› ‹_› ?_
    | split
    | dsimp only

theorem joinDecide_fresh_fol {kc : Touch} {s0 s : State} {pos : Nat × Nat} {k : Nat} {x : FrameHdr} {b : JoinBody} {refuse : Nat → State}
    {machine : Bool} (k_regs : kc.regs = true) (k_gmp : kc.gmp = true) (k_safe : kc.safe = true) (k_fix : kc.fix = true) (k_memb : kc.memb = true) (k_evr : kc.evr = true)
    (hr : ∀ st, Follows kc s0 (refuse st)) (hfol : Follows kc s0 s) : Follows kc s0 (joinDecide.fresh pos k x b s refuse machine) := by
  unfold joinDecide.fresh
  repeat' first
    | with_reducible assumption
    | exact hr _
    | with_reducible refine ite_fol ?_ ?_
    | with_reducible refine queueJoin_fol ‹_› ‹_› ?_
    | with_reducible refine updMemb_fol ‹_› ?_
    | with_reducible refine associate_fol ‹_› ‹_› ‹_› ‹_› ‹_› ‹_› ?_
    | split
    | dsimp only

theorem joinDecide_fol {kc : Touch} {s0 s : State} {pos : Nat × Nat} {k : Nat} {x : FrameHdr} {b : JoinBody} (k_regs : kc.regs = true) (k_gmp : kc.gmp = true) (k_safe : kc.safe = true) (k_fix : kc.fix = true) (k_memb : kc.memb = true) (k_evr : kc.evr = true)
    (hfol : Follows kc s0 s) : Follows kc s0 (joinDecide pos k x b s) := by
  unfold joinDecide
  repeat' first
    | with_reducible assumption
    | with_reducible refine joinDecide_fresh_fol ‹_› ‹_› ‹_› ‹_› ‹_› ‹_› ?_ ?_
    | intro _
    | with_reducible refine ite_fol ?_ ?_
    | with_reducible refine queueJoin_fol ‹_› ‹_› ?_
    | split
    | dsimp only


theorem execJoinAccAbandon_fol {kc : Touch} {s0 s : State} (k_memb : kc.memb = true)
    (hfol : Follows kc s0 s) : OutFollows kc s0 (execJoinAccAbandon s) := by
  unfold execJoinAccAbandon
  repeat' first
    | with_reducible assumption
    | intro _
    | with_reducible refine next_fol ?_
    | with_reducible refine updMemb_fol ‹_› ?_
    | split
    | dsimp only

theorem takeAck_fol {kc : Touch} {s0 s : State} {a : Nat} {f : AckField} (k_memb : kc.memb = true)
    (hfol : Follows kc s0 s) : Follows kc s0 (takeAck a f s) := by
  unfold takeAck
  repeat' first
    | with_reducible assumption
    | intro _
    | with_reducible refine ite_fol ?_ ?_
    | with_reducible refine modNode_fol ‹_› ?_
    | split
    | dsimp only

theorem echo_fol {kc : Touch} {s0 s : State} {m : Nat} {tag : Nat} {sf : Nat} (k_jr : kc.jr = true) (k_regs : kc.regs = true) (k_evr : kc.evr = true)
    (hfol : Follows kc s0 s) : Follows kc s0 (echo m tag sf s) := by
  unfold echo
  repeat' first
    | with_reducible assumption
    | with_reducible refine fol_fst (by assumption) ?_
    | intro _
    | with_reducible refine ite_fol ?_ ?_
    | with_reducible refine updJr_fol ‹_› ?_
    | with_reducible refine alarm_fol ‹_› ?_
    | with_reducible refine evTrig_fol ‹_› ‹_› ?_
    | split
    | dsimp only

theorem applyUp_fol {kc : Touch} {s0 s : State} {pos : Nat × Nat} {m : Nat} {arrival : Nat} {b : UpBody} (k_jr : kc.jr = true) (k_regs : kc.regs = true) (k_gmp : kc.gmp = true) (k_safe : kc.safe = true) (k_fix : kc.fix = true) (k_memb : kc.memb = true) (k_sched : kc.sched = true) (k_evr : kc.evr = true)
    (hfol : Follows kc s0 s) : Follows kc s0 (applyUp pos m arrival b s) := by
  unfold applyUp
  repeat' first
    | with_reducible assumption
    | intro _
    | with_reducible refine ite_fol ?_ ?_
    | with_reducible refine ite_fol1 ?_ ?_
    | with_reducible refine echo_fol ‹_› ‹_› ‹_› ?_
    | with_reducible refine modMach_fol ‹_› ?_
    | with_reducible refine offerEpoch_fol ‹_› ‹_› ‹_› ‹_› ?_
    | with_reducible refine takeAck_fol ‹_› ?_
    | with_reducible refine withdraw_fol ‹_› ‹_› ‹_› ‹_› ?_
    | split
    | dsimp only

theorem applyRx_fol {kc : Touch} {s0 s : State} {pos : Nat × Nat} {k : Nat} {arrival : Nat} {via : Option Nat} {h : FrameHdr} {b : RadioBody} (k_jr : kc.jr = true) (k_regs : kc.regs = true) (k_gmp : kc.gmp = true) (k_safe : kc.safe = true) (k_fix : kc.fix = true) (k_memb : kc.memb = true) (k_sched : kc.sched = true) (k_evr : kc.evr = true) (k_lkp : kc.lkp = true)
    (hfol : Follows kc s0 s) : Follows kc s0 (applyRx pos k arrival via h b s) := by
  unfold applyRx
  repeat' first
    | with_reducible assumption
    | with_reducible refine fol_fst (by assumption) ?_
    | intro _
    | with_reducible refine ite_fol ?_ ?_
    | with_reducible refine ite_fol1 ?_ ?_
    | with_reducible refine applyUp_fol ‹_› ‹_› ‹_› ‹_› ‹_› ‹_› ‹_› ‹_› ?_
    | with_reducible refine holdAddr_fol ‹_› ?_
    | with_reducible refine joinDecide_fol ‹_› ‹_› ‹_› ‹_› ‹_› ‹_› ?_
    | with_reducible refine macCnt_fol ‹_› ?_
    | with_reducible refine modNode_fol ‹_› ?_
    | with_reducible refine nodeLearn_fol ‹_› ‹_› ?_
    | with_reducible refine owe_fol ‹_› ?_
    | with_reducible refine pendantStop_fol ‹_› ‹_› ‹_› ‹_› ?_
    | with_reducible refine takeAck_fol ‹_› ?_
    | with_reducible refine windowTake_fol ‹_› ?_
    | with_reducible refine withdraw_fol ‹_› ‹_› ‹_› ‹_› ?_
    | split
    | dsimp only

theorem enterRx_fol {kc : Touch} {s0 s : State} {k : Nat} {arrival : Nat} {via : Option Nat} {h : FrameHdr} {b : RadioBody} (k_jr : kc.jr = true) (k_regs : kc.regs = true) (k_gmp : kc.gmp = true) (k_safe : kc.safe = true) (k_fix : kc.fix = true) (k_memb : kc.memb = true) (k_sched : kc.sched = true) (k_pair : kc.pair = true) (k_evr : kc.evr = true) (k_lkp : kc.lkp = true)
    (hfol : Follows kc s0 s) : Follows kc s0 (enterRx k arrival via h b s) := by
  unfold enterRx
  repeat' first
    | with_reducible assumption
    | with_reducible refine applyRx_fol ‹_› ‹_› ‹_› ‹_› ‹_› ‹_› ‹_› ‹_› ‹_› ?_
    | with_reducible refine jWrite_fol ‹_› ‹_› ‹_› ‹_› ?_
    | split
    | dsimp only

theorem ccmAndWindow_fol {kc : Touch} {s0 s : State} {m : RxMsg} (k_regs : kc.regs = true) (k_memb : kc.memb = true)
    (hfol : Follows kc s0 s) : Follows kc s0 (ccmAndWindow m s).1 := by
  unfold ccmAndWindow
  repeat' first
    | with_reducible assumption
    | with_reducible refine fol_fst (by assumption) ?_
    | with_reducible refine ite_fol1 ?_ ?_
    | with_reducible refine ite_fol ?_ ?_
    | with_reducible refine macCnt_fol ‹_› ?_
    | with_reducible refine owe_fol ‹_› ?_
    | split
    | dsimp only

theorem receive_fol {kc : Touch} {s0 s : State} {x : Intake} {m : RxMsg} (k_jr : kc.jr = true) (k_regs : kc.regs = true) (k_gmp : kc.gmp = true) (k_safe : kc.safe = true) (k_fix : kc.fix = true) (k_memb : kc.memb = true) (k_sched : kc.sched = true) (k_pair : kc.pair = true) (k_evr : kc.evr = true) (k_lkp : kc.lkp = true)
    (hfol : Follows kc s0 s) : Follows kc s0 (receive x m s) := by
  unfold receive
  repeat' first
    | with_reducible assumption
    | with_reducible refine fol_fst (by assumption) ?_
    | with_reducible refine ite_fol ?_ ?_
    | with_reducible refine ite_fol1 ?_ ?_
    | with_reducible refine ccmAndWindow_fol ‹_› ‹_› ?_
    | with_reducible refine enterRx_fol ‹_› ‹_› ‹_› ‹_› ‹_› ‹_› ‹_› ‹_› ‹_› ‹_› ?_
    | with_reducible refine macCnt_fol ‹_› ?_
    | split
    | dsimp only

theorem takeFrame_fol {kc : Touch} {s0 s : State} {k : Nat} {typ : Nat} {f : Intake → RxMsg → State → State} (k_mac : kc.mac = true)
    (f_f : ∀ (a0 : Intake) (a1 : RxMsg) (t : State), Follows kc s0 t → Follows kc s0 (f a0 a1 t))
    (hfol : Follows kc s0 s) : Follows kc s0 (takeFrame k typ f s) := by
  unfold takeFrame
  repeat' first
    | with_reducible assumption
    | with_reducible refine fol_fst (by assumption) ?_
    | intro _
    | with_reducible refine ite_fol ?_ ?_
    | with_reducible refine updMac_fol ‹_› ?_
    | with_reducible apply f_f
    | split
    | dsimp only

theorem execUpFrame_fol {kc : Touch} {s0 s : State} {k : Nat} (k_jr : kc.jr = true) (k_regs : kc.regs = true) (k_gmp : kc.gmp = true) (k_safe : kc.safe = true) (k_fix : kc.fix = true) (k_memb : kc.memb = true) (k_sched : kc.sched = true) (k_pair : kc.pair = true) (k_evr : kc.evr = true) (k_mac : kc.mac = true) (k_lkp : kc.lkp = true)
    (hfol : Follows kc s0 s) : OutFollows kc s0 (execUpFrame k s) := by
  unfold execUpFrame
  repeat' first
    | with_reducible assumption
    | intro _
    | with_reducible refine next_fol ?_
    | with_reducible refine receive_fol ‹_› ‹_› ‹_› ‹_› ‹_› ‹_› ‹_› ‹_› ‹_› ‹_› ?_
    | with_reducible refine takeFrame_fol ‹_› ?_ ?_
    | split
    | dsimp only

theorem execAckFrame_fol {kc : Touch} {s0 s : State} {k : Nat} (k_jr : kc.jr = true) (k_regs : kc.regs = true) (k_gmp : kc.gmp = true) (k_safe : kc.safe = true) (k_fix : kc.fix = true) (k_memb : kc.memb = true) (k_sched : kc.sched = true) (k_pair : kc.pair = true) (k_evr : kc.evr = true) (k_mac : kc.mac = true) (k_lkp : kc.lkp = true)
    (hfol : Follows kc s0 s) : OutFollows kc s0 (execAckFrame k s) := by
  unfold execAckFrame
  repeat' first
    | with_reducible assumption
    | intro _
    | with_reducible refine next_fol ?_
    | with_reducible refine receive_fol ‹_› ‹_› ‹_› ‹_› ‹_› ‹_› ‹_› ‹_› ‹_› ‹_› ?_
    | with_reducible refine takeFrame_fol ‹_› ?_ ?_
    | split
    | dsimp only

theorem execJoinReq_fol {kc : Touch} {s0 s : State} {k : Nat} (k_jr : kc.jr = true) (k_regs : kc.regs = true) (k_gmp : kc.gmp = true) (k_safe : kc.safe = true) (k_fix : kc.fix = true) (k_memb : kc.memb = true) (k_sched : kc.sched = true) (k_pair : kc.pair = true) (k_evr : kc.evr = true) (k_mac : kc.mac = true) (k_lkp : kc.lkp = true)
    (hfol : Follows kc s0 s) : OutFollows kc s0 (execJoinReq k s) := by
  unfold execJoinReq
  repeat' first
    | with_reducible assumption
    | intro _
    | with_reducible refine next_fol ?_
    | with_reducible refine receive_fol ‹_› ‹_› ‹_› ‹_› ‹_› ‹_› ‹_› ‹_› ‹_› ‹_› ?_
    | with_reducible refine takeFrame_fol ‹_› ?_ ?_
    | split
    | dsimp only

theorem execLeave_fol {kc : Touch} {s0 s : State} {k : Nat} (k_jr : kc.jr = true) (k_regs : kc.regs = true) (k_gmp : kc.gmp = true) (k_safe : kc.safe = true) (k_fix : kc.fix = true) (k_memb : kc.memb = true) (k_sched : kc.sched = true) (k_pair : kc.pair = true) (k_evr : kc.evr = true) (k_mac : kc.mac = true) (k_lkp : kc.lkp = true)
    (hfol : Follows kc s0 s) : OutFollows kc s0 (execLeave k s) := by
  unfold execLeave
  repeat' first
    | with_reducible assumption
    | intro _
    | with_reducible refine next_fol ?_
    | with_reducible refine receive_fol ‹_› ‹_› ‹_› ‹_› ‹_› ‹_› ‹_› ‹_› ‹_› ‹_› ?_
    | with_reducible refine takeFrame_fol ‹_› ?_ ?_
    | split
    | dsimp only

theorem execPend_fol {kc : Touch} {s0 s : State} {k : Nat} (k_jr : kc.jr = true) (k_regs : kc.regs = true) (k_gmp : kc.gmp = true) (k_safe : kc.safe = true) (k_fix : kc.fix = true) (k_memb : kc.memb = true) (k_sched : kc.sched = true) (k_pair : kc.pair = true) (k_evr : kc.evr = true) (k_mac : kc.mac = true) (k_lkp : kc.lkp = true)
    (hfol : Follows kc s0 s) : OutFollows kc s0 (execPend k s) := by
  unfold execPend
  repeat' first
    | with_reducible assumption
    | intro _
    | with_reducible refine next_fol ?_
    | with_reducible refine receive_fol ‹_› ‹_› ‹_› ‹_› ‹_› ‹_› ‹_› ‹_› ‹_› ‹_› ?_
    | with_reducible refine takeFrame_fol ‹_› ?_ ?_
    | split
    | dsimp only

theorem innerTake_fol {kc : Touch} {s0 s : State} {x : Intake} {outer : RxMsg} {m : RxMsg} (k_jr : kc.jr = true) (k_regs : kc.regs = true) (k_gmp : kc.gmp = true) (k_safe : kc.safe = true) (k_fix : kc.fix = true) (k_memb : kc.memb = true) (k_sched : kc.sched = true) (k_pair : kc.pair = true) (k_evr : kc.evr = true) (k_lkp : kc.lkp = true)
    (hfol : Follows kc s0 s) : Follows kc s0 (innerTake x outer s m) := by
  unfold innerTake
  repeat' first
    | with_reducible assumption
    | with_reducible refine fol_fst (by assumption) ?_
    | with_reducible refine ite_fol ?_ ?_
    | with_reducible refine ite_fol1 ?_ ?_
    | with_reducible refine ccmAndWindow_fol ‹_› ‹_› ?_
    | with_reducible refine enterRx_fol ‹_› ‹_› ‹_› ‹_› ‹_› ‹_› ‹_› ‹_› ‹_› ‹_› ?_
    | with_reducible refine macCnt_fol ‹_› ?_
    | split
    | dsimp only

theorem relayTake_fol {kc : Touch} {s0 s : State} {x : Intake} {m : RxMsg} (k_jr : kc.jr = true) (k_regs : kc.regs = true) (k_gmp : kc.gmp = true) (k_safe : kc.safe = true) (k_fix : kc.fix = true) (k_memb : kc.memb = true) (k_sched : kc.sched = true) (k_pair : kc.pair = true) (k_evr : kc.evr = true) (k_lkp : kc.lkp = true)
    (hfol : Follows kc s0 s) : Follows kc s0 (relayTake x m s) := by
  unfold relayTake
  repeat' first
    | with_reducible assumption
    | with_reducible refine fol_fst (by assumption) ?_
    | intro _
    | with_reducible refine ite_fol ?_ ?_
    | with_reducible refine ite_fol1 ?_ ?_
    | with_reducible refine ccmAndWindow_fol ‹_› ‹_› ?_
    | with_reducible refine innerTake_fol ‹_› ‹_› ‹_› ‹_› ‹_› ‹_› ‹_› ‹_› ‹_› ‹_› ?_
    | with_reducible refine macCnt_fol ‹_› ?_
    | with_reducible refine windowTake_fol ‹_› ?_
    | with_reducible refine foldl_fol ?_ ?_
    | with_reducible refine foldl_fol1 ?_ ?_
    | split
    | dsimp only

theorem execRelay_fol {kc : Touch} {s0 s : State} {k : Nat} (k_jr : kc.jr = true) (k_regs : kc.regs = true) (k_gmp : kc.gmp = true) (k_safe : kc.safe = true) (k_fix : kc.fix = true) (k_memb : kc.memb = true) (k_sched : kc.sched = true) (k_pair : kc.pair = true) (k_evr : kc.evr = true) (k_mac : kc.mac = true) (k_lkp : kc.lkp = true)
    (hfol : Follows kc s0 s) : OutFollows kc s0 (execRelay k s) := by
  unfold execRelay
  repeat' first
    | with_reducible assumption
    | intro _
    | with_reducible refine next_fol ?_
    | with_reducible refine relayTake_fol ‹_› ‹_› ‹_› ‹_› ‹_› ‹_› ‹_› ‹_› ‹_› ‹_› ?_
    | with_reducible refine takeFrame_fol ‹_› ?_ ?_
    | split
    | dsimp only

end Sys2Proof.Machine
end

