-- ==== Sys2Proof/Laws/FolPair.lean ====
section
/-!
SUPPORT. What the operations of Machine/Pair.lean may change: one lemma each.
-/

set_option Elab.async false

namespace Sys2Proof.Machine

open Sys2Proof

theorem sendLink_fol {kc : Touch} {s0 s : State} {typ : Nat} {body : List Nat} (k_pair : kc.pair = true)
    (hfol : Follows kc s0 s) : Follows kc s0 (sendLink typ body s) := by
  unfold sendLink
  repeat' first
    | with_reducible assumption
    | intro _
    | with_reducible refine ite_fol ?_ ?_
    | with_reducible refine updPair_fol ‹_› ?_
    | with_reducible refine emit_fol ?_
    | split
    | dsimp only

theorem sendWit_fol {kc : Touch} {s0 s : State} {typ : Nat} {num : Nat} {leaving : Bool}
    (hfol : Follows kc s0 s) : Follows kc s0 (sendWit typ num leaving s) := by
  unfold sendWit
  repeat' first
    | with_reducible assumption
    | with_reducible refine ite_fol ?_ ?_
    | with_reducible refine emit_fol ?_
    | split
    | dsimp only

theorem sendHello_fol {kc : Touch} {s0 s : State} (k_pair : kc.pair = true)
    (hfol : Follows kc s0 s) : Follows kc s0 (sendHello s) := by
  unfold sendHello
  repeat' first
    | with_reducible assumption
    | with_reducible refine sendLink_fol ‹_› ?_
    | split
    | dsimp only

theorem drawR_fol {kc : Touch} {s0 s : State} (k_pair : kc.pair = true)
    (hfol : Follows kc s0 s) : Follows kc s0 (drawR s) := by
  unfold drawR
  repeat' first
    | with_reducible assumption
    | intro _
    | with_reducible refine ite_fol ?_ ?_
    | with_reducible refine updPair_fol ‹_› ?_
    | with_reducible refine updFree_fol (fun _ => by omega) ?_
    | split
    | dsimp only

theorem execHelloSend_fol {kc : Touch} {s0 s : State} (k_time : kc.time = true) (k_pair : kc.pair = true)
    (hfol : Follows kc s0 s) : OutFollows kc s0 (execHelloSend s) := by
  unfold execHelloSend
  repeat' first
    | with_reducible assumption
    | intro _
    | with_reducible refine ite_folO ?_ ?_
    | with_reducible refine ite_fol ?_ ?_
    | with_reducible refine next_fol ?_
    | with_reducible refine updPair_fol ‹_› ?_
    | with_reducible refine advOp_fol ‹_› ?_
    | with_reducible refine drawR_fol ‹_› ?_
    | with_reducible refine sendHello_fol ‹_› ?_
    | with_reducible refine sendWit_fol ?_
    | split
    | dsimp only

theorem execRenewSend_fol {kc : Touch} {s0 s : State} (k_time : kc.time = true) (k_regs : kc.regs = true) (k_pair : kc.pair = true)
    (hfol : Follows kc s0 s) : OutFollows kc s0 (execRenewSend s) := by
  unfold execRenewSend
  repeat' first
    | with_reducible assumption
    | intro _
    | with_reducible refine ite_folO ?_ ?_
    | with_reducible refine ite_fol ?_ ?_
    | with_reducible refine next_fol ?_
    | with_reducible refine updPair_fol ‹_› ?_
    | with_reducible refine advOp_fol ‹_› ?_
    | with_reducible refine bump_fol ‹_› ?_
    | with_reducible refine sendLink_fol ‹_› ?_
    | with_reducible refine sendWit_fol ?_
    | split
    | dsimp only

theorem setRole_fol {kc : Touch} {s0 s : State} {r : Role} {code : Nat} (k_regs : kc.regs = true) (k_safe : kc.safe = true) (k_pair : kc.pair = true) (k_evr : kc.evr = true) (k_role : kc.role = true)
    (hfol : Follows kc s0 s) : Follows kc s0 (setRole r code s) := by
  unfold setRole
  repeat' first
    | with_reducible assumption
    | intro _
    | with_reducible refine updPair_fol ‹_› ?_
    | with_reducible refine dynEval_fol ‹_› ?_
    | with_reducible refine evTrig_fol ‹_› ‹_› ?_
    | split
    | dsimp only

theorem roleReset_fol {kc : Touch} {s0 s : State} (k_time : kc.time = true) (k_jr : kc.jr = true) (k_regs : kc.regs = true) (k_gmp : kc.gmp = true) (k_safe : kc.safe = true) (k_fix : kc.fix = true) (k_scr : kc.scr = true) (k_memb : kc.memb = true) (k_sched : kc.sched = true) (k_loop : kc.loop = true) (k_pair : kc.pair = true) (k_evr : kc.evr = true) (k_key : kc.key = true) (k_pcr : kc.pcr = true) (k_nvm : kc.nvm = true) (k_upd : kc.upd = true) (k_mem : kc.mem = true) (k_hod : kc.hod = true) (k_snag : kc.snag = true) (k_mac : kc.mac = true) (k_lkp : kc.lkp = true) (k_mark : kc.mark = true) (k_gen : kc.gen = true) (k_role : kc.role = true) (k_sess : kc.sess = true)
    (hfol : Follows kc s0 s) : Follows kc s0 (roleReset s) := by
  unfold roleReset
  repeat' first
    | with_reducible assumption
    | with_reducible refine ite_fol ?_ ?_
    | with_reducible refine deviceReset_fol ‹_› ‹_› ‹_› ‹_› ‹_› ‹_› ‹_› ‹_› ‹_› ‹_› ‹_› ‹_› ‹_› ‹_› ‹_› ‹_› ‹_› ‹_› ‹_› ‹_› ‹_› ‹_› ‹_› ‹_› ‹_› ?_
    | with_reducible refine sendWit_fol ?_
    | split
    | dsimp only

theorem askCopy_fol {kc : Touch} {s0 s : State} {chunk : Option Nat} (k_pair : kc.pair = true)
    (hfol : Follows kc s0 s) : Follows kc s0 (askCopy chunk s) := by
  unfold askCopy
  repeat' first
    | with_reducible assumption
    | intro _
    | with_reducible refine updPair_fol ‹_› ?_
    | with_reducible refine sendLink_fol ‹_› ?_
    | split
    | dsimp only

theorem toStandby_fol {kc : Touch} {s0 s : State} (k_regs : kc.regs = true) (k_safe : kc.safe = true) (k_pair : kc.pair = true) (k_evr : kc.evr = true) (k_role : kc.role = true)
    (hfol : Follows kc s0 s) : Follows kc s0 (toStandby s) := by
  unfold toStandby
  repeat' first
    | with_reducible assumption
    | intro _
    | with_reducible refine ite_fol ?_ ?_
    | with_reducible refine updPair_fol ‹_› ?_
    | with_reducible refine askCopy_fol ‹_› ?_
    | with_reducible refine setRole_fol ‹_› ‹_› ‹_› ‹_› ‹_› ?_
    | split
    | dsimp only

theorem toActive_fol {kc : Touch} {s0 s : State} {code : Nat} (k_regs : kc.regs = true) (k_safe : kc.safe = true) (k_pair : kc.pair = true) (k_evr : kc.evr = true) (k_role : kc.role = true)
    (hfol : Follows kc s0 s) : Follows kc s0 (toActive code s) := by
  unfold toActive
  repeat' first
    | with_reducible assumption
    | intro _
    | with_reducible refine updPair_fol ‹_› ?_
    | with_reducible refine setRole_fol ‹_› ‹_› ‹_› ‹_› ‹_› ?_
    | split
    | dsimp only

theorem fenceSelf_fol {kc : Touch} {s0 s : State} (k_regs : kc.regs = true) (k_safe : kc.safe = true) (k_pair : kc.pair = true) (k_evr : kc.evr = true) (k_role : kc.role = true)
    (hfol : Follows kc s0 s) : Follows kc s0 (fenceSelf s) := by
  unfold fenceSelf
  repeat' first
    | with_reducible assumption
    | intro _
    | with_reducible refine updPair_fol ‹_› ?_
    | with_reducible refine bump_fol ‹_› ?_
    | with_reducible refine setRole_fol ‹_› ‹_› ‹_› ‹_› ‹_› ?_
    | split
    | dsimp only

theorem dualActive_fol {kc : Touch} {s0 s : State} (k_jr : kc.jr = true) (k_regs : kc.regs = true) (k_gmp : kc.gmp = true) (k_safe : kc.safe = true) (k_pair : kc.pair = true) (k_evr : kc.evr = true) (k_role : kc.role = true)
    (hfol : Follows kc s0 s) : Follows kc s0 (dualActive s) := by
  unfold dualActive
  repeat' first
    | with_reducible assumption
    | with_reducible refine fol_fst (by assumption) ?_
    | intro _
    | with_reducible refine ite_fol ?_ ?_
    | with_reducible refine updPair_fol ‹_› ?_
    | with_reducible refine alarm_fol ‹_› ?_
    | with_reducible refine fenceSelf_fol ‹_› ‹_› ‹_› ‹_› ‹_› ?_
    | with_reducible refine postFault_fol ‹_› ‹_› ‹_› ‹_› ‹_› ‹_› ?_
    | split
    | dsimp only

theorem hearRole_fol {kc : Touch} {s0 s : State} {role : Nat} (k_time : kc.time = true) (k_jr : kc.jr = true) (k_regs : kc.regs = true) (k_gmp : kc.gmp = true) (k_safe : kc.safe = true) (k_fix : kc.fix = true) (k_scr : kc.scr = true) (k_memb : kc.memb = true) (k_sched : kc.sched = true) (k_loop : kc.loop = true) (k_pair : kc.pair = true) (k_evr : kc.evr = true) (k_key : kc.key = true) (k_pcr : kc.pcr = true) (k_nvm : kc.nvm = true) (k_upd : kc.upd = true) (k_mem : kc.mem = true) (k_hod : kc.hod = true) (k_snag : kc.snag = true) (k_mac : kc.mac = true) (k_lkp : kc.lkp = true) (k_mark : kc.mark = true) (k_gen : kc.gen = true) (k_role : kc.role = true) (k_sess : kc.sess = true)
    (hfol : Follows kc s0 s) : Follows kc s0 (hearRole role s) := by
  unfold hearRole
  repeat' first
    | with_reducible assumption
    | with_reducible refine fol_fst (by assumption) ?_
    | intro _
    | with_reducible refine ite_fol ?_ ?_
    | with_reducible refine updPair_fol ‹_› ?_
    | with_reducible refine dualActive_fol ‹_› ‹_› ‹_› ‹_› ‹_› ‹_› ‹_› ?_
    | with_reducible refine roleReset_fol ‹_› ‹_› ‹_› ‹_› ‹_› ‹_› ‹_› ‹_› ‹_› ‹_› ‹_› ‹_› ‹_› ‹_› ‹_› ‹_› ‹_› ‹_› ‹_› ‹_› ‹_› ‹_› ‹_› ‹_› ‹_› ?_
    | with_reducible refine toActive_fol ‹_› ‹_› ‹_› ‹_› ‹_› ?_
    | with_reducible refine toStandby_fol ‹_› ‹_› ‹_› ‹_› ‹_› ?_
    | split
    | dsimp only

theorem pairSeen_fol {kc : Touch} {s0 s : State} {f : PairHdr} (k_regs : kc.regs = true) (k_pair : kc.pair = true) (k_evr : kc.evr = true)
    (hfol : Follows kc s0 s) : Follows kc s0 (pairSeen f s) := by
  unfold pairSeen
  repeat' first
    | with_reducible assumption
    | intro _
    | with_reducible refine ite_fol ?_ ?_
    | with_reducible refine updPair_fol ‹_› ?_
    | with_reducible refine copyFail_fol ‹_› ‹_› ‹_› ?_
    | with_reducible refine modPath_fol ‹_› ?_
    | split
    | dsimp only

theorem pairBad_fol {kc : Touch} {s0 s : State} {i : Nat} (k_pair : kc.pair = true)
    (hfol : Follows kc s0 s) : Follows kc s0 (pairBad i s) := by
  unfold pairBad
  repeat' first
    | with_reducible assumption
    | intro _
    | with_reducible refine modPath_fol ‹_› ?_
    | split
    | dsimp only

theorem witIn_fol {kc : Touch} {s0 s : State} {f : PairHdr} (k_regs : kc.regs = true) (k_pair : kc.pair = true) (k_evr : kc.evr = true)
    (hfol : Follows kc s0 s) : Follows kc s0 (witIn f s).1 := by
  unfold witIn
  repeat' first
    | with_reducible assumption
    | with_reducible refine ite_fol1 ?_ ?_
    | with_reducible refine ite_fol ?_ ?_
    | with_reducible refine alarm_fol ‹_› ?_
    | with_reducible refine bump_fol ‹_› ?_
    | with_reducible refine pairBad_fol ‹_› ?_
    | with_reducible refine pairSeen_fol ‹_› ‹_› ‹_› ?_
    | split
    | dsimp only

theorem linkIn_fol {kc : Touch} {s0 s : State} {r : Option Nat} {f : PairHdr} (k_regs : kc.regs = true) (k_pair : kc.pair = true) (k_evr : kc.evr = true)
    (hfol : Follows kc s0 s) : Follows kc s0 (linkIn r f s).1 := by
  unfold linkIn
  repeat' first
    | with_reducible assumption
    | with_reducible refine fol_fst (by assumption) ?_
    | intro _
    | with_reducible refine ite_fol1 ?_ ?_
    | with_reducible refine ite_fol ?_ ?_
    | with_reducible refine updPair_fol ‹_› ?_
    | with_reducible refine alarm_fol ‹_› ?_
    | with_reducible refine bump_fol ‹_› ?_
    | with_reducible refine drawR_fol ‹_› ?_
    | with_reducible refine pairBad_fol ‹_› ?_
    | with_reducible refine pairSeen_fol ‹_› ‹_› ‹_› ?_
    | with_reducible refine sendHello_fol ‹_› ?_
    | split
    | dsimp only

theorem pairIn_fol {kc : Touch} {s0 s : State} {r : Option Nat} {f : PairHdr} (k_regs : kc.regs = true) (k_pair : kc.pair = true) (k_evr : kc.evr = true)
    (hfol : Follows kc s0 s) : Follows kc s0 (pairIn r f s).1 := by
  unfold pairIn
  repeat' first
    | with_reducible assumption
    | with_reducible refine ite_fol1 ?_ ?_
    | with_reducible refine ite_fol ?_ ?_
    | with_reducible refine linkIn_fol ‹_› ‹_› ‹_› ?_
    | with_reducible refine witIn_fol ‹_› ‹_› ‹_› ?_
    | split
    | dsimp only

theorem linkOnly_fol {kc : Touch} {s0 s : State} {f : PairHdr} (k_regs : kc.regs = true) (k_pair : kc.pair = true) (k_evr : kc.evr = true)
    (hfol : Follows kc s0 s) : Follows kc s0 (linkOnly f s).1 := by
  unfold linkOnly
  repeat' first
    | with_reducible assumption
    | with_reducible refine ite_fol1 ?_ ?_
    | with_reducible refine ite_fol ?_ ?_
    | with_reducible refine pairIn_fol ‹_› ‹_› ‹_› ?_
    | split
    | dsimp only

theorem execHello_fol {kc : Touch} {s0 s : State} {f : PairHdr} {r : Nat} (k_time : kc.time = true) (k_jr : kc.jr = true) (k_regs : kc.regs = true) (k_gmp : kc.gmp = true) (k_safe : kc.safe = true) (k_fix : kc.fix = true) (k_scr : kc.scr = true) (k_memb : kc.memb = true) (k_sched : kc.sched = true) (k_loop : kc.loop = true) (k_pair : kc.pair = true) (k_evr : kc.evr = true) (k_key : kc.key = true) (k_pcr : kc.pcr = true) (k_nvm : kc.nvm = true) (k_upd : kc.upd = true) (k_mem : kc.mem = true) (k_hod : kc.hod = true) (k_snag : kc.snag = true) (k_mac : kc.mac = true) (k_lkp : kc.lkp = true) (k_mark : kc.mark = true) (k_gen : kc.gen = true) (k_role : kc.role = true) (k_sess : kc.sess = true)
    (hfol : Follows kc s0 s) : OutFollows kc s0 (execHello f r s) := by
  unfold execHello
  repeat' first
    | with_reducible assumption
    | intro _
    | with_reducible refine ite_folO ?_ ?_
    | with_reducible refine ite_fol ?_ ?_
    | with_reducible refine next_fol ?_
    | with_reducible refine updPair_fol ‹_› ?_
    | with_reducible refine hearRole_fol ‹_› ‹_› ‹_› ‹_› ‹_› ‹_› ‹_› ‹_› ‹_› ‹_› ‹_› ‹_› ‹_› ‹_› ‹_› ‹_› ‹_› ‹_› ‹_› ‹_› ‹_› ‹_› ‹_› ‹_› ‹_› ?_
    | with_reducible refine pairIn_fol ‹_› ‹_› ‹_› ?_
    | split
    | dsimp only

theorem execRenew_fol {kc : Touch} {s0 s : State} {f : PairHdr} {num : Nat} (k_time : kc.time = true) (k_jr : kc.jr = true) (k_regs : kc.regs = true) (k_gmp : kc.gmp = true) (k_safe : kc.safe = true) (k_fix : kc.fix = true) (k_scr : kc.scr = true) (k_memb : kc.memb = true) (k_sched : kc.sched = true) (k_loop : kc.loop = true) (k_pair : kc.pair = true) (k_evr : kc.evr = true) (k_key : kc.key = true) (k_pcr : kc.pcr = true) (k_nvm : kc.nvm = true) (k_upd : kc.upd = true) (k_mem : kc.mem = true) (k_hod : kc.hod = true) (k_snag : kc.snag = true) (k_mac : kc.mac = true) (k_lkp : kc.lkp = true) (k_mark : kc.mark = true) (k_gen : kc.gen = true) (k_role : kc.role = true) (k_sess : kc.sess = true)
    (hfol : Follows kc s0 s) : OutFollows kc s0 (execRenew f num s) := by
  unfold execRenew
  repeat' first
    | with_reducible assumption
    | intro _
    | with_reducible refine ite_folO ?_ ?_
    | with_reducible refine ite_fol ?_ ?_
    | with_reducible refine next_fol ?_
    | with_reducible refine updPair_fol ‹_› ?_
    | with_reducible refine hearRole_fol ‹_› ‹_› ‹_› ‹_› ‹_› ‹_› ‹_› ‹_› ‹_› ‹_› ‹_› ‹_› ‹_› ‹_› ‹_› ‹_› ‹_› ‹_› ‹_› ‹_› ‹_› ‹_› ‹_› ‹_› ‹_› ?_
    | with_reducible refine pairIn_fol ‹_› ‹_› ‹_› ?_
    | with_reducible refine sendLink_fol ‹_› ?_
    | with_reducible refine sendWit_fol ?_
    | split
    | dsimp only

theorem execPairAck_fol {kc : Touch} {s0 s : State} {f : PairHdr} {num : Nat} (k_regs : kc.regs = true) (k_pair : kc.pair = true) (k_evr : kc.evr = true)
    (hfol : Follows kc s0 s) : OutFollows kc s0 (execPairAck f num s) := by
  unfold execPairAck
  repeat' first
    | with_reducible assumption
    | with_reducible refine fol_fst (by assumption) ?_
    | intro _
    | with_reducible refine ite_folO ?_ ?_
    | with_reducible refine ite_fol ?_ ?_
    | with_reducible refine next_fol ?_
    | with_reducible refine updPair_fol ‹_› ?_
    | with_reducible refine pairIn_fol ‹_› ‹_› ‹_› ?_
    | split
    | dsimp only

theorem execPathDownTimeout_fol {kc : Touch} {s0 s : State} {i : Nat} (k_time : kc.time = true) (k_regs : kc.regs = true) (k_pair : kc.pair = true) (k_evr : kc.evr = true)
    (hfol : Follows kc s0 s) : OutFollows kc s0 (execPathDownTimeout i s) := by
  unfold execPathDownTimeout
  repeat' first
    | with_reducible assumption
    | with_reducible refine fol_fst (by assumption) ?_
    | with_reducible refine ite_folO ?_ ?_
    | with_reducible refine ite_fol ?_ ?_
    | with_reducible refine next_fol ?_
    | with_reducible refine advOp_fol ‹_› ?_
    | with_reducible refine pathDown_fol ‹_› ‹_› ‹_› ?_
    | split
    | dsimp only

theorem execFence_fol {kc : Touch} {s0 s : State} (k_time : kc.time = true) (k_regs : kc.regs = true) (k_safe : kc.safe = true) (k_pair : kc.pair = true) (k_evr : kc.evr = true) (k_role : kc.role = true)
    (hfol : Follows kc s0 s) : OutFollows kc s0 (execFence s) := by
  unfold execFence
  repeat' first
    | with_reducible assumption
    | with_reducible refine fol_fst (by assumption) ?_
    | with_reducible refine ite_folO ?_ ?_
    | with_reducible refine ite_fol ?_ ?_
    | with_reducible refine next_fol ?_
    | with_reducible refine advOp_fol ‹_› ?_
    | with_reducible refine fenceSelf_fol ‹_› ‹_› ‹_› ‹_› ‹_› ?_
    | split
    | dsimp only

theorem pairNote_fol {kc : Touch} {s0 s : State} {st : Nat} (k_pair : kc.pair = true)
    (hfol : Follows kc s0 s) : Follows kc s0 (pairNote st s) := by
  unfold pairNote
  repeat' first
    | with_reducible assumption
    | intro _
    | with_reducible refine updPair_fol ‹_› ?_
    | split
    | dsimp only

theorem pairCtrlWord_fol {kc : Touch} {s0 s : State} {replay : Bool} {v : Word} (k_pair : kc.pair = true)
    (hfol : Follows kc s0 s) : Follows kc s0 (pairCtrlWord replay v s).1 := by
  unfold pairCtrlWord
  repeat' first
    | with_reducible assumption
    | intro _
    | with_reducible refine ite_fol1 ?_ ?_
    | with_reducible refine ite_fol ?_ ?_
    | with_reducible refine updPair_fol ‹_› ?_
    | with_reducible refine pairNote_fol ‹_› ?_
    | split
    | dsimp only

theorem execHandover_fol {kc : Touch} {s0 s : State} {h : GmpHdr} {force : Bool} (k_jr : kc.jr = true) (k_regs : kc.regs = true) (k_gmp : kc.gmp = true) (k_sched : kc.sched = true) (k_pair : kc.pair = true) (k_sess : kc.sess = true)
    (hfol : Follows kc s0 s) : OutFollows kc s0 (execHandover h force s) := by
  unfold execHandover
  repeat' first
    | with_reducible assumption
    | intro _
    | with_reducible refine ite_folO ?_ ?_
    | with_reducible refine ite_fol ?_ ?_
    | with_reducible refine next_fol ?_
    | with_reducible refine gmpWord_fol ‹_› ‹_› ‹_› ‹_› ‹_› ‹_› ?_ ?_
    | with_reducible refine pairCtrlWord_fol ‹_› ?_
    | split
    | dsimp only

theorem takeAloneOp_fol {kc : Touch} {s0 s : State} {v : Word} (k_regs : kc.regs = true) (k_safe : kc.safe = true) (k_pair : kc.pair = true) (k_evr : kc.evr = true) (k_role : kc.role = true)
    (hfol : Follows kc s0 s) : Follows kc s0 (takeAloneOp v s).1 := by
  unfold takeAloneOp
  repeat' first
    | with_reducible assumption
    | with_reducible refine ite_fol1 ?_ ?_
    | with_reducible refine ite_fol ?_ ?_
    | with_reducible refine pairNote_fol ‹_› ?_
    | with_reducible refine toActive_fol ‹_› ‹_› ‹_› ‹_› ‹_› ?_
    | split
    | dsimp only

theorem takeAlone_fol {kc : Touch} {s0 s : State} {h : GmpHdr} {v : Word} (k_regs : kc.regs = true) (k_gmp : kc.gmp = true) (k_safe : kc.safe = true) (k_pair : kc.pair = true) (k_evr : kc.evr = true) (k_role : kc.role = true) (k_sess : kc.sess = true)
    (hfol : Follows kc s0 s) : Follows kc s0 (takeAlone h v s) := by
  unfold takeAlone
  repeat' first
    | with_reducible assumption
    | intro _
    | with_reducible refine gmpPlain_fol ‹_› ‹_› ‹_› ?_ ?_
    | with_reducible refine takeAloneOp_fol ‹_› ‹_› ‹_› ‹_› ‹_› ?_
    | split
    | dsimp only

theorem execTakeAlone_fol {kc : Touch} {s0 s : State} {h : GmpHdr} {v : Word} (k_jr : kc.jr = true) (k_regs : kc.regs = true) (k_gmp : kc.gmp = true) (k_safe : kc.safe = true) (k_sched : kc.sched = true) (k_pair : kc.pair = true) (k_evr : kc.evr = true) (k_role : kc.role = true) (k_sess : kc.sess = true)
    (hfol : Follows kc s0 s) : OutFollows kc s0 (execTakeAlone h v s) := by
  unfold execTakeAlone
  repeat' first
    | with_reducible assumption
    | intro _
    | with_reducible refine ite_folO ?_ ?_
    | with_reducible refine ite_fol ?_ ?_
    | with_reducible refine next_fol ?_
    | with_reducible refine gmpWord_fol ‹_› ‹_› ‹_› ‹_› ‹_› ‹_› ?_ ?_
    | with_reducible refine pairCtrlWord_fol ‹_› ?_
    | with_reducible refine takeAlone_fol ‹_› ‹_› ‹_› ‹_› ‹_› ‹_› ‹_› ?_
    | split
    | dsimp only

end Sys2Proof.Machine
end

