-- ==== Sys2Proof/Laws/FolMark.lean ====
section
/-!
SUPPORT. What the operations of Machine/Mark.lean may change: one lemma each.
-/

set_option Elab.async false

namespace Sys2Proof.Machine

open Sys2Proof

theorem sfqApply_fol {kc : Touch} {s0 s : State} {sf : Nat} (k_regs : kc.regs = true)
    (hfol : Follows kc s0 s) : Follows kc s0 (sfqApply sf s) := by
  unfold sfqApply
  repeat' first
    | with_reducible assumption
    | with_reducible refine fol_fst (by assumption) ?_
    | intro _
    | with_reducible refine updRegs_fol ‹_› rfl ?_
    | with_reducible refine updRegs_fol ‹_› rfl ?_ (.inr fun _ _ => rfl)
    | with_reducible refine setForce_fol ‹_› ?_
    | with_reducible refine foldl_fol ?_ ?_
    | with_reducible refine foldl_fol1 ?_ ?_
    | split
    | dsimp only

theorem hostlessMark_fol {kc : Touch} {s0 s : State} {sf : Nat} (k_jr : kc.jr = true)
    (hfol : Follows kc s0 s) : Follows kc s0 (hostlessMark sf s) := by
  unfold hostlessMark
  repeat' first
    | with_reducible assumption
    | intro _
    | with_reducible refine ite_fol ?_ ?_
    | with_reducible refine updJr_fol ‹_› ?_
    | split
    | dsimp only

theorem roundAt_fol {kc : Touch} {s0 s : State} {pos : Nat × Nat} (k_regs : kc.regs = true) (k_gmp : kc.gmp = true) (k_scr : kc.scr = true) (k_sched : kc.sched = true)
    (hfol : Follows kc s0 s) : Follows kc s0 (roundAt pos s) := by
  unfold roundAt
  repeat' first
    | with_reducible assumption
    | intro _
    | with_reducible refine ite_fol ?_ ?_
    | with_reducible refine ite_fol1 ?_ ?_
    | with_reducible refine updScr_fol ‹_› ?_
    | with_reducible refine roundMark_fol ‹_› ‹_› ‹_› ‹_› ?_
    | split
    | dsimp only

theorem snapMark_fol {kc : Touch} {s0 s : State} (k_safe : kc.safe = true)
    (hfol : Follows kc s0 s) : Follows kc s0 (snapMark s) := by
  unfold snapMark
  repeat' first
    | with_reducible assumption
    | intro _
    | with_reducible refine updSafe_fol ‹_› ?_
    | split
    | dsimp only

theorem leasesMark_fol {kc : Touch} {s0 s : State} (k_regs : kc.regs = true) (k_gmp : kc.gmp = true) (k_safe : kc.safe = true) (k_evr : kc.evr = true)
    (hfol : Follows kc s0 s) : Follows kc s0 (leasesMark s) := by
  unfold leasesMark
  repeat' first
    | with_reducible assumption
    | intro _
    | with_reducible refine leaseCheck_fol ‹_› ‹_› ‹_› ‹_› ?_
    | with_reducible refine foldl_fol ?_ ?_
    | with_reducible refine foldl_fol1 ?_ ?_
    | split
    | dsimp only

theorem markApply_fol {kc : Touch} {s0 s : State} {prev : Nat} {sf : Nat} (k_jr : kc.jr = true) (k_regs : kc.regs = true) (k_gmp : kc.gmp = true) (k_safe : kc.safe = true) (k_fix : kc.fix = true) (k_scr : kc.scr = true) (k_memb : kc.memb = true) (k_sched : kc.sched = true) (k_loop : kc.loop = true) (k_evr : kc.evr = true) (k_mac : kc.mac = true) (k_lkp : kc.lkp = true)
    (hfol : Follows kc s0 s) : Follows kc s0 (markApply prev sf s) := by
  unfold markApply
  repeat' first
    | with_reducible assumption
    | intro _
    | with_reducible refine ageMark_fol ‹_› ‹_› ‹_› ‹_› ?_
    | with_reducible refine hostlessMark_fol ‹_› ?_
    | with_reducible refine leasesMark_fol ‹_› ‹_› ‹_› ‹_› ?_
    | with_reducible refine loopsMark_fol ‹_› ‹_› ‹_› ‹_› ‹_› ‹_› ?_
    | with_reducible refine membMark_fol ‹_› ‹_› ‹_› ‹_› ‹_› ‹_› ‹_› ‹_› ?_
    | with_reducible refine mirrorUpdate_fol ‹_› ?_
    | with_reducible refine planSwitch_fol ‹_› ‹_› ?_
    | with_reducible refine refMark_fol ‹_› ‹_› ‹_› ?_
    | with_reducible refine roundAt_fol ‹_› ‹_› ‹_› ‹_› ?_
    | with_reducible refine sfqApply_fol ‹_› ?_
    | with_reducible refine slotAdvance_fol ‹_› ‹_› ‹_› ‹_› ‹_› ?_
    | with_reducible refine snapMark_fol ‹_› ?_
    | with_reducible refine foldl_fol ?_ ?_
    | with_reducible refine foldl_fol1 ?_ ?_
    | split
    | dsimp only

theorem writeMark_fol {kc : Touch} {s0 s : State} {sf : Nat} (k_time : kc.time = true) (k_jr : kc.jr = true) (k_regs : kc.regs = true) (k_gmp : kc.gmp = true) (k_safe : kc.safe = true) (k_fix : kc.fix = true) (k_scr : kc.scr = true) (k_memb : kc.memb = true) (k_sched : kc.sched = true) (k_loop : kc.loop = true) (k_pair : kc.pair = true) (k_evr : kc.evr = true) (k_upd : kc.upd = true) (k_mac : kc.mac = true) (k_lkp : kc.lkp = true) (k_mark : kc.mark = true)
    (hfol : Follows kc s0 s) : Follows kc s0 (writeMark sf s) := by
  unfold writeMark
  repeat' first
    | with_reducible assumption
    | intro _
    | with_reducible refine ite_fol ?_ ?_
    | with_reducible refine updTime_fol ‹_› ?_
    | with_reducible refine updJr_fol ‹_› ?_
    | with_reducible refine updUpd_fol ‹_› ?_
    | with_reducible refine jWrite_fol ‹_› ‹_› ‹_› ‹_› ?_
    | with_reducible refine markApply_fol ‹_› ‹_› ‹_› ‹_› ‹_› ‹_› ‹_› ‹_› ‹_› ‹_› ‹_› ‹_› ?_
    | split
    | dsimp only

theorem writeHeld_fol {kc : Touch} {s0 s : State} {p : Payload} (k_jr : kc.jr = true) (k_regs : kc.regs = true) (k_gmp : kc.gmp = true) (k_safe : kc.safe = true) (k_fix : kc.fix = true) (k_scr : kc.scr = true) (k_memb : kc.memb = true) (k_sched : kc.sched = true) (k_loop : kc.loop = true) (k_pair : kc.pair = true) (k_evr : kc.evr = true)
    (hfol : Follows kc s0 s) : Follows kc s0 (writeHeld p s) := by
  unfold writeHeld
  repeat' first
    | with_reducible assumption
    | with_reducible refine fol_fst (by assumption) ?_
    | with_reducible refine bump_fol ‹_› ?_
    | with_reducible refine covEstop_fol ‹_› ?_
    | with_reducible refine covFault_fol ‹_› ?_
    | with_reducible refine covLoss_fol ‹_› ‹_› ‹_› ‹_› ‹_› ‹_› ‹_› ‹_› ‹_› ?_
    | with_reducible refine faultRecord_fol ‹_› ‹_› ?_
    | with_reducible refine jWrite_fol ‹_› ‹_› ‹_› ‹_› ?_
    | with_reducible refine lossRecord_fol ‹_› ‹_› ?_
    | split
    | dsimp only

theorem heldWrite_fol {kc : Touch} {s0 s : State} (k_jr : kc.jr = true) (k_regs : kc.regs = true) (k_gmp : kc.gmp = true) (k_safe : kc.safe = true) (k_fix : kc.fix = true) (k_scr : kc.scr = true) (k_memb : kc.memb = true) (k_sched : kc.sched = true) (k_loop : kc.loop = true) (k_pair : kc.pair = true) (k_evr : kc.evr = true)
    (hfol : Follows kc s0 s) : Follows kc s0 (heldWrite s) := by
  unfold heldWrite
  repeat' first
    | with_reducible assumption
    | intro _
    | with_reducible refine updJr_fol ‹_› ?_
    | with_reducible refine writeHeld_fol ‹_› ‹_› ‹_› ‹_› ‹_› ‹_› ‹_› ‹_› ‹_› ‹_› ‹_› ?_
    | with_reducible refine foldl_fol ?_ ?_
    | with_reducible refine foldl_fol1 ?_ ?_
    | split
    | dsimp only

theorem roleWrite_fol {kc : Touch} {s0 s : State} (k_jr : kc.jr = true) (k_regs : kc.regs = true) (k_gmp : kc.gmp = true) (k_pair : kc.pair = true)
    (hfol : Follows kc s0 s) : Follows kc s0 (roleWrite s) := by
  unfold roleWrite
  repeat' first
    | with_reducible assumption
    | with_reducible refine fol_fst (by assumption) ?_
    | intro _
    | with_reducible refine updPair_fol ‹_› ?_
    | with_reducible refine jWrite_fol ‹_› ‹_› ‹_› ‹_› ?_
    | split
    | dsimp only

theorem notifyFlush_fol {kc : Touch} {s0 s : State} (k_regs : kc.regs = true) (k_gmp : kc.gmp = true) (k_sess : kc.sess = true)
    (hfol : Follows kc s0 s) : Follows kc s0 (notifyFlush s) := by
  unfold notifyFlush
  repeat' first
    | with_reducible assumption
    | intro _
    | with_reducible refine ite_fol ?_ ?_
    | with_reducible refine ite_fol1 ?_ ?_
    | with_reducible refine updGmp_fol ‹_› ?_
    | with_reducible refine bumpF_fol ‹_› ?_
    | with_reducible refine emit_fol ?_
    | with_reducible refine foldl_fol ?_ ?_
    | with_reducible refine foldl_fol1 ?_ ?_
    | split
    | dsimp only

theorem digestSend_fol {kc : Touch} {s0 s : State} (k_pair : kc.pair = true)
    (hfol : Follows kc s0 s) : Follows kc s0 (digestSend s) := by
  unfold digestSend
  repeat' first
    | with_reducible assumption
    | with_reducible refine ite_fol ?_ ?_
    | with_reducible refine sendLink_fol ‹_› ?_
    | split
    | dsimp only

theorem copyStart_fol {kc : Touch} {s0 s : State} (k_jr : kc.jr = true) (k_pair : kc.pair = true)
    (hfol : Follows kc s0 s) : Follows kc s0 (copyStart s) := by
  unfold copyStart
  repeat' first
    | with_reducible assumption
    | intro _
    | with_reducible refine ite_fol ?_ ?_
    | with_reducible refine updJr_fol ‹_› ?_
    | with_reducible refine updPair_fol ‹_› ?_
    | with_reducible refine updFree_fol (fun _ => by omega) ?_
    | with_reducible refine sendLink_fol ‹_› ?_
    | with_reducible refine emit_fol ?_
    | split
    | dsimp only

theorem afterMark_fol {kc : Touch} {s0 s : State} (k_jr : kc.jr = true) (k_regs : kc.regs = true) (k_gmp : kc.gmp = true) (k_safe : kc.safe = true) (k_fix : kc.fix = true) (k_scr : kc.scr = true) (k_memb : kc.memb = true) (k_sched : kc.sched = true) (k_loop : kc.loop = true) (k_pair : kc.pair = true) (k_evr : kc.evr = true) (k_nvm : kc.nvm = true) (k_mac : kc.mac = true) (k_lkp : kc.lkp = true) (k_gen : kc.gen = true) (k_sess : kc.sess = true)
    (hfol : Follows kc s0 s) : Follows kc s0 (afterMark s) := by
  unfold afterMark
  repeat' first
    | with_reducible assumption
    | with_reducible refine commitDue_fol ‹_› ‹_› ‹_› ‹_› ‹_› ‹_› ‹_› ‹_› ‹_› ‹_› ‹_› ‹_› ‹_› ‹_› ‹_› ?_
    | with_reducible refine copyStart_fol ‹_› ‹_› ?_
    | with_reducible refine digestSend_fol ‹_› ?_
    | with_reducible refine heldWrite_fol ‹_› ‹_› ‹_› ‹_› ‹_› ‹_› ‹_› ‹_› ‹_› ‹_› ‹_› ?_
    | with_reducible refine notifyFlush_fol ‹_› ‹_› ‹_› ?_
    | with_reducible refine roleWrite_fol ‹_› ‹_› ‹_› ‹_› ?_
    | split
    | dsimp only

theorem openSf_fol {kc : Touch} {s0 s : State} {sf : Nat} (k_time : kc.time = true) (k_jr : kc.jr = true) (k_regs : kc.regs = true) (k_gmp : kc.gmp = true) (k_safe : kc.safe = true) (k_fix : kc.fix = true) (k_scr : kc.scr = true) (k_memb : kc.memb = true) (k_sched : kc.sched = true) (k_loop : kc.loop = true) (k_pair : kc.pair = true) (k_evr : kc.evr = true) (k_nvm : kc.nvm = true) (k_upd : kc.upd = true) (k_mac : kc.mac = true) (k_lkp : kc.lkp = true) (k_mark : kc.mark = true) (k_gen : kc.gen = true) (k_sess : kc.sess = true)
    (hfol : Follows kc s0 s) : Follows kc s0 (openSf sf s) := by
  unfold openSf
  repeat' first
    | with_reducible assumption
    | with_reducible refine afterMark_fol ‹_› ‹_› ‹_› ‹_› ‹_› ‹_› ‹_› ‹_› ‹_› ‹_› ‹_› ‹_› ‹_› ‹_› ‹_› ‹_› ?_
    | with_reducible refine portsRise_fol ‹_› ?_
    | with_reducible refine writeMark_fol ‹_› ‹_› ‹_› ‹_› ‹_› ‹_› ‹_› ‹_› ‹_› ‹_› ‹_› ‹_› ‹_› ‹_› ‹_› ‹_› ?_
    | split
    | dsimp only

theorem catchUp_fol {kc : Touch} {s0 s : State} {n : Nat} (k_time : kc.time = true) (k_jr : kc.jr = true) (k_regs : kc.regs = true) (k_gmp : kc.gmp = true) (k_safe : kc.safe = true) (k_fix : kc.fix = true) (k_scr : kc.scr = true) (k_memb : kc.memb = true) (k_sched : kc.sched = true) (k_loop : kc.loop = true) (k_pair : kc.pair = true) (k_evr : kc.evr = true) (k_upd : kc.upd = true) (k_mac : kc.mac = true) (k_lkp : kc.lkp = true) (k_mark : kc.mark = true)
    (hfol : Follows kc s0 s) : Follows kc s0 (catchUp n s) := by
  induction n generalizing s with
  | zero => exact hfol
  | succ n ih =>
    unfold catchUp
    repeat' first
      | with_reducible assumption
      | with_reducible refine fol_fst (by assumption) ?_
      | with_reducible refine ih ?_
      | with_reducible refine writeMark_fol ‹_› ‹_› ‹_› ‹_› ‹_› ‹_› ‹_› ‹_› ‹_› ‹_› ‹_› ‹_› ‹_› ‹_› ‹_› ‹_› ?_
      | with_reducible refine updSafe_fol ‹_› ?_
      | split
      | dsimp only


theorem liveFollow_fol {kc : Touch} {s0 s : State} (k_safe : kc.safe = true) (k_grant : kc.grant = true)
    (hfol : Follows kc s0 s) : Follows kc s0 (liveFollow s) := by
  unfold liveFollow
  repeat' first
    | with_reducible assumption
    | intro _
    | with_reducible refine ite_fol ?_ ?_
    | with_reducible refine updSafe_fol ‹_› ?_
    | with_reducible refine dynEval_fol ‹_› ?_
    | refine updSafe_folG ‹_› ‹_› ?_ (fun _ l => if_pos l)
    | split
    | dsimp only

theorem takeToken_fol {kc : Touch} {s0 s : State} {code : Nat} (k_time : kc.time = true) (k_jr : kc.jr = true) (k_regs : kc.regs = true) (k_gmp : kc.gmp = true) (k_safe : kc.safe = true) (k_fix : kc.fix = true) (k_scr : kc.scr = true) (k_memb : kc.memb = true) (k_sched : kc.sched = true) (k_loop : kc.loop = true) (k_pair : kc.pair = true) (k_evr : kc.evr = true) (k_nvm : kc.nvm = true) (k_upd : kc.upd = true) (k_mac : kc.mac = true) (k_lkp : kc.lkp = true) (k_grant : kc.grant = true) (k_mark : kc.mark = true) (k_gen : kc.gen = true) (k_role : kc.role = true) (k_sess : kc.sess = true)
    (hfol : Follows kc s0 s) : Follows kc s0 (takeToken code s) := by
  unfold takeToken
  repeat' first
    | with_reducible assumption
    | intro _
    | with_reducible refine ite_fol ?_ ?_
    | with_reducible refine updJr_fol ‹_› ?_
    | with_reducible refine updSafe_fol ‹_› ?_
    | with_reducible refine updPair_fol ‹_› ?_
    | with_reducible refine updMac_fol ‹_› ?_
    | with_reducible refine catchUp_fol ‹_› ‹_› ‹_› ‹_› ‹_› ‹_› ‹_› ‹_› ‹_› ‹_› ‹_› ‹_› ‹_› ‹_› ‹_› ‹_› ?_
    | with_reducible refine commitDue_fol ‹_› ‹_› ‹_› ‹_› ‹_› ‹_› ‹_› ‹_› ‹_› ‹_› ‹_› ‹_› ‹_› ‹_› ‹_› ?_
    | with_reducible refine covEstop_fol ‹_› ?_
    | with_reducible refine liveFollow_fol ‹_› ‹_› ?_
    | with_reducible refine post_fol ‹_› ‹_› ‹_› ‹_› ?_ ?_
    | with_reducible refine roleWrite_fol ‹_› ‹_› ‹_› ‹_› ?_
    | with_reducible refine setRole_fol ‹_› ‹_› ‹_› ‹_› ‹_› ?_
    | split
    | dsimp only

theorem execTakeover_fol {kc : Touch} {s0 s : State} (k_time : kc.time = true) (k_jr : kc.jr = true) (k_regs : kc.regs = true) (k_gmp : kc.gmp = true) (k_safe : kc.safe = true) (k_fix : kc.fix = true) (k_scr : kc.scr = true) (k_memb : kc.memb = true) (k_sched : kc.sched = true) (k_loop : kc.loop = true) (k_pair : kc.pair = true) (k_evr : kc.evr = true) (k_key : kc.key = true) (k_pcr : kc.pcr = true) (k_nvm : kc.nvm = true) (k_upd : kc.upd = true) (k_mem : kc.mem = true) (k_hod : kc.hod = true) (k_snag : kc.snag = true) (k_mac : kc.mac = true) (k_lkp : kc.lkp = true) (k_grant : kc.grant = true) (k_mark : kc.mark = true) (k_gen : kc.gen = true) (k_role : kc.role = true) (k_sess : kc.sess = true)
    (hfol : Follows kc s0 s) : OutFollows kc s0 (execTakeover s) := by
  unfold execTakeover
  repeat' first
    | with_reducible assumption
    | with_reducible refine fol_fst (by assumption) ?_
    | with_reducible refine ite_folO ?_ ?_
    | with_reducible refine ite_fol ?_ ?_
    | with_reducible refine next_fol ?_
    | with_reducible refine advOp_fol ‹_› ?_
    | with_reducible refine alarm_fol ‹_› ?_
    | with_reducible refine bump_fol ‹_› ?_
    | with_reducible refine roleReset_fol ‹_› ‹_› ‹_› ‹_› ‹_› ‹_› ‹_› ‹_› ‹_› ‹_› ‹_› ‹_› ‹_› ‹_› ‹_› ‹_› ‹_› ‹_› ‹_› ‹_› ‹_› ‹_› ‹_› ‹_› ‹_› ?_
    | with_reducible refine takeToken_fol ‹_› ‹_› ‹_› ‹_› ‹_› ‹_› ‹_› ‹_› ‹_› ‹_› ‹_› ‹_› ‹_› ‹_› ‹_› ‹_› ‹_› ‹_› ‹_› ‹_› ‹_› ?_
    | split
    | dsimp only

theorem execRetakeWaitExpiry_fol {kc : Touch} {s0 s : State} (k_time : kc.time = true) (k_jr : kc.jr = true) (k_regs : kc.regs = true) (k_gmp : kc.gmp = true) (k_safe : kc.safe = true) (k_fix : kc.fix = true) (k_scr : kc.scr = true) (k_memb : kc.memb = true) (k_sched : kc.sched = true) (k_loop : kc.loop = true) (k_pair : kc.pair = true) (k_evr : kc.evr = true) (k_key : kc.key = true) (k_pcr : kc.pcr = true) (k_nvm : kc.nvm = true) (k_upd : kc.upd = true) (k_mem : kc.mem = true) (k_hod : kc.hod = true) (k_snag : kc.snag = true) (k_mac : kc.mac = true) (k_lkp : kc.lkp = true) (k_grant : kc.grant = true) (k_mark : kc.mark = true) (k_gen : kc.gen = true) (k_role : kc.role = true) (k_sess : kc.sess = true)
    (hfol : Follows kc s0 s) : OutFollows kc s0 (execRetakeWaitExpiry s) := by
  unfold execRetakeWaitExpiry
  repeat' first
    | with_reducible assumption
    | with_reducible refine ite_folO ?_ ?_
    | with_reducible refine ite_fol ?_ ?_
    | with_reducible refine next_fol ?_
    | with_reducible refine advOp_fol ‹_› ?_
    | with_reducible refine alarm_fol ‹_› ?_
    | with_reducible refine bump_fol ‹_› ?_
    | with_reducible refine roleReset_fol ‹_› ‹_› ‹_› ‹_› ‹_› ‹_› ‹_› ‹_› ‹_› ‹_› ‹_› ‹_› ‹_› ‹_› ‹_› ‹_› ‹_› ‹_› ‹_› ‹_› ‹_› ‹_› ‹_› ‹_› ‹_› ?_
    | with_reducible refine takeToken_fol ‹_› ‹_› ‹_› ‹_› ‹_› ‹_› ‹_› ‹_› ‹_› ‹_› ‹_› ‹_› ‹_› ‹_› ‹_› ‹_› ‹_› ‹_› ‹_› ‹_› ‹_› ?_
    | split
    | dsimp only

theorem handoverClose_fol {kc : Touch} {s0 s : State} (k_jr : kc.jr = true) (k_regs : kc.regs = true) (k_gmp : kc.gmp = true) (k_safe : kc.safe = true) (k_pair : kc.pair = true) (k_evr : kc.evr = true) (k_role : kc.role = true)
    (hfol : Follows kc s0 s) : Follows kc s0 (handoverClose s) := by
  unfold handoverClose
  repeat' first
    | with_reducible assumption
    | intro _
    | with_reducible refine updPair_fol ‹_› ?_
    | with_reducible refine bump_fol ‹_› ?_
    | with_reducible refine jWrite_fol ‹_› ‹_› ‹_› ‹_› ?_
    | with_reducible refine sendLink_fol ‹_› ?_
    | with_reducible refine setRole_fol ‹_› ‹_› ‹_› ‹_› ‹_› ?_
    | split
    | dsimp only

theorem execSfMark_fol {kc : Touch} {s0 s : State} (k_time : kc.time = true) (k_jr : kc.jr = true) (k_regs : kc.regs = true) (k_gmp : kc.gmp = true) (k_safe : kc.safe = true) (k_fix : kc.fix = true) (k_scr : kc.scr = true) (k_memb : kc.memb = true) (k_sched : kc.sched = true) (k_loop : kc.loop = true) (k_pair : kc.pair = true) (k_evr : kc.evr = true) (k_nvm : kc.nvm = true) (k_upd : kc.upd = true) (k_mac : kc.mac = true) (k_lkp : kc.lkp = true) (k_mark : kc.mark = true) (k_gen : kc.gen = true) (k_role : kc.role = true) (k_sess : kc.sess = true)
    (hfol : Follows kc s0 s) : OutFollows kc s0 (execSfMark s) := by
  unfold execSfMark
  repeat' first
    | with_reducible assumption
    | with_reducible refine ite_folO ?_ ?_
    | with_reducible refine ite_fol ?_ ?_
    | with_reducible refine next_fol ?_
    | with_reducible refine advTo_fol ‹_› ?_
    | with_reducible refine digestSend_fol ‹_› ?_
    | with_reducible refine handoverClose_fol ‹_› ‹_› ‹_› ‹_› ‹_› ‹_› ‹_› ?_
    | with_reducible refine notifyFlush_fol ‹_› ‹_› ‹_› ?_
    | with_reducible refine openSf_fol ‹_› ‹_› ‹_› ‹_› ‹_› ‹_› ‹_› ‹_› ‹_› ‹_› ‹_› ‹_› ‹_› ‹_› ‹_› ‹_› ‹_› ‹_› ‹_› ?_
    | with_reducible refine portsRise_fol ‹_› ?_
    | split
    | dsimp only

theorem execTimeHoldEnd_fol {kc : Touch} {s0 s : State} (k_time : kc.time = true) (k_jr : kc.jr = true) (k_regs : kc.regs = true) (k_gmp : kc.gmp = true) (k_safe : kc.safe = true) (k_fix : kc.fix = true) (k_scr : kc.scr = true) (k_memb : kc.memb = true) (k_sched : kc.sched = true) (k_loop : kc.loop = true) (k_pair : kc.pair = true) (k_evr : kc.evr = true) (k_nvm : kc.nvm = true) (k_upd : kc.upd = true) (k_mac : kc.mac = true) (k_lkp : kc.lkp = true) (k_mark : kc.mark = true) (k_gen : kc.gen = true) (k_sess : kc.sess = true)
    (hfol : Follows kc s0 s) : OutFollows kc s0 (execTimeHoldEnd s) := by
  unfold execTimeHoldEnd
  repeat' first
    | with_reducible assumption
    | with_reducible refine fol_fst (by assumption) ?_
    | intro _
    | with_reducible refine ite_folO ?_ ?_
    | with_reducible refine ite_fol ?_ ?_
    | with_reducible refine next_fol ?_
    | with_reducible refine updTime_fol ‹_› ?_
    | with_reducible refine advTo_fol ‹_› ?_
    | with_reducible refine openSf_fol ‹_› ‹_› ‹_› ‹_› ‹_› ‹_› ‹_› ‹_› ‹_› ‹_› ‹_› ‹_› ‹_› ‹_› ‹_› ‹_› ‹_› ‹_› ‹_› ?_
    | with_reducible refine portsRise_fol ‹_› ?_
    | split
    | dsimp only

theorem execJournalStart_fol {kc : Touch} {s0 s : State} (k_time : kc.time = true) (k_jr : kc.jr = true) (k_regs : kc.regs = true) (k_gmp : kc.gmp = true) (k_safe : kc.safe = true) (k_fix : kc.fix = true) (k_scr : kc.scr = true) (k_memb : kc.memb = true) (k_sched : kc.sched = true) (k_loop : kc.loop = true) (k_pair : kc.pair = true) (k_evr : kc.evr = true) (k_nvm : kc.nvm = true) (k_upd : kc.upd = true) (k_mac : kc.mac = true) (k_lkp : kc.lkp = true) (k_mark : kc.mark = true) (k_gen : kc.gen = true) (k_sess : kc.sess = true)
    (hfol : Follows kc s0 s) : OutFollows kc s0 (execJournalStart s) := by
  unfold execJournalStart
  repeat' first
    | with_reducible assumption
    | intro _
    | with_reducible refine ite_folO ?_ ?_
    | with_reducible refine ite_fol ?_ ?_
    | with_reducible refine next_fol ?_
    | with_reducible refine updJr_fol ‹_› ?_
    | with_reducible refine updSafe_fol ‹_› ?_
    | with_reducible refine updFix_fol ‹_› ?_
    | with_reducible refine updPair_fol ‹_› ?_
    | with_reducible refine updMac_fol ‹_› ?_
    | with_reducible refine advTo_fol ‹_› ?_
    | with_reducible refine afterMark_fol ‹_› ‹_› ‹_› ‹_› ‹_› ‹_› ‹_› ‹_› ‹_› ‹_› ‹_› ‹_› ‹_› ‹_› ‹_› ‹_› ?_
    | with_reducible refine evTrig_fol ‹_› ‹_› ?_
    | with_reducible refine portsRise_fol ‹_› ?_
    | with_reducible refine writeMark_fol ‹_› ‹_› ‹_› ‹_› ‹_› ‹_› ‹_› ‹_› ‹_› ‹_› ‹_› ‹_› ‹_› ‹_› ‹_› ‹_› ?_
    | split
    | dsimp only

end Sys2Proof.Machine
end

