-- ==== Sys2Proof/Laws/FolMem.lean ====
section
/-!
SUPPORT. What the operations of Machine/Mem.lean may change: one lemma each.
-/

set_option Elab.async false

namespace Sys2Proof.Machine

open Sys2Proof

theorem modBank_fol {kc : Touch} {s0 s : State} {b : Nat} {f : Bank → Bank} (k_mem : kc.mem = true)
    (hfol : Follows kc s0 s) : Follows kc s0 (modBank b f s) := by
  unfold modBank
  repeat' first
    | with_reducible assumption
    | intro _
    | with_reducible refine updMem_fol ‹_› ?_
    | split
    | dsimp only

theorem spareAlarm_fol {kc : Touch} {s0 s : State} {b : Nat} {was : Nat} (k_regs : kc.regs = true) (k_evr : kc.evr = true)
    (hfol : Follows kc s0 s) : Follows kc s0 (spareAlarm b was s) := by
  unfold spareAlarm
  repeat' first
    | with_reducible assumption
    | with_reducible refine ite_fol ?_ ?_
    | with_reducible refine alarm_fol ‹_› ?_
    | with_reducible refine evTrig_fol ‹_› ‹_› ?_
    | split
    | dsimp only

theorem remapTile_fol {kc : Touch} {s0 s : State} {b : Nat} {l : Nat} (k_regs : kc.regs = true) (k_evr : kc.evr = true) (k_mem : kc.mem = true)
    (hfol : Follows kc s0 s) : Follows kc s0 (remapTile b l s) := by
  unfold remapTile
  repeat' first
    | with_reducible assumption
    | with_reducible refine fol_fst (by assumption) ?_
    | intro _
    | with_reducible refine alarm_fol ‹_› ?_
    | with_reducible refine evTrig_fol ‹_› ‹_› ?_
    | with_reducible refine modBank_fol ‹_› ?_
    | with_reducible refine spareAlarm_fol ‹_› ‹_› ?_
    | split
    | dsimp only

theorem lastErr_fol {kc : Touch} {s0 s : State} {t : TileFail} {outcome : Nat} (k_mem : kc.mem = true)
    (hfol : Follows kc s0 s) : Follows kc s0 (lastErr t outcome s) := by
  unfold lastErr
  repeat' first
    | with_reducible assumption
    | intro _
    | with_reducible refine updMem_fol ‹_› ?_
    | split
    | dsimp only

theorem critLost_fol {kc : Touch} {s0 s : State} {t : TileFail} (k_time : kc.time = true) (k_jr : kc.jr = true) (k_regs : kc.regs = true) (k_gmp : kc.gmp = true) (k_safe : kc.safe = true) (k_fix : kc.fix = true) (k_scr : kc.scr = true) (k_memb : kc.memb = true) (k_sched : kc.sched = true) (k_loop : kc.loop = true) (k_pair : kc.pair = true) (k_evr : kc.evr = true) (k_key : kc.key = true) (k_pcr : kc.pcr = true) (k_nvm : kc.nvm = true) (k_upd : kc.upd = true) (k_mem : kc.mem = true) (k_hod : kc.hod = true) (k_snag : kc.snag = true) (k_mac : kc.mac = true) (k_lkp : kc.lkp = true) (k_mark : kc.mark = true) (k_gen : kc.gen = true) (k_role : kc.role = true) (k_sess : kc.sess = true)
    (hfol : Follows kc s0 s) : Follows kc s0 (critLost t s) := by
  unfold critLost
  repeat' first
    | with_reducible assumption
    | with_reducible refine ite_fol ?_ ?_
    | with_reducible refine deviceReset_fol ‹_› ‹_› ‹_› ‹_› ‹_› ‹_› ‹_› ‹_› ‹_› ‹_› ‹_› ‹_› ‹_› ‹_› ‹_› ‹_› ‹_› ‹_› ‹_› ‹_› ‹_› ‹_› ‹_› ‹_› ‹_› ?_
    | with_reducible refine postFault_fol ‹_› ‹_› ‹_› ‹_› ‹_› ‹_› ?_
    | split
    | dsimp only

theorem entriesLost_fol {kc : Touch} {s0 s : State} {l : List (Nat × Nat)} (k_jr : kc.jr = true) (k_regs : kc.regs = true) (k_gmp : kc.gmp = true)
    (hfol : Follows kc s0 s) : Follows kc s0 (entriesLost l s) := by
  unfold entriesLost
  split
  · refine updGmp_folS ‹_› (alarm_fol ‹_› (updJr_fol ‹_› hfol)) (.inr ⟨sessMap_like _ (fun e => ?_) _, rfl⟩)
    split
    · split
      · exact ⟨rfl, packItem_core _ _ _⟩
      · exact ⟨rfl, rfl⟩
    · exact ⟨rfl, rfl⟩
  · exact hfol


theorem regionRule_fol {kc : Touch} {s0 s : State} {t : TileFail} (k_jr : kc.jr = true) (k_regs : kc.regs = true) (k_gmp : kc.gmp = true) (k_safe : kc.safe = true) (k_fix : kc.fix = true) (k_scr : kc.scr = true) (k_memb : kc.memb = true) (k_sched : kc.sched = true) (k_loop : kc.loop = true) (k_pair : kc.pair = true) (k_evr : kc.evr = true)
    (hfol : Follows kc s0 s) : Follows kc s0 (regionRule t s) := by
  unfold regionRule
  repeat' first
    | with_reducible assumption
    | with_reducible refine ite_fol ?_ ?_
    | with_reducible refine entriesLost_fol ‹_› ‹_› ‹_› ?_
    | with_reducible refine roverSlotLost_fol ‹_› ‹_› ‹_› ‹_› ‹_› ‹_› ‹_› ‹_› ‹_› ‹_› ‹_› ?_
    | with_reducible refine stateLost_fol ‹_› ‹_› ‹_› ‹_› ‹_› ‹_› ‹_› ‹_› ‹_› ‹_› ‹_› ?_
    | split
    | dsimp only

theorem poisonTile_fol {kc : Touch} {s0 s : State} {t : TileFail} (k_regs : kc.regs = true) (k_evr : kc.evr = true) (k_mem : kc.mem = true)
    (hfol : Follows kc s0 s) : Follows kc s0 (poisonTile t s) := by
  unfold poisonTile
  repeat' first
    | with_reducible assumption
    | intro _
    | with_reducible refine ite_fol ?_ ?_
    | with_reducible refine bump_fol ‹_› ?_
    | with_reducible refine evTrig_fol ‹_› ‹_› ?_
    | with_reducible refine lastErr_fol ‹_› ?_
    | with_reducible refine modBank_fol ‹_› ?_
    | with_reducible refine remapTile_fol ‹_› ‹_› ‹_› ?_
    | split
    | dsimp only

theorem tileFail_fol {kc : Touch} {s0 s : State} {t : TileFail} (k_time : kc.time = true) (k_jr : kc.jr = true) (k_regs : kc.regs = true) (k_gmp : kc.gmp = true) (k_safe : kc.safe = true) (k_fix : kc.fix = true) (k_scr : kc.scr = true) (k_memb : kc.memb = true) (k_sched : kc.sched = true) (k_loop : kc.loop = true) (k_pair : kc.pair = true) (k_evr : kc.evr = true) (k_key : kc.key = true) (k_pcr : kc.pcr = true) (k_nvm : kc.nvm = true) (k_upd : kc.upd = true) (k_mem : kc.mem = true) (k_hod : kc.hod = true) (k_snag : kc.snag = true) (k_mac : kc.mac = true) (k_lkp : kc.lkp = true) (k_mark : kc.mark = true) (k_gen : kc.gen = true) (k_role : kc.role = true) (k_sess : kc.sess = true)
    (hfol : Follows kc s0 s) : Follows kc s0 (tileFail t s).1 := by
  unfold tileFail
  repeat' first
    | with_reducible assumption
    | with_reducible refine ite_fol1 ?_ ?_
    | with_reducible refine ite_fol ?_ ?_
    | with_reducible refine bump_fol ‹_› ?_
    | with_reducible refine bumpF_fol ‹_› ?_
    | with_reducible refine critLost_fol ‹_› ‹_› ‹_› ‹_› ‹_› ‹_› ‹_› ‹_› ‹_› ‹_› ‹_› ‹_› ‹_› ‹_› ‹_› ‹_› ‹_› ‹_› ‹_› ‹_› ‹_› ‹_› ‹_› ‹_› ‹_› ?_
    | with_reducible refine lastErr_fol ‹_› ?_
    | with_reducible refine poisonTile_fol ‹_› ‹_› ‹_› ?_
    | with_reducible refine remapTile_fol ‹_› ‹_› ‹_› ?_
    | split
    | dsimp only

theorem poisonClear_fol {kc : Touch} {s0 s : State} {b : Nat} {l : Nat} (k_mem : kc.mem = true)
    (hfol : Follows kc s0 s) : Follows kc s0 (poisonClear b l s) := by
  unfold poisonClear
  repeat' first
    | with_reducible assumption
    | intro _
    | with_reducible refine modBank_fol ‹_› ?_
    | split
    | dsimp only

theorem tileAccess_fol {kc : Touch} {s0 s : State} {t : TileFail} (k_time : kc.time = true) (k_jr : kc.jr = true) (k_regs : kc.regs = true) (k_gmp : kc.gmp = true) (k_safe : kc.safe = true) (k_fix : kc.fix = true) (k_scr : kc.scr = true) (k_memb : kc.memb = true) (k_sched : kc.sched = true) (k_loop : kc.loop = true) (k_pair : kc.pair = true) (k_evr : kc.evr = true) (k_key : kc.key = true) (k_pcr : kc.pcr = true) (k_nvm : kc.nvm = true) (k_upd : kc.upd = true) (k_mem : kc.mem = true) (k_hod : kc.hod = true) (k_snag : kc.snag = true) (k_mac : kc.mac = true) (k_lkp : kc.lkp = true) (k_mark : kc.mark = true) (k_gen : kc.gen = true) (k_role : kc.role = true) (k_sess : kc.sess = true)
    (hfol : Follows kc s0 s) : Follows kc s0 (tileAccess t s).1 := by
  unfold tileAccess
  repeat' first
    | with_reducible assumption
    | with_reducible refine ite_fol1 ?_ ?_
    | with_reducible refine ite_fol ?_ ?_
    | with_reducible refine poisonClear_fol ‹_› ?_
    | with_reducible refine regionRule_fol ‹_› ‹_› ‹_› ‹_› ‹_› ‹_› ‹_› ‹_› ‹_› ‹_› ‹_› ?_
    | with_reducible refine tileFail_fol ‹_› ‹_› ‹_› ‹_› ‹_› ‹_› ‹_› ‹_› ‹_› ‹_› ‹_› ‹_› ‹_› ‹_› ‹_› ‹_› ‹_› ‹_› ‹_› ‹_› ‹_› ‹_› ‹_› ‹_› ‹_› ?_
    | split
    | dsimp only

theorem execFixRecord_fol {kc : Touch} {s0 s : State} {m : Nat} {done : Nat} {nums : FixNums} {tile : Option TileFail} (k_time : kc.time = true) (k_jr : kc.jr = true) (k_regs : kc.regs = true) (k_gmp : kc.gmp = true) (k_safe : kc.safe = true) (k_fix : kc.fix = true) (k_scr : kc.scr = true) (k_memb : kc.memb = true) (k_sched : kc.sched = true) (k_loop : kc.loop = true) (k_pair : kc.pair = true) (k_evr : kc.evr = true) (k_key : kc.key = true) (k_pcr : kc.pcr = true) (k_nvm : kc.nvm = true) (k_upd : kc.upd = true) (k_mem : kc.mem = true) (k_hod : kc.hod = true) (k_snag : kc.snag = true) (k_mac : kc.mac = true) (k_lkp : kc.lkp = true) (k_mark : kc.mark = true) (k_gen : kc.gen = true) (k_role : kc.role = true) (k_sess : kc.sess = true)
    (hfol : Follows kc s0 s) : OutFollows kc s0 (execFixRecord m done nums tile s) := by
  unfold execFixRecord
  repeat' first
    | with_reducible assumption
    | with_reducible refine fol_fst (by assumption) ?_
    | with_reducible refine ite_folO ?_ ?_
    | with_reducible refine ite_fol ?_ ?_
    | with_reducible refine next_fol ?_
    | with_reducible refine advTo_fol ‹_› ?_
    | with_reducible refine fixJobDone_fol ‹_› ‹_› ‹_› ‹_› ‹_› ‹_› ‹_› ‹_› ?_
    | with_reducible refine tileAccess_fol ‹_› ‹_› ‹_› ‹_› ‹_› ‹_› ‹_› ‹_› ‹_› ‹_› ‹_› ‹_› ‹_› ‹_› ‹_› ‹_› ‹_› ‹_› ‹_› ‹_› ‹_› ‹_› ‹_› ‹_› ‹_› ?_
    | split
    | dsimp only

theorem execStripEnd_fol {kc : Touch} {s0 s : State} {us : Nat} (k_pcr : kc.pcr = true) (k_mem : kc.mem = true) (k_hod : kc.hod = true)
    (hfol : Follows kc s0 s) : OutFollows kc s0 (execStripEnd us s) := by
  unfold execStripEnd
  repeat' first
    | with_reducible assumption
    | intro _
    | with_reducible refine ite_folO ?_ ?_
    | with_reducible refine ite_fol ?_ ?_
    | with_reducible refine next_fol ?_
    | with_reducible refine updPcr_fol ‹_› ?_
    | with_reducible refine updMem_fol ‹_› ?_
    | with_reducible refine updHod_fol ‹_› ?_
    | split
    | dsimp only

theorem execStripOverrun_fol {kc : Touch} {s0 s : State} (k_time : kc.time = true) (k_jr : kc.jr = true) (k_regs : kc.regs = true) (k_gmp : kc.gmp = true) (k_safe : kc.safe = true) (k_fix : kc.fix = true) (k_scr : kc.scr = true) (k_memb : kc.memb = true) (k_sched : kc.sched = true) (k_loop : kc.loop = true) (k_pair : kc.pair = true) (k_evr : kc.evr = true) (k_key : kc.key = true) (k_pcr : kc.pcr = true) (k_nvm : kc.nvm = true) (k_upd : kc.upd = true) (k_mem : kc.mem = true) (k_hod : kc.hod = true) (k_snag : kc.snag = true) (k_mac : kc.mac = true) (k_lkp : kc.lkp = true) (k_mark : kc.mark = true) (k_gen : kc.gen = true) (k_role : kc.role = true) (k_sess : kc.sess = true)
    (hfol : Follows kc s0 s) : OutFollows kc s0 (execStripOverrun s) := by
  unfold execStripOverrun
  repeat' first
    | with_reducible assumption
    | with_reducible refine ite_folO ?_ ?_
    | with_reducible refine ite_fol ?_ ?_
    | with_reducible refine next_fol ?_
    | with_reducible refine deviceReset_fol ‹_› ‹_› ‹_› ‹_› ‹_› ‹_› ‹_› ‹_› ‹_› ‹_› ‹_› ‹_› ‹_› ‹_› ‹_› ‹_› ‹_› ‹_› ‹_› ‹_› ‹_› ‹_› ‹_› ‹_› ‹_› ?_
    | split
    | dsimp only

end Sys2Proof.Machine
end

