-- ==== Sys2Proof/Laws/FolSnag.lean ====
section
/-!
SUPPORT. What the operations of Machine/Snag.lean may change: one lemma each.
-/

set_option Elab.async false

namespace Sys2Proof.Machine

open Sys2Proof

theorem visit_fol {kc : Touch} {s0 s : State} {k : Nat} (k_snag : kc.snag = true)
    (hfol : Follows kc s0 s) : Follows kc s0 (visit k s) := by
  unfold visit
  repeat' first
    | with_reducible assumption
    | intro _
    | with_reducible refine ite_fol ?_ ?_
    | with_reducible refine updSnag_fol ‹_› ?_
    | split
    | dsimp only

theorem tested_fol {kc : Touch} {s0 s : State} {k : Nat} (k_snag : kc.snag = true)
    (hfol : Follows kc s0 s) : Follows kc s0 (tested k s) := by
  unfold tested
  repeat' first
    | with_reducible assumption
    | intro _
    | with_reducible refine updSnag_fol ‹_› ?_
    | split
    | dsimp only

theorem laneFail_fol {kc : Touch} {s0 s : State} {e : Nat} {lane : Nat} (k_jr : kc.jr = true) (k_regs : kc.regs = true) (k_gmp : kc.gmp = true) (k_safe : kc.safe = true) (k_sched : kc.sched = true) (k_pair : kc.pair = true) (k_evr : kc.evr = true) (k_pcr : kc.pcr = true) (k_snag : kc.snag = true)
    (hfol : Follows kc s0 s) : Follows kc s0 (laneFail e lane s) := by
  unfold laneFail
  repeat' first
    | with_reducible assumption
    | intro _
    | with_reducible refine ite_fol ?_ ?_
    | with_reducible refine updSnag_fol ‹_› ?_
    | with_reducible refine fenceEng_fol ‹_› ‹_› ‹_› ‹_› ‹_› ‹_› ‹_› ‹_› ‹_› ?_
    | with_reducible refine modEng_fol ‹_› ?_
    | with_reducible refine repair_fol ‹_› ‹_› ?_
    | with_reducible refine snagCnt_fol ‹_› ?_
    | split
    | dsimp only

theorem marchEnd_fol {kc : Touch} {s0 s : State} {b : Nat} {p : Nat} {pass : Bool} (k_regs : kc.regs = true) (k_evr : kc.evr = true) (k_mem : kc.mem = true)
    (hfol : Follows kc s0 s) : Follows kc s0 (marchEnd b p pass s) := by
  unfold marchEnd
  repeat' first
    | with_reducible assumption
    | intro _
    | with_reducible refine ite_fol ?_ ?_
    | with_reducible refine bump_fol ‹_› ?_
    | with_reducible refine modBank_fol ‹_› ?_
    | with_reducible refine repair_fol ‹_› ‹_› ?_
    | with_reducible refine snagCnt_fol ‹_› ?_
    | with_reducible refine spareAlarm_fol ‹_› ‹_› ?_
    | split
    | dsimp only

theorem migrate_fol {kc : Touch} {s0 s : State} {b : Nat} {l : Nat} {p : Nat} (k_regs : kc.regs = true) (k_evr : kc.evr = true) (k_mem : kc.mem = true)
    (hfol : Follows kc s0 s) : Follows kc s0 (migrate b l p s) := by
  unfold migrate
  repeat' first
    | with_reducible assumption
    | with_reducible refine fol_fst (by assumption) ?_
    | intro _
    | with_reducible refine modBank_fol ‹_› ?_
    | with_reducible refine spareAlarm_fol ‹_› ‹_› ?_
    | split
    | dsimp only

theorem tileTest_fol {kc : Touch} {s0 s : State} {x : SnagTest} (k_time : kc.time = true) (k_jr : kc.jr = true) (k_regs : kc.regs = true) (k_gmp : kc.gmp = true) (k_safe : kc.safe = true) (k_fix : kc.fix = true) (k_scr : kc.scr = true) (k_memb : kc.memb = true) (k_sched : kc.sched = true) (k_loop : kc.loop = true) (k_pair : kc.pair = true) (k_evr : kc.evr = true) (k_key : kc.key = true) (k_pcr : kc.pcr = true) (k_nvm : kc.nvm = true) (k_upd : kc.upd = true) (k_mem : kc.mem = true) (k_hod : kc.hod = true) (k_snag : kc.snag = true) (k_mac : kc.mac = true) (k_lkp : kc.lkp = true) (k_mark : kc.mark = true) (k_gen : kc.gen = true) (k_role : kc.role = true) (k_sess : kc.sess = true)
    (hfol : Follows kc s0 s) : Follows kc s0 (tileTest x s).1 := by
  unfold tileTest
  repeat' first
    | with_reducible assumption
    | with_reducible refine fol_fst (by assumption) ?_
    | with_reducible refine ite_fol1 ?_ ?_
    | with_reducible refine ite_fol ?_ ?_
    | with_reducible refine marchEnd_fol ‹_› ‹_› ‹_› ?_
    | with_reducible refine migrate_fol ‹_› ‹_› ‹_› ?_
    | with_reducible refine snagCnt_fol ‹_› ?_
    | with_reducible refine tileAccess_fol ‹_› ‹_› ‹_› ‹_› ‹_› ‹_› ‹_› ‹_› ‹_› ‹_› ‹_› ‹_› ‹_› ‹_› ‹_› ‹_› ‹_› ‹_› ‹_› ‹_› ‹_› ‹_› ‹_› ‹_› ‹_› ?_
    | split
    | dsimp only

theorem checkerFail_fol {kc : Touch} {s0 s : State} {es : List Nat} {unit : Nat} {item : Nat} (k_jr : kc.jr = true) (k_regs : kc.regs = true) (k_gmp : kc.gmp = true) (k_safe : kc.safe = true) (k_sched : kc.sched = true) (k_pair : kc.pair = true) (k_evr : kc.evr = true) (k_pcr : kc.pcr = true) (k_snag : kc.snag = true)
    (hfol : Follows kc s0 s) : Follows kc s0 (checkerFail es unit item s) := by
  unfold checkerFail
  repeat' first
    | with_reducible assumption
    | intro _
    | with_reducible refine fenceEng_fol ‹_› ‹_› ‹_› ‹_› ‹_› ‹_› ‹_› ‹_› ‹_› ?_
    | with_reducible refine repair_fol ‹_› ‹_› ?_
    | with_reducible refine snagCnt_fol ‹_› ?_
    | with_reducible refine foldl_fol ?_ ?_
    | with_reducible refine foldl_fol1 ?_ ?_
    | split
    | dsimp only

theorem testFail_fol {kc : Touch} {s0 s : State} {x : SnagTest} (k_jr : kc.jr = true) (k_regs : kc.regs = true) (k_gmp : kc.gmp = true) (k_safe : kc.safe = true) (k_sched : kc.sched = true) (k_pair : kc.pair = true) (k_evr : kc.evr = true) (k_pcr : kc.pcr = true) (k_snag : kc.snag = true)
    (hfol : Follows kc s0 s) : Follows kc s0 (testFail x s) := by
  unfold testFail
  repeat' first
    | with_reducible assumption
    | with_reducible refine ite_fol ?_ ?_
    | with_reducible refine checkerFail_fol ‹_› ‹_› ‹_› ‹_› ‹_› ‹_› ‹_› ‹_› ‹_› ?_
    | with_reducible refine fenceEng_fol ‹_› ‹_› ‹_› ‹_› ‹_› ‹_› ‹_› ‹_› ‹_› ?_
    | with_reducible refine laneFail_fol ‹_› ‹_› ‹_› ‹_› ‹_› ‹_› ‹_› ‹_› ‹_› ?_
    | with_reducible refine postFault_fol ‹_› ‹_› ‹_› ‹_› ‹_› ‹_› ?_
    | with_reducible refine repair_fol ‹_› ‹_› ?_
    | with_reducible refine snagCnt_fol ‹_› ?_
    | split
    | dsimp only

theorem execSnagTest_fol {kc : Touch} {s0 s : State} {x : SnagTest} (k_time : kc.time = true) (k_jr : kc.jr = true) (k_regs : kc.regs = true) (k_gmp : kc.gmp = true) (k_safe : kc.safe = true) (k_fix : kc.fix = true) (k_scr : kc.scr = true) (k_memb : kc.memb = true) (k_sched : kc.sched = true) (k_loop : kc.loop = true) (k_pair : kc.pair = true) (k_evr : kc.evr = true) (k_key : kc.key = true) (k_pcr : kc.pcr = true) (k_nvm : kc.nvm = true) (k_upd : kc.upd = true) (k_mem : kc.mem = true) (k_hod : kc.hod = true) (k_snag : kc.snag = true) (k_mac : kc.mac = true) (k_lkp : kc.lkp = true) (k_mark : kc.mark = true) (k_gen : kc.gen = true) (k_role : kc.role = true) (k_sess : kc.sess = true)
    (hfol : Follows kc s0 s) : OutFollows kc s0 (execSnagTest x s) := by
  unfold execSnagTest
  repeat' first
    | with_reducible assumption
    | with_reducible refine ite_folO ?_ ?_
    | with_reducible refine ite_fol ?_ ?_
    | with_reducible refine next_fol ?_
    | with_reducible refine testFail_fol ‹_› ‹_› ‹_› ‹_› ‹_› ‹_› ‹_› ‹_› ‹_› ?_
    | with_reducible refine tested_fol ‹_› ?_
    | with_reducible refine tileTest_fol ‹_› ‹_› ‹_› ‹_› ‹_› ‹_› ‹_› ‹_› ‹_› ‹_› ‹_› ‹_› ‹_› ‹_› ‹_› ‹_› ‹_› ‹_› ‹_› ‹_› ‹_› ‹_› ‹_› ‹_› ‹_› ?_
    | with_reducible refine visit_fol ‹_› ?_
    | split
    | dsimp only

theorem execCoverMiss_fol {kc : Touch} {s0 s : State} {c : Nat} {u : Nat} {i : Nat} (k_regs : kc.regs = true) (k_evr : kc.evr = true)
    (hfol : Follows kc s0 s) : OutFollows kc s0 (execCoverMiss c u i s) := by
  unfold execCoverMiss
  repeat' first
    | with_reducible assumption
    | with_reducible refine ite_folO ?_ ?_
    | with_reducible refine ite_fol ?_ ?_
    | with_reducible refine next_fol ?_
    | with_reducible refine alarm_fol ‹_› ?_
    | with_reducible refine repair_fol ‹_› ‹_› ?_
    | with_reducible refine snagCnt_fol ‹_› ?_
    | split
    | dsimp only

theorem execSafeSelfCheck_fol {kc : Touch} {s0 s : State} {ok : Bool} (k_jr : kc.jr = true) (k_regs : kc.regs = true) (k_gmp : kc.gmp = true) (k_safe : kc.safe = true) (k_pair : kc.pair = true) (k_evr : kc.evr = true) (k_snag : kc.snag = true)
    (hfol : Follows kc s0 s) : OutFollows kc s0 (execSafeSelfCheck ok s) := by
  unfold execSafeSelfCheck
  repeat' first
    | with_reducible assumption
    | with_reducible refine ite_folO ?_ ?_
    | with_reducible refine ite_fol ?_ ?_
    | with_reducible refine next_fol ?_
    | with_reducible refine faultRaise_fol ‹_› ‹_› ‹_› ‹_› ‹_› ‹_› ?_
    | with_reducible refine tested_fol ‹_› ?_
    | split
    | dsimp only

theorem restartOp_fol {kc : Touch} {s0 s : State} {b : Nat} (k_regs : kc.regs = true) (k_safe : kc.safe = true) (k_sched : kc.sched = true) (k_pair : kc.pair = true) (k_evr : kc.evr = true) (k_pcr : kc.pcr = true) (k_snag : kc.snag = true)
    (hfol : Follows kc s0 s) : Follows kc s0 (restartOp b s).1 := by
  unfold restartOp
  repeat' first
    | with_reducible assumption
    | with_reducible refine ite_fol1 ?_ ?_
    | with_reducible refine ite_fol ?_ ?_
    | with_reducible refine startRestart_fol ‹_› ‹_› ‹_› ‹_› ‹_› ‹_› ‹_› ?_
    | split
    | dsimp only

theorem fenceOp_fol {kc : Touch} {s0 s : State} {e : Nat} (k_jr : kc.jr = true) (k_regs : kc.regs = true) (k_gmp : kc.gmp = true) (k_safe : kc.safe = true) (k_sched : kc.sched = true) (k_pair : kc.pair = true) (k_evr : kc.evr = true) (k_pcr : kc.pcr = true) (k_snag : kc.snag = true)
    (hfol : Follows kc s0 s) : Follows kc s0 (fenceOp e s).1 := by
  unfold fenceOp
  repeat' first
    | with_reducible assumption
    | intro _
    | with_reducible refine ite_fol1 ?_ ?_
    | with_reducible refine ite_fol ?_ ?_
    | with_reducible refine fenceEng_fol ‹_› ‹_› ‹_› ‹_› ‹_› ‹_› ‹_› ‹_› ‹_› ?_
    | split
    | dsimp only

theorem returnEng_fol {kc : Touch} {s0 s : State} {e : Nat} (k_jr : kc.jr = true) (k_regs : kc.regs = true) (k_gmp : kc.gmp = true) (k_safe : kc.safe = true) (k_sched : kc.sched = true) (k_pair : kc.pair = true) (k_evr : kc.evr = true)
    (hfol : Follows kc s0 s) : Follows kc s0 (returnEng e s) := by
  unfold returnEng
  repeat' first
    | with_reducible assumption
    | intro _
    | with_reducible refine ite_fol ?_ ?_
    | with_reducible refine dispatch_fol ‹_› ?_
    | with_reducible refine modEng_fol ‹_› ?_
    | with_reducible refine noCpEval_fol ‹_› ‹_› ‹_› ‹_› ‹_› ‹_› ?_
    | with_reducible refine repair_fol ‹_› ‹_› ?_
    | split
    | dsimp only

theorem retestOp_fol {kc : Touch} {s0 s : State} {e : Nat} {pass : Bool} (k_jr : kc.jr = true) (k_regs : kc.regs = true) (k_gmp : kc.gmp = true) (k_safe : kc.safe = true) (k_sched : kc.sched = true) (k_pair : kc.pair = true) (k_evr : kc.evr = true)
    (hfol : Follows kc s0 s) : Follows kc s0 (retestOp e pass s).1 := by
  unfold retestOp
  repeat' first
    | with_reducible assumption
    | with_reducible refine ite_fol1 ?_ ?_
    | with_reducible refine ite_fol ?_ ?_
    | with_reducible refine returnEng_fol ‹_› ‹_› ‹_› ‹_› ‹_› ‹_› ‹_› ?_
    | split
    | dsimp only

theorem snagCtrlWord_fol {kc : Touch} {s0 s : State} {pass : Bool} {v : Word} (k_jr : kc.jr = true) (k_regs : kc.regs = true) (k_gmp : kc.gmp = true) (k_safe : kc.safe = true) (k_sched : kc.sched = true) (k_pair : kc.pair = true) (k_evr : kc.evr = true) (k_pcr : kc.pcr = true) (k_snag : kc.snag = true)
    (hfol : Follows kc s0 s) : Follows kc s0 (snagCtrlWord pass v s).1 := by
  unfold snagCtrlWord
  repeat' first
    | with_reducible assumption
    | intro _
    | with_reducible refine ite_fol1 ?_ ?_
    | with_reducible refine ite_fol ?_ ?_
    | with_reducible refine updSnag_fol ‹_› ?_
    | with_reducible refine fenceOp_fol ‹_› ‹_› ‹_› ‹_› ‹_› ‹_› ‹_› ‹_› ‹_› ?_
    | with_reducible refine restartOp_fol ‹_› ‹_› ‹_› ‹_› ‹_› ‹_› ‹_› ?_
    | with_reducible refine retestOp_fol ‹_› ‹_› ‹_› ‹_› ‹_› ‹_› ‹_› ?_
    | split
    | dsimp only

theorem snagCmd_fol {kc : Touch} {s0 s : State} {h : GmpHdr} {op : Nat} {target : Nat} {pass : Bool} (k_jr : kc.jr = true) (k_regs : kc.regs = true) (k_gmp : kc.gmp = true) (k_safe : kc.safe = true) (k_sched : kc.sched = true) (k_pair : kc.pair = true) (k_evr : kc.evr = true) (k_pcr : kc.pcr = true) (k_snag : kc.snag = true) (k_sess : kc.sess = true)
    (hfol : Follows kc s0 s) : Follows kc s0 (snagCmd h op target pass s) := by
  unfold snagCmd
  repeat' first
    | with_reducible assumption
    | intro _
    | with_reducible refine gmpWord_fol ‹_› ‹_› ‹_› ‹_› ‹_› ‹_› ?_ ?_
    | with_reducible refine snagCtrlWord_fol ‹_› ‹_› ‹_› ‹_› ‹_› ‹_› ‹_› ‹_› ‹_› ?_
    | split
    | dsimp only

theorem execRestartBay_fol {kc : Touch} {s0 s : State} {h : GmpHdr} {bay : Nat} (k_jr : kc.jr = true) (k_regs : kc.regs = true) (k_gmp : kc.gmp = true) (k_safe : kc.safe = true) (k_sched : kc.sched = true) (k_pair : kc.pair = true) (k_evr : kc.evr = true) (k_pcr : kc.pcr = true) (k_snag : kc.snag = true) (k_sess : kc.sess = true)
    (hfol : Follows kc s0 s) : OutFollows kc s0 (execRestartBay h bay s) := by
  unfold execRestartBay
  repeat' first
    | with_reducible assumption
    | with_reducible refine next_fol ?_
    | with_reducible refine snagCmd_fol ‹_› ‹_› ‹_› ‹_› ‹_› ‹_› ‹_› ‹_› ‹_› ‹_› ?_
    | split
    | dsimp only

theorem execSnagFence_fol {kc : Touch} {s0 s : State} {h : GmpHdr} {engine : Nat} (k_jr : kc.jr = true) (k_regs : kc.regs = true) (k_gmp : kc.gmp = true) (k_safe : kc.safe = true) (k_sched : kc.sched = true) (k_pair : kc.pair = true) (k_evr : kc.evr = true) (k_pcr : kc.pcr = true) (k_snag : kc.snag = true) (k_sess : kc.sess = true)
    (hfol : Follows kc s0 s) : OutFollows kc s0 (execSnagFence h engine s) := by
  unfold execSnagFence
  repeat' first
    | with_reducible assumption
    | with_reducible refine next_fol ?_
    | with_reducible refine snagCmd_fol ‹_› ‹_› ‹_› ‹_› ‹_› ‹_› ‹_› ‹_› ‹_› ‹_› ?_
    | split
    | dsimp only

theorem execRetest_fol {kc : Touch} {s0 s : State} {h : GmpHdr} {engine : Nat} {pass : Bool} (k_jr : kc.jr = true) (k_regs : kc.regs = true) (k_gmp : kc.gmp = true) (k_safe : kc.safe = true) (k_sched : kc.sched = true) (k_pair : kc.pair = true) (k_evr : kc.evr = true) (k_pcr : kc.pcr = true) (k_snag : kc.snag = true) (k_sess : kc.sess = true)
    (hfol : Follows kc s0 s) : OutFollows kc s0 (execRetest h engine pass s) := by
  unfold execRetest
  repeat' first
    | with_reducible assumption
    | with_reducible refine next_fol ?_
    | with_reducible refine snagCmd_fol ‹_› ‹_› ‹_› ‹_› ‹_› ‹_› ‹_› ‹_› ‹_› ‹_› ?_
    | split
    | dsimp only

theorem execBayDomainOn_fol {kc : Touch} {s0 s : State} (k_time : kc.time = true) (k_pcr : kc.pcr = true) (k_snag : kc.snag = true)
    (hfol : Follows kc s0 s) : OutFollows kc s0 (execBayDomainOn s) := by
  unfold execBayDomainOn
  repeat' first
    | with_reducible assumption
    | with_reducible refine fol_fst (by assumption) ?_
    | intro _
    | with_reducible refine ite_folO ?_ ?_
    | with_reducible refine ite_fol ?_ ?_
    | with_reducible refine next_fol ?_
    | with_reducible refine updPcr_fol ‹_› ?_
    | with_reducible refine updSnag_fol ‹_› ?_
    | with_reducible refine advOp_fol ‹_› ?_
    | split
    | dsimp only

theorem bayReload_fol {kc : Touch} {s0 s : State} {b : Nat} (k_jr : kc.jr = true) (k_regs : kc.regs = true) (k_gmp : kc.gmp = true) (k_safe : kc.safe = true) (k_pair : kc.pair = true) (k_evr : kc.evr = true) (k_key : kc.key = true) (k_mem : kc.mem = true)
    (hfol : Follows kc s0 s) : Follows kc s0 (bayReload b s) := by
  unfold bayReload
  repeat' first
    | with_reducible assumption
    | intro _
    | with_reducible refine ite_fol ?_ ?_
    | with_reducible refine updSafe_fol ‹_› ?_
    | with_reducible refine updKey_fol ‹_› ?_
    | with_reducible refine updMem_fol ‹_› ?_
    | with_reducible refine faultEnd_fol ‹_› ‹_› ‹_› ‹_› ‹_› ‹_› ?_
    | refine updSafe_folM ‹_› no_perm (fun _ => rfl) (fun _ _ => rfl) ?_
    | split
    | dsimp only

theorem engineBack_fol {kc : Touch} {s0 s : State} {x : BayTest} (k_jr : kc.jr = true) (k_regs : kc.regs = true) (k_gmp : kc.gmp = true) (k_safe : kc.safe = true) (k_sched : kc.sched = true) (k_pair : kc.pair = true) (k_evr : kc.evr = true) (k_pcr : kc.pcr = true) (k_snag : kc.snag = true)
    (hfol : Follows kc s0 s) : Follows kc s0 (engineBack x s) := by
  unfold engineBack
  repeat' first
    | with_reducible assumption
    | with_reducible refine fol_fst (by assumption) ?_
    | intro _
    | with_reducible refine ite_fol ?_ ?_
    | with_reducible refine updSnag_fol ‹_› ?_
    | with_reducible refine dispatch_fol ‹_› ?_
    | with_reducible refine fenceEng_fol ‹_› ‹_› ‹_› ‹_› ‹_› ‹_› ‹_› ‹_› ‹_› ?_
    | with_reducible refine laneFail_fol ‹_› ‹_› ‹_› ‹_› ‹_› ‹_› ‹_› ‹_› ‹_› ?_
    | with_reducible refine modEng_fol ‹_› ?_
    | with_reducible refine returnEng_fol ‹_› ‹_› ‹_› ‹_› ‹_› ‹_› ‹_› ?_
    | split
    | dsimp only

theorem bayLost_fol {kc : Touch} {s0 s : State} {b : Nat} (k_jr : kc.jr = true) (k_regs : kc.regs = true) (k_gmp : kc.gmp = true) (k_safe : kc.safe = true) (k_sched : kc.sched = true) (k_pair : kc.pair = true) (k_evr : kc.evr = true) (k_snag : kc.snag = true)
    (hfol : Follows kc s0 s) : Follows kc s0 (bayLost b s) := by
  unfold bayLost
  repeat' first
    | with_reducible assumption
    | intro _
    | with_reducible refine ite_fol ?_ ?_
    | with_reducible refine modBay_fol ‹_› ?_
    | with_reducible refine modEng_fol ‹_› ?_
    | with_reducible refine noCpEval_fol ‹_› ‹_› ‹_› ‹_› ‹_› ‹_› ?_
    | with_reducible refine postFault_fol ‹_› ‹_› ‹_› ‹_› ‹_› ‹_› ?_
    | with_reducible refine repair_fol ‹_› ‹_› ?_
    | with_reducible refine snagCnt_fol ‹_› ?_
    | with_reducible refine foldl_fol ?_ ?_
    | with_reducible refine foldl_fol1 ?_ ?_
    | split
    | dsimp only

theorem execBayRestartDone_fol {kc : Touch} {s0 s : State} {ms : Nat} {whole : Bool} {finds : List BayTest} (k_time : kc.time = true) (k_jr : kc.jr = true) (k_regs : kc.regs = true) (k_gmp : kc.gmp = true) (k_safe : kc.safe = true) (k_sched : kc.sched = true) (k_pair : kc.pair = true) (k_evr : kc.evr = true) (k_key : kc.key = true) (k_pcr : kc.pcr = true) (k_mem : kc.mem = true) (k_snag : kc.snag = true)
    (hfol : Follows kc s0 s) : OutFollows kc s0 (execBayRestartDone ms whole finds s) := by
  unfold execBayRestartDone
  repeat' first
    | with_reducible assumption
    | with_reducible refine fol_fst (by assumption) ?_
    | intro _
    | with_reducible refine ite_folO ?_ ?_
    | with_reducible refine ite_fol ?_ ?_
    | with_reducible refine next_fol ?_
    | with_reducible refine updSnag_fol ‹_› ?_
    | with_reducible refine advOp_fol ‹_› ?_
    | with_reducible refine bayLost_fol ‹_› ‹_› ‹_› ‹_› ‹_› ‹_› ‹_› ‹_› ?_
    | with_reducible refine bayReload_fol ‹_› ‹_› ‹_› ‹_› ‹_› ‹_› ‹_› ‹_› ?_
    | with_reducible refine engineBack_fol ‹_› ‹_› ‹_› ‹_› ‹_› ‹_› ‹_› ‹_› ‹_› ?_
    | with_reducible refine modBay_fol ‹_› ?_
    | with_reducible refine repair_fol ‹_› ‹_› ?_
    | with_reducible refine snagCnt_fol ‹_› ?_
    | with_reducible refine sweepRestart_fol ‹_› ‹_› ‹_› ‹_› ‹_› ‹_› ‹_› ?_
    | with_reducible refine foldl_fol ?_ ?_
    | with_reducible refine foldl_fol1 ?_ ?_
    | split
    | dsimp only

end Sys2Proof.Machine
end

