-- ==== Sys2Proof/Laws/FolRegWrite.lean ====
section
/-!
SUPPORT. What the operations of Machine/RegWrite.lean may change: one lemma each.
-/

set_option Elab.async false

namespace Sys2Proof.Machine

open Sys2Proof

theorem plainWord_fol {kc : Touch} {s0 s : State} {replay : Bool} {a : Nat} {v : Word} (k_regs : kc.regs = true) (k_stage : kc.stage = true)
    (hfol : Follows kc s0 s) : Follows kc s0 (plainWord replay a v s).1 := by
  unfold plainWord
  repeat' first
    | with_reducible assumption
    | with_reducible refine ite_fol1 ?_ ?_
    | with_reducible refine ite_fol ?_ ?_
    | with_reducible refine storeWord_fol ‹_› ‹_› ?_
    | split
    | dsimp only

theorem ctrlWord_fol {kc : Touch} {s0 s : State} {replay : Bool} {dbg : Bool} {pass : Bool} {a : Nat} {w : Word} (k_time : kc.time = true) (k_jr : kc.jr = true) (k_regs : kc.regs = true) (k_gmp : kc.gmp = true) (k_safe : kc.safe = true) (k_fix : kc.fix = true) (k_scr : kc.scr = true) (k_memb : kc.memb = true) (k_sched : kc.sched = true) (k_loop : kc.loop = true) (k_pair : kc.pair = true) (k_evr : kc.evr = true) (k_key : kc.key = true) (k_pcr : kc.pcr = true) (k_hod : kc.hod = true) (k_snag : kc.snag = true) (k_mac : kc.mac = true) (k_lkp : kc.lkp = true) (k_sess : kc.sess = true) (k_stage : kc.stage = true)
    (hfol : Follows kc s0 s) : Follows kc s0 (ctrlWord replay dbg pass a w s).1 := by
  unfold ctrlWord
  repeat' first
    | with_reducible assumption
    | intro _
    | with_reducible refine ite_fol1 ?_ ?_
    | with_reducible refine ite_fol ?_ ?_
    | with_reducible refine updLkp_fol ‹_› ?_
    | with_reducible refine coefWord_fol ‹_› ?_
    | with_reducible refine dbgCtrlWord_fol ‹_› ‹_› ‹_› ‹_› ‹_› ‹_› ?_
    | with_reducible refine dbgRespWord_fol ‹_› ?_
    | with_reducible refine engCtrlWord_fol ‹_› ?_
    | with_reducible refine fixEngWord_fol ‹_› ‹_› ?_
    | with_reducible refine hodCtrlWord_fol ‹_› ‹_› ‹_› ‹_› ‹_› ‹_› ‹_› ?_
    | with_reducible refine keyCmdWord_fol ‹_› ‹_› ‹_› ‹_› ‹_› ?_
    | with_reducible refine lcCtrlWord_fol ‹_› ‹_› ‹_› ?_
    | with_reducible refine lkpCmdWord_fol ‹_› ‹_› ‹_› ?_
    | with_reducible refine loopCtrlWord_fol ‹_› ‹_› ?_
    | with_reducible refine machCtrlWord_fol ‹_› ‹_› ‹_› ‹_› ‹_› ‹_› ?_
    | with_reducible refine nodeCtrlWord_fol ‹_› ‹_› ‹_› ‹_› ‹_› ‹_› ‹_› ‹_› ?_
    | with_reducible refine pairCtrlWord_fol ‹_› ?_
    | with_reducible refine pcrCtrlWord_fol ‹_› ?_
    | with_reducible refine plainWord_fol ‹_› ‹_› ?_
    | with_reducible refine portCtrlWord_fol ‹_› ‹_› ‹_› ‹_› ‹_› ?_
    | with_reducible refine refCtrlWord_fol ‹_› ?_
    | with_reducible refine roverCtrlWord_fol ‹_› ?_
    | with_reducible refine ruleCtrlWord_fol ‹_› ‹_› ?_
    | with_reducible refine snagCtrlWord_fol ‹_› ‹_› ‹_› ‹_› ‹_› ‹_› ‹_› ‹_› ‹_› ?_
    | with_reducible refine timeCtrlWord_fol ‹_› ?_
    | with_reducible refine trigWord_fol ‹_› ‹_› ‹_› ?_
    | with_reducible refine zoneCtrlWord_fol ‹_› ‹_› ‹_› ?_
    | split
    | dsimp only

theorem wordOp_fol {kc : Touch} {s0 s : State} {c : ReqCtx} {alone : Bool} {dbg : Bool} {pass : Bool} {a : Nat} {w : Word} (k_time : kc.time = true) (k_jr : kc.jr = true) (k_regs : kc.regs = true) (k_gmp : kc.gmp = true) (k_safe : kc.safe = true) (k_fix : kc.fix = true) (k_scr : kc.scr = true) (k_memb : kc.memb = true) (k_sched : kc.sched = true) (k_loop : kc.loop = true) (k_pair : kc.pair = true) (k_evr : kc.evr = true) (k_key : kc.key = true) (k_pcr : kc.pcr = true) (k_hod : kc.hod = true) (k_snag : kc.snag = true) (k_mac : kc.mac = true) (k_lkp : kc.lkp = true) (k_grant : kc.grant = true) (k_sess : kc.sess = true) (k_stage : kc.stage = true)
    (hfol : Follows kc s0 s) : Follows kc s0 (wordOp c alone dbg pass a w s).1 := by
  unfold wordOp
  repeat' first
    | with_reducible assumption
    | with_reducible refine ite_fol1 ?_ ?_
    | with_reducible refine ite_fol ?_ ?_
    | with_reducible refine ctrlWord_fol ‹_› ‹_› ‹_› ‹_› ‹_› ‹_› ‹_› ‹_› ‹_› ‹_› ‹_› ‹_› ‹_› ‹_› ‹_› ‹_› ‹_› ‹_› ‹_› ‹_› ?_
    | with_reducible refine genCtrl_fol ‹_› ‹_› ‹_› ‹_› ?_
    | with_reducible refine safeDecide_fol ‹_› ‹_› ‹_› ‹_› ‹_› ‹_› ?_
    | with_reducible refine safeLive_fol ‹_› ‹_› ‹_› ‹_› ?_
    | split
    | dsimp only

theorem wordsOp_fol {kc : Touch} {s0 : State} {c : ReqCtx} {alone dbg pass : Bool} {i : Nat} {l : List (Nat × Word)} {r : WordsRes} (k_time : kc.time = true) (k_jr : kc.jr = true) (k_regs : kc.regs = true) (k_gmp : kc.gmp = true) (k_safe : kc.safe = true) (k_fix : kc.fix = true) (k_scr : kc.scr = true) (k_memb : kc.memb = true) (k_sched : kc.sched = true) (k_loop : kc.loop = true) (k_pair : kc.pair = true) (k_evr : kc.evr = true) (k_key : kc.key = true) (k_pcr : kc.pcr = true) (k_hod : kc.hod = true) (k_snag : kc.snag = true) (k_mac : kc.mac = true) (k_lkp : kc.lkp = true) (k_grant : kc.grant = true) (k_sess : kc.sess = true) (k_stage : kc.stage = true)
    (hfol : Follows kc s0 r.state) : Follows kc s0 (wordsOp c alone dbg pass i l r).state := by
  induction l generalizing i r with
  | nil => exact hfol
  | cons a t ih =>
    obtain ⟨a, w⟩ := a
    unfold wordsOp
    have g : Follows kc s0 (wordOp c alone dbg pass a w r.state).1 := wordOp_fol ‹_› ‹_› ‹_› ‹_› ‹_› ‹_› ‹_› ‹_› ‹_› ‹_› ‹_› ‹_› ‹_› ‹_› ‹_› ‹_› ‹_› ‹_› ‹_› ‹_› ‹_› hfol
    split
    · rename_i u e; rw [e] at g; exact ih g
    · rename_i u st e
      rw [e] at g
      split
      · exact g
      · exact ih g

theorem writeHandler_fol {kc : Touch} {s0 s : State} {dbg pass : Bool} {most : Nat} {form : Bool} {ws : List (Nat × Word)} {x : ReqCtx} (k_time : kc.time = true) (k_jr : kc.jr = true) (k_regs : kc.regs = true) (k_gmp : kc.gmp = true) (k_safe : kc.safe = true) (k_fix : kc.fix = true) (k_scr : kc.scr = true) (k_memb : kc.memb = true) (k_sched : kc.sched = true) (k_loop : kc.loop = true) (k_pair : kc.pair = true) (k_evr : kc.evr = true) (k_key : kc.key = true) (k_pcr : kc.pcr = true) (k_hod : kc.hod = true) (k_snag : kc.snag = true) (k_mac : kc.mac = true) (k_lkp : kc.lkp = true) (k_grant : kc.grant = true) (k_sess : kc.sess = true) (k_stage : kc.stage = true)
    (hfol : Follows kc s0 s) : Follows kc s0 (writeHandler dbg pass most form ws x s).1 := by
  unfold writeHandler
  have g := wordsOp_fol ‹_› ‹_› ‹_› ‹_› ‹_› ‹_› ‹_› ‹_› ‹_› ‹_› ‹_› ‹_› ‹_› ‹_› ‹_› ‹_› ‹_› ‹_› ‹_› ‹_› ‹_› (c := x) (alone := ws.length == 1) (dbg := dbg) (pass := pass) (i := 0) (l := ws)
    (r := ⟨s, stEmpty, false, none⟩) hfol
  refine ite_fol1 hfol ?_
  dsimp only
  split
  · dsimp only; exact ite_fol g hfol
  · exact g


theorem writeMsg_fol {kc : Touch} {s0 s : State} {h : GmpHdr} {ws : List (Nat × Word)} {dbg : Bool} {pass : Bool} (k_time : kc.time = true) (k_jr : kc.jr = true) (k_regs : kc.regs = true) (k_gmp : kc.gmp = true) (k_safe : kc.safe = true) (k_fix : kc.fix = true) (k_scr : kc.scr = true) (k_memb : kc.memb = true) (k_sched : kc.sched = true) (k_loop : kc.loop = true) (k_pair : kc.pair = true) (k_evr : kc.evr = true) (k_key : kc.key = true) (k_pcr : kc.pcr = true) (k_nvm : kc.nvm = true) (k_upd : kc.upd = true) (k_mem : kc.mem = true) (k_hod : kc.hod = true) (k_snag : kc.snag = true) (k_mac : kc.mac = true) (k_lkp : kc.lkp = true) (k_grant : kc.grant = true) (k_mark : kc.mark = true) (k_gen : kc.gen = true) (k_role : kc.role = true) (k_sess : kc.sess = true) (k_stage : kc.stage = true)
    (hfol : Follows kc s0 s) : Follows kc s0 (writeMsg h ws dbg pass s) := by
  unfold writeMsg
  repeat' first
    | with_reducible assumption
    | with_reducible refine fol_fst (by assumption) ?_
    | intro _
    | with_reducible refine gmpRequest_fol ‹_› ‹_› ‹_› ‹_› ‹_› ‹_› ?_ ?_
    | with_reducible refine pcrFinish_fol ‹_› ‹_› ‹_› ‹_› ‹_› ‹_› ‹_› ‹_› ‹_› ‹_› ‹_› ‹_› ‹_› ‹_› ‹_› ‹_› ‹_› ‹_› ‹_› ‹_› ‹_› ‹_› ‹_› ‹_› ‹_› ?_
    | with_reducible refine takeAlone_fol ‹_› ‹_› ‹_› ‹_› ‹_› ‹_› ‹_› ?_
    | with_reducible refine writeHandler_fol ‹_› ‹_› ‹_› ‹_› ‹_› ‹_› ‹_› ‹_› ‹_› ‹_› ‹_› ‹_› ‹_› ‹_› ‹_› ‹_› ‹_› ‹_› ‹_› ‹_› ‹_› ?_
    | split
    | dsimp only

theorem execWrite_fol {kc : Touch} {s0 s : State} {h : GmpHdr} {ws : List (Nat × Word)} {dbg : Bool} {pass : Bool} (k_time : kc.time = true) (k_jr : kc.jr = true) (k_regs : kc.regs = true) (k_gmp : kc.gmp = true) (k_safe : kc.safe = true) (k_fix : kc.fix = true) (k_scr : kc.scr = true) (k_memb : kc.memb = true) (k_sched : kc.sched = true) (k_loop : kc.loop = true) (k_pair : kc.pair = true) (k_evr : kc.evr = true) (k_key : kc.key = true) (k_pcr : kc.pcr = true) (k_nvm : kc.nvm = true) (k_upd : kc.upd = true) (k_mem : kc.mem = true) (k_hod : kc.hod = true) (k_snag : kc.snag = true) (k_mac : kc.mac = true) (k_lkp : kc.lkp = true) (k_grant : kc.grant = true) (k_mark : kc.mark = true) (k_gen : kc.gen = true) (k_role : kc.role = true) (k_sess : kc.sess = true) (k_stage : kc.stage = true)
    (hfol : Follows kc s0 s) : OutFollows kc s0 (execWrite h ws dbg pass s) := by
  unfold execWrite
  repeat' first
    | with_reducible assumption
    | with_reducible refine next_fol ?_
    | with_reducible refine writeMsg_fol ‹_› ‹_› ‹_› ‹_› ‹_› ‹_› ‹_› ‹_› ‹_› ‹_› ‹_› ‹_› ‹_› ‹_› ‹_› ‹_› ‹_› ‹_› ‹_› ‹_› ‹_› ‹_› ‹_› ‹_› ‹_› ‹_› ‹_› ?_
    | split
    | dsimp only

theorem execWriteSeq_fol {kc : Touch} {s0 s : State} {h : GmpHdr} {addr : Nat} {ws : List Word} {dbg : Bool} {pass : Bool} (k_time : kc.time = true) (k_jr : kc.jr = true) (k_regs : kc.regs = true) (k_gmp : kc.gmp = true) (k_safe : kc.safe = true) (k_fix : kc.fix = true) (k_scr : kc.scr = true) (k_memb : kc.memb = true) (k_sched : kc.sched = true) (k_loop : kc.loop = true) (k_pair : kc.pair = true) (k_evr : kc.evr = true) (k_key : kc.key = true) (k_pcr : kc.pcr = true) (k_nvm : kc.nvm = true) (k_upd : kc.upd = true) (k_mem : kc.mem = true) (k_hod : kc.hod = true) (k_snag : kc.snag = true) (k_mac : kc.mac = true) (k_lkp : kc.lkp = true) (k_grant : kc.grant = true) (k_mark : kc.mark = true) (k_gen : kc.gen = true) (k_role : kc.role = true) (k_sess : kc.sess = true) (k_stage : kc.stage = true)
    (hfol : Follows kc s0 s) : OutFollows kc s0 (execWriteSeq h addr ws dbg pass s) := by
  unfold execWriteSeq
  repeat' first
    | with_reducible assumption
    | intro _
    | with_reducible refine next_fol ?_
    | with_reducible refine gmpRequest_fol ‹_› ‹_› ‹_› ‹_› ‹_› ‹_› ?_ ?_
    | with_reducible refine pcrFinish_fol ‹_› ‹_› ‹_› ‹_› ‹_› ‹_› ‹_› ‹_› ‹_› ‹_› ‹_› ‹_› ‹_› ‹_› ‹_› ‹_› ‹_› ‹_› ‹_› ‹_› ‹_› ‹_› ‹_› ‹_› ‹_› ?_
    | with_reducible refine writeHandler_fol ‹_› ‹_› ‹_› ‹_› ‹_› ‹_› ‹_› ‹_› ‹_› ‹_› ‹_› ‹_› ‹_› ‹_› ‹_› ‹_› ‹_› ‹_› ‹_› ‹_› ‹_› ?_
    | split
    | dsimp only

theorem execRegisterWrite_fol {kc : Touch} {s0 s : State} {h : GmpHdr} {addr : Nat} {v : Word} (k_time : kc.time = true) (k_jr : kc.jr = true) (k_regs : kc.regs = true) (k_gmp : kc.gmp = true) (k_safe : kc.safe = true) (k_fix : kc.fix = true) (k_scr : kc.scr = true) (k_memb : kc.memb = true) (k_sched : kc.sched = true) (k_loop : kc.loop = true) (k_pair : kc.pair = true) (k_evr : kc.evr = true) (k_key : kc.key = true) (k_pcr : kc.pcr = true) (k_nvm : kc.nvm = true) (k_upd : kc.upd = true) (k_mem : kc.mem = true) (k_hod : kc.hod = true) (k_snag : kc.snag = true) (k_mac : kc.mac = true) (k_lkp : kc.lkp = true) (k_grant : kc.grant = true) (k_mark : kc.mark = true) (k_gen : kc.gen = true) (k_role : kc.role = true) (k_sess : kc.sess = true) (k_stage : kc.stage = true)
    (hfol : Follows kc s0 s) : OutFollows kc s0 (execRegisterWrite h addr v s) := by
  unfold execRegisterWrite
  repeat' first
    | with_reducible assumption
    | with_reducible refine next_fol ?_
    | with_reducible refine writeMsg_fol ‹_› ‹_› ‹_› ‹_› ‹_› ‹_› ‹_› ‹_› ‹_› ‹_› ‹_› ‹_› ‹_› ‹_› ‹_› ‹_› ‹_› ‹_› ‹_› ‹_› ‹_› ‹_› ‹_› ‹_› ‹_› ‹_› ‹_› ?_
    | split
    | dsimp only

end Sys2Proof.Machine
end

