-- ==== Sys2Proof/Laws/FolRepl.lean ====
section
/-!
SUPPORT. What the operations of Machine/Repl.lean may change: one lemma each.
-/

set_option Elab.async false

namespace Sys2Proof.Machine

open Sys2Proof

theorem bodyDecide_fol {kc : Touch} {s0 s : State} {b : GmpBody} {x : ReqCtx} (k_time : kc.time = true) (k_jr : kc.jr = true) (k_regs : kc.regs = true) (k_gmp : kc.gmp = true) (k_safe : kc.safe = true) (k_fix : kc.fix = true) (k_scr : kc.scr = true) (k_memb : kc.memb = true) (k_sched : kc.sched = true) (k_loop : kc.loop = true) (k_pair : kc.pair = true) (k_evr : kc.evr = true) (k_key : kc.key = true) (k_pcr : kc.pcr = true) (k_hod : kc.hod = true) (k_snag : kc.snag = true) (k_mac : kc.mac = true) (k_lkp : kc.lkp = true) (k_grant : kc.grant = true) (k_fuse : kc.fuse = true) (k_sess : kc.sess = true) (k_stage : kc.stage = true)
    (hfol : Follows kc s0 s) : Follows kc s0 ((bodyDecide b).2.2 x s).1 := by
  cases b with
  | write _ => exact writeHandler_fol ‹_› ‹_› ‹_› ‹_› ‹_› ‹_› ‹_› ‹_› ‹_› ‹_› ‹_› ‹_› ‹_› ‹_› ‹_› ‹_› ‹_› ‹_› ‹_› ‹_› ‹_› (x := x) hfol
  | writeSeq _ _ => exact writeHandler_fol ‹_› ‹_› ‹_› ‹_› ‹_› ‹_› ‹_› ‹_› ‹_› ‹_› ‹_› ‹_› ‹_› ‹_› ‹_› ‹_› ‹_› ‹_› ‹_› ‹_› ‹_› (x := x) hfol
  | commit  => exact commitHandler_fol ‹_› (x := x) hfol
  | safe _ => exact safeHandler_fol ‹_› ‹_› ‹_› ‹_› ‹_› ‹_› (x := x) hfol
  | track _ => exact trackHandler_fol ‹_› ‹_› ‹_› (x := x) hfol
  | cancel _ => exact cancelHandler_fol ‹_› ‹_› ‹_› ‹_› ‹_› ‹_› (x := x) hfol
  | zone _ => exact zoneHandler_fol ‹_› ‹_› ‹_› (x := x) hfol
  | task _ => exact taskHandler_fol ‹_› (x := x) hfol
  | withdraw _ => exact withdrawHandler_fol ‹_› ‹_› ‹_› (x := x) hfol
  | connector _ => exact connectorHandler_fol ‹_› ‹_› ‹_› (x := x) hfol
  | rule _ => exact ruleHandler_fol ‹_› ‹_› (x := x) hfol
  | keyPut _ => exact putHandler_fol ‹_› ‹_› ‹_› ‹_› ‹_› (x := x) hfol
  | keyInvalidate _ _ => exact invalidateHandler_fol ‹_› ‹_› ‹_› ‹_› ‹_› (x := x) hfol
  | root _ => exact rootHandler_fol ‹_› ‹_› (x := x) hfol


theorem replayReq_fol {kc : Touch} {s0 s : State} {pos : Nat × Nat} {sess : Nat} {ident : Nat} {reqId : Nat} {b : GmpBody} (k_time : kc.time = true) (k_jr : kc.jr = true) (k_regs : kc.regs = true) (k_gmp : kc.gmp = true) (k_safe : kc.safe = true) (k_fix : kc.fix = true) (k_scr : kc.scr = true) (k_memb : kc.memb = true) (k_sched : kc.sched = true) (k_loop : kc.loop = true) (k_pair : kc.pair = true) (k_evr : kc.evr = true) (k_key : kc.key = true) (k_pcr : kc.pcr = true) (k_hod : kc.hod = true) (k_snag : kc.snag = true) (k_mac : kc.mac = true) (k_lkp : kc.lkp = true) (k_grant : kc.grant = true) (k_fuse : kc.fuse = true) (k_sess : kc.sess = true) (k_stage : kc.stage = true)
    (hfol : Follows kc s0 s) : Follows kc s0 (replayReq pos sess ident reqId b s) := by
  unfold replayReq
  repeat' first
    | with_reducible assumption
    | intro _
    | with_reducible refine updJr_fol ‹_› ?_
    | with_reducible refine bodyDecide_fol ‹_› ‹_› ‹_› ‹_› ‹_› ‹_› ‹_› ‹_› ‹_› ‹_› ‹_› ‹_› ‹_› ‹_› ‹_› ‹_› ‹_› ‹_› ‹_› ‹_› ‹_› ‹_› ?_
    | with_reducible refine cachePush_fol ‹_› ‹_› ?_
    | with_reducible refine gmpDecide_fol ‹_› ‹_› ‹_› ‹_› ?_ ?_
    | split
    | dsimp only

theorem replayPayload_fol {kc : Touch} {s0 s : State} {prev : Nat} {e : JEntry} (k_time : kc.time = true) (k_jr : kc.jr = true) (k_regs : kc.regs = true) (k_gmp : kc.gmp = true) (k_safe : kc.safe = true) (k_fix : kc.fix = true) (k_scr : kc.scr = true) (k_memb : kc.memb = true) (k_sched : kc.sched = true) (k_loop : kc.loop = true) (k_pair : kc.pair = true) (k_evr : kc.evr = true) (k_key : kc.key = true) (k_pcr : kc.pcr = true) (k_nvm : kc.nvm = true) (k_hod : kc.hod = true) (k_snag : kc.snag = true) (k_mac : kc.mac = true) (k_lkp : kc.lkp = true) (k_grant : kc.grant = true) (k_gen : kc.gen = true) (k_fuse : kc.fuse = true) (k_sess : kc.sess = true) (k_stage : kc.stage = true)
    (hfol : Follows kc s0 s) : Follows kc s0 (replayPayload prev e s) := by
  unfold replayPayload
  repeat' first
    | with_reducible assumption
    | with_reducible refine fol_fst (by assumption) ?_
    | intro _
    | with_reducible refine ite_fol ?_ ?_
    | with_reducible refine applyRx_fol ‹_› ‹_› ‹_› ‹_› ‹_› ‹_› ‹_› ‹_› ‹_› ?_
    | with_reducible refine commitEntry_fol ‹_› ‹_› ‹_› ‹_› ‹_› ‹_› ‹_› ‹_› ‹_› ‹_› ‹_› ‹_› ‹_› ‹_› ?_ ?_
    | with_reducible refine covEstop_fol ‹_› ?_
    | with_reducible refine covFault_fol ‹_› ?_
    | with_reducible refine covLoss_fol ‹_› ‹_› ‹_› ‹_› ‹_› ‹_› ‹_› ‹_› ‹_› ?_
    | with_reducible refine liveGlobal_fol ‹_› ‹_› ‹_› ‹_› ?_
    | with_reducible refine markApply_fol ‹_› ‹_› ‹_› ‹_› ‹_› ‹_› ‹_› ‹_› ‹_› ‹_› ‹_› ‹_› ?_
    | with_reducible refine refApply_fol ‹_› ‹_› ‹_› ‹_› ‹_› ‹_› ‹_› ‹_› ?_
    | with_reducible refine replayReq_fol ‹_› ‹_› ‹_› ‹_› ‹_› ‹_› ‹_› ‹_› ‹_› ‹_› ‹_› ‹_› ‹_› ‹_› ‹_› ‹_› ‹_› ‹_› ‹_› ‹_› ‹_› ‹_› ?_
    | with_reducible refine setApplied_fol ‹_› ‹_› ‹_› ‹_› ?_
    | split
    | dsimp only

theorem applyEntry_fol {kc : Touch} {s0 s : State} {e : JEntry} (k_time : kc.time = true) (k_jr : kc.jr = true) (k_regs : kc.regs = true) (k_gmp : kc.gmp = true) (k_safe : kc.safe = true) (k_fix : kc.fix = true) (k_scr : kc.scr = true) (k_memb : kc.memb = true) (k_sched : kc.sched = true) (k_loop : kc.loop = true) (k_pair : kc.pair = true) (k_evr : kc.evr = true) (k_key : kc.key = true) (k_pcr : kc.pcr = true) (k_nvm : kc.nvm = true) (k_hod : kc.hod = true) (k_snag : kc.snag = true) (k_mac : kc.mac = true) (k_lkp : kc.lkp = true) (k_grant : kc.grant = true) (k_mark : kc.mark = true) (k_gen : kc.gen = true) (k_fuse : kc.fuse = true) (k_sess : kc.sess = true) (k_stage : kc.stage = true)
    (hfol : Follows kc s0 s) : Follows kc s0 (applyEntry e s) := by
  unfold applyEntry
  repeat' first
    | with_reducible assumption
    | intro _
    | with_reducible refine updJr_fol ‹_› ?_
    | with_reducible refine liveFollow_fol ‹_› ‹_› ?_
    | with_reducible refine replayPayload_fol ‹_› ‹_› ‹_› ‹_› ‹_› ‹_› ‹_› ‹_› ‹_› ‹_› ‹_› ‹_› ‹_› ‹_› ‹_› ‹_› ‹_› ‹_› ‹_› ‹_› ‹_› ‹_› ‹_› ‹_› ?_
    | split
    | dsimp only

theorem replay_fol {kc : Touch} {s0 s : State} {e : JEntry} (k_time : kc.time = true) (k_jr : kc.jr = true) (k_regs : kc.regs = true) (k_gmp : kc.gmp = true) (k_safe : kc.safe = true) (k_fix : kc.fix = true) (k_scr : kc.scr = true) (k_memb : kc.memb = true) (k_sched : kc.sched = true) (k_loop : kc.loop = true) (k_pair : kc.pair = true) (k_evr : kc.evr = true) (k_key : kc.key = true) (k_pcr : kc.pcr = true) (k_nvm : kc.nvm = true) (k_hod : kc.hod = true) (k_snag : kc.snag = true) (k_mac : kc.mac = true) (k_lkp : kc.lkp = true) (k_grant : kc.grant = true) (k_mark : kc.mark = true) (k_gen : kc.gen = true) (k_fuse : kc.fuse = true) (k_sess : kc.sess = true) (k_stage : kc.stage = true)
    (hfol : Follows kc s0 s) : Follows kc s0 (replay e s) := by
  unfold replay
  repeat' first
    | with_reducible assumption
    | with_reducible refine fol_fst (by assumption) ?_
    | with_reducible refine ite_fol ?_ ?_
    | with_reducible refine applyEntry_fol ‹_› ‹_› ‹_› ‹_› ‹_› ‹_› ‹_› ‹_› ‹_› ‹_› ‹_› ‹_› ‹_› ‹_› ‹_› ‹_› ‹_› ‹_› ‹_› ‹_› ‹_› ‹_› ‹_› ‹_› ‹_› ?_
    | with_reducible refine loseSync_fol ‹_› ‹_› ‹_› ‹_› ?_
    | split
    | dsimp only

theorem jrnlIn_fol {kc : Touch} {s0 s : State} {x : JEntry × Bool} (k_time : kc.time = true) (k_jr : kc.jr = true) (k_regs : kc.regs = true) (k_gmp : kc.gmp = true) (k_safe : kc.safe = true) (k_fix : kc.fix = true) (k_scr : kc.scr = true) (k_memb : kc.memb = true) (k_sched : kc.sched = true) (k_loop : kc.loop = true) (k_pair : kc.pair = true) (k_evr : kc.evr = true) (k_key : kc.key = true) (k_pcr : kc.pcr = true) (k_nvm : kc.nvm = true) (k_hod : kc.hod = true) (k_snag : kc.snag = true) (k_mac : kc.mac = true) (k_lkp : kc.lkp = true) (k_grant : kc.grant = true) (k_mark : kc.mark = true) (k_gen : kc.gen = true) (k_fuse : kc.fuse = true) (k_sess : kc.sess = true) (k_stage : kc.stage = true)
    (hfol : Follows kc s0 s) : Follows kc s0 (jrnlIn x s) := by
  unfold jrnlIn
  repeat' first
    | with_reducible assumption
    | with_reducible refine fol_fst (by assumption) ?_
    | intro _
    | with_reducible refine ite_fol ?_ ?_
    | with_reducible refine ite_fol1 ?_ ?_
    | with_reducible refine updPair_fol ‹_› ?_
    | with_reducible refine copyFail_fol ‹_› ‹_› ‹_› ?_
    | with_reducible refine loseSync_fol ‹_› ‹_› ‹_› ‹_› ?_
    | with_reducible refine replay_fol ‹_› ‹_› ‹_› ‹_› ‹_› ‹_› ‹_› ‹_› ‹_› ‹_› ‹_› ‹_› ‹_› ‹_› ‹_› ‹_› ‹_› ‹_› ‹_› ‹_› ‹_› ‹_› ‹_› ‹_› ‹_› ?_
    | split
    | dsimp only

theorem safeFresh_fol {kc : Touch} {s0 s : State} (k_safe : kc.safe = true)
    (hfol : Follows kc s0 s) : Follows kc s0 (safeFresh s) := by
  unfold safeFresh
  repeat' first
    | with_reducible assumption
    | intro _
    | with_reducible refine updSafe_fol ‹_› ?_
    | refine updSafe_folM ‹_› no_perm (fun _ => rfl) (fun _ _ => rfl) ?_
    | split
    | dsimp only

theorem handoverTake_fol {kc : Touch} {s0 s : State} {n : Nat} (k_time : kc.time = true) (k_jr : kc.jr = true) (k_regs : kc.regs = true) (k_gmp : kc.gmp = true) (k_safe : kc.safe = true) (k_fix : kc.fix = true) (k_scr : kc.scr = true) (k_memb : kc.memb = true) (k_sched : kc.sched = true) (k_loop : kc.loop = true) (k_pair : kc.pair = true) (k_evr : kc.evr = true) (k_nvm : kc.nvm = true) (k_upd : kc.upd = true) (k_mac : kc.mac = true) (k_lkp : kc.lkp = true) (k_grant : kc.grant = true) (k_mark : kc.mark = true) (k_gen : kc.gen = true) (k_role : kc.role = true) (k_sess : kc.sess = true)
    (hfol : Follows kc s0 s) : Follows kc s0 (handoverTake n s) := by
  unfold handoverTake
  repeat' first
    | with_reducible assumption
    | intro _
    | with_reducible refine ite_fol ?_ ?_
    | with_reducible refine updJr_fol ‹_› ?_
    | with_reducible refine updPair_fol ‹_› ?_
    | with_reducible refine updMac_fol ‹_› ?_
    | with_reducible refine advTo_fol ‹_› ?_
    | with_reducible refine bump_fol ‹_› ?_
    | with_reducible refine liveFollow_fol ‹_› ‹_› ?_
    | with_reducible refine openSf_fol ‹_› ‹_› ‹_› ‹_› ‹_› ‹_› ‹_› ‹_› ‹_› ‹_› ‹_› ‹_› ‹_› ‹_› ‹_› ‹_› ‹_› ‹_› ‹_› ?_
    | with_reducible refine safeFresh_fol ‹_› ?_
    | with_reducible refine setRole_fol ‹_› ‹_› ‹_› ‹_› ‹_› ?_
    | split
    | dsimp only

theorem handoverTry_fol {kc : Touch} {s0 s : State} (k_time : kc.time = true) (k_jr : kc.jr = true) (k_regs : kc.regs = true) (k_gmp : kc.gmp = true) (k_safe : kc.safe = true) (k_fix : kc.fix = true) (k_scr : kc.scr = true) (k_memb : kc.memb = true) (k_sched : kc.sched = true) (k_loop : kc.loop = true) (k_pair : kc.pair = true) (k_evr : kc.evr = true) (k_nvm : kc.nvm = true) (k_upd : kc.upd = true) (k_mac : kc.mac = true) (k_lkp : kc.lkp = true) (k_grant : kc.grant = true) (k_mark : kc.mark = true) (k_gen : kc.gen = true) (k_role : kc.role = true) (k_sess : kc.sess = true)
    (hfol : Follows kc s0 s) : Follows kc s0 (handoverTry s) := by
  unfold handoverTry
  repeat' first
    | with_reducible assumption
    | with_reducible refine fol_fst (by assumption) ?_
    | with_reducible refine ite_fol ?_ ?_
    | with_reducible refine handoverTake_fol ‹_› ‹_› ‹_› ‹_› ‹_› ‹_› ‹_› ‹_› ‹_› ‹_› ‹_› ‹_› ‹_› ‹_› ‹_› ‹_› ‹_› ‹_› ‹_› ‹_› ‹_› ?_
    | split
    | dsimp only

theorem execJrnl_fol {kc : Touch} {s0 s : State} {f : PairHdr} {l : List (JEntry × Bool)} (k_time : kc.time = true) (k_jr : kc.jr = true) (k_regs : kc.regs = true) (k_gmp : kc.gmp = true) (k_safe : kc.safe = true) (k_fix : kc.fix = true) (k_scr : kc.scr = true) (k_memb : kc.memb = true) (k_sched : kc.sched = true) (k_loop : kc.loop = true) (k_pair : kc.pair = true) (k_evr : kc.evr = true) (k_key : kc.key = true) (k_pcr : kc.pcr = true) (k_nvm : kc.nvm = true) (k_upd : kc.upd = true) (k_hod : kc.hod = true) (k_snag : kc.snag = true) (k_mac : kc.mac = true) (k_lkp : kc.lkp = true) (k_grant : kc.grant = true) (k_mark : kc.mark = true) (k_gen : kc.gen = true) (k_role : kc.role = true) (k_fuse : kc.fuse = true) (k_sess : kc.sess = true) (k_stage : kc.stage = true)
    (hfol : Follows kc s0 s) : OutFollows kc s0 (execJrnl f l s) := by
  unfold execJrnl
  repeat' first
    | with_reducible assumption
    | intro _
    | with_reducible refine ite_folO ?_ ?_
    | with_reducible refine ite_fol ?_ ?_
    | with_reducible refine next_fol ?_
    | with_reducible refine handoverTry_fol ‹_› ‹_› ‹_› ‹_› ‹_› ‹_› ‹_› ‹_› ‹_› ‹_› ‹_› ‹_› ‹_› ‹_› ‹_› ‹_› ‹_› ‹_› ‹_› ‹_› ‹_› ?_
    | with_reducible refine jrnlIn_fol ‹_› ‹_› ‹_› ‹_› ‹_› ‹_› ‹_› ‹_› ‹_› ‹_› ‹_› ‹_› ‹_› ‹_› ‹_› ‹_› ‹_› ‹_› ‹_› ‹_› ‹_› ‹_› ‹_› ‹_› ‹_› ?_
    | with_reducible refine linkOnly_fol ‹_› ‹_› ‹_› ?_
    | with_reducible refine sendLink_fol ‹_› ?_
    | with_reducible refine foldl_fol ?_ ?_
    | with_reducible refine foldl_fol1 ?_ ?_
    | split
    | dsimp only

theorem execHandoverFrame_fol {kc : Touch} {s0 s : State} {f : PairHdr} (k_time : kc.time = true) (k_jr : kc.jr = true) (k_regs : kc.regs = true) (k_gmp : kc.gmp = true) (k_safe : kc.safe = true) (k_fix : kc.fix = true) (k_scr : kc.scr = true) (k_memb : kc.memb = true) (k_sched : kc.sched = true) (k_loop : kc.loop = true) (k_pair : kc.pair = true) (k_evr : kc.evr = true) (k_nvm : kc.nvm = true) (k_upd : kc.upd = true) (k_mac : kc.mac = true) (k_lkp : kc.lkp = true) (k_grant : kc.grant = true) (k_mark : kc.mark = true) (k_gen : kc.gen = true) (k_role : kc.role = true) (k_sess : kc.sess = true)
    (hfol : Follows kc s0 s) : OutFollows kc s0 (execHandoverFrame f s) := by
  unfold execHandoverFrame
  repeat' first
    | with_reducible assumption
    | intro _
    | with_reducible refine ite_folO ?_ ?_
    | with_reducible refine ite_fol ?_ ?_
    | with_reducible refine next_fol ?_
    | with_reducible refine updPair_fol ‹_› ?_
    | with_reducible refine handoverTry_fol ‹_› ‹_› ‹_› ‹_› ‹_› ‹_› ‹_› ‹_› ‹_› ‹_› ‹_› ‹_› ‹_› ‹_› ‹_› ‹_› ‹_› ‹_› ‹_› ‹_› ‹_› ?_
    | with_reducible refine linkOnly_fol ‹_› ‹_› ‹_› ?_
    | split
    | dsimp only

theorem execJrnlAck_fol {kc : Touch} {s0 s : State} {f : PairHdr} {sf : Nat} {seq : Nat} (k_jr : kc.jr = true) (k_regs : kc.regs = true) (k_pair : kc.pair = true) (k_evr : kc.evr = true)
    (hfol : Follows kc s0 s) : OutFollows kc s0 (execJrnlAck f sf seq s) := by
  unfold execJrnlAck
  repeat' first
    | with_reducible assumption
    | intro _
    | with_reducible refine ite_folO ?_ ?_
    | with_reducible refine ite_fol ?_ ?_
    | with_reducible refine next_fol ?_
    | with_reducible refine updJr_fol ‹_› ?_
    | with_reducible refine updPair_fol ‹_› ?_
    | with_reducible refine freeRing_fol ‹_› ?_
    | with_reducible refine linkOnly_fol ‹_› ‹_› ‹_› ?_
    | with_reducible refine maxF_fol ‹_› ?_
    | with_reducible refine foldl_fol ?_ ?_
    | with_reducible refine foldl_fol1 ?_ ?_
    | split
    | dsimp only

theorem execDigest_fol {kc : Touch} {s0 s : State} {f : PairHdr} {digest : List Nat} {_gen : Nat} {_version : Nat} {_build : Nat} {cls : Nat} (k_regs : kc.regs = true) (k_safe : kc.safe = true) (k_pair : kc.pair = true) (k_evr : kc.evr = true)
    (hfol : Follows kc s0 s) : OutFollows kc s0 (execDigest f digest _gen _version _build cls s) := by
  unfold execDigest
  repeat' first
    | with_reducible assumption
    | intro _
    | with_reducible refine ite_folO ?_ ?_
    | with_reducible refine ite_fol ?_ ?_
    | with_reducible refine next_fol ?_
    | with_reducible refine updPair_fol ‹_› ?_
    | with_reducible refine alarm_fol ‹_› ?_
    | with_reducible refine evTrig_fol ‹_› ‹_› ?_
    | with_reducible refine linkOnly_fol ‹_› ‹_› ‹_› ?_
    | with_reducible refine loseSync_fol ‹_› ‹_› ‹_› ‹_› ?_
    | split
    | dsimp only

theorem execCopyReq_fol {kc : Touch} {s0 s : State} {f : PairHdr} {chunk : Option Nat} (k_regs : kc.regs = true) (k_pair : kc.pair = true) (k_evr : kc.evr = true)
    (hfol : Follows kc s0 s) : OutFollows kc s0 (execCopyReq f chunk s) := by
  unfold execCopyReq
  repeat' first
    | with_reducible assumption
    | with_reducible refine fol_fst (by assumption) ?_
    | intro _
    | with_reducible refine ite_folO ?_ ?_
    | with_reducible refine ite_fol ?_ ?_
    | with_reducible refine next_fol ?_
    | with_reducible refine updPair_fol ‹_› ?_
    | with_reducible refine linkOnly_fol ‹_› ‹_› ‹_› ?_
    | with_reducible refine sendLink_fol ‹_› ?_
    | split
    | dsimp only

theorem execCopyReqRetry_fol {kc : Touch} {s0 s : State} (k_time : kc.time = true) (k_pair : kc.pair = true)
    (hfol : Follows kc s0 s) : OutFollows kc s0 (execCopyReqRetry s) := by
  unfold execCopyReqRetry
  repeat' first
    | with_reducible assumption
    | with_reducible refine fol_fst (by assumption) ?_
    | with_reducible refine ite_folO ?_ ?_
    | with_reducible refine ite_fol ?_ ?_
    | with_reducible refine next_fol ?_
    | with_reducible refine advOp_fol ‹_› ?_
    | with_reducible refine askCopy_fol ‹_› ?_
    | split
    | dsimp only

theorem execCopyBegin_fol {kc : Touch} {s0 s : State} {f : PairHdr} {epoch : Nat} {p0 : Nat} {_gen : Nat} {cls : Nat} {nchunk : Nat} {_digest : List Nat} (k_regs : kc.regs = true) (k_pair : kc.pair = true) (k_evr : kc.evr = true)
    (hfol : Follows kc s0 s) : OutFollows kc s0 (execCopyBegin f epoch p0 _gen cls nchunk _digest s) := by
  unfold execCopyBegin
  repeat' first
    | with_reducible assumption
    | intro _
    | with_reducible refine ite_folO ?_ ?_
    | with_reducible refine ite_fol ?_ ?_
    | with_reducible refine next_fol ?_
    | with_reducible refine updPair_fol ‹_› ?_
    | with_reducible refine alarm_fol ‹_› ?_
    | with_reducible refine linkOnly_fol ‹_› ‹_› ‹_› ?_
    | split
    | dsimp only

theorem chunkFail_fol {kc : Touch} {s0 s : State} {i : Nat} (k_regs : kc.regs = true) (k_pair : kc.pair = true) (k_evr : kc.evr = true)
    (hfol : Follows kc s0 s) : Follows kc s0 (chunkFail i s) := by
  unfold chunkFail
  repeat' first
    | with_reducible assumption
    | intro _
    | with_reducible refine ite_fol ?_ ?_
    | with_reducible refine updPair_fol ‹_› ?_
    | with_reducible refine askCopy_fol ‹_› ?_
    | with_reducible refine copyFail_fol ‹_› ‹_› ‹_› ?_
    | split
    | dsimp only

theorem execCopyChunk_fol {kc : Touch} {s0 s : State} {f : PairHdr} {epoch : Nat} {index : Nat} {crcOk : Bool} (k_regs : kc.regs = true) (k_pair : kc.pair = true) (k_evr : kc.evr = true)
    (hfol : Follows kc s0 s) : OutFollows kc s0 (execCopyChunk f epoch index crcOk s) := by
  unfold execCopyChunk
  repeat' first
    | with_reducible assumption
    | intro _
    | with_reducible refine ite_folO ?_ ?_
    | with_reducible refine ite_fol ?_ ?_
    | with_reducible refine next_fol ?_
    | with_reducible refine updPair_fol ‹_› ?_
    | with_reducible refine chunkFail_fol ‹_› ‹_› ‹_› ?_
    | with_reducible refine linkOnly_fol ‹_› ‹_› ‹_› ?_
    | split
    | dsimp only

theorem installWords_fol {kc : Touch} {s0 s : State} {c : KMap Word} (k_regs : kc.regs = true)
    (hfol : Follows kc s0 s) : Follows kc s0 (installWords c s) := by
  unfold installWords
  repeat' first
    | with_reducible assumption
    | with_reducible refine fol_fst (by assumption) ?_
    | intro _
    | with_reducible refine setForce_fol ‹_› ?_
    | with_reducible refine foldl_fol ?_ ?_
    | with_reducible refine foldl_fol1 ?_ ?_
    | split
    | dsimp only

theorem install_fol {kc : Touch} {s0 s : State} {c : Covered} (k_time : kc.time = true) (k_jr : kc.jr = true) (k_regs : kc.regs = true) (k_safe : kc.safe = true) (k_fix : kc.fix = true) (k_scr : kc.scr = true) (k_memb : kc.memb = true) (k_sched : kc.sched = true) (k_loop : kc.loop = true) (k_key : kc.key = true) (k_mac : kc.mac = true) (k_lkp : kc.lkp = true) (k_grant : kc.grant = true) (k_mark : kc.mark = true) (k_gen : kc.gen = true) (k_stage : kc.stage = true)
    (hfol : Follows kc s0 s) : Follows kc s0 (install c s) := by
  unfold install
  repeat' first
    | with_reducible assumption
    | intro _
    | with_reducible refine ite_fol ?_ ?_
    | with_reducible refine updTime_fol ‹_› ?_
    | with_reducible refine updJr_fol ‹_› ?_
    | with_reducible refine updRegs_fol ‹_› rfl ?_
    | with_reducible refine updRegs_fol ‹_› rfl ?_ (.inr fun _ _ => rfl)
    | with_reducible refine updSafe_fol ‹_› ?_
    | with_reducible refine updFix_fol ‹_› ?_
    | with_reducible refine updScr_fol ‹_› ?_
    | with_reducible refine updMemb_fol ‹_› ?_
    | with_reducible refine updSched_fol ‹_› ?_
    | with_reducible refine updLoop_fol ‹_› ?_
    | with_reducible refine updKey_fol ‹_› ?_
    | with_reducible refine updMac_fol ‹_› ?_
    | with_reducible refine updLkp_fol ‹_› ?_
    | with_reducible refine admitTo_fol ‹_› ‹_› ?_
    | with_reducible refine installWords_fol ‹_› ?_
    | with_reducible refine liveFollow_fol ‹_› ‹_› ?_
    | refine updKey_fol ‹_› ?_ (.inr fun k => by by_cases q : k.ring = c.ring <;> simp [q])
    | split
    | dsimp only

theorem execCopyEnd_fol {kc : Touch} {s0 s : State} {f : PairHdr} {epoch : Nat} {nchunk : Nat} {digestOk : Bool} {c : Covered} (k_time : kc.time = true) (k_jr : kc.jr = true) (k_regs : kc.regs = true) (k_gmp : kc.gmp = true) (k_safe : kc.safe = true) (k_fix : kc.fix = true) (k_scr : kc.scr = true) (k_memb : kc.memb = true) (k_sched : kc.sched = true) (k_loop : kc.loop = true) (k_pair : kc.pair = true) (k_evr : kc.evr = true) (k_key : kc.key = true) (k_pcr : kc.pcr = true) (k_nvm : kc.nvm = true) (k_upd : kc.upd = true) (k_hod : kc.hod = true) (k_snag : kc.snag = true) (k_mac : kc.mac = true) (k_lkp : kc.lkp = true) (k_grant : kc.grant = true) (k_mark : kc.mark = true) (k_gen : kc.gen = true) (k_role : kc.role = true) (k_fuse : kc.fuse = true) (k_sess : kc.sess = true) (k_stage : kc.stage = true)
    (hfol : Follows kc s0 s) : OutFollows kc s0 (execCopyEnd f epoch nchunk digestOk c s) := by
  unfold execCopyEnd
  repeat' first
    | with_reducible assumption
    | intro _
    | with_reducible refine ite_folO ?_ ?_
    | with_reducible refine ite_fol ?_ ?_
    | with_reducible refine next_fol ?_
    | with_reducible refine updPair_fol ‹_› ?_
    | with_reducible refine bump_fol ‹_› ?_
    | with_reducible refine chunkFail_fol ‹_› ‹_› ‹_› ?_
    | with_reducible refine copyFail_fol ‹_› ‹_› ‹_› ?_
    | with_reducible refine handoverTry_fol ‹_› ‹_› ‹_› ‹_› ‹_› ‹_› ‹_› ‹_› ‹_› ‹_› ‹_› ‹_› ‹_› ‹_› ‹_› ‹_› ‹_› ‹_› ‹_› ‹_› ‹_› ?_
    | with_reducible refine install_fol ‹_› ‹_› ‹_› ‹_› ‹_› ‹_› ‹_› ‹_› ‹_› ‹_› ‹_› ‹_› ‹_› ‹_› ‹_› ‹_› ?_
    | with_reducible refine linkOnly_fol ‹_› ‹_› ‹_› ?_
    | with_reducible refine replay_fol ‹_› ‹_› ‹_› ‹_› ‹_› ‹_› ‹_› ‹_› ‹_› ‹_› ‹_› ‹_› ‹_› ‹_› ‹_› ‹_› ‹_› ‹_› ‹_› ‹_› ‹_› ‹_› ‹_› ‹_› ‹_› ?_
    | with_reducible refine sendLink_fol ‹_› ?_
    | with_reducible refine foldl_fol ?_ ?_
    | with_reducible refine foldl_fol1 ?_ ?_
    | split
    | dsimp only

theorem execCopyResult_fol {kc : Touch} {s0 s : State} {f : PairHdr} {epoch : Nat} {ok : Bool} (k_regs : kc.regs = true) (k_pair : kc.pair = true) (k_evr : kc.evr = true)
    (hfol : Follows kc s0 s) : OutFollows kc s0 (execCopyResult f epoch ok s) := by
  unfold execCopyResult
  repeat' first
    | with_reducible assumption
    | intro _
    | with_reducible refine ite_folO ?_ ?_
    | with_reducible refine ite_fol ?_ ?_
    | with_reducible refine next_fol ?_
    | with_reducible refine updPair_fol ‹_› ?_
    | with_reducible refine linkOnly_fol ‹_› ‹_› ‹_› ?_
    | split
    | dsimp only

theorem execCopyTimeout_fol {kc : Touch} {s0 s : State} (k_time : kc.time = true) (k_regs : kc.regs = true) (k_pair : kc.pair = true) (k_evr : kc.evr = true)
    (hfol : Follows kc s0 s) : OutFollows kc s0 (execCopyTimeout s) := by
  unfold execCopyTimeout
  repeat' first
    | with_reducible assumption
    | with_reducible refine fol_fst (by assumption) ?_
    | with_reducible refine next_fol ?_
    | with_reducible refine advOp_fol ‹_› ?_
    | with_reducible refine copyFail_fol ‹_› ‹_› ‹_› ?_
    | split
    | dsimp only

end Sys2Proof.Machine
end

