-- ==== Sys2Proof/Laws/FolSlot.lean ====
section
/-!
SUPPORT. What the operations of Machine/Slot.lean may change: one lemma each.
-/

set_option Elab.async false

namespace Sys2Proof.Machine

open Sys2Proof

theorem fire_fol {kc : Touch} {s0 s : State} {k : Nat} (k_regs : kc.regs = true) (k_sched : kc.sched = true) (k_pair : kc.pair = true) (k_evr : kc.evr = true) (k_mac : kc.mac = true)
    (hfol : Follows kc s0 s) : Follows kc s0 (fire k s) := by
  unfold fire
  repeat' first
    | with_reducible assumption
    | with_reducible refine fol_fst (by assumption) ?_
    | intro _
    | with_reducible refine updPair_fol ‹_› ?_
    | with_reducible refine bump_fol ‹_› ?_
    | with_reducible refine finishJob_fol ‹_› ‹_› ‹_› ?_
    | with_reducible refine maxF_fol ‹_› ?_
    | with_reducible refine modPort_fol ‹_› ?_
    | with_reducible refine emit_fol ?_
    | split
    | dsimp only

theorem skip_fol {kc : Touch} {s0 s : State} {k : Nat} (k_regs : kc.regs = true) (k_sched : kc.sched = true) (k_evr : kc.evr = true) (k_mac : kc.mac = true)
    (hfol : Follows kc s0 s) : Follows kc s0 (skip k s) := by
  unfold skip
  repeat' first
    | with_reducible assumption
    | intro _
    | with_reducible refine ite_fol ?_ ?_
    | with_reducible refine bump_fol ‹_› ?_
    | with_reducible refine finishJob_fol ‹_› ‹_› ‹_› ?_
    | with_reducible refine modPort_fol ‹_› ?_
    | split
    | dsimp only

theorem beaconMissed_fol {kc : Touch} {s0 s : State} {k : Nat} {sf : Nat} (k_jr : kc.jr = true) (k_regs : kc.regs = true) (k_gmp : kc.gmp = true) (k_safe : kc.safe = true) (k_pair : kc.pair = true) (k_evr : kc.evr = true)
    (hfol : Follows kc s0 s) : Follows kc s0 (beaconMissed k sf s) := by
  unfold beaconMissed
  repeat' first
    | with_reducible assumption
    | with_reducible refine fol_fst (by assumption) ?_
    | with_reducible refine ite_fol ?_ ?_
    | with_reducible refine bump_fol ‹_› ?_
    | with_reducible refine postFault_fol ‹_› ‹_› ‹_› ‹_› ‹_› ‹_› ?_
    | split
    | dsimp only

theorem portSlot_fol {kc : Touch} {s0 s : State} {sf : Nat} {slot : Nat} {k : Nat} (k_jr : kc.jr = true) (k_regs : kc.regs = true) (k_gmp : kc.gmp = true) (k_safe : kc.safe = true) (k_sched : kc.sched = true) (k_pair : kc.pair = true) (k_evr : kc.evr = true) (k_mac : kc.mac = true)
    (hfol : Follows kc s0 s) : Follows kc s0 (portSlot sf slot k s) := by
  unfold portSlot
  repeat' first
    | with_reducible assumption
    | with_reducible refine ite_fol ?_ ?_
    | with_reducible refine beaconMissed_fol ‹_› ‹_› ‹_› ‹_› ‹_› ‹_› ?_
    | with_reducible refine fire_fol ‹_› ‹_› ‹_› ‹_› ‹_› ?_
    | with_reducible refine skip_fol ‹_› ‹_› ‹_› ‹_› ?_
    | with_reducible refine emit_fol ?_
    | split
    | dsimp only

theorem execSlotStart_fol {kc : Touch} {s0 s : State} {sf : Nat} {slot : Nat} (k_time : kc.time = true) (k_jr : kc.jr = true) (k_regs : kc.regs = true) (k_gmp : kc.gmp = true) (k_safe : kc.safe = true) (k_sched : kc.sched = true) (k_pair : kc.pair = true) (k_evr : kc.evr = true) (k_mac : kc.mac = true)
    (hfol : Follows kc s0 s) : OutFollows kc s0 (execSlotStart sf slot s) := by
  unfold execSlotStart
  repeat' first
    | with_reducible assumption
    | intro _
    | with_reducible refine ite_folO ?_ ?_
    | with_reducible refine ite_fol ?_ ?_
    | with_reducible refine next_fol ?_
    | with_reducible refine advTo_fol ‹_› ?_
    | with_reducible refine portSlot_fol ‹_› ‹_› ‹_› ‹_› ‹_› ‹_› ‹_› ‹_› ?_
    | with_reducible refine foldl_fol ?_ ?_
    | with_reducible refine foldl_fol1 ?_ ?_
    | split
    | dsimp only

theorem execRxstamp_fol {kc : Touch} {s0 s : State} {k : Nat} {ns : Nat} (k_time : kc.time = true) (k_mac : kc.mac = true)
    (hfol : Follows kc s0 s) : OutFollows kc s0 (execRxstamp k ns s) := by
  unfold execRxstamp
  repeat' first
    | with_reducible assumption
    | intro _
    | with_reducible refine ite_folO ?_ ?_
    | with_reducible refine ite_fol ?_ ?_
    | with_reducible refine next_fol ?_
    | with_reducible refine advTo_fol ‹_› ?_
    | with_reducible refine modPort_fol ‹_› ?_
    | split
    | dsimp only

theorem execStampOnly_fol {kc : Touch} {s0 s : State} {k : Nat} {seq : Nat} (k_time : kc.time = true) (k_regs : kc.regs = true) (k_mac : kc.mac = true)
    (hfol : Follows kc s0 s) : OutFollows kc s0 (execStampOnly k seq s) := by
  unfold execStampOnly
  repeat' first
    | with_reducible assumption
    | with_reducible refine fol_fst (by assumption) ?_
    | intro _
    | with_reducible refine ite_folO ?_ ?_
    | with_reducible refine ite_fol ?_ ?_
    | with_reducible refine next_fol ?_
    | with_reducible refine advTo_fol ‹_› ?_
    | with_reducible refine bump_fol ‹_› ?_
    | with_reducible refine modPort_fol ‹_› ?_
    | split
    | dsimp only

theorem execRxIrq_fol {kc : Touch} {s0 s : State} {k : Nat} (k_mac : kc.mac = true)
    (hfol : Follows kc s0 s) : OutFollows kc s0 (execRxIrq k s) := by
  unfold execRxIrq
  repeat' first
    | with_reducible assumption
    | intro _
    | with_reducible refine ite_folO ?_ ?_
    | with_reducible refine ite_fol ?_ ?_
    | with_reducible refine next_fol ?_
    | with_reducible refine modPort_fol ‹_› ?_
    | with_reducible refine emit_fol ?_
    | split
    | dsimp only

theorem hearBeacon_fol {kc : Touch} {s0 s : State} {k : Nat} {r : RxRead} (k_pair : kc.pair = true)
    (hfol : Follows kc s0 s) : Follows kc s0 (hearBeacon k r s) := by
  unfold hearBeacon
  repeat' first
    | with_reducible assumption
    | with_reducible refine fol_fst (by assumption) ?_
    | intro _
    | with_reducible refine ite_fol ?_ ?_
    | with_reducible refine updPair_fol ‹_› ?_
    | split
    | dsimp only

theorem takeIn_fol {kc : Touch} {s0 s : State} {k : Nat} {sf : Nat} {slot : Nat} {arrival : Nat} {r : RxRead} (k_regs : kc.regs = true) (k_mac : kc.mac = true)
    (hfol : Follows kc s0 s) : Follows kc s0 (takeIn k sf slot arrival r s) := by
  unfold takeIn
  repeat' first
    | with_reducible assumption
    | intro _
    | with_reducible refine ite_fol ?_ ?_
    | with_reducible refine updMac_fol ‹_› ?_
    | with_reducible refine bump_fol ‹_› ?_
    | with_reducible refine macCnt_fol ‹_› ?_
    | split
    | dsimp only

theorem rxAccept_fol {kc : Touch} {s0 s : State} {k : Nat} {r : RxRead} (k_regs : kc.regs = true) (k_mac : kc.mac = true)
    (hfol : Follows kc s0 s) : Follows kc s0 (rxAccept k r s) := by
  unfold rxAccept
  repeat' first
    | with_reducible assumption
    | with_reducible refine fol_fst (by assumption) ?_
    | intro _
    | with_reducible refine ite_fol ?_ ?_
    | with_reducible refine ite_fol1 ?_ ?_
    | with_reducible refine bump_fol ‹_› ?_
    | with_reducible refine modPort_fol ‹_› ?_
    | with_reducible refine takeIn_fol ‹_› ‹_› ?_
    | split
    | dsimp only

theorem rxTake_fol {kc : Touch} {s0 s : State} {k : Nat} {r : RxRead} (k_regs : kc.regs = true) (k_pair : kc.pair = true) (k_mac : kc.mac = true)
    (hfol : Follows kc s0 s) : Follows kc s0 (rxTake k r s) := by
  unfold rxTake
  repeat' first
    | with_reducible assumption
    | intro _
    | with_reducible refine hearBeacon_fol ‹_› ?_
    | with_reducible refine modPort_fol ‹_› ?_
    | with_reducible refine rxAccept_fol ‹_› ‹_› ?_
    | split
    | dsimp only

theorem execRxRead_fol {kc : Touch} {s0 s : State} {k : Nat} {r : HeadResp} {f : Option RxRead} (k_regs : kc.regs = true) (k_safe : kc.safe = true) (k_pair : kc.pair = true) (k_evr : kc.evr = true) (k_mac : kc.mac = true) (k_lkp : kc.lkp = true)
    (hfol : Follows kc s0 s) : OutFollows kc s0 (execRxRead k r f s) := by
  unfold execRxRead
  repeat' first
    | with_reducible assumption
    | with_reducible refine fol_fst (by assumption) ?_
    | intro _
    | with_reducible refine ite_folO ?_ ?_
    | with_reducible refine ite_fol ?_ ?_
    | with_reducible refine next_fol ?_
    | with_reducible refine attempt_fol ‹_› ‹_› ‹_› ‹_› ‹_› ?_
    | with_reducible refine modPort_fol ‹_› ?_
    | with_reducible refine rxTake_fol ‹_› ‹_› ‹_› ?_
    | with_reducible refine emit_fol ?_
    | split
    | dsimp only

end Sys2Proof.Machine
end

