-- ==== Sys2Proof/Laws/FolUpdate.lean ====
section
/-!
SUPPORT. What the operations of Machine/Update.lean may change: one lemma each.
-/

set_option Elab.async false

namespace Sys2Proof.Machine

open Sys2Proof

theorem modFw_fol {kc : Touch} {s0 s : State} {i : Nat} {f : FwSlot → FwSlot} (k_nvm : kc.nvm = true)
    (hfol : Follows kc s0 s) : Follows kc s0 (modFw i f s) := by
  unfold modFw
  repeat' first
    | with_reducible assumption
    | intro _
    | with_reducible refine updNvm_fol ‹_› ?_
    | split
    | dsimp only

theorem updMsg_fol {kc : Touch} {s0 s : State} {h : GmpHdr} {typ : Nat} {f : State → State × (Nat × List Nat)} (k_regs : kc.regs = true) (k_gmp : kc.gmp = true) (k_upd : kc.upd = true) (k_sess : kc.sess = true)
    (f_f : ∀ (t : State), Follows kc s0 t → Follows kc s0 (f t).1)
    (hfol : Follows kc s0 s) : Follows kc s0 (updMsg h typ f s) := by
  unfold updMsg
  repeat' first
    | with_reducible assumption
    | intro _
    | with_reducible refine updUpd_fol ‹_› ?_
    | with_reducible refine gmpPlain_fol ‹_› ‹_› ‹_› ?_ ?_
    | with_reducible apply f_f
    | split
    | dsimp only

theorem updBegin_fol {kc : Touch} {s0 s : State} {target : Nat} {length : Nat} (k_nvm : kc.nvm = true) (k_upd : kc.upd = true)
    (hfol : Follows kc s0 s) : Follows kc s0 (updBegin target length s).1 := by
  unfold updBegin
  repeat' first
    | with_reducible assumption
    | intro _
    | with_reducible refine ite_fol1 ?_ ?_
    | with_reducible refine ite_fol ?_ ?_
    | with_reducible refine updUpd_fol ‹_› ?_
    | with_reducible refine modFw_fol ‹_› ?_
    | split
    | dsimp only

theorem execUpdBegin_fol {kc : Touch} {s0 s : State} {h : GmpHdr} {target : Nat} {length : Nat} (k_regs : kc.regs = true) (k_gmp : kc.gmp = true) (k_nvm : kc.nvm = true) (k_upd : kc.upd = true) (k_sess : kc.sess = true)
    (hfol : Follows kc s0 s) : OutFollows kc s0 (execUpdBegin h target length s) := by
  unfold execUpdBegin
  repeat' first
    | with_reducible assumption
    | intro _
    | with_reducible refine next_fol ?_
    | with_reducible refine updBegin_fol ‹_› ‹_› ?_
    | with_reducible refine updMsg_fol ‹_› ‹_› ‹_› ‹_› ?_ ?_
    | split
    | dsimp only

theorem execUpdEraseDone_fol {kc : Touch} {s0 s : State} {ok0 : Bool} {ok1 : Bool} (k_regs : kc.regs = true) (k_evr : kc.evr = true) (k_nvm : kc.nvm = true) (k_upd : kc.upd = true)
    (hfol : Follows kc s0 s) : OutFollows kc s0 (execUpdEraseDone ok0 ok1 s) := by
  unfold execUpdEraseDone
  repeat' first
    | with_reducible assumption
    | intro _
    | with_reducible refine ite_folO ?_ ?_
    | with_reducible refine ite_fol ?_ ?_
    | with_reducible refine next_fol ?_
    | with_reducible refine updUpd_fol ‹_› ?_
    | with_reducible refine modFw_fol ‹_› ?_
    | with_reducible refine nvmWrite_fol ‹_› ‹_› ‹_› ?_
    | split
    | dsimp only

theorem blockStore_fol {kc : Touch} {s0 s : State} {b : UpdBlockIn} (k_regs : kc.regs = true) (k_evr : kc.evr = true) (k_nvm : kc.nvm = true) (k_upd : kc.upd = true)
    (hfol : Follows kc s0 s) : Follows kc s0 (blockStore b s).1 := by
  unfold blockStore
  repeat' first
    | with_reducible assumption
    | with_reducible refine fol_fst (by assumption) ?_
    | intro _
    | with_reducible refine ite_fol1 ?_ ?_
    | with_reducible refine ite_fol ?_ ?_
    | with_reducible refine updUpd_fol ‹_› ?_
    | with_reducible refine bump_fol ‹_› ?_
    | with_reducible refine modFw_fol ‹_› ?_
    | with_reducible refine nvmWrite_fol ‹_› ‹_› ‹_› ?_
    | split
    | dsimp only

theorem updBlock_fol {kc : Touch} {s0 s : State} {b : UpdBlockIn} (k_regs : kc.regs = true) (k_evr : kc.evr = true) (k_nvm : kc.nvm = true) (k_upd : kc.upd = true)
    (hfol : Follows kc s0 s) : Follows kc s0 (updBlock b s).1 := by
  unfold updBlock
  repeat' first
    | with_reducible assumption
    | intro _
    | with_reducible refine ite_fol1 ?_ ?_
    | with_reducible refine ite_fol ?_ ?_
    | with_reducible refine updUpd_fol ‹_› ?_
    | with_reducible refine blockStore_fol ‹_› ‹_› ‹_› ‹_› ?_
    | with_reducible refine bump_fol ‹_› ?_
    | split
    | dsimp only

theorem execUpdBlock_fol {kc : Touch} {s0 s : State} {h : GmpHdr} {offset : Nat} {dlen : Nat} {crc : Nat} {data : List Nat} {ok0 : Bool} {ok1 : Bool} {same : Bool} (k_regs : kc.regs = true) (k_gmp : kc.gmp = true) (k_evr : kc.evr = true) (k_nvm : kc.nvm = true) (k_upd : kc.upd = true) (k_sess : kc.sess = true)
    (hfol : Follows kc s0 s) : OutFollows kc s0 (execUpdBlock h offset dlen crc data ok0 ok1 same s) := by
  unfold execUpdBlock
  repeat' first
    | with_reducible assumption
    | intro _
    | with_reducible refine next_fol ?_
    | with_reducible refine updBlock_fol ‹_› ‹_› ‹_› ‹_› ?_
    | with_reducible refine updMsg_fol ‹_› ‹_› ‹_› ‹_› ?_ ?_
    | split
    | dsimp only

theorem execUpdStatus_fol {kc : Touch} {s0 s : State} {h : GmpHdr} (k_regs : kc.regs = true) (k_gmp : kc.gmp = true) (k_upd : kc.upd = true) (k_sess : kc.sess = true)
    (hfol : Follows kc s0 s) : OutFollows kc s0 (execUpdStatus h s) := by
  unfold execUpdStatus
  repeat' first
    | with_reducible assumption
    | intro _
    | with_reducible refine next_fol ?_
    | with_reducible refine updMsg_fol ‹_› ‹_› ‹_› ‹_› ?_ ?_
    | split
    | dsimp only

theorem updVerify_fol {kc : Touch} {s0 s : State} {sig : Bool} (k_regs : kc.regs = true) (k_upd : kc.upd = true)
    (hfol : Follows kc s0 s) : Follows kc s0 (updVerify sig s).1 := by
  unfold updVerify
  repeat' first
    | with_reducible assumption
    | intro _
    | with_reducible refine ite_fol1 ?_ ?_
    | with_reducible refine ite_fol ?_ ?_
    | with_reducible refine updUpd_fol ‹_› ?_
    | with_reducible refine bump_fol ‹_› ?_
    | split
    | dsimp only

theorem execUpdVerify_fol {kc : Touch} {s0 s : State} {h : GmpHdr} {sig : Bool} (k_regs : kc.regs = true) (k_gmp : kc.gmp = true) (k_upd : kc.upd = true) (k_sess : kc.sess = true)
    (hfol : Follows kc s0 s) : OutFollows kc s0 (execUpdVerify h sig s) := by
  unfold execUpdVerify
  repeat' first
    | with_reducible assumption
    | intro _
    | with_reducible refine next_fol ?_
    | with_reducible refine updMsg_fol ‹_› ‹_› ‹_› ‹_› ?_ ?_
    | with_reducible refine updVerify_fol ‹_› ‹_› ?_
    | split
    | dsimp only

theorem primerCopy_fol {kc : Touch} {s0 s : State} {ok0 : Bool} {ok1 : Bool} (k_regs : kc.regs = true) (k_evr : kc.evr = true) (k_nvm : kc.nvm = true)
    (hfol : Follows kc s0 s) : Follows kc s0 (primerCopy ok0 ok1 s).1 := by
  unfold primerCopy
  repeat' first
    | with_reducible assumption
    | intro _
    | with_reducible refine ite_fol1 ?_ ?_
    | with_reducible refine ite_fol ?_ ?_
    | with_reducible refine updNvm_fol ‹_› ?_
    | with_reducible refine modFw_fol ‹_› ?_
    | with_reducible refine nvmWrite_fol ‹_› ‹_› ‹_› ?_
    | split
    | dsimp only

theorem updActivate_fol {kc : Touch} {s0 s : State} {ok0 : Bool} {ok1 : Bool} (k_regs : kc.regs = true) (k_evr : kc.evr = true) (k_nvm : kc.nvm = true)
    (hfol : Follows kc s0 s) : Follows kc s0 (updActivate ok0 ok1 s).1 := by
  unfold updActivate
  repeat' first
    | with_reducible assumption
    | intro _
    | with_reducible refine ite_fol1 ?_ ?_
    | with_reducible refine ite_fol ?_ ?_
    | with_reducible refine evTrig_fol ‹_› ‹_› ?_
    | with_reducible refine hdrWrite_fol ‹_› ‹_› ‹_› ?_
    | with_reducible refine primerCopy_fol ‹_› ‹_› ‹_› ?_
    | split
    | dsimp only

theorem execUpdActivate_fol {kc : Touch} {s0 s : State} {h : GmpHdr} {ok0 : Bool} {ok1 : Bool} (k_time : kc.time = true) (k_jr : kc.jr = true) (k_regs : kc.regs = true) (k_gmp : kc.gmp = true) (k_safe : kc.safe = true) (k_fix : kc.fix = true) (k_scr : kc.scr = true) (k_memb : kc.memb = true) (k_sched : kc.sched = true) (k_loop : kc.loop = true) (k_pair : kc.pair = true) (k_evr : kc.evr = true) (k_key : kc.key = true) (k_pcr : kc.pcr = true) (k_nvm : kc.nvm = true) (k_upd : kc.upd = true) (k_mem : kc.mem = true) (k_hod : kc.hod = true) (k_snag : kc.snag = true) (k_mac : kc.mac = true) (k_lkp : kc.lkp = true) (k_mark : kc.mark = true) (k_gen : kc.gen = true) (k_role : kc.role = true) (k_sess : kc.sess = true)
    (hfol : Follows kc s0 s) : OutFollows kc s0 (execUpdActivate h ok0 ok1 s) := by
  unfold execUpdActivate
  repeat' first
    | with_reducible assumption
    | with_reducible refine fol_fst (by assumption) ?_
    | intro _
    | with_reducible refine ite_folO ?_ ?_
    | with_reducible refine ite_fol ?_ ?_
    | with_reducible refine next_fol ?_
    | with_reducible refine gmpIntake_fol ‹_› ‹_› ‹_› ?_
    | with_reducible refine selfReset_fol ‹_› ‹_› ‹_› ‹_› ‹_› ‹_› ‹_› ‹_› ‹_› ‹_› ‹_› ‹_› ‹_› ‹_› ‹_› ‹_› ‹_› ‹_› ‹_› ‹_› ‹_› ‹_› ‹_› ‹_› ‹_› ?_
    | with_reducible refine updActivate_fol ‹_› ‹_› ‹_› ?_
    | with_reducible refine updMsg_fol ‹_› ‹_› ‹_› ‹_› ?_ ?_
    | split
    | dsimp only

theorem updConfirm_fol {kc : Touch} {s0 s : State} {ok0 : Bool} {ok1 : Bool} (k_regs : kc.regs = true) (k_evr : kc.evr = true) (k_nvm : kc.nvm = true) (k_upd : kc.upd = true)
    (hfol : Follows kc s0 s) : Follows kc s0 (updConfirm ok0 ok1 s).1 := by
  unfold updConfirm
  repeat' first
    | with_reducible assumption
    | intro _
    | with_reducible refine ite_fol1 ?_ ?_
    | with_reducible refine ite_fol ?_ ?_
    | with_reducible refine updUpd_fol ‹_› ?_
    | with_reducible refine hdrWrite_fol ‹_› ‹_› ‹_› ?_
    | split
    | dsimp only

theorem execUpdConfirm_fol {kc : Touch} {s0 s : State} {h : GmpHdr} {ok0 : Bool} {ok1 : Bool} (k_regs : kc.regs = true) (k_gmp : kc.gmp = true) (k_evr : kc.evr = true) (k_nvm : kc.nvm = true) (k_upd : kc.upd = true) (k_sess : kc.sess = true)
    (hfol : Follows kc s0 s) : OutFollows kc s0 (execUpdConfirm h ok0 ok1 s) := by
  unfold execUpdConfirm
  repeat' first
    | with_reducible assumption
    | intro _
    | with_reducible refine next_fol ?_
    | with_reducible refine updConfirm_fol ‹_› ‹_› ‹_› ‹_› ?_
    | with_reducible refine updMsg_fol ‹_› ‹_› ‹_› ‹_› ?_ ?_
    | split
    | dsimp only

theorem updAbort_fol {kc : Touch} {s0 s : State} (k_nvm : kc.nvm = true) (k_upd : kc.upd = true)
    (hfol : Follows kc s0 s) : Follows kc s0 (updAbort s).1 := by
  unfold updAbort
  repeat' first
    | with_reducible assumption
    | intro _
    | with_reducible refine ite_fol1 ?_ ?_
    | with_reducible refine ite_fol ?_ ?_
    | with_reducible refine updUpd_fol ‹_› ?_
    | with_reducible refine updFree_fol (fun _ => by omega) ?_
    | with_reducible refine modFw_fol ‹_› ?_
    | split
    | dsimp only

theorem execUpdAbort_fol {kc : Touch} {s0 s : State} {h : GmpHdr} (k_regs : kc.regs = true) (k_gmp : kc.gmp = true) (k_nvm : kc.nvm = true) (k_upd : kc.upd = true) (k_sess : kc.sess = true)
    (hfol : Follows kc s0 s) : OutFollows kc s0 (execUpdAbort h s) := by
  unfold execUpdAbort
  repeat' first
    | with_reducible assumption
    | intro _
    | with_reducible refine next_fol ?_
    | with_reducible refine updAbort_fol ‹_› ‹_› ?_
    | with_reducible refine updMsg_fol ‹_› ‹_› ‹_› ‹_› ?_ ?_
    | split
    | dsimp only

theorem execUpdInfo_fol {kc : Touch} {s0 s : State} {h : GmpHdr} {good : Bool} (k_regs : kc.regs = true) (k_gmp : kc.gmp = true) (k_upd : kc.upd = true) (k_sess : kc.sess = true)
    (hfol : Follows kc s0 s) : OutFollows kc s0 (execUpdInfo h good s) := by
  unfold execUpdInfo
  repeat' first
    | with_reducible assumption
    | intro _
    | with_reducible refine next_fol ?_
    | with_reducible refine updMsg_fol ‹_› ‹_› ‹_› ‹_› ?_ ?_
    | split
    | dsimp only

theorem execTrialTimeout_fol {kc : Touch} {s0 s : State} (k_time : kc.time = true) (k_jr : kc.jr = true) (k_regs : kc.regs = true) (k_gmp : kc.gmp = true) (k_safe : kc.safe = true) (k_fix : kc.fix = true) (k_scr : kc.scr = true) (k_memb : kc.memb = true) (k_sched : kc.sched = true) (k_loop : kc.loop = true) (k_pair : kc.pair = true) (k_evr : kc.evr = true) (k_key : kc.key = true) (k_pcr : kc.pcr = true) (k_nvm : kc.nvm = true) (k_upd : kc.upd = true) (k_mem : kc.mem = true) (k_hod : kc.hod = true) (k_snag : kc.snag = true) (k_mac : kc.mac = true) (k_lkp : kc.lkp = true) (k_mark : kc.mark = true) (k_gen : kc.gen = true) (k_role : kc.role = true) (k_sess : kc.sess = true)
    (hfol : Follows kc s0 s) : OutFollows kc s0 (execTrialTimeout s) := by
  unfold execTrialTimeout
  repeat' first
    | with_reducible assumption
    | with_reducible refine fol_fst (by assumption) ?_
    | with_reducible refine ite_folO ?_ ?_
    | with_reducible refine ite_fol ?_ ?_
    | with_reducible refine next_fol ?_
    | with_reducible refine advOp_fol ‹_› ?_
    | with_reducible refine evTrig_fol ‹_› ‹_› ?_
    | with_reducible refine selfReset_fol ‹_› ‹_› ‹_› ‹_› ‹_› ‹_› ‹_› ‹_› ‹_› ‹_› ‹_› ‹_› ‹_› ‹_› ‹_› ‹_› ‹_› ‹_› ‹_› ‹_› ‹_› ‹_› ‹_› ‹_› ‹_› ?_
    | split
    | dsimp only

end Sys2Proof.Machine
end

