-- ==== Sys2Proof/Laws/Words.lean ====
section
/-!
SUPPORT. The register store: a word in force after a write, and which words a piece of work may change.
-/

set_option Elab.async false

namespace Sys2Proof.Machine

open Sys2Proof

/-- A word in force after a word is written. -/
theorem forceW_setForce {s : State} {k j : Nat} {w : Word} :
    forceW (setForce k w s) j = if j = k then w else forceW s j := by
  show kget (dfltOf s.part j) (kset (dfltOf s.part k) s.regs.force k w) j = _
  by_cases e : j = k
  · subst e; rw [kget_kset, if_pos rfl, if_pos rfl]
  · rw [if_neg e]
    show (kfind _ j).getD _ = (kfind _ j).getD _
    unfold kset
    split
    · rw [kfind_kdel, if_neg e]
    · rw [kfind_kins, if_neg e]

/-- Work that changes no word in force but those `P` names. -/
structure Words (P : Nat → Bool) (s t : State) : Prop where
  part : t.part = s.part
  canon : s.regs.canon s.part = true → t.regs.canon t.part = true
  words : ∀ k, P k = false → forceW t k = forceW s k
  staged : t.regs.staged.filter (fun e => !P e.1) = s.regs.staged.filter (fun e => !P e.1)

/-- Nothing has changed. -/
theorem Words.refl (P : Nat → Bool) (s : State) : Words P s s := ⟨rfl, id, fun _ _ => rfl, rfl⟩

/-- One piece of work after another. -/
theorem Words.trans {P : Nat → Bool} {s t u : State} (a : Words P s t) (b : Words P t u) : Words P s u :=
  ⟨b.part.trans a.part, b.canon ∘ a.canon, fun k h => (b.words k h).trans (a.words k h), b.staged.trans a.staged⟩

/-- Work that leaves the store. -/
theorem Words.of_regs {P : Nat → Bool} {s t : State} (hp : t.part = s.part) (hr : t.regs = s.regs) : Words P s t :=
  ⟨hp, fun c => by rw [hr, hp]; exact c, fun k _ => by unfold forceW; rw [hr, hp], by rw [hr]⟩

/-- Work that follows without touching the store. -/
theorem Words.of_follows {P : Nat → Bool} {c : Touch} {s t : State} (h : Follows c s t) (hc : c.regs = false) : Words P s t :=
  Words.of_regs h.part (h.regs hc)

theorem setForce_words {P : Nat → Bool} {s0 s : State} {k : Nat} {w : Word} (hk : P k = true) (h : Words P s0 s) :
    Words P s0 (setForce k w s) := by
  refine h.trans ⟨rfl, fun c => ?_, fun j hj => ?_, ?_⟩
  · exact (setForce_fol (kc := { regs := true }) rfl (Follows.refl _ _)).canon c
  · rw [forceW_setForce, if_neg]
    intro e; subst e; rw [hk] at hj; cases hj
  · show List.filter _ (if kget w s.regs.staged k = w then kdel s.regs.staged k else s.regs.staged) = _
    split
    · exact filter_kdel (p := fun k => !P k) (by simp [hk])
    · rfl

theorem putFld_words {P : Nat → Bool} {s0 s : State} {a hi lo v : Nat} (hk : P (rkey a) = true) (h : Words P s0 s) :
    Words P s0 (putFld a hi lo v s) := setForce_words hk h

theorem bumpF_words {P : Nat → Bool} {s0 s : State} {a hi lo n : Nat} (hk : P (rkey a) = true) (h : Words P s0 s) :
    Words P s0 (bumpF a hi lo n s) := setForce_words hk h

theorem bump_words {P : Nat → Bool} {s0 s : State} {a : Nat} (hk : P (rkey a) = true) (h : Words P s0 s) :
    Words P s0 (bump a s) := setForce_words hk h

theorem bumpW_words {P : Nat → Bool} {s0 s : State} {sel w a : Nat} (hk : P (wkey sel w a) = true) (h : Words P s0 s) :
    Words P s0 (bumpW sel w a s) := setForce_words hk h

theorem alarm_words {P : Nat → Bool} {s0 s : State} {a b : Nat} (hk : P (rkey a) = true) (h : Words P s0 s) :
    Words P s0 (alarm a b s) := setForce_words hk h

theorem updTime_words {P : Nat → Bool} {s0 s : State} {f : TimeS → TimeS} (h : Words P s0 s) : Words P s0 (s.updTime f) :=
  ⟨h.part, h.canon, h.words, h.staged⟩

theorem updJr_words {P : Nat → Bool} {s0 s : State} {f : JrnlS → JrnlS} (h : Words P s0 s) : Words P s0 (s.updJr f) :=
  ⟨h.part, h.canon, h.words, h.staged⟩

theorem updGmp_words {P : Nat → Bool} {s0 s : State} {f : GmpS → GmpS} (h : Words P s0 s) : Words P s0 (s.updGmp f) :=
  ⟨h.part, h.canon, h.words, h.staged⟩

theorem updSafe_words {P : Nat → Bool} {s0 s : State} {f : SafeS → SafeS} (h : Words P s0 s) : Words P s0 (s.updSafe f) :=
  ⟨h.part, h.canon, h.words, h.staged⟩

theorem updFix_words {P : Nat → Bool} {s0 s : State} {f : FixS → FixS} (h : Words P s0 s) : Words P s0 (s.updFix f) :=
  ⟨h.part, h.canon, h.words, h.staged⟩

theorem updScr_words {P : Nat → Bool} {s0 s : State} {f : ScrS → ScrS} (h : Words P s0 s) : Words P s0 (s.updScr f) :=
  ⟨h.part, h.canon, h.words, h.staged⟩

theorem updMemb_words {P : Nat → Bool} {s0 s : State} {f : MembS → MembS} (h : Words P s0 s) : Words P s0 (s.updMemb f) :=
  ⟨h.part, h.canon, h.words, h.staged⟩

theorem updSched_words {P : Nat → Bool} {s0 s : State} {f : SchedS → SchedS} (h : Words P s0 s) : Words P s0 (s.updSched f) :=
  ⟨h.part, h.canon, h.words, h.staged⟩

theorem updLoop_words {P : Nat → Bool} {s0 s : State} {f : LoopS → LoopS} (h : Words P s0 s) : Words P s0 (s.updLoop f) :=
  ⟨h.part, h.canon, h.words, h.staged⟩

theorem updPair_words {P : Nat → Bool} {s0 s : State} {f : PairS → PairS} (h : Words P s0 s) : Words P s0 (s.updPair f) :=
  ⟨h.part, h.canon, h.words, h.staged⟩

theorem updEvr_words {P : Nat → Bool} {s0 s : State} {f : EvrS → EvrS} (h : Words P s0 s) : Words P s0 (s.updEvr f) :=
  ⟨h.part, h.canon, h.words, h.staged⟩

theorem updKey_words {P : Nat → Bool} {s0 s : State} {f : KeyS → KeyS} (h : Words P s0 s) : Words P s0 (s.updKey f) :=
  ⟨h.part, h.canon, h.words, h.staged⟩

theorem updPcr_words {P : Nat → Bool} {s0 s : State} {f : PcrS → PcrS} (h : Words P s0 s) : Words P s0 (s.updPcr f) :=
  ⟨h.part, h.canon, h.words, h.staged⟩

theorem updNvm_words {P : Nat → Bool} {s0 s : State} {f : NvmS → NvmS} (h : Words P s0 s) : Words P s0 (s.updNvm f) :=
  ⟨h.part, h.canon, h.words, h.staged⟩

theorem updUpd_words {P : Nat → Bool} {s0 s : State} {f : UpdS → UpdS} (h : Words P s0 s) : Words P s0 (s.updUpd f) :=
  ⟨h.part, h.canon, h.words, h.staged⟩

theorem updMem_words {P : Nat → Bool} {s0 s : State} {f : MemS → MemS} (h : Words P s0 s) : Words P s0 (s.updMem f) :=
  ⟨h.part, h.canon, h.words, h.staged⟩

theorem updHod_words {P : Nat → Bool} {s0 s : State} {f : HodS → HodS} (h : Words P s0 s) : Words P s0 (s.updHod f) :=
  ⟨h.part, h.canon, h.words, h.staged⟩

theorem updSnag_words {P : Nat → Bool} {s0 s : State} {f : SnagS → SnagS} (h : Words P s0 s) : Words P s0 (s.updSnag f) :=
  ⟨h.part, h.canon, h.words, h.staged⟩

theorem updMac_words {P : Nat → Bool} {s0 s : State} {f : MacS → MacS} (h : Words P s0 s) : Words P s0 (s.updMac f) :=
  ⟨h.part, h.canon, h.words, h.staged⟩

theorem updLkp_words {P : Nat → Bool} {s0 s : State} {f : LkpS → LkpS} (h : Words P s0 s) : Words P s0 (s.updLkp f) :=
  ⟨h.part, h.canon, h.words, h.staged⟩

theorem updOut_words {P : Nat → Bool} {s0 s : State} {f : List Output → List Output} (h : Words P s0 s) : Words P s0 (s.updOut f) :=
  ⟨h.part, h.canon, h.words, h.staged⟩

/-- A field of a register in force, where its word has not changed. -/
theorem cfg_words {P : Nat → Bool} {s t : State} {a hi lo : Nat} (h : Words P s t)
    (hk : P (rkey a) = false) : cfg t a hi lo = cfg s a hi lo := by unfold cfg; rw [h.words _ hk]

/-- A field of a windowed register in force, where its word has not changed. -/
theorem cfgW_words {P : Nat → Bool} {s t : State} {sel w a hi lo : Nat} (h : Words P s t)
    (hk : P (wkey sel w a) = false) : cfgW t sel w a hi lo = cfgW s sel w a hi lo := by unfold cfgW; rw [h.words _ hk]

end Sys2Proof.Machine
end

