-- ==== Sys2Proof/Laws/Gmp.lean ====
section
/-!
SUPPORT. GMP requests: what the gate, the entry, the decision and the response each come to for a request that nothing
turns away.
-/

set_option Elab.async false

namespace Sys2Proof.Machine

open Sys2Proof

/-- The cache and the sessions but for packs and queues. -/
structure GmpLike (s t : State) : Prop where
  sess : SessLike t.gmp.sess s.gmp.sess
  cache : t.gmp.cache = s.gmp.cache

theorem GmpLike.refl (s : State) : GmpLike s s := ⟨rfl, rfl⟩

theorem GmpLike.trans {s t u : State} (a : GmpLike s t) (b : GmpLike t u) : GmpLike s u :=
  ⟨b.sess.trans a.sess, b.cache.trans a.cache⟩

theorem GmpLike.of_eq {s t : State} (h : t.gmp = s.gmp) : GmpLike s t := by
  constructor
  · rw [h]; rfl
  · rw [h]

/-- Work that leaves the sessions but for packs and queues, and the cache. -/
theorem Follows.like {c : Touch} {s t : State} (h : Follows c s t) (hc : c.sess = false) : GmpLike s t :=
  ⟨(h.sess hc).1, (h.sess hc).2⟩

/-! One entry of the sequencer (02_journal R42 to R44, R51, R52). -/

/-- The words that an entry may change: JOURNAL_GAP, and the count of notifications dropped. -/
def entryWords (k : Nat) : Bool := k == rkey Addr.TOP_CFG_ALARM || k == rkey (Addr.NET_CNT + 24)

theorem notify_words (t : Nat) (p : Nat → Bool) (i : NItem) (s : State) : Words entryWords s (notify t p i s) := by
  unfold notify
  dsimp only
  split
  · exact updGmp_words (Words.refl _ _)
  · refine bumpF_words ?_ (updGmp_words (Words.refl _ _))
    decide

theorem overwriteRing_words (s : State) : Words entryWords s (overwriteRing s) := by
  unfold overwriteRing
  dsimp only
  split
  · exact Words.refl _ _
  · have g (f : JrnlS → JrnlS) (h : GmpS → GmpS) :
        Words entryWords s ((alarm Addr.TOP_CFG_ALARM 2 (s.updJr f)).updGmp h) :=
      updGmp_words (alarm_words (P := entryWords) (a := Addr.TOP_CFG_ALARM) (by decide) (updJr_words (Words.refl _ _)))
    split
    · split
      · exact updJr_words (g _ _)
      · exact g _ _
    · exact g _ _

/-- What stays of the journal when the ring gives up entries: all but the ring, what has left it, and the partner's place. -/
def JrnlS.spine (j : JrnlS) : JrnlS := { j with ring := [], gone := (0, 0), partner := none }

/-- Journals with one spine agree on the present superframe and the last position. -/
theorem JrnlS.spine_pos {j k : JrnlS} (h : j.spine = k.spine) : j.sf = k.sf ∧ j.lastSf = k.lastSf ∧ j.lastSeq = k.lastSeq :=
  ⟨congrArg (f := fun q : JrnlS => q.sf) (a₁ := j.spine) (a₂ := k.spine) h, congrArg (f := fun q : JrnlS => q.lastSf) (a₁ := j.spine) (a₂ := k.spine) h,
   congrArg (f := fun q : JrnlS => q.lastSeq) (a₁ := j.spine) (a₂ := k.spine) h⟩

theorem freeRing_spine (s : State) : (freeRing s).jr.spine = s.jr.spine := rfl

theorem overwriteRing_spine (s : State) : (overwriteRing s).jr.spine = s.jr.spine := by
  unfold overwriteRing
  dsimp only
  split
  · rfl
  · split
    · split <;> rfl
    · rfl

/-- The journal's spine after one entry: the last position is that of the entry, and the next follows it. -/
theorem jWrite_spine (src arr : Nat) (p : Payload) (s : State) :
    (jWrite src arr p s).jr.spine = { s.jr with lastSf := s.jr.sf, lastSeq := s.jr.nextSeq, nextSeq := s.jr.nextSeq + 1 }.spine := by
  unfold jWrite
  dsimp only
  rw [overwriteRing_spine, freeRing_spine]
  show (notify 6 _ _ _).jr.spine = _
  have h (x : State) (q : Nat → Bool) (i : NItem) : (notify 6 q i x).jr = x.jr :=
    (notify_fol (kc := { regs := true, gmp := true }) rfl rfl (Follows.refl _ x)).jr rfl
  rw [h]
  have h2 (e : JEntry) (x : State) : (forward e x).jr = x.jr :=
    (forward_fol (kc := { pair := true }) rfl (Follows.refl _ x)).jr rfl
  rw [h2]
  rfl

theorem freeRing_words (P : Nat → Bool) (s : State) : Words P s (freeRing s) := Words.of_regs rfl rfl

theorem jWrite_words (src arr : Nat) (p : Payload) (s : State) : Words entryWords s (jWrite src arr p s) := by
  unfold jWrite
  dsimp only
  refine Words.trans ?_ (overwriteRing_words _)
  refine Words.trans ?_ (freeRing_words _ _)
  refine updGmp_words ?_
  refine Words.trans ?_ (notify_words _ _ _ _)
  have h (e : JEntry) (x : State) : Words entryWords x (forward e x) :=
    Words.of_follows (forward_fol (kc := { pair := true }) rfl (Follows.refl _ _)) rfl
  exact Words.trans (updJr_words (Words.refl _ _)) (h _ _)

/-- One entry changes the journal, two words, packs and what is forwarded. -/
theorem jWrite_only (src arr : Nat) (p : Payload) (s : State) :
    Follows { jr := true, regs := true, gmp := true, pair := true } s (jWrite src arr p s) := by
  with_reducible exact jWrite_fol (by rfl) (by rfl) (by rfl) (by rfl) (Follows.refl _ s)

theorem forward_pair (e : JEntry) (s : State) : (forward e s).pair = { s.pair with fwd := (forward e s).pair.fwd } := by
  unfold forward
  dsimp only
  split <;> rfl

/-- An entry leaves the pair but for what it forwards (16_pair R418). -/
theorem jWrite_pair (src arr : Nat) (p : Payload) (s : State) :
    (jWrite src arr p s).pair = { s.pair with fwd := (jWrite src arr p s).pair.fwd } := by
  have h1 (x : State) : (overwriteRing x).pair = x.pair :=
    (overwriteRing_fol (kc := { jr := true, regs := true, gmp := true }) rfl rfl rfl (Follows.refl _ x)).pair rfl
  have h2 (x : State) (q : Nat → Bool) (i : NItem) : (notify 6 q i x).pair = x.pair :=
    (notify_fol (kc := { regs := true, gmp := true }) rfl rfl (Follows.refl _ x)).pair rfl
  have k : ∃ e f, (jWrite src arr p s).pair = (forward e (s.updJr f)).pair := by
    unfold jWrite
    dsimp only
    rw [h1]
    exact ⟨_, _, h2 _ _ _⟩
  obtain ⟨e, f, k⟩ := k
  rw [k, forward_pair]
  rfl

/-! Sessions and the replay cache. -/

theorem session_modSession (k : Nat) (f : Session → Session) (s : State) (j : Nat) :
    session (modSession k f s) j = if j = k then (session s k).map f else session s j := by
  unfold session modSession
  split
  · rename_i x hx
    show kfind (kins s.gmp.sess k (f x)) j = _
    rw [kfind_kins, hx]
    rfl
  · rename_i hx
    by_cases e : j = k
    · subst e; simp [hx]
    · simp [e]

theorem modSession_cache (k : Nat) (f : Session → Session) (s : State) : (modSession k f s).gmp.cache = s.gmp.cache := by
  unfold modSession
  split <;> rfl

/-! A journalled request that nothing turns away. -/

/-- The state once a record has passed the envelope: its session has heard it. -/
def gmpSeen (h : GmpHdr) (s : State) : State := modSession h.sess (fun y => { y with lastAt := s.time.op, port := h.port }) s

theorem gmpEnvelope_open {h : GmpHdr} {x : Session} {s : State} (r : GmpOpen h x s) (typ : Nat) :
    gmpEnvelope h typ s = (gmpSeen h s, some x) := by
  unfold gmpEnvelope
  rw [r.isOpen]
  have h1 : ¬ h.recLen < 12 := by have := r.length; omega
  have h2 : (h.version != 1) = false := by simp [r.version]
  have h3 : (h.recLen != 12 + h.len) = false := by simp [r.length]
  have h4 : (h.reqId == 0) = false := by simpa using r.reqId
  simp only [h1, if_false, h2, h3, h4, firstErr]
  rfl

/-- The intake of a request that makes no entry. -/
theorem gmpIntake_open {h : GmpHdr} {x : Session} {s : State} (r : GmpOpen h x s) (typ : Nat) :
    gmpIntake h typ s = (gmpSeen h s, some x) := by
  unfold gmpIntake
  rw [gmpEnvelope_open r]
  have : windowFull x = false := by simpa [windowFull] using r.window
  simp [this]

theorem gmpSeen_like (h : GmpHdr) (s : State) : Follows { gmp := true, sess := true } s (gmpSeen h s) :=
  modSession_fol rfl rfl (Follows.refl _ _)

theorem gmpSeen_words (h : GmpHdr) (s : State) (P : Nat → Bool) : Words P s (gmpSeen h s) :=
  Words.of_follows (gmpSeen_like h s) rfl

/-- A plain request whose sender holds the right is served and answered (17_host R437). -/
theorem gmpPlain_open {h : GmpHdr} {x : Session} {s : State} (r : GmpOpen h x s) {typ right : Nat}
    (hr : hasRight s x.ident right = true) (f : Session → State → State × (Nat × List Nat)) :
    gmpPlain h typ right f s =
      reply h.sess typ h.reqId (f x (gmpSeen h s)).2.1 (f x (gmpSeen h s)).2.2 (f x (gmpSeen h s)).1 := by
  unfold gmpPlain
  rw [gmpIntake_open r]
  have e : hasRight (gmpSeen h s) x.ident right = true := by
    unfold hasRight cfgW forceW at hr ⊢
    rw [(gmpSeen_like h s).regs rfl, (gmpSeen_like h s).part]; exact hr
  simp [e]

/-- The gate lets a ready request through. -/
theorem gmpGate_ready {h : GmpHdr} {x : Session} {s : State} (r : GmpReady h x s) (typ hash : Nat) (errb : Nat → List Nat)
    (k : Nat → State → State) : gmpGate h typ hash false errb k s = k x.ident (gmpSeen h s) := by
  unfold gmpGate
  rw [gmpEnvelope_open r.toGmpOpen]
  have hc : (gmpSeen h s).gmp.cache = s.gmp.cache := modSession_cache _ _ _
  have hw : windowFull x = false := by simpa [windowFull] using r.window
  have hcw : canWrite (gmpSeen h s) = true := by
    have f := gmpSeen_like h s
    have := r.writer
    unfold canWrite onDuty holdsToken at this ⊢
    rw [f.jr rfl, f.pair rfl]; exact this
  have hh : (gmpSeen h s).time.hold = none := by rw [(gmpSeen_like h s).time rfl]; exact r.noHold
  simp [hc, r.fresh, hw, hcw, hh]

/-- The words that a request's entry and the count of its job may change. -/
def enteredWord (k : Nat) : Bool := entryWords k || k == wkey Addr.SCHED_CLASS_SEL 10 Addr.SCHED_CLASS_CNT_JOBS

/-- What stands once a request's entry is written (R440, 02_journal R42) and its job is counted. -/
structure Entered (h : GmpHdr) (x : Session) (b : GmpBody) (s u : State) : Prop where
  fol : Follows { jr := true, regs := true, gmp := true, pair := true, sched := true, sess := true } s u
  words : Words enteredWord s u
  spine : u.jr.spine = { s.jr with lastSf := s.jr.sf, lastSeq := s.jr.nextSeq, nextSeq := s.jr.nextSeq + 1,
                                   lastReq := s.jr.sf, hostless := false }.spine
  waits : ∃ l, kget [] u.gmp.cache x.ident = ⟨h.reqId, reqHash b, bodyType b, h.sess, none⟩ :: l
  sess : ∃ y, session u h.sess = some y ∧ y.ident = x.ident
  pair : u.pair = { s.pair with fwd := u.pair.fwd }

theorem Words.mono {P Q : Nat → Bool} {s t : State} (h : Words P s t) (hq : ∀ k, Q k = false → P k = false) : Words Q s t :=
  ⟨h.part, h.canon, fun k e => h.words k (hq k e), by
    have f : ∀ l : KMap Word, l.filter (fun e => !Q e.1) = (l.filter (fun e => !P e.1)).filter (fun e => !Q e.1) := by
      intro l
      rw [List.filter_filter]
      apply List.filter_congr
      intro e _
      have := hq e.1
      cases hQ : Q e.1 <;> simp_all
    rw [f, f s.regs.staged, h.staged]⟩

/-- The journal's part of a request's entry. -/
def gmpNoted (h : GmpHdr) (ident : Nat) (b : GmpBody) (s : State) : State :=
  (jWrite 0 (now s) (.gmpReq h.sess ident h.reqId b) s).updJr fun j => { j with lastReq := j.lastSf, hostless := false }

theorem gmpEnter_eq (h : GmpHdr) (ident : Nat) (b : GmpBody) (s : State) :
    gmpEnter h ident b s = modSession h.sess (fun y => { y with outstanding := y.outstanding + 1 })
      (cachePush ident ⟨h.reqId, reqHash b, bodyType b, h.sess, none⟩ (gmpNoted h ident b s)) := by
  unfold gmpEnter gmpNoted
  rfl

/-- Work of a kind that only touches the session and the cache. -/
theorem cachePush_get (ident : Nat) (e : CacheEnt) (s : State) :
    kget [] (cachePush ident e s).gmp.cache ident = (e :: kget [] s.gmp.cache ident).take 64 := by
  show kget [] (kmod [] s.gmp.cache ident (fun l => (e :: l).take 64)) ident = _
  rw [kget_kmod, if_pos rfl]

theorem gmpNoted_spine (h : GmpHdr) (ident : Nat) (b : GmpBody) (s : State) :
    (gmpNoted h ident b s).jr.spine = { s.jr with lastSf := s.jr.sf, lastSeq := s.jr.nextSeq, nextSeq := s.jr.nextSeq + 1,
                                                  lastReq := s.jr.sf, hostless := false }.spine := by
  have hj := jWrite_spine 0 (now s) (.gmpReq h.sess ident h.reqId b) s
  have h1 := congrArg JrnlS.lastSf hj
  simp only [JrnlS.spine] at h1
  have h2 : (gmpNoted h ident b s).jr.spine =
      { (jWrite 0 (now s) (.gmpReq h.sess ident h.reqId b) s).jr.spine with
        lastReq := (jWrite 0 (now s) (.gmpReq h.sess ident h.reqId b) s).jr.lastSf, hostless := false } := by
    unfold gmpNoted
    generalize jWrite 0 (now s) (.gmpReq h.sess ident h.reqId b) s = u
    rfl
  rw [h2, h1, hj]
  simp only [JrnlS.spine]

/-- A session after the cache and the count of a request. -/
theorem entered_sess {k : Nat} {ident : Nat} {e : CacheEnt} {u : State} {y : Session} (hy : session u k = some y) :
    session (modSession k (fun y => { y with outstanding := y.outstanding + 1 }) (cachePush ident e u)) k =
      some { y with outstanding := y.outstanding + 1 } := by
  rw [session_modSession, if_pos rfl]
  show (session u k).map _ = _
  rw [hy]; rfl

theorem gmpNoted_fol (h : GmpHdr) (ident : Nat) (b : GmpBody) (s : State) :
    Follows { jr := true, regs := true, gmp := true, pair := true } s (gmpNoted h ident b s) := by
  unfold gmpNoted
  generalize Payload.gmpReq h.sess ident h.reqId b = p
  with_reducible refine updJr_fol (by rfl) ?_
  with_reducible exact jWrite_fol (by rfl) (by rfl) (by rfl) (by rfl) (Follows.refl _ s)

theorem gmpNoted_words (h : GmpHdr) (ident : Nat) (b : GmpBody) (s : State) : Words entryWords s (gmpNoted h ident b s) := by
  unfold gmpNoted
  generalize Payload.gmpReq h.sess ident h.reqId b = p
  exact updJr_words (jWrite_words 0 (now s) p s)

theorem gmpNoted_like (h : GmpHdr) (ident : Nat) (b : GmpBody) (s : State) : GmpLike s (gmpNoted h ident b s) := by
  unfold gmpNoted
  generalize Payload.gmpReq h.sess ident h.reqId b = p
  have g := (jWrite_only 0 (now s) p s).like rfl
  generalize jWrite 0 (now s) p s = u at g
  exact ⟨g.sess, g.cache⟩

theorem gmpNoted_pair (h : GmpHdr) (ident : Nat) (b : GmpBody) (s : State) :
    (gmpNoted h ident b s).pair = { s.pair with fwd := (gmpNoted h ident b s).pair.fwd } := by
  unfold gmpNoted
  generalize Payload.gmpReq h.sess ident h.reqId b = p
  have g := jWrite_pair 0 (now s) p s
  generalize jWrite 0 (now s) p s = u at g
  exact g

/-- A session that stays but for packs and queues keeps its identity. -/
theorem GmpLike.session {s t : State} (l : GmpLike s t) {k : Nat} {x : Session} (hx : session s k = some x) :
    ∃ y, session t k = some y ∧ y.ident = x.ident := by
  have := l.sess.find k
  unfold Machine.session at hx ⊢
  rw [hx] at this
  cases e : kfind t.gmp.sess k with
  | none => rw [e] at this; simp at this
  | some y =>
    rw [e] at this
    simp only [Option.map_some, Option.some.injEq, Session.core, Prod.mk.injEq] at this
    exact ⟨y, rfl, this.1⟩

theorem gmpEnter_only (h : GmpHdr) (ident : Nat) (b : GmpBody) (s : State) :
    Follows { jr := true, regs := true, gmp := true, pair := true, sess := true } s (gmpEnter h ident b s) := by
  with_reducible exact gmpEnter_fol (by rfl) (by rfl) (by rfl) (by rfl) (by rfl) (Follows.refl _ s)

/-- The entry of a ready request. -/
theorem gmpEnter_entered {h : GmpHdr} {x : Session} {s : State} (b : GmpBody) (r : GmpReady h x s) :
    Entered h x b s (gmpEnter h x.ident b (gmpSeen h s)) ∧ Words entryWords s (gmpEnter h x.ident b (gmpSeen h s)) := by
  have f1 := gmpSeen_like h s
  have hx0 : session (gmpSeen h s) h.sess = some { x with lastAt := s.time.op, port := h.port } := by
    unfold gmpSeen; rw [session_modSession, if_pos rfl, r.isOpen]; rfl
  obtain ⟨y, hy, hyi⟩ := (gmpNoted_like h x.ident b (gmpSeen h s)).session hx0
  have hsp := gmpNoted_spine h x.ident b (gmpSeen h s)
  have hro := gmpNoted_pair h x.ident b (gmpSeen h s)
  have hw := (gmpSeen_words h s _).trans (gmpNoted_words h x.ident b (gmpSeen h s))
  have hf := gmpNoted_fol h x.ident b (gmpSeen h s)
  rw [f1.jr rfl] at hsp
  rw [f1.pair rfl] at hro
  have f0 : Follows { jr := true, regs := true, gmp := true, pair := true, sess := true } s (gmpSeen h s) := modSession_fol rfl rfl (Follows.refl _ s)
  replace hf := f0.trans (hf.mono (by decide))
  rw [gmpEnter_eq]
  generalize gmpNoted h x.ident b (gmpSeen h s) = u at hy hsp hro hw hf
  have hg : kget [] (modSession h.sess (fun y => { y with outstanding := y.outstanding + 1 })
      (cachePush x.ident ⟨h.reqId, reqHash b, bodyType b, h.sess, none⟩ u)).gmp.cache x.ident =
        (⟨h.reqId, reqHash b, bodyType b, h.sess, none⟩ :: kget [] u.gmp.cache x.ident).take 64 := by
    rw [modSession_cache, cachePush_get]
  have hs := entered_sess (e := ⟨h.reqId, reqHash b, bodyType b, h.sess, none⟩) (ident := x.ident) hy
  revert hg hs
  generalize he : (⟨h.reqId, reqHash b, bodyType b, h.sess, none⟩ : CacheEnt) = e
  intro hg hs
  have hm : Follows { gmp := true, sess := true } u (modSession h.sess (fun y => { y with outstanding := y.outstanding + 1 }) (cachePush x.ident e u)) :=
    modSession_fol rfl rfl (cachePush_fol rfl rfl (Follows.refl _ u))
  have hm' : Follows { jr := true, regs := true, gmp := true, pair := true, sched := true, sess := true } u
      (modSession h.sess (fun y => { y with outstanding := y.outstanding + 1 }) (cachePush x.ident e u)) :=
    modSession_fol rfl rfl (cachePush_fol rfl rfl (Follows.refl _ u))
  have hf' : Follows { jr := true, regs := true, gmp := true, pair := true, sched := true, sess := true } s u := hf.mono (by decide)
  refine ⟨?_, hw.trans (Words.of_follows hm rfl)⟩
  exact ⟨hf'.trans hm', (hw.trans (Words.of_follows hm rfl)).mono (fun k q => by
      simp only [enteredWord, Bool.or_eq_false_iff] at q; exact q.1), by rw [hm.jr rfl]; exact hsp,
    ⟨_, by rw [hg, he]; exact List.take_succ_cons⟩, ⟨_, hs, hyi⟩, by rw [hm.pair rfl]; exact hro⟩

/-- A right in force after the entry is the right before it. -/
theorem hasRight_words {P : Nat → Bool} {s t : State} (w : Words P s t) {k b : Nat}
    (hp : P (wkey Addr.NET_IDENT_SEL k Addr.NET_IDENT_RIGHTS) = false) : hasRight t k b = hasRight s k b := by
  unfold hasRight; rw [cfgW_words w hp]

/-! The decision (R438 to R441, 11_scheduler R310). -/

/-- A request ready to be decided is decided at its position, once admitted. -/
theorem gmpRequest_done {h : GmpHdr} {x : Session} {s : State} (r : GmpReady h x s) (b : GmpBody) {adm : Bool}
    {ok : Nat → State → Bool} (hok : ∀ v, Words entryWords s v → ok x.ident v = true)
    (room : adm = true → admitted s 10 < cfgW s Addr.SCHED_CLASS_SEL 10 Addr.SCHED_CLASS_CFG 30 20) :
    ∃ u, Entered h x b s u ∧ ∀ f : Handler, gmpRequest h b false adm ok f s =
      match f ⟨h.sess, x.ident, h.reqId, (s.jr.sf, s.jr.nextSeq), false⟩ u with
      | (v, some q) => completeReq ⟨x.ident, h.reqId⟩ q.1 q.2 v
      | (v, none) => v := by
  obtain ⟨e, w⟩ := gmpEnter_entered b r
  have hk := hok _ w
  obtain ⟨p3, p1, p2⟩ := JrnlS.spine_pos e.spine
  dsimp only at p1 p2 p3
  have p4 : (gmpEnter h x.ident b (gmpSeen h s)).sched = s.sched := by
    rw [(gmpEnter_only h x.ident b (gmpSeen h s)).sched rfl, (gmpSeen_like h s).sched rfl]
  unfold gmpRequest
  simp only [gmpGate_ready r, p1, p2]
  generalize gmpEnter h x.ident b (gmpSeen h s) = v at e w hk p3 p4
  unfold gmpDecide
  simp only [hk, Bool.not_true, Bool.false_eq_true, if_false]
  cases adm with
  | false => exact ⟨v, e, fun f => by simp; rfl⟩
  | true =>
    have ha : admitTo 10 v = (v.updSched fun c => { c with admitSf := v.jr.sf, admitTo := kset 0 (if v.sched.admitSf = v.jr.sf then v.sched.admitTo else []) 10 (admitted v 10 + 1) }, true) := by
      have q : admitted v 10 < cfgW v Addr.SCHED_CLASS_SEL 10 Addr.SCHED_CLASS_CFG 30 20 := by
        rw [cfgW_words w (by decide)]
        unfold admitted
        rw [p3, p4]
        exact room rfl
      unfold admitTo
      simp [q]
    simp only [ha, if_true, Bool.not_true, Bool.false_eq_true, if_false]
    refine ⟨_, ?_, fun f => rfl⟩
    generalize hg : (fun c : SchedS => { c with admitSf := v.jr.sf, admitTo := kset 0 (if v.sched.admitSf = v.jr.sf then v.sched.admitTo else []) 10 (admitted v 10 + 1) }) = g
    exact ⟨bumpW_fol rfl (updSched_fol rfl e.fol), bumpW_words (by decide) (updSched_words e.words), e.spine, e.waits, e.sess, e.pair⟩

/-- What the completion of a request that waits gives out (R440). -/
theorem completeReq_out {w : Waiter} {ce : CacheEnt} {l : List CacheEnt} {v : State} {y : Session} {st : Nat} {body : List Nat}
    (hc : kget [] v.gmp.cache w.ident = ce :: l) (hr : ce.reqId = w.reqId) (hn : ce.resp = none)
    (hy : session v ce.sess = some y) (hi : y.ident = w.ident) (tok : holdsToken v = true) :
    (completeReq w st body v).out = v.out ++ [Output.gmp ce.sess ce.typ w.reqId st body] := by
  have hf : (ce :: l).find? (fun e => e.reqId == w.reqId && e.resp.isNone) = some ce := by simp [hr, hn]
  unfold completeReq
  rw [hc]
  simp only [hf]
  have hs (f : GmpS → KMap (List CacheEnt)) : session (v.updGmp fun g => { g with cache := f g }) ce.sess = some y := hy
  have ht (f : GmpS → KMap (List CacheEnt)) : holdsToken (v.updGmp fun g => { g with cache := f g }) = true := tok
  simp only [hs, hi, ht, true_and, if_true]
  unfold modSession
  split <;> rfl

/-- A request that waits is completed: its response goes out (R440). -/
theorem completeReq_answers {h : GmpHdr} {x : Session} {b : GmpBody} {s u v : State} (e : Entered h x b s u) (l : GmpLike u v)
    (role : v.pair.role = u.pair.role) (out : u.out <+: v.out) (tok : holdsToken s = true) (st : Nat) (body : List Nat) :
    Answered h (bodyType b) st body s (completeReq ⟨x.ident, h.reqId⟩ st body v) := by
  obtain ⟨l0, hw⟩ := e.waits
  obtain ⟨y, hy, hyi⟩ := e.sess
  obtain ⟨z, hz, hzi⟩ := l.session hy
  have ht : holdsToken v = true := by unfold holdsToken at tok ⊢; rw [role, e.fol.role rfl]; exact tok
  have hq := completeReq_out (w := ⟨x.ident, h.reqId⟩) (st := st) (body := body) (by rw [l.cache]; exact hw) rfl rfl hz (hzi.trans hyi) ht
  obtain ⟨m, hm⟩ := e.fol.out.trans out
  refine ⟨m ++ [Output.gmp h.sess (bodyType b) h.reqId st body], ?_, by simp⟩
  rw [hq, ← hm, List.append_assoc]

/-- A ready request comes from a unit that holds the token (16_pair R418). -/
theorem GmpReady.token {h : GmpHdr} {x : Session} {s : State} (r : GmpReady h x s) : holdsToken s = true := by
  have := r.writer
  simp only [canWrite, onDuty, Bool.and_eq_true] at this
  exact this.1.2

/-- The key of an identity's rights is none that an entry or a job's count changes. -/
theorem ident_key {k : Nat} (h : k < 8) : entryWords (wkey Addr.NET_IDENT_SEL k Addr.NET_IDENT_RIGHTS) = false ∧
    enteredWord (wkey Addr.NET_IDENT_SEL k Addr.NET_IDENT_RIGHTS) = false := by
  have : k = 0 ∨ k = 1 ∨ k = 2 ∨ k = 3 ∨ k = 4 ∨ k = 5 ∨ k = 6 ∨ k = 7 := by omega
  rcases this with rfl | rfl | rfl | rfl | rfl | rfl | rfl | rfl <;> decide

/-- A register write of one word that is not refused: its action is decided on the state with its entry, and answered
(R437 to R439). -/
theorem gmpWord_done {h : GmpHdr} {x : Session} {right : Nat} {s : State} (m : GmpMay h x right 10 s) (a : Nat) (w : Word) :
    ∃ u, Entered h x (.write [(a, w)]) s u ∧ ∀ f : State → State × Nat, gmpWord h a w right f s =
      completeReq ⟨x.ident, h.reqId⟩ (f u).2 (indexBody (if isErr (f u).2 then 0 else 0xFFFF)) (f u).1 := by
  obtain ⟨u, e, hd⟩ := gmpRequest_done m.toGmpReady (.write [(a, w)]) (adm := true) (ok := fun _ _ => true) (fun _ _ => rfl)
    (fun _ => m.room)
  refine ⟨u, e, fun f => ?_⟩
  unfold gmpWord
  rw [hd]
  have hr : hasRight u x.ident right = true := by
    rw [hasRight_words e.words (ident_key m.known).2, m.right]
  unfold wordHandler
  simp only [hr, Bool.not_true, Bool.false_eq_true, if_false]
  by_cases q : isErr (f u).2 = true
  · simp only [q, if_true]
  · simp only [q, if_false]
    rfl

/-- A completion changes only the sessions and the cache. -/
theorem completeReq_only (w : Waiter) (st : Nat) (body : List Nat) (s : State) :
    Follows { gmp := true, sess := true } s (completeReq w st body s) := by
  with_reducible exact completeReq_fol (by rfl) (by rfl) (Follows.refl _ s)

/-- A request that is decided at once is answered, and nothing else changes after its handler. -/
theorem gmpRequest_answers {h : GmpHdr} {x : Session} {s : State} (r : GmpReady h x s) (b : GmpBody) {adm : Bool}
    {ok : Nat → State → Bool} (hok : ∀ v, Words entryWords s v → ok x.ident v = true)
    (room : adm = true → admitted s 10 < cfgW s Addr.SCHED_CLASS_SEL 10 Addr.SCHED_CLASS_CFG 30 20)
    {f : Handler} {c : Touch} (hc : c.sess = false) (hr : c.role = false)
    (hf : ∀ u, Follows c u (f ⟨h.sess, x.ident, h.reqId, (s.jr.sf, s.jr.nextSeq), false⟩ u).1) :
    ∃ u, Entered h x b s u ∧ ∀ v q, f ⟨h.sess, x.ident, h.reqId, (s.jr.sf, s.jr.nextSeq), false⟩ u = (v, some q) →
      Answered h (bodyType b) q.1 q.2 s (gmpRequest h b false adm ok f s) ∧
        Follows { gmp := true, sess := true } v (gmpRequest h b false adm ok f s) := by
  obtain ⟨u, e, hd⟩ := gmpRequest_done r b hok room
  refine ⟨u, e, fun v q hq => ?_⟩
  have g := hf u
  rw [hd, hq]
  rw [hq] at g
  exact ⟨completeReq_answers e (g.like hc) (g.role hr) g.out r.token q.1 q.2, completeReq_only _ _ _ _⟩

/-- A register write of one word is answered, and nothing else changes after its action. -/
theorem gmpWord_answers {h : GmpHdr} {x : Session} {right : Nat} {s : State} (m : GmpMay h x right 10 s) (a : Nat) (w : Word)
    {f : State → State × Nat} {c : Touch} (hc : c.sess = false) (hr : c.role = false) (hf : ∀ u, Follows c u (f u).1) :
    ∃ u, Entered h x (.write [(a, w)]) s u ∧
      Answered h 0x02 (f u).2 (indexBody (if isErr (f u).2 then 0 else 0xFFFF)) s (gmpWord h a w right f s) ∧
        Follows { gmp := true, sess := true } (f u).1 (gmpWord h a w right f s) := by
  obtain ⟨u, e, hd⟩ := gmpWord_done m a w
  refine ⟨u, e, ?_⟩
  have g := hf u
  rw [hd]
  exact ⟨completeReq_answers e (g.like hc) (g.role hr) g.out m.toGmpReady.token _ _, completeReq_only _ _ _ _⟩

/-- No commit writes a word that an entry changes. -/
theorem enteredWord_mask {k : Nat} (h : enteredWord k = true) : commitMask k = 0 := by
  simp only [enteredWord, entryWords, Bool.or_eq_true, beq_iff_eq] at h
  rcases h with (rfl | rfl) | rfl <;> decide +kernel

/-- A word in force where only words that no commit writes have changed: what is staged is what was staged (02_journal R54). -/
theorem anyStaged_entered {h : GmpHdr} {x : Session} {b : GmpBody} {s u : State}
    (e : Entered h x b s u) : anyStaged u = anyStaged s := by
  have q : ∀ (v : State) (l : KMap Word), l.any (fun e => blend (commitMask e.1) (forceW v e.1) e.2 != forceW v e.1) =
      (l.filter (fun e => !enteredWord e.1)).any (fun e => blend (commitMask e.1) (forceW v e.1) e.2 != forceW v e.1) := by
    intro v l
    induction l with
    | nil => rfl
    | cons a r ih =>
      simp only [List.any_cons, List.filter_cons]
      cases hp : enteredWord a.1
      · simp [ih]
      · have : blend (commitMask a.1) (forceW v a.1) a.2 = forceW v a.1 := by
          rw [enteredWord_mask hp]
          generalize forceW v a.1 = w
          show (w &&& BitVec.allOnes 32) ||| (a.2 &&& 0#32) = w
          rw [BitVec.and_allOnes, BitVec.and_zero, BitVec.or_zero]
        simp [this, ih]
  unfold anyStaged
  rw [q u, q s, e.words.staged, e.fol.scr rfl, e.fol.lkp rfl]
  congr 3
  rw [Bool.eq_iff_iff]
  simp only [List.any_eq_true, List.mem_filter, Bool.not_eq_true']
  constructor
  · rintro ⟨a, ⟨ha, hp⟩, hq⟩
    exact ⟨a, ⟨ha, hp⟩, by rwa [e.words.words _ hp] at hq⟩
  · rintro ⟨a, ⟨ha, hp⟩, hq⟩
    exact ⟨a, ⟨ha, hp⟩, by rwa [e.words.words _ hp]⟩

end Sys2Proof.Machine
end

