-- ==== Sys2Proof/WellFormed.lean ====
section
/-!
DEFINITION. Well-formed commands: every operand fits the field that carries it on its wire (17_host R433, R437,
10_radio_frames R268, 16_pair R411, and the layouts of the message bodies). The checks that the spec answers with a
status code are no part of it: a well-formed command may still be refused by the block.
-/

namespace Sys2Proof

/-- A number fits a field of `w` bits. -/
def fits (w n : Nat) : Bool := decide (n < 2 ^ w)

/-- An integer fits a two's complement field of `w` bits. -/
def fitsI (w : Nat) (n : Int) : Bool := decide (-(2 ^ (w - 1)) ≤ n ∧ n < 2 ^ (w - 1))

/-- The header of a GMP message (17_host R433) on one of four sessions (R431) and a host port. -/
def GmpHdr.wf (h : GmpHdr) : Bool :=
  fits 2 h.sess && fits 1 h.port && fits 8 h.version && fits 32 h.reqId && fits 16 h.recLen && fits 16 h.len

/-- A waypoint (05_track R128). -/
def Waypoint.wf (w : Waypoint) : Bool := fitsI 32 w.x && fitsI 32 w.y

/-- A track request (05_track R128). -/
def TrackBody.wf (b : TrackBody) : Bool :=
  fits 16 b.machine && fits 16 b.zero && fits 48 b.start && fits 8 b.slideMax && fits 8 b.dwell && fits 16 b.vmax &&
  fits 16 b.amax && fits 16 b.jmax && fits 16 b.wps.length && b.wps.all Waypoint.wf

/-- A cancel (05_track R144). -/
def CancelBody.wf (b : CancelBody) : Bool := fits 32 b.resId && fits 48 b.fromSlot && fits 16 b.zero

/-- A zone record (06_zones R170). -/
def ZoneRec.wf (z : ZoneRec) : Bool :=
  fits 8 z.op && fits 8 z.len && fits 16 z.index && fits 32 z.pfx && fits 8 z.action && fits 8 z.zero0 &&
  fits 16 z.mask && fits 16 z.cap && fits 16 z.zero1

/-- A task (06_zones R172). -/
def TaskBody.wf (b : TaskBody) : Bool :=
  fits 8 b.prio && fits 8 b.slideMax && fits 32 b.capMask && fits 48 b.deadline && fits 8 b.dwell && fits 8 b.zero &&
  fits 16 b.vmax && fits 16 b.amax && fits 16 b.jmax && fits 16 b.wps.length && b.wps.all Waypoint.wf

/-- A connector (06_zones R182). -/
def ConnBody.wf (b : ConnBody) : Bool :=
  fits 32 b.ref && fits 16 b.machine && fits 16 b.zero0 && fits 16 b.zero1 && fits 16 b.wps.length && b.wps.all Waypoint.wf

/-- An IPv6 rule record (13_tables R364). -/
def RuleRec.wf (r : RuleRec) : Bool :=
  fits 8 r.op && fits 8 r.len && fits 16 r.index && fits 128 r.pfx && fits 8 r.action && fits 8 r.ports && fits 16 r.zero

/-- A key blob (15_keys R394). -/
def Blob.wf (b : Blob) : Bool :=
  fits 16 b.magic && fits 8 b.version && fits 8 b.typ && fits 16 b.keyId && fits 16 b.parent && fits 32 b.parentGen &&
  fits 32 b.gen && fits 16 b.masters && fits 16 b.usage && fits 8 b.lcMask && fits 8 b.world && fits 8 b.flags &&
  fits 8 b.zero0 && fits 16 b.keyLen && fits 16 b.wrapLen && fits 32 b.zero1 && b.wrapped.all (fits 8) && fits 32 b.crc

/-- A root message (15_keys R391). -/
def RootBody.wf (b : RootBody) : Bool := fits 8 b.root && fits 24 b.zero && b.wrapped.all (fits 8)

/-- A frame from the partner (16_pair R411, R412). -/
def PairHdr.wf (f : PairHdr) : Bool := fits 1 f.path && fits 64 f.counter && fits 2 f.role && fits 64 f.uid

/-- An Ethernet frame. -/
def EthFrame.wf (f : EthFrame) : Bool :=
  fits 1 f.port && fits 48 f.dst && fits 48 f.src && fits 16 f.len && fits 16 f.etype && f.tag.all (fits 12) && f.ip6.all (fits 128)

/-- A test of the sweep (21_snag_sweep R495): one of six categories. -/
def SnagTest.wf (x : SnagTest) : Bool := fits 4 x.cat && fits 16 x.unit && fits 16 x.item

/-- An RTCM 3 frame: a 10-bit length (03_fix_inputs R65). -/
def RtcmMsg.wf (m : RtcmMsg) : Bool := fits 10 m.len

/-- The identity record of a radio head (09_radio_ports R248): bounds of the fields the ports use. -/
def HeadId.wf (r : HeadId) : Bool := fits 16 r.fMin && fits 16 r.fMax && fits 16 r.dTx && fits 16 r.dRx && fits 16 r.rxBuf

/-- A well-formed command. -/
def Instr.wf : Instr → Bool
  | .sfMark => true
  | .genCommit h => h.wf
  | .discard h => h.wf
  | .commitEntry => true
  | .catchupEnd => true
  | .settingsWritten _ _ => true
  | .rtcmUartMessage k _ m => fits 2 k && m.wf
  | .rtcm h digest0 k count _ frames => h.wf && fits 64 digest0 && fits 8 k && fits 16 count && frames.all RtcmMsg.wf
  | .refRtcm k m => fits 2 k && m.wf
  | .refLost k => fits 2 k
  | .refAbsentTimeout k => fits 2 k
  | .clear h k => h.wf && fits 2 k
  | .switch h => h.wf
  | .fixRecord m done _ _ => fits 16 m && fits 64 done
  | .fixAgeExpiry m => fits 16 m
  | .resvRebuild group => fits 16 group
  | .roverReset h => h.wf
  | .track h b => h.wf && b.wf
  | .scrInsert => true
  | .cancel h b => h.wf && b.wf
  | .cancelAll h => h.wf
  | .slotAdvance => true
  | .conformanceCheck m => fits 16 m
  | .zone h rs => h.wf && rs.all ZoneRec.wf
  | .zoneWrite h => h.wf
  | .zoneDelete h => h.wf
  | .zoneRead h => h.wf
  | .task h b => h.wf && b.wf
  | .withdraw h ref => h.wf && fits 32 ref
  | .connector h b => h.wf && b.wf
  | .allotmentRound => true
  | .award => true
  | .estopInputEdge _ _ ns => fits 64 ns
  | .estopFilteredChange _ => true
  | .discrepancy => true
  | .stopAll h _ => h.wf
  | .stopGroup h _ group => h.wf && fits 3 group
  | .stopMachine h _ addr => h.wf && fits 16 addr
  | .armAll h _ => h.wf
  | .armGroup h _ group => h.wf && fits 3 group
  | .confirm h _ token => h.wf && fits 8 token
  | .release h _ addr => h.wf && fits 16 addr
  | .disarm h _ => h.wf
  | .withdrawalRequest m cause sf seq => fits 16 m && fits 4 cause && fits 48 sf && fits 32 seq
  | .leaseExpiry m => fits 16 m
  | .safeLogic => true
  | .safeStore _ => true
  | .safeClock => true
  | .safeClockRestored => true
  | .seqFault => true
  | .loopEval m => fits 16 m
  | .loopTick l => fits 9 l
  | .loopHold l => fits 9 l
  | .holdStep l => fits 9 l
  | .holdWithdraw l => fits 9 l
  | .resume h => h.wf
  | .clearI h => h.wf
  | .coefWrite h g r w _ => h.wf && fits 8 g && fits 8 r && fits 8 w
  | .readId k _ hid => fits 2 k && hid.wf
  | .status k _ flags rxCount fault => fits 2 k && fits 8 flags && fits 8 rxCount && fits 8 fault
  | .setChannel k _ => fits 2 k
  | .setPower k _ => fits 2 k
  | .txLoad k _ => fits 2 k
  | .txCancel k _ => fits 2 k
  | .rxRead k _ _ => fits 2 k
  | .rxFlush k _ => fits 2 k
  | .startNibbleTimeout k cmd => fits 2 k && fits 8 cmd
  | .rxstamp k ns => fits 2 k && fits 64 ns
  | .rxIrq k => fits 2 k
  | .stampOnly k seq => fits 2 k && fits 32 seq
  | .slotCutoff sf slot => fits 48 sf && fits 8 slot
  | .slotStart sf slot => fits 48 sf && fits 8 slot
  | .planSwitch k => fits 2 k
  | .noHeadTimeout k => fits 2 k
  | .portRetry k => fits 2 k
  | .resetHead h k => h.wf && fits 2 k
  | .upFrame k => fits 2 k
  | .ackFrame k => fits 2 k
  | .joinReq k => fits 2 k
  | .joinAccAbandon => true
  | .leave k => fits 2 k
  | .pend k => fits 2 k
  | .relay k => fits 2 k
  | .silenceTimeout a => fits 16 a
  | .wakeMiss a => fits 16 a
  | .addrHoldExpiry a => fits 16 a
  | .disassoc h => h.wf
  | .freeAddr h => h.wf
  | .jobComplete desc status0 => fits 12 desc && fits 8 status0
  | .jobRetire desc => fits 12 desc
  | .delayRelease => true
  | .budgetWindow => true
  | .waitClr h => h.wf
  | .stripEnd us => fits 32 us
  | .stripOverrun => true
  | .hodPtrMismatch hod => fits 12 hod
  | .hodUnread hod used packets => fits 12 hod && fits 32 used && fits 32 packets
  | .hodReset src => (src.all GmpHdr.wf)
  | .hodDrop src _ => (src.all GmpHdr.wf)
  | .ethFrame f => f.wf
  | .ageVisit p bucket => fits 1 p && fits 16 bucket
  | .tableRebuild table => fits 4 table
  | .ethLinkChange p _ speed => fits 2 p && fits 2 speed
  | .search h pipe kind port => h.wf && fits 1 pipe && fits 3 kind && fits 2 port
  | .nextEntry h pipe kind port => h.wf && fits 1 pipe && fits 3 kind && fits 2 port
  | .flushPort h pipe kind port => h.wf && fits 1 pipe && fits 3 kind && fits 2 port
  | .staticAdd h pipe kind port => h.wf && fits 1 pipe && fits 3 kind && fits 2 port
  | .staticDel h pipe kind port => h.wf && fits 1 pipe && fits 3 kind && fits 2 port
  | .rule h rs => h.wf && rs.all RuleRec.wf
  | .ruleWrite h => h.wf
  | .ruleDelete h => h.wf
  | .ruleRead h => h.wf
  | .ppsEdge k ns => fits 2 k && fits 64 ns
  | .ptpSync port _ ns => fits 2 port && fits 64 ns
  | .ptpMessage port _ => fits 2 port
  | .sourceAbsentTimeout k => fits 2 k
  | .holdLimitExpiry => true
  | .forceSet h => h.wf
  | .forceSetApply => true
  | .timeHoldEnd => true
  | .clearDis h => h.wf
  | .trigArm h k _ => h.wf && fits 3 k
  | .triggerFire k => fits 3 k
  | .armAdvance src target => (src.all GmpHdr.wf) && fits 8 target
  | .armRevokeA src => (src.all GmpHdr.wf)
  | .lcConfirm src token => (src.all GmpHdr.wf) && fits 8 token
  | .lcDisarm src => (src.all GmpHdr.wf)
  | .fuseBlown => true
  | .root h b => h.wf && b.wf
  | .keyPut h b => h.wf && b.wf
  | .keyringWritten _ _ => true
  | .keyInvalidate h id zero => h.wf && fits 16 id && fits 16 zero
  | .invalidate h id => h.wf && fits 16 id
  | .evict h id => h.wf && fits 16 id
  | .keyLoad id master usage => fits 16 id && fits 16 master && fits 16 usage
  | .keyOperationEnd slot => fits 16 slot
  | .newChal src => (src.all GmpHdr.wf)
  | .submit src _ _ => (src.all GmpHdr.wf)
  | .hello f r => f.wf && fits 128 r
  | .helloSend => true
  | .renewSend => true
  | .renew f num => f.wf && fits 32 num
  | .pairAck f num => f.wf && fits 32 num
  | .pathDownTimeout path => fits 1 path
  | .fence => true
  | .takeover => true
  | .retakeWaitExpiry => true
  | .jrnl f l => f.wf && l.all (fun e => fits 48 e.1.sf && fits 32 e.1.seq)
  | .jrnlAck f sf seq => f.wf && fits 48 sf && fits 32 seq
  | .digest f digest0 gen version build cls => f.wf && digest0.all (fits 8) && fits 32 gen && fits 32 version && fits 32 build && fits 32 cls
  | .copyReq f chunk => f.wf && chunk.all (fits 32)
  | .copyReqRetry => true
  | .copyBegin f epoch p0 gen cls nchunk digest0 => f.wf && fits 32 epoch && fits 48 p0 && fits 32 gen && fits 32 cls && fits 32 nchunk && digest0.all (fits 8)
  | .copyChunk f epoch index _ => f.wf && fits 32 epoch && fits 32 index
  | .copyEnd f epoch nchunk _ _ => f.wf && fits 32 epoch && fits 32 nchunk
  | .copyResult f epoch _ => f.wf && fits 32 epoch
  | .copyTimeout => true
  | .handover h _ => h.wf
  | .handoverFrame f => f.wf
  | .takeAlone h _ => h.wf
  | .clientHello bytes _ suite port peer _ => bytes.all (fits 8) && fits 1 suite && fits 2 port && peer.all (fits 32)
  | .sessionClose k => fits 2 k
  | .idleTimeout k => fits 2 k
  | .read h addr count zero => h.wf && fits 32 addr && fits 16 count && fits 16 zero
  | .write h ws _ _ => h.wf && ws.all (fun e => fits 32 e.1)
  | .writeSeq h addr _ _ _ => h.wf && fits 32 addr
  | .registerWrite h addr _ => h.wf && fits 32 addr
  | .commitMsg h => h.wf
  | .subscribe h topic zero mask sf seq => h.wf && fits 8 topic && fits 24 zero && fits 256 mask && fits 48 sf && fits 32 seq
  | .unsubscribe h topic zero => h.wf && fits 8 topic && fits 24 zero
  | .journalAck h sf seq zero => h.wf && fits 48 sf && fits 32 seq && fits 16 zero
  | .logRead h first count zeros => h.wf && fits 32 first && fits 8 count && fits 24 zeros
  | .logErase h total => h.wf && fits 32 total
  | .logEraseDone => true
  | .recordWritten _ _ _ => true
  | .updBegin h target length => h.wf && fits 8 target && fits 32 length
  | .updEraseDone _ _ => true
  | .updBlock h offset dlen crc data _ _ _ => h.wf && fits 32 offset && fits 16 dlen && fits 32 crc && data.all (fits 8)
  | .updStatus h => h.wf
  | .updVerify h _ => h.wf
  | .updActivate h _ _ => h.wf
  | .updConfirm h _ _ => h.wf
  | .updAbort h => h.wf
  | .updInfo h _ => h.wf
  | .trialTimeout => true
  | .boot _ => true
  | .journalStart => true
  | .snagTest x => x.wf
  | .coverMiss cat u item => fits 4 cat && fits 12 u && fits 16 item
  | .safeSelfCheck _ => true
  | .restartBay h bay => h.wf && fits 8 bay
  | .snagFence h engine => h.wf && fits 8 engine
  | .retest h engine _ => h.wf && fits 8 engine
  | .bayDomainOn => true
  | .bayRestartDone ms _ _ => fits 16 ms
  | .railTrip r _ _ => fits 4 r
  | .railGlitch r => fits 4 r
  | .aonPowerOn => true
  | .resetN => true
  | .clockLoss _ => true
  | .coreFault => true
  | .watchdog => true
  | .resetRelease => true
  | .pcrReset h => h.wf
  | .standby h => h.wf
  | .standbyEntered => true
  | .wake _ => true
  | .tempRead _ => true
  | .permitDynToggle => true
  | .fragmentReassemblyTimeout id => fits 32 id
  | .announceReceiptTimeout port => fits 2 port
  | .ptpSendInterval port kind => fits 2 port && fits 3 kind

/-- The GMP header that a command carries, where it comes in as a GMP message. -/
def Instr.header : Instr → Option GmpHdr
  | .sfMark => none
  | .genCommit h => some h
  | .discard h => some h
  | .commitEntry => none
  | .catchupEnd => none
  | .settingsWritten _ _ => none
  | .rtcmUartMessage _ _ _ => none
  | .rtcm h _ _ _ _ _ => some h
  | .refRtcm _ _ => none
  | .refLost _ => none
  | .refAbsentTimeout _ => none
  | .clear h _ => some h
  | .switch h => some h
  | .fixRecord _ _ _ _ => none
  | .fixAgeExpiry _ => none
  | .resvRebuild _ => none
  | .roverReset h => some h
  | .track h _ => some h
  | .scrInsert => none
  | .cancel h _ => some h
  | .cancelAll h => some h
  | .slotAdvance => none
  | .conformanceCheck _ => none
  | .zone h _ => some h
  | .zoneWrite h => some h
  | .zoneDelete h => some h
  | .zoneRead h => some h
  | .task h _ => some h
  | .withdraw h _ => some h
  | .connector h _ => some h
  | .allotmentRound => none
  | .award => none
  | .estopInputEdge _ _ _ => none
  | .estopFilteredChange _ => none
  | .discrepancy => none
  | .stopAll h _ => some h
  | .stopGroup h _ _ => some h
  | .stopMachine h _ _ => some h
  | .armAll h _ => some h
  | .armGroup h _ _ => some h
  | .confirm h _ _ => some h
  | .release h _ _ => some h
  | .disarm h _ => some h
  | .withdrawalRequest _ _ _ _ => none
  | .leaseExpiry _ => none
  | .safeLogic => none
  | .safeStore _ => none
  | .safeClock => none
  | .safeClockRestored => none
  | .seqFault => none
  | .loopEval _ => none
  | .loopTick _ => none
  | .loopHold _ => none
  | .holdStep _ => none
  | .holdWithdraw _ => none
  | .resume h => some h
  | .clearI h => some h
  | .coefWrite h _ _ _ _ => some h
  | .readId _ _ _ => none
  | .status _ _ _ _ _ => none
  | .setChannel _ _ => none
  | .setPower _ _ => none
  | .txLoad _ _ => none
  | .txCancel _ _ => none
  | .rxRead _ _ _ => none
  | .rxFlush _ _ => none
  | .startNibbleTimeout _ _ => none
  | .rxstamp _ _ => none
  | .rxIrq _ => none
  | .stampOnly _ _ => none
  | .slotCutoff _ _ => none
  | .slotStart _ _ => none
  | .planSwitch _ => none
  | .noHeadTimeout _ => none
  | .portRetry _ => none
  | .resetHead h _ => some h
  | .upFrame _ => none
  | .ackFrame _ => none
  | .joinReq _ => none
  | .joinAccAbandon => none
  | .leave _ => none
  | .pend _ => none
  | .relay _ => none
  | .silenceTimeout _ => none
  | .wakeMiss _ => none
  | .addrHoldExpiry _ => none
  | .disassoc h => some h
  | .freeAddr h => some h
  | .jobComplete _ _ => none
  | .jobRetire _ => none
  | .delayRelease => none
  | .budgetWindow => none
  | .waitClr h => some h
  | .stripEnd _ => none
  | .stripOverrun => none
  | .hodPtrMismatch _ => none
  | .hodUnread _ _ _ => none
  | .hodReset src => src
  | .hodDrop src _ => src
  | .ethFrame _ => none
  | .ageVisit _ _ => none
  | .tableRebuild _ => none
  | .ethLinkChange _ _ _ => none
  | .search h _ _ _ => some h
  | .nextEntry h _ _ _ => some h
  | .flushPort h _ _ _ => some h
  | .staticAdd h _ _ _ => some h
  | .staticDel h _ _ _ => some h
  | .rule h _ => some h
  | .ruleWrite h => some h
  | .ruleDelete h => some h
  | .ruleRead h => some h
  | .ppsEdge _ _ => none
  | .ptpSync _ _ _ => none
  | .ptpMessage _ _ => none
  | .sourceAbsentTimeout _ => none
  | .holdLimitExpiry => none
  | .forceSet h => some h
  | .forceSetApply => none
  | .timeHoldEnd => none
  | .clearDis h => some h
  | .trigArm h _ _ => some h
  | .triggerFire _ => none
  | .armAdvance src _ => src
  | .armRevokeA src => src
  | .lcConfirm src _ => src
  | .lcDisarm src => src
  | .fuseBlown => none
  | .root h _ => some h
  | .keyPut h _ => some h
  | .keyringWritten _ _ => none
  | .keyInvalidate h _ _ => some h
  | .invalidate h _ => some h
  | .evict h _ => some h
  | .keyLoad _ _ _ => none
  | .keyOperationEnd _ => none
  | .newChal src => src
  | .submit src _ _ => src
  | .hello _ _ => none
  | .helloSend => none
  | .renewSend => none
  | .renew _ _ => none
  | .pairAck _ _ => none
  | .pathDownTimeout _ => none
  | .fence => none
  | .takeover => none
  | .retakeWaitExpiry => none
  | .jrnl _ _ => none
  | .jrnlAck _ _ _ => none
  | .digest _ _ _ _ _ _ => none
  | .copyReq _ _ => none
  | .copyReqRetry => none
  | .copyBegin _ _ _ _ _ _ _ => none
  | .copyChunk _ _ _ _ => none
  | .copyEnd _ _ _ _ _ => none
  | .copyResult _ _ _ => none
  | .copyTimeout => none
  | .handover h _ => some h
  | .handoverFrame _ => none
  | .takeAlone h _ => some h
  | .clientHello _ _ _ _ _ _ => none
  | .sessionClose _ => none
  | .idleTimeout _ => none
  | .read h _ _ _ => some h
  | .write h _ _ _ => some h
  | .writeSeq h _ _ _ _ => some h
  | .registerWrite h _ _ => some h
  | .commitMsg h => some h
  | .subscribe h _ _ _ _ _ => some h
  | .unsubscribe h _ _ => some h
  | .journalAck h _ _ _ => some h
  | .logRead h _ _ _ => some h
  | .logErase h _ => some h
  | .logEraseDone => none
  | .recordWritten _ _ _ => none
  | .updBegin h _ _ => some h
  | .updEraseDone _ _ => none
  | .updBlock h _ _ _ _ _ _ _ => some h
  | .updStatus h => some h
  | .updVerify h _ => some h
  | .updActivate h _ _ => some h
  | .updConfirm h _ _ => some h
  | .updAbort h => some h
  | .updInfo h _ => some h
  | .trialTimeout => none
  | .boot _ => none
  | .journalStart => none
  | .snagTest _ => none
  | .coverMiss _ _ _ => none
  | .safeSelfCheck _ => none
  | .restartBay h _ => some h
  | .snagFence h _ => some h
  | .retest h _ _ => some h
  | .bayDomainOn => none
  | .bayRestartDone _ _ _ => none
  | .railTrip _ _ _ => none
  | .railGlitch _ => none
  | .aonPowerOn => none
  | .resetN => none
  | .clockLoss _ => none
  | .coreFault => none
  | .watchdog => none
  | .resetRelease => none
  | .pcrReset h => some h
  | .standby h => some h
  | .standbyEntered => none
  | .wake _ => none
  | .tempRead _ => none
  | .permitDynToggle => none
  | .fragmentReassemblyTimeout _ => none
  | .announceReceiptTimeout _ => none
  | .ptpSendInterval _ _ => none

end Sys2Proof
end

