-- ==== Sys2Proof/Laws/PerInstr.lean ====
section
/-!
SUPPORT. The families of statements about a command as syntax, one lemma per constructor.
-/

set_option Elab.async false

namespace Sys2Proof.Laws

/-- A well-formed command that comes in as a GMP message comes on one of the four sessions (17_host R431) with a 16-bit
request ID (R433). -/
def WireSafe.Statement (i : Instr) : Prop :=
  i.wf = true → ∀ h, i.header = some h → h.sess < 4 ∧ h.port < 2 ∧ h.reqId < 2 ^ 32

/-- What the header check says. -/
theorem hdr_wf_bounds (h : GmpHdr) (w : h.wf = true) : h.sess < 4 ∧ h.port < 2 ∧ h.reqId < 2 ^ 32 := by
  simp only [GmpHdr.wf, fits, Bool.and_eq_true, decide_eq_true_eq] at w
  omega

/-- The first of two checks. -/
theorem and_l {a b : Bool} (h : (a && b) = true) : a = true := (Bool.and_eq_true_iff.mp h).1

/-- A command without a header states nothing. -/
theorem wire_none (i : Instr) (h : i.header = none) : WireSafe.Statement i := by
  intro _ x hx; rw [h] at hx; cases hx

/-- A command whose check includes that of its header. -/
theorem wire_some (i : Instr) (h : GmpHdr) (e : i.header = some h) (w : i.wf = true → h.wf = true) : WireSafe.Statement i := by
  intro a x hx; rw [e] at hx; cases hx; exact hdr_wf_bounds h (w a)

/-- A command whose header is optional. -/
theorem wire_opt (i : Instr) (o : Option GmpHdr) (e : i.header = o) (w : i.wf = true → o.all GmpHdr.wf = true) :
    WireSafe.Statement i := by
  intro a x hx; rw [e] at hx; subst hx; exact hdr_wf_bounds x (w a)

theorem WireSafe.sfMark : WireSafe.Statement .sfMark := wire_none _ rfl
theorem WireSafe.genCommit (h : GmpHdr) : WireSafe.Statement (.genCommit h) :=
  wire_some _ h rfl (fun a => a)
theorem WireSafe.discard (h : GmpHdr) : WireSafe.Statement (.discard h) :=
  wire_some _ h rfl (fun a => a)
theorem WireSafe.commitEntry : WireSafe.Statement .commitEntry := wire_none _ rfl
theorem WireSafe.catchupEnd : WireSafe.Statement .catchupEnd := wire_none _ rfl
theorem WireSafe.settingsWritten (ok0 ok1 : Bool) : WireSafe.Statement (.settingsWritten ok0 ok1) :=
  wire_none _ rfl
theorem WireSafe.rtcmUartMessage (k : Nat) (framing : Bool) (m : RtcmMsg) : WireSafe.Statement (.rtcmUartMessage k framing m) :=
  wire_none _ rfl
theorem WireSafe.rtcm (h : GmpHdr) (digest k count : Nat) (whole : Bool) (frames : List RtcmMsg) : WireSafe.Statement (.rtcm h digest k count whole frames) :=
  wire_some _ h rfl (fun a => and_l (and_l (and_l (and_l (a)))))
theorem WireSafe.refRtcm (k : Nat) (m : RtcmMsg) : WireSafe.Statement (.refRtcm k m) :=
  wire_none _ rfl
theorem WireSafe.refLost (k : Nat) : WireSafe.Statement (.refLost k) :=
  wire_none _ rfl
theorem WireSafe.refAbsentTimeout (k : Nat) : WireSafe.Statement (.refAbsentTimeout k) :=
  wire_none _ rfl
theorem WireSafe.clear (h : GmpHdr) (k : Nat) : WireSafe.Statement (.clear h k) :=
  wire_some _ h rfl (fun a => and_l (a))
theorem WireSafe.switch (h : GmpHdr) : WireSafe.Statement (.switch h) :=
  wire_some _ h rfl (fun a => a)
theorem WireSafe.fixRecord (m done : Nat) (nums : FixNums) (tile : Option TileFail) : WireSafe.Statement (.fixRecord m done nums tile) :=
  wire_none _ rfl
theorem WireSafe.fixAgeExpiry (m : Nat) : WireSafe.Statement (.fixAgeExpiry m) :=
  wire_none _ rfl
theorem WireSafe.resvRebuild (group : Nat) : WireSafe.Statement (.resvRebuild group) :=
  wire_none _ rfl
theorem WireSafe.roverReset (h : GmpHdr) : WireSafe.Statement (.roverReset h) :=
  wire_some _ h rfl (fun a => a)
theorem WireSafe.track (h : GmpHdr) (b : TrackBody) : WireSafe.Statement (.track h b) :=
  wire_some _ h rfl (fun a => and_l (a))
theorem WireSafe.scrInsert : WireSafe.Statement .scrInsert := wire_none _ rfl
theorem WireSafe.cancel (h : GmpHdr) (b : CancelBody) : WireSafe.Statement (.cancel h b) :=
  wire_some _ h rfl (fun a => and_l (a))
theorem WireSafe.cancelAll (h : GmpHdr) : WireSafe.Statement (.cancelAll h) :=
  wire_some _ h rfl (fun a => a)
theorem WireSafe.slotAdvance : WireSafe.Statement .slotAdvance := wire_none _ rfl
theorem WireSafe.conformanceCheck (m : Nat) : WireSafe.Statement (.conformanceCheck m) :=
  wire_none _ rfl
theorem WireSafe.zone (h : GmpHdr) (rs : List ZoneRec) : WireSafe.Statement (.zone h rs) :=
  wire_some _ h rfl (fun a => and_l (a))
theorem WireSafe.zoneWrite (h : GmpHdr) : WireSafe.Statement (.zoneWrite h) :=
  wire_some _ h rfl (fun a => a)
theorem WireSafe.zoneDelete (h : GmpHdr) : WireSafe.Statement (.zoneDelete h) :=
  wire_some _ h rfl (fun a => a)
theorem WireSafe.zoneRead (h : GmpHdr) : WireSafe.Statement (.zoneRead h) :=
  wire_some _ h rfl (fun a => a)
theorem WireSafe.task (h : GmpHdr) (b : TaskBody) : WireSafe.Statement (.task h b) :=
  wire_some _ h rfl (fun a => and_l (a))
theorem WireSafe.withdraw (h : GmpHdr) (ref : Nat) : WireSafe.Statement (.withdraw h ref) :=
  wire_some _ h rfl (fun a => and_l (a))
theorem WireSafe.connector (h : GmpHdr) (b : ConnBody) : WireSafe.Statement (.connector h b) :=
  wire_some _ h rfl (fun a => and_l (a))
theorem WireSafe.allotmentRound : WireSafe.Statement .allotmentRound := wire_none _ rfl
theorem WireSafe.award : WireSafe.Statement .award := wire_none _ rfl
theorem WireSafe.estopInputEdge (chA level : Bool) (ns : Nat) : WireSafe.Statement (.estopInputEdge chA level ns) :=
  wire_none _ rfl
theorem WireSafe.estopFilteredChange (chA : Bool) : WireSafe.Statement (.estopFilteredChange chA) :=
  wire_none _ rfl
theorem WireSafe.discrepancy : WireSafe.Statement .discrepancy := wire_none _ rfl
theorem WireSafe.stopAll (h : GmpHdr) (asWrite : Bool) : WireSafe.Statement (.stopAll h asWrite) :=
  wire_some _ h rfl (fun a => a)
theorem WireSafe.stopGroup (h : GmpHdr) (asWrite : Bool) (group : Nat) : WireSafe.Statement (.stopGroup h asWrite group) :=
  wire_some _ h rfl (fun a => and_l (a))
theorem WireSafe.stopMachine (h : GmpHdr) (asWrite : Bool) (addr : Nat) : WireSafe.Statement (.stopMachine h asWrite addr) :=
  wire_some _ h rfl (fun a => and_l (a))
theorem WireSafe.armAll (h : GmpHdr) (asWrite : Bool) : WireSafe.Statement (.armAll h asWrite) :=
  wire_some _ h rfl (fun a => a)
theorem WireSafe.armGroup (h : GmpHdr) (asWrite : Bool) (group : Nat) : WireSafe.Statement (.armGroup h asWrite group) :=
  wire_some _ h rfl (fun a => and_l (a))
theorem WireSafe.confirm (h : GmpHdr) (asWrite : Bool) (token : Nat) : WireSafe.Statement (.confirm h asWrite token) :=
  wire_some _ h rfl (fun a => and_l (a))
theorem WireSafe.release (h : GmpHdr) (asWrite : Bool) (addr : Nat) : WireSafe.Statement (.release h asWrite addr) :=
  wire_some _ h rfl (fun a => and_l (a))
theorem WireSafe.disarm (h : GmpHdr) (asWrite : Bool) : WireSafe.Statement (.disarm h asWrite) :=
  wire_some _ h rfl (fun a => a)
theorem WireSafe.withdrawalRequest (m cause sf seq : Nat) : WireSafe.Statement (.withdrawalRequest m cause sf seq) :=
  wire_none _ rfl
theorem WireSafe.leaseExpiry (m : Nat) : WireSafe.Statement (.leaseExpiry m) :=
  wire_none _ rfl
theorem WireSafe.safeLogic : WireSafe.Statement .safeLogic := wire_none _ rfl
theorem WireSafe.safeStore (copyOk : Bool) : WireSafe.Statement (.safeStore copyOk) :=
  wire_none _ rfl
theorem WireSafe.safeClock : WireSafe.Statement .safeClock := wire_none _ rfl
theorem WireSafe.safeClockRestored : WireSafe.Statement .safeClockRestored := wire_none _ rfl
theorem WireSafe.seqFault : WireSafe.Statement .seqFault := wire_none _ rfl
theorem WireSafe.loopEval (m : Nat) : WireSafe.Statement (.loopEval m) :=
  wire_none _ rfl
theorem WireSafe.loopTick (l : Nat) : WireSafe.Statement (.loopTick l) :=
  wire_none _ rfl
theorem WireSafe.loopHold (l : Nat) : WireSafe.Statement (.loopHold l) :=
  wire_none _ rfl
theorem WireSafe.holdStep (l : Nat) : WireSafe.Statement (.holdStep l) :=
  wire_none _ rfl
theorem WireSafe.holdWithdraw (l : Nat) : WireSafe.Statement (.holdWithdraw l) :=
  wire_none _ rfl
theorem WireSafe.resume (h : GmpHdr) : WireSafe.Statement (.resume h) :=
  wire_some _ h rfl (fun a => a)
theorem WireSafe.clearI (h : GmpHdr) : WireSafe.Statement (.clearI h) :=
  wire_some _ h rfl (fun a => a)
theorem WireSafe.coefWrite (h : GmpHdr) (g r w : Nat) (v : Word) : WireSafe.Statement (.coefWrite h g r w v) :=
  wire_some _ h rfl (fun a => and_l (and_l (and_l (a))))
theorem WireSafe.readId (k : Nat) (r : HeadResp) (hid : HeadId) : WireSafe.Statement (.readId k r hid) :=
  wire_none _ rfl
theorem WireSafe.status (k : Nat) (r : HeadResp) (flags rxCount fault : Nat) : WireSafe.Statement (.status k r flags rxCount fault) :=
  wire_none _ rfl
theorem WireSafe.setChannel (k : Nat) (r : HeadResp) : WireSafe.Statement (.setChannel k r) :=
  wire_none _ rfl
theorem WireSafe.setPower (k : Nat) (r : HeadResp) : WireSafe.Statement (.setPower k r) :=
  wire_none _ rfl
theorem WireSafe.txLoad (k : Nat) (r : HeadResp) : WireSafe.Statement (.txLoad k r) :=
  wire_none _ rfl
theorem WireSafe.txCancel (k : Nat) (r : HeadResp) : WireSafe.Statement (.txCancel k r) :=
  wire_none _ rfl
theorem WireSafe.rxRead (k : Nat) (r : HeadResp) (f : Option Sys2Proof.Machine.RxRead) : WireSafe.Statement (.rxRead k r f) :=
  wire_none _ rfl
theorem WireSafe.rxFlush (k : Nat) (r : HeadResp) : WireSafe.Statement (.rxFlush k r) :=
  wire_none _ rfl
theorem WireSafe.startNibbleTimeout (k cmd : Nat) : WireSafe.Statement (.startNibbleTimeout k cmd) :=
  wire_none _ rfl
theorem WireSafe.rxstamp (k ns : Nat) : WireSafe.Statement (.rxstamp k ns) :=
  wire_none _ rfl
theorem WireSafe.rxIrq (k : Nat) : WireSafe.Statement (.rxIrq k) :=
  wire_none _ rfl
theorem WireSafe.stampOnly (k seq : Nat) : WireSafe.Statement (.stampOnly k seq) :=
  wire_none _ rfl
theorem WireSafe.slotCutoff (sf slot : Nat) : WireSafe.Statement (.slotCutoff sf slot) :=
  wire_none _ rfl
theorem WireSafe.slotStart (sf slot : Nat) : WireSafe.Statement (.slotStart sf slot) :=
  wire_none _ rfl
theorem WireSafe.planSwitch (k : Nat) : WireSafe.Statement (.planSwitch k) :=
  wire_none _ rfl
theorem WireSafe.noHeadTimeout (k : Nat) : WireSafe.Statement (.noHeadTimeout k) :=
  wire_none _ rfl
theorem WireSafe.portRetry (k : Nat) : WireSafe.Statement (.portRetry k) :=
  wire_none _ rfl
theorem WireSafe.resetHead (h : GmpHdr) (k : Nat) : WireSafe.Statement (.resetHead h k) :=
  wire_some _ h rfl (fun a => and_l (a))
theorem WireSafe.upFrame (k : Nat) : WireSafe.Statement (.upFrame k) :=
  wire_none _ rfl
theorem WireSafe.ackFrame (k : Nat) : WireSafe.Statement (.ackFrame k) :=
  wire_none _ rfl
theorem WireSafe.joinReq (k : Nat) : WireSafe.Statement (.joinReq k) :=
  wire_none _ rfl
theorem WireSafe.joinAccAbandon : WireSafe.Statement .joinAccAbandon := wire_none _ rfl
theorem WireSafe.leave (k : Nat) : WireSafe.Statement (.leave k) :=
  wire_none _ rfl
theorem WireSafe.pend (k : Nat) : WireSafe.Statement (.pend k) :=
  wire_none _ rfl
theorem WireSafe.relay (k : Nat) : WireSafe.Statement (.relay k) :=
  wire_none _ rfl
theorem WireSafe.silenceTimeout (a : Nat) : WireSafe.Statement (.silenceTimeout a) :=
  wire_none _ rfl
theorem WireSafe.wakeMiss (a : Nat) : WireSafe.Statement (.wakeMiss a) :=
  wire_none _ rfl
theorem WireSafe.addrHoldExpiry (a : Nat) : WireSafe.Statement (.addrHoldExpiry a) :=
  wire_none _ rfl
theorem WireSafe.disassoc (h : GmpHdr) : WireSafe.Statement (.disassoc h) :=
  wire_some _ h rfl (fun a => a)
theorem WireSafe.freeAddr (h : GmpHdr) : WireSafe.Statement (.freeAddr h) :=
  wire_some _ h rfl (fun a => a)
theorem WireSafe.jobComplete (desc status : Nat) : WireSafe.Statement (.jobComplete desc status) :=
  wire_none _ rfl
theorem WireSafe.jobRetire (desc : Nat) : WireSafe.Statement (.jobRetire desc) :=
  wire_none _ rfl
theorem WireSafe.delayRelease : WireSafe.Statement .delayRelease := wire_none _ rfl
theorem WireSafe.budgetWindow : WireSafe.Statement .budgetWindow := wire_none _ rfl
theorem WireSafe.waitClr (h : GmpHdr) : WireSafe.Statement (.waitClr h) :=
  wire_some _ h rfl (fun a => a)
theorem WireSafe.stripEnd (us : Nat) : WireSafe.Statement (.stripEnd us) :=
  wire_none _ rfl
theorem WireSafe.stripOverrun : WireSafe.Statement .stripOverrun := wire_none _ rfl
theorem WireSafe.hodPtrMismatch (hod : Nat) : WireSafe.Statement (.hodPtrMismatch hod) :=
  wire_none _ rfl
theorem WireSafe.hodUnread (hod used packets : Nat) : WireSafe.Statement (.hodUnread hod used packets) :=
  wire_none _ rfl
theorem WireSafe.hodReset (src : Option GmpHdr) : WireSafe.Statement (.hodReset src) :=
  wire_opt _ src rfl (fun a => a)
theorem WireSafe.hodDrop (src : Option GmpHdr) (rest : Option (Nat × Bool)) : WireSafe.Statement (.hodDrop src rest) :=
  wire_opt _ src rfl (fun a => a)
theorem WireSafe.ethFrame (f : EthFrame) : WireSafe.Statement (.ethFrame f) :=
  wire_none _ rfl
theorem WireSafe.ageVisit (p bucket : Nat) : WireSafe.Statement (.ageVisit p bucket) :=
  wire_none _ rfl
theorem WireSafe.tableRebuild (table : Nat) : WireSafe.Statement (.tableRebuild table) :=
  wire_none _ rfl
theorem WireSafe.ethLinkChange (p : Nat) (isUp : Bool) (speed : Nat) : WireSafe.Statement (.ethLinkChange p isUp speed) :=
  wire_none _ rfl
theorem WireSafe.search (h : GmpHdr) (pipe kind port : Nat) : WireSafe.Statement (.search h pipe kind port) :=
  wire_some _ h rfl (fun a => and_l (and_l (and_l (a))))
theorem WireSafe.nextEntry (h : GmpHdr) (pipe kind port : Nat) : WireSafe.Statement (.nextEntry h pipe kind port) :=
  wire_some _ h rfl (fun a => and_l (and_l (and_l (a))))
theorem WireSafe.flushPort (h : GmpHdr) (pipe kind port : Nat) : WireSafe.Statement (.flushPort h pipe kind port) :=
  wire_some _ h rfl (fun a => and_l (and_l (and_l (a))))
theorem WireSafe.staticAdd (h : GmpHdr) (pipe kind port : Nat) : WireSafe.Statement (.staticAdd h pipe kind port) :=
  wire_some _ h rfl (fun a => and_l (and_l (and_l (a))))
theorem WireSafe.staticDel (h : GmpHdr) (pipe kind port : Nat) : WireSafe.Statement (.staticDel h pipe kind port) :=
  wire_some _ h rfl (fun a => and_l (and_l (and_l (a))))
theorem WireSafe.rule (h : GmpHdr) (rs : List RuleRec) : WireSafe.Statement (.rule h rs) :=
  wire_some _ h rfl (fun a => and_l (a))
theorem WireSafe.ruleWrite (h : GmpHdr) : WireSafe.Statement (.ruleWrite h) :=
  wire_some _ h rfl (fun a => a)
theorem WireSafe.ruleDelete (h : GmpHdr) : WireSafe.Statement (.ruleDelete h) :=
  wire_some _ h rfl (fun a => a)
theorem WireSafe.ruleRead (h : GmpHdr) : WireSafe.Statement (.ruleRead h) :=
  wire_some _ h rfl (fun a => a)
theorem WireSafe.ppsEdge (k ns : Nat) : WireSafe.Statement (.ppsEdge k ns) :=
  wire_none _ rfl
theorem WireSafe.ptpSync (port : Nat) (e : Int) (ns : Nat) : WireSafe.Statement (.ptpSync port e ns) :=
  wire_none _ rfl
theorem WireSafe.ptpMessage (port : Nat) (m : PtpMsg) : WireSafe.Statement (.ptpMessage port m) :=
  wire_none _ rfl
theorem WireSafe.sourceAbsentTimeout (k : Nat) : WireSafe.Statement (.sourceAbsentTimeout k) :=
  wire_none _ rfl
theorem WireSafe.holdLimitExpiry : WireSafe.Statement .holdLimitExpiry := wire_none _ rfl
theorem WireSafe.forceSet (h : GmpHdr) : WireSafe.Statement (.forceSet h) :=
  wire_some _ h rfl (fun a => a)
theorem WireSafe.forceSetApply : WireSafe.Statement .forceSetApply := wire_none _ rfl
theorem WireSafe.timeHoldEnd : WireSafe.Statement .timeHoldEnd := wire_none _ rfl
theorem WireSafe.clearDis (h : GmpHdr) : WireSafe.Statement (.clearDis h) :=
  wire_some _ h rfl (fun a => a)
theorem WireSafe.trigArm (h : GmpHdr) (k : Nat) (v : Word) : WireSafe.Statement (.trigArm h k v) :=
  wire_some _ h rfl (fun a => and_l (a))
theorem WireSafe.triggerFire (k : Nat) : WireSafe.Statement (.triggerFire k) :=
  wire_none _ rfl
theorem WireSafe.armAdvance (src : Option GmpHdr) (target : Nat) : WireSafe.Statement (.armAdvance src target) :=
  wire_opt _ src rfl (fun a => and_l (a))
theorem WireSafe.armRevokeA (src : Option GmpHdr) : WireSafe.Statement (.armRevokeA src) :=
  wire_opt _ src rfl (fun a => a)
theorem WireSafe.lcConfirm (src : Option GmpHdr) (token : Nat) : WireSafe.Statement (.lcConfirm src token) :=
  wire_opt _ src rfl (fun a => and_l (a))
theorem WireSafe.lcDisarm (src : Option GmpHdr) : WireSafe.Statement (.lcDisarm src) :=
  wire_opt _ src rfl (fun a => a)
theorem WireSafe.fuseBlown : WireSafe.Statement .fuseBlown := wire_none _ rfl
theorem WireSafe.root (h : GmpHdr) (b : RootBody) : WireSafe.Statement (.root h b) :=
  wire_some _ h rfl (fun a => and_l (a))
theorem WireSafe.keyPut (h : GmpHdr) (b : Blob) : WireSafe.Statement (.keyPut h b) :=
  wire_some _ h rfl (fun a => and_l (a))
theorem WireSafe.keyringWritten (ok0 ok1 : Bool) : WireSafe.Statement (.keyringWritten ok0 ok1) :=
  wire_none _ rfl
theorem WireSafe.keyInvalidate (h : GmpHdr) (id zero : Nat) : WireSafe.Statement (.keyInvalidate h id zero) :=
  wire_some _ h rfl (fun a => and_l (and_l (a)))
theorem WireSafe.invalidate (h : GmpHdr) (id : Nat) : WireSafe.Statement (.invalidate h id) :=
  wire_some _ h rfl (fun a => and_l (a))
theorem WireSafe.evict (h : GmpHdr) (id : Nat) : WireSafe.Statement (.evict h id) :=
  wire_some _ h rfl (fun a => and_l (a))
theorem WireSafe.keyLoad (id master usage : Nat) : WireSafe.Statement (.keyLoad id master usage) :=
  wire_none _ rfl
theorem WireSafe.keyOperationEnd (slot : Nat) : WireSafe.Statement (.keyOperationEnd slot) :=
  wire_none _ rfl
theorem WireSafe.newChal (src : Option GmpHdr) : WireSafe.Statement (.newChal src) :=
  wire_opt _ src rfl (fun a => a)
theorem WireSafe.submit (src : Option GmpHdr) (resp : List Word) (right : Bool) : WireSafe.Statement (.submit src resp right) :=
  wire_opt _ src rfl (fun a => a)
theorem WireSafe.hello (f : PairHdr) (r : Nat) : WireSafe.Statement (.hello f r) :=
  wire_none _ rfl
theorem WireSafe.helloSend : WireSafe.Statement .helloSend := wire_none _ rfl
theorem WireSafe.renewSend : WireSafe.Statement .renewSend := wire_none _ rfl
theorem WireSafe.renew (f : PairHdr) (num : Nat) : WireSafe.Statement (.renew f num) :=
  wire_none _ rfl
theorem WireSafe.pairAck (f : PairHdr) (num : Nat) : WireSafe.Statement (.pairAck f num) :=
  wire_none _ rfl
theorem WireSafe.pathDownTimeout (path : Nat) : WireSafe.Statement (.pathDownTimeout path) :=
  wire_none _ rfl
theorem WireSafe.fence : WireSafe.Statement .fence := wire_none _ rfl
theorem WireSafe.takeover : WireSafe.Statement .takeover := wire_none _ rfl
theorem WireSafe.retakeWaitExpiry : WireSafe.Statement .retakeWaitExpiry := wire_none _ rfl
theorem WireSafe.jrnl (f : PairHdr) (l : List (JEntry × Bool)) : WireSafe.Statement (.jrnl f l) :=
  wire_none _ rfl
theorem WireSafe.jrnlAck (f : PairHdr) (sf seq : Nat) : WireSafe.Statement (.jrnlAck f sf seq) :=
  wire_none _ rfl
theorem WireSafe.digest (f : PairHdr) (digest : List Nat) (gen version build cls : Nat) : WireSafe.Statement (.digest f digest gen version build cls) :=
  wire_none _ rfl
theorem WireSafe.copyReq (f : PairHdr) (chunk : Option Nat) : WireSafe.Statement (.copyReq f chunk) :=
  wire_none _ rfl
theorem WireSafe.copyReqRetry : WireSafe.Statement .copyReqRetry := wire_none _ rfl
theorem WireSafe.copyBegin (f : PairHdr) (epoch p0 gen cls nchunk : Nat) (digest : List Nat) : WireSafe.Statement (.copyBegin f epoch p0 gen cls nchunk digest) :=
  wire_none _ rfl
theorem WireSafe.copyChunk (f : PairHdr) (epoch index : Nat) (crcOk : Bool) : WireSafe.Statement (.copyChunk f epoch index crcOk) :=
  wire_none _ rfl
theorem WireSafe.copyEnd (f : PairHdr) (epoch nchunk : Nat) (digestOk : Bool) (c : Sys2Proof.Machine.Covered) : WireSafe.Statement (.copyEnd f epoch nchunk digestOk c) :=
  wire_none _ rfl
theorem WireSafe.copyResult (f : PairHdr) (epoch : Nat) (ok : Bool) : WireSafe.Statement (.copyResult f epoch ok) :=
  wire_none _ rfl
theorem WireSafe.copyTimeout : WireSafe.Statement .copyTimeout := wire_none _ rfl
theorem WireSafe.handover (h : GmpHdr) (force : Bool) : WireSafe.Statement (.handover h force) :=
  wire_some _ h rfl (fun a => a)
theorem WireSafe.handoverFrame (f : PairHdr) : WireSafe.Statement (.handoverFrame f) :=
  wire_none _ rfl
theorem WireSafe.takeAlone (h : GmpHdr) (v : Word) : WireSafe.Statement (.takeAlone h v) :=
  wire_some _ h rfl (fun a => a)
theorem WireSafe.clientHello (bytes : List Nat) (binder : Bool) (suite port : Nat) (peer : Option Nat) (fin : Bool) : WireSafe.Statement (.clientHello bytes binder suite port peer fin) :=
  wire_none _ rfl
theorem WireSafe.sessionClose (k : Nat) : WireSafe.Statement (.sessionClose k) :=
  wire_none _ rfl
theorem WireSafe.idleTimeout (k : Nat) : WireSafe.Statement (.idleTimeout k) :=
  wire_none _ rfl
theorem WireSafe.read (h : GmpHdr) (addr count zero : Nat) : WireSafe.Statement (.read h addr count zero) :=
  wire_some _ h rfl (fun a => and_l (and_l (and_l (a))))
theorem WireSafe.write (h : GmpHdr) (ws : List (Nat × Word)) (dbg pass : Bool) : WireSafe.Statement (.write h ws dbg pass) :=
  wire_some _ h rfl (fun a => and_l (a))
theorem WireSafe.writeSeq (h : GmpHdr) (addr : Nat) (ws : List Word) (dbg pass : Bool) : WireSafe.Statement (.writeSeq h addr ws dbg pass) :=
  wire_some _ h rfl (fun a => and_l (a))
theorem WireSafe.registerWrite (h : GmpHdr) (addr : Nat) (v : Word) : WireSafe.Statement (.registerWrite h addr v) :=
  wire_some _ h rfl (fun a => and_l (a))
theorem WireSafe.commitMsg (h : GmpHdr) : WireSafe.Statement (.commitMsg h) :=
  wire_some _ h rfl (fun a => a)
theorem WireSafe.subscribe (h : GmpHdr) (topic zero mask sf seq : Nat) : WireSafe.Statement (.subscribe h topic zero mask sf seq) :=
  wire_some _ h rfl (fun a => and_l (and_l (and_l (and_l (and_l (a))))))
theorem WireSafe.unsubscribe (h : GmpHdr) (topic zero : Nat) : WireSafe.Statement (.unsubscribe h topic zero) :=
  wire_some _ h rfl (fun a => and_l (and_l (a)))
theorem WireSafe.journalAck (h : GmpHdr) (sf seq zero : Nat) : WireSafe.Statement (.journalAck h sf seq zero) :=
  wire_some _ h rfl (fun a => and_l (and_l (and_l (a))))
theorem WireSafe.logRead (h : GmpHdr) (first count zeros : Nat) : WireSafe.Statement (.logRead h first count zeros) :=
  wire_some _ h rfl (fun a => and_l (and_l (and_l (a))))
theorem WireSafe.logErase (h : GmpHdr) (total : Nat) : WireSafe.Statement (.logErase h total) :=
  wire_some _ h rfl (fun a => and_l (a))
theorem WireSafe.logEraseDone : WireSafe.Statement .logEraseDone := wire_none _ rfl
theorem WireSafe.recordWritten (same ok0 ok1 : Bool) : WireSafe.Statement (.recordWritten same ok0 ok1) :=
  wire_none _ rfl
theorem WireSafe.updBegin (h : GmpHdr) (target length : Nat) : WireSafe.Statement (.updBegin h target length) :=
  wire_some _ h rfl (fun a => and_l (and_l (a)))
theorem WireSafe.updEraseDone (ok0 ok1 : Bool) : WireSafe.Statement (.updEraseDone ok0 ok1) :=
  wire_none _ rfl
theorem WireSafe.updBlock (h : GmpHdr) (offset dlen crc : Nat) (data : List Nat) (ok0 ok1 same : Bool) : WireSafe.Statement (.updBlock h offset dlen crc data ok0 ok1 same) :=
  wire_some _ h rfl (fun a => and_l (and_l (and_l (and_l (a)))))
theorem WireSafe.updStatus (h : GmpHdr) : WireSafe.Statement (.updStatus h) :=
  wire_some _ h rfl (fun a => a)
theorem WireSafe.updVerify (h : GmpHdr) (sig : Bool) : WireSafe.Statement (.updVerify h sig) :=
  wire_some _ h rfl (fun a => a)
theorem WireSafe.updActivate (h : GmpHdr) (ok0 ok1 : Bool) : WireSafe.Statement (.updActivate h ok0 ok1) :=
  wire_some _ h rfl (fun a => a)
theorem WireSafe.updConfirm (h : GmpHdr) (ok0 ok1 : Bool) : WireSafe.Statement (.updConfirm h ok0 ok1) :=
  wire_some _ h rfl (fun a => a)
theorem WireSafe.updAbort (h : GmpHdr) : WireSafe.Statement (.updAbort h) :=
  wire_some _ h rfl (fun a => a)
theorem WireSafe.updInfo (h : GmpHdr) (good : Bool) : WireSafe.Statement (.updInfo h good) :=
  wire_some _ h rfl (fun a => a)
theorem WireSafe.trialTimeout : WireSafe.Statement .trialTimeout := wire_none _ rfl
theorem WireSafe.boot (b : BootIn) : WireSafe.Statement (.boot b) :=
  wire_none _ rfl
theorem WireSafe.journalStart : WireSafe.Statement .journalStart := wire_none _ rfl
theorem WireSafe.snagTest (x : SnagTest) : WireSafe.Statement (.snagTest x) :=
  wire_none _ rfl
theorem WireSafe.coverMiss (cat u item : Nat) : WireSafe.Statement (.coverMiss cat u item) :=
  wire_none _ rfl
theorem WireSafe.safeSelfCheck (ok : Bool) : WireSafe.Statement (.safeSelfCheck ok) :=
  wire_none _ rfl
theorem WireSafe.restartBay (h : GmpHdr) (bay : Nat) : WireSafe.Statement (.restartBay h bay) :=
  wire_some _ h rfl (fun a => and_l (a))
theorem WireSafe.snagFence (h : GmpHdr) (engine : Nat) : WireSafe.Statement (.snagFence h engine) :=
  wire_some _ h rfl (fun a => and_l (a))
theorem WireSafe.retest (h : GmpHdr) (engine : Nat) (pass : Bool) : WireSafe.Statement (.retest h engine pass) :=
  wire_some _ h rfl (fun a => and_l (a))
theorem WireSafe.bayDomainOn : WireSafe.Statement .bayDomainOn := wire_none _ rfl
theorem WireSafe.bayRestartDone (ms : Nat) (whole : Bool) (finds : List BayTest) : WireSafe.Statement (.bayRestartDone ms whole finds) :=
  wire_none _ rfl
theorem WireSafe.railTrip (r : Nat) (deep back : Bool) : WireSafe.Statement (.railTrip r deep back) :=
  wire_none _ rfl
theorem WireSafe.railGlitch (r : Nat) : WireSafe.Statement (.railGlitch r) :=
  wire_none _ rfl
theorem WireSafe.aonPowerOn : WireSafe.Statement .aonPowerOn := wire_none _ rfl
theorem WireSafe.resetN : WireSafe.Statement .resetN := wire_none _ rfl
theorem WireSafe.clockLoss (refLost : Bool) : WireSafe.Statement (.clockLoss refLost) :=
  wire_none _ rfl
theorem WireSafe.coreFault : WireSafe.Statement .coreFault := wire_none _ rfl
theorem WireSafe.watchdog : WireSafe.Statement .watchdog := wire_none _ rfl
theorem WireSafe.resetRelease : WireSafe.Statement .resetRelease := wire_none _ rfl
theorem WireSafe.pcrReset (h : GmpHdr) : WireSafe.Statement (.pcrReset h) :=
  wire_some _ h rfl (fun a => a)
theorem WireSafe.standby (h : GmpHdr) : WireSafe.Statement (.standby h) :=
  wire_some _ h rfl (fun a => a)
theorem WireSafe.standbyEntered : WireSafe.Statement .standbyEntered := wire_none _ rfl
theorem WireSafe.wake (isLow : Bool) : WireSafe.Statement (.wake isLow) :=
  wire_none _ rfl
theorem WireSafe.tempRead (t : Int) : WireSafe.Statement (.tempRead t) :=
  wire_none _ rfl
theorem WireSafe.permitDynToggle : WireSafe.Statement .permitDynToggle := wire_none _ rfl
theorem WireSafe.fragmentReassemblyTimeout (id : Nat) : WireSafe.Statement (.fragmentReassemblyTimeout id) :=
  wire_none _ rfl
theorem WireSafe.announceReceiptTimeout (port : Nat) : WireSafe.Statement (.announceReceiptTimeout port) :=
  wire_none _ rfl
theorem WireSafe.ptpSendInterval (port kind : Nat) : WireSafe.Statement (.ptpSendInterval port kind) :=
  wire_none _ rfl

end Sys2Proof.Laws
end

