-- ==== Sys2Proof/Laws/Steps.lean ====
section
/-!
SUPPORT. One edge of the clock: what it adds, exactly.
-/

set_option Elab.async false

namespace Sys2Proof.Machine

open Sys2Proof

/-- Station time gains what the edge adds, with no part of it lost (14_station_time R368). -/
theorem tick_fine (s : State) : (tick s).time.ns * 2 ^ 32 + (tick s).time.frac =
    s.time.ns * 2 ^ 32 + s.time.frac + edgeAdd (s.time.servo + s.time.slew) := by
  have h1 : (tick s).time.ns = (s.time.ns * 2 ^ 32 + s.time.frac + edgeAdd (s.time.servo + s.time.slew)) / 2 ^ 32 := rfl
  have h2 : (tick s).time.frac = (s.time.ns * 2 ^ 32 + s.time.frac + edgeAdd (s.time.servo + s.time.slew)) % 2 ^ 32 := rfl
  rw [h1, h2, Nat.div_add_mod']

/-- Station time after an edge. -/
theorem tick_time (s : State) : (tick s).time =
    { s.time with ns := (s.time.ns * 2 ^ 32 + s.time.frac + edgeAdd (s.time.servo + s.time.slew)) / 2 ^ 32,
                  frac := (s.time.ns * 2 ^ 32 + s.time.frac + edgeAdd (s.time.servo + s.time.slew)) % 2 ^ 32,
                  op := s.time.op + 10 } := rfl

end Sys2Proof.Machine
end

