-- ==== Sys2Proof/Tests/Slice0.lean ====
section
/-!
SUPPORT. Witnesses: for each statement's clauses, a concrete state and operands that meet all their hypotheses together; the
refusals of the well-formedness checks; and small tests of one step whose expected values come from the spec.
-/

namespace Sys2Proof.Tests

set_option Elab.async false

open Sys2Proof Sys2Proof.Machine

/-! The states that the witnesses start from. -/

/-- A GMP header on session 0. -/
def hdr : GmpHdr := ⟨0, 0, 1, 1, 12, 0⟩

/-- Session 0, of identity 0. -/
def sess0 : Session := ⟨0, 0, 0, none, 0, 0, [], []⟩

/-- A unit alone in service whose journal runs in superframe 100, with every right on session 0. -/
def up : State :=
  { State.reset with
    time := { TimeS.reset with ns := 2005000000, op := 9000000000, st := .locked, valid := true },
    jr := { JrnlS.reset with started := true, sf := 100, lastSf := 100, lastSeq := 3, nextSeq := 4, gen := 1 },
    regs := { RegS.reset with force := [(wkey Addr.NET_IDENT_SEL 0 Addr.NET_IDENT_RIGHTS, 0x800001FF#32)] },
    gmp := { GmpS.reset with sess := [(0, sess0)] },
    pcr := { PcrS.reset with phase := .up } }

/-- A word of an unwindowed register put into force. -/
def put (a : Nat) (w : Word) (s : State) : State := setForce (rkey a) w s

/-- What GmpMay asks of a request on session 0 with a right and a job class, decided. -/
def mayB (r c : Nat) (s : State) : Bool :=
  decide (session s 0 = some sess0) && (cacheFind (kget [] s.gmp.cache 0) 1).isNone && canWrite s && s.time.hold.isNone &&
  hasRight s 0 r && decide (admitted s c < cfgW s Addr.SCHED_CLASS_SEL c Addr.SCHED_CLASS_CFG 30 20)

/-- A decided request may run. -/
theorem may_of_mayB {r c : Nat} {s : State} (h : mayB r c s = true) : GmpMay hdr sess0 r c s := by
  simp only [mayB, Bool.and_eq_true, decide_eq_true_eq, Option.isNone_iff_eq_none] at h
  obtain ⟨⟨⟨⟨⟨h1, h2⟩, h3⟩, h4⟩, h5⟩, h6⟩ := h
  exact { isOpen := h1, known := by decide, version := rfl, length := rfl, reqId := by decide, window := by decide, fresh := h2,
          writer := h3, noHold := h4, right := h5, room := h6 }

/-- A test of the state a command leaves. -/
def after (o : Host.Outcome State Fault Refusal) (p : State → Bool) : Bool :=
  match o with
  | .next t => p t
  | _ => false

/-- A response among what has been given out. -/
def answer (typ st : Nat) (body : List Nat) (t : State) : Bool := t.out.any (fun o => o == Output.gmp 0 typ 1 st body)

/-! What the well-formedness checks refuse: one ill-formed term for each check, whatever the other operands are. -/

theorem smoke_GmpHdr (x : GmpHdr) : ({ x with sess := 2 ^ 2 } : GmpHdr).wf = false ∧
    ({ x with port := 2 ^ 1 } : GmpHdr).wf = false ∧
    ({ x with version := 2 ^ 8 } : GmpHdr).wf = false ∧
    ({ x with reqId := 2 ^ 32 } : GmpHdr).wf = false ∧
    ({ x with recLen := 2 ^ 16 } : GmpHdr).wf = false ∧
    ({ x with len := 2 ^ 16 } : GmpHdr).wf = false := by
  simp [GmpHdr.wf, fits]

theorem smoke_Waypoint (x : Waypoint) : ({ x with x := 2 ^ 31 } : Waypoint).wf = false ∧
    ({ x with x := -2 ^ 31 - 1 } : Waypoint).wf = false ∧
    ({ x with y := 2 ^ 31 } : Waypoint).wf = false ∧
    ({ x with y := -2 ^ 31 - 1 } : Waypoint).wf = false := by
  simp [Waypoint.wf, fitsI]

theorem smoke_TrackBody (x : TrackBody) (w : List Waypoint) (hw : fits 16 w.length = false) : ({ x with machine := 2 ^ 16 } : TrackBody).wf = false ∧
    ({ x with zero := 2 ^ 16 } : TrackBody).wf = false ∧
    ({ x with start := 2 ^ 48 } : TrackBody).wf = false ∧
    ({ x with slideMax := 2 ^ 8 } : TrackBody).wf = false ∧
    ({ x with dwell := 2 ^ 8 } : TrackBody).wf = false ∧
    ({ x with vmax := 2 ^ 16 } : TrackBody).wf = false ∧
    ({ x with amax := 2 ^ 16 } : TrackBody).wf = false ∧
    ({ x with jmax := 2 ^ 16 } : TrackBody).wf = false ∧
    ({ x with wps := w } : TrackBody).wf = false ∧
    ({ x with wps := [⟨2 ^ 31, 0⟩] } : TrackBody).wf = false := by
  simp [TrackBody.wf, fits, (decide_eq_false_iff_not.mp hw : ¬ w.length < 65536), Waypoint.wf, fitsI]

theorem smoke_CancelBody (x : CancelBody) : ({ x with resId := 2 ^ 32 } : CancelBody).wf = false ∧
    ({ x with fromSlot := 2 ^ 48 } : CancelBody).wf = false ∧
    ({ x with zero := 2 ^ 16 } : CancelBody).wf = false := by
  simp [CancelBody.wf, fits]

theorem smoke_ZoneRec (x : ZoneRec) : ({ x with op := 2 ^ 8 } : ZoneRec).wf = false ∧
    ({ x with len := 2 ^ 8 } : ZoneRec).wf = false ∧
    ({ x with index := 2 ^ 16 } : ZoneRec).wf = false ∧
    ({ x with pfx := 2 ^ 32 } : ZoneRec).wf = false ∧
    ({ x with action := 2 ^ 8 } : ZoneRec).wf = false ∧
    ({ x with zero0 := 2 ^ 8 } : ZoneRec).wf = false ∧
    ({ x with mask := 2 ^ 16 } : ZoneRec).wf = false ∧
    ({ x with cap := 2 ^ 16 } : ZoneRec).wf = false ∧
    ({ x with zero1 := 2 ^ 16 } : ZoneRec).wf = false := by
  simp [ZoneRec.wf, fits]

theorem smoke_TaskBody (x : TaskBody) (w : List Waypoint) (hw : fits 16 w.length = false) : ({ x with prio := 2 ^ 8 } : TaskBody).wf = false ∧
    ({ x with slideMax := 2 ^ 8 } : TaskBody).wf = false ∧
    ({ x with capMask := 2 ^ 32 } : TaskBody).wf = false ∧
    ({ x with deadline := 2 ^ 48 } : TaskBody).wf = false ∧
    ({ x with dwell := 2 ^ 8 } : TaskBody).wf = false ∧
    ({ x with zero := 2 ^ 8 } : TaskBody).wf = false ∧
    ({ x with vmax := 2 ^ 16 } : TaskBody).wf = false ∧
    ({ x with amax := 2 ^ 16 } : TaskBody).wf = false ∧
    ({ x with jmax := 2 ^ 16 } : TaskBody).wf = false ∧
    ({ x with wps := w } : TaskBody).wf = false ∧
    ({ x with wps := [⟨2 ^ 31, 0⟩] } : TaskBody).wf = false := by
  simp [TaskBody.wf, fits, (decide_eq_false_iff_not.mp hw : ¬ w.length < 65536), Waypoint.wf, fitsI]

theorem smoke_ConnBody (x : ConnBody) (w : List Waypoint) (hw : fits 16 w.length = false) : ({ x with ref := 2 ^ 32 } : ConnBody).wf = false ∧
    ({ x with machine := 2 ^ 16 } : ConnBody).wf = false ∧
    ({ x with zero0 := 2 ^ 16 } : ConnBody).wf = false ∧
    ({ x with zero1 := 2 ^ 16 } : ConnBody).wf = false ∧
    ({ x with wps := w } : ConnBody).wf = false ∧
    ({ x with wps := [⟨2 ^ 31, 0⟩] } : ConnBody).wf = false := by
  simp [ConnBody.wf, fits, (decide_eq_false_iff_not.mp hw : ¬ w.length < 65536), Waypoint.wf, fitsI]

theorem smoke_RuleRec (x : RuleRec) : ({ x with op := 2 ^ 8 } : RuleRec).wf = false ∧
    ({ x with len := 2 ^ 8 } : RuleRec).wf = false ∧
    ({ x with index := 2 ^ 16 } : RuleRec).wf = false ∧
    ({ x with pfx := 2 ^ 128 } : RuleRec).wf = false ∧
    ({ x with action := 2 ^ 8 } : RuleRec).wf = false ∧
    ({ x with ports := 2 ^ 8 } : RuleRec).wf = false ∧
    ({ x with zero := 2 ^ 16 } : RuleRec).wf = false := by
  simp [RuleRec.wf, fits]

theorem smoke_Blob (x : Blob) : ({ x with magic := 2 ^ 16 } : Blob).wf = false ∧
    ({ x with version := 2 ^ 8 } : Blob).wf = false ∧
    ({ x with typ := 2 ^ 8 } : Blob).wf = false ∧
    ({ x with keyId := 2 ^ 16 } : Blob).wf = false ∧
    ({ x with parent := 2 ^ 16 } : Blob).wf = false ∧
    ({ x with parentGen := 2 ^ 32 } : Blob).wf = false ∧
    ({ x with gen := 2 ^ 32 } : Blob).wf = false ∧
    ({ x with masters := 2 ^ 16 } : Blob).wf = false ∧
    ({ x with usage := 2 ^ 16 } : Blob).wf = false ∧
    ({ x with lcMask := 2 ^ 8 } : Blob).wf = false ∧
    ({ x with world := 2 ^ 8 } : Blob).wf = false ∧
    ({ x with flags := 2 ^ 8 } : Blob).wf = false ∧
    ({ x with zero0 := 2 ^ 8 } : Blob).wf = false ∧
    ({ x with keyLen := 2 ^ 16 } : Blob).wf = false ∧
    ({ x with wrapLen := 2 ^ 16 } : Blob).wf = false ∧
    ({ x with zero1 := 2 ^ 32 } : Blob).wf = false ∧
    ({ x with wrapped := [2 ^ 8] } : Blob).wf = false ∧
    ({ x with crc := 2 ^ 32 } : Blob).wf = false := by
  simp [Blob.wf, fits]

theorem smoke_RootBody (x : RootBody) : ({ x with root := 2 ^ 8 } : RootBody).wf = false ∧
    ({ x with zero := 2 ^ 24 } : RootBody).wf = false ∧
    ({ x with wrapped := [2 ^ 8] } : RootBody).wf = false := by
  simp [RootBody.wf, fits]

theorem smoke_PairHdr (x : PairHdr) : ({ x with path := 2 ^ 1 } : PairHdr).wf = false ∧
    ({ x with counter := 2 ^ 64 } : PairHdr).wf = false ∧
    ({ x with role := 2 ^ 2 } : PairHdr).wf = false ∧
    ({ x with uid := 2 ^ 64 } : PairHdr).wf = false := by
  simp [PairHdr.wf, fits]

theorem smoke_EthFrame (x : EthFrame) : ({ x with port := 2 ^ 1 } : EthFrame).wf = false ∧
    ({ x with dst := 2 ^ 48 } : EthFrame).wf = false ∧
    ({ x with src := 2 ^ 48 } : EthFrame).wf = false ∧
    ({ x with len := 2 ^ 16 } : EthFrame).wf = false ∧
    ({ x with etype := 2 ^ 16 } : EthFrame).wf = false ∧
    ({ x with tag := some (2 ^ 12) } : EthFrame).wf = false ∧
    ({ x with ip6 := some (2 ^ 128) } : EthFrame).wf = false := by
  simp [EthFrame.wf, fits]

theorem smoke_SnagTest (x : SnagTest) : ({ x with cat := 2 ^ 4 } : SnagTest).wf = false ∧
    ({ x with unit := 2 ^ 16 } : SnagTest).wf = false ∧
    ({ x with item := 2 ^ 16 } : SnagTest).wf = false := by
  simp [SnagTest.wf, fits]

theorem smoke_RtcmMsg (x : RtcmMsg) : ({ x with len := 2 ^ 10 } : RtcmMsg).wf = false := by
  simp [RtcmMsg.wf, fits]

theorem smoke_HeadId (x : HeadId) : ({ x with fMin := 2 ^ 16 } : HeadId).wf = false ∧
    ({ x with fMax := 2 ^ 16 } : HeadId).wf = false ∧
    ({ x with dTx := 2 ^ 16 } : HeadId).wf = false ∧
    ({ x with dRx := 2 ^ 16 } : HeadId).wf = false ∧
    ({ x with rxBuf := 2 ^ 16 } : HeadId).wf = false := by
  simp [HeadId.wf, fits]

theorem smoke_operand0 (o : Bool) (m : RtcmMsg) (h : GmpHdr) (lm : List RtcmMsg) (fn : FixNums) (tf : Option TileFail) (v : Word) : Instr.wf (.rtcmUartMessage (2 ^ 2) o m) = false ∧
    Instr.wf (.rtcm h (2 ^ 64) 0 0 o lm) = false ∧
    Instr.wf (.rtcm h 0 (2 ^ 8) 0 o lm) = false ∧
    Instr.wf (.rtcm h 0 0 (2 ^ 16) o lm) = false ∧
    Instr.wf (.refRtcm (2 ^ 2) m) = false ∧
    Instr.wf (.refLost (2 ^ 2)) = false ∧
    Instr.wf (.refAbsentTimeout (2 ^ 2)) = false ∧
    Instr.wf (.clear h (2 ^ 2)) = false ∧
    Instr.wf (.fixRecord (2 ^ 16) 0 fn tf) = false ∧
    Instr.wf (.fixRecord 0 (2 ^ 64) fn tf) = false ∧
    Instr.wf (.fixAgeExpiry (2 ^ 16)) = false ∧
    Instr.wf (.resvRebuild (2 ^ 16)) = false ∧
    Instr.wf (.conformanceCheck (2 ^ 16)) = false ∧
    Instr.wf (.withdraw h (2 ^ 32)) = false ∧
    Instr.wf (.estopInputEdge o o (2 ^ 64)) = false ∧
    Instr.wf (.stopGroup h o (2 ^ 3)) = false ∧
    Instr.wf (.stopMachine h o (2 ^ 16)) = false ∧
    Instr.wf (.armGroup h o (2 ^ 3)) = false ∧
    Instr.wf (.confirm h o (2 ^ 8)) = false ∧
    Instr.wf (.release h o (2 ^ 16)) = false ∧
    Instr.wf (.withdrawalRequest (2 ^ 16) 0 0 0) = false ∧
    Instr.wf (.withdrawalRequest 0 (2 ^ 4) 0 0) = false ∧
    Instr.wf (.withdrawalRequest 0 0 (2 ^ 48) 0) = false ∧
    Instr.wf (.withdrawalRequest 0 0 0 (2 ^ 32)) = false ∧
    Instr.wf (.leaseExpiry (2 ^ 16)) = false ∧
    Instr.wf (.loopEval (2 ^ 16)) = false ∧
    Instr.wf (.loopTick (2 ^ 9)) = false ∧
    Instr.wf (.loopHold (2 ^ 9)) = false ∧
    Instr.wf (.holdStep (2 ^ 9)) = false ∧
    Instr.wf (.holdWithdraw (2 ^ 9)) = false ∧
    Instr.wf (.coefWrite h (2 ^ 8) 0 0 v) = false ∧
    Instr.wf (.coefWrite h 0 (2 ^ 8) 0 v) = false := by
  simp [Instr.wf, fits]

theorem smoke_operand1 (h : GmpHdr) (v : Word) (hr : HeadResp) (hi : HeadId) (rx : Option Machine.RxRead) : Instr.wf (.coefWrite h 0 0 (2 ^ 8) v) = false ∧
    Instr.wf (.readId (2 ^ 2) hr hi) = false ∧
    Instr.wf (.status (2 ^ 2) hr 0 0 0) = false ∧
    Instr.wf (.status 0 hr (2 ^ 8) 0 0) = false ∧
    Instr.wf (.status 0 hr 0 (2 ^ 8) 0) = false ∧
    Instr.wf (.status 0 hr 0 0 (2 ^ 8)) = false ∧
    Instr.wf (.setChannel (2 ^ 2) hr) = false ∧
    Instr.wf (.setPower (2 ^ 2) hr) = false ∧
    Instr.wf (.txLoad (2 ^ 2) hr) = false ∧
    Instr.wf (.txCancel (2 ^ 2) hr) = false ∧
    Instr.wf (.rxRead (2 ^ 2) hr rx) = false ∧
    Instr.wf (.rxFlush (2 ^ 2) hr) = false ∧
    Instr.wf (.startNibbleTimeout (2 ^ 2) 0) = false ∧
    Instr.wf (.startNibbleTimeout 0 (2 ^ 8)) = false ∧
    Instr.wf (.rxstamp (2 ^ 2) 0) = false ∧
    Instr.wf (.rxstamp 0 (2 ^ 64)) = false ∧
    Instr.wf (.rxIrq (2 ^ 2)) = false ∧
    Instr.wf (.stampOnly (2 ^ 2) 0) = false ∧
    Instr.wf (.stampOnly 0 (2 ^ 32)) = false ∧
    Instr.wf (.slotCutoff (2 ^ 48) 0) = false ∧
    Instr.wf (.slotCutoff 0 (2 ^ 8)) = false ∧
    Instr.wf (.slotStart (2 ^ 48) 0) = false ∧
    Instr.wf (.slotStart 0 (2 ^ 8)) = false ∧
    Instr.wf (.planSwitch (2 ^ 2)) = false ∧
    Instr.wf (.noHeadTimeout (2 ^ 2)) = false ∧
    Instr.wf (.portRetry (2 ^ 2)) = false ∧
    Instr.wf (.resetHead h (2 ^ 2)) = false ∧
    Instr.wf (.upFrame (2 ^ 2)) = false ∧
    Instr.wf (.ackFrame (2 ^ 2)) = false ∧
    Instr.wf (.joinReq (2 ^ 2)) = false ∧
    Instr.wf (.leave (2 ^ 2)) = false ∧
    Instr.wf (.pend (2 ^ 2)) = false := by
  simp [Instr.wf, fits]

theorem smoke_operand2 (o : Bool) (h : GmpHdr) : Instr.wf (.relay (2 ^ 2)) = false ∧
    Instr.wf (.silenceTimeout (2 ^ 16)) = false ∧
    Instr.wf (.wakeMiss (2 ^ 16)) = false ∧
    Instr.wf (.addrHoldExpiry (2 ^ 16)) = false ∧
    Instr.wf (.jobComplete (2 ^ 12) 0) = false ∧
    Instr.wf (.jobComplete 0 (2 ^ 8)) = false ∧
    Instr.wf (.jobRetire (2 ^ 12)) = false ∧
    Instr.wf (.stripEnd (2 ^ 32)) = false ∧
    Instr.wf (.hodPtrMismatch (2 ^ 12)) = false ∧
    Instr.wf (.hodUnread (2 ^ 12) 0 0) = false ∧
    Instr.wf (.hodUnread 0 (2 ^ 32) 0) = false ∧
    Instr.wf (.hodUnread 0 0 (2 ^ 32)) = false ∧
    Instr.wf (.ageVisit (2 ^ 1) 0) = false ∧
    Instr.wf (.ageVisit 0 (2 ^ 16)) = false ∧
    Instr.wf (.tableRebuild (2 ^ 4)) = false ∧
    Instr.wf (.ethLinkChange (2 ^ 2) o 0) = false ∧
    Instr.wf (.ethLinkChange 0 o (2 ^ 2)) = false ∧
    Instr.wf (.search h (2 ^ 1) 0 0) = false ∧
    Instr.wf (.search h 0 (2 ^ 3) 0) = false ∧
    Instr.wf (.search h 0 0 (2 ^ 2)) = false ∧
    Instr.wf (.nextEntry h (2 ^ 1) 0 0) = false ∧
    Instr.wf (.nextEntry h 0 (2 ^ 3) 0) = false ∧
    Instr.wf (.nextEntry h 0 0 (2 ^ 2)) = false ∧
    Instr.wf (.flushPort h (2 ^ 1) 0 0) = false ∧
    Instr.wf (.flushPort h 0 (2 ^ 3) 0) = false ∧
    Instr.wf (.flushPort h 0 0 (2 ^ 2)) = false ∧
    Instr.wf (.staticAdd h (2 ^ 1) 0 0) = false ∧
    Instr.wf (.staticAdd h 0 (2 ^ 3) 0) = false ∧
    Instr.wf (.staticAdd h 0 0 (2 ^ 2)) = false ∧
    Instr.wf (.staticDel h (2 ^ 1) 0 0) = false ∧
    Instr.wf (.staticDel h 0 (2 ^ 3) 0) = false ∧
    Instr.wf (.staticDel h 0 0 (2 ^ 2)) = false := by
  simp [Instr.wf, fits]

theorem smoke_operand3 (z : Int) (pm : PtpMsg) (h : GmpHdr) (v : Word) (oh : Option GmpHdr) (f : PairHdr) (ln : List Nat) : Instr.wf (.ppsEdge (2 ^ 2) 0) = false ∧
    Instr.wf (.ppsEdge 0 (2 ^ 64)) = false ∧
    Instr.wf (.ptpSync (2 ^ 2) z 0) = false ∧
    Instr.wf (.ptpSync 0 z (2 ^ 64)) = false ∧
    Instr.wf (.ptpMessage (2 ^ 2) pm) = false ∧
    Instr.wf (.sourceAbsentTimeout (2 ^ 2)) = false ∧
    Instr.wf (.trigArm h (2 ^ 3) v) = false ∧
    Instr.wf (.triggerFire (2 ^ 3)) = false ∧
    Instr.wf (.armAdvance oh (2 ^ 8)) = false ∧
    Instr.wf (.lcConfirm oh (2 ^ 8)) = false ∧
    Instr.wf (.keyInvalidate h (2 ^ 16) 0) = false ∧
    Instr.wf (.keyInvalidate h 0 (2 ^ 16)) = false ∧
    Instr.wf (.invalidate h (2 ^ 16)) = false ∧
    Instr.wf (.evict h (2 ^ 16)) = false ∧
    Instr.wf (.keyLoad (2 ^ 16) 0 0) = false ∧
    Instr.wf (.keyLoad 0 (2 ^ 16) 0) = false ∧
    Instr.wf (.keyLoad 0 0 (2 ^ 16)) = false ∧
    Instr.wf (.keyOperationEnd (2 ^ 16)) = false ∧
    Instr.wf (.hello f (2 ^ 128)) = false ∧
    Instr.wf (.renew f (2 ^ 32)) = false ∧
    Instr.wf (.pairAck f (2 ^ 32)) = false ∧
    Instr.wf (.pathDownTimeout (2 ^ 1)) = false ∧
    Instr.wf (.jrnlAck f (2 ^ 48) 0) = false ∧
    Instr.wf (.jrnlAck f 0 (2 ^ 32)) = false ∧
    Instr.wf (.digest f [2 ^ 8] 0 0 0 0) = false ∧
    Instr.wf (.digest f ln (2 ^ 32) 0 0 0) = false ∧
    Instr.wf (.digest f ln 0 (2 ^ 32) 0 0) = false ∧
    Instr.wf (.digest f ln 0 0 (2 ^ 32) 0) = false ∧
    Instr.wf (.digest f ln 0 0 0 (2 ^ 32)) = false ∧
    Instr.wf (.copyReq f (some (2 ^ 32))) = false ∧
    Instr.wf (.copyBegin f (2 ^ 32) 0 0 0 0 ln) = false ∧
    Instr.wf (.copyBegin f 0 (2 ^ 48) 0 0 0 ln) = false := by
  simp [Instr.wf, fits]

theorem smoke_operand4 (f : PairHdr) (ln : List Nat) (o : Bool) (cv : Machine.Covered) (on : Option Nat) (h : GmpHdr) (lw : List Word) (v : Word) : Instr.wf (.copyBegin f 0 0 (2 ^ 32) 0 0 ln) = false ∧
    Instr.wf (.copyBegin f 0 0 0 (2 ^ 32) 0 ln) = false ∧
    Instr.wf (.copyBegin f 0 0 0 0 (2 ^ 32) ln) = false ∧
    Instr.wf (.copyBegin f 0 0 0 0 0 [2 ^ 8]) = false ∧
    Instr.wf (.copyChunk f (2 ^ 32) 0 o) = false ∧
    Instr.wf (.copyChunk f 0 (2 ^ 32) o) = false ∧
    Instr.wf (.copyEnd f (2 ^ 32) 0 o cv) = false ∧
    Instr.wf (.copyEnd f 0 (2 ^ 32) o cv) = false ∧
    Instr.wf (.copyResult f (2 ^ 32) o) = false ∧
    Instr.wf (.clientHello [2 ^ 8] o 0 0 on o) = false ∧
    Instr.wf (.clientHello ln o (2 ^ 1) 0 on o) = false ∧
    Instr.wf (.clientHello ln o 0 (2 ^ 2) on o) = false ∧
    Instr.wf (.clientHello ln o 0 0 (some (2 ^ 32)) o) = false ∧
    Instr.wf (.sessionClose (2 ^ 2)) = false ∧
    Instr.wf (.idleTimeout (2 ^ 2)) = false ∧
    Instr.wf (.read h (2 ^ 32) 0 0) = false ∧
    Instr.wf (.read h 0 (2 ^ 16) 0) = false ∧
    Instr.wf (.read h 0 0 (2 ^ 16)) = false ∧
    Instr.wf (.writeSeq h (2 ^ 32) lw o o) = false ∧
    Instr.wf (.registerWrite h (2 ^ 32) v) = false ∧
    Instr.wf (.subscribe h (2 ^ 8) 0 0 0 0) = false ∧
    Instr.wf (.subscribe h 0 (2 ^ 24) 0 0 0) = false ∧
    Instr.wf (.subscribe h 0 0 (2 ^ 256) 0 0) = false ∧
    Instr.wf (.subscribe h 0 0 0 (2 ^ 48) 0) = false ∧
    Instr.wf (.subscribe h 0 0 0 0 (2 ^ 32)) = false ∧
    Instr.wf (.unsubscribe h (2 ^ 8) 0) = false ∧
    Instr.wf (.unsubscribe h 0 (2 ^ 24)) = false ∧
    Instr.wf (.journalAck h (2 ^ 48) 0 0) = false ∧
    Instr.wf (.journalAck h 0 (2 ^ 32) 0) = false ∧
    Instr.wf (.journalAck h 0 0 (2 ^ 16)) = false ∧
    Instr.wf (.logRead h (2 ^ 32) 0 0) = false ∧
    Instr.wf (.logRead h 0 (2 ^ 8) 0) = false := by
  simp [Instr.wf, fits]

theorem smoke_operand5 (h : GmpHdr) (ln : List Nat) (o : Bool) (lb : List BayTest) (v : Word) : Instr.wf (.logRead h 0 0 (2 ^ 24)) = false ∧
    Instr.wf (.logErase h (2 ^ 32)) = false ∧
    Instr.wf (.updBegin h (2 ^ 8) 0) = false ∧
    Instr.wf (.updBegin h 0 (2 ^ 32)) = false ∧
    Instr.wf (.updBlock h (2 ^ 32) 0 0 ln o o o) = false ∧
    Instr.wf (.updBlock h 0 (2 ^ 16) 0 ln o o o) = false ∧
    Instr.wf (.updBlock h 0 0 (2 ^ 32) ln o o o) = false ∧
    Instr.wf (.updBlock h 0 0 0 [2 ^ 8] o o o) = false ∧
    Instr.wf (.coverMiss (2 ^ 4) 0 0) = false ∧
    Instr.wf (.coverMiss 0 (2 ^ 12) 0) = false ∧
    Instr.wf (.coverMiss 0 0 (2 ^ 16)) = false ∧
    Instr.wf (.restartBay h (2 ^ 8)) = false ∧
    Instr.wf (.snagFence h (2 ^ 8)) = false ∧
    Instr.wf (.retest h (2 ^ 8) o) = false ∧
    Instr.wf (.bayRestartDone (2 ^ 16) o lb) = false ∧
    Instr.wf (.railTrip (2 ^ 4) o o) = false ∧
    Instr.wf (.railGlitch (2 ^ 4)) = false ∧
    Instr.wf (.fragmentReassemblyTimeout (2 ^ 32)) = false ∧
    Instr.wf (.announceReceiptTimeout (2 ^ 2)) = false ∧
    Instr.wf (.ptpSendInterval (2 ^ 2) 0) = false ∧
    Instr.wf (.ptpSendInterval 0 (2 ^ 3)) = false ∧
    Instr.wf (.write h [(2 ^ 32, v)] o o) = false := by
  simp [Instr.wf, fits]

theorem smoke_header0 (bh : GmpHdr) (hb : bh.wf = false) (o : Bool) (lm : List RtcmMsg) (tb : TrackBody) (cb : CancelBody) (lz : List ZoneRec) (kb : TaskBody) (nb : ConnBody) (v : Word) : Instr.wf (.genCommit bh) = false ∧
    Instr.wf (.discard bh) = false ∧
    Instr.wf (.rtcm bh 0 0 0 o lm) = false ∧
    Instr.wf (.clear bh 0) = false ∧
    Instr.wf (.switch bh) = false ∧
    Instr.wf (.roverReset bh) = false ∧
    Instr.wf (.track bh tb) = false ∧
    Instr.wf (.cancel bh cb) = false ∧
    Instr.wf (.cancelAll bh) = false ∧
    Instr.wf (.zone bh lz) = false ∧
    Instr.wf (.zoneWrite bh) = false ∧
    Instr.wf (.zoneDelete bh) = false ∧
    Instr.wf (.zoneRead bh) = false ∧
    Instr.wf (.task bh kb) = false ∧
    Instr.wf (.withdraw bh 0) = false ∧
    Instr.wf (.connector bh nb) = false ∧
    Instr.wf (.stopAll bh o) = false ∧
    Instr.wf (.stopGroup bh o 0) = false ∧
    Instr.wf (.stopMachine bh o 0) = false ∧
    Instr.wf (.armAll bh o) = false ∧
    Instr.wf (.armGroup bh o 0) = false ∧
    Instr.wf (.confirm bh o 0) = false ∧
    Instr.wf (.release bh o 0) = false ∧
    Instr.wf (.disarm bh o) = false ∧
    Instr.wf (.resume bh) = false ∧
    Instr.wf (.clearI bh) = false ∧
    Instr.wf (.coefWrite bh 0 0 0 v) = false ∧
    Instr.wf (.resetHead bh 0) = false ∧
    Instr.wf (.disassoc bh) = false ∧
    Instr.wf (.freeAddr bh) = false ∧
    Instr.wf (.waitClr bh) = false ∧
    Instr.wf (.search bh 0 0 0) = false := by
  simp [Instr.wf, hb]

theorem smoke_header1 (bh : GmpHdr) (hb : bh.wf = false) (lr : List RuleRec) (v : Word) (rb : RootBody) (bl : Blob) (o : Bool) (lp : List (Nat × Word)) (lw : List Word) (ln : List Nat) : Instr.wf (.nextEntry bh 0 0 0) = false ∧
    Instr.wf (.flushPort bh 0 0 0) = false ∧
    Instr.wf (.staticAdd bh 0 0 0) = false ∧
    Instr.wf (.staticDel bh 0 0 0) = false ∧
    Instr.wf (.rule bh lr) = false ∧
    Instr.wf (.ruleWrite bh) = false ∧
    Instr.wf (.ruleDelete bh) = false ∧
    Instr.wf (.ruleRead bh) = false ∧
    Instr.wf (.forceSet bh) = false ∧
    Instr.wf (.clearDis bh) = false ∧
    Instr.wf (.trigArm bh 0 v) = false ∧
    Instr.wf (.root bh rb) = false ∧
    Instr.wf (.keyPut bh bl) = false ∧
    Instr.wf (.keyInvalidate bh 0 0) = false ∧
    Instr.wf (.invalidate bh 0) = false ∧
    Instr.wf (.evict bh 0) = false ∧
    Instr.wf (.handover bh o) = false ∧
    Instr.wf (.takeAlone bh v) = false ∧
    Instr.wf (.read bh 0 0 0) = false ∧
    Instr.wf (.write bh lp o o) = false ∧
    Instr.wf (.writeSeq bh 0 lw o o) = false ∧
    Instr.wf (.registerWrite bh 0 v) = false ∧
    Instr.wf (.commitMsg bh) = false ∧
    Instr.wf (.subscribe bh 0 0 0 0 0) = false ∧
    Instr.wf (.unsubscribe bh 0 0) = false ∧
    Instr.wf (.journalAck bh 0 0 0) = false ∧
    Instr.wf (.logRead bh 0 0 0) = false ∧
    Instr.wf (.logErase bh 0) = false ∧
    Instr.wf (.updBegin bh 0 0) = false ∧
    Instr.wf (.updBlock bh 0 0 0 ln o o o) = false ∧
    Instr.wf (.updStatus bh) = false ∧
    Instr.wf (.updVerify bh o) = false := by
  simp [Instr.wf, hb]

theorem smoke_header2 (bh : GmpHdr) (hb : bh.wf = false) (o : Bool) : Instr.wf (.updActivate bh o o) = false ∧
    Instr.wf (.updConfirm bh o o) = false ∧
    Instr.wf (.updAbort bh) = false ∧
    Instr.wf (.updInfo bh o) = false ∧
    Instr.wf (.restartBay bh 0) = false ∧
    Instr.wf (.snagFence bh 0) = false ∧
    Instr.wf (.retest bh 0 o) = false ∧
    Instr.wf (.pcrReset bh) = false ∧
    Instr.wf (.standby bh) = false := by
  simp [Instr.wf, hb]

theorem smoke_body0 (bh : GmpHdr) (h_bh : bh.wf = false) (os : Option (Nat × Bool)) (lw : List Word) (o : Bool) (bm : RtcmMsg) (h_bm : bm.wf = false) (h : GmpHdr) (btb : TrackBody) (h_btb : btb.wf = false) (bcb : CancelBody) (h_bcb : bcb.wf = false) (bzr : ZoneRec) (h_bzr : bzr.wf = false) (bkb : TaskBody) (h_bkb : bkb.wf = false) (bnb : ConnBody) (h_bnb : bnb.wf = false) (hr : HeadResp) (bhi : HeadId) (h_bhi : bhi.wf = false) (bef : EthFrame) (h_bef : bef.wf = false) (brr : RuleRec) (h_brr : brr.wf = false) (brb : RootBody) (h_brb : brb.wf = false) (bbl : Blob) (h_bbl : bbl.wf = false) (bf : PairHdr) (h_bf : bf.wf = false) (lj : List (JEntry × Bool)) (ln : List Nat) (on : Option Nat) (cv : Machine.Covered) : Instr.wf (.hodReset (some bh)) = false ∧
    Instr.wf (.hodDrop (some bh) os) = false ∧
    Instr.wf (.armAdvance (some bh) 0) = false ∧
    Instr.wf (.armRevokeA (some bh)) = false ∧
    Instr.wf (.lcConfirm (some bh) 0) = false ∧
    Instr.wf (.lcDisarm (some bh)) = false ∧
    Instr.wf (.newChal (some bh)) = false ∧
    Instr.wf (.submit (some bh) lw o) = false ∧
    Instr.wf (.rtcmUartMessage 0 o bm) = false ∧
    Instr.wf (.rtcm h 0 0 0 o [bm]) = false ∧
    Instr.wf (.refRtcm 0 bm) = false ∧
    Instr.wf (.track h btb) = false ∧
    Instr.wf (.cancel h bcb) = false ∧
    Instr.wf (.zone h [bzr]) = false ∧
    Instr.wf (.task h bkb) = false ∧
    Instr.wf (.connector h bnb) = false ∧
    Instr.wf (.readId 0 hr bhi) = false ∧
    Instr.wf (.ethFrame bef) = false ∧
    Instr.wf (.rule h [brr]) = false ∧
    Instr.wf (.root h brb) = false ∧
    Instr.wf (.keyPut h bbl) = false ∧
    Instr.wf (.hello bf 0) = false ∧
    Instr.wf (.renew bf 0) = false ∧
    Instr.wf (.pairAck bf 0) = false ∧
    Instr.wf (.jrnl bf lj) = false ∧
    Instr.wf (.jrnlAck bf 0 0) = false ∧
    Instr.wf (.digest bf ln 0 0 0 0) = false ∧
    Instr.wf (.copyReq bf on) = false ∧
    Instr.wf (.copyBegin bf 0 0 0 0 0 ln) = false ∧
    Instr.wf (.copyChunk bf 0 0 o) = false ∧
    Instr.wf (.copyEnd bf 0 0 o cv) = false ∧
    Instr.wf (.copyResult bf 0 o) = false := by
  simp [Instr.wf, h_bh, h_bm, h_btb, h_bcb, h_bzr, h_bkb, h_bnb, h_bhi, h_bef, h_brr, h_brb, h_bbl, h_bf]

theorem smoke_body1 (bf : PairHdr) (h_bf : bf.wf = false) (bst : SnagTest) (h_bst : bst.wf = false) (f : PairHdr) (je : JEntry) (hj : fits 48 je.sf = false) (o : Bool) (ke : JEntry) (hk : fits 32 ke.seq = false) : Instr.wf (.handoverFrame bf) = false ∧
    Instr.wf (.snagTest bst) = false ∧
    Instr.wf (.jrnl f [(je, o)]) = false ∧
    Instr.wf (.jrnl f [(ke, o)]) = false := by
  simp [Instr.wf, h_bf, h_bst, hj, hk]

/-! The step, commits and settings. -/

/-- A state whose queue holds one command. -/
def queued : State := { up with pending := [.safeLogic] }

theorem wit_StepRunsFront : queued.pending = .safeLogic :: [] := rfl

theorem wit_IdleStepIsOneClockEdge : up.pending = [] := rfl

theorem wit_StepKeepsTheStore : queued.regs.canon queued.part = true ∧ ∃ t, step queued = .next t := ⟨by decide +kernel, _, rfl⟩

theorem wit_NoPermitUnderTheLatch : (queued.safe.latch = true → queued.safe.permit = 0) ∧ ∃ t, step queued = .next t :=
  ⟨by decide +kernel, _, rfl⟩

theorem wit_CommitsAreRequested : ∃ s, GmpMay hdr sess0 1 10 s ∧ s.jr.commit = none ∧ anyStaged s = true :=
  ⟨setStaged (rkey Addr.SAFE_LEASE) 0x00030128#32 up, may_of_mayB (by decide +kernel), by decide +kernel, by decide +kernel⟩

theorem wit_CommitsEndEmpty : GmpMay hdr sess0 1 10 up ∧ up.jr.commit = none ∧ anyStaged up = false :=
  ⟨may_of_mayB (by decide +kernel), by decide +kernel, by decide +kernel⟩

/-- A commit that is due on the smaller part, with one staged word. -/
def dueWith (a : Nat) (w : Word) : State :=
  let s := setStaged (rkey a) w { up with part := .szn1280 }
  { s with jr := { s.jr with commit := some ⟨100, [⟨0, 7⟩]⟩ } }

/-- The hypotheses that both clauses of the COMMIT entry share, decided. -/
def dueB (s : State) : Bool :=
  s.jr.commit == some ⟨100, [⟨0, 7⟩]⟩ && canWrite s && s.time.hold.isNone && decide (100 ≤ s.jr.sf) && anyStaged s

theorem wit_CommitsDecide : dueB (dueWith Addr.SAFE_LEASE 0x00030128#32) = true ∧
    commitStatus (dueWith Addr.SAFE_LEASE 0x00030128#32) (regsCommit (dueWith Addr.SAFE_LEASE 0x00030128#32)) = stOk := by
  decide +kernel

theorem wit_CommitsAreRefused : dueB (dueWith Addr.SCR_CLASS_B 0x0000FFFF#32) = true ∧
    commitStatus (dueWith Addr.SCR_CLASS_B 0x0000FFFF#32) (regsCommit (dueWith Addr.SCR_CLASS_B 0x0000FFFF#32)) ≠ stOk := by
  decide +kernel

/-- Two channels, of which CH0 has a device of 64 MiB. -/
def chans : List Chan := [⟨64, true⟩, ⟨0, false⟩]

/-- Settings that change nothing. -/
def bareSettings : Settings := ⟨1, 5, [], [], none, none, none⟩

/-- A settings write under way. -/
def writing : State := { up with nvm := { up.nvm with writing := some (1, bareSettings), ch := chans } }

theorem wit_SettingsAreWritten :
    writing.nvm.writing = some (1, bareSettings) ∧ writing.nvm.again = false ∧ chanUsed writing 0 = true := by decide +kernel

/-! Superframes and the pair. -/

/-- A hold of station time. -/
def onHold : State := { up with time := { up.time with hold := some 101 } }

/-- The unit before its journal. -/
def fresh : State := { up with jr := JrnlS.reset }

/-- A unit of a pair, in SEEK. -/
def seeking : State := let s := put Addr.PAIR_CFG 3#32 up; { s with pair := { s.pair with role := .seek } }

/-- A synchronised standby that hears its partner. -/
def standing : State := { seeking with pair := { seeking.pair with role := .standby, sync := true, heardAt := some 8990000000, partner := some 1, link := ⟨true, some 8999000000, 3⟩, wit := ⟨true, some 8999000000, 3⟩ } }

/-- A fenced unit that may take the token again. -/
def fencedOff : State := { seeking with pair := { seeking.pair with role := .fenced, heard := false, fencedPorts := 1, fencedAt := 8990000000 } }

/-- The active unit, with one RENEW that is not acknowledged. -/
def acting : State := { seeking with pair := { seeking.pair with role := .active, elig := true, base := some 8999000000, unacked := [(7, 8998000000)] } }

/-- The active unit whose partner may take over by a handover. -/
def handing : State := { acting with pair := { acting.pair with partner := some 2, link := ⟨true, some 8999000000, 3⟩, wit := ⟨true, some 8999000000, 3⟩, base := some 9000000000, sync := true } }

/-- A frame of the pair on a path, from a unit of a role and a UID. -/
def pairFrame (path role uid : Nat) : PairHdr := ⟨path, true, 5, role, true, uid⟩

theorem wit_SuperframesOpen : (onDuty up = true ∧ up.time.hold = none ∧ up.pair.handover = none) ∧
    (onDuty onHold = true ∧ onHold.time.hold = some 101) ∧ onDuty standing = false := by decide +kernel

theorem wit_JournalResumes : unitUp fresh = true ∧ fresh.time.valid = true ∧ holdsToken fresh = true ∧ fresh.jr.started = false := by
  decide +kernel

theorem wit_TakingTheTokenMakesTheUnitActive :
    (standing.pair.role = .standby ∧ standing.pair.heardAt = some 8990000000 ∧ eligible standing = true ∧ standing.pair.partner = some 1) ∧
    (fencedOff.pair.role = .fenced ∧ cfgB fencedOff Addr.PAIR_CFG 1 = true ∧ fencedOff.pair.heard = false ∧ fencedOff.pair.fencedPorts ≠ 0) := by
  decide +kernel

theorem wit_PairSendsAndFencesItself : (paired seeking = true ∧ seeking.pair.role = .seek) ∧ (paired acting = true ∧ acting.pair.role = .active) ∧
    ((path standing 0).up = true ∧ (path standing 0).lastAt = some 8999000000 ∧ (path standing 1).up = true ∧
      (path standing 1).lastAt = some 8999000000) ∧ acting.pair.elig = true ∧ acting.pair.base = some 8999000000 := by decide +kernel

theorem wit_PairHearsItsPartner : (pairFrame 1 0 (2 ^ 64 - 1)).ok = true ∧ (pairFrame 1 0 (2 ^ 64 - 1)).uid ≠ up.key.uid ∧
    up.key.uid < (pairFrame 1 0 (2 ^ 64 - 1)).uid ∧ seeking.pair.role = .seek ∧ standing.pair.role = .standby ∧ acting.pair.role = .active ∧
    acting.pair.unacked.find? (fun y => y.1 == 7) = some (7, 8998000000) := by decide +kernel

theorem wit_PairControlHandsOver : GmpMay hdr sess0 1 10 handing ∧ handoverStatus true handing = stOk ∧ handoverStatus false handing = stOk :=
  ⟨may_of_mayB (by decide +kernel), by decide +kernel, by decide +kernel⟩

theorem wit_PairControlTakesAlone : hasRight seeking 0 1 = true ∧ session seeking 0 = some sess0 ∧ seeking.pair.role = .seek ∧
    seeking.safe.latch = true ∧ seeking.time.valid = true ∧ heardLately seeking 0 = false ∧ heardLately seeking 1 = false := by decide +kernel

/-! Replication and the state copy. -/

/-- A synchronised standby with a session on the link. -/
def linked : State := { standing with pair := { standing.pair with session := true, rxCounter := some 4, uid := some 7 } }

/-- The active unit with that session. -/
def leading : State := { linked with pair := { linked.pair with role := .active, elig := true, fwd := [((100, 2), 1), ((100, 3), 1)] } }

/-- What LinkFrame asks, decided. -/
def linkB (f : PairHdr) (s : State) : Bool := paired s && engUsable s 0x3A && decide (f.path = 0) && f.ok && s.pair.session && counterOk f s

/-- A decided frame is one of the link. -/
theorem link_of_linkB {f : PairHdr} {s : State} (h : linkB f s = true) : LinkFrame f s := by
  simp only [linkB, Bool.and_eq_true, decide_eq_true_eq] at h
  exact ⟨h.1.1.1.1.1, h.1.1.1.1.2, h.1.1.1.2, h.1.1.2, h.1.2, h.2⟩

/-- The entry that follows the last one of `linked`. -/
def nextEntry : JEntry := ⟨100, 4, 0, 0, 1, .estop 2⟩

/-- The standby while a copy is received, and as it asks for one. -/
def copying (st : CopySt) (got : KMap Unit) : State :=
  { linked with pair := { linked.pair with sync := false, copy := { CopyS.reset with st := st, epoch := 3, p0 := some 90, nchunk := 2, got := got, asked := some 8000000000 } } }

theorem wit_PairReplicatesTheJournal : LinkFrame (pairFrame 0 1 7) linked ∧ LinkFrame (pairFrame 0 2 7) leading ∧
    (linked.pair.role = .standby ∧ linked.pair.sync = true ∧ linked.pair.six = none ∧ entryNext linked nextEntry = some true) ∧
    leading.pair.role = .active ∧ [1] ≠ linked.jr.digest :=
  ⟨link_of_linkB (by decide +kernel), link_of_linkB (by decide +kernel), by decide +kernel, by decide +kernel, by decide +kernel⟩

/-- The standby that has applied ROLE 0x06 ahead of the slot. -/
def sixth : State := { linked with pair := { linked.pair with six := some 100 }, jr := { linked.jr with started := false }, time := { linked.time with ns := 2000000000 } }

theorem wit_PairReplicatesTheHandover : LinkFrame (pairFrame 0 1 7) sixth ∧ sixth.pair.six = some 100 ∧ sixth.pair.sync = true ∧
    100 ≤ sixth.jr.lastSf ∧ now sixth < sfStart 101 - 100000 :=
  ⟨link_of_linkB (by decide +kernel), by decide +kernel⟩

theorem wit_StateCopyRuns : LinkFrame (pairFrame 0 1 7) (copying .none []) ∧
    (engUsable (copying .none []) 0x3A = true ∧ (copying .none []).pair.role = .standby ∧ (copying .none []).pair.sync = false ∧
      (copying .none []).pair.link.up = true) ∧
    LinkFrame (pairFrame 0 1 7) (copying .receiving [(0, ())]) ∧ 1 < (copying .receiving [(0, ())]).pair.copy.nchunk ∧
    ((copying .receiving [(0, ()), (1, ())]).pair.copy.got.length = (copying .receiving [(0, ()), (1, ())]).pair.copy.nchunk ∧
      (copying .receiving [(0, ()), (1, ())]).pair.copy.waiting = [] ∧ (copying .receiving [(0, ()), (1, ())]).pair.six = none) ∧
    (leading.pair.copy.st ≠ .sending ∧ leading.pair.copy.st ≠ .receiving ∧ leading.pair.copy.st ≠ .applying) :=
  ⟨link_of_linkB (by decide +kernel), by decide +kernel, link_of_linkB (by decide +kernel), by decide +kernel, by decide +kernel, by decide +kernel⟩

theorem wit_StateCopyIsAnswered : ∃ s, LinkFrame (pairFrame 0 2 7) s ∧ s.pair.role = .active ∧ s.pair.copy.st = .sending :=
  ⟨{ leading with pair := { leading.pair with copy := { CopyS.reset with st := .sending, epoch := 3 } } }, link_of_linkB (by decide +kernel),
    by decide +kernel, by decide +kernel⟩

/-! Motion safety. -/

/-- Two machines with a permit, both inputs in INPUT_RUN. -/
def moving : State := { up with safe := { up.safe with latch := false, cLatch := false, permit := 5, cPermit := 5, input := .inputRun, cInput := .inputRun, chA := ⟨true, 0, true⟩, chB := ⟨true, 0, true⟩ } }

/-- A global stop and a group stop from there. -/
def stopped (arm : Option Machine.Arm) : State := { moving with safe := { moving.safe with latch := true, cLatch := true, permit := 0, cPermit := 0, groups := 4, cGroups := 4, arm := arm } }

/-- A group stop alone. -/
def groupStopped : State := { moving with safe := { moving.safe with groups := 4, cGroups := 4 } }

/-- Machine 1 waits for its release. -/
def waitingRelease : State := { moving with safe := { moving.safe with permit := 0, cPermit := 0, mach := [(1, { SafeMach.zero with gate := true, conf := true })] }, memb := { up.memb with nodes := [(1, { Node.zero with st := .assoc, rxAny := true })] } }

theorem wit_StopCommandsStop : GmpReady hdr sess0 moving ∧ hasRight moving 0 2 = true ∧ moving.safe.latch = false ∧
    isMachine moving.part 1 = true ∧ isMachine moving.part 256 = true ∧ groupOf moving 1 = 0 :=
  ⟨(may_of_mayB (r := 2) (c := 10) (by decide +kernel)).toGmpReady, by decide +kernel⟩

theorem wit_ReleaseCommandsArm : GmpReady hdr sess0 (stopped none) ∧ hasRight (stopped none) 0 3 = true ∧
    (armRefused (stopped none) false = false ∧ (stopped none).safe.cLatch = true) ∧
    GmpReady hdr sess0 groupStopped ∧ hasRight groupStopped 0 3 = true ∧
    (armRefused groupStopped true = false ∧ groupStopped.safe.cGroups.testBit 2 = true) :=
  ⟨(may_of_mayB (r := 3) (c := 10) (by decide +kernel)).toGmpReady, by decide +kernel, by decide +kernel,
   (may_of_mayB (r := 3) (c := 10) (by decide +kernel)).toGmpReady, by decide +kernel, by decide +kernel⟩

/-- An armed release whose window is at its last superframe. -/
def armed : State := { stopped (some ⟨255, none, 100⟩) with jr := { up.jr with sf := 350, lastSf := 350 } }

theorem wit_ReleaseCommandsConfirm : GmpReady hdr sess0 armed ∧ hasRight armed 0 3 = true ∧ armed.safe.arm = some ⟨255, none, 100⟩ ∧
    armRefused armed false = false ∧ armed.jr.sf ≤ 100 + cfg armed Addr.SAFE_LEASE 21 16 * 50 :=
  ⟨(may_of_mayB (r := 3) (c := 10) (by decide +kernel)).toGmpReady, by decide +kernel⟩

theorem wit_ReleaseCommandsRelease : GmpReady hdr sess0 waitingRelease ∧ hasRight waitingRelease 0 3 = true ∧
    isMachine waitingRelease.part 1 = true ∧ releaseReason waitingRelease 1 = 0 ∧
    waitingRelease.safe.cPermit.testBit (machineBit 1) = false :=
  ⟨(may_of_mayB (r := 3) (c := 10) (by decide +kernel)).toGmpReady, by decide +kernel⟩

/-- The same 30 s later, with nothing heard of machine 1 or 3. -/
def late : State := { moving with jr := { up.jr with sf := 1500, lastSf := 1500 } }

theorem wit_SafeBayWithdraws : isMachine late.part 3 = true ∧ leaseLapsed late 3 = true ∧ late.safe.permit.testBit (machineBit 3) = true := by
  decide +kernel

/-- Inputs as each clause of the emergency stop finds them. -/
def inputs (i : InputState) (a b : EstopCh) (d : Option Nat) : State := { moving with safe := { moving.safe with input := i, chA := a, chB := b, differ := d } }

theorem wit_EstopInputs :
    ((inputs .inputRun ⟨false, 8999900000, true⟩ ⟨true, 0, true⟩ none).safe.chA.raw = false ∧
      (inputs .inputRun ⟨false, 8999900000, true⟩ ⟨true, 0, true⟩ none).safe.chA.filt = true) ∧
    ((inputs .inputStop ⟨true, 0, true⟩ ⟨true, 8980000000, false⟩ none).safe.chB.raw = true ∧
      (inputs .inputStop ⟨true, 0, true⟩ ⟨true, 8980000000, false⟩ none).safe.chB.filt = false) ∧
    (inputs .inputStop ⟨true, 0, true⟩ ⟨false, 0, false⟩ (some 8900000000)).safe.differ = some 8900000000 ∧
    dynOk { moving with safe := { moving.safe with dynOn := true } } = true ∧ dynOk up = false := by decide +kernel

/-! Reservations. -/

/-- A track request of machine 1 for the place where it stands. -/
def track1 (start : Nat) : TrackBody := ⟨1, 0, start, 0, 2, 1000, 500, 500, [⟨5500, 5500⟩]⟩

/-- What the track leaves of the table. -/
def tracked : ScrCov × TrackRes × Nat := trackOutcome (geomFor up 1) ((geomFor up 1).slotOf 100) (100, 4) (track1 6) up.scr.cov

/-- Machine 1 holds the track. -/
def reserved : State := { up with scr := { up.scr with cov := tracked.1 } }

theorem wit_TracksAreReserved : GmpMay hdr sess0 1 10 up ∧ slotOfSf up up.jr.sf = 4 ∧
    trackFields up.part 4 (track1 4) = false ∧ trackFields up.part 4 (track1 5) = true ∧ (track1 5).wps ≠ [] :=
  ⟨may_of_mayB (by decide +kernel), by decide +kernel, by decide +kernel, by decide +kernel, by decide⟩

/-- The RES_ID of the track. -/
def resId1 : Nat := tracked.2.1.resId

theorem wit_TracksAreCancelled : GmpMay hdr sess0 1 10 reserved ∧ tracked.2.1.status = stOk ∧ resId1 / 256 % 256 ≤ 7 ∧
    isMachine reserved.part (resId1 / 2 ^ 16) = true ∧ (reserved.scr.cov.desc (resId1 / 2 ^ 16) (resId1 / 256 % 256)).live = true ∧
    (reserved.scr.cov.desc (resId1 / 2 ^ 16) (resId1 / 256 % 256)).seq = resId1 % 256 ∧
    max 8 (slotOfSf reserved 100) ≤ (reserved.scr.cov.desc (resId1 / 2 ^ 16) (resId1 / 256 % 256)).last :=
  ⟨may_of_mayB (by decide +kernel), by decide +kernel⟩

/-- A track of machine 2 ended the same cells. -/
def refusedTrack : ScrCov × TrackRes × Nat :=
  trackOutcome (geomFor up 2) ((geomFor up 2).slotOf 100) (100, 5) { track1 6 with machine := 2 } tracked.1

theorem wit_TrackIsNotInserted : refusedTrack.2.1.status = stConflict ∧
    (trackOutcome (geomFor up 1) 4 (100, 4) { track1 6 with wps := [⟨-5000, 5500⟩] } up.scr.cov).2.1.status = stField := by decide +kernel

/-- The slot of the track is over, while its machine may move. -/
def ended : State := { reserved with jr := { up.jr with sf := 2500, lastSf := 2500 }, safe := { up.safe with permit := 1, cPermit := 1 } }

theorem wit_SlotAdvanceExpiresAndChecks : ended.scr.slotSf < ended.jr.sf ∧ slotOfSf ended ended.scr.slotSf < slotOfSf ended ended.jr.sf ∧
    isMachine ended.part 1 = true ∧ ended.scr.cov.holdsAt (slotOfSf ended ended.jr.sf) 1 (slotOfSf ended ended.jr.sf) = false := by
  decide +kernel

/-! Records and their checks; memory failures. -/

/-- A Fix job of rover 1 with no observation. -/
def fixJob : FixJob := ⟨1, 1000, 99, 7, 1990000000, [], none, [], 0, 0, none, ScrCov.zero, geomFor up 1, false⟩

/-- A record of machine 1 at the centre of cell (5, 5). -/
def fixRec : FixRec :=
  { makeRec fixJob ⟨0, 0, FixSol.zero, 0, 0, 0⟩ 0 0 with source := 1, qual := 7, flags := 16, x := 55000, y := 55000, epoch := 777 }

/-- Its check, where nothing is reserved. -/
def confJob : ConfJob := ⟨fixRec, 100, 2, ScrCov.zero, geomFor up 1⟩

/-- Machine 1 has a job, a check and an old record. -/
def fixing : State :=
  { up with fix := { up.fix with jobs := [fixJob], confs := [confJob], rover := [(1, { Rover.zero with lc := .init })] },
            memb := { up.memb with nodes := [(1, { Node.zero with st := .assoc })] },
            safe := { up.safe with permit := 1, cPermit := 1, mach := [(1, { SafeMach.zero with gate := true, age := some 500 })] } }

theorem wit_RecordsAreMadeAndChecked : takeFix 1 fixing.fix.jobs = some (fixJob, []) ∧ confTake 1 fixing.fix.confs = some (confJob, []) ∧
    confPass confJob = false ∧ isMachine fixing.part 1 = true ∧ isAssoc fixing 1 = true ∧ ageOk fixing 1 = false := by decide +kernel

theorem wit_RoverReset : ∃ s, GmpMay hdr sess0 1 10 s ∧ (rover s (cfg s Addr.FIX_ROVER_SEL 15 0)).lc ≠ .empty :=
  ⟨put Addr.FIX_ROVER_SEL 1#32 fixing, may_of_mayB (by decide +kernel), by decide +kernel⟩

theorem wit_LostBucketsRebuild : up.pair.role ≠ .standby ∧ canWrite up = true ∧ up.time.hold = none ∧
    ∀ e ∈ up.scr.cov.descs, e.2.live = false := by decide +kernel

theorem wit_StripsEnd : ∃ s : State, s.pcr.phase = .strip := ⟨{ up with pcr := { up.pcr with phase := .strip } }, rfl⟩

/-! Zones, tasks and rounds. -/

/-- A zone record with OP 1. -/
def zoneRec (len i pfx act : Nat) : ZoneRec := ⟨1, len, i, pfx, act, 0, 1, 500, 0⟩

/-- Two records that are taken. -/
def zonesGood : List ZoneRec := [zoneRec 4 7 0x10000000 1, zoneRec 6 9 0x44000000 2]

/-- The second record has an odd length. -/
def zonesBad : List ZoneRec := [zoneRec 4 7 0x10000000 1, zoneRec 5 9 0x40000000 2]

/-- A staged zone at the index that SCR_ZONE_IDX names. -/
def zoned : State := put Addr.SCR_ZONE_IDX 7#32 { up with scr := { up.scr with staged := [(7, ⟨4, 0x10000000, 1, 1, 0⟩)] } }

theorem wit_ZoneRecordsAreStaged : GmpMay hdr sess0 1 10 up ∧ (zonesGood ≠ [] ∧ (zoneFold 0 zonesGood (zoneTab up)).2 = none) ∧
    (zonesBad ≠ [] ∧ (zoneFold 0 zonesBad (zoneTab up)).2 = some (1, stField)) ∧
    kfind up.scr.staged (cfg up Addr.SCR_ZONE_IDX 15 0) = none :=
  ⟨may_of_mayB (by decide +kernel), by decide +kernel, by decide +kernel, by decide +kernel⟩

theorem wit_ZoneRecordsAreRead : GmpMay hdr sess0 1 10 zoned ∧
    kfind zoned.scr.staged (cfg zoned Addr.SCR_ZONE_IDX 15 0) = some ⟨4, 0x10000000, 1, 1, 0⟩ :=
  ⟨may_of_mayB (by decide +kernel), by decide +kernel⟩

/-- A task that every machine can do. -/
def taskBody : TaskBody := ⟨3, 6, 0, 200, 0, 0, 2000, 1000, 500, [⟨5500, 5500⟩]⟩

/-- The task held, WAITING, at index 0. -/
def tasked : State := { up with scr := { up.scr with tasks := [(0, ⟨.waiting, 1, taskBody, 0, 0⟩)], taskSeq := [(0, 1)] } }

/-- A connector of machine 1 to it. -/
def connBody : ConnBody := ⟨taskRef 0 1, 1, 0, 0, [⟨4500, 5500⟩]⟩

theorem wit_TasksAreHeldWithdrawnAndAssigned : GmpMay hdr sess0 1 10 up ∧ GmpMay hdr sess0 1 10 tasked ∧ taskBody.wps ≠ [] ∧
    taskFields (slotOfSf up up.jr.sf) taskBody = true ∧ findTask tasked (taskRef 0 1) = .inr (0, ⟨.waiting, 1, taskBody, 0, 0⟩) ∧
    hasCaps tasked connBody.machine taskBody.capMask = true ∧ trackFields tasked.part (slotOfSf tasked tasked.jr.sf)
      (taskTrack (slotOfSf tasked tasked.jr.sf) connBody.machine connBody.wps taskBody) = true :=
  ⟨may_of_mayB (by decide +kernel), may_of_mayB (by decide +kernel), by decide, by decide +kernel, by decide +kernel,
   by decide +kernel, by decide +kernel⟩

/-- A round is due, with one task that has passed its DEADLINE. -/
def roundNow : State :=
  put Addr.SCR_ALLOT_CFG (BitVec.ofNat 32 (1 + 200 * 2 + 64 * 2048)) { up with scr := { up.scr with tasks := [(0, ⟨.waiting, 1, { taskBody with deadline := 3 }, 0, 0⟩)] } }

/-- An award that waits, the last of its round. -/
def awarded : State :=
  { up with scr := { up.scr with awards := [⟨TrackRes.blank 0 5, 1, 0, ⟨taskRef 0 1, 1, 0, 1, 0x10001, 100⟩⟩],
                                 ending := some ⟨[], ⟨100, 1, 1, 1, 1, 0, 0, false⟩, true⟩ } }

theorem wit_AllotmentRoundsRun : (roundNow.scr.roundSf < roundNow.jr.sf ∧ roundDue roundNow roundNow.jr.sf = true) ∧
    (up.scr.roundSf < up.jr.sf ∧ roundDue up up.jr.sf = false) ∧ slotOfSf roundNow roundNow.jr.sf = 4 ∧ awarded.scr.awards.length = 1 ∧
    awarded.scr.ending ≠ none := by decide +kernel

/-! References and loops. -/

/-- The unit in 2014, with both receivers bound to their stations, one on each line. -/
def later : State :=
  put Addr.FIX_REF_CFG 0x00000501#32 (put (Addr.FIX_REF_CFG + 4) 0x00000502#32
    { up with time := { up.time with ns := 1400000000005000000 }, jr := { up.jr with sf := 70000000000, lastSf := 70000000000 } })

/-- An ephemeris of GPS 3 for that time. -/
def eph3 : EphSet := ⟨.gps, 3, false, 0, 0, 2, 7, 7, 0, 0, gpsMs 70000000000 + 1000, 99⟩

/-- An RTCM frame that passes its CRC. -/
def rtcmMsg : RtcmMsg := ⟨.arp 5 10 20 30 0, 60, true⟩

theorem wit_ReferenceMessages : (canWrite later = true ∧ later.time.hold = none ∧ (rx later 0).st = .absent ∧ idMatches later 0 5 = true ∧
      arpNear later 0 10 20 30 = true ∧ arpNear later 0 100000000 20 30 = false) ∧
    (ephValid eph3 (gpsMs later.jr.sf) = true ∧ (ephOf later (satKey .gps 3)).sets = [] ∧
      ephValid { eph3 with health := 1 } (gpsMs later.jr.sf) = false) ∧ rxSrc later 0 = 1 := by decide +kernel

theorem wit_ReferenceDeliveries : GmpReady hdr sess0 later ∧ hasRight later 0 1 = true :=
  ⟨(may_of_mayB (r := 1) (c := 10) (by decide +kernel)).toGmpReady, by decide +kernel⟩

/-- A receiver whose newest epoch has a GPS time. -/
def rxAt (st : RefState) (t : Nat) : RefRx := ⟨st, 5, 3, 69999000000, [⟨t, [], [], 70000000000, 1⟩], none, none, 69999997000⟩

/-- The primary has fallen silent, the other has not. -/
def silent : State :=
  { later with fix := { later.fix with rx0 := rxAt .usable (gpsMs 70000000000 - 60000), rx1 := rxAt .usable (gpsMs 70000000000 - 100), primary := some 0 } }

/-- One receiver LOST for 60 s, the other REFUSED. -/
def gone : State := { later with fix := { later.fix with rx0 := rxAt .lost 0, rx1 := rxAt .refused 0 } }

theorem wit_ReceiversAreFollowed : (rxTooOld silent 0 (gpsMs silent.jr.sf) = true ∧ silent.fix.primary = some 0 ∧ usable silent 1 = true) ∧
    ((rx gone 0).st = .lost ∧ (rx gone 0).lastSf + 3000 ≤ gone.jr.sf) ∧ GmpMay hdr sess0 1 10 gone ∧ (rx gone 1).st = .refused :=
  ⟨by decide +kernel, by decide +kernel, may_of_mayB (by decide +kernel), by decide +kernel⟩

/-- A sample of machine 1. -/
def sample1 : LoopSample := ⟨1, fixRec, 99, 7, 0, 1990000000, none⟩

/-- Loop 3, of machine 1, on speed. -/
def loopOf (st : LoopSt) (bad : Nat) : Loop := { Loop.fresh0 1 0 1 0 with st := st, bad := bad, sfHold := 60, stepSf := 99, tickSf := 99, v0 := 0x3F800000, dec := 0x3F000000 }

/-- That loop with a sample, and a permit where the machine may move. -/
def looping (x : Loop) (move : Bool) : State :=
  put Addr.LOOP_SEL 3#32 { up with loop := { up.loop with loops := [(3, x)], samples := [sample1] }, safe := { up.safe with cPermit := if move then 1 else 0 } }

theorem wit_LoopsEvaluate : takeSample 1 (looping (loopOf .run 2) true).loop.samples = some (sample1, []) ∧
    leadPending (looping (loopOf .run 2) true) sample1 = false ∧ usableRec (looping (loopOf .run 2) true) 3 fixRec 0 = true ∧
    (loopOf .run 2).fresh = true := by decide +kernel

theorem wit_LoopsHold : ((loopOf .run 2).tickSf < (looping (loopOf .run 2) true).jr.sf) ∧
    permitted (looping (loopOf .run 2) false) 1 = false ∧
    (permitted (looping (loopOf .run 63) true) 1 = true ∧ lcfg (looping (loopOf .run 63) true) 3 Addr.LOOP_CFG1 21 16 ≤ (loopOf .run 63).bad) ∧
    ((loopOf .hold 2).sfHold < 100 ∧ (loopOf .hold 2).stepSf < 100 ∧ (loopOf .hold 2).ceased = false) ∧
    ((loopOf .hold 2).withdrawn = false ∧ (loopOf .hold 2).sfHold + lcfg (looping (loopOf .hold 2) true) 3 Addr.LOOP_CFG1 30 24 ≤ 100) := by
  decide +kernel

theorem wit_LoopControlActs : GmpMay hdr sess0 1 10 (looping (loopOf .hold 0) true) ∧ selLoop (looping (loopOf .hold 0) true) = 3 ∧
    (loopOf .hold 0).region < 8 ∧ (coefWord (Addr.LOOP_COEF + 0x200 + 0x1C0 + 36) 0x3F800000#32 (looping (loopOf .hold 0) true)).2 = stOk ∧
    fpBad 0x7F800000 = true :=
  ⟨may_of_mayB (by decide +kernel), by decide +kernel, by decide +kernel, by decide +kernel, by decide +kernel⟩

/-! Radio ports and members. -/

/-- A READY key slot of a KEY_ID with every attribute. -/
def keySlot (id : Nat) : KSlot := ⟨.ready, ⟨0x5A4B, 1, 1, id, 0xFF01, 0, 1, 31, 0xFFFF, 15, 1, 0, 0, 16, 24, 0, [], 0, true, true⟩, 0, 0⟩

/-- A plan of one superframe: slot 3 is machine 1's UP slot, 4 a JOIN slot, 6 pendant 0x0101's, 8 machine 2's UP slot. -/
def plan1 : SlotPlan := ⟨0, 1, 1, (List.range 40).map fun i => if i = 3 then 0x00010002#32 else if i = 4 then 0xFFFF0005#32 else
  if i = 6 then 0x01010006#32 else if i = 8 then 0x00020002#32 else 0xFFFF0000#32⟩

/-- A port in a state with that plan. -/
def portOf (st : PortSt) : Port := { Port.zero with st := st, air := plan1, since := 8990000000 }

/-- Every port so, with the radio root key. -/
def radio (p : Port) : State := { up with mac := { up.mac with ports := up.mac.ports.map (fun _ => p), first := some 50 }, key := { up.key with slots := [(1, keySlot 1)] } }

/-- An identity that covers the plan of port 1. -/
def headId : HeadId := ⟨1, 7, 1, 1, 1, 0, 65535, 255, 255, -100, 100, 10, 20, 4, 99⟩

/-- A frame that waits to be sent. -/
def txSlot : TxSlot := ⟨101, 3, 1, .stop 1 2 true 3, none, true⟩

theorem wit_PortsAreDiscovered : (port (radio (portOf .discover)) 1).st = .discover ∧ idCovers (radio (portOf .discover)) 1 headId = true ∧
    idCovers (radio (portOf .discover)) 1 { headId with rxBuf := 3 } = false ∧ (port (radio (portOf .discover)) 1).upFrom = none ∧
    (port (radio (portOf .down)) 1).st = .down ∧ 1 < portCount up.part ∧
    (port (radio { portOf .up with sw := some 100 }) 1).sw = some 100 := by decide +kernel

theorem wit_PortsAreReset : GmpMay hdr sess0 1 10 (radio (portOf .down)) ∧ (port (radio (portOf .down)) 1).st ≠ .off :=
  ⟨may_of_mayB (by decide +kernel), by decide +kernel⟩

theorem wit_HeadTransactionsEnd : (port (radio (portOf .up)) 1).st ≠ .off ∧ respFails (.status 5) = false ∧
    (port (radio (portOf .up)) 1).failed ≠ some 0x10 ∧ (port (radio { portOf .up with failed := some 0x10 }) 1).failed = some 0x10 ∧
    (4 : Nat).testBit 3 = false ∧ (4 : Nat).testBit 2 = true ∧ (12 : Nat).testBit 3 = true ∧
    (port (radio { portOf .up with tx := some txSlot }) 1).tx = some txSlot := by decide +kernel

/-- Port 1 alone holds a frame. -/
def firing : State := { radio (portOf .up) with mac := { (radio (portOf .up)).mac with ports := ((radio (portOf .up)).mac.ports).set 1 { portOf .up with tx := some txSlot } } }

theorem wit_SlotsFireTheirFrames : 1 < portCount firing.part ∧ (∀ j, j < 4 → j ≠ 1 → (port firing j).tx = none) ∧ firing.mac.ports.length = 4 ∧
    (port firing 1).tx = some txSlot ∧ maySend firing 1 101 3 = true := by decide +kernel

/-- A preamble stamped in slot 5 of superframe 100, and the frame that claims it. -/
def stamp8 : Stamp := ⟨8, 2000000000 + 500000 * 3 + 20, false⟩

/-- Port 1 with that stamp. -/
def hearing : State := radio { portOf .up with stampSeq := 65535, stamps := [stamp8, ⟨9, 5, false⟩] }

/-- A frame of machine 1 in slot 3. -/
def rxFrame : RxRead := ⟨1, 40, 8, .frame ⟨40, ⟨5, false, 0, 0, 9, 0, 1, 100, 3, 1, 1⟩, some (.ack ⟨1, 0⟩), true⟩⟩

theorem wit_FramesAreTaken : (port hearing 1).st = .up ∧ (port hearing 1).stamps.find? (fun x => x.seq == 8 && !x.claimed) = some stamp8 ∧
    (port hearing 1).failed = none ∧ radioRootOk hearing = true ∧ engUsable hearing 0x31 = true ∧ canWrite hearing = true ∧
    knownRx rxFrame.psdu = true ∧ headDrx (port hearing 1) = 0 ∧ sfOf stamp8.ns = 100 ∧ (stamp8.ns - sfStart 100) / 500000 = 3 ∧
    entKind ((airPlan hearing 1 100).1.entry 100 3) = 2 ∧ stamp8.ns - slotStart 100 3 ≤ 50000 ∧
    rxFrame.len ≤ psduLimit (bw20 hearing 1) rxFrame.rate ∧ (port hearing 1).stamps.find? (fun x => x.seq == 77) = none := by decide +kernel

/-- Port 1 waits to send a stop. -/
def stopping : State := { radio (portOf .up) with safe := { up.safe with ports := [(1, { StopReq.none with want := true, since := 44 })] } }

theorem wit_SlotsAreCutOff : (port (radio (portOf .discover)) 1).st ≠ .up ∧ (maySend stopping 1 101 0 = true ∧ stopping.mac.first = some 50) ∧
    (maySend stopping 1 101 39 = true ∧ (stopReq stopping 1).want = true) := by decide +kernel

/-- A member that has sent frame 7. -/
def memberNode : Node := { Node.zero with st := .assoc, home := 1, rxAny := true, rxLast := 7, rxMap := 1, lastSf := 90 }

/-- Machines 1 and 2 and pendant 0x0101 are members; machine 2's relay is machine 1; joins are enabled. -/
def members : State :=
  setForce (wkey Addr.MAC_NODE_SEL 2 Addr.MAC_NODE_RELAY) 1#32 (put Addr.MAC_MEMB_CFG0 (0x0012C147#32)
    { radio (portOf .up) with memb := { up.memb with nodes := [(1, memberNode), (2, memberNode), (0x101, memberNode)] } })

/-- A received frame's header. -/
def rxHdr (typ src slot key : Nat) : FrameHdr := ⟨typ, true, 0, 0, 9, 0, src, 99, slot, 1, key⟩

/-- The message it heads. -/
def rxMsg (typ src slot key : Nat) (b : Option RadioBody) : RxMsg := ⟨60, rxHdr typ src slot key, b, true⟩

/-- What the intake of port 1 holds of it. -/
def took (m : RxMsg) : Intake := ⟨1, 99, m.hdr.slot, 2002000000, .frame m⟩

/-- What RxFrame asks, decided. -/
def rxB (typ : Nat) (x : Intake) (m : RxMsg) (s : State) : Bool :=
  decide (intakeTake 1 [x] = some (x, [])) && decide (psduMsg x.psdu = some m) && decide (m.hdr.typ = typ) && headOk s x m && m.micOk

/-- The members with one frame at the intake. -/
def heard (x : Intake) : State := { members with mac := { members.mac with intake := [x] } }

/-- A decided frame passes its checks. -/
theorem rx_of_rxB {typ : Nat} {x : Intake} {m : RxMsg} (h : rxB typ x m (heard x) = true) : RxFrame 1 typ x [] m (heard x) := by
  simp only [rxB, Bool.and_eq_true, decide_eq_true_eq] at h
  exact ⟨h.1.1.1.1, h.1.1.1.2, h.1.1.2, h.1.2, h.2⟩

/-- UP with the stop flag, ACK, LEAVE and PEND. -/
def mUp : RxMsg := rxMsg 3 1 3 1 (some (.up ⟨⟨0, 0⟩, 2, 0, 0, 0, []⟩))
/-- An ACK frame. -/
def mAck : RxMsg := rxMsg 5 1 3 1 (some (.ack ⟨0, 0⟩))
/-- A LEAVE frame. -/
def mLeave : RxMsg := rxMsg 8 1 3 1 (some (.leave 1))
/-- A PEND frame with the stop. -/
def mPend : RxMsg := rxMsg 9 0x101 6 1 (some (.pend ⟨1, 100, 5⟩))

theorem wit_MemberFramesAreEntries : RxFrame 1 3 (took mUp) [] mUp (heard (took mUp)) ∧ RxFrame 1 5 (took mAck) [] mAck (heard (took mAck)) ∧
    RxFrame 1 8 (took mLeave) [] mLeave (heard (took mLeave)) ∧ RxFrame 1 9 (took mPend) [] mPend (heard (took mPend)) ∧
    window (node members 1) 9 = .accepted 9 5 ∧ isPendant 0x101 = true ∧ pendScope members 0x101 = 8 :=
  ⟨rx_of_rxB (by decide +kernel), rx_of_rxB (by decide +kernel), rx_of_rxB (by decide +kernel), rx_of_rxB (by decide +kernel),
   by decide +kernel, by decide +kernel, by decide +kernel⟩

/-- JOIN_REQ of a machine. -/
def joinBody : JoinBody := ⟨0xAABB, 5, 0, 0, 50, 0⟩

/-- Its frame. -/
def mJoin (b : JoinBody) : RxMsg := rxMsg 6 addrNone 4 2 (some (.joinReq b))

theorem wit_JoinsAreTaken : RxFrame 1 6 (took (mJoin joinBody)) [] (mJoin joinBody) (heard (took (mJoin joinBody))) ∧
    joinFieldsOk joinBody = true ∧ joinFieldsOk { joinBody with clkPpm := 0 } = false ∧ kfind members.memb.lastJoin 0xAABB = none ∧
    cfgB members Addr.MAC_MEMB_CFG0 0 = true ∧ joinAddr members true 0xAABB = some 3 ∧
    RxFrame 1 6 (took (mJoin { joinBody with clkPpm := 0 })) [] (mJoin { joinBody with clkPpm := 0 })
      (heard (took (mJoin { joinBody with clkPpm := 0 }))) :=
  ⟨rx_of_rxB (by decide +kernel), by decide +kernel, by decide +kernel, by decide +kernel, by decide +kernel, by decide +kernel,
   rx_of_rxB (by decide +kernel)⟩

/-- A RELAY frame of machine 1, and an inner frame of machine 2. -/
def mRelay : RxMsg := rxMsg 11 1 3 1 none
/-- The inner frame. -/
def mInner : RxMsg := ⟨40, { rxHdr 5 2 8 1 with sf := 98, seq := 10 }, some (.ack ⟨0, 0⟩), true⟩

/-- The RELAY frame at the intake. -/
def relayed (l : List RxMsg) : Intake := ⟨1, 99, 3, 2002000000, .relay mRelay l⟩

theorem wit_RelaysAreTaken : RxFrame 1 11 (relayed []) [] mRelay (heard (relayed [])) ∧ RxFrame 1 11 (relayed [mInner]) [] mRelay (heard (relayed [mInner])) ∧
    window (node members 1) 9 = .accepted 9 5 ∧ innerOk members (relayed [mInner]) mRelay mInner = true ∧
    window (node members 2) 10 = .accepted 10 9 :=
  ⟨rx_of_rxB (by decide +kernel), rx_of_rxB (by decide +kernel), by decide +kernel, by decide +kernel, by decide +kernel⟩

/-- Address 1 as it stands, at a superframe. -/
def addressed (n : Node) (sf : Nat) : State := put Addr.MAC_NODE_SEL 1#32 { up with memb := { up.memb with nodes := [(1, n)] }, jr := { up.jr with sf := sf, lastSf := sf } }

theorem wit_AddressesAreHeld : ((node (addressed memberNode 290) 1).st = .assoc ∧ (node (addressed memberNode 290) 1).sleepy = false ∧
      (node (addressed memberNode 290) 1).lastSf + cfg (addressed memberNode 290) Addr.MAC_MEMB_CFG0 11 4 * 10 ≤ 290) ∧
    ((104 - 1) % 10 = (node (addressed { memberNode with sleepy := true, period := 10, phase := 3, wakeMiss := 7, frameSf := 80 } 104) 1).phase) ∧
    (node (addressed { memberNode with st := .held, heldSf := 90 } 15090) 1).heldSf +
      cfg (addressed { memberNode with st := .held, heldSf := 90 } 15090) Addr.MAC_MEMB_CFG0 23 12 * 50 ≤ 15090 := by decide +kernel

theorem wit_AddressesAreFreed : GmpMay hdr sess0 1 10 (addressed memberNode 100) ∧ GmpMay hdr sess0 1 10 (addressed { memberNode with st := .held } 100) ∧
    1 = selVal (addressed memberNode 100) Addr.MAC_NODE_SEL % 65536 :=
  ⟨may_of_mayB (by decide +kernel), may_of_mayB (by decide +kernel), by decide +kernel⟩

/-! Jobs, hods, tables. -/

/-- A covered job on Fix engine 0x10. -/
def job1 : Job := ⟨3, 0, true, false, false, false, false, 0, 100, 2, 0, some 3000000, 0, 0, none, .running, 0x10, true, 1⟩

/-- Descriptors in use, and the delay list. -/
def jobs (l : KMap Job) (d : List (Nat × Nat)) : State := { up with sched := { up.sched with jobs := l, delay := d } }

theorem wit_JobsCompleteRetireAndRelease :
    (kfind (jobs [(5, job1)] []).sched.jobs 5 = some job1 ∧ job1.st = .running ∧ job1.covered = true) ∧
    (kfind (jobs [(5, { job1 with covered := false })] []).sched.jobs 5 = some { job1 with covered := false } ∧
      (jobs [] []).sched.stalled = []) ∧
    canRetire (jobs [(5, { job1 with st := .done }), (6, { job1 with seq := 3 })] []) { job1 with st := .done } = true ∧
    kfind (jobs [(5, { job1 with st := .delayed })] [(300000, 5), (300001, 7)]).sched.jobs 5 = some { job1 with st := .delayed } := by
  decide +kernel

/-- Hod 60 selected, and its consumer's engine. -/
def hods (fenced : Bool) : State :=
  put Addr.HOD_SEL 60#32 { up with hod := { up.hod with hods := [(60, ⟨5, 2, 0x10, 0x20, 64, false⟩)] },
                                   sched := { up.sched with eng := [(0x20, { Eng.zero with fenced := fenced })] } }

theorem wit_HodsAreResetAndFenced : isEngine up.part (hodConsumerOf (hods true) 60) = true ∧ up.safe.faults.testBit 2 = false ∧
    up.safe.faults.testBit 5 = false ∧ (GmpMay hdr sess0 1 10 (hods true) ∧ 48 ≤ cfg (hods true) Addr.HOD_SEL 8 0 ∧
      (engOf (hods true) (hodConsumerOf (hods true) (cfg (hods true) Addr.HOD_SEL 8 0))).fenced = true) ∧
    (GmpMay hdr sess0 1 10 (hods false) ∧ (engOf (hods false) (hodConsumerOf (hods false) (cfg (hods false) Addr.HOD_SEL 8 0))).fenced = false) :=
  ⟨by decide +kernel, by decide +kernel, by decide +kernel, ⟨may_of_mayB (by decide +kernel), by decide +kernel, by decide +kernel⟩,
   may_of_mayB (by decide +kernel), by decide +kernel⟩

/-- An IPv6 rule record with OP 1. -/
def ruleRec (len i p act : Nat) : RuleRec := ⟨1, len, i, p, act, 3, 0⟩

/-- A staged rule at the index that LKP_RULE_IDX names. -/
def ruled : State := put Addr.LKP_RULE_IDX 9#32 { up with lkp := { up.lkp with stagedRules := [(9, ruleRec 16 9 (0xFE80 * 2 ^ 112) 0)] } }

theorem wit_RulesAreStaged : GmpMay hdr sess0 1 10 up ∧
    (ruleFold 0 [ruleRec 16 3 (0xFE80 * 2 ^ 112) 0, ruleRec 0 4 0 1] (ruleTab up)).2 = none ∧
    (ruleFold 0 [ruleRec 16 3 (0xFE80 * 2 ^ 112) 0, ruleRec 8 4 1 1] (ruleTab up)).2 = some (1, stField) ∧
    kfind up.lkp.stagedRules (cfg up Addr.LKP_RULE_IDX 15 0) = none ∧
    (GmpMay hdr sess0 1 10 ruled ∧ kfind ruled.lkp.stagedRules (cfg ruled Addr.LKP_RULE_IDX 15 0) ≠ none) :=
  ⟨may_of_mayB (by decide +kernel), by decide +kernel, by decide +kernel, by decide +kernel, may_of_mayB (by decide +kernel), by decide +kernel⟩

/-- A BRIDGE entry and a NODE entry, and what a pipeline holds. -/
def emEnt (node : Bool) (vid addr port : Nat) : EmEnt := ⟨node, false, false, false, vid, addr, port, 0xFFFE⟩

/-- A pipeline with both. -/
def pipe0 : Pipe := ⟨[(10, emEnt false 5 0x0A0B0C0D0E0F 1), (23, emEnt true 0 7 0)], [], 0, 0⟩

/-- Both pipelines so, with the key registers on either entry, and a static entry staged where asked. -/
def lookups (p : Pipe) (st : KMap Nat) : State :=
  put Addr.LKP_KEY0 0x00070005#32 (put Addr.LKP_KEY1 0x0D0C0B0A#32 (put Addr.LKP_KEY2 0x0F0E#32
    { up with lkp := { up.lkp with pipes := [p, p], stagedStatics := st } }))

theorem wit_LookupCommandsAct : GmpMay hdr sess0 1 10 (lookups pipe0 []) ∧
    admitted (lookups pipe0 []) 17 < cfgW (lookups pipe0 []) Addr.SCHED_CLASS_SEL 17 Addr.SCHED_CLASS_CFG 30 20 ∧
    (emFind (pipe (lookups pipe0 []) (servedBy (lookups pipe0 []) 1)).live true (keyRegs (lookups pipe0 []) true).1
      (keyRegs (lookups pipe0 []) true).2 = some (23, emEnt true 0 7 0)) ∧ (lookups pipe0 []).lkp.walkEnd = false ∧
    (staticAdd (keyRegs (lookups pipe0 []) false).1 (keyRegs (lookups pipe0 []) false).2 2 (lookups pipe0 [])).2 = stOk :=
  ⟨may_of_mayB (by decide +kernel), by decide +kernel, by decide +kernel, by decide +kernel, by decide +kernel⟩

theorem wit_LookupCommandsFindNothing : GmpMay hdr sess0 1 10 (lookups ⟨[], [], 0, 0⟩ [(staticKey 5 0x0A0B0C0D0E0F, 1)]) ∧
    emFind (pipe (lookups ⟨[], [], 0, 0⟩ [(staticKey 5 0x0A0B0C0D0E0F, 1)]) 0).live false 5 0x0A0B0C0D0E0F = none ∧
    kfind (lookups ⟨[], [], 0, 0⟩ [(staticKey 5 0x0A0B0C0D0E0F, 1)]).lkp.stagedStatics (staticKey
      (keyRegs (lookups ⟨[], [], 0, 0⟩ [(staticKey 5 0x0A0B0C0D0E0F, 1)]) false).1
      (keyRegs (lookups ⟨[], [], 0, 0⟩ [(staticKey 5 0x0A0B0C0D0E0F, 1)]) false).2) ≠ none :=
  ⟨may_of_mayB (by decide +kernel), by decide +kernel, by decide +kernel⟩

/-- A frame of VID 5 on ETH0 for an unknown station. -/
def ethIn : EthFrame := ⟨0, 0x0A0B0C0D0E0F, 0x020000000001, 100, 0x0800, some 5, none, false, none, false, false, false, false⟩

/-- The bridge on, flooding, with VLAN 5 on every port or on none. -/
def bridging (vlan : Word) : State :=
  put (Addr.LKP_VLAN + 4) vlan (put Addr.LKP_CFG 0x00002000#32 (put Addr.NET_PORT_CFG 1#32 { up with gmp := { up.gmp with link := [true, true] } }))

theorem wit_TablesAgeRebuildAndBridge : pipeOk up 1 = true ∧ engUsable (bridging 0#32) 0x38 = true ∧ vlanOf (bridging 0#32) 5 = none ∧
    (vlanOf (bridging 0x0001F005#32) 5 = some 0x0001F005#32 ∧ ethIn.len ≤ 1522 ∧ isReservedMac ethIn.dst = false ∧
      ethIn.src.testBit 40 = false ∧ ethIn.dst.testBit 40 = false ∧ cfgB (bridging 0x0001F005#32) Addr.LKP_CFG 12 = false ∧
      cfgB (bridging 0x0001F005#32) Addr.LKP_CFG 13 = true ∧ holdsToken (bridging 0x0001F005#32) = true ∧
      isLocalMac (bridging 0x0001F005#32) 5 ethIn.dst = false ∧ bit 0x0001F005#32 13 = true ∧ bit 0x0001F005#32 14 = true) ∧
    cfg (bridging 0#32) (Addr.NET_PORT_CFG + 4 * 0) 1 0 ≠ 0 := by decide +kernel

theorem wit_CatchupEnds : ∃ s t : State, (s.lkp.catchup = true ∧ s.lkp.swapDue = false) ∧ t.lkp.catchup = true ∧ t.lkp.swapDue = true :=
  ⟨{ up with lkp := { up.lkp with catchup := true } }, { up with lkp := { up.lkp with catchup := true, swapDue := true } },
    by decide +kernel, by decide +kernel⟩

/-! Station time. -/

/-- What a PTP master announces. -/
def ptpM : PtpMaster := ⟨true, 6, 0x21, 128, 128, 37, 77, 0⟩

/-- PTP in a MODE with both ports in a state. -/
def ptp (mode st : Nat) : State :=
  put Addr.TIME_PTP_CFG (BitVec.ofNat 32 (mode + 12))
    { up with gmp := { up.gmp with link := [true, true] }, time := { up.time with ptp := [⟨st, [3, 4, 5]⟩, ⟨st, [3, 4, 5]⟩], master := some ptpM } }

/-- A source that has not been a candidate for 3 s, in HOLD. -/
def holding : State :=
  { up with time := { up.time with st := .hold, holdSince := 8900000000,
                                   srcs := up.time.srcs.map fun x => { x with st := .qualified, lostAt := some 6000000000 } } }

theorem wit_TimeSourcesAreFollowed : up.time.srcs.length = 3 ∧ (ptpUsed (ptp 1 ptpSlave) 0 = true ∧ ptpState (ptp 1 ptpSlave) 0 = ptpSlave ∧
      (ptp 1 ptpSlave).time.master = some ptpM ∧ ptpM.ptpScale = true) ∧
    (ptpUsed (ptp 3 ptpMaster) 1 = true ∧ ptpState (ptp 3 ptpMaster) 1 = ptpMaster) ∧ (ptpState (ptp 1 ptpSlave) 0 ≠ ptpMaster ∧
      0 < (ptp 1 ptpSlave).time.ptp.length) ∧ ((src holding 1).st ≠ .absent ∧ (src holding 1).lostAt = some 6000000000 ∧
      isCand (advOp (6000000000 + 3000000000) holding) 1 = false) ∧ holding.time.st = .hold := by decide +kernel

/-- A forced set that R374 allows, and one without the global stop. -/
def setting (stop : Bool) : State := put Addr.TIME_SET_S_LO 50#32 { up with safe := { up.safe with cLatch := stop } }

/-- A forced set that is accepted. -/
def setDue : State := { up with time := { up.time with set := some ⟨1000000000, 3000000000⟩ } }

theorem wit_TimeIsSet : GmpMay hdr sess0 4 10 (setting true) ∧ GmpMay hdr sess0 4 10 (setting false) ∧
    cfg (setting true) Addr.TIME_SET_NS 31 0 ≤ 999999999 ∧ (setting true).time.set = none ∧ (setting true).pair.handover = none ∧
    now (setting true) ≤ setValue (setting true) + 60000000000 ∧ setDue.time.set = some ⟨1000000000, 3000000000⟩ ∧ canWrite setDue = true ∧
    setDue.safe.cLatch = true :=
  ⟨may_of_mayB (by decide +kernel), may_of_mayB (by decide +kernel), by decide +kernel⟩

/-- Trigger 1 is to fire at 9 s; it is armed where asked. -/
def trigger (armed : Bool) (cfg : Word) : State :=
  put (Addr.TIME_TRIG_CFG + 0x20) cfg (put (Addr.TIME_TRIG_START_S_LO + 0x20) 9#32 (put (Addr.TIME_TRIG_WIDTH + 0x20) 100#32
    { up with time := { up.time with trigs := lset up.time.trigs 1 ⟨armed, 65535, 9000000000⟩ } }))

theorem wit_TriggersFire : GmpMay hdr sess0 1 10 (trigger false 0#32) ∧ 1 < (trigger false 0#32).time.trigs.length ∧ fld 5#32 1 0 = 1 ∧
    now (trigger false 0#32) + 100000 ≤ trigStart (trigger false 0#32) 1 ∧
    (storeWord (Addr.TIME_TRIG_CFG + 0x20 * 1) 5#32 (trigger false 0#32)).2 = stOk ∧
    ((trigger true 1#32).time.trigs.getD 1 ⟨false, 0, 0⟩ = ⟨true, 65535, 9000000000⟩ ∧ trigLive (trigger true 1#32) = true ∧
      trigMode (trigger true 1#32) 1 ≠ 2) :=
  ⟨may_of_mayB (by decide +kernel), by decide +kernel, by decide +kernel, by decide +kernel, by decide +kernel, by decide +kernel⟩

/-! Keys and the life cycle. -/

/-- The key part of `up` changed. -/
def keyed (f : KeyS → KeyS) : State := { up with key := f up.key }

/-- PROVISIONED with every root valid, a change armed or being blown. -/
def provisioned (roots : List RootSt) (arm blow : Option LcArm) (fuses : List Nat) : State :=
  keyed fun k => { k with fuses := fuses, roots := roots, arm := arm, blow := blow }

/-- Every root valid. -/
def allRoots : List RootSt := [.valid, .valid, .valid, .valid]

theorem wit_LifeCycleAdvances : GmpMay hdr sess0 5 10 (provisioned allRoots (some ⟨255, false, 2, 60⟩) none [2, 0, 0, 0]) ∧
    lcAllowed (provisioned allRoots (some ⟨255, false, 2, 60⟩) none [2, 0, 0, 0]) false 2 = true ∧
    lcAllowed (provisioned allRoots (some ⟨255, false, 2, 60⟩) none [2, 0, 0, 0]) false 1 = false ∧
    lcAllowed (provisioned allRoots (some ⟨255, false, 2, 60⟩) none [2, 0, 0, 0]) true 0 = true ∧
    (lcState (provisioned allRoots none none [0, 0, 0, 0]) = 0 ∧ lcAllowed (provisioned allRoots none none [0, 0, 0, 0]) false 1 = true) ∧
    (provisioned allRoots none (some ⟨3, false, 4, 60⟩) [2, 0, 0, 0]).key.fuses.getD (4 - 1) 0 = 0 ∧
    (provisioned allRoots none (some ⟨3, false, 4, 60⟩) [2, 0, 0, 1]).key.fuses.getD (4 - 1) 0 = 1 :=
  ⟨may_of_mayB (by decide +kernel), by decide +kernel, by decide +kernel, by decide +kernel, by decide +kernel, by decide +kernel, by decide +kernel⟩

/-- A blob of an AES-256 key under root customer-A, its CRC as it should be. -/
def blob1 : Blob :=
  let b : Blob := ⟨0x5A4B, 1, 2, 0x100, 0xFF01, 0, 5, 3, 3, 15, 1, 0, 0, 32, 40, 0, List.replicate 40 7, 0, true, false⟩
  { b with crc := crc32c (blobHead b) }

/-- That blob in the keyring, READY in slot 3, and a write of it awaited. -/
def ringed (st : KSlotSt) (running : Nat) : State :=
  { keyed (fun k => { k with fuses := [2, 0, 0, 0], roots := allRoots, ring := ⟨5, [(0x100, blob1)], []⟩, next := ⟨5, [(0x100, blob1)], []⟩,
                             slots := [(3, ⟨st, blob1, running, 0⟩)], writes := [⟨⟨5, [(0x100, blob1)], []⟩, none, true⟩] })
    with nvm := { up.nvm with ch := chans } }

theorem wit_KeyringChanges : GmpMay hdr sess0 5 10 (provisioned [.valid, .blank, .blank, .valid] none none [2, 0, 0, 0]) ∧
    rootOk (provisioned [.valid, .blank, .blank, .valid] none none [2, 0, 0, 0]) 0 = true ∧
    lcState (provisioned [.valid, .blank, .blank, .valid] none none [2, 0, 0, 0]) = 1 ∧
    GmpMay hdr sess0 6 10 (provisioned allRoots none none [2, 0, 0, 0]) ∧ (putOp blob1 none (provisioned allRoots none none [2, 0, 0, 0])).2 = none ∧
    blobCheck (provisioned allRoots none none [2, 0, 0, 0]) (provisioned allRoots none none [2, 0, 0, 0]).key.next { blob1 with kwpOk := false } ≠ stOk :=
  ⟨may_of_mayB (by decide +kernel), by decide +kernel, by decide +kernel, may_of_mayB (by decide +kernel), by decide +kernel, by decide +kernel⟩

theorem wit_KeyringIsWritten : GmpMay hdr sess0 6 10 (ringed .ready 0) ∧ kfind (ringed .ready 0).key.next.blobs 0x100 = some blob1 ∧
    (raiseFloor (ringed .ready 0).key.next 0x100 blob1.gen).floors.length ≤ 256 ∧ kfind (ringed .ready 0).key.next.blobs 0x101 = none ∧
    (ringed .ready 0).key.writes.length = 1 ∧ chanUsed (ringed .ready 0) 0 = true ∧
    (ringed .ready 0).key.slots.find? (fun e => e.2.st == .ready && e.2.blob.keyId == 0x100) = some (3, ⟨.ready, blob1, 0, 0⟩) ∧ blob1.flags ≠ 1 :=
  ⟨may_of_mayB (by decide +kernel), by decide +kernel⟩

theorem wit_KeysServe : dbgCust (ringed .ready 2) = false ∧ readySlot (ringed .ready 2) 0x100 = some (3, ⟨.ready, blob1, 2, 0⟩) ∧
    useCheck (ringed .ready 2) blob1 0 0 = stOk ∧ useCheck (ringed .ready 2) blob1 4 0 ≠ stOk ∧ readySlot (ringed .ready 2) 0x101 = none ∧
    kfind (ringed .ready 2).key.ring.blobs 0x101 = none ∧ kfind (ringed .stale 1).key.slots 3 = some ⟨.stale, blob1, 1, 0⟩ := by decide +kernel

theorem wit_DebugOpens : ∃ s, GmpMay hdr sess0 5 10 s ∧ lcState s ≠ 0 ∧ lcState s ≠ 4 ∧ s.safe.latch = true ∧ s.key.chalFresh = true ∧ s.key.fails < 3 :=
  ⟨keyed fun k => { k with chalFresh := true }, may_of_mayB (by decide +kernel), by decide +kernel⟩

/-! The GMP server. -/

/-- Session 0 with a journal subscription whose last entry sent is 100:3. -/
def sess6 : Session := { sess0 with subs := [(6, ⟨0, 0, [], (100, 3), (100, 1)⟩)] }

theorem wit_ReadsAndSubscriptionsAreServed : GmpMay hdr sess0 0 12 up ∧ (spanOk Addr.SAFE_LEASE 1 = true ∧ spanOk 2 1 = false) ∧
    (holdsToken up = true ∧ holdsToken (put Addr.PAIR_CFG 3#32 { up with pair := { up.pair with role := .standby } }) = false) ∧
    session { up with gmp := { up.gmp with sess := [(0, sess6)] } } 0 = some sess6 ∧
    kfind sess6.subs 6 = some (⟨0, 0, [], (100, 3), (100, 1)⟩ : Sys2Proof.Machine.Sub) ∧
    posLt ((100, 1) : Nat × Nat) (100, 3) = true ∧ posLt ((100, 3) : Nat × Nat) (100, 3) = false :=
  ⟨may_of_mayB (by decide +kernel), by decide +kernel, by decide +kernel, by decide +kernel, by decide +kernel, by decide +kernel, by decide +kernel⟩

/-- An identity's PSK identity. -/
def identBytes : List Nat := [1, 2, 3, 4, 5, 6, 7, 8, 9, 10, 11, 12, 13, 14, 15, 16]

/-- A system key's blob. -/
def sysBlob (id : Nat) : Blob := ⟨0x5A4B, 1, 1, id, 0xFF01, 0, 5, 31, 0xFFFF, 15, 1, 0, 0, 16, 24, 0, List.replicate 24 7, 0, true, false⟩

/-- A unit that knows that identity and holds its system keys, with a set of sessions. -/
def knows (sess : List (Nat × Session)) : State :=
  (List.range 4).foldl (fun s m => setForce (wkey Addr.NET_IDENT_SEL 0 (Addr.NET_IDENT_ID + 4 * m)) (BitVec.ofNat 32 (byteWord identBytes m)) s)
    { up with gmp := { up.gmp with sess := sess },
              key := { up.key with slots := [(0, ⟨.ready, sysBlob 3, 0, 0⟩), (1, ⟨.ready, sysBlob 1, 0, 0⟩)] } }

/-- Four sessions of other identities. -/
def others : List (Nat × Session) := [(0, { sess0 with ident := 1 }), (1, { sess0 with ident := 2 }), (2, { sess0 with ident := 3 }), (3, { sess0 with ident := 4 })]

theorem wit_SessionsOpenAndClose : (unitUp (knows []) = true ∧ identOf (knows []) identBytes = some 0 ∧ sessOf (knows []) 0 = none ∧
      freeSess (knows []) = some 0 ∧ systemOk (loadSystem 3 (knows [])) 3 1 3 = true ∧ (lcWorld (lcState (loadSystem 3 (knows []))) ≠ 1 ∨ radioRootOk (loadSystem 3 (knows [])) = true)) ∧
    (unitUp (knows others) = true ∧ freeSess (knows others) = none ∧ identOf (knows others) identBytes = some 0 ∧ sessOf (knows others) 0 = none) ∧
    (session up 0 = some sess0 ∧ up.time.op < sess0.lastAt + cfg up Addr.NET_GMP_CFG 9 0 * 1000000000) ∧
    (session { up with time := { up.time with op := 900000000000000 } } 0 = some sess0 ∧
      sess0.lastAt + cfg up Addr.NET_GMP_CFG 9 0 * 1000000000 ≤ 900000000000000) ∧
    ([(5, 8899000000), (6, 8950000000)] : List (Nat × Nat)).find? (fun e => e.1 == 5) = some (5, 8899000000) ∧ 8899000000 + 100000000 ≤ up.time.op := by
  decide +kernel

/-- A selector's word is of its field's values. -/
def ranged (a : Nat) (v : Word) : Bool := (findReg a).any fun d => d.inRange v

theorem wit_WritesAreWholeOrNotAtAll : GmpMay hdr sess0 1 10 up ∧ up.pcr.resetAt = none ∧
    [Addr.FIX_ROVER_SEL, Addr.SCR_MACH_SEL, Addr.LOOP_SEL, Addr.SCHED_ENG_SEL, Addr.HOD_SEL].all (fun a => ranged a 1#32 && ranged a 3#32) = true ∧
    [Addr.FIX_ROVER_SEL, Addr.SCR_MACH_SEL].all (fun a => (findReg a).isSome && !ranged a 0#32) = true ∧
    ranged Addr.SAFE_LEASE 0x00030128#32 = true ∧ findReg 2 = none ∧ (Addr.SAFE_LEASE + 2) % 4 ≠ 0 :=
  ⟨may_of_mayB (by decide +kernel), by decide +kernel⟩

/-! The log, transfers, trials and the boot. -/

/-- A record. -/
def rec0 : EvrRec := ⟨0x13, 9, 0, 1, 7, 0, 1, 2, 5000000, 100, 3, [1, 2], []⟩

/-- A log of five records, its channel usable. -/
def logged (f : EvrS → EvrS) : State :=
  { up with nvm := { up.nvm with ch := chans },
            evr := f { up.evr with cap := 100, total := 5, logOk := true, queue := [], log := [(4, .valid rec0)] } }

theorem wit_RecordsAreWrittenReadAndErased :
    ((logged fun e => { e with writing := some rec0, again := false }).evr.writing = some rec0 ∧ chanUsed (logged fun e => { e with writing := some rec0 }) 0 = true ∧
      (logged fun e => { e with writing := some rec0, again := false }).evr.total + 2 < (logged fun e => { e with writing := some rec0 }).evr.cap) ∧
    GmpMay hdr sess0 0 21 (logged id) ∧ kfind (logged id).evr.log 4 = some (.valid rec0) ∧ 4 < (logged id).evr.total ∧
    (GmpMay hdr sess0 8 21 (logged id) ∧ (logged id).evr.erasing = none ∧ (logged id).evr.eraseWait = none ∧ (logged id).evr.writing = none) ∧
    ((logged fun e => { e with erasing := some ⟨0, 9, 0, 5⟩ }).evr.erasing = some ⟨0, 9, 0, 5⟩ ∧ session (logged id) 0 = some sess0) :=
  ⟨by decide +kernel, may_of_mayB (by decide +kernel), by decide +kernel, by decide +kernel,
   ⟨may_of_mayB (by decide +kernel), by decide +kernel⟩, by decide +kernel⟩

/-- The regions of the boot header. -/
def regions : List Region :=
  [⟨1, 0x20000, 0x100000⟩, ⟨2, 0x120000, 0x100000⟩, ⟨3, 0x220000, 0x10000⟩, ⟨4, 0x230000, 0x10000⟩, ⟨5, 0x240000, 0x10000⟩,
   ⟨6, 0x250000, 0x10000⟩, ⟨7, 0x260000, 0x10000⟩, ⟨8, 0x270000, 0x10000⟩]

/-- A good copy of the boot header. -/
def header : HdrCopy := ⟨0x535A4E42, 1, 0, 7, 8, 0, 0xFF, 0, regions, true⟩

/-- The non-volatile memory with that header, its two slots and a primer image. -/
def flashOf (fw : List FwSlot) (pr : KMap (List Nat)) : Flash :=
  { State.reset.nvm.flash with hdr := [.copy header, .blank], fw := fw, primer := pr }

/-- A transfer of firmware in a state, into slot 1. -/
def sending (st : UpdSt) (target len : Nat) (x : FwSlot) : State :=
  { up with nvm := { up.nvm with ch := chans, flash := flashOf [⟨[], true⟩, x] [], hdrCopy := 0 },
            upd := { up.upd with st := st, target := target, length := len } }

/-- A component of length 0. -/
def component (i : Nat) : List Nat := [i + 1, 0] ++ be 2 1 ++ be 4 (32 + 16 * 9) ++ be 4 0 ++ be 4 (crc32c [])

/-- A firmware image of nine components of length 0. -/
def image : List Nat :=
  be 4 0x535A4657 ++ be 2 1 ++ be 2 9 ++ be 4 (128 + 16 * 9) ++ be 4 0x100 ++ be 4 1 ++ be 4 0 ++ be 2 1 ++ be 2 1 ++ [3, 0x10] ++
  be 2 0 ++ (List.range 9).flatMap component ++ List.replicate 96 0

theorem wit_TransfersRun : GmpMay hdr sess0 7 12 (sending .idle 0 0 ⟨[], true⟩) ∧
    (updSlot (sending .idle 0 0 ⟨[], true⟩) < 2 ∧ 4000 ≤ regionLen (sending .idle 0 0 ⟨[], true⟩) (1 + updSlot (sending .idle 0 0 ⟨[], true⟩)) ∧
      chanUsed (sending .erasing 1 4000 ⟨[], true⟩) 0 = true) ∧
    (blockForm (sending .receiving 1 4000 ⟨[], false⟩) ⟨0, 2048, crc32c (List.replicate 2048 3), List.replicate 2048 3, true, true, true⟩ = true) ∧
    (kfind (updBlocks (sending .receiving 1 4000 ⟨[(0, [3])], false⟩)) 0 = some [3] ∧ kfind (updBlocks (sending .receiving 1 4000 ⟨[], false⟩)) 0 = none ∧
      updMissing (sending .receiving 1 4000 ⟨[], false⟩) = 0) ∧
    updMissing (sending .receiving 1 272 ⟨[(0, image)], false⟩) = 272 ∧
    (holdsToken (sending .verified 1 272 ⟨[(0, image)], false⟩) = true ∧ (sending .verified 1 272 ⟨[(0, image)], false⟩).safe.cLatch = true ∧
      hdrNow (sending .verified 1 272 ⟨[(0, image)], false⟩) = some header) :=
  ⟨may_of_mayB (by decide +kernel), by decide +kernel, by decide +kernel, by decide +kernel, by decide +kernel, by decide +kernel⟩

theorem wit_TransfersRun_verify : fwFail .szn2560 272 true ⟨[(0, image)], false⟩ = 0 ∧ fwFail .szn2560 272 false ⟨[(0, image)], false⟩ = 5 := by
  decide +kernel

/-- Slot 1 on trial since 5 s. -/
def onTrial : State :=
  { sending .idle 0 0 ⟨[], true⟩ with nvm := { (sending .idle 0 0 ⟨[], true⟩).nvm with fwSlot := 1 },
                                      upd := { up.upd with trial := true, trialFrom := some 5000000000 } }

theorem wit_TrialsAreConfirmedOrFallBack : GmpMay hdr sess0 7 12 onTrial ∧ GmpMay hdr sess0 7 12 (sending .idle 0 0 ⟨[], true⟩) ∧
    (sending .idle 0 0 ⟨[], true⟩).upd.trial = false ∧ onTrial.upd.trial = true ∧ chanUsed onTrial 0 = true ∧ hdrNow onTrial = some header ∧
    otherSlot onTrial.nvm.hdrCopy < onTrial.nvm.flash.hdr.length ∧ onTrial.upd.trialFrom = some 5000000000 :=
  ⟨may_of_mayB (by decide +kernel), may_of_mayB (by decide +kernel), by decide +kernel⟩

/-- A record of a primer image. -/
def primerRec (id : Nat) (b : List Nat) : List Nat :=
  let x := be 2 id ++ be 2 0 ++ be 4 b.length ++ b
  let y := x ++ List.replicate (roundUp 4 x.length - x.length) 0
  y ++ be 4 (crc32c y)

/-- A primer image of registers alone. -/
def primer (l : List (Nat × Nat)) : List Nat :=
  let b := primerRec 0x10 (be 4 l.length ++ l.flatMap fun e => be 4 e.1 ++ be 4 e.2)
  be 4 0x535A5052 ++ be 2 1 ++ be 2 0xFFFF ++ be 4 (32 + b.length) ++ be 2 1 ++ be 2 0 ++ List.replicate 16 0 ++ b

/-- What the boot finds: one channel, every check passing. -/
def found : BootIn := ⟨some ⟨64, true, true⟩, none, none, true, true, true, true, false, []⟩

/-- A primer image that gives VLANs 1 to 15 their VIDs. -/
def vlans : List Nat := primer ((List.range 15).map fun i => (Addr.LKP_VLAN + 4 * (i + 1), i + 2))

/-- A blank unit at its boot with a firmware image in slot 0 and that primer image. -/
def booting : State :=
  { State.reset with pcr := { State.reset.pcr with phase := .boot }, key := { State.reset.key with fuses := [0, 0, 0, 0] },
                     nvm := { State.reset.nvm with flash := flashOf [⟨[(0, image)], false⟩, ⟨[], true⟩] [(0, vlans)] } }

/-- The boot's header, and the slot it selects, are as a test asks. -/
def selected (b : BootIn) (p : State → Nat → Bool → Bool) : Bool :=
  (bootHeader (bootRoots (bootChannels b booting))).any fun u =>
    decide (lcState u ≠ 4) && p (bootSelect u).1 (bootSelect u).2.1 (bootSelect u).2.2

theorem wit_BootStartsOrHalts : booting.pcr.phase = .boot ∧ lcState booting ≠ 4 ∧ lcState { booting with key := { booting.key with fuses := [2, 2, 2, 2] } } = 4 ∧
    selected { found with sigA := false } (fun v i f => !slotGood { found with sigA := false } v i && !slotGood { found with sigA := false } v (otherSlot i) && !f) = true ∧
    selected { found with katA := false } (fun v i f => slotGood found v i && !slotInstalls { found with katA := false } v i && !f) = true := by decide +kernel

/-- The state in which the boot looks at the primer image, once it runs slot `i`. -/
def starting (v : State) (i : Nat) : State :=
  loadSystem 2 (bootKeys ((v.updNvm fun n => { n with fwSlot := i, fallback := false, run := fwId (fwSlot v i) }).updUpd
    fun y => { y with trial := ((hdrNow v).map (fun c => c.trialState == 2 && c.trial == i)).getD false }))

theorem wit_BootStarts : selected found (fun v i f => slotGood found v i && slotInstalls found v i && !f &&
    (primerCheck (regionLen (starting v i) 3) (starting v i).nvm.flash.primer false (starting v i)).1 == 0) = true := by decide +kernel

/-! The sweep, bays and engines. -/

/-- The sweep enabled. -/
def sweeping (spare : KMap Nat) : State :=
  put Addr.SNAG_CFG (forceW up (rkey Addr.SNAG_CFG) ||| 1#32) { up with snag := { up.snag with spare := spare } }

theorem wit_SweepTestsAndRepairs : cfgB (sweeping []) Addr.SNAG_CFG 0 = true ∧
    (snagItem (sweeping []).part 0 0x10 3 = true ∧ snagItem (sweeping []).part 1 1 0 = true ∧ snagItem (sweeping []).part 2 0x40 0 = true ∧
      snagItem (sweeping []).part 3 0x38 0 = true ∧ loopIdle (sweeping []) 0x38 = true) ∧
    (kfind (sweeping []).snag.spare 0x10 = none ∧ kfind (sweeping [(0x10, 4)]).snag.spare 0x10 ≠ none) ∧
    (snagItem (sweeping []).part 4 0 6144 = true ∧ (bank (sweeping []) 0).retired.contains 6144 = false ∧ idleTile (bank (sweeping []) 0) 6144 = true) := by
  decide +kernel

/-- A bay's restart under way. -/
def restarting (on : Bool) : State := { up with snag := { up.snag with restart := some ⟨5, 0, on⟩ } }

/-- An engine fenced. -/
def fenced (e : Nat) : State := { up with sched := { up.sched with eng := [(e, { Eng.zero with fenced := true })] } }

theorem wit_BaysRestartAndEnginesAreFenced : GmpMay hdr sess0 1 10 up ∧ GmpMay hdr sess0 1 10 (restarting true) ∧ GmpMay hdr sess0 1 10 (fenced 0x20) ∧
    (isBay up.part 5 = true ∧ bayMay up 5 true = true ∧ bayRoom up 5 = true ∧ up.snag.restart = none ∧ (restarting true).snag.restart ≠ none ∧
      isBay up.part 2 = true) ∧
    (isEngine up.part 0x20 = true ∧ (engOf up 0x20).fenced = false ∧ (engOf (fenced 0x20) 0x20).fenced = true) ∧
    (isEngine up.part 0x10 = true ∧ kindOf 0x10 = 1 ∧ (engOf up 0x10).fenced = false ∧
      fixFloor up.part ≤ (engineIds.filter (fun y => kindOf y == 1 && engEnabled up y && !(engOf up y).fenced && y != 0x10)).length) ∧
    ((restarting false).snag.restart = some ⟨5, 0, false⟩ ∧ ∀ b, b < 16 → (baySt (restarting true) b).asked = false) :=
  ⟨may_of_mayB (by decide +kernel), may_of_mayB (by decide +kernel), may_of_mayB (by decide +kernel), by decide +kernel, by decide +kernel,
   by decide +kernel, by decide +kernel⟩

/-! Reset, standby, and what holds of all commands. -/

/-- The unit in a run phase. -/
def phased (p : RunPhase) (wake : Bool) : State := { up with pcr := { up.pcr with phase := p, wakeLow := wake } }

/-- The unit without the global stop. -/
def noStop : State := { up with safe := { up.safe with cLatch := false } }

theorem wit_ResetSourcesAct : GmpMay hdr sess0 1 10 up ∧ GmpMay hdr sess0 1 10 noStop ∧ up.safe.cLatch = true ∧ noStop.safe.cLatch = false ∧
    up.pcr.resetAt = none ∧ up.pcr.phase = .up ∧ (phased .standby false).pcr.phase = .standby ∧ (phased .held false).pcr.phase = .held ∧ engUsable up 0 = true ∧
    up.safe.faults.testBit 4 = false ∧
    (engUsable { up with sched := { up.sched with eng := [(0, { Eng.zero with fenced := true }), (1, { Eng.zero with fenced := true })] } } 0 = false ∧
      engUsable { up with sched := { up.sched with eng := [(0, { Eng.zero with fenced := true }), (1, { Eng.zero with fenced := true })] } } 1 = false) :=
  ⟨may_of_mayB (by decide +kernel), may_of_mayB (by decide +kernel), by decide +kernel⟩

theorem wit_StandbyWakeAndTemperature : GmpMay hdr sess0 1 10 up ∧ GmpMay hdr sess0 1 10 (phased .up true) ∧ GmpMay hdr sess0 1 10 (restarting true) ∧
    GmpMay hdr sess0 1 10 noStop ∧ up.pcr.wakeLow = false ∧ up.snag.restart = none ∧
    (drained (phased .drain false) = true ∧ (phased .drain false).pcr.wakePend = false ∧
      drained { phased .drain false with upd := { up.upd with st := .erasing } } = false) ∧
    (cfg up Addr.PCR_THERM_CFG 7 0 ≤ 134 ∧ 0 < cfg up Addr.PCR_THERM_CFG 7 0) :=
  ⟨may_of_mayB (by decide +kernel), may_of_mayB (by decide +kernel), may_of_mayB (by decide +kernel), may_of_mayB (by decide +kernel), by decide +kernel⟩

theorem wit_FixEnginesStayWhilePermitsStand :
    GmpMay hdr sess0 1 10 { up with safe := { up.safe with cPermit := 1 } } ∧ GmpMay hdr sess0 1 10 up ∧ up.safe.cPermit = 0 ∧ up.pcr.resetAt = none ∧
      popc (fixCount up.part) (0x7F#32).toNat < 8 ∧ 8 ≤ popc (fixCount up.part) (0xFF#32).toNat :=
  ⟨may_of_mayB (by decide +kernel), may_of_mayB (by decide +kernel), by decide +kernel⟩

theorem wit_OnlyTheseCommandsGrant : waitingRelease.safe.permit.testBit 0 = false ∧
    after (exec (.release hdr false 1) waitingRelease) (fun t => t.safe.permit.testBit 0) = true := by decide +kernel

theorem wit_OnlyTheseCommandsChangeTheGeneration : fresh.jr.gen = 0 ∧ after (exec .journalStart fresh) (fun t => t.jr.gen == 1) = true := by
  decide +kernel

theorem wit_OnlyTheseCommandsChangeTheRole : standing.pair.role = .standby ∧
    after (exec .takeover standing) (fun t => decide (t.pair.role = .active)) = true := by decide +kernel

theorem wit_EveryCommandKeepsItsFrame : ∃ t, exec (.wake false) up = .next t := ⟨_, rfl⟩

theorem wit_CommandsOfCountZero : GmpReady hdr sess0 up ∧ hasRight up 0 0 = true :=
  ⟨(may_of_mayB (r := 0) (c := 21) (by decide +kernel)).toGmpReady, by decide +kernel⟩

theorem test_no_word_spells_a_command (n w : Nat) : decodeTableWord n w = none ∧ up.withFetchWord n w = up := ⟨rfl, rfl⟩

theorem wit_OutputBallsRest : (phased .held false).pcr.phase = .held ∧ (phased .standby false).pcr.phase = .standby ∧ up.pcr.phase = .up ∧
    up.pcr.domOn.testBit 1 = true ∧ pinLevel (.rhRst 0) up = some .low := by decide +kernel

/-! The spec's worked examples. -/

/-- Class 3 of the Screed worked example (05_track). -/
def geom3 : Geom := ⟨1000, 708, 1000, 1000, 500, 250, 0, 100, 240, 0, 0, 3, 500, 3000⟩

/-- The track of that example. -/
def track42 : TrackBody := ⟨0x42, 0, 1000001, 4, 0, 1000, 500, 1000, [⟨10500, 5500⟩, ⟨14500, 5500⟩]⟩

/-- Machine 0x0017 holds CX 14, CY 2 to 8 in slots 1,000,002 and 1,000,003. -/
def held17 : ScrCov :=
  (placeAll 1000000 ([1000002, 1000003].flatMap fun t => (List.range 7).map fun i => ⟨14, i + 2, t % 256, 0x16, 0⟩)
    (ScrCov.zero.setDesc 0x17 0 ⟨true, 1, 100000000, 5, 1000002, 1000003, 1000004, 0, 1000, 500, 500, []⟩) 0).1

theorem test_screed_example : (trackOutcome geom3 1000000 (100000065, 9) track42 held17).2.1 =
    ⟨stOk, 1, resIdOf 0x42 0 1, 1000003, 2, 48, 1000006, 1000002, 14, 4, 0x17, resIdOf 0x17 0 1⟩ := by decide +kernel

theorem test_profile_example : (mkPlan (fpInt 4000) 1000 500 1000).stop = 6500000 ∧
    firstTime (mkPlan (fpInt 4000) 1000 500 1000) (fpInt 500) / 1000 = 1656 := by decide +kernel

theorem test_morton_example : morton 32 48 = 0xE00 := by decide +kernel

theorem test_connector_length : ceilSqrt 925000000 = 30414 := by decide +kernel

/-- The feasible tasks and values of the allotment example (06_zones). -/
def values (i : Nat) : List (Nat × Int) :=
  if i = 0x21 then [(5, 17000), (9, 10000)] else if i = 0x22 then [(5, 12000), (9, 15000)] else [(5, 6793), (9, 4793)]

theorem test_auction_example :
    (bidLoop values 100 4096 100 ⟨[], [], [0x21, 0x22, 0x23], 0⟩).price = [(5, 7100), (9, 10200)] ∧
    (bidLoop values 100 4096 100 ⟨[], [], [0x21, 0x22, 0x23], 0⟩).holder = [(5, 0x21), (9, 0x22)] ∧
    (bidLoop values 100 4096 100 ⟨[], [], [0x21, 0x22, 0x23], 0⟩).steps = 2 := by decide +kernel

/-- The coefficients of regions 0 and 1 of the loop example (08_control_loops). -/
def coef0 : Coefs := ⟨0, fpFrac 1 2, fpFrac 4 10, 0, fpFrac 1 10, fpInt 1, 0, fpInt 2500, fpInt (-400), fpInt 400⟩

/-- Region 1's. -/
def coef1 : Coefs := ⟨fpInt 1000, fpFrac 1 4, fpFrac 2 10, 0, fpFrac 1 10, fpInt 1, 0, fpInt 2500, fpInt (-200), fpInt 200⟩

/-- Its integrator at the limit of region 0. -/
def stage0 : Stage := ⟨fpInt 400, 0, fpInt 960, some 0⟩

theorem test_loop_example :
    (runStage stage0 coef0 (fpInt 960) (fpInt 1200) (fpInt 1200) (fpFrac 50 1000) false 0 (fpInt 2500)).u = fpInt 1720 ∧
    (bumpless stage0 coef0 coef1 (fpInt 1060) (fpInt 1200) (fpInt 1200) (fpFrac 50 1000) false).i = fpInt 200 ∧
    (runStage (bumpless stage0 coef0 coef1 (fpInt 1060) (fpInt 1200) (fpInt 1200) (fpFrac 50 1000) false) coef1 (fpInt 1060) (fpInt 1200)
      (fpInt 1200) (fpFrac 50 1000) false 0 (fpInt 2500)).u = fpInt 1435 := by decide +kernel

theorem test_region_example : selectRegion 0 (fpInt 960) 2 (fun r => if r = 1 then fpInt 1000 else 0) (fpInt 50) false = 0 ∧
    selectRegion 0 (fpInt 1060) 2 (fun r => if r = 1 then fpInt 1000 else 0) (fpInt 50) false = 1 := by decide +kernel

/-- A staged write waits in superframe 50,000 at a time in nanoseconds (02_journal). -/
def staging (ns : Nat) : State :=
  setStaged (rkey Addr.SAFE_LEASE) 0x00030128#32
    { up with time := { up.time with ns := ns }, jr := { up.jr with sf := 50000, lastSf := 50000 } }

theorem test_commit_example : ((commitAsk ⟨0, 7⟩ (staging 1000010000000)).1.jr.commit.map (fun r => r.due)) = some 50001 ∧
    ((commitAsk ⟨0, 7⟩ (staging 1000019500000)).1.jr.commit.map (fun r => r.due)) = some 50002 := by decide +kernel

/-- The forced set of the backward example (14_station_time). -/
def backward : State :=
  { up with time := { up.time with ns := 1712000004000000000, set := some ⟨1712000002500000000, 1712000004000000000⟩ },
            jr := { up.jr with sf := 85600000199, lastSf := 85600000199 } }

theorem test_forced_set_example : after (exec .forceSetApply backward) (fun t =>
    t.time.ns == 1712000002500000000 && t.time.hold == some 85600000199 && t.time.set.isNone &&
    t.time.srcs.all (fun x => x.st == .absent || x.st == .disagree)) = true := by decide +kernel

/-- The recorder of the flood example (20_event_recorder) as one write runs. -/
def flooded : State :=
  (List.range 22).foldl (fun s _ => evTrig 0x13 [] s)
    { logged (fun e => { e with writing := some rec0, seq := 41, lost := 0 }) with part := .szn1280 }

theorem test_recorder_example : flooded.evr.queue.length = 16 ∧ flooded.evr.lost = 6 ∧ flooded.evr.seq = 57 := by decide +kernel

end Sys2Proof.Tests
end

/-!
The two facts about every command on which the statements of 00_scope rest: it answers a next state, and that state
follows the one before by work on the parts that `touchOf` names. Both are assembled from one fact per constructor.
-/

namespace Sys2Proof.Machine

open Sys2Proof

/-! Every command answers a next state (log entry 7). -/

/-- A test between two outcomes answers a next state where both do. -/
theorem ite_answers {p : Prop} [Decidable p] {a b : Host.Outcome State Fault Refusal} (ha : ∃ t, a = .next t)
    (hb : ∃ t, b = .next t) : ∃ t, (if p then a else b) = .next t := by
  split <;> assumption

/-- No command faults and none is refused. The commands are grouped by how their meaning branches: no test at all, one
test, two tests, and a match or a deeper nest, whose branches are taken apart down to their next states. -/
theorem exec_answers (c : Instr) (s : State) : ∃ t, exec c s = .next t := by
  cases c with
  | genCommit | discard | commitEntry | rtcm | clear | switch | roverReset | track | cancel | cancelAll | zone
    | zoneWrite | zoneDelete | zoneRead | task | withdraw | connector | estopInputEdge | stopAll | stopGroup
    | stopMachine | armAll | armGroup | confirm | release | disarm | safeLogic | safeClock | safeClockRestored
    | seqFault | loopTick | loopHold | holdStep | holdWithdraw | resume | clearI | coefWrite | planSwitch | upFrame
    | ackFrame | joinReq | joinAccAbandon | leave | pend | relay | silenceTimeout | wakeMiss | addrHoldExpiry
    | disassoc | freeAddr | budgetWindow | waitClr | hodReset | hodDrop | search | nextEntry | flushPort | staticAdd
    | staticDel | rule | ruleWrite | ruleDelete | ruleRead | forceSet | clearDis | trigArm | armAdvance | armRevokeA
    | lcConfirm | lcDisarm | root | keyPut | keyInvalidate | invalidate | evict | handover | sessionClose | read
    | write | writeSeq | registerWrite | commitMsg | subscribe | unsubscribe | logRead | updBegin | updBlock
    | updStatus | updVerify | updActivate | updConfirm | updAbort | updInfo | restartBay | snagFence | retest
    | aonPowerOn | resetN | clockLoss | coreFault | pcrReset | standby =>
    exact ⟨_, rfl⟩
  | refRtcm | refLost | refAbsentTimeout | fixAgeExpiry | resvRebuild | slotAdvance | allotmentRound
    | estopFilteredChange | withdrawalRequest | leaseExpiry | safeStore | setChannel | setPower | txLoad
    | startNibbleTimeout | rxstamp | rxIrq | slotCutoff | slotStart | noHeadTimeout | portRetry | resetHead | stripEnd
    | stripOverrun | hodPtrMismatch | ethFrame | tableRebuild | ppsEdge | holdLimitExpiry | triggerFire | hello
    | helloSend | renewSend | jrnl | jrnlAck | digest | copyReqRetry | copyBegin | copyResult | handoverFrame
    | takeAlone | updEraseDone | journalStart | coverMiss | safeSelfCheck | railGlitch | watchdog | resetRelease
    | standbyEntered | announceReceiptTimeout | ptpSendInterval =>
    exact ite_answers ⟨_, rfl⟩ ⟨_, rfl⟩
  | catchupEnd | txCancel | rxFlush | sourceAbsentTimeout | renew | retakeWaitExpiry | copyChunk | permitDynToggle =>
    exact ite_answers ⟨_, rfl⟩ (ite_answers ⟨_, rfl⟩ ⟨_, rfl⟩)
  | ageVisit | ethLinkChange | ptpSync =>
    exact ite_answers (ite_answers ⟨_, rfl⟩ ⟨_, rfl⟩) ⟨_, rfl⟩
  | sfMark | settingsWritten | rtcmUartMessage | fixRecord | scrInsert | conformanceCheck | award | discrepancy
    | loopEval | readId | status | rxRead | stampOnly | jobComplete | jobRetire | delayRelease | hodUnread
    | ptpMessage | forceSetApply | timeHoldEnd | fuseBlown | keyringWritten | keyLoad | keyOperationEnd | newChal
    | submit | pairAck | pathDownTimeout | fence | takeover | copyReq | copyEnd | copyTimeout | clientHello
    | idleTimeout | journalAck | logErase | logEraseDone | recordWritten | trialTimeout | boot | snagTest
    | bayDomainOn | bayRestartDone | railTrip | wake | tempRead | fragmentReassemblyTimeout =>
    dsimp only [exec, execSfMark, execSettingsWritten, execRtcmUartMessage, execFixRecord, execScrInsert,
      execConformanceCheck, execAward, execDiscrepancy, execLoopEval, execReadId, execStatus, execRxRead,
      execStampOnly, execJobComplete, execJobRetire, execDelayRelease, execHodUnread, execPtpMessage,
      execForceSetApply, execTimeHoldEnd, execFuseBlown, execKeyringWritten, execKeyLoad, execKeyOperationEnd,
      execNewChal, execSubmit, execPairAck, execPathDownTimeout, execFence, execTakeover, execCopyReq, execCopyEnd,
      execCopyTimeout, execClientHello, execIdleTimeout, execJournalAck, execLogErase, execLogEraseDone,
      execRecordWritten, execTrialTimeout, execBoot, execSnagTest, execBayDomainOn, execBayRestartDone,
      execRailTrip, execWake, execTempRead, execFragmentReassemblyTimeout]
    repeat' first
      | with_reducible exact ⟨_, rfl⟩
      | with_reducible refine ite_answers ?_ ?_
      | split

/-! Every command keeps to its parts. -/

/-- A command's next state follows by work on the parts that `touchOf` names: the law of its meaning, at those parts. -/
theorem exec_outFollows (c : Instr) (s : State) : OutFollows (touchOf c) s (exec c s) := by
  cases c with
  | sfMark => apply execSfMark_fol (hfol := .refl _ _) <;> rfl
  | genCommit => apply execGenCommit_fol (hfol := .refl _ _) <;> rfl
  | discard => apply execDiscard_fol (hfol := .refl _ _) <;> rfl
  | commitEntry => apply execCommitEntry_fol (hfol := .refl _ _) <;> rfl
  | catchupEnd => exact execCatchupEnd_fol rfl (.refl _ _)
  | settingsWritten => apply execSettingsWritten_fol (hfol := .refl _ _) <;> rfl
  | rtcmUartMessage => apply execRtcmUartMessage_fol (hfol := .refl _ _) <;> rfl
  | rtcm => apply execRtcm_fol (hfol := .refl _ _) <;> rfl
  | refRtcm => apply execRefRtcm_fol (hfol := .refl _ _) <;> rfl
  | refLost => apply execRefLost_fol (hfol := .refl _ _) <;> rfl
  | refAbsentTimeout => exact execRefAbsentTimeout_fol rfl (.refl _ _)
  | clear => apply execClear_fol (hfol := .refl _ _) <;> rfl
  | switch => apply execSwitch_fol (hfol := .refl _ _) <;> rfl
  | fixRecord => apply execFixRecord_fol (hfol := .refl _ _) <;> rfl
  | fixAgeExpiry => apply execFixAgeExpiry_fol (hfol := .refl _ _) <;> rfl
  | resvRebuild => apply execResvRebuild_fol (hfol := .refl _ _) <;> rfl
  | roverReset => apply execRoverReset_fol (hfol := .refl _ _) <;> rfl
  | track => apply execTrack_fol (hfol := .refl _ _) <;> rfl
  | scrInsert => apply execScrInsert_fol (hfol := .refl _ _) <;> rfl
  | cancel => apply execCancel_fol (hfol := .refl _ _) <;> rfl
  | cancelAll => apply execCancelAll_fol (hfol := .refl _ _) <;> rfl
  | slotAdvance => apply execSlotAdvance_fol (hfol := .refl _ _) <;> rfl
  | conformanceCheck => apply execConformanceCheck_fol (hfol := .refl _ _) <;> rfl
  | zone => apply execZone_fol (hfol := .refl _ _) <;> rfl
  | zoneWrite => apply execZoneWrite_fol (hfol := .refl _ _) <;> rfl
  | zoneDelete => apply execZoneDelete_fol (hfol := .refl _ _) <;> rfl
  | zoneRead => apply execZoneRead_fol (hfol := .refl _ _) <;> rfl
  | task => apply execTask_fol (hfol := .refl _ _) <;> rfl
  | withdraw => apply execWithdraw_fol (hfol := .refl _ _) <;> rfl
  | connector => apply execConnector_fol (hfol := .refl _ _) <;> rfl
  | allotmentRound => apply execAllotmentRound_fol (hfol := .refl _ _) <;> rfl
  | award => apply execAward_fol (hfol := .refl _ _) <;> rfl
  | estopInputEdge => apply execEstopInputEdge_fol (hfol := .refl _ _) <;> rfl
  | estopFilteredChange => apply execEstopFilteredChange_fol (hfol := .refl _ _) <;> rfl
  | discrepancy => apply execDiscrepancy_fol (hfol := .refl _ _) <;> rfl
  | stopAll => apply execStopAll_fol (hfol := .refl _ _) <;> rfl
  | stopGroup => apply execStopGroup_fol (hfol := .refl _ _) <;> rfl
  | stopMachine => apply execStopMachine_fol (hfol := .refl _ _) <;> rfl
  | armAll => apply execArmAll_fol (hfol := .refl _ _) <;> rfl
  | armGroup => apply execArmGroup_fol (hfol := .refl _ _) <;> rfl
  | confirm => apply execConfirm_fol (hfol := .refl _ _) <;> rfl
  | release => apply execRelease_fol (hfol := .refl _ _) <;> rfl
  | disarm => apply execDisarm_fol (hfol := .refl _ _) <;> rfl
  | withdrawalRequest => apply execWithdrawalRequest_fol (hfol := .refl _ _) <;> rfl
  | leaseExpiry => apply execLeaseExpiry_fol (hfol := .refl _ _) <;> rfl
  | safeLogic => apply execSafeLogic_fol (hfol := .refl _ _) <;> rfl
  | safeStore => apply execSafeStore_fol (hfol := .refl _ _) <;> rfl
  | safeClock => apply execSafeClock_fol (hfol := .refl _ _) <;> rfl
  | safeClockRestored => apply execSafeClockRestored_fol (hfol := .refl _ _) <;> rfl
  | seqFault => apply execSeqFault_fol (hfol := .refl _ _) <;> rfl
  | loopEval => apply execLoopEval_fol (hfol := .refl _ _) <;> rfl
  | loopTick => apply execLoopTick_fol (hfol := .refl _ _) <;> rfl
  | loopHold => apply execLoopHold_fol (hfol := .refl _ _) <;> rfl
  | holdStep => apply execHoldStep_fol (hfol := .refl _ _) <;> rfl
  | holdWithdraw => apply execHoldWithdraw_fol (hfol := .refl _ _) <;> rfl
  | resume => apply execResume_fol (hfol := .refl _ _) <;> rfl
  | clearI => apply execClearI_fol (hfol := .refl _ _) <;> rfl
  | coefWrite => apply execCoefWrite_fol (hfol := .refl _ _) <;> rfl
  | readId => apply execReadId_fol (hfol := .refl _ _) <;> rfl
  | status => apply execStatus_fol (hfol := .refl _ _) <;> rfl
  | setChannel => apply execSetChannel_fol (hfol := .refl _ _) <;> rfl
  | setPower => apply execSetPower_fol (hfol := .refl _ _) <;> rfl
  | txLoad => apply execTxLoad_fol (hfol := .refl _ _) <;> rfl
  | txCancel => apply execTxCancel_fol (hfol := .refl _ _) <;> rfl
  | rxRead => apply execRxRead_fol (hfol := .refl _ _) <;> rfl
  | rxFlush => apply execRxFlush_fol (hfol := .refl _ _) <;> rfl
  | startNibbleTimeout => apply execStartNibbleTimeout_fol (hfol := .refl _ _) <;> rfl
  | rxstamp => apply execRxstamp_fol (hfol := .refl _ _) <;> rfl
  | rxIrq => exact execRxIrq_fol rfl (.refl _ _)
  | stampOnly => apply execStampOnly_fol (hfol := .refl _ _) <;> rfl
  | slotCutoff => apply execSlotCutoff_fol (hfol := .refl _ _) <;> rfl
  | slotStart => apply execSlotStart_fol (hfol := .refl _ _) <;> rfl
  | planSwitch => apply execPlanSwitch_fol (hfol := .refl _ _) <;> rfl
  | noHeadTimeout => apply execNoHeadTimeout_fol (hfol := .refl _ _) <;> rfl
  | portRetry => apply execPortRetry_fol (hfol := .refl _ _) <;> rfl
  | resetHead => apply execResetHead_fol (hfol := .refl _ _) <;> rfl
  | upFrame => apply execUpFrame_fol (hfol := .refl _ _) <;> rfl
  | ackFrame => apply execAckFrame_fol (hfol := .refl _ _) <;> rfl
  | joinReq => apply execJoinReq_fol (hfol := .refl _ _) <;> rfl
  | joinAccAbandon => exact execJoinAccAbandon_fol rfl (.refl _ _)
  | leave => apply execLeave_fol (hfol := .refl _ _) <;> rfl
  | pend => apply execPend_fol (hfol := .refl _ _) <;> rfl
  | relay => apply execRelay_fol (hfol := .refl _ _) <;> rfl
  | silenceTimeout => apply execSilenceTimeout_fol (hfol := .refl _ _) <;> rfl
  | wakeMiss => apply execWakeMiss_fol (hfol := .refl _ _) <;> rfl
  | addrHoldExpiry => apply execAddrHoldExpiry_fol (hfol := .refl _ _) <;> rfl
  | disassoc => apply execDisassoc_fol (hfol := .refl _ _) <;> rfl
  | freeAddr => apply execFreeAddr_fol (hfol := .refl _ _) <;> rfl
  | jobComplete => apply execJobComplete_fol (hfol := .refl _ _) <;> rfl
  | jobRetire => apply execJobRetire_fol (hfol := .refl _ _) <;> rfl
  | delayRelease => apply execDelayRelease_fol (hfol := .refl _ _) <;> rfl
  | budgetWindow => apply execBudgetWindow_fol (hfol := .refl _ _) <;> rfl
  | waitClr => apply execWaitClr_fol (hfol := .refl _ _) <;> rfl
  | stripEnd => apply execStripEnd_fol (hfol := .refl _ _) <;> rfl
  | stripOverrun => apply execStripOverrun_fol (hfol := .refl _ _) <;> rfl
  | hodPtrMismatch => apply execHodPtrMismatch_fol (hfol := .refl _ _) <;> rfl
  | hodUnread => apply execHodUnread_fol (hfol := .refl _ _) <;> rfl
  | hodReset => apply execHodReset_fol (hfol := .refl _ _) <;> rfl
  | hodDrop => apply execHodDrop_fol (hfol := .refl _ _) <;> rfl
  | ethFrame => apply execEthFrame_fol (hfol := .refl _ _) <;> rfl
  | ageVisit => apply execAgeVisit_fol (hfol := .refl _ _) <;> rfl
  | tableRebuild => apply execTableRebuild_fol (hfol := .refl _ _) <;> rfl
  | ethLinkChange => apply execEthLinkChange_fol (hfol := .refl _ _) <;> rfl
  | search => apply execSearch_fol (hfol := .refl _ _) <;> rfl
  | nextEntry => apply execNextEntry_fol (hfol := .refl _ _) <;> rfl
  | flushPort => apply execFlushPort_fol (hfol := .refl _ _) <;> rfl
  | staticAdd => apply execStaticAdd_fol (hfol := .refl _ _) <;> rfl
  | staticDel => apply execStaticDel_fol (hfol := .refl _ _) <;> rfl
  | rule => apply execRule_fol (hfol := .refl _ _) <;> rfl
  | ruleWrite => apply execRuleWrite_fol (hfol := .refl _ _) <;> rfl
  | ruleDelete => apply execRuleDelete_fol (hfol := .refl _ _) <;> rfl
  | ruleRead => apply execRuleRead_fol (hfol := .refl _ _) <;> rfl
  | ppsEdge => exact execPpsEdge_fol rfl (.refl _ _)
  | ptpSync => apply execPtpSync_fol (hfol := .refl _ _) <;> rfl
  | ptpMessage => apply execPtpMessage_fol (hfol := .refl _ _) <;> rfl
  | sourceAbsentTimeout => apply execSourceAbsentTimeout_fol (hfol := .refl _ _) <;> rfl
  | holdLimitExpiry => apply execHoldLimitExpiry_fol (hfol := .refl _ _) <;> rfl
  | forceSet => apply execForceSet_fol (hfol := .refl _ _) <;> rfl
  | forceSetApply => apply execForceSetApply_fol (hfol := .refl _ _) <;> rfl
  | timeHoldEnd => apply execTimeHoldEnd_fol (hfol := .refl _ _) <;> rfl
  | clearDis => apply execClearDis_fol (hfol := .refl _ _) <;> rfl
  | trigArm => apply execTrigArm_fol (hfol := .refl _ _) <;> rfl
  | triggerFire => exact execTriggerFire_fol rfl (.refl _ _)
  | armAdvance => apply execArmAdvance_fol (hfol := .refl _ _) <;> rfl
  | armRevokeA => apply execArmRevokeA_fol (hfol := .refl _ _) <;> rfl
  | lcConfirm => apply execLcConfirm_fol (hfol := .refl _ _) <;> rfl
  | lcDisarm => apply execLcDisarm_fol (hfol := .refl _ _) <;> rfl
  | fuseBlown => apply execFuseBlown_fol (hfol := .refl _ _) <;> rfl
  | root => apply execRoot_fol (hfol := .refl _ _) <;> rfl
  | keyPut => apply execKeyPut_fol (hfol := .refl _ _) <;> rfl
  | keyringWritten => apply execKeyringWritten_fol (hfol := .refl _ _) <;> rfl
  | keyInvalidate => apply execKeyInvalidate_fol (hfol := .refl _ _) <;> rfl
  | invalidate => apply execInvalidate_fol (hfol := .refl _ _) <;> rfl
  | evict => apply execEvict_fol (hfol := .refl _ _) <;> rfl
  | keyLoad => apply execKeyLoad_fol (hfol := .refl _ _) <;> rfl
  | keyOperationEnd => exact execKeyOperationEnd_fol rfl (.refl _ _)
  | newChal => apply execNewChal_fol (hfol := .refl _ _) <;> rfl
  | submit => apply execSubmit_fol (hfol := .refl _ _) <;> rfl
  | hello => apply execHello_fol (hfol := .refl _ _) <;> rfl
  | helloSend => apply execHelloSend_fol (hfol := .refl _ _) <;> rfl
  | renewSend => apply execRenewSend_fol (hfol := .refl _ _) <;> rfl
  | renew => apply execRenew_fol (hfol := .refl _ _) <;> rfl
  | pairAck => apply execPairAck_fol (hfol := .refl _ _) <;> rfl
  | pathDownTimeout => apply execPathDownTimeout_fol (hfol := .refl _ _) <;> rfl
  | fence => apply execFence_fol (hfol := .refl _ _) <;> rfl
  | takeover => apply execTakeover_fol (hfol := .refl _ _) <;> rfl
  | retakeWaitExpiry => apply execRetakeWaitExpiry_fol (hfol := .refl _ _) <;> rfl
  | jrnl => apply execJrnl_fol (hfol := .refl _ _) <;> rfl
  | jrnlAck => apply execJrnlAck_fol (hfol := .refl _ _) <;> rfl
  | digest f d g v b => apply execDigest_fol (_gen := g) (_version := v) (_build := b) (hfol := .refl _ _) <;> rfl
  | copyReq => apply execCopyReq_fol (hfol := .refl _ _) <;> rfl
  | copyReqRetry => apply execCopyReqRetry_fol (hfol := .refl _ _) <;> rfl
  | copyBegin f e p g c n d => apply execCopyBegin_fol (_gen := g) (_digest := d) (hfol := .refl _ _) <;> rfl
  | copyChunk => apply execCopyChunk_fol (hfol := .refl _ _) <;> rfl
  | copyEnd => apply execCopyEnd_fol (hfol := .refl _ _) <;> rfl
  | copyResult => apply execCopyResult_fol (hfol := .refl _ _) <;> rfl
  | copyTimeout => apply execCopyTimeout_fol (hfol := .refl _ _) <;> rfl
  | handover => apply execHandover_fol (hfol := .refl _ _) <;> rfl
  | handoverFrame => apply execHandoverFrame_fol (hfol := .refl _ _) <;> rfl
  | takeAlone => apply execTakeAlone_fol (hfol := .refl _ _) <;> rfl
  | clientHello => apply execClientHello_fol (hfol := .refl _ _) <;> rfl
  | sessionClose => apply execSessionClose_fol (hfol := .refl _ _) <;> rfl
  | idleTimeout => apply execIdleTimeout_fol (hfol := .refl _ _) <;> rfl
  | read => apply execRead_fol (hfol := .refl _ _) <;> rfl
  | write => apply execWrite_fol (hfol := .refl _ _) <;> rfl
  | writeSeq => apply execWriteSeq_fol (hfol := .refl _ _) <;> rfl
  | registerWrite => apply execRegisterWrite_fol (hfol := .refl _ _) <;> rfl
  | commitMsg => apply execCommitMsg_fol (hfol := .refl _ _) <;> rfl
  | subscribe => apply execSubscribe_fol (hfol := .refl _ _) <;> rfl
  | unsubscribe => apply execUnsubscribe_fol (hfol := .refl _ _) <;> rfl
  | journalAck => apply execJournalAck_fol (hfol := .refl _ _) <;> rfl
  | logRead => apply execLogRead_fol (hfol := .refl _ _) <;> rfl
  | logErase => apply execLogErase_fol (hfol := .refl _ _) <;> rfl
  | logEraseDone => apply execLogEraseDone_fol (hfol := .refl _ _) <;> rfl
  | recordWritten => apply execRecordWritten_fol (hfol := .refl _ _) <;> rfl
  | updBegin => apply execUpdBegin_fol (hfol := .refl _ _) <;> rfl
  | updEraseDone => apply execUpdEraseDone_fol (hfol := .refl _ _) <;> rfl
  | updBlock => apply execUpdBlock_fol (hfol := .refl _ _) <;> rfl
  | updStatus => apply execUpdStatus_fol (hfol := .refl _ _) <;> rfl
  | updVerify => apply execUpdVerify_fol (hfol := .refl _ _) <;> rfl
  | updActivate => apply execUpdActivate_fol (hfol := .refl _ _) <;> rfl
  | updConfirm => apply execUpdConfirm_fol (hfol := .refl _ _) <;> rfl
  | updAbort => apply execUpdAbort_fol (hfol := .refl _ _) <;> rfl
  | updInfo => apply execUpdInfo_fol (hfol := .refl _ _) <;> rfl
  | trialTimeout => apply execTrialTimeout_fol (hfol := .refl _ _) <;> rfl
  | boot => apply execBoot_fol (hfol := .refl _ _) <;> rfl
  | journalStart => apply execJournalStart_fol (hfol := .refl _ _) <;> rfl
  | snagTest => apply execSnagTest_fol (hfol := .refl _ _) <;> rfl
  | coverMiss => apply execCoverMiss_fol (hfol := .refl _ _) <;> rfl
  | safeSelfCheck => apply execSafeSelfCheck_fol (hfol := .refl _ _) <;> rfl
  | restartBay => apply execRestartBay_fol (hfol := .refl _ _) <;> rfl
  | snagFence => apply execSnagFence_fol (hfol := .refl _ _) <;> rfl
  | retest => apply execRetest_fol (hfol := .refl _ _) <;> rfl
  | bayDomainOn => apply execBayDomainOn_fol (hfol := .refl _ _) <;> rfl
  | bayRestartDone => apply execBayRestartDone_fol (hfol := .refl _ _) <;> rfl
  | railTrip => apply execRailTrip_fol (hfol := .refl _ _) <;> rfl
  | railGlitch => exact execRailGlitch_fol rfl (.refl _ _)
  | aonPowerOn => apply execAonPowerOn_fol (hfol := .refl _ _) <;> rfl
  | resetN => apply execResetN_fol (hfol := .refl _ _) <;> rfl
  | clockLoss => apply execClockLoss_fol (hfol := .refl _ _) <;> rfl
  | coreFault => apply execCoreFault_fol (hfol := .refl _ _) <;> rfl
  | watchdog => apply execWatchdog_fol (hfol := .refl _ _) <;> rfl
  | resetRelease => apply execResetRelease_fol (hfol := .refl _ _) <;> rfl
  | pcrReset => apply execPcrReset_fol (hfol := .refl _ _) <;> rfl
  | standby => apply execStandby_fol (hfol := .refl _ _) <;> rfl
  | standbyEntered => apply execStandbyEntered_fol (hfol := .refl _ _) <;> rfl
  | wake => exact execWake_fol rfl (.refl _ _)
  | tempRead => apply execTempRead_fol (hfol := .refl _ _) <;> rfl
  | permitDynToggle => apply execPermitDynToggle_fol (hfol := .refl _ _) <;> rfl
  | fragmentReassemblyTimeout => apply execFragmentReassemblyTimeout_fol (hfol := .refl _ _) <;> rfl
  | announceReceiptTimeout => exact execAnnounceReceiptTimeout_fol rfl (.refl _ _)
  | ptpSendInterval => exact execPtpSendInterval_fol rfl (.refl _ _)

/-- The same of the state that the command answers. -/
theorem exec_follows {c : Instr} {s t : State} (h : exec c s = .next t) : Follows (touchOf c) s t := by
  have out := exec_outFollows c s
  rwa [h] at out

/-! The step. -/

/-- A step on an empty queue is one edge of the clock. -/
theorem step_of_pending_nil {s : State} (hp : s.pending = []) : step s = .next (tick s) := by
  rw [step, hp]

/-- A step on a queue that holds a command executes its front with the rest. -/
theorem step_of_pending_cons {s : State} {c : Instr} {rest : List Instr} (hp : s.pending = c :: rest) :
    step s = exec c (s.updPending fun _ => rest) := by
  rw [step, hp]

/-- An empty queue has no front to take off. -/
theorem updPending_tail_of_nil {s : State} (hp : s.pending = []) : s.updPending List.tail = s := by
  cases s
  cases hp
  rfl

/-- Where the queue's front is `c`, taking it off leaves the rest. -/
theorem updPending_tail_of_cons {s : State} {c : Instr} {rest : List Instr} (hp : s.pending = c :: rest) :
    s.updPending List.tail = s.updPending fun _ => rest := by
  rw [State.updPending, State.updPending, hp, List.tail_cons]

/-- Whatever runs, a command or an edge of the clock, the state after a step follows the state before it with the front
of the queue taken off. -/
theorem step_follows {s t : State} (h : step s = .next t) : ∃ k, Follows k (s.updPending List.tail) t := by
  cases hp : s.pending with
  | nil =>
    obtain rfl := Host.Outcome.next.inj ((step_of_pending_nil hp).symm.trans h)
    rw [updPending_tail_of_nil hp]
    exact ⟨{ time := true }, tick_fol rfl (.refl _ s)⟩
  | cons c rest =>
    rw [updPending_tail_of_cons hp]
    exact ⟨touchOf c, exec_follows ((step_of_pending_cons hp).symm.trans h)⟩

/-- Settles O3: one fact per constructor says that its meaning ends in a next state on every branch. -/
theorem everyCommandAnswersANextState : Obligations.EveryCommandAnswersANextState :=
  exec_answers

/-- Settles O5: what a step runs follows the state with the front of the queue taken off, and that state differs from
the one before in the queue alone. -/
theorem stepKeepsTheStore : Obligations.StepKeepsTheStore := by
  intro s t hcanon h
  obtain ⟨k, hfol⟩ := step_follows h
  exact ⟨hfol.canon hcanon, hfol.part, hfol.pending, hfol.out⟩

end Sys2Proof.Machine

/-!
The journal and determinism: what a request for a commit or a discard comes to, what the opening of a superframe leaves
to be read, and which commands may change the generation, the digest and the role (02_journal R43 to R62).
-/

namespace Sys2Proof.Machine

open Sys2Proof

/-! Requests for a commit (02_journal R54, R56). -/

/-- Journals with one spine agree on the generation and on the commit that is pending. -/
theorem JrnlS.spine_commit {j k : JrnlS} (h : j.spine = k.spine) : j.gen = k.gen ∧ j.commit = k.commit :=
  ⟨congrArg (f := fun q : JrnlS => q.gen) (a₁ := j.spine) (a₂ := k.spine) h,
   congrArg (f := fun q : JrnlS => q.commit) (a₁ := j.spine) (a₂ := k.spine) h⟩

section Entry

variable {h : GmpHdr} {x : Session} {b : GmpBody} {s u : State}

/-- The entry of a request leaves the generation. -/
theorem Entered.gen (e : Entered h x b s u) : u.jr.gen = s.jr.gen :=
  (JrnlS.spine_commit e.spine).1

/-- The entry of a request leaves the pending commit. -/
theorem Entered.commit (e : Entered h x b s u) : u.jr.commit = s.jr.commit :=
  (JrnlS.spine_commit e.spine).2

/-- The entry of a request leaves the superframe from which the request acts. -/
theorem Entered.dueSf (e : Entered h x b s u) : dueSf u = dueSf s := by
  have hsf : u.jr.sf = s.jr.sf := (JrnlS.spine_pos e.spine).1
  rw [Machine.dueSf, Machine.dueSf, e.fol.time rfl, hsf]

end Entry

/-- Where nothing is staged a commit ends at once (R56). -/
theorem commitAsk_empty {w : Waiter} {s : State} (hc : s.jr.commit = none) (hs : anyStaged s = false) :
    commitAsk w s = (s, some stEmpty) := by
  simp [commitAsk, hc, hs]

/-- Where something is staged a commit waits for its superframe (R54). -/
theorem commitAsk_waits {w : Waiter} {s : State} (hc : s.jr.commit = none) (hs : anyStaged s = true) :
    commitAsk w s = (s.updJr fun j => { j with commit := some ⟨dueSf s, [w]⟩ }, none) := by
  simp [commitAsk, hc, hs]

/-- A discard leaves every staged copy at its value in force (R58). -/
theorem discardOp_resets (s : State) : (discardOp s).regs.staged = [] ∧ (discardOp s).scr.staged = s.scr.cov.zones ∧
    (discardOp s).lkp.stagedRules = s.lkp.rules ∧ (discardOp s).lkp.stagedStatics = s.lkp.statics :=
  ⟨rfl, rfl, rfl, rfl⟩

/-- A write of TOP_GEN_CTRL by a sender with CONFIG does what the word says. -/
theorem genHandler_of_right {c : ReqCtx} {u : State} (v : Word) (hr : hasRight u c.ident 1 = true) :
    genHandler v c u = ((genCtrl c.waiter v u).1, (genCtrl c.waiter v u).2.map fun st => (st, indexBody 0xFFFF)) := by
  simp [genHandler, hr]

/-- A write of 1 to COMMIT asks for a commit. -/
theorem genCtrl_commit (w : Waiter) (s : State) : genCtrl w 1#32 s = commitAsk w s := rfl

/-- A write of 1 to DISCARD alone discards, and is OK. -/
theorem genCtrl_discard (w : Waiter) (s : State) : genCtrl w 2#32 s = (discardOp s, some stOk) := rfl

/-- The sender keeps its right through the entry of its request. -/
theorem GmpMay.right_entered {h : GmpHdr} {x : Session} {right cls : Nat} {b : GmpBody} {s u : State}
    (m : GmpMay h x right cls s) (e : Entered h x b s u) : hasRight u x.ident right = true := by
  rw [hasRight_words e.words (ident_key m.known).2, m.right]

/-- A handler asks for a commit: of a sender with CONFIG it does what `commitAsk` does, and answers what ends at once
with a body that may show the generation. -/
def AsksCommit (ident : Nat) (body : Nat → List Nat) (f : Handler) : Prop :=
  ∀ c u, c.ident = ident → hasRight u ident 1 = true →
    f c u = ((commitAsk c.waiter u).1, (commitAsk c.waiter u).2.map fun st => (st, body (commitAsk c.waiter u).1.jr.gen))

/-- A write of 1 to COMMIT asks for a commit (R54). -/
theorem genHandler_asks (ident : Nat) : AsksCommit ident (fun _ => indexBody 0xFFFF) (genHandler 1#32) := by
  rintro c u rfl hr
  rw [genHandler_of_right _ hr, genCtrl_commit]

/-- A COMMIT message asks for a commit (17_host R437). -/
theorem commitHandler_asks (ident : Nat) : AsksCommit ident (be 4) commitHandler :=
  fun _ _ _ _ => rfl

/-- A write of 1 to DISCARD by a sender with CONFIG discards, and is OK (R58). -/
theorem genHandler_discard {c : ReqCtx} {u : State} (hr : hasRight u c.ident 1 = true) :
    genHandler 2#32 c u = (discardOp u, some (stOk, indexBody 0xFFFF)) := by
  rw [genHandler_of_right _ hr, genCtrl_discard]
  rfl

section Requests

variable {h : GmpHdr} {x : Session} {s : State} {b : GmpBody} {ok : Nat → State → Bool} {f : Handler}
  {body : Nat → List Nat}

/-- The right CONFIG stands where only an entry has been written. -/
theorem GmpMay.right_words (m : GmpMay h x 1 10 s) {v : State} (w : Words entryWords s v) : hasRight v x.ident 1 = true := by
  rw [hasRight_words w (ident_key m.known).1, m.right]

/-- A request for a commit with something staged waits for its COMMIT entry. -/
theorem gmpRequest_commit_waits (m : GmpMay h x 1 10 s) (hok : ∀ v, Words entryWords s v → ok x.ident v = true)
    (hf : AsksCommit x.ident body f) (hc : s.jr.commit = none) (hs : anyStaged s = true) :
    (gmpRequest h b false true ok f s).jr.commit = some ⟨dueSf s, [⟨x.ident, h.reqId⟩]⟩ := by
  obtain ⟨u, e, hd⟩ := gmpRequest_done m.toGmpReady b (adm := true) hok fun _ => m.room
  rw [hd, hf _ u rfl (m.right_entered e), commitAsk_waits (e.commit.trans hc) ((anyStaged_entered e).trans hs), e.dueSf]
  rfl

/-- A request for a commit with nothing staged is answered with OK_EMPTY. -/
theorem gmpRequest_commit_empty (m : GmpMay h x 1 10 s) (hok : ∀ v, Words entryWords s v → ok x.ident v = true)
    (hf : AsksCommit x.ident body f) (hc : s.jr.commit = none) (hs : anyStaged s = false) :
    Answered h (bodyType b) stEmpty (body s.jr.gen) s (gmpRequest h b false true ok f s) ∧
      (gmpRequest h b false true ok f s).jr.commit = none := by
  obtain ⟨u, e, hd⟩ := gmpRequest_done m.toGmpReady b (adm := true) hok fun _ => m.room
  rw [hd, hf _ u rfl (m.right_entered e), commitAsk_empty (e.commit.trans hc) ((anyStaged_entered e).trans hs), ← e.gen]
  refine ⟨completeReq_answers e (.refl u) rfl (List.prefix_refl _) m.toGmpReady.token _ _, ?_⟩
  exact ((completeReq_only _ _ _ _).jr rfl ▸ e.commit).trans hc

/-- DISCARD is answered OK with every staged copy at its value in force. -/
theorem execDiscard_resets (m : GmpMay h x 1 10 s) :
    ∃ t, exec (.discard h) s = .next t ∧ Answered h 0x02 stOk (indexBody 0xFFFF) s t ∧ t.regs.staged = [] ∧
      t.scr.staged = s.scr.cov.zones ∧ t.lkp.stagedRules = s.lkp.rules ∧ t.lkp.stagedStatics = s.lkp.statics := by
  have hfol (u : State) : Follows { jr := true, regs := true, scr := true, lkp := true } u
      (genHandler 2#32 ⟨h.sess, x.ident, h.reqId, (s.jr.sf, s.jr.nextSeq), false⟩ u).1 :=
    genHandler_fol rfl rfl rfl rfl (.refl _ u)
  obtain ⟨u, e, hd⟩ := gmpRequest_answers m.toGmpReady (.write [(Addr.TOP_GEN_CTRL, 2#32)]) (adm := true)
    (ok := fun _ _ => true) (fun _ _ => rfl) (fun _ => m.room) rfl rfl hfol
  obtain ⟨answered, rest⟩ := hd (discardOp u) (stOk, indexBody 0xFFFF)
    (genHandler_discard (m.right_entered e))
  obtain ⟨regs, zones, rules, statics⟩ := discardOp_resets u
  refine ⟨_, rfl, answered, ?_⟩
  rw [rest.regs rfl, rest.scr rfl, rest.lkp rfl, regs, zones, rules, statics, e.fol.scr rfl, e.fol.lkp rfl]
  exact ⟨rfl, rfl, rfl, rfl⟩

end Requests

/-! The opening of a superframe (R43, R47). -/

/-- Station time carried forward to an instant stands at it, unless it has passed it. -/
theorem advTo_ns (n : Nat) (s : State) : (advTo n s).time.ns = max s.time.ns n := by
  unfold advTo
  split
  · exact (max_eq_right (Nat.le_of_lt ‹_›)).symm
  · exact (max_eq_left (Nat.le_of_not_lt ‹_›)).symm

/-- Station time carried forward is all that changes. -/
theorem advTo_only (n : Nat) (s : State) : Follows { time := true } s (advTo n s) :=
  advTo_fol rfl (.refl _ s)

/-- A unit on duty stays on duty while its journal and its pair stay. -/
theorem onDuty_congr {s t : State} (hj : t.jr = s.jr) (hp : t.pair = s.pair) : onDuty t = onDuty s := by
  rw [onDuty, onDuty, holdsToken, holdsToken, hj, hp]

/-- The parts that the work of a mark may change once the mark itself stands: neither station time nor the role, and no
further superframe opens. -/
def markWork : Touch := { Touch.all with time := false, gen := true, sess := true }

/-- `t` comes of `s` by the opening of superframe `sf`: its mark is the newest, a set forward has been answered, and the
rest of station time, the start of the journal and the role are those of `s`. -/
structure Opened (sf : Nat) (s t : State) : Prop where
  sf : t.jr.sf = sf
  started : t.jr.started = s.jr.started
  time : t.time = { s.time with jump := false }
  role : t.pair.role = s.pair.role

/-- The work of a mark leaves the superframe open. -/
theorem Opened.work {sf : Nat} {s t u : State} (o : Opened sf s t) (w : Follows markWork t u) : Opened sf s u where
  sf := (w.mark rfl).1.trans o.sf
  started := (w.mark rfl).2.trans o.started
  time := (w.time rfl).trans o.time
  role := (w.role rfl).trans o.role

/-- The opening of a superframe leaves the instant of station time. -/
theorem Opened.ns {sf : Nat} {s t : State} (o : Opened sf s t) : t.time.ns = s.time.ns := by
  rw [o.time]

/-- The opening of a superframe leaves the hold of station time. -/
theorem Opened.hold {sf : Nat} {s t : State} (o : Opened sf s t) : t.time.hold = s.time.hold := by
  rw [o.time]

/-- The actions of a mark, what follows it, and the rise of the ports are work of a mark. -/
theorem markApply_work (prev sf : Nat) (s : State) : Follows markWork s (markApply prev sf s) := by
  apply markApply_fol (hfol := .refl _ s) <;> rfl

theorem afterMark_work (s : State) : Follows markWork s (afterMark s) := by
  apply afterMark_fol (hfol := .refl _ s) <;> rfl

theorem portsRise_work (s : State) : Follows markWork s (portsRise s) :=
  portsRise_fol rfl (.refl _ s)

/-- A mark that is written opens its superframe. -/
theorem writeMark_opens (sf : Nat) (s : State) : Opened sf s (writeMark sf s) := by
  have written (v : State) : Follows markWork v (jWrite 0 (sfStart sf) .sfMark v) :=
    (jWrite_only 0 (sfStart sf) .sfMark v).mono rfl
  have placed : Opened sf s ((s.updJr fun j => { j with sf := sf, nextSeq := 0 }).updTime fun t => { t with jump := false }) :=
    ⟨rfl, rfl, rfl, rfl⟩
  unfold writeMark
  refine (Opened.work ?_ (markApply_work _ _ _))
  split
  · exact (placed.work (written _)).work (updUpd_fol rfl (.refl _ _))
  · exact placed.work (written _)

/-- The opening of a superframe by the sequencer. -/
theorem openSf_opens (sf : Nat) (s : State) : Opened sf s (openSf sf s) :=
  ((writeMark_opens sf s).work (portsRise_work _)).work (afterMark_work _)

/-- SF_MARK of a unit that writes the journal opens the next superframe. -/
theorem execSfMark_opens {s : State} (hd : onDuty s = true) (hh : s.time.hold = none) (hp : s.pair.handover = none) :
    exec .sfMark s = .next (openSf (nextMark s) (advTo (sfStart (nextMark s)) s)) := by
  show execSfMark s = _
  simp [execSfMark, hd, hh, hp]

/-- A hold passes SF_MARK over. -/
theorem execSfMark_held {s : State} (hd : onDuty s = true) (hh : s.time.hold ≠ none) : exec .sfMark s = .next s := by
  show execSfMark s = _
  simp [execSfMark, hd, Option.isSome_iff_ne_none.mpr hh]

/-- SF_MARK of a unit that writes no entries opens none. -/
theorem execSfMark_idle {s : State} (hd : onDuty s = false) :
    ∃ t, exec .sfMark s = .next t ∧ t.jr.sf = s.jr.sf ∧ t.jr.started = s.jr.started := by
  have hexec : exec .sfMark s = .next (digestSend (notifyFlush (portsRise (advTo (sfStart (sfOf (now s) + 1)) s)))) := by
    show execSfMark s = _
    simp [execSfMark, hd]
  have hfol : Follows { time := true, regs := true, gmp := true, pair := true, mac := true, sess := true } s
      (digestSend (notifyFlush (portsRise (advTo (sfStart (sfOf (now s) + 1)) s)))) :=
    digestSend_fol rfl (notifyFlush_fol rfl rfl rfl (portsRise_fol rfl (advTo_fol rfl (.refl _ s))))
  exact ⟨_, hexec, hfol.mark rfl⟩

/-- The state in which JOURNAL_START writes its first mark, that of `sf`, at whose start `s` stands (18_boot R466). -/
def journalBegun (sf : Nat) (s : State) : State :=
  let d := digestOf s
  let s2 := s.updJr fun j => { j with started := true, sf := sf - 1, gen := 1, digest := d, lastReq := sf }
  let s3 := s2.updMac fun m => { m with first := some sf }
  let s4 := s3.updSafe fun b => { b with cInput := b.input, cFaults := b.faults }
  let s5 := s4.updFix fun f => { f with rx0 := RefRx.zero, rx1 := RefRx.zero, primary := none, acq := [Acq.zero, Acq.zero] }
  s5.updPair fun p => { p with txFrom := sf + 1 }

theorem journalBegun_started (sf : Nat) (s : State) : (journalBegun sf s).jr.started = true := rfl

theorem journalBegun_time (sf : Nat) (s : State) : (journalBegun sf s).time = s.time := rfl

/-- JOURNAL_START writes the mark of the next superframe and its record, once the unit is up with a valid time, holds
the token and has no journal. -/
theorem execJournalStart_eq {s : State} (hu : unitUp s = true) (hv : s.time.valid = true) (ht : holdsToken s = true)
    (hs : s.jr.started = false) :
    ∃ l, exec .journalStart s = .next (afterMark (evTrig 0x01 l (portsRise
      (writeMark (sfOf (now s) + 1) (journalBegun (sfOf (now s) + 1) (advTo (sfStart (sfOf (now s) + 1)) s)))))) := by
  have hexec : exec .journalStart s = execJournalStart s := rfl
  rw [execJournalStart, if_pos (by simp [hu, hv, ht, hs])] at hexec
  exact ⟨_, hexec⟩

/-- JOURNAL_START opens the superframe whose mark it writes. -/
theorem journalMark_opens (sf : Nat) (l : List Nat) (s : State) :
    Opened sf s (afterMark (evTrig 0x01 l (portsRise (writeMark sf s)))) := by
  have recorded (v : State) : Follows markWork v (evTrig 0x01 l v) := evTrig_fol rfl rfl (.refl _ v)
  exact (((writeMark_opens sf s).work (portsRise_work _)).work (recorded _)).work (afterMark_work _)

/-- The state with its hold of station time ended (14_station_time R378). -/
def holdCleared (s : State) : State := s.updTime fun t => { t with hold := none }

theorem holdCleared_hold (s : State) : (holdCleared s).time.hold = none := rfl

theorem holdCleared_now (s : State) : now (holdCleared s) = s.time.ns := rfl

theorem holdCleared_duty (s : State) : onDuty (holdCleared s) = onDuty s := onDuty_congr rfl rfl

/-- TIME_HOLD_END of a unit that writes the journal opens the superframe in which the hold ends. -/
theorem execTimeHoldEnd_eq {s : State} {h : Nat} (hh : s.time.hold = some h) (hd : onDuty s = true) :
    exec .timeHoldEnd s = .next (openSf (sfOf (max s.time.ns (sfStart (h + 1)))) (holdCleared (advTo (sfStart (h + 1)) s))) := by
  have adv := advTo_only (sfStart (h + 1)) s
  have duty : onDuty (holdCleared (advTo (sfStart (h + 1)) s)) = true := by
    rw [holdCleared_duty, onDuty_congr (adv.jr rfl) (adv.pair rfl), hd]
  show execTimeHoldEnd s = _
  rw [← advTo_ns, ← holdCleared_now]
  unfold execTimeHoldEnd
  rw [hh]
  exact if_pos duty

/-! Which commands may change the generation, the digest and the role. -/

/-- A command that changes the generation or the digest is one whose work may change them. -/
theorem gen_allowed {c : Instr} {s t : State} (h : exec c s = .next t) (hne : t.jr.gen ≠ s.jr.gen ∨ t.jr.digest ≠ s.jr.digest) :
    (touchOf c).gen = true := by
  by_contra hg
  obtain ⟨gen, digest⟩ := (exec_follows h).gen (Bool.eq_false_iff.mpr hg)
  exact hne.elim (· gen) (· digest)

/-- A command that changes the role is one whose work may change it. -/
theorem role_allowed {c : Instr} {s t : State} (h : exec c s = .next t) (hne : t.pair.role ≠ s.pair.role) :
    (touchOf c).role = true := by
  by_contra hr
  exact hne ((exec_follows h).role (Bool.eq_false_iff.mpr hr))

/-- Settles O1: the queue's front is what a step executes. -/
theorem stepRunsFront : Obligations.StepRunsFront :=
  fun _ _ _ hp => step_of_pending_cons hp

/-- Settles O4: each command follows the state before it by work on the parts that `touchOf` names. -/
theorem everyCommandKeepsItsFrame : Obligations.EveryCommandKeepsItsFrame :=
  fun _ _ _ h => exec_follows h

/-- Settles O7: the entry of a request leaves what is staged, the pending commit and the superframe that is due, so the
handler decides as it would have before the entry. -/
theorem commitsAreRequestedAndDiscarded : Obligations.CommitsAreRequestedAndDiscarded := by
  refine ⟨fun h x s m hc => ⟨fun hs => ⟨⟨_, rfl, ?_⟩, ⟨_, rfl, ?_⟩⟩, fun hs => ⟨⟨_, rfl, ?_⟩, ⟨_, rfl, ?_⟩⟩⟩,
    fun _ _ _ m => execDiscard_resets m⟩
  · exact gmpRequest_commit_waits m (fun _ _ => rfl) (genHandler_asks _) hc hs
  · exact gmpRequest_commit_waits m (fun _ w => m.right_words w) (commitHandler_asks _) hc hs
  · exact gmpRequest_commit_empty m (fun _ _ => rfl) (genHandler_asks _) hc hs
  · exact gmpRequest_commit_empty m (fun _ w => m.right_words w) (commitHandler_asks _) hc hs

/-- Settles O9: the commands that may change the generation or the role are read off `touchOf`. -/
theorem onlyTheseCommandsChangeGenerationOrRole : Obligations.OnlyTheseCommandsChangeGenerationOrRole := by
  constructor
  · intro c s t h hne
    have allowed := gen_allowed h hne
    cases c with
    | sfMark | commitEntry | timeHoldEnd | journalStart | takeover | retakeWaitExpiry | jrnl | copyEnd | handoverFrame
      | fixRecord | stripOverrun | fuseBlown | hello | renew | write | writeSeq | registerWrite | updActivate
      | trialTimeout | boot | snagTest | railTrip | aonPowerOn | resetN | clockLoss | coreFault | watchdog | pcrReset
      | standbyEntered | tempRead => simp
    | _ => exact absurd allowed Bool.false_ne_true
  · intro c s t h hne
    have allowed := role_allowed h hne
    cases c with
    | sfMark | takeover | retakeWaitExpiry | fence | hello | renew | takeAlone | handoverFrame | jrnl | copyEnd | boot
      | write | writeSeq | registerWrite | pcrReset | fixRecord | stripOverrun | fuseBlown | updActivate | trialTimeout
      | snagTest | railTrip | aonPowerOn | resetN | clockLoss | coreFault | watchdog | standbyEntered | tempRead => simp
    | _ => exact absurd allowed Bool.false_ne_true

/-- Settles O10: each of the three commands comes to the opening of one superframe at the instant to which it carries
station time. -/
theorem superframesOpenAndTheJournalResumes : Obligations.SuperframesOpenAndTheJournalResumes := by
  refine ⟨fun s => ⟨fun hd hh hp => ?_, fun hd hh => execSfMark_held hd hh, fun hd => execSfMark_idle hd⟩,
    fun s => ⟨fun hu hv ht hs => ?_, fun h hh hd => ?_⟩⟩
  · have o := openSf_opens (nextMark s) (advTo (sfStart (nextMark s)) s)
    have adv := advTo_only (sfStart (nextMark s)) s
    have started : s.jr.started = true := (Bool.and_eq_true_iff.mp hd).1
    refine ⟨_, execSfMark_opens hd hh hp, o.sf, ?_, ?_, ?_⟩
    · rw [o.started, adv.jr rfl, started]
    · rw [o.ns, advTo_ns]
    · rw [o.role, adv.pair rfl]
  · obtain ⟨l, hexec⟩ := execJournalStart_eq hu hv ht hs
    have o := journalMark_opens (sfOf (now s) + 1) l (journalBegun (sfOf (now s) + 1)
      (advTo (sfStart (sfOf (now s) + 1)) s))
    exact ⟨_, hexec, o.started.trans (journalBegun_started _ _), o.sf, by rw [o.ns, journalBegun_time, advTo_ns]⟩
  · have o := openSf_opens (sfOf (max s.time.ns (sfStart (h + 1)))) (holdCleared (advTo (sfStart (h + 1)) s))
    exact ⟨_, execTimeHoldEnd_eq hh hd, o.hold.trans (holdCleared_hold _),
      by rw [o.ns, ← now, holdCleared_now, advTo_ns], o.sf⟩

end Sys2Proof.Machine

/-!
Reference receivers (03_fix_inputs R63 to R67, 14_station_time R369 to R371): a message that is journalled may be followed,
in the same step, by an entry that its own application makes. A complete epoch at a whole second of GPS time labels the
receiver's pulse, the measurement may change the selected time source, and a change of the selection writes a TIME_EVENT
entry behind that of the message.
-/

namespace Sys2Proof.Machine

open Sys2Proof

/-! A message on a receiver's own line. -/

/-- A frame that passes the checks of R65 on the line that SRC selects is offered to the sequencer. -/
theorem execRtcmUartMessage_offers {k : Nat} {m : RtcmMsg} {s : State} (hk : k < 2) (hsrc : rxSrc s k = 1)
    (hcrc : m.crcOk = true) (hlen : m.len ≤ 1023) :
    exec (.rtcmUartMessage k false m) s = .next (offerRtcm k m s).1 := by
  show execRtcmUartMessage k false m s = _
  simp [execRtcmUartMessage, Nat.not_le.mpr hk, hsrc, hcrc, hlen]

/-- The sequencer of a unit that writes entries journals what it is offered at the next position of the present
superframe, and the message is applied behind its entry (R67). -/
theorem offerRtcm_writes {k : Nat} {m : RtcmMsg} {s : State} (hw : canWrite s = true) (hh : s.time.hold = none) :
    offerRtcm k m s =
      (refApply k s.jr.sf s.jr.nextSeq (now s) m (jWrite (msgSid m.body) (now s) (.refRtcm k m) s), true) := by
  have hduty : onDuty s = true := (Bool.and_eq_true_iff.mp hw).1
  obtain ⟨hstarted, htoken⟩ := Bool.and_eq_true_iff.mp hduty
  obtain ⟨-, hsf, hseq⟩ := JrnlS.spine_pos (jWrite_spine (msgSid m.body) (now s) (.refRtcm k m) s)
  simp [offerRtcm, hstarted, htoken, hh, hsf, hseq]

/-! The counterexample to O28. -/

/-- Superframe 85,798,240,950 starts at GPS millisecond 1,400,000,000,000, a whole second (R71). -/
def secondSf : Nat := 85798240950

/-- Receiver 0 on its UART and a CANDIDATE, in the superframe of a whole second; its pulse at that second waits for a
label, and one more agreeing measurement qualifies its time source, while none is selected (14_station_time R370, R371). -/
def pulseWaits : State :=
  { State.reset with
    time := { TimeS.reset with
      ns := sfStart secondSf + 5000000, op := 9000000000, st := .hold, valid := true,
      srcs := [{ TimeSrc.reset with st := .candidate, count := 9, prevE := some 0, lastAt := some 8995000000, spaced := true,
                                    pulse := some (sfStart secondSf) }, TimeSrc.reset, TimeSrc.reset] },
    jr := { JrnlS.reset with started := true, sf := secondSf, lastSf := secondSf, lastSeq := 3, nextSeq := 4, gen := 1 },
    regs := { RegS.reset with force := [(rkey Addr.FIX_REF_CFG, 1#32)] },
    fix := { FixS.reset with rx0 := { RefRx.zero with st := .candidate, boundSf := secondSf, lastSf := secondSf } },
    pcr := { PcrS.reset with phase := .up } }

/-- The only GPS message of the epoch at that second: the millisecond 492,800,000 of its week (R71, R72). -/
def secondEpoch : RtcmMsg := ⟨.msm .gps false 0 492800000 0 false [], 20, true⟩

theorem pulseWaits_src : rxSrc pulseWaits 0 = 1 := by decide +kernel

theorem pulseWaits_writes : canWrite pulseWaits = true := by decide +kernel

theorem pulseWaits_noHold : pulseWaits.time.hold = none := rfl

/-- The message's entry takes position 4. Applied behind it, the message completes an epoch that qualifies and selects
source 0, and the TIME_EVENT entry of that change takes position 5. -/
theorem secondEpoch_lastSeq : (offerRtcm 0 secondEpoch pulseWaits).1.jr.lastSeq = 5 := by
  have applied : (refApply 0 pulseWaits.jr.sf pulseWaits.jr.nextSeq (now pulseWaits) secondEpoch
      (jWrite (msgSid secondEpoch.body) (now pulseWaits) (.refRtcm 0 secondEpoch) pulseWaits)).jr.lastSeq = 5 := by
    decide +kernel
  rw [offerRtcm_writes pulseWaits_writes pulseWaits_noHold, applied]

/-- Refutes O28: the clause on a frame that passes its CRC says that its entry, at position 4 of `pulseWaits`, is the
last one written. `secondEpoch` completes an epoch at a whole second, which labels the waiting pulse; the tenth agreeing
measurement qualifies time source 0, and the change of the selection writes a TIME_EVENT entry at position 5
(14_station_time R371) in the same step. -/
theorem not_referenceReceiversAreFollowed : ¬ Obligations.ReferenceReceiversAreFollowed := by
  rintro ⟨messages, -⟩
  obtain ⟨-, -, line, -⟩ := messages pulseWaits
  obtain ⟨-, -, journalled⟩ := line 0 secondEpoch (by decide) pulseWaits_src
  obtain ⟨t, hexec, -, hseq⟩ := journalled rfl (by decide) pulseWaits_writes pulseWaits_noHold
  rw [execRtcmUartMessage_offers (by decide) pulseWaits_src rfl (by decide)] at hexec
  obtain rfl := Host.Outcome.next.inj hexec
  rw [secondEpoch_lastSeq] at hseq
  exact absurd hseq (by decide)

end Sys2Proof.Machine

/-!
A register write of one word (17_host R437, R438): its operation decides on the state with the request's entry, and its
status is the answer. ENABLE of the Fix engines (04_fix_solution R122) is such a word.
-/

namespace Sys2Proof.Machine

open Sys2Proof

/-! One word through the request gate. -/

/-- No reset is due where none was accepted (22_power_clocks_reset R515). -/
theorem pcrFinish_idle {s : State} (hr : s.pcr.resetAt = none) : pcrFinish s = s := by
  simp [pcrFinish, hr]

/-- The WRITE handler on one word: the word's operation alone decides the state and the answer, an error or OK. -/
theorem writeHandler_word {dbg pass : Bool} {a : Nat} {v : Word} {c : ReqCtx} {u w : State} {st : Nat}
    (hop : wordOp c true dbg pass a v u = (w, some st)) (hst : isErr st = true ∨ st = stOk) :
    writeHandler dbg pass 64 true [(a, v)] c u = (w, some (st, indexBody (if isErr st then 0 else 0xFFFF))) := by
  rcases hst with he | rfl
  · simp [writeHandler, wordsOp, hop, he]
  · have ok : isErr stOk = false := rfl
    simp [writeHandler, wordsOp, hop, ok]

/-- A WRITE of one word that asks neither for a SAFE command nor for the token goes through the request gate. -/
theorem execRegisterWrite_eq {h : GmpHdr} {a : Nat} {v : Word} {s : State} (hsafe : a ≠ Addr.SAFE_CMD)
    (hpair : a ≠ Addr.PAIR_CTRL) :
    exec (.registerWrite h a v) s = .next (pcrFinish (gmpRequest h (.write [(a, v)]) false true (fun _ _ => true)
      (writeHandler false false 64 true [(a, v)]) s)) := by
  have hjob : writeJob [(a, v)] = true := by simp [writeJob, hsafe]
  show Host.Outcome.next (writeMsg h [(a, v)] false false s) = _
  simp [writeMsg, takeAloneWord, hpair, hjob]

/-- A word that has an operation of its own is written by it: on the state with the request's entry the operation `f`
decides, its status is the answer, and nothing else changes after it. -/
theorem execRegisterWrite_answers {h : GmpHdr} {x : Session} {s : State} (m : GmpMay h x 1 10 s)
    (hidle : s.pcr.resetAt = none) {a : Nat} {v : Word} (hsafe : a ≠ Addr.SAFE_CMD) (hpair : a ≠ Addr.PAIR_CTRL)
    {f : State → State × Nat} {k : Touch} (hsess : k.sess = false) (hrole : k.role = false) (hpcr : k.pcr = false)
    (hf : ∀ u, Follows k u (f u).1) (hst : ∀ u, isErr (f u).2 = true ∨ (f u).2 = stOk)
    (hop : ∀ c u, hasRight u c.ident 1 = true → c.replay = false →
      wordOp c true false false a v u = ((f u).1, some (f u).2)) :
    ∃ u t, Entered h x (.write [(a, v)]) s u ∧ exec (.registerWrite h a v) s = .next t ∧
      Answered h 0x02 (f u).2 (indexBody (if isErr (f u).2 then 0 else 0xFFFF)) s t ∧
      Follows { gmp := true, sess := true } (f u).1 t := by
  obtain ⟨u, e, hd⟩ := gmpRequest_done m.toGmpReady (.write [(a, v)]) (adm := true) (ok := fun _ _ => true)
    (fun _ _ => rfl) (fun _ => m.room)
  have work := hf u
  have written := writeHandler_word
    (hop ⟨h.sess, x.ident, h.reqId, (s.jr.sf, s.jr.nextSeq), false⟩ u (m.right_entered e) rfl) (hst u)
  have done := completeReq_only ⟨x.ident, h.reqId⟩ (f u).2 (indexBody (if isErr (f u).2 then 0 else 0xFFFF)) (f u).1
  have idle := pcrFinish_idle (s := completeReq ⟨x.ident, h.reqId⟩ (f u).2
    (indexBody (if isErr (f u).2 then 0 else 0xFFFF)) (f u).1)
    (by rw [done.pcr rfl, work.pcr hpcr, e.fol.pcr rfl, hidle])
  refine ⟨u, _, e, ?_, completeReq_answers e (work.like hsess) (work.role hrole) work.out m.toGmpReady.token _ _, done⟩
  rw [execRegisterWrite_eq hsafe hpair, hd, written]
  exact congrArg _ idle

/-! ENABLE of the Fix engines (04_fix_solution R122). -/

/-- While a machine holds a permit, an ENABLE that leaves too few engines is refused. -/
theorem fixEngWord_refused {v : Word} {s : State} (hpermit : s.safe.cPermit ≠ 0)
    (hfew : popc (fixCount s.part) v.toNat < if s.part = .szn2560 then 8 else 4) : fixEngWord v s = (s, stState) := by
  cases hp : s.part with
  | szn2560 => simp_all [fixEngWord]
  | szn1280 => simp_all [fixEngWord]

/-- The engines that a written ENABLE names: those that the part has. -/
def engWord (p : Part) (v : Word) : Word := if p = .szn2560 then v else v &&& 0x3F#32

/-- Every other ENABLE is stored. -/
theorem fixEngWord_stored {v : Word} {s : State}
    (hmay : s.safe.cPermit = 0 ∨ (if s.part = .szn2560 then 8 else 4) ≤ popc (fixCount s.part) v.toNat) :
    fixEngWord v s = storeWord Addr.FIX_ENG_CTRL (engWord s.part v) s := by
  cases hp : s.part with
  | szn2560 => rcases hmay with h | h <;> simp_all [fixEngWord, engWord]
  | szn1280 => rcases hmay with h | h <;> simp_all [fixEngWord, engWord]

/-- FIX_ENG_CTRL holds one field, ENABLE, whose writes act at once (R122). -/
theorem findReg_fixEngCtrl : findReg Addr.FIX_ENG_CTRL =
    some ⟨Addr.FIX_ENG_CTRL, [], none, [⟨11, 0, .now, true, 4095, 0, 4095⟩], 0, 0, 0⟩ := by
  decide +kernel

/-- Both parts have FIX_ENG_CTRL. -/
theorem absentReg_fixEngCtrl (p : Part) : absentReg p Addr.FIX_ENG_CTRL = false := by
  cases p <;> decide +kernel

/-- Any word is in the range of ENABLE, and what is stored is the word with its other bits kept. -/
theorem storeWord_fixEngCtrl (w : Word) (s : State) : storeWord Addr.FIX_ENG_CTRL w s =
    (setForce (rkey Addr.FIX_ENG_CTRL) (blend 4095 (forceW s (rkey Addr.FIX_ENG_CTRL)) w) s, stOk) := by
  have range : fld w 11 0 ≤ 4095 := Nat.le_of_lt_succ (Nat.mod_lt _ (by decide))
  simp [storeWord, findReg_fixEngCtrl, absentReg_fixEngCtrl, RegD.inRange, range, accessKey, clearW1c, RegD.tagMask, maskOf]

/-- The low twelve bits of a word that takes them from another. -/
theorem fld_blend_low (w v : Word) : fld (blend 4095 w v) 11 0 = fld v 11 0 := by
  have high (n : Nat) : (n &&& 4294963200) % 2 ^ 12 = 0 := by
    rw [Nat.and_mod_two_pow]
    exact Nat.and_zero _
  have low (n : Nat) : n &&& 4095 = n % 2 ^ 12 := Nat.and_two_pow_sub_one_eq_mod n 12
  have own : (w.toNat &&& 4294963200 ||| v.toNat &&& 4095) % 2 ^ 12 = v.toNat % 2 ^ 12 := by
    rw [Nat.or_mod_two_pow, high, low, Nat.zero_or, Nat.mod_mod]
  simpa [fld, bitsOf, blend] using own

/-- SZN1280-FB1225-E has six engines. -/
theorem fld_engWord (p : Part) (v : Word) : fld (engWord p v) 11 0 = if p = .szn2560 then fld v 11 0 else fld v 5 0 := by
  cases p with
  | szn2560 => rfl
  | szn1280 =>
    have mask : v.toNat &&& 63 = v.toNat % 64 := Nat.and_two_pow_sub_one_eq_mod v.toNat 6
    simp [engWord, fld, bitsOf, mask]
    omega

/-- The ENABLE in force after a write of FIX_ENG_CTRL that is stored. -/
theorem cfg_storeWord_fixEngCtrl (w : Word) (s : State) :
    cfg (storeWord Addr.FIX_ENG_CTRL w s).1 Addr.FIX_ENG_CTRL 11 0 = fld w 11 0 := by
  rw [storeWord_fixEngCtrl, cfg, forceW_setForce, if_pos rfl, fld_blend_low]

/-- A write of FIX_ENG_CTRL by a sender with CONFIG does what `fixEngWord` says. -/
theorem wordOp_fixEngCtrl {c : ReqCtx} {v : Word} {u : State} (hr : hasRight u c.ident 1 = true) (hn : c.replay = false) :
    wordOp c true false false Addr.FIX_ENG_CTRL v u = ((fixEngWord v u).1, some (fixEngWord v u).2) := by
  have form : ¬ (Addr.FIX_ENG_CTRL % 4 ≠ 0 ∨ (findReg Addr.FIX_ENG_CTRL).isNone ∨
      (mustBeAlone Addr.FIX_ENG_CTRL ∧ !true)) := by
    rw [findReg_fixEngCtrl]
    decide
  have right : wordRight Addr.FIX_ENG_CTRL v = 1 := rfl
  have own : ctrlWord false false false Addr.FIX_ENG_CTRL v u = fixEngWord v u := by
    simp only [ctrlWord, absentReg_fixEngCtrl]
    rfl
  rw [wordOp, if_neg form, right, hr, hn, own]
  rfl

/-- The status of a write of FIX_ENG_CTRL is ERR_STATE or OK. -/
theorem fixEngWord_status (v : Word) (s : State) : isErr (fixEngWord v s).2 = true ∨ (fixEngWord v s).2 = stOk := by
  by_cases hmay : s.safe.cPermit = 0 ∨ (if s.part = .szn2560 then 8 else 4) ≤ popc (fixCount s.part) v.toNat
  · exact .inr (by rw [fixEngWord_stored hmay, storeWord_fixEngCtrl])
  · obtain ⟨hpermit, hfew⟩ := not_or.mp hmay
    exact .inl (by rw [fixEngWord_refused hpermit (Nat.lt_of_not_le hfew)]; rfl)

/-- REGISTER_WRITE of FIX_ENG_CTRL is answered with the status of `fixEngWord` on the state with the request's entry, in
which the part, the permits and the word in force are those before it. -/
theorem execRegisterWrite_fixEngCtrl {h : GmpHdr} {x : Session} {s : State} (m : GmpMay h x 1 10 s)
    (hidle : s.pcr.resetAt = none) (v : Word) :
    ∃ u t, u.part = s.part ∧ u.safe = s.safe ∧
      forceW u (rkey Addr.FIX_ENG_CTRL) = forceW s (rkey Addr.FIX_ENG_CTRL) ∧
      exec (.registerWrite h Addr.FIX_ENG_CTRL v) s = .next t ∧
      Answered h 0x02 (fixEngWord v u).2 (indexBody (if isErr (fixEngWord v u).2 then 0 else 0xFFFF)) s t ∧
      ∀ k, forceW t k = forceW (fixEngWord v u).1 k := by
  obtain ⟨u, t, e, hexec, answered, rest⟩ := execRegisterWrite_answers m hidle (v := v) (by decide) (by decide)
    (k := { regs := true, stage := true }) rfl rfl rfl (fun u => fixEngWord_fol rfl rfl (.refl _ u)) (fixEngWord_status v)
    (fun c u hr hn => wordOp_fixEngCtrl hr hn)
  refine ⟨u, t, e.fol.part, e.fol.safe rfl, e.words.words _ (by decide), hexec, answered, fun k => ?_⟩
  rw [forceW, forceW, rest.regs rfl, rest.part]

/-- Settles O58: the request's entry leaves the part, the permits and the word in force, so `fixEngWord` decides as it
would have before the entry. -/
theorem fixEnginesStayWhilePermitsStand : Obligations.FixEnginesStayWhilePermitsStand := by
  intro h x s v m hidle
  obtain ⟨u, t, hpart, hsafe, hword, hexec, answered, rest⟩ := execRegisterWrite_fixEngCtrl m hidle v
  refine ⟨fun hpermit hfew => ⟨t, hexec, ?_⟩, fun hmay => ⟨t, hexec, ?_⟩⟩
  · have refused : fixEngWord v u = (u, stState) := fixEngWord_refused (hsafe ▸ hpermit) (hpart ▸ hfew)
    rw [refused] at answered rest
    exact ⟨answered, (rest _).trans hword⟩
  · have stored : fixEngWord v u = storeWord Addr.FIX_ENG_CTRL (engWord s.part v) u := by
      rw [← hpart]
      exact fixEngWord_stored (by rwa [hsafe, hpart])
    rw [stored] at answered rest
    refine ⟨by rwa [storeWord_fixEngCtrl] at answered, ?_⟩
    rw [cfg, rest, ← cfg, cfg_storeWord_fixEngCtrl, fld_engWord]

end Sys2Proof.Machine

/-!
Records of the rovers and their checks (04_fix_solution R97, R110, R111, R115; 05_track_reservation R153, R154): what a
withdrawal leaves of a machine, what a failed gate and a failed check come to, how a Fix job files its record, and the
return of a rover to INIT.
-/

namespace Sys2Proof.Machine

open Sys2Proof

/-! Withdrawals (07_motion_safety R34, R189). -/

/-- Work that grants nothing leaves a clear permit bit clear. -/
theorem Follows.permit_clear {k : Touch} {s t : State} (w : Follows k s t) (hg : k.grant = false) {i : Nat}
    (hs : s.safe.permit.testBit i = false) : t.safe.permit.testBit i = false :=
  Bool.eq_false_iff.mpr fun ht => Bool.eq_false_iff.mp hs (w.permit hg i ht)

/-- What the SAFE bay keeps of a machine is read from the SAFE part alone. -/
theorem safeMach_congr {s t : State} (hs : t.safe.mach = s.safe.mach) (m : Nat) : safeMach t m = safeMach s m := by
  rw [safeMach, safeMach, hs]

/-- A machine's record after it is changed. -/
theorem safeMach_modMach (m : Nat) (f : SafeMach → SafeMach) (s : State) :
    safeMach (modMach m f s) m = f (safeMach s m) :=
  kget_kmod.trans (if_pos rfl)

/-- A notice leaves the SAFE bay. -/
theorem noticeMach_safe (m ev cause : Nat) (s : State) : (noticeMach m ev cause s).safe = s.safe :=
  (noticeMach_fol (kc := { regs := true, gmp := true }) rfl rfl (.refl _ s)).safe rfl

/-- The recorder leaves the SAFE bay. -/
theorem evTrig_safe (i : Nat) (l : List Nat) (s : State) : (evTrig i l s).safe = s.safe :=
  (evTrig_fol (kc := { regs := true, evr := true }) rfl rfl (.refl _ s)).safe rfl

/-- A stop request leaves what the SAFE bay keeps of the machines. -/
theorem stopHome_safe (m : Nat) (s : State) :
    (stopHome m s).safe.mach = s.safe.mach ∧ (stopHome m s).safe.permit = s.safe.permit := by
  unfold stopHome
  split <;> exact ⟨rfl, rfl⟩

/-- The clearing of a live permit bit leaves it clear, and a machine's record as it was but for the cause. -/
theorem liveClear_clears (m cause : Nat) (s : State) :
    (liveClear m cause s).safe.permit.testBit (machineBit m) = false ∧
      safeMach (liveClear m cause s) m = { safeMach s m with lastCause := cause } := by
  constructor
  · have cleared : (setBitN s.safe.permit (machineBit m) false).testBit (machineBit m) = false :=
      testBit_setBitN.trans (if_pos rfl)
    rw [liveClear, noticeMach_safe]
    exact cleared
  · rw [liveClear, safeMach_congr (congrArg _ (noticeMach_safe _ _ _ _)), safeMach_modMach]
    rfl

/-- Where a live permit bit is set, a withdrawal clears it; what follows leaves the machines and the map. -/
theorem liveWithdraw_of_set {m : Nat} {s : State} (hset : s.safe.permit.testBit (machineBit m) = true) (cause : Nat) :
    (liveWithdraw m cause s).safe.mach = (liveClear m cause s).safe.mach ∧
      (liveWithdraw m cause s).safe.permit = (liveClear m cause s).safe.permit := by
  rw [liveWithdraw, if_pos hset]
  have home := stopHome_safe m (bump Addr.SAFE_CNT_WITHDRAW (liveClear m cause s))
  dsimp only
  generalize hu : (if cause = 13 then _ else _ : State) = u
  have counted : u.safe = (stopHome m (bump Addr.SAFE_CNT_WITHDRAW (liveClear m cause s))).safe := by
    rw [← hu]
    split <;> rfl
  rw [← counted] at home
  split
  · exact home
  · rwa [evTrig_safe]

/-- After a withdrawal in the SAFE bay the live bit is clear, and the machine's record is as it was but for the cause. -/
theorem liveWithdraw_clears (m cause : Nat) (s : State) :
    (liveWithdraw m cause s).safe.permit.testBit (machineBit m) = false ∧
      ∃ c, safeMach (liveWithdraw m cause s) m = { safeMach s m with lastCause := c } := by
  by_cases hset : s.safe.permit.testBit (machineBit m) = true
  · obtain ⟨mach, permit⟩ := liveWithdraw_of_set hset cause
    obtain ⟨clear, record⟩ := liveClear_clears m cause s
    exact ⟨permit ▸ clear, cause, (safeMach_congr mach m).trans record⟩
  · rw [liveWithdraw, if_neg hset]
    exact ⟨Bool.eq_false_iff.mpr hset, _, rfl⟩

/-- A withdrawal at a position leaves the live map and the records, and the covered bit clear. -/
theorem covWithdraw_clears (pos : Nat × Nat) (m : Nat) (s : State) :
    (covWithdraw pos m s).safe.permit = s.safe.permit ∧ (covWithdraw pos m s).safe.mach = s.safe.mach ∧
      (covWithdraw pos m s).safe.cPermit.testBit (machineBit m) = false := by
  unfold covWithdraw
  split
  · have clear : (setBitN s.safe.cPermit (machineBit m) false).testBit (machineBit m) = false :=
      testBit_setBitN.trans (if_pos rfl)
    unfold raiseEpoch
    split <;> exact ⟨rfl, rfl, clear⟩
  · exact ⟨rfl, rfl, Bool.eq_false_iff.mpr ‹_›⟩

/-- Machine `m` has no permit in `t`, live or covered, and what the SAFE bay keeps of it is as in `s` but for the cause. -/
structure Withdrawn (m : Nat) (s t : State) : Prop where
  live : t.safe.permit.testBit (machineBit m) = false
  covered : t.safe.cPermit.testBit (machineBit m) = false
  record : ∃ c, safeMach t m = { safeMach s m with lastCause := c }

/-- The results of R110 and R153 stand through a withdrawal. -/
theorem Withdrawn.results {m : Nat} {s t : State} (w : Withdrawn m s t) :
    (safeMach t m).gate = (safeMach s m).gate ∧ (safeMach t m).conf = (safeMach s m).conf := by
  obtain ⟨c, hc⟩ := w.record
  rw [hc]
  exact ⟨rfl, rfl⟩

/-- Work that leaves the SAFE bay leaves a withdrawal. -/
theorem Withdrawn.of_safe {m : Nat} {s t u : State} (w : Withdrawn m s t) (hs : u.safe = t.safe) : Withdrawn m s u where
  live := hs ▸ w.live
  covered := hs ▸ w.covered
  record := safeMach_congr (congrArg _ hs) m ▸ w.record

/-- A withdrawal of a machine takes its permit (R34, R189). -/
theorem withdraw_withdraws (pos : Nat × Nat) (m cause : Nat) (s : State) : Withdrawn m s (withdraw pos m cause s) := by
  obtain ⟨clear, record⟩ := liveWithdraw_clears m cause s
  obtain ⟨permit, mach, covered⟩ := covWithdraw_clears pos m (liveWithdraw m cause s)
  exact ⟨by rw [withdraw, permit, clear], covered, by rwa [withdraw, safeMach_congr mach]⟩

/-! The gate (04_fix_solution R110, R111). -/

/-- A gate that fails takes the machine's permit. -/
theorem gateFail_fails (pos : Nat × Nat) (m cause : Nat) (s : State) :
    (safeMach (gateFail pos m cause s) m).gate = false ∧
      (gateFail pos m cause s).safe.permit.testBit (machineBit m) = false ∧
      (gateFail pos m cause s).safe.cPermit.testBit (machineBit m) = false := by
  have w := withdraw_withdraws pos m cause (modMach m (fun x => { x with gate := false }) s)
  exact ⟨by rw [gateFail, w.results.1, safeMach_modMach], w.live, w.covered⟩

/-- FIX_AGE_EXPIRY of an associated machine whose count is beyond AGE_MAX fails its gate (R111). -/
theorem execFixAgeExpiry_eq {m : Nat} {s : State} (hm : isMachine s.part m = true) (ha : isAssoc s m = true)
    (hage : ageOk s m = false) : exec (.fixAgeExpiry m) s = .next (gateFail (s.jr.sf, 0) m 9 s) := by
  show execFixAgeExpiry m s = _
  simp [execFixAgeExpiry, ageCheck, hm, ha, hage]

/-! Conformance checks (05_track_reservation R153, R154). -/

/-- The check that is taken is one of the machine's own. -/
theorem confTake_source {m : Nat} {l rest : List ConfJob} {j : ConfJob} (h : confTake m l = some (j, rest)) :
    j.record.source = m := by
  induction l generalizing rest with
  | nil => simp [confTake] at h
  | cons a l ih =>
    rw [confTake] at h
    split at h
    · cases h; assumption
    · obtain ⟨p, hp, e⟩ := Option.map_eq_some_iff.mp h
      cases e
      exact ih hp

/-- What a FAIL does to the permit of its machine (R154): a set bit is withdrawn, counted and recorded. -/
def confStop (j : ConfJob) (s : State) : State :=
  if s.safe.permit.testBit (machineBit j.record.source) || s.safe.cPermit.testBit (machineBit j.record.source) then
    evTrig 0x13 (fixRecWire j.record)
      (bump Addr.SCR_CNT_CONF_FAIL (withdraw (j.sf, j.seq) j.record.source 10 s))
  else s

/-- The other consequences of a FAIL are warnings (R157). -/
theorem confFail_after_confStop (j : ConfJob) (s : State) :
    Follows { regs := true, gmp := true, memb := true } (confStop j s) (confFail j s) := by
  unfold confFail confStop
  dsimp only
  generalize (if (_ || _) = true then _ else s : State) = u
  have warn : Follows { regs := true, gmp := true, memb := true } u ((warned j).foldl (warnOne j.record) u) :=
    foldl_fol (fun _ _ w => warnOne_fol rfl rfl w) (.refl _ u)
  split
  · exact warn
  · exact notify_fol rfl rfl warn

theorem confStop_withdraws (j : ConfJob) (s : State) : Withdrawn j.record.source s (confStop j s) := by
  unfold confStop
  split
  · exact (withdraw_withdraws _ _ _ _).of_safe (evTrig_safe _ _ _)
  · rename_i clear
    obtain ⟨live, covered⟩ := Bool.or_eq_false_iff.mp (Bool.eq_false_iff.mpr clear)
    exact ⟨live, covered, _, rfl⟩

/-- A FAIL takes the permit of its machine (R154). -/
theorem confFail_withdraws (j : ConfJob) (s : State) : Withdrawn j.record.source s (confFail j s) :=
  (confStop_withdraws j s).of_safe ((confFail_after_confStop j s).safe rfl)

/-- The state in which a check's result stands, its job done. -/
def confChecked (m : Nat) (j : ConfJob) (rest : List ConfJob) (s : State) : State :=
  modMach m (fun x => { x with conf := confPass j }) (finishJob 2 m stOk (s.updFix fun f => { f with confs := rest }))

theorem confChecked_conf (m : Nat) (j : ConfJob) (rest : List ConfJob) (s : State) :
    (safeMach (confChecked m j rest s) m).conf = confPass j := by
  rw [confChecked, safeMach_modMach]

theorem confChecked_confs (m : Nat) (j : ConfJob) (rest : List ConfJob) (s : State) :
    (confChecked m j rest s).fix.confs = rest := by
  have finished (u : State) : (finishJob 2 m stOk u).fix = u.fix :=
    (finishJob_fol (kc := { regs := true, sched := true, evr := true }) rfl rfl rfl (.refl _ u)).fix rfl
  show (finishJob 2 m stOk _).fix.confs = rest
  rw [finished]
  rfl

/-- CONFORMANCE_CHECK gives the result of the oldest record that waits, with the consequences of a FAIL. -/
theorem execConformanceCheck_eq {m : Nat} {j : ConfJob} {rest : List ConfJob} {s : State}
    (h : confTake m s.fix.confs = some (j, rest)) :
    exec (.conformanceCheck m) s = .next (zoneAlarm j
      (if confPass j then confChecked m j rest s else confFail j (confChecked m j rest s))) := by
  show execConformanceCheck m s = _
  rw [execConformanceCheck, h]
  rfl

/-- The alarm of a zone leaves the SAFE bay and the Fix engines (06_zones R168). -/
theorem zoneAlarm_only (j : ConfJob) (s : State) :
    Follows { regs := true, gmp := true, scr := true, evr := true } s (zoneAlarm j s) :=
  zoneAlarm_fol rfl rfl rfl rfl (.refl _ s)

/-! Records (04_fix_solution R97). -/

/-- The job that is taken is one of the rover's own. -/
theorem takeFix_rover {m : Nat} {l rest : List FixJob} {j : FixJob} (h : takeFix m l = some (j, rest)) : j.rover = m := by
  induction l generalizing rest with
  | nil => simp [takeFix] at h
  | cons a l ih =>
    rw [takeFix] at h
    split at h
    · cases h; exact (‹_ ∧ _›).1
    · obtain ⟨p, hp, e⟩ := Option.map_eq_some_iff.mp h
      cases e
      exact ih hp

/-- A rover after it is changed. -/
theorem rover_modRover (m : Nat) (f : Rover → Rover) (s : State) : rover (modRover m f s) m = f (rover s m) :=
  kget_kmod.trans (if_pos rfl)

/-- A record stands as the newest of its rover (R120). -/
def recordFiled (j : FixJob) (r : FixRec) (status : Nat) (s : State) : State :=
  modRover j.rover (fun x => { x with recs := (⟨r, j.sf, j.seq, status⟩ :: x.recs).take 4 }) s

theorem recordFiled_newest (j : FixJob) (r : FixRec) (status : Nat) (s : State) :
    (rover (recordFiled j r status s) j.rover).recs.head? = some ⟨r, j.sf, j.seq, status⟩ := by
  rw [recordFiled, rover_modRover]
  rfl

/-- The consequences of a record change of the Fix engines only the checks that wait (01_architecture R32). -/
theorem dispatchRec_fix (j : FixJob) (r : FixRec) (status : Nat) (s : State) :
    ∃ l, (dispatchRec j r status s).fix = { (recordFiled j r status s).fix with confs := l } := by
  have gated : (gateRecord (j.sf, j.seq) j.gateA j.gateB r (fixCounts r status (recordFiled j r status s))).fix =
      (recordFiled j r status s).fix :=
    (gateRecord_fol (kc := { regs := true, gmp := true, safe := true, evr := true }) rfl rfl rfl rfl
      (fixCounts_fol rfl (.refl _ (recordFiled j r status s)))).fix rfl
  have told (p : Nat → Bool) (i : NItem) (b : List Nat) (a : LoopSample) (u : State) :
      (notify 1 p i (queueFix j.rover b (offerSample a u))).fix = u.fix :=
    (notify_fol (kc := { regs := true, gmp := true, sched := true, loop := true, memb := true }) rfl rfl
      (queueFix_fol rfl (offerSample_fol rfl rfl rfl (.refl _ u)))).fix rfl
  have created (c : Nat) (p : Nat × Nat) (o : Nat) (d : Option Nat) (u : State) : (createJob c p o d u).fix = u.fix :=
    (createJob_fol (kc := { regs := true, sched := true }) rfl rfl (.refl _ u)).fix rfl
  unfold dispatchRec
  dsimp only
  rw [told, ← recordFiled]
  split
  · rw [created, updFix_fix, gated]
    exact ⟨_, rfl⟩
  · rw [gated]
    exact ⟨_, rfl⟩

/-- A record that is dispatched is its rover's newest, and no Fix job is made or taken. -/
theorem dispatchRec_files (j : FixJob) (r : FixRec) (status : Nat) (s : State) :
    (dispatchRec j r status s).fix.jobs = s.fix.jobs ∧
      (rover (dispatchRec j r status s) j.rover).recs.head? = some ⟨r, j.sf, j.seq, status⟩ := by
  obtain ⟨l, hfix⟩ := dispatchRec_fix j r status s
  refine ⟨by rw [hfix]; rfl, ?_⟩
  rw [← recordFiled_newest j r status s, rover, rover, hfix]

/-- The latency of a record leaves the jobs that wait. -/
theorem fixLat_jobs (us : Nat) (s : State) : (fixLat us s).fix.jobs = s.fix.jobs := by
  show (if _ then _ else _ : FixS).jobs = _
  split <;> rfl

/-- The ambiguities of the link leave the jobs that wait. -/
theorem linkUpdate_jobs (nums : FixNums) (s : State) : (linkUpdate nums s).fix.jobs = s.fix.jobs := by
  unfold linkUpdate
  split <;> rfl

/-- A Fix job that is done comes to the dispatch of its record, with the jobs behind it left (R97, R120). -/
theorem fixJobDone_eq (m : Nat) (nums : FixNums) (j : FixJob) (rest : List FixJob) (s : State) :
    ∃ r u, u.fix.jobs = rest ∧ fixJobDone m nums j rest s =
      dispatchRec j r (lateIf (decide ((j.arrival + 12000000) / 1000 < now s / 1000)) stOk) u := by
  have finished (u : State) : (finishJob 0 m stOk u).fix = u.fix :=
    (finishJob_fol (kc := { regs := true, sched := true, evr := true }) rfl rfl rfl (.refl _ u)).fix rfl
  refine ⟨_, _, ?_, rfl⟩
  exact (linkUpdate_jobs _ _).trans ((congrArg FixS.jobs (finished _)).trans (fixLat_jobs _ _))

/-- The work of a Fix job leaves station time. -/
theorem fixJobDone_time (m : Nat) (nums : FixNums) (j : FixJob) (rest : List FixJob) (s : State) :
    (fixJobDone m nums j rest s).time = s.time :=
  (fixJobDone_fol (kc := { Touch.all with time := false }) rfl rfl rfl rfl rfl rfl rfl rfl (.refl _ s)).time rfl

/-- FIX_RECORD makes the record of the rover's oldest job at the instant to which it carries station time. -/
theorem execFixRecord_eq {m done : Nat} {nums : FixNums} {j : FixJob} {rest : List FixJob} {s : State}
    (h : takeFix m s.fix.jobs = some (j, rest)) :
    exec (.fixRecord m done nums none) s = .next (fixJobDone m nums j rest (advTo done s)) := by
  show execFixRecord m done nums none s = _
  rw [execFixRecord, h]

/-- FIX_RECORD of a rover with a job files its record (R97, R111). -/
theorem execFixRecord_files {m : Nat} (done : Nat) (nums : FixNums) {j : FixJob} {rest : List FixJob} {s : State}
    (h : takeFix m s.fix.jobs = some (j, rest)) :
    ∃ t r, exec (.fixRecord m done nums none) s = .next t ∧ t.fix.jobs = rest ∧ (rover t m).recs.head? = some r ∧
      r.sf = j.sf ∧ r.seq = j.seq ∧
      r.status = lateIf (decide ((j.arrival + 12000000) / 1000 < max s.time.ns done / 1000)) stOk ∧
      t.time.ns = max s.time.ns done := by
  obtain ⟨r, u, hjobs, hdone⟩ := fixJobDone_eq m nums j rest (advTo done s)
  obtain ⟨jobs, newest⟩ := dispatchRec_files j r
    (lateIf (decide ((j.arrival + 12000000) / 1000 < now (advTo done s) / 1000)) stOk) u
  rw [← hdone] at jobs newest
  rw [takeFix_rover h] at newest
  refine ⟨_, _, execFixRecord_eq h, jobs.trans hjobs, newest, rfl, rfl, ?_, ?_⟩
  · rw [now, advTo_ns]
  · rw [fixJobDone_time, advTo_ns]

/-- CONFORMANCE_CHECK gives a machine the result of its oldest check, and a FAIL takes its permit (05_track R153, R154). -/
theorem execConformanceCheck_gives {m : Nat} {j : ConfJob} {rest : List ConfJob} {s : State}
    (h : confTake m s.fix.confs = some (j, rest)) :
    ∃ t, exec (.conformanceCheck m) s = .next t ∧ t.fix.confs = rest ∧ (safeMach t m).conf = confPass j ∧
      (confPass j = false → t.safe.permit.testBit (machineBit m) = false ∧
        t.safe.cPermit.testBit (machineBit m) = false) := by
  have apart (u : State) : (zoneAlarm j u).fix = u.fix ∧ (zoneAlarm j u).safe = u.safe :=
    ⟨(zoneAlarm_only j u).fix rfl, (zoneAlarm_only j u).safe rfl⟩
  refine ⟨_, execConformanceCheck_eq h, ?_⟩
  rw [(apart _).1, (apart _).2, safeMach_congr (congrArg SafeS.mach (apart _).2)]
  cases hp : confPass j with
  | true =>
    rw [if_pos rfl, confChecked_confs, confChecked_conf, hp]
    exact ⟨rfl, rfl, nofun⟩
  | false =>
    have w := confFail_withdraws j (confChecked m j rest s)
    rw [confTake_source h] at w
    have fixed : (confFail j (confChecked m j rest s)).fix = (confChecked m j rest s).fix :=
      (confFail_fol (kc := { regs := true, gmp := true, safe := true, memb := true, evr := true })
        rfl rfl rfl rfl rfl (.refl _ _)).fix rfl
    rw [if_neg Bool.false_ne_true, fixed, confChecked_confs, w.results.2, confChecked_conf, hp]
    exact ⟨rfl, rfl, fun _ => ⟨w.live, w.covered⟩⟩

/-! RESET of a rover (R115). -/

/-- A rover that is reset is in INIT, without ambiguities or quality. -/
theorem resetRover_init {m : Nat} {s : State} (hlc : (rover s m).lc ≠ .empty) :
    rover (resetRover m s) m = { (rover s m).clear with qual := 0 } := by
  rw [resetRover, if_neg hlc, rover_modRover]

/-- A write of 1 to RESET resets the rover that FIX_ROVER_SEL selects. -/
theorem roverCtrlWord_reset (s : State) :
    roverCtrlWord 1#32 s = (resetRover (cfg s Addr.FIX_ROVER_SEL 15 0) s, stOk) := rfl

/-- ROVER_RESET returns the selected rover to INIT. -/
theorem execRoverReset_resets {h : GmpHdr} {x : Session} {s : State} (m : GmpMay h x 1 10 s)
    (hlc : (rover s (cfg s Addr.FIX_ROVER_SEL 15 0)).lc ≠ .empty) :
    ∃ t, exec (.roverReset h) s = .next t ∧ Answered h 0x02 stOk (indexBody 0xFFFF) s t ∧
      rover t (cfg s Addr.FIX_ROVER_SEL 15 0) =
        { (rover s (cfg s Addr.FIX_ROVER_SEL 15 0)).clear with qual := 0 } := by
  obtain ⟨u, e, answered, rest⟩ := gmpWord_answers m Addr.FIX_ROVER_CTRL 1#32 (f := roverCtrlWord 1#32)
    (c := { fix := true }) rfl rfl (fun u => roverCtrlWord_fol rfl (.refl _ u))
  have same (n : Nat) : rover u n = rover s n := by rw [rover, rover, e.fol.fix rfl]
  rw [roverCtrlWord_reset, cfg_words e.words (by decide)] at answered rest
  refine ⟨_, rfl, answered, ?_⟩
  rw [← same, ← resetRover_init ((same _).symm ▸ hlc), rover, rest.fix rfl, ← rover]

/-- Settles O23: each of the four commands comes to one operation, and what follows that operation leaves the parts that
the statement reads. -/
theorem recordsAreMadeAndChecked : Obligations.RecordsAreMadeAndChecked := by
  refine fun s => ⟨fun m done nums j rest h => execFixRecord_files done nums h,
    fun m j rest h => execConformanceCheck_gives h,
    fun m hm ha hage => ⟨_, execFixAgeExpiry_eq hm ha hage, gateFail_fails _ _ _ _⟩, fun h x m hlc => ?_⟩
  obtain ⟨t, hexec, answered, reset⟩ := execRoverReset_resets m hlc
  exact ⟨t, hexec, answered, by rw [reset]; exact ⟨rfl, rfl, rfl⟩⟩

end Sys2Proof.Machine

/-!
Reservations (05_track_reservation R129 to R150): what the operations on the table leave of the descriptors, and what a
track request comes to at its position.
-/

namespace Sys2Proof.Machine

open Sys2Proof

/-! Descriptors and the table (R142, R147 to R150). -/

/-- A descriptor after one is written. -/
theorem desc_setDesc (c : ScrCov) (m i : Nat) (d : Desc) (n j : Nat) :
    (c.setDesc m i d).desc n j = if n * 8 + j = m * 8 + i then d else c.desc n j :=
  kget_kset

/-- A descriptor that is written is read back. -/
theorem desc_setDesc_same (c : ScrCov) (m i : Nat) (d : Desc) : (c.setDesc m i d).desc m i = d :=
  (desc_setDesc c m i d m i).trans (if_pos rfl)

/-- The descriptors are read from their map alone. -/
theorem desc_congr {c c' : ScrCov} (h : c'.descs = c.descs) (m i : Nat) : c'.desc m i = c.desc m i := by
  rw [ScrCov.desc, ScrCov.desc, h]

/-- Machine and index name a descriptor by their key. -/
theorem desc_of_key {c : ScrCov} {m i n j : Nat} (key : n * 8 + j = m * 8 + i) : c.desc n j = c.desc m i := by
  rw [ScrCov.desc, key, ScrCov.desc]

/-- The removal of entries leaves the descriptors. -/
theorem desc_clear (c : ScrCov) (m i : Nat) (p : Nat → Bool) (n j : Nat) : (c.clear m i p).desc n j = c.desc n j :=
  rfl

/-- The moves of a path leave the descriptors. -/
theorem runMoves_descs (path : List (Nat × Nat)) (dst : Nat × Nat) (c : ScrCov) : (runMoves path dst c).1.descs = c.descs := by
  induction path generalizing dst c with
  | nil => rfl
  | cons p r ih =>
    rw [runMoves]
    split <;> exact ih _ _

/-- The placement of an entry leaves the descriptors. -/
theorem place_descs {cur n : Nat} {e : ScrEnt} {c c' : ScrCov} (h : place cur e c = some (c', n)) : c'.descs = c.descs := by
  unfold place at h
  dsimp only at h
  split at h
  · cases h
    rfl
  · split at h
    · cases h
    · cases h
      exact runMoves_descs _ _ _

/-- The placement of entries leaves the descriptors, whether or not every entry finds a place. -/
theorem placeAll_descs (cur : Nat) (l : List ScrEnt) (c : ScrCov) (n : Nat) : (placeAll cur l c n).1.descs = c.descs := by
  induction l generalizing c n with
  | nil => rfl
  | cons e r ih =>
    rw [placeAll]
    split
    · exact (ih _ _).trans (place_descs ‹_›)
    · rfl

/-- The descriptor that a request takes is FREE, and one of the eight of its machine. -/
theorem freeDesc_spec {c : ScrCov} {m i : Nat} (h : freeDesc c m = some i) : i < 8 ∧ (c.desc m i).live = false :=
  ⟨List.mem_range.mp (List.mem_of_find?_eq_some h), by simpa using List.find?_some h⟩

/-- A request that took a descriptor and failed changes its SEQ alone. -/
theorem bumpDesc_live (c : ScrCov) (m : Nat) (f : Option Nat) (n j : Nat) :
    ((bumpDesc c m f).desc n j).live = (c.desc n j).live := by
  cases f with
  | none => rfl
  | some i =>
    rw [bumpDesc, desc_setDesc]
    split
    · rename_i key
      rw [desc_of_key key]
    · rfl

theorem bumpDesc_table (c : ScrCov) (m : Nat) (f : Option Nat) : (bumpDesc c m f).table = c.table := by
  cases f <;> rfl

/-- Entries placed under a descriptor that has just been written leave it and every other. -/
theorem placeAll_setDesc_desc (cur : Nat) (l : List ScrEnt) (c : ScrCov) (m i : Nat) (d : Desc) (k n j : Nat) :
    (placeAll cur l (c.setDesc m i d) k).1.desc n j = if n * 8 + j = m * 8 + i then d else c.desc n j :=
  (desc_congr (placeAll_descs cur l _ k) n j).trans (desc_setDesc c m i d n j)

/-! Track requests at their position (R129, R139 to R142). -/

/-- What a track request may come to: refused with nothing changed, in conflict with the SEQ of its descriptor raised, given
up in mid-placement with its descriptor FREE again, or inserted under a descriptor that was FREE. -/
inductive TrackDecided (b : TrackBody) (c : ScrCov) : ScrCov × TrackRes × Nat → Prop
  | refused {r : TrackRes} (status : r.status = stField ∨ r.status = stFull) : TrackDecided b c (c, r, 0)
  | conflict {r : TrackRes} (status : r.status = stConflict) :
      TrackDecided b c (bumpDesc c b.machine (freeDesc c b.machine), r, 0)
  | undone {c' : ScrCov} {r : TrackRes} {n : Nat} (status : r.status = stFull) (live : ∀ m i, (c'.desc m i).live = (c.desc m i).live) :
      TrackDecided b c (c', r, n)
  | inserted {c' : ScrCov} {r : TrackRes} {n i : Nat} {d : Desc} (status : r.status = stOk)
      (free : freeDesc c b.machine = some i) (desc : c'.desc b.machine i = d) (live : d.live = true)
      (first : d.first = r.start) (last : d.last = r.last) (resId : r.resId = resIdOf b.machine i d.seq)
      (seq : d.seq = ((c.desc b.machine i).seq + 1) % 256) : TrackDecided b c (c', r, n)

/-- A clear try is inserted whole, or not at all (R141). -/
theorem insertAt_decided {c : ScrCov} {b : TrackBody} {i : Nat} (hfree : freeDesc c b.machine = some i) (cur : Nat)
    (pos : Nat × Nat) (pairs : List Nat) (slide : Nat) (r : TrackRes) :
    TrackDecided b c (insertAt c cur pos b pairs i slide r) := by
  unfold insertAt
  dsimp only
  split
  · exact .inserted rfl hfree ((placeAll_setDesc_desc _ _ _ _ _ _ _ _ _).trans (if_pos rfl)) rfl rfl rfl rfl rfl
  · refine .undone rfl fun n j => ?_
    rw [desc_setDesc, desc_clear, placeAll_setDesc_desc]
    split
    · rename_i key
      rw [desc_of_key key, (freeDesc_spec hfree).2]
      rfl
    · rfl

/-- A track request is decided in one of these ways (R129, R139 to R142). -/
theorem trackOutcome_decided (g : Geom) (cur : Nat) (pos : Nat × Nat) (b : TrackBody) (c : ScrCov) :
    TrackDecided b c (trackOutcome g cur pos b c) := by
  unfold trackOutcome
  extract_lets pairs cells blank r0 hi bad m first r1 try_ free
  split
  · exact .refused (.inl rfl)
  · have hfree : freeDesc c b.machine = free := rfl
    clear_value try_ free r1
    cases try_ with
    | inr tried => exact hfree ▸ .conflict rfl
    | inl slide =>
      cases free with
      | none => exact .refused (.inr rfl)
      | some i =>
        dsimp only
        split
        · exact .refused (.inr rfl)
        · exact insertAt_decided hfree _ _ _ _ _

section Decided

variable {b : TrackBody} {c : ScrCov} {q : ScrCov × TrackRes × Nat}

/-- Unless the result is OK, no descriptor becomes LIVE or stops being so (R141). -/
theorem TrackDecided.live_of_not_ok (o : TrackDecided b c q) (h : q.2.1.status ≠ stOk) (m i : Nat) :
    (q.1.desc m i).live = (c.desc m i).live := by
  cases o with
  | refused => rfl
  | conflict => exact bumpDesc_live c _ _ m i
  | undone _ live => exact live m i
  | inserted status => exact absurd status h

/-- A request with a bad field leaves everything (R129). -/
theorem TrackDecided.eq_of_field (o : TrackDecided b c q) (h : q.2.1.status = stField) : q.1 = c := by
  cases o with
  | refused => rfl
  | conflict status | undone status | inserted status => exact absurd (status.symm.trans h) (by decide)

/-- A conflict leaves the table (R141). -/
theorem TrackDecided.table_of_conflict (o : TrackDecided b c q) (h : q.2.1.status = stConflict) : q.1.table = c.table := by
  cases o with
  | refused => rfl
  | conflict => exact bumpDesc_table c _ _
  | undone status | inserted status => exact absurd (status.symm.trans h) (by decide)

/-- A result of OK stands under a descriptor of the machine that was FREE (R142, R143). -/
theorem TrackDecided.desc_of_ok (o : TrackDecided b c q) (h : q.2.1.status = stOk) :
    ∃ i d, i < 8 ∧ (c.desc b.machine i).live = false ∧ q.1.desc b.machine i = d ∧ d.live = true ∧ d.first = q.2.1.start ∧
      d.last = q.2.1.last ∧ q.2.1.resId = resIdOf b.machine i d.seq ∧ d.seq = ((c.desc b.machine i).seq + 1) % 256 := by
  cases o with
  | refused status => exact absurd h (by rcases status with e | e <;> rw [e] <;> decide)
  | conflict status | undone status => exact absurd (status.symm.trans h) (by decide)
  | inserted _ free desc live first last resId seq =>
    obtain ⟨hi, hlive⟩ := freeDesc_spec free
    exact ⟨_, _, hi, hlive, desc, live, first, last, resId, seq⟩

end Decided

end Sys2Proof.Machine

/-!
The commands on reservations (05_track_reservation R129, R137, R141 to R145): a track request and its retirement, a cancel,
and CANCEL_ALL.
-/

namespace Sys2Proof.Machine

open Sys2Proof

/-! What the entry of a request leaves of the geometry. -/

/-- An entry changes no word of the FIX and SCR blocks, which stand at 0x0006_0000 and 0x0007_0000 (17_host R446). -/
theorem enteredWord_fix_scr {a : Nat} (lo : 0x60000 ≤ a) (hi : a < 0x80000) : enteredWord (rkey a) = false := by
  simp only [enteredWord, entryWords, rkey, wkey, Addr.TOP_CFG_ALARM, Addr.NET_CNT, Addr.SCHED_CLASS_SEL,
    Addr.SCHED_CLASS_CNT_JOBS, Bool.or_eq_false_iff, beq_eq_false_iff_ne]
  omega

/-- A class is one of 16 (R127). -/
theorem classOf_lt (s : State) (m : Nat) : classOf s m < 16 := by
  have width : 4 * ((m - 1) % 8) + 3 + 1 - 4 * ((m - 1) % 8) = 4 := by omega
  rw [classOf, cfg, fld, bitsOf, width]
  exact Nat.mod_lt _ (by decide)

/-- The machines of a part are counted from 1. -/
theorem isMachine_bounds {p : Part} {m : Nat} (h : isMachine p m = true) : 1 ≤ m ∧ m ≤ machineCount p :=
  of_decide_eq_true h

/-- A part has at most 256 machines (00_scope R1). -/
theorem machineCount_le (p : Part) : machineCount p ≤ 256 := by
  cases p <;> decide

section Entry

variable {h : GmpHdr} {x : Session} {b : GmpBody} {s u : State}

/-- The entry of a request leaves the fields of the FIX and SCR blocks. -/
theorem Entered.cfg_fix_scr (e : Entered h x b s u) (a : Nat) (lo : 0x60000 ≤ a) (hi : a < 0x80000) (i j : Nat) :
    cfg u a i j = cfg s a i j :=
  cfg_words e.words (enteredWord_fix_scr lo hi)

/-- The entry of a request leaves the slot numbers. -/
theorem Entered.slotOfSf (e : Entered h x b s u) (sf : Nat) : slotOfSf u sf = slotOfSf s sf := by
  rw [Machine.slotOfSf, Machine.slotOfSf, e.cfg_fix_scr Addr.SCR_CFG (by decide) (by decide)]

/-- The entry of a request leaves the class of a machine. -/
theorem Entered.classOf (e : Entered h x b s u) {m : Nat} (hm : m ≤ 256) : classOf u m = classOf s m :=
  e.cfg_fix_scr (Addr.SCR_MACH_CLASS + 4 * ((m - 1) / 8)) (Nat.le_add_right_of_le (by decide))
    (show 0x700D0 + 4 * ((m - 1) / 8) < 0x80000 by omega) _ _

/-- The entry of a request leaves the geometry of a class. -/
theorem Entered.geomOf (e : Entered h x b s u) {k : Nat} (hk : k < 16) : geomOf u k = geomOf s k := by
  have lengths := e.cfg_fix_scr (Addr.SCR_CLASS_A + 8 * k) (Nat.le_add_right_of_le (by decide))
    (show 0x70010 + 8 * k < 0x80000 by omega)
  have margins := e.cfg_fix_scr (Addr.SCR_CLASS_B + 8 * k) (Nat.le_add_right_of_le (by decide))
    (show 0x70014 + 8 * k < 0x80000 by omega)
  have radii := e.cfg_fix_scr (Addr.SCR_CLASS_C + 4 * k) (Nat.le_add_right_of_le (by decide))
    (show 0x70090 + 4 * k < 0x80000 by omega)
  have grid := e.cfg_fix_scr Addr.SCR_CFG (by decide) (by decide)
  have cornerX := e.cfg_fix_scr Addr.FIX_GRID_CORNER_X (by decide) (by decide)
  have cornerY := e.cfg_fix_scr Addr.FIX_GRID_CORNER_Y (by decide) (by decide)
  simp only [Machine.geomOf, lengths, margins, radii, grid, cornerX, cornerY]

/-- The entry of a request leaves the geometry of a machine. -/
theorem Entered.geomFor (e : Entered h x b s u) {m : Nat} (hm : m ≤ 256) : geomFor u m = geomFor s m := by
  rw [Machine.geomFor, Machine.geomFor, e.classOf hm, e.geomOf (classOf_lt s m)]

end Entry

/-! Track requests as commands (R129, R137). -/

/-- A request handed to the Screed is decided, and its result waits as the newest insert (R137). -/
theorem submitTrack_scr (c : ReqCtx) (b : TrackBody) (task : TrackRes → Option TaskNotice) (s : State) :
    ∃ p, (submitTrack c b task s).1.scr = { s.scr with
        cov := (trackOutcome (geomFor s b.machine) ((geomFor s b.machine).slotOf c.pos.1) c.pos b s.scr.cov).1,
        inserts := s.scr.inserts ++ [p] } ∧
      p.ident = c.ident ∧ p.reqId = c.reqId ∧ p.machine = b.machine ∧
      p.res = (trackOutcome (geomFor s b.machine) ((geomFor s b.machine).slotOf c.pos.1) c.pos b s.scr.cov).2.1 := by
  have created (p : Nat × Nat) (o : Nat) (d : Option Nat) (u : State) : (createJob 3 p o d u).scr = u.scr :=
    (createJob_fol (kc := { regs := true, sched := true }) rfl rfl (.refl _ u)).scr rfl
  exact ⟨_, created _ _ _ _, rfl, rfl, rfl, rfl⟩

/-- A track message with a bad field is answered at once (R129). -/
theorem trackHandler_refuses {c : ReqCtx} {b : TrackBody} {s : State}
    (hf : trackFields s.part (slotOfSf s c.pos.1) b = false) :
    trackHandler b c s = (s, some (stField, (TrackRes.blank stField b.start).wire)) := by
  rw [trackHandler, hf]
  rfl

/-- A track message with good fields is handed to the Screed (R137). -/
theorem trackHandler_submits {c : ReqCtx} {b : TrackBody} {s : State}
    (hf : trackFields s.part (slotOfSf s c.pos.1) b = true) :
    trackHandler b c s = ((submitTrack c b (fun _ => none) s).1, none) := by
  rw [trackHandler, hf]
  rfl

/-- A track request for a machine that the part has not is refused (R129). -/
theorem machine_of_trackFields {p : Part} {cur : Nat} {b : TrackBody} (h : trackFields p cur b = true) :
    isMachine p b.machine = true := by
  simp only [trackFields, Bool.and_eq_true] at h
  tauto

section Track

variable {h : GmpHdr} {x : Session} {s : State} {b : TrackBody}

/-- TRACK with a waypoint goes through the request gate. -/
theorem execTrack_eq (hw : b.wps ≠ []) :
    exec (.track h b) s = .next (gmpRequest h (.track b) false true (needs 1) (trackHandler b) s) := by
  rw [← List.isEmpty_eq_false_iff.mpr hw]
  rfl

/-- TRACK with a bad field is answered ERR_FIELD and leaves the Screed (R129). -/
theorem execTrack_refuses (m : GmpMay h x 1 10 s) (hw : b.wps ≠ [])
    (hf : trackFields s.part (slotOfSf s s.jr.sf) b = false) :
    ∃ t, exec (.track h b) s = .next t ∧ Answered h 0x20 stField (TrackRes.blank stField b.start).wire s t ∧
      t.scr = s.scr := by
  obtain ⟨u, e, hd⟩ := gmpRequest_answers m.toGmpReady (.track b) (adm := true) (ok := needs 1)
    (fun _ w => m.right_words w) (fun _ => m.room) (f := trackHandler b) (c := { regs := true, scr := true, sched := true })
    rfl rfl (fun u => trackHandler_fol rfl rfl rfl (.refl _ u))
  obtain ⟨answered, rest⟩ := hd _ _ (trackHandler_refuses (by rw [e.fol.part, e.slotOfSf]; exact hf))
  exact ⟨_, execTrack_eq hw, answered, (rest.scr rfl).trans (e.fol.scr rfl)⟩

/-- TRACK with good fields is decided at its position, and its result waits as the newest insert (R137). -/
theorem execTrack_submits (m : GmpMay h x 1 10 s) (hw : b.wps ≠ [])
    (hf : trackFields s.part (slotOfSf s s.jr.sf) b = true) :
    ∃ t p, exec (.track h b) s = .next t ∧
      t.scr.cov = (trackOutcome (geomFor s b.machine) ((geomFor s b.machine).slotOf s.jr.sf) (s.jr.sf, s.jr.nextSeq) b s.scr.cov).1 ∧
      t.scr.inserts = s.scr.inserts ++ [p] ∧ p.ident = x.ident ∧ p.reqId = h.reqId ∧ p.machine = b.machine ∧
      p.res = (trackOutcome (geomFor s b.machine) ((geomFor s b.machine).slotOf s.jr.sf) (s.jr.sf, s.jr.nextSeq) b s.scr.cov).2.1 := by
  obtain ⟨u, e, hd⟩ := gmpRequest_done m.toGmpReady (.track b) (adm := true) (ok := needs 1)
    (fun _ w => m.right_words w) (fun _ => m.room)
  have machine : b.machine ≤ 256 := (isMachine_bounds (machine_of_trackFields hf)).2.trans (machineCount_le _)
  obtain ⟨p, scr, ident, reqId, mach, res⟩ := submitTrack_scr ⟨h.sess, x.ident, h.reqId, (s.jr.sf, s.jr.nextSeq), false⟩ b
    (fun _ => none) u
  rw [e.geomFor machine, e.fol.scr rfl] at scr res
  refine ⟨_, p, execTrack_eq hw, ?_⟩
  rw [hd, trackHandler_submits (by rw [e.fol.part, e.slotOfSf]; exact hf), scr]
  exact ⟨rfl, rfl, ident, reqId, mach, res⟩

end Track

/-- A task notice leaves the Screed. -/
theorem sendNotice_scr (n : TaskNotice) (s : State) : (sendNotice n s).scr = s.scr :=
  (sendNotice_fol (kc := { regs := true, gmp := true }) rfl rfl (.refl _ s)).scr rfl

/-- SCR_INSERT retires the oldest insert (R137). -/
theorem execScrInsert_retires {s : State} {p : PendIns} {rest : List PendIns} (h : s.scr.inserts = p :: rest) :
    ∃ t, exec .scrInsert s = .next t ∧ t.scr = { s.scr with inserts := rest } := by
  have finished (u : State) (lat : Nat) (w : Waiter) (st : Nat) (l : List Nat) :
      (completeReq w st l (maxF Addr.SCR_INS_LAT 15 0 lat (countInsert p.res p.reloc (finishJob 3 p.machine p.res.status u)))).scr =
        u.scr :=
    (completeReq_fol (kc := { regs := true, gmp := true, sched := true, evr := true, sess := true }) rfl rfl
      (maxF_fol rfl (countInsert_fol rfl (finishJob_fol rfl rfl rfl (.refl _ u))))).scr rfl
  have items (r : TrackRes) (u : State) : (trackItems p.machine r u).scr = u.scr :=
    (trackItems_fol (kc := { memb := true }) rfl (.refl _ u)).scr rfl
  have hexec : exec .scrInsert s = execScrInsert s := rfl
  rw [execScrInsert, h] at hexec
  refine ⟨_, hexec, (items _ _).trans ?_⟩
  split
  · exact (sendNotice_scr _ _).trans (finished _ _ _ _ _)
  · exact finished _ _ _ _ _

/-! Cancels (R142 to R145). -/

/-- A descriptor after its reservation is cut at a slot: FREE where nothing of it stands before the slot. -/
def cutOf (d : Desc) (cut : Nat) : Desc :=
  if cut ≤ d.first then { Desc.zero with seq := d.seq } else { d with last := cut - 1, cut := cut }

/-- What is left LIVE of a descriptor that is cut ends just before the slot. -/
theorem cutOf_last {d : Desc} {cut : Nat} (h : (cutOf d cut).live = true) : (cutOf d cut).last + 1 = cut := by
  rw [cutOf] at h ⊢
  split at h
  · cases h
  · rename_i before
    rw [if_neg before]
    exact Nat.sub_add_cancel (Nat.one_le_of_lt (Nat.lt_of_not_le before))

/-- The task of a descriptor that becomes FREE is all that changes of the Screed (06_zones R174). -/
theorem taskFreed_scr (expired : Bool) (sf resId : Nat) (s : State) :
    ∃ l, (taskFreed expired sf resId s).scr = { s.scr with tasks := l } := by
  unfold taskFreed
  split
  · exact ⟨_, rfl⟩
  · exact ⟨_, sendNotice_scr _ _⟩

/-- A cut removes entries of its descriptor and writes it (R142, R144). -/
theorem cutDesc_cov (pos : Nat × Nat) (m i cut : Nat) (s : State) :
    ∃ p, (cutDesc pos m i cut s).1.scr.cov = (s.scr.cov.clear m i p).setDesc m i (cutOf (s.scr.cov.desc m i) cut) := by
  have told (p : Prop) [Decidable p] (a r k : Nat) (u : State) :
      (queueCut a r k (if p then withdraw pos m 11 u else u)).scr = u.scr :=
    (queueCut_fol (kc := { regs := true, gmp := true, safe := true, memb := true, evr := true }) rfl
      (ite_fol (withdraw_fol rfl rfl rfl rfl (.refl _ u)) (.refl _ u))).scr rfl
  refine ⟨fun f => decide (cut ≤ (s.scr.cov.desc m i).first) || decide (cut ≤ f), ?_⟩
  unfold cutDesc cutOf
  by_cases whole : cut ≤ (s.scr.cov.desc m i).first
  · simp only [whole, decide_true, if_true]
    obtain ⟨l, freed⟩ := taskFreed_scr false pos.1 (resIdOf m i (s.scr.cov.desc m i).seq) (queueCut m
      (resIdOf m i (s.scr.cov.desc m i).seq) (s.scr.cov.desc m i).first _)
    rw [freed, told]
    rfl
  · simp only [whole, decide_false, Bool.false_eq_true, if_false, told]
    rfl

/-- A cut changes no descriptor but its own. -/
theorem cutDesc_desc (pos : Nat × Nat) (m i cut : Nat) (s : State) (n j : Nat) :
    (cutDesc pos m i cut s).1.scr.cov.desc n j =
      if n * 8 + j = m * 8 + i then cutOf (s.scr.cov.desc m i) cut else s.scr.cov.desc n j := by
  obtain ⟨p, cov⟩ := cutDesc_cov pos m i cut s
  rw [cov, desc_setDesc, desc_clear]

/-- Counters stand in the register store. -/
theorem bump_scr (a : Nat) (s : State) : (bump a s).scr = s.scr :=
  (bump_fol (kc := { regs := true }) rfl (.refl _ s)).scr rfl

theorem countJob_scr (k : Nat) (s : State) : (countJob k s).scr = s.scr :=
  (countJob_fol (kc := { regs := true }) rfl (.refl _ s)).scr rfl

/-- A cancel in good form of a LIVE descriptor that reaches the cut is carried out (R143, R144). -/
theorem cancelHandler_cuts {c : ReqCtx} {b : CancelBody} {s : State} {m i cut : Nat} (rm : b.resId / 2 ^ 16 = m)
    (ri : b.resId / 256 % 256 = i) (rc : max b.fromSlot (slotOfSf s c.pos.1) = cut) (hzero : b.zero = 0) (hi : i ≤ 7)
    (hm : isMachine s.part m = true) (hlive : (s.scr.cov.desc m i).live = true)
    (hseq : (s.scr.cov.desc m i).seq = b.resId % 256) (hlast : cut ≤ (s.scr.cov.desc m i).last) :
    cancelHandler b c s = (countJob 4 (bump Addr.SCR_CNT_CANCEL (cutDesc c.pos m i cut s).1),
      some (stOk, cancelBodyWire stOk b.resId cut (cutDesc c.pos m i cut s).2)) := by
  have form : ¬ (b.zero ≠ 0 ∨ 7 < i) := by omega
  simp only [cancelHandler, rm, ri, rc]
  simp [form, hm, hlive, hseq, Nat.not_lt.mpr hlast]

/-- CANCEL of a LIVE descriptor that reaches the cut leaves what stands before the cut, and is answered OK (R144). -/
theorem execCancel_cuts {h : GmpHdr} {x : Session} {s : State} {b : CancelBody} {m i cut : Nat} (may : GmpMay h x 1 10 s)
    (rm : b.resId / 2 ^ 16 = m) (ri : b.resId / 256 % 256 = i) (rc : max b.fromSlot (slotOfSf s s.jr.sf) = cut)
    (hzero : b.zero = 0) (hi : i ≤ 7) (hm : isMachine s.part m = true) (hlive : (s.scr.cov.desc m i).live = true)
    (hseq : (s.scr.cov.desc m i).seq = b.resId % 256) (hlast : cut ≤ (s.scr.cov.desc m i).last) :
    ∃ t n, exec (.cancel h b) s = .next t ∧ Answered h 0x21 stOk (cancelBodyWire stOk b.resId cut n) s t ∧
      t.scr.cov.desc m i = cutOf (s.scr.cov.desc m i) cut := by
  obtain ⟨u, e, hd⟩ := gmpRequest_answers may.toGmpReady (.cancel b) (adm := true) (ok := needs 1)
    (fun _ w => may.right_words w) (fun _ => may.room) (f := cancelHandler b)
    (c := { regs := true, gmp := true, safe := true, scr := true, memb := true, evr := true })
    rfl rfl (fun u => cancelHandler_fol rfl rfl rfl rfl rfl rfl (.refl _ u))
  have scr : u.scr = s.scr := e.fol.scr rfl
  obtain ⟨answered, rest⟩ := hd _ _ (cancelHandler_cuts rm ri (by rw [e.slotOfSf]; exact rc) hzero hi (e.fol.part ▸ hm)
    (scr ▸ hlive) (scr ▸ hseq) (scr ▸ hlast))
  refine ⟨_, _, rfl, answered, ?_⟩
  rw [rest.scr rfl, countJob_scr, bump_scr, cutDesc_desc, if_pos rfl, scr]

/-! CANCEL_ALL (R145). -/

/-- What reaches each element of a fold, and stays through the others, holds at its end of every element. -/
theorem foldl_reaches {α : Type} {F : State → α → State} {P : α → State → Prop} (reach : ∀ t a, P a (F t a))
    (keep : ∀ t a b, P b t → P b (F t a)) {l : List α} {a : α} (ha : a ∈ l) (s : State) : P a (l.foldl F s) := by
  induction l generalizing s with
  | nil => cases ha
  | cons b r ih =>
    rcases List.mem_cons.mp ha with rfl | hr
    · exact List.foldlRecOn r F (reach s a) fun t ht b _ => keep t b a ht
    · exact ih hr _

/-- One descriptor of CANCEL_ALL. -/
def cancelOne (pos : Nat × Nat) (m cur : Nat) (t : State) (i : Nat) : State :=
  if (t.scr.cov.desc m i).live && decide (cur ≤ (t.scr.cov.desc m i).last) then
    bump Addr.SCR_CNT_CANCEL (cutDesc pos m i cur t).1
  else t

/-- CANCEL_ALL takes the eight descriptors in their order. -/
theorem cancelAll_eq (pos : Nat × Nat) (m : Nat) (s : State) :
    cancelAll pos m s = (List.range 8).foldl (cancelOne pos m (slotOfSf s pos.1)) s := rfl

/-- Descriptor `i` of machine `m`, where it is LIVE, ends before slot `cur`. -/
def EndsBefore (m cur i : Nat) (t : State) : Prop :=
  (t.scr.cov.desc m i).live = true → (t.scr.cov.desc m i).last < cur

/-- Work that leaves the Screed leaves where a reservation ends. -/
theorem EndsBefore.of_scr {m cur i : Nat} {t u : State} (h : EndsBefore m cur i t) (e : u.scr = t.scr) :
    EndsBefore m cur i u := by
  rwa [EndsBefore, e]

/-- CANCEL_ALL cuts each descriptor in its turn. -/
theorem cancelOne_ends (pos : Nat × Nat) (m cur : Nat) (t : State) (i : Nat) : EndsBefore m cur i (cancelOne pos m cur t i) := by
  unfold cancelOne
  split
  · intro hlive
    rw [bump_scr, cutDesc_desc, if_pos rfl] at hlive ⊢
    exact Nat.lt_of_succ_le (cutOf_last hlive).le
  · rename_i stays
    intro hlive
    simpa [hlive] using stays

/-- What ends before the slot stays so through the others. -/
theorem EndsBefore.cancelOne {m cur j : Nat} {t : State} (h : EndsBefore m cur j t) (pos : Nat × Nat) (i : Nat) :
    EndsBefore m cur j (cancelOne pos m cur t i) := by
  by_cases same : j = i
  · exact same ▸ cancelOne_ends pos m cur t i
  · unfold Machine.cancelOne
    split
    · have other : ¬ m * 8 + j = m * 8 + i := by omega
      intro hlive
      rw [bump_scr, cutDesc_desc, if_neg other] at hlive ⊢
      exact h hlive
    · exact h

/-- CANCEL_ALL leaves no descriptor of the machine LIVE at or past the current slot. -/
theorem cancelAll_ends (pos : Nat × Nat) (m : Nat) (s : State) {i : Nat} (hi : i < 8) :
    EndsBefore m (slotOfSf s pos.1) i (cancelAll pos m s) := by
  rw [cancelAll_eq]
  exact foldl_reaches (P := EndsBefore m (slotOfSf s pos.1)) (fun t i => cancelOne_ends pos m _ t i)
    (fun _ i _ h => h.cancelOne pos i) (List.mem_range.mpr hi) s

/-- A write of 1 to CANCEL_ALL cancels for the machine that SCR_MACH_SEL selects, at the write's position. -/
theorem machCtrlWord_cancels (s : State) :
    machCtrlWord 1#32 s = (cancelAll (lastPos s) (cfg s Addr.SCR_MACH_SEL 15 0) s, stOk) := rfl

/-- CANCEL_ALL leaves no descriptor of the selected machine LIVE at or past the current slot (R145). -/
theorem execCancelAll_ends {h : GmpHdr} {x : Session} {s : State} (m : GmpMay h x 1 10 s) :
    ∃ t, exec (.cancelAll h) s = .next t ∧ Answered h 0x02 stOk (indexBody 0xFFFF) s t ∧
      ∀ i, i < 8 → EndsBefore (cfg s Addr.SCR_MACH_SEL 15 0) (slotOfSf s s.jr.sf) i t := by
  obtain ⟨u, e, answered, rest⟩ := gmpWord_answers m Addr.SCR_MACH_CTRL 1#32 (f := machCtrlWord 1#32)
    (c := { regs := true, gmp := true, safe := true, scr := true, memb := true, evr := true }) rfl rfl
    (fun u => machCtrlWord_fol rfl rfl rfl rfl rfl rfl (.refl _ u))
  obtain ⟨-, lastSf, -⟩ := JrnlS.spine_pos e.spine
  rw [machCtrlWord_cancels] at answered rest
  refine ⟨_, rfl, answered, fun i hi => ?_⟩
  have ends := cancelAll_ends (lastPos u) (cfg u Addr.SCR_MACH_SEL 15 0) u hi
  rw [e.slotOfSf, show (lastPos u).1 = s.jr.sf from lastSf] at ends
  rw [← e.cfg_fix_scr Addr.SCR_MACH_SEL (by decide) (by decide)]
  exact ends.of_scr (rest.scr rfl)

/-- Settles O21: a request's entry leaves the geometry and the Screed, so what its handler decides is what it would have
decided before the entry; what the decision leaves is read off the ways in which a request may be decided. -/
theorem tracksAreReservedWholeAndCancelled : Obligations.TracksAreReservedWholeAndCancelled := by
  refine ⟨fun h x s m => ⟨fun b hw hf => execTrack_refuses m hw hf, fun b hw hf => execTrack_submits m hw hf,
    fun b hzero hi hm hlive hseq hlast => ?_, execCancelAll_ends m, fun p rest hp => execScrInsert_retires hp⟩,
    fun g cur pos b c => ?_⟩
  · obtain ⟨t, n, hexec, answered, desc⟩ := execCancel_cuts m rfl rfl rfl hzero hi hm hlive hseq hlast
    exact ⟨t, n, hexec, answered, desc ▸ cutOf_last⟩
  · have o := trackOutcome_decided g cur pos b c
    exact ⟨o.live_of_not_ok, o.eq_of_field, o.table_of_conflict, o.desc_of_ok⟩

end Sys2Proof.Machine

/-!
The slot that ends (05_track_reservation R146, R156): its descriptors become FREE, and a machine that holds nothing at the
slot that begins is barred.
-/

namespace Sys2Proof.Machine

open Sys2Proof

/-! Expiry (R142, R146). -/

/-- An expiry removes the entries of its descriptor and frees it; of the Screed it changes at most a task beside. -/
theorem expireDesc_scr (sf m i : Nat) (s : State) :
    ∃ l, (expireDesc sf m i s).scr = { s.scr with
      cov := (s.scr.cov.clear m i (fun _ => true)).setDesc m i { Desc.zero with seq := (s.scr.cov.desc m i).seq },
      tasks := l } :=
  taskFreed_scr true sf _ _

/-- A descriptor that has expired is FREE, and no other changes. -/
theorem expireDesc_desc (sf m i : Nat) (s : State) (n j : Nat) :
    (expireDesc sf m i s).scr.cov.desc n j =
      if n * 8 + j = m * 8 + i then { Desc.zero with seq := (s.scr.cov.desc m i).seq } else s.scr.cov.desc n j := by
  obtain ⟨l, scr⟩ := expireDesc_scr sf m i s
  rw [scr]
  exact desc_setDesc _ m i _ n j

/-- An expiry leaves the superframe at which slots were last advanced. -/
theorem expireDesc_slotSf (sf m i : Nat) (s : State) : (expireDesc sf m i s).scr.slotSf = s.scr.slotSf := by
  obtain ⟨l, scr⟩ := expireDesc_scr sf m i s
  rw [scr]

/-- The descriptor at a key of the map, where it is LIVE, lasts to slot `cur`. -/
def LastsTo (cur k : Nat) (t : State) : Prop :=
  (kget Desc.zero t.scr.cov.descs k).live = true → cur ≤ (kget Desc.zero t.scr.cov.descs k).last

/-- A key names the descriptor of its machine and index. -/
theorem descId_key (k : Nat) : (descId k).1 * 8 + (descId k).2 = k := Nat.div_add_mod' k 8

/-- The descriptor at a key after one has expired. -/
theorem expireDesc_get (sf k : Nat) (s : State) (j : Nat) :
    (kget Desc.zero (expireDesc sf (descId k).1 (descId k).2 s).scr.cov.descs j).live = true →
      j ≠ k ∧ kget Desc.zero (expireDesc sf (descId k).1 (descId k).2 s).scr.cov.descs j = kget Desc.zero s.scr.cov.descs j := by
  have get (t : State) : kget Desc.zero t.scr.cov.descs j = t.scr.cov.desc (descId j).1 (descId j).2 := by
    rw [ScrCov.desc, descId_key]
  rw [get, get, expireDesc_desc, descId_key, descId_key]
  split
  · intro hlive
    cases hlive
  · exact fun _ => ⟨‹_›, rfl⟩

/-- The descriptor that expires is no longer LIVE. -/
theorem expireDesc_lasts (sf cur : Nat) (t : State) (k : Nat) :
    LastsTo cur k (expireDesc sf (descId k).1 (descId k).2 t) :=
  fun hlive => absurd rfl (expireDesc_get sf k t k hlive).1

/-- An expiry makes no descriptor LIVE. -/
theorem LastsTo.expireDesc {cur k : Nat} {t : State} (h : LastsTo cur k t) (sf j : Nat) :
    LastsTo cur k (expireDesc sf (descId j).1 (descId j).2 t) := by
  intro hlive
  obtain ⟨-, get⟩ := expireDesc_get sf j t k hlive
  rw [get] at hlive ⊢
  exact h hlive

/-- An entry that is found is listed. -/
theorem mem_of_kfind {α : Type} {m : KMap α} {k : Nat} {v : α} (h : kfind m k = some v) : (k, v) ∈ m := by
  induction m with
  | nil => cases h
  | cons e r ih =>
    obtain ⟨j, w⟩ := e
    rw [kfind] at h
    split at h
    · subst_vars
      cases h
      exact List.mem_cons_self
    · exact List.mem_cons_of_mem _ (ih h)

/-- The key of a descriptor that has expired is among those that expiry visits. -/
theorem mem_expired {s : State} {cur k : Nat} (h : ¬ LastsTo cur k s) :
    k ∈ kkeys (fun _ d => d.live && decide (d.last < cur)) s.scr.cov.descs := by
  obtain ⟨hlive, hlast⟩ := Classical.not_imp.mp h
  cases hfind : kfind s.scr.cov.descs k with
  | none =>
    rw [kget, hfind] at hlive
    cases hlive
  | some d =>
    rw [kget, hfind, Option.getD_some] at hlive hlast
    refine List.mem_map.mpr ⟨(k, d), List.mem_filter.mpr ⟨mem_of_kfind hfind, ?_⟩, rfl⟩
    simp [hlive, Nat.lt_of_not_le hlast]

/-- Expiry leaves no LIVE descriptor whose last slot is before the current one (R146). -/
theorem expireAll_lasts (sf cur : Nat) (s : State) (k : Nat) : LastsTo cur k (expireAll sf cur s) := by
  by_cases lasts : LastsTo cur k s
  · exact List.foldlRecOn _ _ lasts fun _ h j _ => h.expireDesc sf j
  · exact foldl_reaches (P := LastsTo cur) (fun t j => expireDesc_lasts sf cur t j) (fun _ j _ h => h.expireDesc sf j)
      (mem_expired lasts) s

theorem expireAll_slotSf (sf cur : Nat) (s : State) : (expireAll sf cur s).scr.slotSf = s.scr.slotSf :=
  List.foldlRecOn (motive := fun t : State => t.scr.slotSf = s.scr.slotSf) _ _ rfl
    fun t h _ _ => (expireDesc_slotSf sf _ _ t).trans h

/-! Machines that hold nothing (R156). -/

/-- Machine `m` has the conformance result FAIL and no permit, live or covered. -/
structure Barred (m : Nat) (t : State) : Prop where
  conf : (safeMach t m).conf = false
  live : t.safe.permit.testBit (machineBit m) = false
  covered : t.safe.cPermit.testBit (machineBit m) = false

/-- Work that leaves the SAFE bay leaves a machine barred. -/
theorem Barred.of_safe {m : Nat} {t u : State} (h : Barred m t) (e : u.safe = t.safe) : Barred m u where
  conf := safeMach_congr (congrArg _ e) m ▸ h.conf
  live := e ▸ h.live
  covered := e ▸ h.covered

/-- What the SAFE bay keeps of a machine after it is changed for some machine. -/
theorem safeMach_modMach_at (n : Nat) (f : SafeMach → SafeMach) (t : State) (m : Nat) :
    safeMach (modMach n f t) m = if m = n then f (safeMach t n) else safeMach t m :=
  kget_kmod

/-- A change that gives no PASS leaves a machine barred. -/
theorem Barred.modMach {m : Nat} {t : State} (h : Barred m t) (n : Nat) {f : SafeMach → SafeMach}
    (hf : ∀ x, x.conf = false → (f x).conf = false) : Barred m (modMach n f t) where
  conf := by
    rw [safeMach_modMach_at]
    split
    · rename_i same
      exact hf _ (same ▸ h.conf)
    · exact h.conf
  live := h.live
  covered := h.covered

/-- A bit that is clear stays clear when a bit is cleared. -/
theorem testBit_setBitN_false {n i : Nat} (h : n.testBit i = false) (j : Nat) : (setBitN n j false).testBit i = false := by
  rw [testBit_setBitN]
  split
  · rfl
  · exact h

/-- The clearing of a live permit bit leaves a machine barred. -/
theorem Barred.liveClear {m : Nat} {t : State} (h : Barred m t) (n cause : Nat) : Barred m (liveClear n cause t) := by
  have cleared : Barred m (t.updSafe fun b =>
      { b with permit := setBitN b.permit (machineBit n) false, wdSince := setBitN b.wdSince (machineBit n) true,
               lastCause := cause }) :=
    ⟨h.conf, testBit_setBitN_false h.live _, h.covered⟩
  exact (cleared.modMach n (f := fun x => { x with lastCause := cause }) fun _ hx => hx).of_safe (noticeMach_safe _ _ _ _)

/-- A stop request leaves a machine barred. -/
theorem Barred.stopHome {m : Nat} {t : State} (h : Barred m t) (n : Nat) : Barred m (stopHome n t) := by
  unfold Machine.stopHome
  split
  · exact ⟨h.conf, h.live, h.covered⟩
  · exact h

/-- A counter leaves a machine barred. -/
theorem Barred.bump {m : Nat} {t : State} (h : Barred m t) (a : Nat) : Barred m (bump a t) :=
  h.of_safe ((bump_fol (kc := { regs := true }) rfl (.refl _ t)).safe rfl)

/-- A record of the recorder leaves a machine barred. -/
theorem Barred.evTrig {m : Nat} {t : State} (h : Barred m t) (i : Nat) (l : List Nat) : Barred m (evTrig i l t) :=
  h.of_safe (evTrig_safe i l t)

/-- A live withdrawal of some machine leaves a machine barred. -/
theorem Barred.liveWithdraw {m : Nat} {t : State} (h : Barred m t) (n cause : Nat) : Barred m (liveWithdraw n cause t) := by
  have stopped := ((h.liveClear n cause).bump Addr.SAFE_CNT_WITHDRAW).stopHome n
  unfold Machine.liveWithdraw
  split
  · dsimp only
    split
    · split
      · exact stopped.bump _
      · exact stopped
    · split
      · exact (stopped.bump _).evTrig _ _
      · exact stopped.evTrig _ _
  · exact h

/-- A withdrawal of some machine leaves a machine barred. -/
theorem Barred.withdraw {m : Nat} {t : State} (h : Barred m t) (pos : Nat × Nat) (n cause : Nat) :
    Barred m (withdraw pos n cause t) := by
  have live := h.liveWithdraw n cause
  unfold Machine.withdraw covWithdraw
  split
  · have covered := testBit_setBitN_false live.covered (machineBit n)
    unfold raiseEpoch
    split <;> exact ⟨live.conf, live.live, covered⟩
  · exact live

/-- The result FAIL of a machine that is withdrawn stands. -/
theorem Withdrawn.barred {m : Nat} {s t : State} (w : Withdrawn m s t) (hconf : (safeMach s m).conf = false) : Barred m t :=
  ⟨w.results.2.trans hconf, w.live, w.covered⟩

/-- A machine that holds nothing at the new slot is barred (R156). -/
theorem slotConf_bars (pos : Nat × Nat) {cur m : Nat} {t : State} (h : t.scr.cov.holdsAt cur m cur = false) :
    Barred m (slotConf pos cur m t) := by
  have failed : (safeMach (modMach m (fun x => { x with conf := false }) t) m).conf = false := by
    rw [safeMach_modMach]
  rw [slotConf, h, if_neg Bool.false_ne_true]
  dsimp only
  split
  · exact (((withdraw_withdraws pos m 10 _).barred failed).bump _).evTrig _ _
  · rename_i clear
    obtain ⟨covered, live⟩ := Bool.or_eq_false_iff.mp (Bool.eq_false_iff.mpr clear)
    exact ⟨failed, live, covered⟩

/-- A machine stays barred through the others (R156). -/
theorem Barred.slotConf {m : Nat} {t : State} (h : Barred m t) (pos : Nat × Nat) (cur n : Nat) :
    Barred m (slotConf pos cur n t) := by
  have failed := h.modMach n (f := fun x => { x with conf := false }) fun _ _ => rfl
  unfold Machine.slotConf
  split
  · exact h
  · dsimp only
    split
    · exact ((failed.withdraw pos n 10).bump _).evTrig _ _
    · exact failed

/-- The checks of the new slot leave the Screed. -/
theorem slotConf_scr (pos : Nat × Nat) (cur m : Nat) (t : State) : (slotConf pos cur m t).scr = t.scr :=
  (slotConf_fol (kc := { regs := true, gmp := true, safe := true, evr := true }) rfl rfl rfl rfl (.refl _ t)).scr rfl

/-- The machines of a part are those that its permit map has bits for. -/
theorem mem_machines {p : Part} {m : Nat} (h : isMachine p m = true) : m ∈ (List.range (machineCount p)).map machineAt := by
  obtain ⟨lo, hi⟩ := isMachine_bounds h
  exact List.mem_map.mpr ⟨m - 1, List.mem_range.mpr (by omega), Nat.sub_add_cancel lo⟩

/-- The checks of the new slot for every machine of the part (R156). -/
def slotConfAll (pos : Nat × Nat) (cur : Nat) (p : Part) (s : State) : State :=
  ((List.range (machineCount p)).map machineAt).foldl (fun t m => slotConf pos cur m t) s

theorem slotConfAll_scr (pos : Nat × Nat) (cur : Nat) (p : Part) (s : State) : (slotConfAll pos cur p s).scr = s.scr :=
  List.foldlRecOn (motive := fun t : State => t.scr = s.scr) _ _ rfl fun t h _ _ => (slotConf_scr pos cur _ t).trans h

/-- Every machine that holds nothing at the new slot is barred (R156). -/
theorem slotConfAll_bars (pos : Nat × Nat) {cur m : Nat} {s : State} {p : Part} (hm : isMachine p m = true)
    (h : (slotConfAll pos cur p s).scr.cov.holdsAt cur m cur = false) : Barred m (slotConfAll pos cur p s) := by
  refine foldl_reaches (P := fun m t => t.scr.cov.holdsAt cur m cur = false → Barred m t) (fun t m hold => ?_)
    (fun t n m bars hold => ?_) (mem_machines hm) s h
  · rw [slotConf_scr] at hold
    exact slotConf_bars pos hold
  · rw [slotConf_scr] at hold
    exact (bars hold).slotConf pos cur n

/-- SLOT_ADVANCE at a superframe that opens a slot expires, then checks every machine (R146, R156). -/
theorem execSlotAdvance_eq {s : State} (hsf : s.scr.slotSf < s.jr.sf)
    (hslot : slotOfSf s s.scr.slotSf < slotOfSf s s.jr.sf) :
    exec .slotAdvance s = .next (countJob 5 (slotConfAll (s.jr.sf, 0) (slotOfSf s s.jr.sf) s.part
      (expireAll s.jr.sf (slotOfSf s s.jr.sf) (s.updScr fun c => { c with slotSf := s.jr.sf })))) := by
  show execSlotAdvance s = _
  rw [execSlotAdvance, if_pos hsf, slotAdvance, if_neg (Nat.not_le.mpr hslot)]
  rfl

/-- The count of jobs leaves the SAFE bay. -/
theorem countJob_safe (k : Nat) (s : State) : (countJob k s).safe = s.safe :=
  (countJob_fol (kc := { regs := true }) rfl (.refl _ s)).safe rfl

/-- Settles O22: expiry visits every descriptor that ends before the new slot and makes no descriptor LIVE; the checks leave
the Screed, and each bars its machine where it holds nothing, which the checks of the others leave so. -/
theorem slotAdvanceExpiresAndChecks : Obligations.SlotAdvanceExpiresAndChecks := by
  intro s hsf hslot
  refine ⟨_, execSlotAdvance_eq hsf hslot, ?_⟩
  rw [countJob_scr]
  refine ⟨?_, fun m i _ => ?_, fun m hm hold => ?_⟩
  · rw [slotConfAll_scr, expireAll_slotSf]
    rfl
  · rw [slotConfAll_scr]
    exact expireAll_lasts _ _ _ (m * 8 + i)
  · obtain ⟨conf, live, covered⟩ := (slotConfAll_bars (s.jr.sf, 0) hm hold).of_safe (countJob_safe 5 _)
    exact ⟨conf, live, covered⟩

end Sys2Proof.Machine

/-!
Morton codes (06_zones R160): each step of the recursion adds two bits above those of the steps before it.
-/

namespace Sys2Proof.Machine

open Sys2Proof

/-- Bit `n` of both coordinates, as a number of two bits. -/
def mortonPair (n cx cy : Nat) : Nat := b2n (cx.testBit n) + 2 * b2n (cy.testBit n)

theorem mortonPair_lt (n cx cy : Nat) : mortonPair n cx cy < 4 := by
  unfold mortonPair b2n
  split <;> split <;> decide

/-- The two bits are those of the coordinates, CX first. -/
theorem testBit_mortonPair (n cx cy : Nat) :
    (mortonPair n cx cy).testBit 0 = cx.testBit n ∧ (mortonPair n cx cy).testBit 1 = cy.testBit n := by
  unfold mortonPair
  cases cx.testBit n <;> cases cy.testBit n <;> decide

/-- A step of the recursion puts the next pair above the bits that stand. -/
theorem mortonBits_succ (n cx cy : Nat) :
    mortonBits (n + 1) cx cy = 2 ^ (2 * n) * mortonPair n cx cy + mortonBits n cx cy := by
  rw [mortonBits, mortonPair, pow_mul]
  ring

/-- The code of `n` pairs has 2 `n` bits. -/
theorem mortonBits_lt (n cx cy : Nat) : mortonBits n cx cy < 2 ^ (2 * n) := by
  induction n with
  | zero => exact Nat.one_pos
  | succ n ih =>
    have pair := Nat.mul_le_mul_left (2 ^ (2 * n)) (Nat.le_of_lt_succ (mortonPair_lt n cx cy))
    have width : 2 ^ (2 * (n + 1)) = 2 ^ (2 * n) * 3 + 2 ^ (2 * n) := by ring
    rw [mortonBits_succ, width]
    exact Nat.add_lt_add_of_le_of_lt pair ih

/-- A bit of the next pair, or of those below it. -/
theorem testBit_mortonBits_succ (n cx cy j : Nat) : (mortonBits (n + 1) cx cy).testBit j =
    if j < 2 * n then (mortonBits n cx cy).testBit j else (mortonPair n cx cy).testBit (j - 2 * n) := by
  rw [mortonBits_succ, Nat.testBit_two_pow_mul_add _ (mortonBits_lt n cx cy)]

/-- The code of `n` pairs interleaves the low `n` bits of the coordinates. -/
theorem testBit_mortonBits {n i : Nat} (hi : i < n) (cx cy : Nat) :
    (mortonBits n cx cy).testBit (2 * i) = cx.testBit i ∧ (mortonBits n cx cy).testBit (2 * i + 1) = cy.testBit i := by
  induction n with
  | zero => exact absurd hi (Nat.not_lt_zero i)
  | succ n ih =>
    rw [testBit_mortonBits_succ, testBit_mortonBits_succ]
    rcases Nat.lt_succ_iff_lt_or_eq.mp hi with below | rfl
    · rw [if_pos (by omega), if_pos (by omega)]
      exact ih below
    · rw [if_neg (by omega), if_neg (by omega), Nat.sub_self, Nat.add_sub_cancel_left]
      exact testBit_mortonPair i cx cy

/-- Settles O57: sixteen steps of the recursion are 32 bits, and each puts its pair at bits 2i and 2i + 1. -/
theorem mortonCodeInterleaves : Obligations.MortonCodeInterleaves :=
  fun cx cy => ⟨mortonBits_lt 16 cx cy, fun _ hi => testBit_mortonBits hi cx cy⟩

end Sys2Proof.Machine

/-!
Zone records (06_zones R162, R171, R184; 13_tables R358): the staged zone table written back, a ZONE message, and the three
writes of SCR_ZONE_CTRL.
-/

namespace Sys2Proof.Machine

open Sys2Proof

/-! The staged zone table. -/

/-- The count of moves leaves the Screed and the lookup tables. -/
theorem countReloc_only (n : Nat) (s : State) : Follows { regs := true } s (countReloc n s) :=
  countReloc_fol rfl (.refl _ s)

/-- A table that is written back is the staged one; no other part of the Screed changes, the zones in force neither. -/
theorem setZoneTab_scr (t : ZoneTab) (s : State) : (setZoneTab t s).scr = { s.scr with staged := t.recs } :=
  (countReloc_only _ _).scr rfl

/-- The bank of a table that is written back is the SHADOW bank (13_tables R358). -/
theorem setZoneTab_lkp (t : ZoneTab) (s : State) : (setZoneTab t s).lkp = { s.lkp with zoneShadow := t.bank } :=
  (countReloc_only _ _).lkp rfl

section Entry

variable {h : GmpHdr} {x : Session} {b : GmpBody} {s u : State}

/-- The entry of a request leaves the staged zone table. -/
theorem Entered.zoneTab (e : Entered h x b s u) : zoneTab u = zoneTab s := by
  rw [Machine.zoneTab, Machine.zoneTab, e.fol.scr rfl, e.fol.lkp rfl]

/-- The entry of a request leaves the index that SCR_ZONE_IDX names. -/
theorem Entered.zoneIdx (e : Entered h x b s u) : cfg u Addr.SCR_ZONE_IDX 15 0 = cfg s Addr.SCR_ZONE_IDX 15 0 :=
  e.cfg_fix_scr _ (by decide) (by decide) _ _

/-- The entry of a request leaves the record that the data registers spell. -/
theorem Entered.zoneOfRegs (e : Entered h x b s u) (op : Nat) : zoneOfRegs u op = zoneOfRegs s op := by
  have attr := e.cfg_fix_scr Addr.SCR_ZONE_ATTR (by decide) (by decide)
  have pfx := e.cfg_fix_scr Addr.SCR_ZONE_PREFIX (by decide) (by decide)
  have cap := e.cfg_fix_scr Addr.SCR_ZONE_CAP (by decide) (by decide)
  simp only [Machine.zoneOfRegs, e.zoneIdx, attr, pfx, cap]

end Entry

/-- A message that needs CONFIG, from a sender who has it, is decided on the state with its entry; where its handler
completes it, it is answered so, and nothing but the answer follows the handler. -/
theorem gmpRequest_config {h : GmpHdr} {x : Session} {s : State} (m : GmpMay h x 1 10 s) (b : GmpBody) {f : Handler}
    {c : Touch} (hc : c.sess = false) (hr : c.role = false) (hf : ∀ r u, Follows c u (f r u).1) :
    ∃ u, Entered h x b s u ∧ ∀ v q, f ⟨h.sess, x.ident, h.reqId, (s.jr.sf, s.jr.nextSeq), false⟩ u = (v, some q) →
      Answered h (bodyType b) q.1 q.2 s (gmpRequest h b false true (needs 1) f s) ∧
        Follows { gmp := true, sess := true } v (gmpRequest h b false true (needs 1) f s) :=
  gmpRequest_answers m.toGmpReady b (fun _ w => m.right_words w) (fun _ => m.room) hc hr (fun u => hf _ u)

/-! ZONE (R171). -/

/-- Records that all apply are staged as the table they leave. -/
theorem zoneHandler_stages {rs : List ZoneRec} {c : ReqCtx} {s : State} {tab : ZoneTab}
    (hf : zoneFold 0 rs (zoneTab s) = (tab, none)) :
    zoneHandler rs c s = (setZoneTab tab s, some (stOk, indexBody 0xFFFF)) := by
  rw [zoneHandler, hf]

/-- A record that fails leaves what was staged before the message. -/
theorem zoneHandler_refuses {rs : List ZoneRec} {c : ReqCtx} {s : State} {tab : ZoneTab} {i st : Nat}
    (hf : zoneFold 0 rs (zoneTab s) = (tab, some (i, st))) : zoneHandler rs c s = (s, some (st, indexBody i)) := by
  rw [zoneHandler, hf]

/-- What a ZONE message may change beside its entry. -/
theorem zoneHandler_only (rs : List ZoneRec) (c : ReqCtx) (s : State) :
    Follows { regs := true, scr := true, lkp := true } s (zoneHandler rs c s).1 :=
  zoneHandler_fol rfl rfl rfl (.refl _ s)

section Zone

variable {h : GmpHdr} {x : Session} {s : State} {rs : List ZoneRec} {tab : ZoneTab}

/-- ZONE with a record goes through the request gate. -/
theorem execZone_eq (hrs : rs ≠ []) :
    exec (.zone h rs) s = .next (gmpRequest h (.zone rs) false true (needs 1) (zoneHandler rs) s) := by
  rw [← List.isEmpty_eq_false_iff.mpr hrs]
  rfl

/-- ZONE whose records all apply is staged whole (R171). -/
theorem execZone_stages (m : GmpMay h x 1 10 s) (hrs : rs ≠ []) (hf : zoneFold 0 rs (zoneTab s) = (tab, none)) :
    ∃ t, exec (.zone h rs) s = .next t ∧ Answered h 0x22 stOk (indexBody 0xFFFF) s t ∧
      t.scr = { s.scr with staged := tab.recs } ∧ t.lkp = { s.lkp with zoneShadow := tab.bank } := by
  obtain ⟨u, e, hd⟩ := gmpRequest_config m (.zone rs) rfl rfl (zoneHandler_only rs)
  obtain ⟨answered, rest⟩ := hd _ _ (zoneHandler_stages (e.zoneTab ▸ hf))
  refine ⟨_, execZone_eq hrs, answered, ?_, ?_⟩
  · rw [rest.scr rfl, setZoneTab_scr, e.fol.scr rfl]
  · rw [rest.lkp rfl, setZoneTab_lkp, e.fol.lkp rfl]

/-- ZONE with a record that fails stages nothing, and is answered with the first such record (R171). -/
theorem execZone_refuses (m : GmpMay h x 1 10 s) (hrs : rs ≠ []) {i st : Nat}
    (hf : zoneFold 0 rs (zoneTab s) = (tab, some (i, st))) :
    ∃ t, exec (.zone h rs) s = .next t ∧ Answered h 0x22 st (indexBody i) s t ∧ t.scr = s.scr ∧ t.lkp = s.lkp := by
  obtain ⟨u, e, hd⟩ := gmpRequest_config m (.zone rs) rfl rfl (zoneHandler_only rs)
  obtain ⟨answered, rest⟩ := hd _ _ (zoneHandler_refuses (e.zoneTab ▸ hf))
  exact ⟨_, execZone_eq hrs, answered, (rest.scr rfl).trans (e.fol.scr rfl), (rest.lkp rfl).trans (e.fol.lkp rfl)⟩

end Zone

/-! SCR_ZONE_CTRL (R184). -/

/-- A write of 1 to WRITE stages the record that the data registers spell. -/
theorem zoneCtrlWord_write (s : State) : zoneCtrlWord 1#32 s = zoneStage 1 s := by
  have write : bit 1#32 0 = true := by decide
  have delete : bit 1#32 1 = false := by decide
  have read : bit 1#32 2 = false := by decide
  simp [zoneCtrlWord, write, delete, read]

/-- A write of 1 to DELETE stages the delete that the data registers spell. -/
theorem zoneCtrlWord_delete (s : State) : zoneCtrlWord 2#32 s = zoneStage 2 s := by
  have write : bit 2#32 0 = false := by decide
  have delete : bit 2#32 1 = true := by decide
  have read : bit 2#32 2 = false := by decide
  simp [zoneCtrlWord, write, delete, read]

/-- A write of 1 to READ alone loads the data registers. -/
theorem zoneCtrlWord_read (s : State) : zoneCtrlWord 4#32 s = zoneRead s := by
  have write : bit 4#32 0 = false := by decide
  have delete : bit 4#32 1 = false := by decide
  have read : bit 4#32 2 = true := by decide
  simp [zoneCtrlWord, write, delete, read, isErr]

/-- A staged operation leaves the table that the record makes, and shows its status. -/
theorem zoneStage_scr (op : Nat) (s : State) : (zoneStage op s).1.scr =
    { s.scr with staged := (zoneApply (zoneOfRegs s op) (zoneTab s)).1.recs, zoneStatus := (zoneStage op s).2 } := by
  rw [zoneStage, zoneNote, updScr_scr, setZoneTab_scr]

/-- The staged record that SCR_ZONE_IDX names. -/
def zoneNamed (s : State) : Option Zone := kfind s.scr.staged (cfg s Addr.SCR_ZONE_IDX 15 0)

/-- READ is answered OK where a record is staged, and OK_EMPTY where none is. -/
theorem zoneRead_status (s : State) : (zoneRead s).2 = if (zoneNamed s).isSome then stOk else stEmpty := rfl

/-- READ shows whether a record is staged and the status, and leaves the rest of the Screed. -/
theorem zoneRead_scr (s : State) : (zoneRead s).1.scr =
    { s.scr with zonePresent := (zoneNamed s).isSome, zoneStatus := (zoneRead s).2 } := rfl

/-- The data registers loaded with a zone. -/
def zoneLoaded (z : Zone) (s : State) : State :=
  setForce (rkey Addr.SCR_ZONE_CAP) (wordOf (z.cap % 2 ^ 14))
    (setForce (rkey Addr.SCR_ZONE_ATTR) (wordOf (pack [(z.len, 0), (z.action, 6), (z.mask, 10)]))
      (setForce (rkey Addr.SCR_ZONE_PREFIX) (wordOf z.pfx) s))

theorem zoneLoaded_prefix (z : Zone) (s : State) : cfg (zoneLoaded z s) Addr.SCR_ZONE_PREFIX 31 0 = z.pfx % 2 ^ 32 := by
  rw [cfg, zoneLoaded, forceW_setForce, if_neg (by decide), forceW_setForce, if_neg (by decide), forceW_setForce, if_pos rfl]
  simp [fld, bitsOf, wordOf]

/-- READ of a staged record loads the data registers with it; what it shows beside them stands in the Screed. -/
theorem zoneRead_loads {s : State} {z : Zone} (hz : zoneNamed s = some z) :
    Follows { scr := true } (zoneLoaded z s) (zoneRead s).1 := by
  unfold zoneNamed at hz
  rw [zoneRead, hz]
  exact zoneNote_fol rfl (updScr_fol rfl (.refl _ _))

/-- READ of a staged record shows it in SCR_ZONE_PREFIX. -/
theorem zoneRead_prefix {s : State} {z : Zone} (hz : zoneNamed s = some z) :
    cfg (zoneRead s).1 Addr.SCR_ZONE_PREFIX 31 0 = z.pfx % 2 ^ 32 := by
  rw [cfg_words (Words.of_follows (P := fun _ => false) (zoneRead_loads hz) rfl) rfl, zoneLoaded_prefix]

section ZoneCtrl

variable {h : GmpHdr} {x : Session} {s : State}

/-- A write of SCR_ZONE_CTRL is decided on the state with its entry, and nothing but the answer follows it. -/
theorem zoneCtrl_answers (m : GmpMay h x 1 10 s) (v : Word) :
    ∃ u, Entered h x (.write [(Addr.SCR_ZONE_CTRL, v)]) s u ∧
      Answered h 0x02 (zoneCtrlWord v u).2 (indexBody (if isErr (zoneCtrlWord v u).2 then 0 else 0xFFFF)) s
        (gmpWord h Addr.SCR_ZONE_CTRL v 1 (zoneCtrlWord v) s) ∧
      Follows { gmp := true, sess := true } (zoneCtrlWord v u).1 (gmpWord h Addr.SCR_ZONE_CTRL v 1 (zoneCtrlWord v) s) :=
  gmpWord_answers m Addr.SCR_ZONE_CTRL v (c := { regs := true, scr := true, lkp := true }) rfl rfl
    (fun u => zoneCtrlWord_fol rfl rfl rfl (.refl _ u))

/-- The entry of a request leaves the staged record that SCR_ZONE_IDX names. -/
theorem Entered.zoneNamed {b : GmpBody} {u : State} (e : Entered h x b s u) : zoneNamed u = zoneNamed s := by
  rw [Machine.zoneNamed, Machine.zoneNamed, e.fol.scr rfl, e.zoneIdx]

/-- WRITE of SCR_ZONE_CTRL stages the record of the data registers, or shows why not (R171, R184). -/
theorem execZoneWrite_stages (m : GmpMay h x 1 10 s) {tab : ZoneTab} {st : Nat}
    (ha : zoneApply (zoneOfRegs s 1) (zoneTab s) = (tab, st)) :
    ∃ t, exec (.zoneWrite h) s = .next t ∧ Answered h 0x02 st (indexBody (if isErr st then 0 else 0xFFFF)) s t ∧
      t.scr = { s.scr with staged := tab.recs, zoneStatus := st } := by
  obtain ⟨u, e, answered, rest⟩ := zoneCtrl_answers m 1#32
  have applied : zoneApply (zoneOfRegs u 1) (zoneTab u) = (tab, st) := by rw [e.zoneOfRegs, e.zoneTab, ha]
  have status : (zoneStage 1 u).2 = st := congrArg Prod.snd applied
  rw [zoneCtrlWord_write] at answered rest
  rw [status] at answered
  refine ⟨_, rfl, answered, ?_⟩
  rw [rest.scr rfl, zoneStage_scr, status, applied, e.fol.scr rfl]

/-- DELETE of SCR_ZONE_CTRL stages the delete of the index, which never fails (R170, R184). -/
theorem execZoneDelete_stages (m : GmpMay h x 1 10 s) :
    ∃ t, exec (.zoneDelete h) s = .next t ∧ Answered h 0x02 stOk (indexBody 0xFFFF) s t ∧
      t.scr = { s.scr with staged := kdel s.scr.staged (cfg s Addr.SCR_ZONE_IDX 15 0), zoneStatus := stOk } := by
  obtain ⟨u, e, answered, rest⟩ := zoneCtrl_answers m 2#32
  have deleted : (zoneApply (zoneOfRegs u 2) (zoneTab u)).1.recs = kdel u.scr.staged (cfg u Addr.SCR_ZONE_IDX 15 0) := rfl
  have status : (zoneStage 2 u).2 = stOk := rfl
  rw [zoneCtrlWord_delete] at answered rest
  rw [status] at answered
  refine ⟨_, rfl, answered, ?_⟩
  rw [rest.scr rfl, zoneStage_scr, status, deleted, e.zoneIdx, e.fol.scr rfl]

/-- READ of SCR_ZONE_CTRL where a record is staged loads SCR_ZONE_PREFIX from it (R184). -/
theorem execZoneRead_shows (m : GmpMay h x 1 10 s) {z : Zone} (hz : zoneNamed s = some z) :
    ∃ t, exec (.zoneRead h) s = .next t ∧ Answered h 0x02 stOk (indexBody 0xFFFF) s t ∧
      t.scr = { s.scr with zonePresent := true, zoneStatus := stOk } ∧
      cfg t Addr.SCR_ZONE_PREFIX 31 0 = z.pfx % 2 ^ 32 := by
  obtain ⟨u, e, answered, rest⟩ := zoneCtrl_answers m 4#32
  have named : zoneNamed u = some z := e.zoneNamed.trans hz
  have status : (zoneRead u).2 = stOk := by rw [zoneRead_status, named]; rfl
  rw [zoneCtrlWord_read] at answered rest
  rw [status] at answered
  refine ⟨_, rfl, answered, ?_, ?_⟩
  · rw [rest.scr rfl, zoneRead_scr, status, named, e.fol.scr rfl]
    rfl
  · rw [cfg_words (Words.of_follows (P := fun _ => false) rest rfl) rfl, zoneRead_prefix named]

/-- READ of SCR_ZONE_CTRL where none is staged is answered OK_EMPTY (R184). -/
theorem execZoneRead_empty (m : GmpMay h x 1 10 s) (hz : zoneNamed s = none) :
    ∃ t, exec (.zoneRead h) s = .next t ∧ Answered h 0x02 stEmpty (indexBody 0xFFFF) s t ∧
      t.scr = { s.scr with zonePresent := false, zoneStatus := stEmpty } := by
  obtain ⟨u, e, answered, rest⟩ := zoneCtrl_answers m 4#32
  have named : zoneNamed u = none := e.zoneNamed.trans hz
  have status : (zoneRead u).2 = stEmpty := by rw [zoneRead_status, named]; rfl
  rw [zoneCtrlWord_read] at answered rest
  rw [status] at answered
  refine ⟨_, rfl, answered, ?_⟩
  rw [rest.scr rfl, zoneRead_scr, status, named, e.fol.scr rfl]
  rfl

end ZoneCtrl

/-- Settles O25: the entry of a request leaves the staged table and the data registers, so what stages records decides as
it would have before the entry, and it writes the staged copies alone. -/
theorem zoneRecordsAreStaged : Obligations.ZoneRecordsAreStaged := by
  refine fun h x s m => ⟨fun _ _ hrs hf => execZone_stages m hrs hf, fun _ _ _ _ hrs hf => execZone_refuses m hrs hf,
    fun tab st ha => ?_, ?_, fun z hz => ?_, fun hz => ?_⟩
  · obtain ⟨t, hexec, answered, scr⟩ := execZoneWrite_stages m ha
    exact ⟨t, hexec, answered, by rw [scr]; exact ⟨rfl, rfl, rfl⟩⟩
  · obtain ⟨t, hexec, answered, scr⟩ := execZoneDelete_stages m
    exact ⟨t, hexec, answered, by rw [scr]; exact ⟨rfl, rfl, rfl⟩⟩
  · obtain ⟨t, hexec, answered, scr, pfx⟩ := execZoneRead_shows m hz
    exact ⟨t, hexec, answered, by rw [scr], pfx, by rw [scr]⟩
  · obtain ⟨t, hexec, answered, scr⟩ := execZoneRead_empty m hz
    exact ⟨t, hexec, answered, by rw [scr]; exact ⟨rfl, rfl⟩⟩

end Sys2Proof.Machine

/-!
Tasks (06_zones R172 to R174, R182): what a task message, a withdraw and a connector come to at their positions.
-/

namespace Sys2Proof.Machine

open Sys2Proof

/-! The tasks that are held. -/

/-- A reference is looked up in the tasks alone. -/
theorem findTask_congr {s u : State} (scr : u.scr = s.scr) (ref : Nat) : findTask u ref = findTask s ref := by
  rw [findTask, findTask, scr]

/-- The task that a reference names is held at its index (R173). -/
theorem findTask_held {s : State} {ref i : Nat} {k : Task} (hf : findTask s ref = .inr (i, k)) :
    kfind s.scr.tasks i = some k := by
  unfold findTask at hf
  dsimp only at hf
  split at hf
  · cases hf
  · split at hf
    · split at hf
      · cases hf
        assumption
      · cases hf
    · cases hf

/-- The capabilities of a machine stand through the entry of a request. -/
theorem Entered.hasCaps {h : GmpHdr} {x : Session} {b : GmpBody} {s u : State} (e : Entered h x b s u) {m : Nat}
    (hm : m ≤ 256) (mask : Nat) : hasCaps u m mask = hasCaps s m mask := by
  have other : enteredWord (wkey Addr.SCR_ALLOT_SEL m Addr.SCR_ALLOT_MACH) = false := by
    simp only [enteredWord, entryWords, rkey, wkey, Addr.TOP_CFG_ALARM, Addr.NET_CNT, Addr.SCHED_CLASS_SEL,
      Addr.SCHED_CLASS_CNT_JOBS, Addr.SCR_ALLOT_SEL, Addr.SCR_ALLOT_MACH, Bool.or_eq_false_iff, beq_eq_false_iff_ne]
    omega
  rw [Machine.hasCaps, Machine.hasCaps, capOf, capOf, cfgW_words e.words other]

/-! TASK (R172, R173). -/

/-- A new task at an index, under the next SEQ of that index. -/
def newTask (i : Nat) (b : TaskBody) (c : ScrS) : Task := ⟨.waiting, (kget 0 c.taskSeq i + 1) % 256, b, 0, 0⟩

/-- The Screed with a task taken at an index. -/
def ScrS.takeTask (i : Nat) (b : TaskBody) (c : ScrS) : ScrS :=
  { c with tasks := kins c.tasks i (newTask i b c), taskSeq := kset 0 c.taskSeq i (newTask i b c).seq }

/-- A task with good fields takes the lowest free index. -/
theorem taskHandler_takes {b : TaskBody} {c : ReqCtx} {s : State} (hf : taskFields (slotOfSf s c.pos.1) b = true)
    (room : s.scr.tasks.length < 4096) :
    taskHandler b c s = (s.updScr (·.takeTask (freeTask 0 s.scr.tasks) b),
      some (stOk, be 4 (taskRef (freeTask 0 s.scr.tasks) (newTask (freeTask 0 s.scr.tasks) b s.scr).seq))) := by
  rw [taskHandler, hf, Bool.not_true, if_neg Bool.false_ne_true, if_neg (Nat.not_le.mpr room)]
  rfl

section Requests

variable {h : GmpHdr} {x : Session} {s : State}

/-- TASK with a waypoint goes through the request gate. -/
theorem execTask_eq {b : TaskBody} (hw : b.wps ≠ []) :
    exec (.task h b) s = .next (gmpRequest h (.task b) false true (needs 1) (taskHandler b) s) := by
  rw [← List.isEmpty_eq_false_iff.mpr hw]
  rfl

/-- TASK with good fields is taken at the lowest free index, and answered with its reference. -/
theorem execTask_takes (m : GmpMay h x 1 10 s) {b : TaskBody} (hw : b.wps ≠ [])
    (hf : taskFields (slotOfSf s s.jr.sf) b = true) (room : s.scr.tasks.length < 4096) :
    ∃ t, exec (.task h b) s = .next t ∧
      Answered h 0x23 stOk (be 4 (taskRef (freeTask 0 s.scr.tasks) (newTask (freeTask 0 s.scr.tasks) b s.scr).seq)) s t ∧
      t.scr = s.scr.takeTask (freeTask 0 s.scr.tasks) b := by
  obtain ⟨u, e, hd⟩ := gmpRequest_config m (.task b) (f := taskHandler b) (c := { scr := true }) rfl rfl
    (fun _ u => taskHandler_fol rfl (.refl _ u))
  have scr : u.scr = s.scr := e.fol.scr rfl
  obtain ⟨answered, rest⟩ := hd _ _ (taskHandler_takes (by rw [e.slotOfSf]; exact hf) (scr ▸ room))
  rw [scr] at answered
  refine ⟨_, execTask_eq hw, answered, ?_⟩
  rw [rest.scr rfl, updScr_scr, scr]

/-! WITHDRAW (R174). -/

/-- A task that is dropped is all that the Screed loses. -/
theorem dropTask_scr (i : Nat) (n : TaskNotice) (s : State) :
    (dropTask i n s).scr = { s.scr with tasks := kdel s.scr.tasks i } :=
  sendNotice_scr n _

/-- A withdraw of a task that is not ASSIGNED drops it. -/
theorem withdrawHandler_drops {ref i : Nat} {k : Task} {s : State} (hf : findTask s ref = .inr (i, k))
    (hst : k.st ≠ .assigned) (c : ReqCtx) :
    withdrawHandler ref c s = (dropTask i ⟨ref, 7, 0, 0xFFFE, 0, c.pos.1⟩ s, some (stOk, [])) := by
  simp only [withdrawHandler, hf, if_neg hst]

/-- WITHDRAW of a task that is not ASSIGNED frees it. -/
theorem execWithdraw_frees (m : GmpMay h x 1 10 s) {ref i : Nat} {k : Task} (hf : findTask s ref = .inr (i, k))
    (hst : k.st ≠ .assigned) :
    ∃ t, exec (.withdraw h ref) s = .next t ∧ Answered h 0x24 stOk [] s t ∧
      t.scr = { s.scr with tasks := kdel s.scr.tasks i } := by
  obtain ⟨u, e, hd⟩ := gmpRequest_config m (.withdraw ref) (f := withdrawHandler ref)
    (c := { regs := true, gmp := true, scr := true }) rfl rfl (fun _ u => withdrawHandler_fol rfl rfl rfl (.refl _ u))
  have scr : u.scr = s.scr := e.fol.scr rfl
  obtain ⟨answered, rest⟩ := hd _ _ (withdrawHandler_drops (findTask_congr scr ref ▸ hf) hst _)
  refine ⟨_, rfl, answered, ?_⟩
  rw [rest.scr rfl, dropTask_scr, scr]

end Requests

/-! CONNECTOR (R182). -/

/-- A task that is held, ASSIGNED. -/
theorem assignTask_scr {s : State} {i : Nat} {k : Task} (hk : kfind s.scr.tasks i = some k) (m resId : Nat) :
    (assignTask i m resId s).scr =
      { s.scr with tasks := kins s.scr.tasks i { k with st := .assigned, machine := m, resId := resId } } := by
  rw [assignTask, hk]
  rfl

/-- The track request that a connector makes of its task. -/
def connTrack (cur : Nat) (b : ConnBody) (k : Task) : TrackBody := taskTrack cur b.machine b.wps k.body

/-- What a connector asks of its task and its machine before it is handed to the Screed (R182). -/
structure ConnGood (s : State) (cur : Nat) (b : ConnBody) (i : Nat) (k : Task) : Prop where
  zero0 : b.zero0 = 0
  zero1 : b.zero1 = 0
  machine : isMachine s.part b.machine = true
  task : findTask s b.ref = .inr (i, k)
  free : k.st ≠ .assigned
  caps : hasCaps s b.machine k.body.capMask = true
  fields : trackFields s.part cur (connTrack cur b k) = true

/-- A good connector stays good through the entry of its request. -/
theorem ConnGood.entered {h : GmpHdr} {x : Session} {g : GmpBody} {s u : State} {cur i : Nat} {b : ConnBody} {k : Task}
    (c : ConnGood s cur b i k) (e : Entered h x g s u) : ConnGood u cur b i k where
  zero0 := c.zero0
  zero1 := c.zero1
  machine := e.fol.part ▸ c.machine
  task := (findTask_congr (e.fol.scr rfl) _).trans c.task
  free := c.free
  caps := (e.hasCaps ((isMachine_bounds c.machine).2.trans (machineCount_le _)) _).trans c.caps
  fields := e.fol.part ▸ c.fields

/-- The notice of a connector that got its task. -/
def connNotice (b : ConnBody) (sf : Nat) (r : TrackRes) : Option TaskNotice :=
  if r.status = stOk then some ⟨b.ref, 1, stOk, b.machine, r.resId, sf⟩ else none

/-- A good connector is handed to the Screed, and where it is clear its task is ASSIGNED. -/
theorem connectorHandler_submits {b : ConnBody} {c : ReqCtx} {s : State} {cur i : Nat} {k : Task}
    (hcur : slotOfSf s c.pos.1 = cur) (g : ConnGood s cur b i k) :
    connectorHandler b c s =
      (if (submitTrack c (connTrack cur b k) (connNotice b c.pos.1) s).2.status = stOk then
        assignTask i b.machine (submitTrack c (connTrack cur b k) (connNotice b c.pos.1) s).2.resId
          (submitTrack c (connTrack cur b k) (connNotice b c.pos.1) s).1
      else (submitTrack c (connTrack cur b k) (connNotice b c.pos.1) s).1, none) := by
  have form : ¬ (b.zero0 ≠ 0 ∨ b.zero1 ≠ 0 ∨ (!isMachine s.part b.machine) = true) := by
    simp [g.zero0, g.zero1, g.machine]
  have good : (!trackFields s.part cur (taskTrack cur b.machine b.wps k.body) ||
      !hasCaps s b.machine k.body.capMask) = false := by
    rw [← connTrack, g.fields, g.caps]
    rfl
  simp only [connectorHandler, hcur, if_neg form, g.task, good, Bool.false_eq_true, if_false, if_neg g.free]
  rfl

/-- The insert of a good connector waits as the newest, and its task is ASSIGNED where its result is OK. -/
theorem connectorHandler_scr {b : ConnBody} {c : ReqCtx} {s : State} {cur i : Nat} {k : Task}
    (hcur : slotOfSf s c.pos.1 = cur) (g : ConnGood s cur b i k) :
    ∃ v p, connectorHandler b c s = (v, none) ∧ v.scr.inserts = s.scr.inserts ++ [p] ∧
      p.ident = c.ident ∧ p.reqId = c.reqId ∧ p.machine = b.machine ∧ v.scr.tasks = (if p.res.status = stOk then
        kins s.scr.tasks i { k with st := .assigned, machine := b.machine, resId := p.res.resId } else s.scr.tasks) := by
  obtain ⟨p, scr, ident, reqId, machine, res⟩ := submitTrack_scr c (connTrack cur b k) (connNotice b c.pos.1) s
  have result : (submitTrack c (connTrack cur b k) (connNotice b c.pos.1) s).2 = p.res := res.symm
  rw [connectorHandler_submits hcur g, result]
  generalize (submitTrack c (connTrack cur b k) (connNotice b c.pos.1) s).1 = v at scr
  have held : kfind v.scr.tasks i = some k := by
    rw [scr]
    exact findTask_held g.task
  refine ⟨_, p, rfl, ?_⟩
  split
  · rw [assignTask_scr held, scr]
    exact ⟨rfl, ident, reqId, machine, rfl⟩
  · rw [scr]
    exact ⟨rfl, ident, reqId, machine, rfl⟩

section Connector

variable {h : GmpHdr} {x : Session} {s : State} {b : ConnBody} {i : Nat} {k : Task}

/-- CONNECTOR with a waypoint goes through the request gate. -/
theorem execConnector_eq (hw : b.wps ≠ []) :
    exec (.connector h b) s = .next (gmpRequest h (.connector b) false true (needs 1) (connectorHandler b) s) := by
  rw [← List.isEmpty_eq_false_iff.mpr hw]
  rfl

/-- CONNECTOR for a task that its machine can do waits as the newest insert, and where it is clear ASSIGNs the task. -/
theorem execConnector_submits (m : GmpMay h x 1 10 s) (hw : b.wps ≠ []) (g : ConnGood s (slotOfSf s s.jr.sf) b i k) :
    ∃ t p, exec (.connector h b) s = .next t ∧ t.scr.inserts = s.scr.inserts ++ [p] ∧ p.ident = x.ident ∧
      p.reqId = h.reqId ∧ p.machine = b.machine ∧ t.scr.tasks = (if p.res.status = stOk then
        kins s.scr.tasks i { k with st := .assigned, machine := b.machine, resId := p.res.resId } else s.scr.tasks) := by
  obtain ⟨u, e, hd⟩ := gmpRequest_done m.toGmpReady (.connector b) (adm := true) (ok := needs 1)
    (fun _ w => m.right_words w) (fun _ => m.room)
  obtain ⟨v, p, decided, inserts, ident, reqId, machine, tasks⟩ := connectorHandler_scr
    (c := ⟨h.sess, x.ident, h.reqId, (s.jr.sf, s.jr.nextSeq), false⟩) (e.slotOfSf s.jr.sf) (g.entered e)
  rw [e.fol.scr rfl] at inserts tasks
  refine ⟨v, p, ?_, inserts, ident, reqId, machine, tasks⟩
  rw [execConnector_eq hw, hd, decided]

end Connector

/-- Settles O26: the entry of a request leaves the tasks, the slot and the capabilities, so its handler decides as it would
have before the entry. -/
theorem tasksAreHeldWithdrawnAndAssigned : Obligations.TasksAreHeldWithdrawnAndAssigned := by
  refine fun h x s m => ⟨fun b hw hf room => ?_, fun _ _ _ hf hst => execWithdraw_frees m hf hst,
    fun b i k hw zero0 zero1 machine task free caps fields => ?_⟩
  · obtain ⟨t, hexec, answered, scr⟩ := execTask_takes m hw hf room
    exact ⟨t, _, hexec, rfl, answered, by rw [scr]; exact kfind_kins.trans (if_pos rfl)⟩
  · obtain ⟨t, p, hexec, inserts, ident, reqId, mach, tasks⟩ := execConnector_submits m hw
      ⟨zero0, zero1, machine, task, free, caps, fields⟩
    refine ⟨t, p, hexec, inserts, ident, reqId, mach, fun ok => ?_, fun failed => ?_⟩
    · rw [tasks, if_pos ok, kfind_kins, if_pos rfl]
    · rw [tasks, if_neg failed]

end Sys2Proof.Machine

/-!
AWARD and the scheduler's jobs (06_zones R180; 11_scheduler R307, R308, R323): the job that an award completes may wake
another of its machine, and the largest depth of that job's kind is kept in a register reckoned from the kind.
-/

namespace Sys2Proof.Machine

open Sys2Proof

/-- A kind that no class has (11_scheduler R304), and whose depth register, reckoned as those of the nine kinds are, is
SCR_CNT_AWARD. -/
def strayKind : Nat := (Addr.SCR_CNT_AWARD - Addr.SCHED_KIND_DEPTH) / 4

/-- A READY insert of machine 1. -/
def readyInsert : Job :=
  { cls := 3, kind := 2, covered := true, snag := false, preempted := false, late := false, chained := false, status := 0,
    sf := 0, seq := 0, object := 1, deadline := none, ready := 0, input := 0, context := none, st := .ready, engine := 0,
    flight := false, order := 0 }

/-- The insert that waits behind it names `strayKind`. -/
def strayInsert : Job :=
  { readyInsert with kind := strayKind, chained := true, st := .waiting, order := 1 }

/-- Machine 1 is given a task, and the two inserts of that machine stand in the scheduler. -/
def strayAward : State :=
  { State.reset with
    scr := { State.reset.scr with awards := [⟨TrackRes.blank stOk 5, 1, 0, ⟨taskRef 0 1, 1, stOk, 1, 0x10001, 100⟩⟩] }
    sched := { State.reset.sched with jobs := [(0, readyInsert), (1, strayInsert)] } }

theorem strayAward_count : cfg strayAward Addr.SCR_CNT_AWARD 31 0 = 0 := by decide +kernel

/-- The award completes the READY insert, which wakes the one behind it: the depth 1 of its kind goes to bits 28:16 of
SCR_CNT_AWARD before the award itself is counted. -/
theorem execAward_strayAward :
    ∃ t, exec .award strayAward = .next t ∧ cfg t Addr.SCR_CNT_AWARD 31 0 = 2 ^ 16 + 1 :=
  ⟨_, rfl, by decide +kernel⟩

/-- Refutes O27: the clause on AWARD says of every state that SCR_CNT_AWARD gains one, and asks nothing of the jobs that
stand in the scheduler. In `strayAward` the job that the award completes wakes one whose kind is none of 11_scheduler
R304. The largest depth of that kind is kept at SCHED_KIND_DEPTH + 4 * kind, which is SCR_CNT_AWARD: the counter goes from 0
to 65,537. Jobs that `newJob` makes have the kind of their class. -/
theorem not_allotmentRoundsRun : ¬ Obligations.AllotmentRoundsRun := by
  intro rounds
  obtain ⟨-, -, awards⟩ := rounds strayAward
  obtain ⟨t, hexec, -, -, counted, -⟩ := awards _ [] rfl
  obtain ⟨u, hexec', count⟩ := execAward_strayAward
  obtain rfl := Host.Outcome.next.inj (hexec.symm.trans hexec')
  have one := counted rfl
  rw [count, strayAward_count] at one
  exact absurd one (by decide)

end Sys2Proof.Machine

/-!
The stopped state (07_motion_safety R193, R194, R203, R208, R209): what reset leaves of the SAFE bay and of the register
store, and that no step leaves a permit bit set under the live global latch.
-/

namespace Sys2Proof.Machine

open Sys2Proof

/-- The register store of the reset state is in canonical form. -/
theorem reset_canon : State.reset.regs.canon State.reset.part = true := by decide

/-- Settles O16: the fields are those that the reset state is written with. -/
theorem resetIsStoppedWithACanonicalStore : Obligations.ResetIsStoppedWithACanonicalStore :=
  ⟨⟨rfl, rfl, rfl, rfl, rfl, rfl, rfl, rfl⟩, reset_canon⟩

/-- Settles O17: what a step runs follows the state with the front of the queue taken off, in which the SAFE bay is that of
the state before. All such work keeps the map clear under the latch: the latch is set only with the map cleared (R194), and
a release is refused while it is set (R208). -/
theorem noPermitUnderTheLatch : Obligations.NoPermitUnderTheLatch := by
  intro s t calm h
  obtain ⟨k, work⟩ := step_follows h
  exact work.calm calm

end Sys2Proof.Machine

/-!
The SAFE bay's live and covered states (07_motion_safety R34, R48, R189 to R194, R209): what a live action changes of the bay,
what an effect at a position changes of it, and that neither changes what is the other's.
-/

namespace Sys2Proof.Machine

open Sys2Proof

/-! Bits and fields. -/

/-- Clearing a bit that is clear changes nothing. -/
theorem setBitN_of_clear {n i : Nat} (h : n.testBit i = false) : setBitN n i false = n := by
  simp [setBitN, h]

/-- A bit that is set or cleared reads so. -/
theorem testBit_setBitN_same (n i : Nat) (b : Bool) : (setBitN n i b).testBit i = b :=
  testBit_setBitN.trans (if_pos rfl)

/-- A field of a word after it is set. -/
theorem fld_setFld {hi lo : Nat} (order : lo ≤ hi) (width : hi < 32) (w : Word) (v : Nat) :
    fld (setFld w hi lo v) hi lo = v % 2 ^ (hi + 1 - lo) := by
  obtain ⟨k, rfl⟩ := Nat.exists_eq_add_of_le order
  have size : lo + k + 1 - lo = k + 1 := by omega
  have room : 2 ^ 32 = 2 ^ lo * 2 ^ (32 - lo) := by rw [← pow_add]; congr 1; omega
  have dvd : 2 ^ (k + 1) ∣ 2 ^ (32 - lo) := pow_dvd_pow 2 (by omega)
  have taken : w.toNat - w.toNat / 2 ^ lo % 2 ^ (k + 1) * 2 ^ lo =
      2 ^ lo * (2 ^ (k + 1) * (w.toNat / 2 ^ lo / 2 ^ (k + 1))) + w.toNat % 2 ^ lo := by
    have outer := Nat.div_add_mod w.toNat (2 ^ lo)
    have inner := Nat.div_add_mod (w.toNat / 2 ^ lo) (2 ^ (k + 1))
    have all := congrArg (2 ^ lo * ·) inner
    simp only [Nat.mul_add] at all
    rw [Nat.mul_comm _ (2 ^ lo)]
    omega
  rw [fld, setFld, bitsOf, bitsOf, size, BitVec.toNat_ofNat, room, Nat.mod_mul_right_div_self, Nat.mod_mod_of_dvd _ dvd, taken,
    Nat.add_assoc, Nat.add_comm (w.toNat % 2 ^ lo), ← Nat.add_assoc, Nat.mul_comm (v % _), ← Nat.mul_add,
    Nat.mul_add_div (Nat.two_pow_pos lo), Nat.div_eq_of_lt (Nat.mod_lt _ (Nat.two_pow_pos lo)), Nat.add_zero, Nat.mul_add_mod,
    Nat.mod_mod]

/-- A counter after it is raised. -/
theorem cfg_bumpF {hi lo : Nat} (order : lo ≤ hi) (width : hi < 32) (a n : Nat) (s : State) :
    cfg (bumpF a hi lo n s) a hi lo = sat (hi + 1 - lo) (cfg s a hi lo + n) := by
  have held : sat (hi + 1 - lo) (cfg s a hi lo + n) < 2 ^ (hi + 1 - lo) :=
    Nat.lt_of_le_of_lt (min_le_right _ _) (Nat.sub_lt (Nat.two_pow_pos _) Nat.one_pos)
  rw [bumpF, putFld, cfg, forceW_setForce, if_pos rfl, fld_setFld order width, Nat.mod_eq_of_lt held]


/-! What an action may change (R48). -/

/-- What withdrawals and group stops leave of the SAFE bay: all but the map, the group latches, what they record, and the
requests at the ports. -/
def SafeS.rest (b : SafeS) : SafeS := { b with permit := 0, groups := 0, lastCause := 0, wdSince := 0, mach := [], ports := [] }

/-- What an effect at a position leaves of the SAFE bay: all but the covered state (R48). -/
def SafeS.live (b : SafeS) : SafeS :=
  { b with cPermit := 0, cLatch := false, cGroups := 0, epoch := 0, epochAt := none, arm := none, cInput := .inputStop,
           cFaults := 0, missed := 0 }

/-! Notices, counters and stop requests (R194, R195). -/

theorem bump_safe (a : Nat) (s : State) : (bump a s).safe = s.safe :=
  (bump_fol (kc := { regs := true }) rfl (.refl _ s)).safe rfl

theorem alarm_safe (a b : Nat) (s : State) : (alarm a b s).safe = s.safe :=
  (alarm_fol (kc := { regs := true }) rfl (.refl _ s)).safe rfl

theorem noticeLatch_safe (who ev cause : Nat) (s : State) : (noticeLatch who ev cause s).safe = s.safe :=
  (noticeLatch_fol (kc := { regs := true, gmp := true }) rfl rfl (.refl _ s)).safe rfl

theorem eligWatch_safe (old s : State) : (eligWatch old s).safe = s.safe :=
  (eligWatch_fol (kc := { regs := true, evr := true }) rfl rfl (.refl _ s)).safe rfl

theorem faultRecord_safe (s : State) : (faultRecord s).safe = s.safe :=
  (faultRecord_fol (kc := { regs := true, evr := true }) rfl rfl (.refl _ s)).safe rfl

theorem jWrite_safe (src arr : Nat) (p : Payload) (s : State) : (jWrite src arr p s).safe = s.safe :=
  (jWrite_only src arr p s).safe rfl

/-- A stop request at a machine's home port changes nothing but the requests. -/
theorem stopHome_ports (m : Nat) (s : State) : ∃ p, (stopHome m s).safe = { s.safe with ports := p } := by
  unfold stopHome
  split <;> exact ⟨_, rfl⟩

/-- Stop requests at every port change nothing but the requests. -/
theorem stopAll_ports (s : State) : ∃ p, (stopAll s).safe = { s.safe with ports := p } :=
  List.foldlRecOn (motive := fun t : State => ∃ p, t.safe = { s.safe with ports := p }) _ _ ⟨_, rfl⟩ fun t h k _ => by
    obtain ⟨p, hp⟩ := h
    exact ⟨_, by rw [stopAt, updSafe_safe, hp]⟩

/-! Live actions (R34, R191, R194). -/

/-- The clearing of a live bit leaves the rest of the bay. -/
theorem liveClear_rest (m cause : Nat) (s : State) : (liveClear m cause s).safe.rest = s.safe.rest := by
  rw [liveClear, noticeMach_safe]
  rfl

/-- A stop request leaves the rest of the bay. -/
theorem stopHome_rest (m : Nat) (s : State) : (stopHome m s).safe.rest = s.safe.rest := by
  obtain ⟨p, hp⟩ := stopHome_ports m s
  rw [hp]
  rfl

/-- The live clearing of several bits leaves the rest of the bay. -/
theorem foldl_liveClear_rest (cause : Nat) (l : List Nat) (s : State) :
    (l.foldl (fun t m => liveClear m cause t) s).safe.rest = s.safe.rest :=
  List.foldlRecOn (motive := fun t : State => t.safe.rest = s.safe.rest) _ _ rfl
    fun t h m _ => (liveClear_rest m cause t).trans h

/-- A withdrawal of a set bit clears it and records the cause; what follows is counted and asks the home port to stop. -/
theorem liveWithdraw_safe {m : Nat} {s : State} (hset : s.safe.permit.testBit (machineBit m) = true) (cause : Nat) :
    ∃ p, (liveWithdraw m cause s).safe = { (liveClear m cause s).safe with ports := p } := by
  obtain ⟨p, hp⟩ := stopHome_ports m (bump Addr.SAFE_CNT_WITHDRAW (liveClear m cause s))
  refine ⟨p, ?_⟩
  rw [bump_safe] at hp
  rw [liveWithdraw, if_pos hset]
  dsimp only
  generalize stopHome m (bump Addr.SAFE_CNT_WITHDRAW (liveClear m cause s)) = u at hp
  have counted : (if cause = 13 then bump Addr.SAFE_CNT_LEASE u else u).safe = u.safe := by
    split
    · exact bump_safe _ u
    · rfl
  split
  · rw [counted, hp]
  · rw [evTrig_safe, counted, hp]

/-- A live withdrawal leaves the rest of the bay. -/
theorem liveWithdraw_rest (m cause : Nat) (s : State) : (liveWithdraw m cause s).safe.rest = s.safe.rest := by
  by_cases hset : s.safe.permit.testBit (machineBit m) = true
  · obtain ⟨p, hp⟩ := liveWithdraw_safe hset cause
    rw [hp]
    exact liveClear_rest m cause s
  · rw [liveWithdraw, if_neg hset]

/-- The live map after a withdrawal. -/
theorem liveWithdraw_permit (m cause : Nat) (s : State) :
    (liveWithdraw m cause s).safe.permit = setBitN s.safe.permit (machineBit m) false := by
  by_cases hset : s.safe.permit.testBit (machineBit m) = true
  · obtain ⟨p, hp⟩ := liveWithdraw_safe hset cause
    rw [hp, liveClear, noticeMach_safe]
    rfl
  · rw [liveWithdraw, if_neg hset, setBitN_of_clear (Bool.eq_false_iff.mpr hset)]

/-- A withdrawal of a set bit is the last one recorded. -/
theorem liveWithdraw_lastCause {m : Nat} {s : State} (hset : s.safe.permit.testBit (machineBit m) = true) (cause : Nat) :
    (liveWithdraw m cause s).safe.lastCause = cause := by
  obtain ⟨p, hp⟩ := liveWithdraw_safe hset cause
  rw [hp, liveClear, noticeMach_safe]
  rfl

/-- The bay with the live global latch set: the first setting keeps its cause and drives PERMIT_DYN low (R191, R194). -/
def SafeS.stopped (cause code origin : Nat) (b : SafeS) : SafeS :=
  if b.latch then b
  else { b with latch := true, firstCause := cause, faultCode := code, origin := origin, dynOn := false, dynPin := false }

/-- Where the live global latch is clear, a live global stop clears the machines one by one and sets it. -/
theorem liveGlobal_safe {s : State} (hl : s.safe.latch = false) (cause code origin : Nat) :
    ∃ p, (liveGlobal cause code origin s).safe =
      { ((machinesIn s.safe.permit).foldl (fun t m => liveClear m cause t) s).safe with
        latch := true, permit := 0, firstCause := cause, faultCode := code, origin := origin, dynOn := false, dynPin := false,
        ports := p } := by
  simp only [liveGlobal, hl, Bool.false_eq_true, if_false, evTrig_safe, noticeLatch_safe, bump_safe]
  exact stopAll_ports _

/-- A live global stop sets the latch with its cause, and leaves the rest of the bay. -/
theorem liveGlobal_rest (cause code origin : Nat) (s : State) :
    (liveGlobal cause code origin s).safe.rest = (s.safe.stopped cause code origin).rest := by
  cases hl : s.safe.latch with
  | true => simp [liveGlobal, SafeS.stopped, hl]
  | false =>
    obtain ⟨p, hp⟩ := liveGlobal_safe hl cause code origin
    have cleared := foldl_liveClear_rest cause (machinesIn s.safe.permit) s
    rw [hp, SafeS.stopped, hl]
    exact congrArg (fun b : SafeS => { b with latch := true, firstCause := cause, faultCode := code, origin := origin,
                                              dynOn := false, dynPin := false }) cleared

/-- A live global stop clears the map, which under the latch is clear already (R194). -/
theorem liveGlobal_permit {s : State} (calm : s.safe.latch = true → s.safe.permit = 0) (cause code origin : Nat) :
    (liveGlobal cause code origin s).safe.permit = 0 := by
  cases hl : s.safe.latch with
  | true => rw [liveGlobal, if_pos hl, calm hl]
  | false =>
    obtain ⟨p, hp⟩ := liveGlobal_safe hl cause code origin
    rw [hp]

/-- After a live global stop the latch is set. -/
theorem SafeS.stopped_latch (cause code origin : Nat) (b : SafeS) : (b.stopped cause code origin).latch = true := by
  cases hl : b.latch <;> simp [SafeS.stopped, hl]

/-- The latch, once set, leaves PERMIT_DYN as it is. -/
theorem SafeS.stopped_dynPin {b : SafeS} (h : b.dynPin = false) (cause code origin : Nat) :
    (b.stopped cause code origin).dynPin = false := by
  cases hl : b.latch <;> simp [SafeS.stopped, hl, h]

/-- What a global stop leaves of the bay beside the latch, its causes and PERMIT_DYN. -/
theorem SafeS.stopped_keeps (cause code origin : Nat) (b : SafeS) :
    (b.stopped cause code origin).cPermit = b.cPermit ∧ (b.stopped cause code origin).faults = b.faults ∧
      (b.stopped cause code origin).input = b.input ∧ (b.stopped cause code origin).chA = b.chA ∧
      (b.stopped cause code origin).clockOk = b.clockOk := by
  cases hl : b.latch <;> simp [SafeS.stopped, hl]

/-! Groups (R190). -/

/-- The machines of a map. -/
theorem mem_machinesIn {map m : Nat} (lo : 1 ≤ m) (hi : m ≤ 256) (set : map.testBit (machineBit m) = true) :
    m ∈ machinesIn map :=
  List.mem_map.mpr ⟨m - 1, List.mem_filter.mpr ⟨List.mem_range.mpr (by omega), set⟩, Nat.sub_add_cancel lo⟩

/-- Bits set one after another. -/
theorem testBit_foldl_setBitN (p : Nat → Prop) [DecidablePred p] (l : List Nat) (n i : Nat) :
    (l.foldl (fun n a => if p a then setBitN n (machineBit a) true else n) n).testBit i = true ↔
      n.testBit i = true ∨ ∃ a ∈ l, p a ∧ machineBit a = i := by
  induction l generalizing n with
  | nil => simp
  | cons a l ih =>
    rw [List.foldl_cons, ih]
    by_cases hp : p a
    · simp only [hp, if_true, testBit_setBitN, List.mem_cons, exists_eq_or_imp, true_and]
      by_cases same : i = machineBit a
      · simp [same]
      · simp [same, Ne.symm same]
    · simp [hp]

/-- A machine of the group with a bit in the map has its bit in the group's mask. -/
theorem mem_groupMask {s : State} {g map m : Nat} (hm : isMachine s.part m = true) (hg : groupOf s m = g)
    (set : map.testBit (machineBit m) = true) : m ∈ machinesIn (groupMask s g map) := by
  obtain ⟨lo, hi⟩ := isMachine_bounds hm
  have hi := hi.trans (machineCount_le _)
  exact mem_machinesIn lo hi
    ((testBit_foldl_setBitN (groupOf s · = g) _ _ _).mpr (.inr ⟨m, mem_machinesIn lo hi set, hg, rfl⟩))

/-- A live clearing with its stop request leaves the rest of the bay. -/
theorem groupClear_rest (m cause : Nat) (s : State) : (stopHome m (liveClear m cause s)).safe.rest = s.safe.rest :=
  (stopHome_rest m _).trans (liveClear_rest m cause s)

/-- A live group stop leaves the rest of the bay. -/
theorem liveGroup_rest (g cause : Nat) (s : State) : (liveGroup g cause s).safe.rest = s.safe.rest := by
  unfold liveGroup
  refine List.foldlRecOn (motive := fun t : State => t.safe.rest = s.safe.rest) _ _ ?_
    fun t h m _ => (groupClear_rest m cause t).trans h
  split
  · rfl
  · rw [noticeLatch_safe]
    rfl

theorem stopHome_groups (m : Nat) (s : State) : (stopHome m s).safe.groups = s.safe.groups := by
  obtain ⟨p, hp⟩ := stopHome_ports m s
  rw [hp]

theorem liveClear_groups (m cause : Nat) (s : State) : (liveClear m cause s).safe.groups = s.safe.groups := by
  rw [liveClear, noticeMach_safe]
  rfl

/-- A live group stop sets the group's latch. -/
theorem liveGroup_groups (g cause : Nat) (s : State) : (liveGroup g cause s).safe.groups.testBit g = true := by
  unfold liveGroup
  refine List.foldlRecOn (motive := fun t : State => t.safe.groups.testBit g = true) _ _ ?_ fun t h m _ => ?_
  · split
    · assumption
    · rw [noticeLatch_safe]
      exact testBit_setBitN_same s.safe.groups g true
  · rwa [stopHome_groups, liveClear_groups]

/-- A live group stop leaves no machine of the group with a permit. -/
theorem liveGroup_clears {g m : Nat} {s : State} (hm : isMachine s.part m = true) (hg : groupOf s m = g) (cause : Nat) :
    (liveGroup g cause s).safe.permit.testBit (machineBit m) = false := by
  cases set : s.safe.permit.testBit (machineBit m) with
  | false =>
    exact (liveGroup_fol (kc := { regs := true, gmp := true, safe := true }) rfl rfl rfl (.refl _ s)).permit_clear rfl set
  | true =>
    have cleared (t : State) (n : Nat) :
        (stopHome n (liveClear n cause t)).safe.permit.testBit (machineBit n) = false := by
      rw [(stopHome_safe n _).2]
      exact (liveClear_clears n cause t).1
    have work (t : State) (n : Nat) : Follows { regs := true, gmp := true, safe := true } t (stopHome n (liveClear n cause t)) :=
      stopHome_fol rfl (liveClear_fol rfl rfl rfl (.refl _ t))
    exact foldl_reaches (P := fun n t => t.safe.permit.testBit (machineBit n) = false) cleared
      (fun t n _ h => (work t n).permit_clear rfl h) (mem_groupMask hm hg set) _

/-! PERMIT_DYN (R209). -/

/-- PERMIT_DYN is driven low where a condition fails, and nothing else changes. -/
theorem dynEval_safe (s : State) :
    (dynEval s).safe = if dynOk s then s.safe else { s.safe with dynOn := false, dynPin := false } := by
  unfold dynEval
  split <;> rfl

/-- The live latch drives PERMIT_DYN low. -/
theorem dynOk_latched {s : State} (h : s.safe.latch = true) : dynOk s = false := by
  simp [dynOk, h]

/-- PERMIT_DYN is low where a condition fails, and stays low where it was. -/
theorem dynEval_dynPin {s : State} (h : dynOk s = false ∨ s.safe.dynPin = false) : (dynEval s).safe.dynPin = false := by
  rw [dynEval_safe]
  rcases h with failed | low
  · rw [failed]
    rfl
  · split
    · exact low
    · rfl

/-- The conditions of PERMIT_DYN are no part of station time. -/
theorem dynOk_advTo (n : Nat) (s : State) : dynOk (advTo n s) = dynOk s := by
  unfold advTo
  split <;> rfl

/-! Effects at a position (R48, R190, R193, R197). -/

theorem raiseEpoch_live (pos : Nat × Nat) (s : State) : (raiseEpoch pos s).safe.live = s.safe.live := by
  unfold raiseEpoch
  split <;> rfl

/-- A covered withdrawal leaves the live state. -/
theorem covWithdraw_live (pos : Nat × Nat) (m : Nat) (s : State) : (covWithdraw pos m s).safe.live = s.safe.live := by
  unfold covWithdraw
  split
  · exact raiseEpoch_live _ _
  · rfl

/-- The covered map after a withdrawal. -/
theorem covWithdraw_cPermit (pos : Nat × Nat) (m : Nat) (s : State) :
    (covWithdraw pos m s).safe.cPermit = setBitN s.safe.cPermit (machineBit m) false := by
  unfold covWithdraw
  split
  · unfold raiseEpoch
    split <;> rfl
  · exact (setBitN_of_clear (Bool.eq_false_iff.mpr ‹_›)).symm

/-- The covered global latch leaves the live state. -/
theorem covGlobal_live (pos : Nat × Nat) (s : State) : (covGlobal pos s).safe.live = s.safe.live := by
  unfold covGlobal
  dsimp only
  split
  · rfl
  · exact raiseEpoch_live pos s

/-- The covered global latch is set with the map cleared and nothing armed. -/
theorem covGlobal_sets (pos : Nat × Nat) (s : State) :
    (covGlobal pos s).safe.cLatch = true ∧ (covGlobal pos s).safe.cPermit = 0 ∧ (covGlobal pos s).safe.arm = none :=
  ⟨rfl, rfl, rfl⟩

/-- A covered group latch leaves the live state. -/
theorem covGroup_live (pos : Nat × Nat) (g : Nat) (s : State) : (covGroup pos g s).safe.live = s.safe.live := by
  unfold covGroup
  dsimp only
  split
  · rfl
  · exact raiseEpoch_live pos s

/-- A covered group latch is set. -/
theorem covGroup_sets (pos : Nat × Nat) (g : Nat) (s : State) : (covGroup pos g s).safe.cGroups.testBit g = true := by
  rw [covGroup, updSafe_safe]
  exact testBit_setBitN_same _ g true

/-- The covered effect of a FAULT entry leaves the live state. -/
theorem covFault_live (unit code phase : Nat) (s : State) : (covFault unit code phase s).safe.live = s.safe.live := by
  unfold covFault
  split
  · rfl
  · split
    · split
      · exact covGlobal_live _ _
      · rfl
    · rfl

/-- The covered effect of an ESTOP entry leaves the live state. -/
theorem covEstop_live (b : Nat) (s : State) : (covEstop b s).safe.live = s.safe.live := by
  unfold covEstop
  dsimp only
  split
  · exact covGlobal_live _ _
  · rfl

/-- An entry that is offered leaves the live state, as its covered effect does. -/
theorem post_live (p : Payload) {cov : State → State} (hcov : ∀ t, (cov t).safe.live = t.safe.live) (s : State) :
    (post p cov s).safe.live = s.safe.live := by
  unfold post
  split
  · rfl
  · split
    · rfl
    · rw [hcov, jWrite_safe]

/-- A FAULT entry that is offered leaves the live state. -/
theorem postFault_live (unit code phase : Nat) (s : State) : (postFault unit code phase s).safe.live = s.safe.live :=
  post_live _ (fun t => by rw [faultRecord_safe, covFault_live]) s

end Sys2Proof.Machine

/-!
What the SAFE bay does of itself (07_motion_safety R189, R192, R193, R200, R209, R212, R213): withdrawals over a hod and by a
lease, the internal faults, the emergency-stop inputs and PERMIT_DYN.
-/

namespace Sys2Proof.Machine

open Sys2Proof

/-! Withdrawals (R189, R200). -/

/-- A withdrawal clears the machine's bit in both maps. -/
theorem withdraw_permits (pos : Nat × Nat) (m cause : Nat) (s : State) :
    (withdraw pos m cause s).safe.permit = setBitN s.safe.permit (machineBit m) false ∧
      (withdraw pos m cause s).safe.cPermit = setBitN s.safe.cPermit (machineBit m) false := by
  have covered : (liveWithdraw m cause s).safe.cPermit = s.safe.cPermit :=
    (congrArg SafeS.cPermit (liveWithdraw_rest m cause s) :)
  constructor
  · exact (congrArg SafeS.permit (covWithdraw_live pos m _)).trans (liveWithdraw_permit m cause s)
  · rw [withdraw, covWithdraw_cPermit, covered]

/-- A withdrawal of a set bit is the last one recorded. -/
theorem withdraw_lastCause (pos : Nat × Nat) {m : Nat} {s : State} (hset : s.safe.permit.testBit (machineBit m) = true)
    (cause : Nat) : (withdraw pos m cause s).safe.lastCause = cause :=
  (congrArg SafeS.lastCause (covWithdraw_live pos m (liveWithdraw m cause s))).trans (liveWithdraw_lastCause hset cause)

/-- WITHDRAWAL_REQUEST of a machine with a cause of R189 withdraws it. -/
theorem execWithdrawalRequest_eq {m cause : Nat} {s : State} (hm : isMachine s.part m = true) (lo : 1 ≤ cause)
    (hi : cause ≤ 14) (sf seq : Nat) :
    exec (.withdrawalRequest m cause sf seq) s = .next (withdraw (sf, seq) m cause s) := by
  show execWithdrawalRequest m cause sf seq s = _
  simp [execWithdrawalRequest, hm, within, lo, hi]

/-- LEASE_EXPIRY of a machine whose mirror is too old withdraws it (R200). -/
theorem execLeaseExpiry_eq {m : Nat} {s : State} (hm : isMachine s.part m = true) (h : leaseLapsed s m = true) :
    exec (.leaseExpiry m) s = .next (withdraw (s.jr.sf, 0) m 13 s) := by
  show execLeaseExpiry m s = _
  simp [execLeaseExpiry, leaseCheck, hm, h]

/-! Internal faults (R212, R213). -/

/-- The bay with a fault condition active (R213). -/
def SafeS.faulty (code : Nat) (b : SafeS) : SafeS := { b with faults := setBitN b.faults (code - 1) true }

/-- A condition that becomes active stops the unit: the live state is that of a global stop of cause 7. -/
theorem faultRaise_live {code : Nat} {s : State} (h : s.safe.faults.testBit (code - 1) = false) :
    ∃ u, (faultRaise code s).safe.live = (dynEval u).safe.live ∧
      u.safe.rest = ((s.safe.faulty code).stopped 7 code 0).rest := by
  rw [faultRaise, h, if_neg Bool.false_ne_true]
  refine ⟨_, postFault_live _ _ _ _, ?_⟩
  rw [liveGlobal_rest, eligWatch_safe, alarm_safe]
  rfl

/-- After a fault the condition is active, the live latch is set where the condition is new, and PERMIT_DYN is not raised. -/
theorem faultRaise_raises (code : Nat) (s : State) :
    (faultRaise code s).safe.faults.testBit (code - 1) = true ∧
      (s.safe.faults.testBit (code - 1) = false → (faultRaise code s).safe.latch = true) ∧
      (faultRaise code s).safe.clockOk = s.safe.clockOk ∧
      (s.safe.dynPin = false → (faultRaise code s).safe.dynPin = false) := by
  cases h : s.safe.faults.testBit (code - 1) with
  | true =>
    rw [faultRaise, if_pos h]
    exact ⟨h, nofun, rfl, id⟩
  | false =>
    obtain ⟨u, live, rest⟩ := faultRaise_live h
    obtain ⟨-, faults, -, -, clock⟩ := SafeS.stopped_keeps 7 code 0 (s.safe.faulty code)
    have latched : u.safe.latch = true := (congrArg SafeS.latch rest).trans (SafeS.stopped_latch _ _ _ _)
    rw [dynEval_safe, dynOk_latched latched] at live
    refine ⟨?_, fun _ => (congrArg SafeS.latch live).trans latched, ?_, fun _ => (congrArg SafeS.dynPin live :)⟩
    · have active : (faultRaise code s).safe.faults = setBitN s.safe.faults (code - 1) true :=
        (congrArg SafeS.faults live).trans ((congrArg SafeS.faults rest).trans faults)
      rw [active, testBit_setBitN_same]
    · exact (congrArg SafeS.clockOk live).trans ((congrArg SafeS.clockOk rest).trans clock)

/-- The end of a condition clears it, and leaves the clock and the live latch. -/
theorem faultEnd_ends (code : Nat) (s : State) :
    (faultEnd code s).safe.faults.testBit (code - 1) = false ∧ (faultEnd code s).safe.latch = s.safe.latch ∧
      (faultEnd code s).safe.clockOk = s.safe.clockOk := by
  cases h : s.safe.faults.testBit (code - 1) with
  | false =>
    rw [faultEnd, h, if_neg Bool.false_ne_true]
    exact ⟨h, rfl, rfl⟩
  | true =>
    rw [faultEnd, if_pos h]
    have live := postFault_live (faultUnit code) code 1
      (s.updSafe fun b => { b with faults := setBitN b.faults (code - 1) false })
    refine ⟨?_, (congrArg SafeS.latch live :), (congrArg SafeS.clockOk live :)⟩
    have ended : (postFault (faultUnit code) code 1 _).safe.faults = setBitN s.safe.faults (code - 1) false :=
      (congrArg SafeS.faults live :)
    rw [ended, testBit_setBitN_same]

/-- SAFE_STORE whose copy corrects the word is counted, and no more (R212). -/
theorem execSafeStore_corrects (s : State) :
    ∃ t, exec (.safeStore true) s = .next t ∧ t.safe = s.safe ∧
      cfg t Addr.SAFE_STORE 15 0 = min 65535 (cfg s Addr.SAFE_STORE 15 0 + 1) :=
  ⟨_, rfl, (bumpF_fol (kc := { regs := true }) rfl (.refl _ s)).safe rfl,
    (cfg_bumpF (by decide) (by decide) _ _ s).trans (min_comm _ _)⟩

/-! The emergency-stop inputs (R192, R193). -/

/-- Operating time carried forward reaches the instant, unless it has passed it. -/
theorem advOp_op (n : Nat) (s : State) : (advOp n s).time.op = max s.time.op n := by
  unfold advOp
  split
  · exact (max_eq_right (Nat.le_of_lt ‹_›)).symm
  · exact (max_eq_left (Nat.le_of_not_lt ‹_›)).symm

theorem advOp_safe (n : Nat) (s : State) : (advOp n s).safe = s.safe :=
  (advOp_fol (kc := { time := true }) rfl (.refl _ s)).safe rfl

/-- The live action of an input state that is entered: leaving INPUT_RUN stops the unit (R193). -/
def inputAct (st : InputState) (s : State) : State :=
  if s.safe.input = .inputRun ∧ st ≠ .inputRun then liveGlobal 1 0 0 (s.updSafe fun b => { b with input := st })
  else s.updSafe fun b => { b with input := st }

/-- An input state that is entered leaves the live state of its action, with PERMIT_DYN evaluated again. -/
theorem enterInput_live (st : InputState) (s : State) :
    (enterInput st s).safe.live = (dynEval (inputAct st s)).safe.live := by
  unfold enterInput
  dsimp only
  rw [post_live _ (covEstop_live _)]
  split
  · rw [evTrig_safe, bump_safe, alarm_safe]
    rfl
  · rfl

/-- What an input state that is entered leaves of station time. -/
theorem enterInput_time (st : InputState) (s : State) : (enterInput st s).time = s.time :=
  (enterInput_fol (kc := { jr := true, regs := true, gmp := true, safe := true, pair := true, evr := true })
    rfl rfl rfl rfl rfl rfl (.refl _ s)).time rfl

/-- Leaving INPUT_RUN stops the unit (R193): the latch is set and PERMIT_DYN is low. -/
theorem enterInput_stops {st : InputState} {s : State} (h : s.safe.input = .inputRun) (hst : st ≠ .inputRun) :
    (enterInput st s).safe.input = st ∧ (enterInput st s).safe.chA = s.safe.chA ∧ (enterInput st s).safe.latch = true ∧
      (enterInput st s).safe.dynPin = false := by
  have live := enterInput_live st s
  rw [inputAct, if_pos ⟨h, hst⟩] at live
  have rest := liveGlobal_rest 1 0 0 (s.updSafe fun b => { b with input := st })
  obtain ⟨-, -, input, chA, -⟩ := SafeS.stopped_keeps 1 0 0 (s.updSafe fun b => { b with input := st }).safe
  generalize liveGlobal 1 0 0 (s.updSafe fun b => { b with input := st }) = u at live rest
  have latched : u.safe.latch = true := (congrArg SafeS.latch rest).trans (SafeS.stopped_latch _ _ _ _)
  rw [dynEval_safe, dynOk_latched latched] at live
  exact ⟨(congrArg SafeS.input live).trans ((congrArg SafeS.input rest).trans input),
    (congrArg SafeS.chA live).trans ((congrArg SafeS.chA rest).trans chA), (congrArg SafeS.latch live).trans latched,
    (congrArg SafeS.dynPin live :)⟩

/-- An input state entered from another than INPUT_RUN leaves the live latch and the map. -/
theorem enterInput_of_not_run (st : InputState) {s : State} (h : s.safe.input ≠ .inputRun) :
    (enterInput st s).safe.input = st ∧ (enterInput st s).safe.chB = s.safe.chB ∧
      (enterInput st s).safe.latch = s.safe.latch ∧ (enterInput st s).safe.permit = s.safe.permit := by
  have live := enterInput_live st s
  rw [inputAct, if_neg fun both => h both.1, dynEval_safe] at live
  split at live <;>
    exact ⟨(congrArg SafeS.input live :), (congrArg SafeS.chB live :), (congrArg SafeS.latch live :),
      (congrArg SafeS.permit live :)⟩

/-- The state in which it is noted since when the filtered channels differ (R193). -/
def differNoted (s : State) : State :=
  s.updSafe fun x =>
    { x with differ := if s.safe.chA.filt = s.safe.chB.filt then none else if x.differ.isSome then x.differ else some s.time.op }

/-- In INPUT_RUN a channel that is low takes the pair to INPUT_STOP (R193). -/
theorem pairEval_leaves_run {s : State} (h : s.safe.input = .inputRun) (low : s.safe.chA.filt = false) :
    pairEval s = enterInput .inputStop (differNoted s) := by
  simp only [pairEval, differNoted, h, low, Bool.false_and, Bool.false_eq_true, if_false]

/-- In INPUT_STOP both channels high take the pair to INPUT_RUN (R193). -/
theorem pairEval_enters_run {s : State} (h : s.safe.input = .inputStop) (a : s.safe.chA.filt = true)
    (b : s.safe.chB.filt = true) : pairEval s = enterInput .inputRun (differNoted s) := by
  simp only [pairEval, differNoted, h, a, b, Bool.and_self, if_true]

/-- Channel A or B as it is after its filter. -/
def filtered (chA : Bool) (c : EstopCh) (s : State) : State :=
  s.updSafe fun b => if chA then { b with chA := { c with filt := c.raw } } else { b with chB := { c with filt := c.raw } }

/-- ESTOP_FILTERED_CHANGE of a channel whose level has stood for its filter time takes it at that instant (R192). -/
theorem execEstopFilteredChange_eq {chA : Bool} {c : EstopCh} {s : State} (hc : (if chA then s.safe.chA else s.safe.chB) = c)
    (h : c.raw ≠ c.filt) : exec (.estopFilteredChange chA) s =
      .next (pairEval (filtered chA c (advOp (c.since + filterTime s c.raw) s))) := by
  show execEstopFilteredChange chA s = _
  simp only [execEstopFilteredChange, hc, if_neg h]
  rfl

/-- A channel that has been low for its filter time stops the unit from INPUT_RUN (R192, R193). -/
theorem execEstopFilteredChange_stops {s : State} (h : s.safe.input = .inputRun) (raw : s.safe.chA.raw = false)
    (filt : s.safe.chA.filt = true) :
    ∃ t, exec (.estopFilteredChange true) s = .next t ∧ t.safe.chA.filt = false ∧ t.safe.input = .inputStop ∧
      t.safe.latch = true ∧ t.safe.dynPin = false ∧
      t.time.op = max s.time.op (s.safe.chA.since + filterTime s false) := by
  have hexec := execEstopFilteredChange_eq (chA := true) (c := s.safe.chA) (s := s) rfl (by simp [raw, filt])
  have before := advOp_safe (s.safe.chA.since + filterTime s s.safe.chA.raw) s
  have op := advOp_op (s.safe.chA.since + filterTime s s.safe.chA.raw) s
  generalize advOp (s.safe.chA.since + filterTime s s.safe.chA.raw) s = u at hexec before op
  have run : (filtered true s.safe.chA u).safe.input = .inputRun := (congrArg SafeS.input before).trans h
  rw [pairEval_leaves_run run raw] at hexec
  obtain ⟨input, chA, latch, low⟩ :=
    enterInput_stops (s := differNoted (filtered true s.safe.chA u)) (st := .inputStop) run nofun
  refine ⟨_, hexec, ?_, input, latch, low, ?_⟩
  · rw [chA]
    exact raw
  · rw [enterInput_time, ← raw]
    exact op

/-- The second channel to be high for its filter time leads from INPUT_STOP to INPUT_RUN, and releases nothing (R193). -/
theorem execEstopFilteredChange_runs {s : State} (h : s.safe.input = .inputStop) (raw : s.safe.chB.raw = true)
    (filt : s.safe.chB.filt = false) (other : s.safe.chA.filt = true) :
    ∃ t, exec (.estopFilteredChange false) s = .next t ∧ t.safe.chB.filt = true ∧ t.safe.input = .inputRun ∧
      t.safe.latch = s.safe.latch ∧ t.safe.permit = s.safe.permit := by
  have hexec := execEstopFilteredChange_eq (chA := false) (c := s.safe.chB) (s := s) rfl (by simp [raw, filt])
  have before := advOp_safe (s.safe.chB.since + filterTime s s.safe.chB.raw) s
  generalize advOp (s.safe.chB.since + filterTime s s.safe.chB.raw) s = u at hexec before
  have stopped : (filtered false s.safe.chB u).safe.input = .inputStop := (congrArg SafeS.input before).trans h
  have high : (filtered false s.safe.chB u).safe.chA.filt = true := (congrArg (·.chA.filt) before).trans other
  rw [pairEval_enters_run stopped high raw] at hexec
  obtain ⟨input, chB, latch, permit⟩ := enterInput_of_not_run .inputRun
    (s := differNoted (filtered false s.safe.chB u)) (fun run => nomatch stopped.symm.trans run)
  refine ⟨_, hexec, ?_, input, ?_, ?_⟩
  · rw [chB]
    exact raw
  · rw [latch, ← before]
    rfl
  · rw [permit, ← before]
    rfl

/-- DISCREPANCY in INPUT_STOP enters DISCREPANT once the channels have differed for DISC_T (R193). -/
theorem execDiscrepancy_enters {a : Nat} {s : State} (h : s.safe.input = .inputStop) (hd : s.safe.differ = some a) :
    ∃ t, exec .discrepancy s = .next t ∧ t.safe.input = .discrepant ∧
      t.time.op = max s.time.op (a + cfg s Addr.SAFE_ESTOP_CFG 13 8 * 10000000) := by
  have hexec : exec .discrepancy s = execDiscrepancy s := rfl
  rw [execDiscrepancy, h, hd] at hexec
  refine ⟨_, hexec, (enterInput_of_not_run _ ?_).1, ?_⟩
  · rw [advOp_safe, h]
    nofun
  · rw [enterInput_time, advOp_op]

/-- ESTOP_INPUT_EDGE notes the level and, where it is new, starts the filter (R192). -/
theorem execEstopInputEdge_notes (level : Bool) (ns : Nat) (s : State) :
    ∃ t, exec (.estopInputEdge true level ns) s = .next t ∧ t.safe.chA.raw = level ∧ t.safe.chA.filt = s.safe.chA.filt ∧
      (s.safe.chA.raw ≠ level → t.safe.chA.since = t.time.op) ∧ t.safe.chB = s.safe.chB := by
  have hexec : exec (.estopInputEdge true level ns) s = execEstopInputEdge true level ns s := rfl
  rw [execEstopInputEdge] at hexec
  have before : (advTo ns s).safe = s.safe := (advTo_only ns s).safe rfl
  refine ⟨_, hexec, ?_⟩
  simp only [updSafe_safe, updSafe_time, before, if_true]
  split
  · rename_i same
    exact ⟨same, rfl, fun new => absurd same new, trivial⟩
  · exact ⟨rfl, rfl, fun _ => rfl, trivial⟩

/-! PERMIT_DYN (R209). -/

/-- The next half millisecond of station time. -/
def nextHalf (s : State) : Nat := (now s / 500000 + 1) * 500000

theorem advTo_nextHalf_ns (s : State) : (advTo (nextHalf s) s).time.ns = nextHalf s := by
  rw [advTo_ns]
  refine max_eq_right ?_
  have := Nat.div_add_mod (now s) 500000
  have := Nat.mod_lt (now s) (show 0 < 500000 by decide)
  rw [nextHalf, Nat.mul_comm, Nat.mul_add]
  show now s ≤ _
  omega

/-- What PERMIT_DYN_TOGGLE does at the half millisecond to which it carries station time: the pin is driven low where a
condition fails, goes high at a whole millisecond and low in its middle. -/
def toggled (n : Nat) (s : State) : State :=
  if !dynOk s then dynEval s
  else if n / 500000 % 2 = 0 then s.updSafe fun b => { b with dynOn := true, dynPin := true }
  else s.updSafe fun b => { b with dynPin := false }

theorem execPermitDynToggle_eq (s : State) :
    exec .permitDynToggle s = .next (toggled (nextHalf s) (advTo (nextHalf s) s)) := by
  show execPermitDynToggle s = _
  rw [execPermitDynToggle, ← nextHalf, toggled, apply_ite Host.Outcome.next, apply_ite Host.Outcome.next]

theorem toggled_time (n : Nat) (s : State) : (toggled n s).time = s.time := by
  unfold toggled
  split
  · exact (dynEval_fol (kc := { safe := true }) rfl (.refl _ s)).time rfl
  · split <;> rfl

/-- The pin is low where a condition fails; where all hold it follows the half milliseconds. -/
theorem toggled_dynPin (n : Nat) (s : State) :
    (toggled n s).safe.dynPin = (dynOk s && decide (n / 500000 % 2 = 0)) := by
  unfold toggled
  cases ok : dynOk s with
  | false => exact dynEval_dynPin (.inl ok)
  | true =>
    simp only [Bool.not_true, Bool.false_eq_true, if_false, Bool.true_and]
    split
    · exact (decide_eq_true ‹_›).symm
    · exact (decide_eq_false ‹_›).symm

/-- PERMIT_DYN_TOGGLE where a condition fails leaves the pin low; where all hold the pin follows the half milliseconds. -/
theorem execPermitDynToggle_toggles (s : State) :
    ∃ t, exec .permitDynToggle s = .next t ∧ t.time.ns = nextHalf s ∧ (dynOk s = false → t.safe.dynPin = false) ∧
      (dynOk s = true → t.safe.dynPin = decide (t.time.ns / 500000 % 2 = 0)) := by
  have ns : (toggled (nextHalf s) (advTo (nextHalf s) s)).time.ns = nextHalf s := by
    rw [toggled_time, advTo_nextHalf_ns]
  refine ⟨_, execPermitDynToggle_eq s, ns, fun failed => ?_, fun ok => ?_⟩
  · rw [toggled_dynPin, dynOk_advTo, failed, Bool.false_and]
  · rw [ns, toggled_dynPin, dynOk_advTo, ok, Bool.true_and]

/-- Settles O20: each command comes to one operation of the bay; its live action and its effect at a position are told apart,
and neither changes what is the other's. -/
theorem safeBayWithdrawsAndWatchesItsInputs : Obligations.SafeBayWithdrawsAndWatchesItsInputs := by
  refine ⟨fun s => ⟨fun m cause sf seq hm lo hi => ?_, fun m hm lapsed => ?_, ?_, ?_, execSafeStore_corrects s, ?_, ?_, ?_⟩,
    fun s => ⟨fun level ns => execEstopInputEdge_notes level ns s,
      fun h raw filt => execEstopFilteredChange_stops h raw filt,
      fun h raw filt other => execEstopFilteredChange_runs h raw filt other,
      fun _ h hd => execDiscrepancy_enters h hd, execPermitDynToggle_toggles s⟩⟩
  · obtain ⟨permit, cPermit⟩ := withdraw_permits (sf, seq) m cause s
    exact ⟨_, execWithdrawalRequest_eq hm lo hi sf seq, permit, cPermit, fun hset => withdraw_lastCause _ hset cause⟩
  · exact ⟨_, execLeaseExpiry_eq hm lapsed, withdraw_permits _ _ _ _⟩
  · obtain ⟨active, latched, -, -⟩ := faultRaise_raises 1 s
    exact ⟨_, rfl, active, latched⟩
  · obtain ⟨active, latched, -, -⟩ := faultRaise_raises 2 s
    exact ⟨_, rfl, active, latched⟩
  · obtain ⟨active, latched, clock, low⟩ := faultRaise_raises 4
      (s.updSafe fun b => { b with clockOk := false, dynOn := false, dynPin := false })
    exact ⟨_, rfl, clock, low rfl, active, latched⟩
  · obtain ⟨ended, latch, clock⟩ := faultEnd_ends 4 (s.updSafe fun b => { b with clockOk := true })
    exact ⟨_, rfl, clock, ended, latch⟩
  · obtain ⟨active, latched, -, -⟩ := faultRaise_raises 6 s
    exact ⟨_, rfl, active, latched⟩

end Sys2Proof.Machine

/-!
SAFE commands (07_motion_safety R190, R205 to R208): a SAFE_CMD of a session that holds the right, as a SAFE message or as a
WRITE, is decided on the state with its entry. What the live action and the decision of each operation come to.
-/

namespace Sys2Proof.Machine

open Sys2Proof

/-! The word (R214). -/

/-- The fields of a SAFE_CMD word. -/
theorem fld_safeWord (op g k a : Nat) :
    fld (safeWord op g k a) 3 0 = op % 16 ∧ fld (safeWord op g k a) 6 4 = g % 8 ∧
      fld (safeWord op g k a) 15 8 = k % 256 ∧ fld (safeWord op g k a) 31 16 = a % 65536 := by
  simp only [fld, bitsOf, safeWord, wordOf, pack, BitVec.toNat_ofNat]
  omega

/-- A stop needs STOP (17_host R432). -/
theorem safeRight_stop {op : Nat} (lo : 1 ≤ op) (hi : op ≤ 3) (g k a : Nat) : safeRight (safeWord op g k a) = 2 := by
  have small : op < 16 := by omega
  simp [safeRight, fld_safeWord, Nat.mod_eq_of_lt small, within, lo, hi]

/-- Every other operation needs RELEASE (17_host R432). -/
theorem safeRight_release {op : Nat} (lo : 4 ≤ op) (hi : op < 16) (g k a : Nat) : safeRight (safeWord op g k a) = 3 := by
  simp [safeRight, fld_safeWord, Nat.mod_eq_of_lt hi, within]
  omega

/-! What an entry leaves of the SAFE block. -/

/-- An entry changes no word of the SAFE block, which stands at 0x0002_0000 (17_host R446). -/
theorem enteredWord_safe {a : Nat} (lo : 0x20000 ≤ a) (hi : a < 0x30000) : enteredWord (rkey a) = false := by
  simp only [enteredWord, entryWords, rkey, wkey, Addr.TOP_CFG_ALARM, Addr.NET_CNT, Addr.SCHED_CLASS_SEL,
    Addr.SCHED_CLASS_CNT_JOBS, Bool.or_eq_false_iff, beq_eq_false_iff_ne]
  omega

section Entry

variable {h : GmpHdr} {x : Session} {b : GmpBody} {s u : State}

/-- The entry of a request leaves the stop group of a machine. -/
theorem Entered.groupOf (e : Entered h x b s u) {m : Nat} (hm : m ≤ 256) : groupOf u m = groupOf s m :=
  cfg_words e.words (enteredWord_safe (a := Addr.SAFE_GROUP + 4 * ((m - 1) / 8)) (Nat.le_add_right_of_le (by decide))
    (show 0x20040 + 4 * ((m - 1) / 8) < 0x30000 by omega))

/-- The entry of a request leaves the window of an armed release (R207). -/
theorem Entered.armWindow (e : Entered h x b s u) : cfg u Addr.SAFE_LEASE 21 16 = cfg s Addr.SAFE_LEASE 21 16 :=
  cfg_words e.words (enteredWord_safe (by decide) (by decide))

/-- The entry of a request is the newest position. -/
theorem Entered.lastSf (e : Entered h x b s u) : u.jr.lastSf = s.jr.sf :=
  (JrnlS.spine_pos e.spine).2.1

/-- The entry of a request leaves what an arm or a confirm is refused for. -/
theorem Entered.armRefused (e : Entered h x b s u) (grp : Bool) : armRefused u grp = armRefused s grp := by
  rw [Machine.armRefused, Machine.armRefused, e.fol.safe rfl]

/-- The entry of a request leaves the reasons that stand against a release. -/
theorem Entered.releaseReason (e : Entered h x b s u) {m : Nat} (hm : m ≤ 256) :
    releaseReason u m = releaseReason s m := by
  simp only [Machine.releaseReason, e.groupOf hm, loopHold, isAssoc, node, safeMach, e.fol.safe rfl, e.fol.loop rfl,
    e.fol.memb rfl]

end Entry

/-! The request (R205, 17_host R438). -/

/-- A SAFE_CMD whose sender holds its right is decided on the state with its entry. Where the decision is OK it is answered OK,
and of the SAFE bay and the keys nothing changes after it but the status shown. -/
theorem safeCmd_answers {h : GmpHdr} {x : Session} {s : State} {v : Word} (r : GmpReady h x s)
    (right : hasRight s x.ident (safeRight v) = true) (asWrite : Bool) {f : State → State}
    (hf : ∀ g u, Entered h x g s u → safeCov (s.jr.sf, s.jr.nextSeq) v (safeLive h.sess v u) = (f u, stOk)) :
    ∃ g u b, Entered h x g s u ∧ Answered h (if asWrite then 0x02 else 0x08) stOk b s (safeCmd h asWrite v s) ∧
      (safeCmd h asWrite v s).safe = { (f u).safe with lastStatus := stOk } ∧ (safeCmd h asWrite v s).key = (f u).key := by
  have decided {g : GmpBody} {u : State} (e : Entered h x g s u) :
      safeDecide (s.jr.sf, s.jr.nextSeq) v (safeLive h.sess v u) =
        ((f u).updSafe fun b => { b with lastStatus := stOk }, stOk) := by
    rw [safeDecide, hf g u e]
  cases asWrite with
  | false =>
    obtain ⟨u, e, hd⟩ := gmpRequest_answers r (.safe v) (adm := false) (ok := fun k t => hasRight t k (safeRight v))
      (fun _ w => (hasRight_words w (ident_key r.known).1).trans right) nofun (f := safeHandler v)
      (c := { regs := true, gmp := true, safe := true, evr := true, key := true, grant := true }) rfl rfl
      (fun u => safeHandler_fol rfl rfl rfl rfl rfl rfl (.refl _ u))
    obtain ⟨answered, rest⟩ := hd _ _ (by rw [safeHandler, decided e])
    exact ⟨_, u, _, e, answered, rest.safe rfl, rest.key rfl⟩
  | true =>
    obtain ⟨u, e, hd⟩ := gmpRequest_answers r (.write [(Addr.SAFE_CMD, v)]) (adm := false) (ok := fun _ _ => true)
      (fun _ _ => rfl) nofun (f := safeWriteHandler v)
      (c := { regs := true, gmp := true, safe := true, evr := true, key := true, grant := true }) rfl rfl
      (fun u => safeWriteHandler_fol rfl rfl rfl rfl rfl rfl (.refl _ u))
    have held : hasRight u x.ident (safeRight v) = true := (hasRight_words e.words (ident_key r.known).2).trans right
    have ok : isErr stOk = false := rfl
    obtain ⟨answered, rest⟩ := hd _ _ (by
      simp only [safeWriteHandler, wordHandler, held, decided e, ok, Bool.not_true, Bool.false_eq_true, if_false]
      rfl)
    exact ⟨_, u, _, e, answered, rest.safe rfl, rest.key rfl⟩


/-! Stops (R190, R194, R205). -/

/-- STOP_ALL sets the live latch, and where it is set has the stop frames sent again. -/
theorem safeLive_stopAll (sess : Nat) (s : State) :
    safeLive sess (safeWord 1 0 0 0) s = if s.safe.latch then stopAll s else liveGlobal 2 0 sess s := rfl

theorem safeCov_stopAll (pos : Nat × Nat) (s : State) : safeCov pos (safeWord 1 0 0 0) s = (covGlobal pos s, stOk) := rfl

/-- After the live action of STOP_ALL the latch is set and the map clear. -/
theorem safeLive_stopAll_stops {s : State} (calm : s.safe.latch = true → s.safe.permit = 0) (sess : Nat) :
    (safeLive sess (safeWord 1 0 0 0) s).safe.latch = true ∧ (safeLive sess (safeWord 1 0 0 0) s).safe.permit = 0 := by
  rw [safeLive_stopAll]
  split
  · rename_i latched
    obtain ⟨p, hp⟩ := stopAll_ports s
    rw [hp]
    exact ⟨latched, calm latched⟩
  · exact ⟨(congrArg SafeS.latch (liveGlobal_rest 2 0 sess s)).trans (SafeS.stopped_latch _ _ _ _),
      liveGlobal_permit calm 2 0 sess⟩

theorem safeLive_stopGroup {g : Nat} (hg : g < 8) (sess : Nat) (s : State) :
    safeLive sess (safeWord 2 g 0 0) s = liveGroup g 3 s := by
  simp [safeLive, fld_safeWord, Nat.mod_eq_of_lt hg]

theorem safeCov_stopGroup {g : Nat} (hg : g < 8) (pos : Nat × Nat) (s : State) :
    safeCov pos (safeWord 2 g 0 0) s = (covGroup pos g s, stOk) := by
  simp [safeCov, fld_safeWord, Nat.mod_eq_of_lt hg]

/-- A machine's address fills its field of SAFE_CMD. -/
theorem machine_field {p : Part} {a : Nat} (hm : isMachine p a = true) : a % 65536 = a :=
  Nat.mod_eq_of_lt (Nat.lt_of_le_of_lt ((isMachine_bounds hm).2.trans (machineCount_le p)) (by decide))

theorem safeLive_stopMachine {a : Nat} {s : State} (hm : isMachine s.part a = true) (sess : Nat) :
    safeLive sess (safeWord 3 0 0 a) s = stopHome a (liveWithdraw a 4 s) := by
  simp [safeLive, fld_safeWord, machine_field hm, hm]

theorem safeCov_stopMachine {a : Nat} {s : State} (hm : isMachine s.part a = true) (pos : Nat × Nat) :
    safeCov pos (safeWord 3 0 0 a) s = (covWithdraw pos a s, stOk) := by
  simp [safeCov, fld_safeWord, machine_field hm, hm]

section Stops

variable {h : GmpHdr} {x : Session} {s : State}

/-- STOP_ALL stops the unit (R194, R205). -/
theorem execStopAll_stops (r : GmpReady h x s) (right : hasRight s x.ident 2 = true) (w : Bool)
    (calm : s.safe.latch = true → s.safe.permit = 0) :
    ∃ t b, exec (.stopAll h w) s = .next t ∧ Answered h (if w then 0x02 else 0x08) stOk b s t ∧ t.safe.latch = true ∧
      t.safe.permit = 0 ∧ t.safe.cLatch = true ∧ t.safe.cPermit = 0 ∧ t.safe.arm = none := by
  obtain ⟨g, u, b, e, answered, safe, -⟩ := safeCmd_answers (v := safeWord 1 0 0 0) r
    (by rwa [safeRight_stop (by decide) (by decide)]) w (fun _ _ _ => safeCov_stopAll _ _)
  obtain ⟨latch, permit⟩ := safeLive_stopAll_stops (s := u) (by rwa [e.fol.safe rfl]) h.sess
  have live := covGlobal_live (s.jr.sf, s.jr.nextSeq) (safeLive h.sess (safeWord 1 0 0 0) u)
  obtain ⟨cLatch, cPermit, arm⟩ := covGlobal_sets (s.jr.sf, s.jr.nextSeq) (safeLive h.sess (safeWord 1 0 0 0) u)
  refine ⟨_, b, rfl, answered, ?_⟩
  rw [safe]
  exact ⟨(congrArg SafeS.latch live).trans latch, (congrArg SafeS.permit live).trans permit, cLatch, cPermit, arm⟩

/-- STOP_GROUP stops the machines of its group (R190, R205). -/
theorem execStopGroup_stops (r : GmpReady h x s) (right : hasRight s x.ident 2 = true) (w : Bool) {g : Nat} (hg : g < 8) :
    ∃ t b, exec (.stopGroup h w g) s = .next t ∧ Answered h (if w then 0x02 else 0x08) stOk b s t ∧
      t.safe.groups.testBit g = true ∧ t.safe.cGroups.testBit g = true ∧ t.safe.latch = s.safe.latch ∧
      ∀ a, isMachine s.part a = true → groupOf s a = g → t.safe.permit.testBit (machineBit a) = false := by
  obtain ⟨d, u, b, e, answered, safe, -⟩ := safeCmd_answers (v := safeWord 2 g 0 0) r
    (by rwa [safeRight_stop (by decide) (by decide)]) w
    (fun _ u _ => (safeCov_stopGroup hg _ _).trans (by rw [safeLive_stopGroup hg]))
  have live := covGroup_live (s.jr.sf, s.jr.nextSeq) g (liveGroup g 3 u)
  have latch : (liveGroup g 3 u).safe.latch = s.safe.latch :=
    (congrArg SafeS.latch (liveGroup_rest g 3 u)).trans (congrArg SafeS.latch (e.fol.safe rfl) :)
  refine ⟨_, b, rfl, answered, ?_⟩
  rw [safe]
  refine ⟨?_, covGroup_sets _ g _, (congrArg SafeS.latch live).trans latch, fun a hm ha => ?_⟩
  · rw [← liveGroup_groups g 3 u]
    exact congrArg (·.groups.testBit g) live
  · have group : groupOf u a = g := (e.groupOf ((isMachine_bounds hm).2.trans (machineCount_le _))).trans ha
    rw [← liveGroup_clears (e.fol.part.symm ▸ hm) group 3]
    exact congrArg (·.permit.testBit (machineBit a)) live

/-- STOP_MACHINE withdraws the machine, and has the stop frames sent again where it had no permit (R205). -/
theorem execStopMachine_stops (r : GmpReady h x s) (right : hasRight s x.ident 2 = true) (w : Bool) {a : Nat}
    (hm : isMachine s.part a = true) :
    ∃ t b, exec (.stopMachine h w a) s = .next t ∧ Answered h (if w then 0x02 else 0x08) stOk b s t ∧
      t.safe.permit.testBit (machineBit a) = false ∧ t.safe.cPermit.testBit (machineBit a) = false ∧
      t.safe.latch = s.safe.latch := by
  have work (u : State) : Follows { regs := true, gmp := true, safe := true, evr := true } u (stopHome a (liveWithdraw a 4 u)) :=
    stopHome_fol rfl (liveWithdraw_fol rfl rfl rfl rfl (.refl _ u))
  obtain ⟨d, u, b, e, answered, safe, -⟩ := safeCmd_answers (v := safeWord 3 0 0 a) r
    (by rwa [safeRight_stop (by decide) (by decide)]) w
    (f := fun u => covWithdraw (s.jr.sf, s.jr.nextSeq) a (stopHome a (liveWithdraw a 4 u))) (fun _ u e => by
      have hm : isMachine u.part a = true := e.fol.part.symm ▸ hm
      rw [safeLive_stopMachine hm, safeCov_stopMachine ((work u).part.symm ▸ hm)])
  have live := covWithdraw_live (s.jr.sf, s.jr.nextSeq) a (stopHome a (liveWithdraw a 4 u))
  have permit : (stopHome a (liveWithdraw a 4 u)).safe.permit.testBit (machineBit a) = false := by
    rw [(stopHome_safe a _).2]
    exact (liveWithdraw_clears a 4 u).1
  have latch : (stopHome a (liveWithdraw a 4 u)).safe.latch = s.safe.latch :=
    (congrArg SafeS.latch ((stopHome_rest a _).trans (liveWithdraw_rest a 4 u))).trans (congrArg SafeS.latch (e.fol.safe rfl) :)
  refine ⟨_, b, rfl, answered, ?_⟩
  rw [safe]
  refine ⟨?_, ?_, (congrArg SafeS.latch live).trans latch⟩
  · rw [← permit]
    exact congrArg (·.permit.testBit (machineBit a)) live
  · exact (covWithdraw_clears _ a _).2.2

end Stops

/-- Settles O18: the entry of a request leaves the SAFE bay and the groups; the live action stops, and the decision at the
position leaves the live state. -/
theorem stopCommandsStop : Obligations.StopCommandsStop :=
  fun _ _ _ w r right => ⟨execStopAll_stops r right w, fun _ hg => execStopGroup_stops r right w hg,
    fun _ hm => execStopMachine_stops r right w hm⟩

/-! Releases (R205 to R208). -/

/-- A release acts at its position alone. -/
theorem safeLive_release {op : Nat} (lo : 4 ≤ op) (hi : op < 16) (sess g k a : Nat) (s : State) :
    safeLive sess (safeWord op g k a) s = s := by
  have all : op ≠ 1 := by omega
  have group : op ≠ 2 := by omega
  have machine : op ≠ 3 := by omega
  simp [safeLive, fld_safeWord, Nat.mod_eq_of_lt hi, all, group, machine]

/-- An armed release with the next TOKEN (R206). -/
def armed (grp : Option Nat) (s : State) : State :=
  s.updSafe fun b =>
    { b with arm := some ⟨nextToken s.safe.lastToken, grp, s.jr.lastSf⟩, lastToken := nextToken s.safe.lastToken }

/-- ARM_ALL arms the release of the global latch where it is set (R206). -/
theorem safeCov_armAll {s : State} (may : armRefused s false = false) (set : s.safe.cLatch = true) (pos : Nat × Nat) :
    safeCov pos (safeWord 4 0 0 0) s = (armed none s, stOk) := by
  have decided : safeCov pos (safeWord 4 0 0 0) s = armOp none s := rfl
  simp [decided, armOp, may, set, armed]

/-- ARM_GROUP arms the release of a group's latch where it is set (R206). -/
theorem safeCov_armGroup {g : Nat} {s : State} (hg : g < 8) (may : armRefused s true = false)
    (set : s.safe.cGroups.testBit g = true) (pos : Nat × Nat) :
    safeCov pos (safeWord 5 g 0 0) s = (armed (some g) s, stOk) := by
  simp [safeCov, fld_safeWord, Nat.mod_eq_of_lt hg, armOp, may, set, armed]

/-- CONFIRM with the token in time clears the latch that is armed (R207). -/
theorem safeCov_confirm {k : Nat} {a : Machine.Arm} {s : State} (hk : k < 256) (arm : s.safe.arm = some a) (token : a.token = k)
    (may : armRefused s a.group.isSome = false) (inTime : s.jr.lastSf ≤ a.sf + cfg s Addr.SAFE_LEASE 21 16 * 50)
    (pos : Nat × Nat) : safeCov pos (safeWord 6 0 k 0) s = (releaseLatch a s, stOk) := by
  simp [safeCov, fld_safeWord, Nat.mod_eq_of_lt hk, confirmOp, arm, may, token, Nat.not_lt.mpr inTime]

/-- The release of the global latch clears it, live and covered, with its causes and what was armed (R207; 15_keys R388). -/
theorem releaseLatch_global {a : Machine.Arm} (hg : a.group = none) (s : State) :
    (releaseLatch a s).safe =
        { s.safe with latch := false, cLatch := false, firstCause := 0, faultCode := 0, origin := 0, arm := none } ∧
      (releaseLatch a s).key.arm = none := by
  have key (i : Nat) (l : List Nat) (who ev c : Nat) (u : State) : (evTrig i l (noticeLatch who ev c u)).key = u.key :=
    (evTrig_fol (kc := { regs := true, gmp := true, evr := true }) rfl rfl (noticeLatch_fol rfl rfl (.refl _ u))).key rfl
  simp only [releaseLatch, hg, evTrig_safe, noticeLatch_safe, key]
  exact ⟨rfl, rfl⟩

/-- RELEASE of a machine that no reason stands against and that has no permit grants it (R208). -/
theorem safeCov_release {a : Nat} {s : State} (hm : isMachine s.part a = true) (reason : releaseReason s a = 0)
    (clear : s.safe.cPermit.testBit (machineBit a) = false) (pos : Nat × Nat) :
    safeCov pos (safeWord 7 0 0 a) s = (grant pos a s, stOk) := by
  simp [safeCov, fld_safeWord, machine_field hm, hm, releaseOp, reason, clear]

/-- A grant sets the machine's bit in both maps and starts its lease at the position (R200, R208). -/
theorem grant_grants (pos : Nat × Nat) (m : Nat) (s : State) :
    (grant pos m s).safe.permit = setBitN s.safe.permit (machineBit m) true ∧
      (grant pos m s).safe.cPermit = setBitN s.safe.cPermit (machineBit m) true ∧
      (safeMach (grant pos m s) m).sfLast = pos.1 := by
  rw [safeMach, grant, noticeMach_safe, bump_safe]
  refine ⟨rfl, rfl, ?_⟩
  rw [← safeMach, safeMach_modMach]

/-- DISARM ends an armed release (R205). -/
theorem safeCov_disarm {s : State} (arm : s.safe.arm ≠ none) (pos : Nat × Nat) :
    safeCov pos (safeWord 8 0 0 0) s = (s.updSafe fun b => { b with arm := none }, stOk) := by
  have decided : safeCov pos (safeWord 8 0 0 0) s =
    if s.safe.arm.isSome then (s.updSafe fun b => { b with arm := none }, stOk) else (s, stEmpty) := rfl
  rw [decided, if_pos (Option.isSome_iff_ne_none.mpr arm)]

section Releases

variable {h : GmpHdr} {x : Session} {s : State}

/-- A release of a session with RELEASE is decided on the state with its entry. -/
theorem safeCmd_releases {op g k a : Nat} (lo : 4 ≤ op) (hi : op < 16) (r : GmpReady h x s)
    (right : hasRight s x.ident 3 = true) (w : Bool) {f : State → State}
    (hf : ∀ d u, Entered h x d s u → safeCov (s.jr.sf, s.jr.nextSeq) (safeWord op g k a) u = (f u, stOk)) :
    ∃ d u b, Entered h x d s u ∧ Answered h (if w then 0x02 else 0x08) stOk b s (safeCmd h w (safeWord op g k a) s) ∧
      (safeCmd h w (safeWord op g k a) s).safe = { (f u).safe with lastStatus := stOk } ∧
      (safeCmd h w (safeWord op g k a) s).key = (f u).key :=
  safeCmd_answers r (by rwa [safeRight_release lo hi]) w
    (fun d u e => by rw [safeLive_release lo hi]; exact hf d u e)

/-- ARM_ALL of a set latch arms its release with the next TOKEN (R206). -/
theorem execArmAll_arms (r : GmpReady h x s) (right : hasRight s x.ident 3 = true) (w : Bool)
    (may : armRefused s false = false) (set : s.safe.cLatch = true) :
    ∃ t b, exec (.armAll h w) s = .next t ∧ Answered h (if w then 0x02 else 0x08) stOk b s t ∧
      t.safe.arm = some ⟨nextToken s.safe.lastToken, none, s.jr.sf⟩ ∧ t.safe.lastToken = nextToken s.safe.lastToken ∧
      t.safe.latch = s.safe.latch := by
  obtain ⟨d, u, b, e, answered, safe, -⟩ := safeCmd_releases (op := 4) (g := 0) (k := 0) (a := 0) (by decide) (by decide) r
    right w (fun _ u e => safeCov_armAll (e.armRefused _ ▸ may) (e.fol.safe rfl ▸ set) _)
  refine ⟨_, b, rfl, answered, ?_⟩
  rw [safe, armed, updSafe_safe, e.lastSf, e.fol.safe rfl]
  exact ⟨rfl, rfl, rfl⟩

/-- ARM_GROUP of a set latch arms its release with the next TOKEN (R206). -/
theorem execArmGroup_arms (r : GmpReady h x s) (right : hasRight s x.ident 3 = true) (w : Bool) {g : Nat} (hg : g < 8)
    (may : armRefused s true = false) (set : s.safe.cGroups.testBit g = true) :
    ∃ t b, exec (.armGroup h w g) s = .next t ∧ Answered h (if w then 0x02 else 0x08) stOk b s t ∧
      t.safe.arm = some ⟨nextToken s.safe.lastToken, some g, s.jr.sf⟩ ∧ t.safe.groups = s.safe.groups := by
  obtain ⟨d, u, b, e, answered, safe, -⟩ := safeCmd_releases (op := 5) (g := g) (k := 0) (a := 0) (by decide) (by decide) r
    right w (fun _ u e => safeCov_armGroup hg (e.armRefused _ ▸ may) (e.fol.safe rfl ▸ set) _)
  refine ⟨_, b, rfl, answered, ?_⟩
  rw [safe, armed, updSafe_safe, e.lastSf, e.fol.safe rfl]
  exact ⟨rfl, rfl⟩

/-- CONFIRM with the token in time releases the global latch (R207). -/
theorem execConfirm_releases (r : GmpReady h x s) (right : hasRight s x.ident 3 = true) (w : Bool) {k sf : Nat}
    (hk : k < 256) (arm : s.safe.arm = some ⟨k, none, sf⟩) (may : armRefused s false = false)
    (inTime : s.jr.sf ≤ sf + cfg s Addr.SAFE_LEASE 21 16 * 50) :
    ∃ t b, exec (.confirm h w k) s = .next t ∧ Answered h (if w then 0x02 else 0x08) stOk b s t ∧ t.safe.latch = false ∧
      t.safe.cLatch = false ∧ t.safe.arm = none ∧ t.safe.permit = s.safe.permit ∧ t.key.arm = none := by
  obtain ⟨d, u, b, e, answered, safe, key⟩ := safeCmd_releases (op := 6) (g := 0) (k := k) (a := 0) (by decide) (by decide) r
    right w (fun _ u e => safeCov_confirm hk (e.fol.safe rfl ▸ arm) rfl (e.armRefused _ ▸ may)
      (by rwa [e.lastSf, e.armWindow]) _)
  obtain ⟨released, keys⟩ := releaseLatch_global (a := ⟨k, none, sf⟩) rfl u
  refine ⟨_, b, rfl, answered, ?_⟩
  rw [safe, key, released, e.fol.safe rfl]
  exact ⟨rfl, rfl, rfl, rfl, keys⟩

/-- RELEASE where no reason stands against it gives the machine its permit (R208). -/
theorem execRelease_grants (r : GmpReady h x s) (right : hasRight s x.ident 3 = true) (w : Bool) {a : Nat}
    (hm : isMachine s.part a = true) (reason : releaseReason s a = 0)
    (clear : s.safe.cPermit.testBit (machineBit a) = false) :
    ∃ t b, exec (.release h w a) s = .next t ∧ Answered h (if w then 0x02 else 0x08) stOk b s t ∧
      t.safe.permit = setBitN s.safe.permit (machineBit a) true ∧
      t.safe.cPermit = setBitN s.safe.cPermit (machineBit a) true ∧ (safeMach t a).sfLast = s.jr.sf := by
  have ha : a ≤ 256 := (isMachine_bounds hm).2.trans (machineCount_le _)
  obtain ⟨d, u, b, e, answered, safe, -⟩ := safeCmd_releases (op := 7) (g := 0) (k := 0) (a := a) (by decide) (by decide) r
    right w (fun _ u e => safeCov_release (e.fol.part ▸ hm) ((e.releaseReason ha).trans reason) (e.fol.safe rfl ▸ clear) _)
  obtain ⟨permit, cPermit, sfLast⟩ := grant_grants (s.jr.sf, s.jr.nextSeq) a u
  rw [e.fol.safe rfl] at permit cPermit
  refine ⟨_, b, rfl, answered, ?_⟩
  rw [safeMach_congr (congrArg SafeS.mach safe :), safe]
  exact ⟨permit, cPermit, sfLast⟩

/-- DISARM ends an armed release, and releases nothing (R205). -/
theorem execDisarm_disarms (r : GmpReady h x s) (right : hasRight s x.ident 3 = true) (w : Bool) (arm : s.safe.arm ≠ none) :
    ∃ t b, exec (.disarm h w) s = .next t ∧ Answered h (if w then 0x02 else 0x08) stOk b s t ∧ t.safe.arm = none ∧
      t.safe.permit = s.safe.permit ∧ t.safe.latch = s.safe.latch := by
  obtain ⟨d, u, b, e, answered, safe, -⟩ := safeCmd_releases (op := 8) (g := 0) (k := 0) (a := 0) (by decide) (by decide) r
    right w (fun _ u e => safeCov_disarm (e.fol.safe rfl ▸ arm) _)
  refine ⟨_, b, rfl, answered, ?_⟩
  rw [safe, updSafe_safe, e.fol.safe rfl]
  exact ⟨rfl, rfl, rfl⟩

end Releases

/-- Settles O19: the entry of a request leaves the SAFE bay, the window of an armed release and the reasons of R208, so each
release is decided as it would have been before the entry. -/
theorem releaseCommandsRelease : Obligations.ReleaseCommandsRelease :=
  fun _ _ _ w r right => ⟨execArmAll_arms r right w, fun _ hg => execArmGroup_arms r right w hg,
    fun _ _ hk => execConfirm_releases r right w hk, fun _ hm => execRelease_grants r right w hm, execDisarm_disarms r right w⟩

end Sys2Proof.Machine

/-!
The windowed words of the LOOP block (08_control_loops R240): neither the entry of a request nor the work of the scheduler
changes them.
-/

namespace Sys2Proof.Machine

open Sys2Proof

/-! What a job's end may change (11_scheduler R318, R323). -/

/-- `P` names all that the scheduler writes: registers that no selector shows, and a class's counts of its jobs and of the
late ones. -/
structure JobWords (P : Nat → Bool) : Prop where
  plain : ∀ a, P (rkey a) = true
  jobs : ∀ w, P (wkey Addr.SCHED_CLASS_SEL w Addr.SCHED_CLASS_CNT_JOBS) = true
  late : ∀ w, P (wkey Addr.SCHED_CLASS_SEL w Addr.SCHED_CLASS_CNT_LATE) = true

section Jobs

variable {P : Nat → Bool} {s0 s : State}

theorem maxF_words {a hi lo v : Nat} (hk : P (rkey a) = true) (h : Words P s0 s) : Words P s0 (maxF a hi lo v s) :=
  setForce_words hk h

/-- Work that leaves all but the scheduler leaves the register store. -/
theorem Words.sched {t : State} (h : Words P s0 s) (f : Follows { sched := true } s t) : Words P s0 t :=
  h.trans (.of_follows f rfl)

theorem startJob_words (h : Words P s0 s) (i e : Nat) : Words P s0 (startJob i e s) :=
  h.sched (startJob_fol rfl (.refl _ s))

theorem dispatch_words (h : Words P s0 s) (n k : Nat) : Words P s0 (dispatch n k s) :=
  h.sched (dispatch_fol rfl (.refl _ s))

theorem modJob_words (h : Words P s0 s) (i : Nat) (f : Job → Job) : Words P s0 (modJob i f s) :=
  h.sched (modJob_fol rfl (.refl _ s))

theorem stopEng_words (h : Words P s0 s) (e c : Nat) : Words P s0 (stopEng e c s) :=
  h.sched (stopEng_fol rfl (.refl _ s))

variable (w : JobWords P)
include w

theorem preemptJob_words (h : Words P s0 s) (i : Nat) (j : Job) : Words P s0 (preemptJob i j s) :=
  bump_words (w.plain _) (modJob_words (stopEng_words h _ _) _ _)

theorem tryPreempt_words (h : Words P s0 s) (i : Nat) : Words P s0 (tryPreempt i s) := by
  have moved (j k : Nat) (x : Job) (e : Nat) : Words P s0 (startJob j e (preemptJob k x s)) :=
    startJob_words (preemptJob_words w h k x) j e
  unfold tryPreempt
  dsimp only
  split
  · exact h
  · split
    · exact h
    · split
      · split
        · exact moved _ _ _ _
        · exact h
      · split
        · split
          · exact moved _ _ _ _
          · exact h
        · exact h

theorem readyJob_words (h : Words P s0 s) (i : Nat) : Words P s0 (readyJob i s) := by
  unfold readyJob
  split
  · exact h
  · exact tryPreempt_words w (dispatch_words (maxF_words (w.plain _) (modJob_words h _ _)) _ _) _

theorem placeJob_words (h : Words P s0 s) (j : Job) (d : Option Nat) : Words P s0 (placeJob j d s) := by
  unfold placeJob
  split
  · exact updSched_words h
  · dsimp only
    split
    · exact updSched_words h
    · exact readyJob_words w (updSched_words h) _

theorem unstall_words (h : Words P s0 s) (n : Nat) : Words P s0 (unstall n s) := by
  induction n generalizing s with
  | zero => exact h
  | succ n ih =>
    unfold unstall
    split
    · exact h
    · split
      · exact ih (placeJob_words w (updSched_words h) _ _)
      · exact h

theorem freeJob_words (h : Words P s0 s) (i : Nat) : Words P s0 (freeJob i s) :=
  unstall_words w (updSched_words h) _

theorem evrKick_words (h : Words P s0 s) (n : Nat) : Words P s0 (evrKick n s) := by
  induction n generalizing s with
  | zero => exact h
  | succ n ih =>
    unfold evrKick
    split
    · exact h
    · split
      · exact h
      · split
        · exact ih (bump_words (w.plain _) (updEvr_words h))
        · split
          · exact alarm_words (w.plain _) (updEvr_words h)
          · exact updEvr_words h

theorem evTrig_words (h : Words P s0 s) (t : Nat) (d : List Nat) : Words P s0 (evTrig t d s) := by
  unfold evTrig
  split
  · exact h
  · split
    · exact alarm_words (w.plain _) (bump_words (w.plain _) (updEvr_words h))
    · exact evrKick_words w (updEvr_words h) _

theorem markLate_words (h : Words P s0 s) (i : Nat) (j : Job) : Words P s0 (markLate i j s) := by
  unfold markLate
  dsimp only
  have counted (f : SchedS → SchedS) (g : Job → Job) :
      Words P s0 (modJob i g ((bumpW Addr.SCHED_CLASS_SEL j.cls Addr.SCHED_CLASS_CNT_LATE
        (bump Addr.SCHED_CNT_LATE s)).updSched f)) :=
    modJob_words (updSched_words (bumpW_words (w.late _) (bump_words (w.plain _) h))) _ _
  split
  · exact evTrig_words w (counted _ _) _ _
  · exact counted _ _

theorem wakeChain_words (h : Words P s0 s) (c o : Nat) : Words P s0 (wakeChain c o s) := by
  unfold wakeChain
  split
  · exact readyJob_words w h _
  · exact h

theorem completeJob_words (h : Words P s0 s) (i st : Nat) : Words P s0 (completeJob i st s) := by
  unfold completeJob
  split
  · exact h
  · rename_i j _
    dsimp only
    have stopped : Words P s0 (if j.st = .running then stopEng j.engine j.cls s else s) := by
      split
      · exact stopEng_words h _ _
      · exact h
    have done (u : State) (hu : Words P s0 u) : Words P s0 (dispatch 31 j.kind (wakeChain j.cls j.object
        (if j.covered then bumpW Addr.SCHED_CLASS_SEL j.cls Addr.SCHED_CLASS_CNT_JOBS u
          else freeJob i (bumpW Addr.SCHED_CLASS_SEL j.cls Addr.SCHED_CLASS_CNT_JOBS u)))) := by
      have counted := bumpW_words (w.jobs j.cls) hu
      refine dispatch_words (wakeChain_words w ?_ _ _) _ _
      split
      · exact counted
      · exact freeJob_words w counted _
    refine done _ ?_
    split
    · exact markLate_words w (modJob_words stopped _ _) _ _
    · exact modJob_words stopped _ _

/-- A job that is finished changes only what the scheduler writes. -/
theorem finishJob_words (h : Words P s0 s) (c o st : Nat) : Words P s0 (finishJob c o st s) := by
  unfold finishJob
  split
  · exact completeJob_words w h _ _
  · exact h

end Jobs

/-! The words that LOOP_SEL shows. -/

/-- No windowed word of the LOOP block, which stands at 0x0008_0000 (17_host R446), has this key. -/
def outsideLoops (k : Nat) : Bool := decide (k % 2 ^ 21 < 0x80000 ∨ 0x90000 ≤ k % 2 ^ 21)

theorem outsideLoops_rkey (a : Nat) : outsideLoops (rkey a) = true := by
  refine decide_eq_true ?_
  unfold rkey
  omega

theorem outsideLoops_wkey (sel w : Nat) {a : Nat} (ha : a < 0x80000) : outsideLoops (wkey sel w a) = true := by
  refine decide_eq_true ?_
  unfold wkey
  omega

theorem outsideLoops_loop (l : Nat) {a : Nat} (lo : 0x80000 ≤ a) (hi : a < 0x90000) :
    outsideLoops (wkey Addr.LOOP_SEL l a) = false := by
  refine decide_eq_false ?_
  unfold wkey
  omega

/-- The scheduler's words stand outside. -/
theorem jobWords_outsideLoops : JobWords outsideLoops :=
  ⟨outsideLoops_rkey, fun w => outsideLoops_wkey _ w (by decide), fun w => outsideLoops_wkey _ w (by decide)⟩

/-- The words of a request's entry stand outside. -/
theorem enteredWord_loop {k : Nat} (h : outsideLoops k = false) : enteredWord k = false := by
  refine Bool.eq_false_iff.mpr fun entered => Bool.eq_false_iff.mp h ?_
  simp only [enteredWord, entryWords, Bool.or_eq_true, beq_iff_eq] at entered
  rcases entered with (rfl | rfl) | rfl
  · exact outsideLoops_rkey _
  · exact outsideLoops_rkey _
  · exact outsideLoops_wkey _ _ (by decide)

/-- A field of a loop's configuration, where only words outside have changed. -/
theorem lcfg_words {s t : State} (w : Words outsideLoops s t) (l : Nat) {a : Nat} (lo : 0x80000 ≤ a) (hi : a < 0x90000)
    (i j : Nat) : lcfg t l a i j = lcfg s l a i j :=
  cfgW_words w (outsideLoops_loop l lo hi)

section Entry

variable {h : GmpHdr} {x : Session} {b : GmpBody} {s u : State}

/-- The entry of a request leaves the configuration of the loops. -/
theorem Entered.lcfg (e : Entered h x b s u) (l : Nat) {a : Nat} (lo : 0x80000 ≤ a) (hi : a < 0x90000) (i j : Nat) :
    lcfg u l a i j = lcfg s l a i j :=
  lcfg_words (e.words.mono fun _ => enteredWord_loop) l lo hi i j

/-- The entry of a request leaves the loop that LOOP_SEL selects. -/
theorem Entered.selLoop (e : Entered h x b s u) : selLoop u = selLoop s :=
  cfg_words e.words (by decide)

/-- The entry of a request leaves the coefficients. -/
theorem Entered.coefW (e : Entered h x b s u) (l : Nat) {g r w : Nat} (hg : g < 2) (hr : r < 8) (hw : w < 16) :
    coefW u l g r w = coefW s l g r w :=
  e.lcfg l (show 0x80000 ≤ 0x80400 + 0x200 * g + 0x40 * r + 4 * w by omega)
    (show 0x80400 + 0x200 * g + 0x40 * r + 4 * w < 0x90000 by omega) _ _

theorem Entered.coefs (e : Entered h x b s u) (l : Nat) {g r : Nat} (hg : g < 2) (hr : r < 8) :
    coefs u l g r = coefs s l g r := by
  have word (w : Nat) (hw : w < 16) := e.coefW l hg hr hw
  rw [Machine.coefs, word 0 (by decide), word 1 (by decide), word 2 (by decide), word 3 (by decide), word 4 (by decide),
    word 5 (by decide), word 6 (by decide), word 7 (by decide), word 8 (by decide), word 9 (by decide)]
  rfl

end Entry

end Sys2Proof.Machine

/-!
LOOP_CTRL and LOOP_COEF (08_control_loops R233, R234, R240): what a change of a loop leaves of the others, and the writes
to the selected loop.
-/

namespace Sys2Proof.Machine

open Sys2Proof

/-! A loop changed. -/

theorem kfind_modLoop (l : Nat) (f : Loop → Loop) (s : State) (j : Nat) :
    kfind (modLoop l f s).loop.loops j = if j = l then (kfind s.loop.loops l).map f else kfind s.loop.loops j := by
  unfold modLoop
  split
  · rename_i x hx
    rw [updLoop_loop, kfind_kins, hx, Option.map_some]
  · rename_i hx
    by_cases hj : j = l
    · rw [if_pos hj, hj, hx, Option.map_none]
    · rw [if_neg hj]

/-- A loop that is listed, after it is changed. -/
theorem kfind_modLoop_self {l : Nat} {s : State} {x : Loop} (hx : kfind s.loop.loops l = some x) (f : Loop → Loop) :
    kfind (modLoop l f s).loop.loops l = some (f x) := by
  rw [kfind_modLoop, if_pos rfl, hx, Option.map_some]

/-- A loop that returns to READY is changed in a state whose loops are those before it: its machine's commands cease
(R234, R237). -/
theorem loopReady_eq {l : Nat} {s : State} {x : Loop} (hx : kfind s.loop.loops l = some x) :
    ∃ u, Follows { memb := true } s u ∧ loopReady l s = modLoop l Loop.toReady u := by
  refine ⟨if x.st = .ready then s else ceaseCmd x.machine (x.kind == 2) s, ?_, by rw [loopReady, hx]⟩
  split
  · exact .refl _ s
  · exact ceaseCmd_fol rfl (.refl _ s)

/-- A return to READY clears the stages of the loop (R234). -/
theorem kfind_loopReady_self {l : Nat} {s : State} {x : Loop} (hx : kfind s.loop.loops l = some x) :
    kfind (loopReady l s).loop.loops l = some x.toReady := by
  obtain ⟨u, f, ready⟩ := loopReady_eq hx
  rw [ready, kfind_modLoop_self (by rw [f.loop rfl, hx])]

/-! LOOP_CTRL (R234, R240). -/

/-- A write of 1 to RESUME takes a loop in HOLD with BAD 0 to READY. -/
theorem loopCtrlWord_resume {s : State} {x : Loop} (hx : kfind s.loop.loops (selLoop s) = some x) (hold : x.st = .hold)
    (bad : x.bad = 0) : loopCtrlWord 1#32 s = (loopReady (selLoop s) s, stOk) := by
  have resumed : resume (selLoop s) s = (loopReady (selLoop s) s, stOk) := by simp [resume, hx, hold, bad]
  have clear : bit 1#32 1 = false := by decide
  have asked : bit 1#32 0 = true := by decide
  have ok : isErr stOk = false := rfl
  simp [loopCtrlWord, clear, asked, resumed, ok]

/-- A write of 1 to CLEAR_I alone clears the integrators of the selected loop. -/
theorem loopCtrlWord_clearI (s : State) : loopCtrlWord 2#32 s = (clearI (selLoop s) s, stOk) := by
  have clear : bit 2#32 1 = true := by decide
  have asked : bit 2#32 0 = false := by decide
  simp [loopCtrlWord, clear, asked]

/-- A loop whose integrators are 0, clamped to the limits of two sets of coefficients. -/
def Loop.clearedI (ci co : Coefs) (x : Loop) : Loop :=
  { x with inner := { x.inner with i := fpClamp 0 ci.imin ci.imax }, outer := { x.outer with i := fpClamp 0 co.imin co.imax } }

theorem kfind_clearI_self {l : Nat} {s : State} {x : Loop} (hx : kfind s.loop.loops l = some x) :
    kfind (clearI l s).loop.loops l = some (x.clearedI (coefs s l 0 x.region) (coefs s l 1 x.region)) :=
  kfind_modLoop_self hx _

/-! LOOP_COEF (R233). -/

/-- The address of coefficient word `w` of stage `g` and region `r`. -/
def coefAddr (g r w : Nat) : Nat := Addr.LOOP_COEF + 0x200 * g + 0x40 * r + 4 * w

/-- R233 refuses a coefficient word: a value that is no number, a negative TAU_D, or limits that cross. -/
def coefRefused (s : State) (l g r w : Nat) (f : F32) : Bool :=
  fpBad f || (w == 4 && fpLt f 0) || (w == 6 && fpLt (coefW s l g r 7) f) || (w == 7 && fpLt f (coefW s l g r 6)) ||
    (w == 8 && fpLt (coefW s l g r 9) f) || (w == 9 && fpLt f (coefW s l g r 8))

/-- A coefficient word is in force at once, or refused (R233). -/
theorem coefWord_eq {w : Nat} (hw : w < 10) (g r : Nat) (v : Word) (s : State) :
    coefWord (coefAddr g r w) v s = if coefRefused s (selLoop s) g r w v.toNat then (s, stField)
      else (setForce (wkey Addr.LOOP_SEL (selLoop s) (coefAddr g r w)) v s, stOk) := by
  have offset : coefAddr g r w - Addr.LOOP_COEF = 0x200 * g + 0x40 * r + 4 * w := by unfold coefAddr; omega
  have word : (0x200 * g + 0x40 * r + 4 * w) % 0x40 / 4 = w := by omega
  have base : coefAddr g r w - 4 * w = Addr.LOOP_COEF + 0x200 * g + 0x40 * r := Nat.add_sub_cancel _ _
  simp only [coefWord, offset, word, base]
  rw [if_neg (Nat.not_le_of_lt hw)]
  rfl

/-- The entry of a request leaves what R233 refuses. -/
theorem Entered.coefRefused {h : GmpHdr} {x : Session} {b : GmpBody} {s u : State} (e : Entered h x b s u) (l w : Nat)
    {g r : Nat} (hg : g < 2) (hr : r < 8) (f : F32) : coefRefused u l g r w f = coefRefused s l g r w f := by
  have word (i : Nat) (hi : i < 16) := e.coefW l hg hr hi
  simp only [Machine.coefRefused, word 6 (by decide), word 7 (by decide), word 8 (by decide), word 9 (by decide)]

/-- A word of a loop after it is written. -/
theorem lcfg_setForce (l a : Nat) (v : Word) (s : State) :
    lcfg (setForce (wkey Addr.LOOP_SEL l a) v s) l a 31 0 = v.toNat := by
  rw [lcfg, cfgW, forceW_setForce, if_pos rfl, fld, bitsOf]
  exact (congrArg (· % 2 ^ 32) (Nat.div_one _)).trans (Nat.mod_eq_of_lt v.isLt)

/-! The commands. -/

section LoopCtrl

variable {h : GmpHdr} {x : Session} {s : State}

/-- A write of LOOP_CTRL is decided on the state with its entry, and nothing but the answer follows it. -/
theorem loopCtrl_answers (m : GmpMay h x 1 10 s) (v : Word) :
    ∃ u, Entered h x (.write [(Addr.LOOP_CTRL, v)]) s u ∧
      Answered h 0x02 (loopCtrlWord v u).2 (indexBody (if isErr (loopCtrlWord v u).2 then 0 else 0xFFFF)) s
        (gmpWord h Addr.LOOP_CTRL v 1 (loopCtrlWord v) s) ∧
      Follows { gmp := true, sess := true } (loopCtrlWord v u).1 (gmpWord h Addr.LOOP_CTRL v 1 (loopCtrlWord v) s) :=
  gmpWord_answers m Addr.LOOP_CTRL v (c := { memb := true, loop := true }) rfl rfl
    (fun u => loopCtrlWord_fol rfl rfl (.refl _ u))

/-- RESUME of a loop in HOLD with BAD 0 (R234). -/
theorem execResume_readies (m : GmpMay h x 1 10 s) {y : Loop} (hy : kfind s.loop.loops (selLoop s) = some y)
    (hold : y.st = .hold) (bad : y.bad = 0) :
    ∃ t, exec (.resume h) s = .next t ∧ Answered h 0x02 stOk (indexBody 0xFFFF) s t ∧
      kfind t.loop.loops (selLoop s) = some y.toReady := by
  obtain ⟨u, e, answered, rest⟩ := loopCtrl_answers m 1#32
  have found : kfind u.loop.loops (selLoop u) = some y := by rw [e.fol.loop rfl, e.selLoop, hy]
  rw [loopCtrlWord_resume found hold bad] at answered rest
  refine ⟨_, rfl, answered, ?_⟩
  rw [rest.loop rfl, ← e.selLoop, kfind_loopReady_self found]

/-- CLEAR_I clears the integrators of the selected loop within their limits (R240). -/
theorem execClearI_clears (m : GmpMay h x 1 10 s) {y : Loop} (hy : kfind s.loop.loops (selLoop s) = some y)
    (region : y.region < 8) :
    ∃ t, exec (.clearI h) s = .next t ∧ Answered h 0x02 stOk (indexBody 0xFFFF) s t ∧
      kfind t.loop.loops (selLoop s) =
        some (y.clearedI (coefs s (selLoop s) 0 y.region) (coefs s (selLoop s) 1 y.region)) := by
  obtain ⟨u, e, answered, rest⟩ := loopCtrl_answers m 2#32
  have found : kfind u.loop.loops (selLoop s) = some y := by rw [e.fol.loop rfl, hy]
  rw [loopCtrlWord_clearI, e.selLoop] at answered rest
  refine ⟨_, rfl, answered, ?_⟩
  rw [rest.loop rfl, kfind_clearI_self found, e.coefs _ (by decide) region, e.coefs _ (by decide) region]

/-- COEF_WRITE is a write of the word that it names. -/
theorem execCoefWrite_eq {g r w : Nat} (hg : g < 2) (hr : r < 8) (hw : w < 10) (v : Word) :
    exec (.coefWrite h g r w v) s = .next (gmpWord h (coefAddr g r w) v 1 (coefWord (coefAddr g r w) v) s) := by
  show execCoefWrite h g r w v s = _
  rw [execCoefWrite, Nat.mod_eq_of_lt hg, Nat.mod_eq_of_lt hr, Nat.mod_eq_of_lt (hw.trans (by decide))]
  rfl

/-- COEF_WRITE brings a word that R233 allows into force, and answers one that it does not with ERR_FIELD. -/
theorem execCoefWrite_writes (m : GmpMay h x 1 10 s) {g r w : Nat} (hg : g < 2) (hr : r < 8) (hw : w < 10) (v : Word) :
    ∃ t, exec (.coefWrite h g r w v) s = .next t ∧
      if coefRefused s (selLoop s) g r w v.toNat then
        Answered h 0x02 stField (indexBody 0) s t ∧
          lcfg t (selLoop s) (coefAddr g r w) 31 0 = lcfg s (selLoop s) (coefAddr g r w) 31 0
      else
        Answered h 0x02 stOk (indexBody 0xFFFF) s t ∧ lcfg t (selLoop s) (coefAddr g r w) 31 0 = v.toNat := by
  obtain ⟨u, e, answered, rest⟩ := gmpWord_answers m (coefAddr g r w) v (f := coefWord (coefAddr g r w) v)
    (c := { regs := true, stage := true }) rfl rfl (fun u => coefWord_fol rfl (.refl _ u))
  have same {q : State} (after : Follows { gmp := true, sess := true } q
      (gmpWord h (coefAddr g r w) v 1 (coefWord (coefAddr g r w) v) s)) :
      lcfg (gmpWord h (coefAddr g r w) v 1 (coefWord (coefAddr g r w) v) s) (selLoop s) (coefAddr g r w) 31 0 =
        lcfg q (selLoop s) (coefAddr g r w) 31 0 :=
    cfgW_words (Words.of_follows (P := fun _ => false) after rfl) rfl
  refine ⟨_, execCoefWrite_eq hg hr hw v, ?_⟩
  rw [coefWord_eq hw, e.selLoop, e.coefRefused _ w hg hr] at answered rest
  split at answered
  next refused =>
    rw [if_pos refused] at rest ⊢
    exact ⟨answered, (same rest).trans (e.coefW _ hg hr (hw.trans (by decide)))⟩
  next allowed =>
    rw [if_neg allowed] at rest ⊢
    exact ⟨answered, (same rest).trans (lcfg_setForce _ _ _ _)⟩

end LoopCtrl

/-- The status of a coefficient word says whether R233 refuses it. -/
theorem coefWord_ok {g r w : Nat} (hw : w < 10) {v : Word} {s : State} (ok : (coefWord (coefAddr g r w) v s).2 = stOk) :
    coefRefused s (selLoop s) g r w v.toNat = false := by
  refine Bool.eq_false_iff.mpr fun refused => ?_
  rw [coefWord_eq hw, if_pos refused] at ok
  exact absurd ok (show stField ≠ stOk by decide)

/-- R233 refuses what is no number. -/
theorem coefRefused_of_bad (s : State) (l g r w : Nat) {f : F32} (bad : fpBad f = true) : coefRefused s l g r w f = true := by
  simp [coefRefused, bad]

/-- Settles O30: the entry of a request leaves the loops, LOOP_SEL and the coefficients in force, so each write decides as it
would have before the entry. -/
theorem loopControlActs : Obligations.LoopControlActs := by
  refine fun h x s m => ⟨?_, ?_, ?_⟩
  · rintro _ y rfl hy hold bad
    obtain ⟨t, hexec, answered, found⟩ := execResume_readies m hy hold bad
    exact ⟨t, _, hexec, answered, found, rfl, rfl⟩
  · rintro _ y rfl hy region
    obtain ⟨t, hexec, answered, found⟩ := execClearI_clears m hy region
    exact ⟨t, _, hexec, answered, found, rfl, rfl, rfl⟩
  · rintro g r w v _ hg hr hw rfl
    obtain ⟨t, hexec, written⟩ := execCoefWrite_writes m hg hr hw v
    refine ⟨fun ok => ⟨t, hexec, ?_⟩, fun bad => ⟨t, hexec, ?_⟩⟩
    · rwa [coefWord_ok hw ok, if_neg Bool.false_ne_true] at written
    · rwa [coefRefused_of_bad _ _ _ _ _ bad, if_pos rfl] at written

end Sys2Proof.Machine

/-!
A loop at a mark (08_control_loops R221, R234 to R236): the count of the mark, the check of a loop in RUN, the steps of HOLD
and its withdrawal.
-/

namespace Sys2Proof.Machine

open Sys2Proof

/-! Entry to HOLD (R234, R235). -/

/-- A fold that visits `a` turns what holds until then into what stays from then on. -/
theorem foldl_at {α : Type} {F : State → α → State} {P Q : State → Prop} {a : α} (before : ∀ t b, b ≠ a → P t → P (F t b))
    (here : ∀ t, P t → Q (F t a)) (after : ∀ t b, Q t → Q (F t b)) {l : List α} (ha : a ∈ l) {s : State} (h : P s) :
    Q (l.foldl F s) := by
  induction l generalizing s with
  | nil => cases ha
  | cons b r ih =>
    by_cases hb : b = a
    · exact List.foldlRecOn r F (hb ▸ here s h) fun t ht c _ => after t c ht
    · exact ih ((List.mem_cons.mp ha).resolve_left (Ne.symm hb)) (before s b hb h)

/-- A loop that is not OFF is one of its machine's. -/
theorem mem_loopsOf {l : Nat} {s : State} {x : Loop} (hx : kfind s.loop.loops l = some x) : l ∈ loopsOf s x.machine :=
  List.mem_map.mpr ⟨(l, x), List.mem_filter.mpr ⟨mem_of_kfind hx, beq_self_eq_true _⟩, rfl⟩

/-- A loop that enters HOLD at a superframe, with the deceleration of its ramp. -/
def Loop.inHold (sf dec : Nat) (x : Loop) : Loop :=
  { x with st := .hold, sfHold := sf, v0 := if x.kind = 1 then x.out else 0, dec := dec, ceased := false, withdrawn := false }

/-- A loop that is not in RUN stays as it is. -/
theorem holdOne_stays {l : Nat} {s : State} (h : ∀ x, kfind s.loop.loops l = some x → x.st ≠ .run) (sf : Nat) :
    holdOne sf s l = s := by
  unfold holdOne
  split
  · rfl
  · rename_i x hx
    exact if_pos (h x hx)

/-- A loop in RUN enters HOLD, and that is counted. -/
theorem holdOne_run {l : Nat} {s : State} {x : Loop} (hx : kfind s.loop.loops l = some x) (run : x.st = .run) (sf : Nat) :
    ∃ dec, holdOne sf s l = bump Addr.LOOP_CNT_HOLD (modLoop l (Loop.inHold sf dec) s) := by
  rw [holdOne, hx]
  exact ⟨_, if_neg (not_not_intro run)⟩

/-- The entry of a loop to HOLD is no change, or one of that loop, which is counted. -/
theorem holdOne_eq (sf : Nat) (s : State) (l : Nat) :
    holdOne sf s l = s ∨ ∃ dec, holdOne sf s l = bump Addr.LOOP_CNT_HOLD (modLoop l (Loop.inHold sf dec) s) := by
  by_cases h : ∃ x, kfind s.loop.loops l = some x ∧ x.st = .run
  · obtain ⟨x, hx, run⟩ := h
    exact .inr (holdOne_run hx run sf)
  · exact .inl (holdOne_stays (fun x hx run => h ⟨x, hx, run⟩) sf)

/-- The entry of a loop to HOLD leaves the others. -/
theorem kfind_holdOne_other {l j : Nat} (hj : j ≠ l) (sf : Nat) (s : State) :
    kfind (holdOne sf s l).loop.loops j = kfind s.loop.loops j := by
  obtain e | ⟨dec, e⟩ := holdOne_eq sf s l
  · rw [e]
  · rw [e]
    exact (kfind_modLoop _ _ _ _).trans (if_neg hj)

/-- Every loop of a machine in RUN enters HOLD (R234). -/
theorem kfind_holdAll_run {l : Nat} {s : State} {x : Loop} (hx : kfind s.loop.loops l = some x) (run : x.st = .run) (sf : Nat) :
    ∃ dec, kfind (holdAll x.machine sf s).loop.loops l = some (x.inHold sf dec) := by
  refine foldl_at (P := fun t => kfind t.loop.loops l = some x)
    (Q := fun t => ∃ dec, kfind t.loop.loops l = some (x.inHold sf dec)) (fun t j hj ht => ?_) (fun t ht => ?_)
    (fun t j ht => ?_) (mem_loopsOf hx) hx
  · rw [kfind_holdOne_other hj.symm, ht]
  · obtain ⟨dec, e⟩ := holdOne_run ht run sf
    exact ⟨dec, by rw [e]; exact kfind_modLoop_self ht _⟩
  · obtain ⟨dec, hd⟩ := ht
    refine ⟨dec, ?_⟩
    by_cases hj : l = j
    · rw [← hj, holdOne_stays (fun y hy => Option.some.inj (hd.symm.trans hy) ▸ nofun) sf, hd]
    · rw [kfind_holdOne_other hj, hd]

/-! The mark (R221, R234). -/

/-- A loop counted at a mark. -/
def Loop.ticked (sf : Nat) (x : Loop) : Loop :=
  { x with tickSf := sf, seen := false, bad := if x.seen then x.bad else min (x.bad + 1) 63 }

/-- A mark that has not been taken raises BAD where no usable sample came since the one before (R221). -/
theorem kfind_tickLoop {l sf : Nat} {s : State} {x : Loop} (hx : kfind s.loop.loops l = some x) (new : x.tickSf < sf) :
    kfind (tickLoop sf s l).loop.loops l = some (x.ticked sf) := by
  have marked := kfind_modLoop_self hx (fun y => { y with tickSf := sf, seen := false })
  rw [tickLoop, hx]
  dsimp only
  rw [if_neg (Nat.not_le_of_lt new), Loop.ticked]
  split
  next seen => rw [marked]
  next missed => exact kfind_modLoop_self marked _

/-- A loop in RUN goes to READY without its permit (R234). -/
theorem holdCheck_withdrawn {l : Nat} {s : State} {x : Loop} (hx : kfind s.loop.loops l = some x) (run : x.st = .run)
    (clear : permitted s x.machine = false) (sf : Nat) : holdCheck sf s l = loopReady l s := by
  simp [holdCheck, hx, run, clear]

/-- A loop in RUN whose BAD has reached BAD_MAX enters HOLD, with its machine's others (R234). -/
theorem holdCheck_bad {l : Nat} {s : State} {x : Loop} (hx : kfind s.loop.loops l = some x) (run : x.st = .run)
    (set : permitted s x.machine = true) (bad : lcfg s l Addr.LOOP_CFG1 21 16 ≤ x.bad) (sf : Nat) :
    holdCheck sf s l = holdAll x.machine sf s := by
  simp [holdCheck, hx, run, set, bad]

/-! HOLD (R235, R236). -/

/-- A loop's commands end at a step of HOLD: its machine has no permit, or its ramp, or that of the machine's SPEED loop, has
come to zero (R235). -/
def holdEnds (s : State) (x : Loop) (sf : Nat) : Bool :=
  !permitted s x.machine ||
    (if x.kind = 1 then !fpLt 0 (rampAt x (sf - x.sfHold)) else speedDone s x (sf - x.sfHold))

/-- A loop whose step of HOLD is taken. -/
def Loop.stepped (sf : Nat) (ends : Bool) (x : Loop) : Loop := { x with stepSf := sf, ceased := ends }

/-- A loop that still sends, its step taken and, where that is the last, its commands ended. -/
theorem kfind_stepped {l : Nat} {s : State} {x : Loop} (hx : kfind s.loop.loops l = some x) (sends : x.ceased = false)
    (sf : Nat) (ends : Bool) :
    kfind (if ends then modLoop l (fun y => { y with ceased := true }) (modLoop l (fun y => { y with stepSf := sf }) s)
      else modLoop l (fun y => { y with stepSf := sf }) s).loop.loops l = some (x.stepped sf ends) := by
  have taken := kfind_modLoop_self hx (fun y => { y with stepSf := sf })
  cases ends with
  | false =>
    rw [if_neg Bool.false_ne_true, taken, Loop.stepped, sends]
  | true =>
    rw [if_pos rfl, kfind_modLoop_self taken]
    rfl

/-- A step of HOLD that has not been taken is taken, and ends the commands where `holdEnds` says so (R235). -/
theorem kfind_holdStep {l sf : Nat} {s : State} {x : Loop} (hx : kfind s.loop.loops l = some x) (hold : x.st = .hold)
    (later : x.sfHold < sf) (new : x.stepSf < sf) (sends : x.ceased = false) :
    kfind (holdStep sf s l).loop.loops l = some (x.stepped sf (holdEnds s x sf)) := by
  have due : ¬ (x.st ≠ .hold ∨ sf ≤ x.sfHold ∨ sf ≤ x.stepSf) := by
    simp [hold, later, new]
  have sent (q : Loop) (v : F32) (b : Bool) (u : State) : (sendOut q v sf 3 b u).loop = u.loop :=
    (sendOut_fol (kc := { memb := true }) rfl (.refl _ u)).loop rfl
  have ceased (a : Nat) (b : Bool) (u : State) : (ceaseCmd a b u).loop = u.loop :=
    (ceaseCmd_fol (kc := { memb := true }) rfl (.refl _ u)).loop rfl
  rw [holdStep, hx, holdEnds]
  dsimp only
  rw [if_neg due, if_neg (Bool.eq_false_iff.mp sends)]
  cases set : permitted s x.machine with
  | false =>
    rw [if_pos Bool.not_false, ceased, Bool.not_false, Bool.true_or]
    exact kfind_stepped hx sends sf true
  | true =>
    rw [if_neg (by decide), sent, Bool.not_true, Bool.false_or]
    split
    · exact kfind_stepped hx sends sf _
    · exact kfind_stepped hx sends sf _

/-- After T_HOLD the permit of a loop's machine is withdrawn (R236). -/
theorem holdWithdraw_eq {l : Nat} {pos : Nat × Nat} {s : State} {x : Loop} (hx : kfind s.loop.loops l = some x)
    (hold : x.st = .hold) (stands : x.withdrawn = false) (due : x.sfHold + lcfg s l Addr.LOOP_CFG1 30 24 ≤ pos.1) :
    holdWithdraw pos s l = bump Addr.LOOP_CNT_WITHDRAW
      (withdraw pos x.machine 12 (modLoop l (fun y => { y with withdrawn := true }) s)) := by
  have now : ¬ (x.st ≠ .hold ∨ x.withdrawn ∨ pos.1 < x.sfHold + lcfg s l Addr.LOOP_CFG1 30 24) := by
    simp [hold, stands, due]
  rw [holdWithdraw, hx]
  exact if_neg now

/-- A withdrawal leaves the loops. -/
theorem withdraw_loop (pos : Nat × Nat) (m cause : Nat) (s : State) : (withdraw pos m cause s).loop = s.loop :=
  (withdraw_fol (kc := { regs := true, gmp := true, safe := true, evr := true }) rfl rfl rfl rfl (.refl _ s)).loop rfl

/-! The commands at the newest mark. -/

section Marks

variable {l : Nat} {s : State} {x : Loop} (hx : kfind s.loop.loops l = some x)
include hx

/-- LOOP_TICK (R221). -/
theorem execLoopTick_counts (new : x.tickSf < s.jr.sf) :
    ∃ t, exec (.loopTick l) s = .next t ∧ kfind t.loop.loops l = some (x.ticked s.jr.sf) :=
  ⟨_, rfl, kfind_tickLoop hx new⟩

/-- LOOP_HOLD without the permit (R234). -/
theorem execLoopHold_readies (run : x.st = .run) (clear : permitted s x.machine = false) :
    ∃ t, exec (.loopHold l) s = .next t ∧ kfind t.loop.loops l = some x.toReady :=
  ⟨_, rfl, by rw [holdCheck_withdrawn hx run clear, kfind_loopReady_self hx]⟩

/-- LOOP_HOLD at BAD_MAX (R234). -/
theorem execLoopHold_holds (run : x.st = .run) (set : permitted s x.machine = true)
    (bad : lcfg s l Addr.LOOP_CFG1 21 16 ≤ x.bad) :
    ∃ t dec, exec (.loopHold l) s = .next t ∧ kfind t.loop.loops l = some (x.inHold s.jr.sf dec) := by
  obtain ⟨dec, held⟩ := kfind_holdAll_run hx run s.jr.sf
  exact ⟨_, dec, rfl, by rw [holdCheck_bad hx run set bad, held]⟩

/-- HOLD_STEP (R235). -/
theorem execHoldStep_steps (hold : x.st = .hold) (later : x.sfHold < s.jr.sf) (new : x.stepSf < s.jr.sf)
    (sends : x.ceased = false) :
    ∃ t, exec (.holdStep l) s = .next t ∧
      kfind t.loop.loops l = some (x.stepped s.jr.sf (holdEnds s x s.jr.sf)) :=
  ⟨_, rfl, kfind_holdStep hx hold later new sends⟩

/-- HOLD_WITHDRAW (R236). -/
theorem execHoldWithdraw_withdraws (hold : x.st = .hold) (stands : x.withdrawn = false)
    (due : x.sfHold + lcfg s l Addr.LOOP_CFG1 30 24 ≤ s.jr.sf) :
    ∃ t, exec (.holdWithdraw l) s = .next t ∧ kfind t.loop.loops l = some { x with withdrawn := true } ∧
      t.safe.permit.testBit (machineBit x.machine) = false ∧ t.safe.cPermit.testBit (machineBit x.machine) = false := by
  have w := withdraw_withdraws (s.jr.sf, 0) x.machine 12 (modLoop l (fun y => { y with withdrawn := true }) s)
  have done : exec (.holdWithdraw l) s = .next (holdWithdraw (s.jr.sf, 0) s l) := rfl
  rw [holdWithdraw_eq hx hold stands due] at done
  refine ⟨_, done, ?_, w.live, w.covered⟩
  show kfind (withdraw _ _ _ _).loop.loops l = _
  rw [withdraw_loop, kfind_modLoop_self hx]

end Marks

end Sys2Proof.Machine

/-!
A sample at the loops of its machine (08_control_loops R217, R219 to R221, R229, R239): what its work at one loop leaves of
the others, and that every loop that may use it has seen it.
-/

namespace Sys2Proof.Machine

open Sys2Proof

/-! What of a loop a sample's work follows. -/

/-- The machine of a loop, the sample that it saw last, and whether it saw one since the newest mark. -/
def Loop.heard (x : Loop) : Nat × Nat × Bool := (x.machine, x.lastEpoch, x.seen)

/-- That, with what decides whether its next sample is plausible (R220). -/
def Loop.core (x : Loop) : (Nat × Nat × Bool) × Bool × Option PredBase := (x.heard, x.fresh, x.base)

theorem Loop.map_heard (o : Option Loop) : o.map Loop.heard = (o.map Loop.core).map Prod.fst := by
  cases o <;> rfl

theorem modLoop_samples (l : Nat) (f : Loop → Loop) (s : State) : (modLoop l f s).loop.samples = s.loop.samples := by
  unfold modLoop
  split <;> rfl

theorem modLoop_words (P : Nat → Bool) (l : Nat) (f : Loop → Loop) (s : State) : Words P s (modLoop l f s) :=
  .of_follows (modLoop_fol (kc := { loop := true }) rfl (.refl _ s)) rfl

/-- Work of a sample at loop `l`: it takes no sample from the queue, leaves the configuration of the loops, what the other
loops decide by, and what its own loop has heard. -/
structure Sampled (l : Nat) (s t : State) : Prop where
  samples : t.loop.samples = s.loop.samples
  words : Words outsideLoops s t
  others : ∀ j, j ≠ l → (kfind t.loop.loops j).map Loop.core = (kfind s.loop.loops j).map Loop.core
  own : (kfind t.loop.loops l).map Loop.heard = (kfind s.loop.loops l).map Loop.heard

theorem kfind_putLoop (l : Nat) (x : Loop) (s : State) (j : Nat) :
    kfind (putLoop l x s).loop.loops j = if j = l then some x else kfind s.loop.loops j := kfind_kins

namespace Sampled

variable {l : Nat} {s t u : State}

theorem refl (l : Nat) (s : State) : Sampled l s s := ⟨rfl, .refl _ s, fun _ _ => rfl, rfl⟩

theorem trans (a : Sampled l s t) (b : Sampled l t u) : Sampled l s u :=
  ⟨b.samples.trans a.samples, a.words.trans b.words, fun j hj => (b.others j hj).trans (a.others j hj), b.own.trans a.own⟩

/-- What any loop has heard stands. -/
theorem heard (a : Sampled l s t) (j : Nat) : (kfind t.loop.loops j).map Loop.heard = (kfind s.loop.loops j).map Loop.heard := by
  by_cases hj : j = l
  · rw [hj, a.own]
  · rw [Loop.map_heard, a.others j hj, ← Loop.map_heard]

/-- Work on other parts of the state. -/
theorem of_loop (w : Words outsideLoops s t) (h : t.loop = s.loop) : Sampled l s t :=
  ⟨by rw [h], w, fun j _ => by rw [h], by rw [h]⟩

/-- A loop changed in nothing that any loop decides by. -/
theorem modLoop_core {f : Loop → Loop} (hf : ∀ x, (f x).core = x.core) (k : Nat) : Sampled l s (modLoop k f s) := by
  have same (j : Nat) : (kfind (modLoop k f s).loop.loops j).map Loop.core = (kfind s.loop.loops j).map Loop.core := by
    rw [kfind_modLoop]
    split
    next hj => rw [hj, Option.map_map]; exact congrArg (Option.map · _) (funext hf)
    next => rfl
  exact ⟨modLoop_samples k f s, modLoop_words _ k f s, fun j _ => same j,
    by rw [Loop.map_heard, same, ← Loop.map_heard]⟩

/-- The sample's own loop changed in nothing that it has heard. -/
theorem modLoop_own {f : Loop → Loop} (hf : ∀ x, (f x).heard = x.heard) : Sampled l s (modLoop l f s) := by
  refine ⟨modLoop_samples l f s, modLoop_words _ l f s, fun j hj => by rw [kfind_modLoop, if_neg hj], ?_⟩
  rw [kfind_modLoop, if_pos rfl, Option.map_map]
  exact congrArg (Option.map · _) (funext hf)

/-- The sample's own loop written, with what it has heard. -/
theorem putLoop {x : Loop} (a : Sampled l s t) (hx : (kfind s.loop.loops l).map Loop.heard = some x.heard) :
    Sampled l s (putLoop l x t) := by
  exact ⟨a.samples, updLoop_words a.words, fun j hj => by rw [kfind_putLoop, if_neg hj, a.others j hj],
    by rw [kfind_putLoop, if_pos rfl, hx, Option.map_some]⟩

theorem bump (a : Sampled l s t) (r : Nat) : Sampled l s (bump r t) :=
  a.trans (of_loop (bump_words (outsideLoops_rkey r) (.refl _ t)) ((bump_fol (kc := { regs := true }) rfl (.refl _ t)).loop rfl))

theorem maxF (a : Sampled l s t) (r hi lo v : Nat) : Sampled l s (maxF r hi lo v t) :=
  a.trans (of_loop (maxF_words (outsideLoops_rkey r) (.refl _ t)) ((maxF_fol (kc := { regs := true }) rfl (.refl _ t)).loop rfl))

theorem sendOut (a : Sampled l s t) (x : Loop) (v : F32) (ep fl : Nat) (b : Bool) : Sampled l s (sendOut x v ep fl b t) := by
  have f : Follows { memb := true } t (Machine.sendOut x v ep fl b t) := sendOut_fol rfl (.refl _ t)
  exact a.trans (of_loop (.of_follows f rfl) (f.loop rfl))

theorem holdOne (a : Sampled l s t) (sf k : Nat) : Sampled l s (holdOne sf t k) := by
  obtain e | ⟨dec, e⟩ := holdOne_eq sf t k
  · rwa [e]
  · rw [e]
    exact (a.trans (modLoop_core (f := Loop.inHold sf dec) (fun _ => rfl) k)).bump _

theorem holdAll (a : Sampled l s t) (m sf : Nat) : Sampled l s (holdAll m sf t) :=
  List.foldlRecOn (motive := Sampled l s) _ _ a fun _ h k _ => h.holdOne sf k

/-- BAD raised, and HOLD where it has reached BAD_MAX (R221). -/
theorem loopBad (a : Sampled l s t) (k sf : Nat) : Sampled l s (loopBad k sf t) := by
  have raised := a.trans (modLoop_core (l := l) (s := t) (f := fun x => { x with bad := min (x.bad + 1) 63 }) (fun _ => rfl) k)
  unfold Machine.loopBad
  dsimp only
  split
  · split
    · exact raised.holdAll _ _
    · exact raised
  · exact raised

/-- The sample's own loop returns to READY (R234). -/
theorem loopReady (a : Sampled l s t) : Sampled l s (loopReady l t) := by
  cases hx : kfind t.loop.loops l with
  | none => rwa [Machine.loopReady, hx]
  | some x =>
    obtain ⟨u, f, e⟩ := loopReady_eq hx
    rw [e]
    exact (a.trans (of_loop (.of_follows f rfl) (f.loop rfl))).trans (modLoop_own fun _ => rfl)

end Sampled

/-! The evaluation (R222 to R232). -/

/-- The reference track of a loop changes nothing that it has heard. -/
theorem trackRef_heard (s : State) (x : Loop) (a : LoopSample) : (trackRef s x a).1.heard = x.heard := by
  unfold trackRef
  split
  · rfl
  · extract_lets key x1 x2 segs r
    have placed : x1.heard = x.heard := by
      unfold x1
      split <;> rfl
    have followed : x2.heard = x1.heard := rfl
    rw [← placed, ← followed]
    clear_value x2
    split <;> rfl

/-- The leader of a loop changes nothing that it has heard. -/
theorem leadRef_heard (s : State) (l : Nat) (x : Loop) (a : LoopSample) : (leadRef s l x a).1.heard = x.heard := by
  unfold leadRef
  extract_lets along lat cand bad x1 u fresh x2
  have noted : x1.heard = x.heard := by
    unfold x1
    split <;> rfl
  have used : x2.heard = x1.heard := by
    clear_value cand u
    unfold x2
    split <;> rfl
  rw [← noted, ← used]
  clear_value x2 fresh
  split
  · cases fresh <;> rfl
  · rfl

/-- The reference of a loop changes nothing that it has heard. -/
theorem loopRef_heard (s : State) (l : Nat) (x : Loop) (a : LoopSample) : (loopRef s l x a).1.heard = x.heard := by
  unfold loopRef
  split
  · rfl
  · split
    · exact leadRef_heard s l x a
    · exact trackRef_heard s x a

/-- An evaluation changes nothing that its loop has heard. -/
theorem evalLoop_heard (s : State) (l : Nat) (x : Loop) (a : LoopSample) (c : RefIn) (entry : Bool) :
    (evalLoop s l x a c entry).x.heard = x.heard := rfl

/-- The work of a usable sample at a loop in READY or RUN leaves what the loop has heard. -/
theorem loopRun_sampled {l : Nat} {s : State} {x : Loop} (hx : (kfind s.loop.loops l).map Loop.heard = some x.heard)
    (a : LoopSample) : Sampled l s (loopRun l x a s) := by
  unfold loopRun
  extract_lets r s1
  have referred : r.1.heard = x.heard := loopRef_heard s l x a
  have counted : Sampled l s s1 := by
    unfold s1
    split
    · exact (Sampled.refl l s).bump _
    · exact .refl l s
  have put (y : Loop) (hy : y.heard = x.heard) := counted.putLoop (x := y) (hy ▸ hx)
  split
  · exact put _ referred
  · split
    · exact put _ referred
    · extract_lets e s2 s3 s4 s5
      have evaluated : e.x.heard = x.heard := by
        refine (evalLoop_heard _ _ _ _ _ _).trans ?_
        split
        · exact referred
        · exact referred
      have switched : Sampled l s s3 := by
        unfold s3
        split
        · exact ((put _ evaluated).bump _).bump _
        · exact (put _ evaluated).bump _
      have sent : Sampled l s s5 := (switched.sendOut _ _ _ _ _).maxF _ _ _ _
      split
      · exact (sent.bump _).loopBad _ _
      · exact sent

/-! One loop (R219 to R221, R234). -/

/-- A loop that has used a sample. -/
def Loop.hears (a : LoopSample) (x : Loop) : Loop :=
  { x with fresh := false, bad := 0, seen := true, base := some (baseOf a.fix), lastEpoch := a.fix.epoch }

/-- A record is implausible to a loop: it is not its first, and its base speaks against it (R220). -/
def Loop.distrusts (s : State) (l : Nat) (r : FixRec) (x : Loop) : Bool :=
  match x.base with
  | some b => !x.fresh && loopImpl s l b r
  | none => false

/-- A loop does not distrust its first sample, nor one that its base allows. -/
theorem Loop.distrusts_eq_false {s : State} {l : Nat} {r : FixRec} {x : Loop}
    (h : x.fresh = true ∨ x.base = none ∨ ∃ b, x.base = some b ∧ loopImpl s l b r = false) : x.distrusts s l r = false := by
  unfold Loop.distrusts
  rcases h with first | blank | ⟨b, base, fits⟩
  · split
    · rw [first]; rfl
    · rfl
  · rw [blank]
  · rw [base]
    exact (congrArg (!x.fresh && ·) fits).trans (Bool.and_false _)

/-- What a sample that a loop has used leads to (R234). -/
def loopUse (l : Nat) (a : LoopSample) (x : Loop) (s : State) : State :=
  if x.st = .hold then s
  else if !permitted s x.machine then (if x.st = .run then loopReady l s else s)
  else loopRun l x a s

/-- A sample at a loop is not usable, implausible, or used. -/
theorem loopSample_eq {l : Nat} {s : State} {x : Loop} (hx : kfind s.loop.loops l = some x) (a : LoopSample) :
    loopSample a s l =
      if !usableRec s l a.fix a.status then s
      else if x.distrusts s l a.fix then loopBad l a.sf (bump Addr.LOOP_CNT_IMPLAUS s)
      else loopUse l a (x.hears a) (putLoop l (x.hears a) s) := by
  rw [loopSample, hx]
  rfl

/-- What follows a sample's use leaves what the loop has heard. -/
theorem loopUse_sampled {l : Nat} {s : State} {x : Loop} (hx : (kfind s.loop.loops l).map Loop.heard = some x.heard)
    (a : LoopSample) : Sampled l s (loopUse l a x s) := by
  unfold loopUse
  split
  · exact .refl l s
  · split
    · split
      · exact (Sampled.refl l s).loopReady
      · exact .refl l s
    · exact loopRun_sampled hx a

/-- A usable and plausible sample is used. -/
theorem loopSample_uses {l : Nat} {s : State} {x : Loop} (hx : kfind s.loop.loops l = some x) {a : LoopSample}
    (usable : usableRec s l a.fix a.status = true) (plausible : x.distrusts s l a.fix = false) :
    Sampled l (putLoop l (x.hears a) s) (loopSample a s l) := by
  rw [loopSample_eq hx, usable, plausible]
  exact loopUse_sampled (by rw [kfind_putLoop, if_pos rfl, Option.map_some]) a

/-- The work of a sample at a loop: it leaves what the loop has heard, or the loop has heard it. -/
theorem loopSample_sampled (a : LoopSample) (s : State) (l : Nat) : Sampled l s (loopSample a s l) ∨
    ∃ x, kfind s.loop.loops l = some x ∧ Sampled l (putLoop l (x.hears a) s) (loopSample a s l) := by
  cases hx : kfind s.loop.loops l with
  | none =>
    rw [loopSample, hx]
    exact .inl (.refl l s)
  | some x =>
    cases usable : usableRec s l a.fix a.status with
    | false =>
      rw [loopSample_eq hx, usable]
      exact .inl (.refl l s)
    | true =>
      cases distrusted : x.distrusts s l a.fix with
      | true =>
        rw [loopSample_eq hx, usable, distrusted]
        exact .inl (((Sampled.refl l s).bump _).loopBad _ _)
      | false => exact .inr ⟨x, rfl, loopSample_uses hx usable distrusted⟩

/-- The work of a sample takes none from the queue. -/
theorem loopSample_samples (a : LoopSample) (s : State) (l : Nat) : (loopSample a s l).loop.samples = s.loop.samples := by
  obtain w | ⟨x, -, w⟩ := loopSample_sampled a s l
  · exact w.samples
  · exact w.samples

/-- The work of a sample leaves the configuration of the loops. -/
theorem loopSample_words (a : LoopSample) (s : State) (l : Nat) : Words outsideLoops s (loopSample a s l) := by
  obtain w | ⟨x, -, w⟩ := loopSample_sampled a s l
  · exact w.words
  · exact (updLoop_words (Words.refl _ s)).trans w.words

/-- The work of a sample at a loop leaves what the others decide by. -/
theorem loopSample_others {l j : Nat} (hj : j ≠ l) (a : LoopSample) (s : State) :
    (kfind (loopSample a s l).loop.loops j).map Loop.core = (kfind s.loop.loops j).map Loop.core := by
  obtain w | ⟨x, -, w⟩ := loopSample_sampled a s l
  · exact w.others j hj
  · rw [w.others j hj, kfind_putLoop, if_neg hj]

/-- A loop that has heard a sample has heard it after the work of that sample at any loop. -/
theorem loopSample_keeps {j m : Nat} {a : LoopSample} {s : State}
    (h : (kfind s.loop.loops j).map Loop.heard = some (m, a.fix.epoch, true)) (l : Nat) :
    (kfind (loopSample a s l).loop.loops j).map Loop.heard = some (m, a.fix.epoch, true) := by
  obtain w | ⟨x, hx, w⟩ := loopSample_sampled a s l
  · rw [w.heard, h]
  · rw [w.heard, kfind_putLoop]
    split
    next same =>
      rw [same, hx, Option.map_some] at h
      have machine : x.machine = m := congrArg Prod.fst (Option.some.inj h)
      rw [← machine]
      rfl
    next => exact h

/-! The loops of a machine (R217, R239). -/

/-- A sample is usable where only words outside the windows of the LOOP block have changed, if it was. -/
theorem usableRec_words {s t : State} (w : Words outsideLoops s t) (l : Nat) (r : FixRec) (st : Nat) :
    usableRec t l r st = usableRec s l r st := by
  rw [usableRec, lcfg_words w l (by decide) (by decide), usableRec]

/-- A sample is implausible against a base where only such words have changed, if it was. -/
theorem loopImpl_words {s t : State} (w : Words outsideLoops s t) (l : Nat) (b : PredBase) (r : FixRec) :
    loopImpl t l b r = loopImpl s l b r := by
  rw [loopImpl, lcfg_words w l (by decide) (by decide), lcfg_words w l (by decide) (by decide), loopImpl]

/-- What a loop distrusts is decided by its base and by whether it waits for its first sample. -/
theorem distrusts_words {s t : State} (w : Words outsideLoops s t) (l : Nat) (r : FixRec) {x y : Loop} (h : y.core = x.core) :
    y.distrusts t l r = x.distrusts s l r := by
  have fresh : y.fresh = x.fresh := congrArg (·.2.1) h
  have base : y.base = x.base := congrArg (·.2.2) h
  simp only [Loop.distrusts, fresh, base, loopImpl_words w]

/-- A usable and plausible sample has been heard at a loop once the work of that sample has come to it. -/
theorem foldl_loopSample_hears {l : Nat} {s u : State} {x : Loop} {a : LoopSample} (w : Words outsideLoops s u)
    (hx : kfind u.loop.loops l = some x) (usable : usableRec s l a.fix a.status = true)
    (plausible : x.distrusts s l a.fix = false) {ls : List Nat} (hl : l ∈ ls) :
    (kfind (ls.foldl (loopSample a) u).loop.loops l).map Loop.heard = some (x.machine, a.fix.epoch, true) := by
  refine foldl_at
    (P := fun t => Words outsideLoops s t ∧ (kfind t.loop.loops l).map Loop.core = some x.core)
    (Q := fun t => (kfind t.loop.loops l).map Loop.heard = some (x.machine, a.fix.epoch, true))
    (fun t j hj ⟨ht, core⟩ => ⟨ht.trans (loopSample_words a t j), (loopSample_others hj.symm a t).trans core⟩)
    (fun t ⟨ht, core⟩ => ?_) (fun t j ht => loopSample_keeps ht j) hl ⟨w, by rw [hx, Option.map_some]⟩
  obtain ⟨y, hy, same⟩ := Option.map_eq_some_iff.mp core
  have used := loopSample_uses hy ((usableRec_words ht l a.fix a.status).trans usable)
    ((distrusts_words ht l a.fix same).trans plausible)
  have machine : y.machine = x.machine := congrArg (·.1.1) same
  rw [used.own, kfind_putLoop, if_pos rfl, Option.map_some, ← machine]
  rfl

/-- The sample that is taken, its job done: the loops are those before it. -/
def sampleTaken (m : Nat) (rest : List LoopSample) (s : State) : State :=
  finishJob 7 m stOk (s.updLoop fun e => { e with samples := rest })

theorem sampleTaken_loop (m : Nat) (rest : List LoopSample) (s : State) :
    (sampleTaken m rest s).loop = { s.loop with samples := rest } :=
  (finishJob_fol (kc := { regs := true, sched := true, evr := true }) rfl rfl rfl (.refl _ _)).loop rfl

theorem sampleTaken_words (m : Nat) (rest : List LoopSample) (s : State) : Words outsideLoops s (sampleTaken m rest s) :=
  finishJob_words jobWords_outsideLoops (updLoop_words (.refl _ s)) _ _ _

/-- LOOP_EVAL of a sample that waits for no leader works it at the loops of its machine. -/
theorem execLoopEval_eq {m : Nat} {a : LoopSample} {rest : List LoopSample} {s : State}
    (taken : takeSample m s.loop.samples = some (a, rest)) (ready : leadPending s a = false) :
    exec (.loopEval m) s = .next ((loopsOf s m).foldl (loopSample a) (sampleTaken m rest s)) := by
  show execLoopEval m s = _
  rw [execLoopEval, taken]
  exact if_neg (Bool.eq_false_iff.mp ready)

/-- LOOP_EVAL takes the sample from the queue. -/
theorem loopEval_samples (m : Nat) (a : LoopSample) (rest : List LoopSample) (s : State) :
    ((loopsOf s m).foldl (loopSample a) (sampleTaken m rest s)).loop.samples = rest :=
  List.foldlRecOn (motive := fun t : State => t.loop.samples = rest) _ _ (by rw [sampleTaken_loop])
    fun t h l _ => (loopSample_samples a t l).trans h

/-- After LOOP_EVAL every loop of the machine at which the sample is usable and plausible has seen it (R219, R221). -/
theorem loopEval_seen {l : Nat} {a : LoopSample} {s : State} {x : Loop} (hx : kfind s.loop.loops l = some x)
    (rest : List LoopSample) (usable : usableRec s l a.fix a.status = true) (plausible : x.distrusts s l a.fix = false) :
    ∃ y, kfind ((loopsOf s x.machine).foldl (loopSample a) (sampleTaken x.machine rest s)).loop.loops l = some y ∧
      y.lastEpoch = a.fix.epoch ∧ y.seen = true ∧ y.machine = x.machine := by
  have found : kfind (sampleTaken x.machine rest s).loop.loops l = some x := by rw [sampleTaken_loop, hx]
  obtain ⟨y, hy, heard⟩ := Option.map_eq_some_iff.mp
    (foldl_loopSample_hears (sampleTaken_words x.machine rest s) found usable plausible (mem_loopsOf hx))
  exact ⟨y, hy, congrArg (·.2.1) heard, congrArg (·.2.2) heard, congrArg (·.1) heard⟩

/-- Settles O29: a sample is worked at the loops of its machine in turn, and what it does at one of them leaves what the next
decide by and what the others have heard; the commands of a mark each come to one change of their loop. -/
theorem loopsEvaluateHoldAndWithdraw : Obligations.LoopsEvaluateHoldAndWithdraw := by
  refine ⟨fun s m a rest taken ready => ⟨_, execLoopEval_eq taken ready, loopEval_samples m a rest s, ?_⟩, fun s l x hx =>
    ⟨fun new => ?_, fun run clear => ?_, fun run set bad => ?_, fun hold later new sends => ?_, fun hold stands due => ?_⟩⟩
  · rintro l x - hx rfl usable plausible
    exact loopEval_seen hx rest usable (Loop.distrusts_eq_false plausible)
  · obtain ⟨t, hexec, counted⟩ := execLoopTick_counts hx new
    exact ⟨t, _, hexec, counted, rfl, rfl, rfl, rfl⟩
  · obtain ⟨t, hexec, ready⟩ := execLoopHold_readies hx run clear
    exact ⟨t, _, hexec, ready, rfl, rfl, rfl⟩
  · obtain ⟨t, dec, hexec, held⟩ := execLoopHold_holds hx run set bad
    exact ⟨t, _, hexec, held, rfl, rfl⟩
  · obtain ⟨t, hexec, stepped⟩ := execHoldStep_steps hx hold later new sends
    refine ⟨t, _, hexec, stepped, rfl, hold, fun clear => ?_, fun set speed => ?_⟩
    · simp [Loop.stepped, holdEnds, clear]
    · simp [Loop.stepped, holdEnds, set, speed]
  · obtain ⟨t, hexec, noted, live, covered⟩ := execHoldWithdraw_withdraws hx hold stands due
    exact ⟨t, _, hexec, noted, rfl, live, covered⟩

end Sys2Proof.Machine

/-!
The radio ports (09_radio_ports R245 to R248, R260, R265): one lemma says what each operation leaves at its port, and the commands
of discovery and of the heads' transactions are read off those lemmas.
-/

namespace Sys2Proof.Machine

open Sys2Proof

/-! One port changed. -/

/-- A change of one element is the library's. -/
theorem lmod_eq_modify {α : Type} (l : List α) (i : Nat) (f : α → α) : lmod l i f = l.modify i f := by
  induction l generalizing i with
  | nil => cases i <;> rfl
  | cons y r ih =>
    cases i with
    | zero => rfl
    | succ i => simp [lmod, ih]

/-- The unit has a record of the port. -/
def Fitted (s : State) (k : Nat) : Prop := k < s.mac.ports.length

section Ports

variable {s t : State} {k j : Nat} {f : Port → Port}

/-- A port's record is read from the radio ports alone. -/
theorem port_congr (h : t.mac = s.mac) (k : Nat) : port t k = port s k := by rw [port, port, h]

theorem port_of_not_fitted (h : ¬ Fitted s k) : port s k = Port.zero :=
  List.getD_eq_default _ _ (Nat.le_of_not_lt h)

theorem fitted_of_st (h : (port s k).st ≠ .off) : Fitted s k :=
  by_contra fun out => h (by rw [port_of_not_fitted out]; rfl)

theorem fitted_of_sw {w : Nat} (h : (port s k).sw = some w) : Fitted s k :=
  by_contra fun out => by rw [port_of_not_fitted out] at h; cases h

@[simp] theorem fitted_modPort : Fitted (modPort k f s) j ↔ Fitted s j := by
  show j < (lmod s.mac.ports k f).length ↔ _
  rw [lmod_eq_modify, List.length_modify, Fitted]

theorem port_modPort_other (h : j ≠ k) : port (modPort k f s) j = port s j := by
  show (lmod s.mac.ports k f).getD j Port.zero = s.mac.ports.getD j Port.zero
  simp [lmod_eq_modify, List.getD_eq_getElem?_getD, h.symm]

theorem port_modPort_self (h : Fitted s k) : port (modPort k f s) k = f (port s k) := by
  show (lmod s.mac.ports k f).getD k Port.zero = f (s.mac.ports.getD k Port.zero)
  rw [lmod_eq_modify, List.getD_eq_getElem?_getD, List.getD_eq_getElem?_getD, List.getElem?_modify_eq,
    List.getElem?_eq_getElem h]
  rfl

/-- A change that leaves the record of a port that there is not. -/
theorem port_modPort_of_zero (h : f Port.zero = Port.zero) : port (modPort k f s) k = f (port s k) := by
  by_cases fit : Fitted s k
  · exact port_modPort_self fit
  · rw [port_of_not_fitted fit, h, port_of_not_fitted (fun c => fit (fitted_modPort.mp c))]

end Ports

/-! Departure and discovery (R265). -/

/-- A port as it enters DOWN or OFF. -/
def Port.left (st : PortSt) (reason op : Nat) (p : Port) : Port :=
  { p with st := st, reason := reason, since := op, upFrom := none, failed := none, tx := none }

/-- A port as it enters DISCOVER. -/
def Port.discovering (op : Nat) (p : Port) : Port :=
  { p with st := .discover, since := op, upFrom := none, failed := none, irq := false, stampSeq := 0, stamps := [],
           lastTaken := none, tx := none }

section Ports

variable {s : State} {k : Nat}

theorem portLeave_mac (k : Nat) (st : PortSt) (reason : Nat) (s : State) :
    (portLeave k st reason s).mac = (modPort k (Port.left st reason s.time.op) s).mac := by
  unfold portLeave
  dsimp only
  split
  · exact (evTrig_fol (kc := { regs := true, evr := true, lkp := true }) rfl rfl
      (eligWatch_fol rfl rfl (flushPort_fol rfl (.refl _ _)))).mac rfl
  · rfl

theorem portDown_mac (k reason : Nat) (s : State) :
    (portDown k reason s).mac = (modPort k (Port.left .down reason s.time.op) s).mac := portLeave_mac k .down reason s

/-- A departure takes no time. -/
theorem portDown_time (k reason : Nat) (s : State) : (portDown k reason s).time = s.time :=
  (portDown_fol (kc := { Touch.all with time := false }) rfl rfl rfl rfl rfl (.refl _ s)).time rfl

theorem fitted_congr {t : State} (h : t.mac = s.mac) : Fitted t k ↔ Fitted s k := by rw [Fitted, Fitted, h]

theorem port_portDown (fit : Fitted s k) (reason : Nat) :
    port (portDown k reason s) k = (port s k).left .down reason s.time.op :=
  (port_congr (portDown_mac k reason s) k).trans (port_modPort_self fit)

theorem port_portDiscover (fit : Fitted s k) : port (portDiscover k s) k = (port s k).discovering s.time.op :=
  port_modPort_self fit

theorem portDiscover_out (k : Nat) (s : State) : (portDiscover k s).out = s.out ++ [.head k 0 [], .head k 1 []] :=
  List.append_assoc _ _ _

theorem portDiscover_time (k : Nat) (s : State) : (portDiscover k s).time = s.time := rfl

theorem advOp_mac (n : Nat) (s : State) : (advOp n s).mac = s.mac :=
  (advOp_fol (kc := { time := true }) rfl (.refl _ s)).mac rfl

theorem advOp_out (n : Nat) (s : State) : (advOp n s).out = s.out := by
  unfold advOp
  split <;> rfl

end Ports

/-! Attempts at a transaction (R246). -/

/-- A port with no failed attempt. -/
def Port.answered (p : Port) : Port := { p with failed := none }

section Attempts

variable {s : State} {k cmd : Nat} {r : HeadResp}

/-- An attempt that is answered leaves no failure behind it. -/
theorem attempt_answered (ok : respFails r = false) (k cmd : Nat) (s : State) :
    (attempt k cmd r s).1 = modPort k Port.answered s := by
  rw [attempt, if_neg (ok ▸ Bool.false_ne_true)]
  cases r <;> rfl

theorem attempt_status {st : Nat} (ok : respFails (.status st) = false) (k cmd : Nat) (s : State) :
    attempt k cmd (.status st) s = (modPort k Port.answered s, some st) := by
  rw [attempt, if_neg (ok ▸ Bool.false_ne_true)]
  rfl

/-- A first failure is repeated. -/
theorem attempt_first (fails : respFails r = true) (new : (port s k).failed ≠ some cmd) :
    (attempt k cmd r s).1 =
      emit (.head k cmd (if cmd = 0x30 then [1] else [])) (modPort k (fun p => { p with failed := some cmd }) s) := by
  rw [attempt, if_pos fails, if_neg new]

/-- A second one is BUS_ERR. -/
theorem attempt_second (fails : respFails r = true) (again : (port s k).failed = some cmd) :
    (attempt k cmd r s).1 = busErr k s := by
  rw [attempt, if_pos fails, if_pos again]

theorem bump_mac (a : Nat) (s : State) : (bump a s).mac = s.mac :=
  (bump_fol (kc := { regs := true }) rfl (.refl _ s)).mac rfl

/-- A second failure counted. -/
def busCounted (k : Nat) (s : State) : State := bump (portCnt k 6) (modPort k Port.answered s)

/-- The port's frame waits for its load. -/
def Port.unloaded (p : Port) : Bool :=
  match p.tx with
  | some x => !x.loaded
  | none => false

/-- A second failure counted, with the frame dropped that waits for its load. -/
def busFreed (k : Nat) (s : State) : State :=
  let s1 := busCounted k s
  if (port s1 k).unloaded then bump (portCnt k 8) (modPort k (fun p => { p with tx := none }) s1) else s1

theorem busErr_eq (k : Nat) (s : State) :
    busErr k s = if (port (busFreed k s) k).st = .up then portDown k 4 (busFreed k s) else busFreed k s := rfl

/-- A frame dropped or not, the port's failed attempt is done with and its state is as before. -/
theorem port_busFreed (fit : Fitted s k) : Fitted (busFreed k s) k ∧ (port (busFreed k s) k).failed = none ∧
    (port (busFreed k s) k).st = (port s k).st := by
  have fitted : Fitted (busCounted k s) k := (fitted_congr (bump_mac _ _)).mpr (fitted_modPort.mpr fit)
  have counted : port (busCounted k s) k = (port s k).answered :=
    (port_congr (bump_mac _ _) k).trans (port_modPort_self fit)
  unfold busFreed
  dsimp only
  split
  · rw [fitted_congr (bump_mac _ _), port_congr (bump_mac _ _), fitted_modPort, port_modPort_self fitted, counted]
    exact ⟨fitted, rfl, rfl⟩
  · rw [counted]
    exact ⟨fitted, rfl, rfl⟩

/-- BUS_ERR ends the transaction and takes an UP port DOWN. -/
theorem port_busErr (fit : Fitted s k) : (port (busErr k s) k).failed = none ∧
    ((port s k).st = .up → (port (busErr k s) k).st = .down ∧ (port (busErr k s) k).reason = 4) := by
  obtain ⟨fitted, failed, st⟩ := port_busFreed fit
  rw [busErr_eq, st]
  split
  · rw [port_portDown fitted]
    exact ⟨rfl, fun _ => ⟨rfl, rfl⟩⟩
  · exact ⟨failed, fun up => absurd up ‹_›⟩

end Attempts

/-! Discovery (R247, R248, R265). -/

/-- A head's identity noted at its port. -/
def identified (k : Nat) (i : HeadId) (s : State) : State :=
  modPort k (fun p => { p with ident := idBytes i }) (modPort k Port.answered s)

/-- A port that is UP from the next superframe on, with its head set to the channel and the power of its plan. -/
def rises (k : Nat) (s : State) : State :=
  emit (.head k 0x31 []) (emit (.head k 0x11 [portCfg s k 15 8]) (emit (.head k 0x10 [portCfg s k 28 16, portCfg s k 1 1])
    (modPort k (fun p => { p with upFrom := some (sfOf (now s) + 1) }) s)))

section Discovery

variable {s : State} {k : Nat}

theorem fitted_identified (fit : Fitted s k) (i : HeadId) : Fitted (identified k i s) k :=
  fitted_modPort.mpr (fitted_modPort.mpr fit)

theorem port_identified (fit : Fitted s k) (i : HeadId) :
    port (identified k i s) k = { (port s k).answered with ident := idBytes i } := by
  rw [identified, port_modPort_self (fitted_modPort.mpr fit), port_modPort_self fit]

/-- What an identity must cover does not hang on the identity noted. -/
theorem idCovers_identified (fit : Fitted s k) (i j : HeadId) : idCovers (identified k i s) k j = idCovers s k j := by
  have plan : newestPlan (identified k i s) k = newestPlan s k := by
    rw [newestPlan, port_identified fit]
    rfl
  rw [idCovers, plan]
  rfl

theorem execReadId_eq (disc : (port s k).st = .discover) (i : HeadId) : exec (.readId k (.status stOk) i) s = .next
    (if i.format ≠ 1 then portDown k 2 (identified k i s) else if !idCovers s k i then portDown k 3 (identified k i s)
      else rises k (identified k i s)) := by
  have fit : Fitted s k := fitted_of_st (by simp [disc])
  rw [← idCovers_identified fit i i]
  show execReadId k (.status stOk) i s = _
  rw [execReadId, if_neg (not_not_intro disc), attempt_status rfl, if_neg (not_not_intro rfl)]
  split
  · rfl
  · show (if (!idCovers (identified k i s) k i) = true then Host.Outcome.next (portDown k 3 (identified k i s))
      else .next (rises k (identified k i s))) = _
    split <;> rfl

/-- An identity that covers the plan (R265). -/
theorem execReadId_rises (disc : (port s k).st = .discover) {i : HeadId} (format : i.format = 1) (covers : idCovers s k i = true) :
    ∃ t, exec (.readId k (.status stOk) i) s = .next t ∧ (port t k).ident = idBytes i ∧
      (port t k).upFrom = some (sfOf (now s) + 1) ∧ t.out = s.out ++
        [.head k 0x10 [portCfg s k 28 16, portCfg s k 1 1], .head k 0x11 [portCfg s k 15 8], .head k 0x31 []] := by
  have fit : Fitted s k := fitted_of_st (by simp [disc])
  have risen : port (rises k (identified k i s)) k =
      { port (identified k i s) k with upFrom := some (sfOf (now s) + 1) } := port_modPort_self (fitted_identified fit i)
  refine ⟨rises k (identified k i s), ?_, ?_, ?_, ?_⟩
  · rw [execReadId_eq disc, if_neg (not_not_intro format), covers]
    rfl
  · rw [risen, port_identified fit]
  · rw [risen]
  · show ((s.out ++ [_]) ++ [_]) ++ [_] = _
    simp only [List.append_assoc, List.cons_append, List.nil_append]
    rfl

/-- An identity of another format, or one that does not cover the plan (R265). -/
theorem execReadId_refuses (disc : (port s k).st = .discover) {i : HeadId} (h : i.format ≠ 1 ∨ idCovers s k i = false) :
    ∃ t, exec (.readId k (.status stOk) i) s = .next t ∧ (port t k).st = .down ∧
      (port t k).reason = (if i.format = 1 then 3 else 2) := by
  have fit : Fitted s k := fitted_of_st (by simp [disc])
  refine ⟨portDown k (if i.format = 1 then 3 else 2) (identified k i s), ?_, ?_⟩
  · rw [execReadId_eq disc]
    by_cases format : i.format = 1
    · rw [if_neg (not_not_intro format), h.resolve_left (not_not_intro format), if_pos format]
      rfl
    · rw [if_pos format, if_neg format]
  · rw [port_portDown (fitted_identified fit i)]
    exact ⟨rfl, rfl⟩

/-- No answer within 50 ms (R265). -/
theorem execNoHeadTimeout_down (disc : (port s k).st = .discover) (silent : (port s k).upFrom = none) :
    ∃ t, exec (.noHeadTimeout k) s = .next t ∧ (port t k).st = .down ∧ (port t k).reason = 1 ∧
      t.time.op = max s.time.op ((port s k).since + 50000000) := by
  have fit : Fitted (advOp ((port s k).since + 50000000) s) k :=
    (fitted_congr (advOp_mac _ s)).mpr (fitted_of_st (by simp [disc]))
  refine ⟨portDown k 1 (advOp ((port s k).since + 50000000) s), if_pos ⟨disc, silent⟩, ?_, ?_, ?_⟩
  · rw [port_portDown fit]
    rfl
  · rw [port_portDown fit]
    rfl
  · rw [portDown_time, advOp_op]

/-- RETRY elapsed in DOWN (R265). -/
theorem execPortRetry_discovers (down : (port s k).st = .down) :
    ∃ t, exec (.portRetry k) s = .next t ∧ (port t k).st = .discover ∧ t.out = s.out ++ [.head k 0 [], .head k 1 []] ∧
      t.time.op = max s.time.op ((port s k).since + cfg s Addr.MAC_CFG 13 8 * 1000000000) := by
  have fit (n : Nat) : Fitted (advOp n s) k :=
    (fitted_congr (advOp_mac n s)).mpr (fitted_of_st (by simp [down]))
  refine ⟨portDiscover k (advOp ((port s k).since + cfg s Addr.MAC_CFG 13 8 * 1000000000) s), if_pos down, ?_, ?_, ?_⟩
  · rw [port_portDiscover (fit _)]
    rfl
  · rw [portDiscover_out, advOp_out]
  · rw [portDiscover_time, advOp_op]

/-- RESET_HEAD of a port that is not OFF goes to DISCOVER (R265, R267). -/
theorem portCtrlWord_resets (on : (port s k).st ≠ .off) :
    (portCtrlWord k 1#32 s).2 = stOk ∧ (port (portCtrlWord k 1#32 s).1 k).st = .discover := by
  have fit : Fitted s k := fitted_of_st on
  have left : Fitted (portDown k 0 s) k := (fitted_congr (portDown_mac k 0 s)).mpr (fitted_modPort.mpr fit)
  rw [portCtrlWord, if_neg (by decide)]
  split
  · exact absurd ‹_› on
  · exact ⟨rfl, by rw [port_portDiscover left]; rfl⟩
  · exact ⟨rfl, by rw [port_portDiscover fit]; rfl⟩

theorem execResetHead_discovers {h : GmpHdr} {x : Session} (m : GmpMay h x 1 10 s) (hk : k < portCount s.part)
    (on : (port s k).st ≠ .off) : ∃ t, exec (.resetHead h k) s = .next t ∧ Answered h 0x02 stOk (indexBody 0xFFFF) s t ∧
      (port t k).st = .discover := by
  obtain ⟨u, e, answered, rest⟩ := gmpWord_answers m (Addr.MAC_P_CTRL + 0x100 * k) 1#32 (f := portCtrlWord k 1#32)
    (c := { regs := true, safe := true, evr := true, mac := true, lkp := true }) rfl rfl
    (fun u => portCtrlWord_fol rfl rfl rfl rfl rfl (.refl _ u))
  obtain ⟨ok, disc⟩ := portCtrlWord_resets (s := u) (k := k) (by rwa [port_congr (e.fol.mac rfl)])
  rw [ok] at answered
  exact ⟨_, if_pos hk, answered, by rw [port_congr (rest.mac rfl), disc]⟩

/-- The switch of a plan at the superframe of its SW, or later (R260). -/
theorem execPlanSwitch_switches {w : Nat} (waits : (port s k).sw = some w) (due : w ≤ s.jr.sf) :
    ∃ t, exec (.planSwitch k) s = .next t ∧ (port t k).air = planOf s k ∧ (port t k).gen = nextGen (port s k).gen ∧
      (port t k).sw = none := by
  let switched := modPort k (fun p => { p with air := planOf s k, gen := nextGen p.gen, sw := none }) s
  have mac : (wakeSlots k switched).mac = switched.mac := (wakeSlots_fol (kc := { memb := true }) rfl (.refl _ _)).mac rfl
  have whole : planSwitch k s.jr.sf s = wakeSlots k switched := by
    rw [planSwitch, waits]
    exact if_pos due
  refine ⟨_, congrArg Host.Outcome.next whole, ?_⟩
  rw [port_congr mac, port_modPort_self (fitted_of_sw waits)]
  exact ⟨rfl, rfl, rfl⟩

end Discovery

/-! Transactions with a head (R245 to R247). -/

section Transactions

variable {s : State} {k : Nat}

theorem execSetChannel_answered (on : (port s k).st ≠ .off) {r : HeadResp} (ok : respFails r = false) :
    exec (.setChannel k r) s = .next (modPort k Port.answered s) :=
  (if_neg on).trans (congrArg _ (attempt_answered ok k 0x10 s))

theorem execSetPower_answered (on : (port s k).st ≠ .off) {r : HeadResp} (ok : respFails r = false) :
    exec (.setPower k r) s = .next (modPort k Port.answered s) :=
  (if_neg on).trans (congrArg _ (attempt_answered ok k 0x11 s))

/-- The first failed attempt is repeated (R246). -/
theorem execStartNibbleTimeout_repeats (on : (port s k).st ≠ .off) {cmd : Nat} (hc : cmd ≠ 0x30)
    (new : (port s k).failed ≠ some cmd) : ∃ t, exec (.startNibbleTimeout k cmd) s = .next t ∧ (port t k).failed = some cmd ∧
      t.out = s.out ++ [.head k cmd []] ∧ (port t k).st = (port s k).st := by
  have failed : port (modPort k (fun p => { p with failed := some cmd }) s) k = { port s k with failed := some cmd } :=
    port_modPort_self (fitted_of_st on)
  refine ⟨_, (if_neg on).trans (congrArg _ (attempt_first rfl new)), ?_, ?_, ?_⟩
  · exact congrArg Port.failed failed
  · rw [if_neg hc]
    rfl
  · exact (congrArg Port.st failed).trans rfl

/-- A second one is BUS_ERR (R246). -/
theorem execStartNibbleTimeout_busErr (on : (port s k).st ≠ .off) {cmd : Nat} (again : (port s k).failed = some cmd) :
    exec (.startNibbleTimeout k cmd) s = .next (busErr k s) :=
  (if_neg on).trans (congrArg _ (attempt_second rfl again))

/-- A STATUS that an UP port has read: IRQ_N as the head gives it. -/
def statusRead (k f n : Nat) (s : State) : State :=
  modPort k (fun p => { p with irq := f.testBit 0 && decide (0 < n) }) (modPort k Port.answered s)

theorem execStatus_eq (up : (port s k).st = .up) (f n c : Nat) : exec (.status k (.status stOk) f n c) s = .next
    (if f.testBit 3 || !f.testBit 2 then portDown k 5 (modPort k (fun p => { p with faultCode := c }) (statusRead k f n s))
      else statusRead k f n s) := by
  show execStatus k (.status stOk) f n c s = _
  rw [execStatus, if_neg (not_not_intro up), attempt_status rfl, if_neg (not_not_intro rfl)]
  dsimp only
  split <;> rfl

theorem port_statusRead (up : (port s k).st = .up) (f n : Nat) : Fitted (statusRead k f n s) k ∧
    port (statusRead k f n s) k = { (port s k).answered with irq := f.testBit 0 && decide (0 < n) } := by
  have fit : Fitted s k := fitted_of_st (by simp [up])
  refine ⟨fitted_modPort.mpr (fitted_modPort.mpr fit), ?_⟩
  rw [statusRead, port_modPort_self (fitted_modPort.mpr fit), port_modPort_self fit]

/-- A head that is READY without FAULT (R265). -/
theorem execStatus_ready (up : (port s k).st = .up) {f : Nat} (fault : f.testBit 3 = false) (ready : f.testBit 2 = true) (n c : Nat) :
    ∃ t, exec (.status k (.status stOk) f n c) s = .next t ∧ (port t k).st = .up ∧
      (port t k).irq = (f.testBit 0 && decide (0 < n)) := by
  refine ⟨statusRead k f n s, ?_, ?_⟩
  · rw [execStatus_eq up, fault, ready]
    rfl
  · rw [(port_statusRead up f n).2]
    exact ⟨up, rfl⟩

/-- A head with FAULT or without READY (R265). -/
theorem execStatus_down (up : (port s k).st = .up) {f : Nat} (bad : f.testBit 3 = true ∨ f.testBit 2 = false) (n c : Nat) :
    ∃ t, exec (.status k (.status stOk) f n c) s = .next t ∧ (port t k).st = .down ∧ (port t k).reason = 5 ∧
      (port t k).faultCode = c := by
  have fit := (port_statusRead up f n).1
  refine ⟨_, (execStatus_eq up f n c).trans (congrArg _ (if_pos (by simpa using bad))), ?_⟩
  rw [port_portDown (fitted_modPort.mpr fit), port_modPort_self fit]
  exact ⟨rfl, rfl, rfl⟩

/-- A load that completes with OK (R254). -/
theorem execTxLoad_loads (on : (port s k).st ≠ .off) {y : TxSlot} (held : (port s k).tx = some y) :
    ∃ t, exec (.txLoad k (.status stOk)) s = .next t ∧ (port t k).tx = some { y with loaded := true } := by
  have fit : Fitted s k := fitted_of_st on
  refine ⟨modPort k (fun p => { p with tx := p.tx.map (fun t => { t with loaded := true }) }) (modPort k Port.answered s), ?_, ?_⟩
  · show execTxLoad k (.status stOk) s = _
    rw [execTxLoad, if_neg (by simp [held]), attempt_status rfl]
    rfl
  · rw [port_modPort_self (fitted_modPort.mpr fit), port_modPort_self fit]
    exact congrArg (Option.map fun t : TxSlot => { t with loaded := true }) held

theorem execTxCancel_empties (on : (port s k).st ≠ .off) :
    ∃ t, exec (.txCancel k (.status stOk)) s = .next t ∧ (port t k).tx = none := by
  refine ⟨modPort k (fun p => { p with tx := none }) (modPort k Port.answered s), ?_, ?_⟩
  · show execTxCancel k (.status stOk) s = _
    rw [execTxCancel, if_neg on, attempt_status rfl]
    rfl
  · rw [port_modPort_self (fitted_modPort.mpr (fitted_of_st on))]

theorem execRxFlush_empties (on : (port s k).st ≠ .off) :
    ∃ t, exec (.rxFlush k (.status stOk)) s = .next t ∧ (port t k).irq = false ∧ (port t k).lastTaken = none := by
  refine ⟨modPort k (fun p => { p with irq := false, lastTaken := none }) (modPort k Port.answered s), ?_, ?_⟩
  · show execRxFlush k (.status stOk) s = _
    rw [execRxFlush, if_neg on, attempt_status rfl]
    rfl
  · rw [port_modPort_self (fitted_modPort.mpr (fitted_of_st on))]
    exact ⟨rfl, rfl⟩

end Transactions

/-- Settles O31: each command of discovery and each transaction comes to one change of its port, and the departure of a port and
the entry of a request leave every other part that the port's record is read from. -/
theorem portsAreDiscoveredAndTransact : Obligations.PortsAreDiscoveredAndTransact := by
  refine ⟨fun s k => ⟨fun i disc format covers => execReadId_rises disc format covers,
    fun i disc refused => execReadId_refuses disc refused, fun disc silent => execNoHeadTimeout_down disc silent,
    fun down => execPortRetry_discovers down, fun h x m hk on => execResetHead_discovers m hk on,
    fun w waits due => execPlanSwitch_switches waits due⟩, fun s k on => ⟨fun r ok => ?_, fun cmd hc new =>
    execStartNibbleTimeout_repeats on hc new, fun cmd again => ?_, fun f n c up fault ready => execStatus_ready up fault ready n c,
    fun f n c up bad => execStatus_down up bad n c, fun y held => execTxLoad_loads on held, execTxCancel_empties on,
    execRxFlush_empties on⟩⟩
  · have answered : (port (modPort k Port.answered s) k).failed = none :=
      congrArg Port.failed (port_modPort_self (fitted_of_st on))
    exact ⟨⟨_, execSetChannel_answered on ok, answered, rfl⟩, ⟨_, execSetPower_answered on ok, answered, rfl⟩⟩
  · exact ⟨_, execStartNibbleTimeout_busErr on again, port_busErr (fitted_of_st on)⟩

end Sys2Proof.Machine

/-!
Reception (09_radio_ports R246, R249, R255): stamps, the reading of the oldest frame, and the checks that a frame passes before it
waits at the intake.
-/

namespace Sys2Proof.Machine

open Sys2Proof

/-- A 32-bit counter after it is raised by one. -/
theorem cfg_bump (a : Nat) (s : State) : cfg (bump a s) a 31 0 = min (2 ^ 32 - 1) (cfg s a 31 0 + 1) :=
  (cfg_bumpF (by decide) (by decide) a 1 s).trans (min_comm _ _)

theorem advTo_mac (n : Nat) (s : State) : (advTo n s).mac = s.mac := (advTo_only n s).mac rfl

/-! Stamps (R249, R255). -/

/-- A port with one more stamp, of which it keeps the last eight. -/
def Port.stamped (ns : Nat) (p : Port) : Port :=
  let n := (p.stampSeq + 1) % 65536
  let l := p.stamps ++ [⟨n, ns, false⟩]
  { p with stampSeq := n, stamps := l.drop (l.length - 8) }

theorem Port.stamped_getLast (ns : Nat) (p : Port) :
    (p.stamped ns).stamps.getLast? = some ⟨(p.stampSeq + 1) % 65536, ns, false⟩ := by
  have kept (l : List Stamp) (x : Stamp) : ((l ++ [x]).drop ((l ++ [x]).length - 8)).getLast? = some x := by
    have short : ¬ (l ++ [x]).length ≤ (l ++ [x]).length - 8 := by
      rw [List.length_append, List.length_singleton]
      omega
    rw [List.getLast?_drop, if_neg short, List.getLast?_concat]
  exact kept _ _

/-- The stamps with those of a count claimed. -/
def Port.claim (q : Nat) (p : Port) : Port :=
  { p with stamps := p.stamps.map (fun y => if y.seq = q then { y with claimed := true } else y) }

/-- No stamp of a count waits once those of it are claimed. -/
theorem Port.claim_find (q : Nat) (p : Port) : (p.claim q).stamps.find? (fun x => x.seq == q && !x.claimed) = none := by
  rw [Port.claim, List.find?_map, Option.map_eq_none_iff, List.find?_eq_none]
  intro y _
  dsimp only [Function.comp]
  split <;> simp [*]

section Stamps

variable {s : State} {k : Nat}

/-- A pulse at a preamble (R249). -/
theorem execRxstamp_stamps (up : (port s k).st = .up) (ns : Nat) : ∃ t, exec (.rxstamp k ns) s = .next t ∧
    t.time.ns = max s.time.ns ns ∧ (port t k).stampSeq = ((port s k).stampSeq + 1) % 65536 ∧
    (port t k).stamps.getLast? = some ⟨((port s k).stampSeq + 1) % 65536, ns, false⟩ := by
  have heard : ¬ (!listens s k) = true := by simp [listens, up]
  have stamped : port (modPort k (Port.stamped ns) (advTo ns s)) k = (port s k).stamped ns := by
    rw [port_modPort_self ((fitted_congr (advTo_mac ns s)).mpr (fitted_of_st (by simp [up]))), port_congr (advTo_mac ns s)]
  refine ⟨modPort k (Port.stamped ns) (advTo ns s), if_neg heard, advTo_ns ns s, ?_, ?_⟩
  · rw [stamped]
    rfl
  · rw [stamped, Port.stamped_getLast]

/-- A stamp that no frame claims (R255). -/
theorem execStampOnly_counts (up : (port s k).st = .up) {q : Nat} {x : Stamp}
    (waits : (port s k).stamps.find? (fun x => x.seq == q && !x.claimed) = some x) : ∃ t, exec (.stampOnly k q) s = .next t ∧
      (port t k).stamps.find? (fun x => x.seq == q && !x.claimed) = none ∧
      cfg t (portCnt k 4) 31 0 = min (2 ^ 32 - 1) (cfg s (portCnt k 4) 31 0 + 1) := by
  have fit := (fitted_congr (advTo_mac (x.ns + 1000000) s)).mpr (fitted_of_st (k := k) (by simp [up]))
  refine ⟨bump (portCnt k 4) (modPort k (Port.claim q) (advTo (x.ns + 1000000) s)), ?_, ?_, ?_⟩
  · show execStampOnly k q s = _
    rw [execStampOnly, waits]
    rfl
  · rw [port_congr (bump_mac _ _), port_modPort_self fit, Port.claim_find]
  · have word : cfg (modPort k (Port.claim q) (advTo (x.ns + 1000000) s)) (portCnt k 4) 31 0 = cfg s (portCnt k 4) 31 0 :=
      cfg_words (P := fun _ => false) (updMac_words (.of_follows (advTo_only _ s) rfl)) rfl
    rw [cfg_bump, word]

/-- IRQ_N of an UP port (R247). -/
theorem execRxIrq_asks (up : (port s k).st = .up) : ∃ t, exec (.rxIrq k) s = .next t ∧ (port t k).irq = true ∧
    t.out = s.out ++ [.head k 0x30 [0]] := by
  have asked : port (modPort k (fun p => { p with irq := true }) s) k = { port s k with irq := true } :=
    port_modPort_self (fitted_of_st (by simp [up]))
  exact ⟨_, if_pos up, congrArg Port.irq asked, rfl⟩

end Stamps

/-! Frames (R246, R255). -/

/-- What a port does with a frame that its head returns: it notes its count, and a fenced unit hears a beacon. -/
def rxNoted (k : Nat) (r : RxRead) (s : State) : State :=
  hearBeacon k r (modPort k (fun p => { p with lastTaken := some r.stampSeq }) (modPort k Port.answered s))

/-- A beacon heard is all that the pair keeps of a frame. -/
theorem hearBeacon_eq (k : Nat) (r : RxRead) (s : State) : ∃ b, hearBeacon k r s = s.updPair (fun p => { p with heard := b }) := by
  unfold hearBeacon
  split
  · split
    · exact ⟨true, rfl⟩
    · exact ⟨s.pair.heard, rfl⟩
  · exact ⟨s.pair.heard, rfl⟩

section Frames

variable {s : State} {k : Nat} {r : RxRead}

/-! What the checks come to, for a port whose keys and engine are usable. -/

theorem rxAccept_hears (root : radioRootOk s = true) (engine : engUsable s (0x30 + k) = true) :
    ¬ (!radioRootOk s || !engUsable s (0x30 + k)) = true := by simp [root, engine]

theorem rxAccept_unknown (root : radioRootOk s = true) (engine : engUsable s (0x30 + k) = true)
    (unknown : (port s k).stamps.find? (fun x => x.seq == r.stampSeq) = none) :
    rxAccept k r s = bump (portCnt k 3) s := by
  rw [rxAccept, if_neg (rxAccept_hears root engine), unknown]

/-- A frame of an UP slot, within its first 50 µs and within its rate, is taken in. -/
theorem rxAccept_takes (root : radioRootOk s = true) (engine : engUsable s (0x30 + k) = true) {x : Stamp}
    (stamp : (port s k).stamps.find? (fun x => x.seq == r.stampSeq) = some x) {sf slot : Nat}
    (hsf : sf = sfOf (x.ns - headDrx (port s k))) (hslot : slot = (x.ns - headDrx (port s k) - sfStart sf) / 500000)
    (kind : entKind ((airPlan s k sf).1.entry sf slot) = 2)
    (early : x.ns - headDrx (port s k) - slotStart sf slot ≤ 50000) (rate : r.rate ≤ 2) (fits : r.len ≤ psduLimit (bw20 s k) r.rate) :
    rxAccept k r s = takeIn k sf slot (x.ns - headDrx (port s k) + airtime (bw20 s k) r.rate r.len) r
      (modPort k (Port.claim r.stampSeq) s) := by
  subst hslot hsf
  rw [rxAccept, if_neg (rxAccept_hears root engine), stamp]
  dsimp only
  rw [kind, if_neg (by decide), if_neg]
  · rfl
  · rw [decide_eq_false (Nat.not_lt.mpr early), decide_eq_false (Nat.not_lt.mpr rate), decide_eq_false (Nat.not_lt.mpr fits)]
    decide

theorem canWrite_congr {t : State} (jr : t.jr = s.jr) (pair : t.pair = s.pair) : canWrite t = canWrite s := by
  rw [canWrite, canWrite, onDuty_congr jr pair, pair]

/-- A frame that a unit takes in while it writes entries (R255). -/
theorem takeIn_waits (write : canWrite s = true) (calm : s.time.hold = none) (known : knownRx r.psdu = true) (sf slot a : Nat) :
    (takeIn k sf slot a r s).mac = { s.mac with intake := s.mac.intake ++ [⟨k, sf, slot, a, r.psdu⟩] } := by
  have counted := bump_fol (kc := { regs := true }) (a := portCnt k 1) rfl (.refl _ s)
  rw [takeIn, canWrite_congr (counted.jr rfl) (counted.pair rfl), write, counted.time rfl, calm, known]
  exact congrArg (fun m : MacS => { m with intake := m.intake ++ [(⟨k, sf, slot, a, r.psdu⟩ : Intake)] }) (counted.mac rfl)

/-! The reading of the oldest frame (R246, R247). -/

/-- No frame (R247). -/
theorem execRxRead_empty (up : (port s k).st = .up) (calm : (port s k).failed = none) (f : Option RxRead) :
    ∃ t, exec (.rxRead k (.status 0x01) f) s = .next t ∧ (port t k).irq = false ∧ (port t k).lastTaken = none ∧
      t.mac.intake = s.mac.intake := by
  have fit : Fitted s k := fitted_of_st (by simp [up])
  refine ⟨modPort k (fun p => { p with irq := false, lastTaken := none }) (modPort k Port.answered s), ?_, ?_⟩
  · show execRxRead k (.status 0x01) f s = _
    rw [execRxRead, if_neg (not_not_intro up), attempt_status (by decide), calm]
    rfl
  · rw [port_modPort_self (fitted_modPort.mpr fit)]
    exact ⟨rfl, rfl, rfl⟩

theorem execRxRead_frame (up : (port s k).st = .up) (calm : (port s k).failed = none) (r : RxRead) :
    exec (.rxRead k (.status 0x00) (some r)) s = .next (rxAccept k r (rxNoted k r s)) := by
  show execRxRead k (.status 0x00) (some r) s = _
  rw [execRxRead, if_neg (not_not_intro up), attempt_status (by decide), calm]
  rfl

/-- What a noted frame leaves: all but the port's count of it and the pair's ear. -/
structure Noted (k q : Nat) (s u : State) : Prop where
  port : Machine.port u k = { (Machine.port s k).answered with lastTaken := some q }
  fit : Fitted u k
  intake : u.mac.intake = s.mac.intake
  regs : ∀ a hi lo, cfg u a hi lo = cfg s a hi lo
  plan : ∀ sf, airPlan u k sf = airPlan s k sf
  root : radioRootOk u = radioRootOk s
  engine : engUsable u (0x30 + k) = engUsable s (0x30 + k)
  write : canWrite u = canWrite s
  time : u.time = s.time

theorem rxNoted_noted (fit : Fitted s k) (r : RxRead) : Noted k r.stampSeq s (rxNoted k r s) := by
  obtain ⟨b, heard⟩ := hearBeacon_eq k r (modPort k (fun p => { p with lastTaken := some r.stampSeq }) (modPort k Port.answered s))
  have record : port (rxNoted k r s) k = { (port s k).answered with lastTaken := some r.stampSeq } := by
    rw [rxNoted, heard]
    exact (port_modPort_self (fitted_modPort.mpr fit)).trans (by rw [port_modPort_self fit])
  have plan : planOf (rxNoted k r s) k = planOf s k := by
    rw [rxNoted, heard]
    rfl
  refine ⟨record, ?_, ?_, fun a hi lo => ?_, fun sf => ?_, ?_, ?_, ?_, ?_⟩
  · rw [rxNoted, heard]
    exact fitted_modPort.mpr (fitted_modPort.mpr fit)
  · rw [rxNoted, heard]
    rfl
  · rw [rxNoted, heard]
    rfl
  · rw [airPlan, airPlan, record, plan]
    rfl
  all_goals
    rw [rxNoted, heard]
    rfl

/-- A frame whose stamp is not known (R255). -/
theorem execRxRead_unknown (up : (port s k).st = .up) (calm : (port s k).failed = none) (root : radioRootOk s = true)
    (engine : engUsable s (0x30 + k) = true) (unknown : (port s k).stamps.find? (fun x => x.seq == r.stampSeq) = none) :
    ∃ t, exec (.rxRead k (.status 0x00) (some r)) s = .next t ∧
      cfg t (portCnt k 3) 31 0 = min (2 ^ 32 - 1) (cfg s (portCnt k 3) 31 0 + 1) ∧ t.mac.intake = s.mac.intake := by
  have n := rxNoted_noted (fitted_of_st (s := s) (k := k) (by simp [up])) r
  have counted := rxAccept_unknown (n.root.trans root) (n.engine.trans engine) (r := r) (by rw [n.port]; exact unknown)
  exact ⟨_, execRxRead_frame up calm r, by rw [counted, cfg_bump, n.regs], by rw [counted, bump_mac, n.intake]⟩

/-- A frame that passes the checks of R255. -/
theorem execRxRead_takes (up : (port s k).st = .up) (calm : (port s k).failed = none) (root : radioRootOk s = true)
    (engine : engUsable s (0x30 + k) = true) (write : canWrite s = true) (hold : s.time.hold = none)
    (known : knownRx r.psdu = true) {x : Stamp} (stamp : (port s k).stamps.find? (fun x => x.seq == r.stampSeq) = some x)
    {sf slot : Nat} (hsf : sf = sfOf (x.ns - headDrx (port s k))) (hslot : slot = (x.ns - headDrx (port s k) - sfStart sf) / 500000)
    (kind : entKind ((airPlan s k sf).1.entry sf slot) = 2)
    (early : x.ns - headDrx (port s k) - slotStart sf slot ≤ 50000) (rate : r.rate ≤ 2) (fits : r.len ≤ psduLimit (bw20 s k) r.rate) :
    ∃ t, exec (.rxRead k (.status 0x00) (some r)) s = .next t ∧ (port t k).lastTaken = some r.stampSeq ∧
      t.mac.intake = s.mac.intake ++
        [⟨k, sf, slot, x.ns - headDrx (port s k) + airtime (bw20 s k) r.rate r.len, r.psdu⟩] := by
  have n := rxNoted_noted (fitted_of_st (s := s) (k := k) (by simp [up])) r
  have drx : headDrx (port (rxNoted k r s) k) = headDrx (port s k) := by
    rw [n.port]
    rfl
  have width : bw20 (rxNoted k r s) k = bw20 s k := by rw [bw20, portCfg, n.regs, bw20, portCfg]
  have taken := rxAccept_takes (sf := sf) (slot := slot) (n.root.trans root) (n.engine.trans engine) (by rw [n.port]; exact stamp)
    (by rwa [drx]) (by rwa [drx]) (by rwa [n.plan]) (by rwa [drx]) rate (by rwa [width])
  have waits := takeIn_waits (k := k) (s := modPort k (Port.claim r.stampSeq) (rxNoted k r s)) (n.write.trans write)
    ((congrArg TimeS.hold n.time).trans hold) known sf slot (x.ns - headDrx (port s k) + airtime (bw20 s k) r.rate r.len)
  rw [drx, width] at taken
  refine ⟨_, execRxRead_frame up calm r, ?_, ?_⟩
  · have claimed : port (rxAccept k r (rxNoted k r s)) k = (port (rxNoted k r s) k).claim r.stampSeq := by
      rw [taken, port, waits]
      exact port_modPort_self n.fit
    rw [claimed, n.port]
    rfl
  · rw [taken, waits]
    exact congrArg (· ++ _) n.intake

end Frames

/-- Settles O32: a frame that is noted at its port leaves what the checks of R255 decide by, and each check that fails is one
counter. -/
theorem framesAreStampedAndTaken : Obligations.FramesAreStampedAndTaken := by
  intro s k up
  exact ⟨execRxstamp_stamps up, fun q x waits => execStampOnly_counts up waits, execRxIrq_asks up,
    fun f calm => execRxRead_empty up calm f,
    fun r x sf slot calm root engine write hold known stamp hsf hslot kind early rate fits =>
      execRxRead_takes up calm root engine write hold known stamp hsf hslot kind early rate fits,
    fun r calm root engine unknown => execRxRead_unknown up calm root engine unknown⟩

end Sys2Proof.Machine

/-!
What the scheduler leaves (11_scheduler R307 to R318): its work gives nothing to the outside and puts no engine in or out of
service, and a radio job that is created writes registers of the scheduler only.
-/

namespace Sys2Proof.Machine

open Sys2Proof

/-- Nothing has been given to the outside, and no engine's service has changed. -/
structure Served (s t : State) : Prop where
  out : t.out = s.out
  service : ∀ e, (engOf t e).fenced = (engOf s e).fenced ∧ (engOf t e).restart = (engOf s e).restart

/-- A job that becomes READY may take no engine, or that of a running job. -/
theorem tryPreempt_cases (i : Nat) (s : State) :
    tryPreempt i s = s ∨ ∃ j e k x, tryPreempt i s = startJob j e (preemptJob k x s) := by
  unfold tryPreempt
  dsimp only
  split
  · exact .inl rfl
  · split
    · exact .inl rfl
    · split
      · split
        · exact .inr ⟨_, _, _, _, rfl⟩
        · exact .inl rfl
      · split
        · split
          · exact .inr ⟨_, _, _, _, rfl⟩
          · exact .inl rfl
        · exact .inl rfl

namespace Served

variable {s t u : State}

theorem refl (s : State) : Served s s := ⟨rfl, fun _ => ⟨rfl, rfl⟩⟩

theorem trans (a : Served s t) (b : Served t u) : Served s u :=
  ⟨b.out.trans a.out, fun e => ⟨(b.service e).1.trans (a.service e).1, (b.service e).2.trans (a.service e).2⟩⟩

theorem setForce (h : Served s t) (k : Nat) (w : Word) : Served s (setForce k w t) := h.trans ⟨rfl, fun _ => ⟨rfl, rfl⟩⟩

theorem bump (h : Served s t) (a : Nat) : Served s (bump a t) := h.setForce _ _

theorem alarm (h : Served s t) (a b : Nat) : Served s (alarm a b t) := h.setForce _ _

theorem maxF (h : Served s t) (a hi lo v : Nat) : Served s (maxF a hi lo v t) := h.setForce _ _

theorem bumpW (h : Served s t) (sel w a : Nat) : Served s (bumpW sel w a t) := h.setForce _ _

theorem updEvr (h : Served s t) (f : EvrS → EvrS) : Served s (t.updEvr f) := h.trans ⟨rfl, fun _ => ⟨rfl, rfl⟩⟩

/-- A change of the scheduler that leaves its engines. -/
theorem updSched (h : Served s t) {f : SchedS → SchedS} (eng : (f t.sched).eng = t.sched.eng) : Served s (t.updSched f) :=
  h.trans ⟨rfl, fun e => by
    have same : engOf (t.updSched f) e = engOf t e := congrArg (fun m => kget Eng.zero m e) eng
    rw [same]
    exact ⟨rfl, rfl⟩⟩

theorem modJob (h : Served s t) (i : Nat) (f : Job → Job) : Served s (modJob i f t) := h.updSched rfl

theorem modEng (h : Served s t) (e : Nat) {f : Eng → Eng} (keep : ∀ g, (f g).fenced = g.fenced ∧ (f g).restart = g.restart) :
    Served s (modEng e f t) :=
  h.trans ⟨rfl, fun j => by
    show (kget Eng.zero (kmod Eng.zero t.sched.eng e f) j).fenced = (kget Eng.zero t.sched.eng j).fenced ∧
      (kget Eng.zero (kmod Eng.zero t.sched.eng e f) j).restart = (kget Eng.zero t.sched.eng j).restart
    rw [kget_kmod]
    split
    · subst j
      exact keep _
    · exact ⟨rfl, rfl⟩⟩

theorem startJob (h : Served s t) (i e : Nat) : Served s (startJob i e t) := by
  unfold Machine.startJob
  dsimp only
  split
  · exact h
  · exact (h.modJob _ _).modEng _ fun g => ⟨rfl, rfl⟩

theorem stopEng (h : Served s t) (e c : Nat) : Served s (stopEng e c t) := by
  unfold Machine.stopEng
  dsimp only
  refine updSched (modEng h e ?_) ?_
  · exact fun _ => ⟨rfl, rfl⟩
  · rfl

theorem dispatch (h : Served s t) (n k : Nat) : Served s (dispatch n k t) := by
  induction n generalizing t with
  | zero => exact h
  | succ n ih =>
    unfold Machine.dispatch
    split
    · exact ih (h.startJob _ _)
    · exact h

theorem preemptJob (h : Served s t) (i : Nat) (j : Job) : Served s (preemptJob i j t) :=
  ((h.stopEng _ _).modJob _ _).bump _

theorem tryPreempt (h : Served s t) (i : Nat) : Served s (tryPreempt i t) := by
  obtain same | ⟨j, e, k, x, moved⟩ := tryPreempt_cases i t
  · rwa [same]
  · rw [moved]
    exact (h.preemptJob k x).startJob j e

theorem readyJob (h : Served s t) (i : Nat) : Served s (readyJob i t) := by
  unfold Machine.readyJob
  split
  · exact h
  · exact (((h.modJob _ _).maxF _ _ _ _).dispatch _ _).tryPreempt _

theorem placeJob (h : Served s t) (j : Job) (d : Option Nat) : Served s (placeJob j d t) := by
  unfold Machine.placeJob
  split
  · exact h.updSched rfl
  · dsimp only
    split
    · exact h.updSched rfl
    · exact (h.updSched rfl).readyJob _

theorem createJob (h : Served s t) (c : Nat) (pos : Nat × Nat) (o : Nat) (d : Option Nat) : Served s (createJob c pos o d t) := by
  unfold Machine.createJob addJob
  dsimp only
  have counted : Served s (t.updSched fun c => { c with order := c.order + 1 }) := h.updSched rfl
  split
  · dsimp only
    exact counted.placeJob _ _
  · split
    · exact (counted.updSched rfl).bump _
    · split
      · exact counted.bump _
      · exact counted

theorem unstall (h : Served s t) (n : Nat) : Served s (unstall n t) := by
  induction n generalizing t with
  | zero => exact h
  | succ n ih =>
    unfold Machine.unstall
    split
    · exact h
    · split
      · exact ih ((h.updSched rfl).placeJob _ _)
      · exact h

theorem freeJob (h : Served s t) (i : Nat) : Served s (freeJob i t) := (h.updSched rfl).unstall _

theorem evrKick (h : Served s t) (n : Nat) : Served s (evrKick n t) := by
  induction n generalizing t with
  | zero => exact h
  | succ n ih =>
    unfold Machine.evrKick
    split
    · exact h
    · split
      · exact h
      · split
        · exact ih ((h.updEvr _).bump _)
        · split
          · exact (h.updEvr _).alarm _ _
          · exact h.updEvr _

theorem evTrig (h : Served s t) (i : Nat) (d : List Nat) : Served s (evTrig i d t) := by
  unfold Machine.evTrig
  split
  · exact h
  · split
    · exact ((h.updEvr _).bump _).alarm _ _
    · exact (h.updEvr _).evrKick _

theorem markLate (h : Served s t) (i : Nat) (j : Job) : Served s (markLate i j t) := by
  unfold Machine.markLate
  dsimp only
  have counted := (h.bump Addr.SCHED_CNT_LATE).bumpW Addr.SCHED_CLASS_SEL j.cls Addr.SCHED_CLASS_CNT_LATE
  split
  · exact ((counted.updSched rfl).modJob _ _).evTrig _ _
  · exact (counted.updSched rfl).modJob _ _

theorem wakeChain (h : Served s t) (c o : Nat) : Served s (wakeChain c o t) := by
  unfold Machine.wakeChain
  split
  · exact h.readyJob _
  · exact h

theorem completeJob (h : Served s t) (i st : Nat) : Served s (completeJob i st t) := by
  unfold Machine.completeJob
  split
  · exact h
  · rename_i j _
    dsimp only
    have stopped : Served s (if j.st = .running then Machine.stopEng j.engine j.cls t else t) := by
      split
      · exact h.stopEng _ _
      · exact h
    have freed (v : State) (hv : Served s v) : Served s (Machine.dispatch 31 j.kind (Machine.wakeChain j.cls j.object
        (if j.covered then Machine.bumpW Addr.SCHED_CLASS_SEL j.cls Addr.SCHED_CLASS_CNT_JOBS v
          else Machine.freeJob i (Machine.bumpW Addr.SCHED_CLASS_SEL j.cls Addr.SCHED_CLASS_CNT_JOBS v)))) := by
      have counted := hv.bumpW Addr.SCHED_CLASS_SEL j.cls Addr.SCHED_CLASS_CNT_JOBS
      refine (wakeChain ?_ _ _).dispatch _ _
      split
      · exact counted
      · exact counted.freeJob i
    refine freed _ ?_
    split
    · exact (stopped.modJob _ _).markLate _ _
    · exact stopped.modJob _ _

theorem finishJob (h : Served s t) (c o st : Nat) : Served s (finishJob c o st t) := by
  unfold Machine.finishJob
  split
  · exact h.completeJob _ _
  · exact h

end Served

/-! The registers that a slot's work writes. -/

/-- The words that the cut-off of a slot may write: those of the scheduler, whose block stands at 0x0003_0000 (17_host R446),
ITEM_DROP and RELAY_OUT (10_radio_frames R302). -/
def slotWord (k : Nat) : Bool :=
  decide (blockOf (k / 2 ^ 32) = 3) || k == rkey (Addr.MAC_CNT + 44) || k == rkey (Addr.MAC_CNT + 40)

theorem slotWord_sched {a : Nat} (block : blockOf a = 3) : slotWord (rkey a) = true := by
  rw [slotWord, rkey, Nat.mul_div_cancel _ (Nat.two_pow_pos 32), decide_eq_true block, Bool.true_or, Bool.true_or]

/-- A register of another block that is neither of the two counters. -/
theorem slotWord_rkey {a : Nat} (block : blockOf a ≠ 3) (drop : a ≠ Addr.MAC_CNT + 44) (out : a ≠ Addr.MAC_CNT + 40) :
    slotWord (rkey a) = false := by
  have apart {b : Nat} (h : a ≠ b) : (rkey a == rkey b) = false :=
    beq_eq_false_iff_ne.mpr fun e => h (Nat.eq_of_mul_eq_mul_right (Nat.two_pow_pos 32) e)
  rw [slotWord, rkey, Nat.mul_div_cancel _ (Nat.two_pow_pos 32), decide_eq_false block]
  exact (congrArg₂ (fun x y => (false || x) || y) (apart drop) (apart out))

section Words

variable {s0 s : State}

theorem tryPreempt_slotWords (h : Words slotWord s0 s) (i : Nat) : Words slotWord s0 (tryPreempt i s) := by
  obtain same | ⟨j, e, k, x, moved⟩ := tryPreempt_cases i s
  · rwa [same]
  · rw [moved]
    exact startJob_words (bump_words (by decide) (modJob_words (stopEng_words h _ _) _ _)) _ _

/-- A job of one of the nine kinds that becomes READY. -/
theorem readyJob_slotWords (h : Words slotWord s0 s) {i : Nat} {j : Job} (hj : kfind s.sched.jobs i = some j) (kind : j.kind ≤ 8) :
    Words slotWord s0 (readyJob i s) := by
  have depth : slotWord (rkey (Addr.SCHED_KIND_DEPTH + 4 * j.kind)) = true := by
    refine slotWord_sched ?_
    unfold blockOf Addr.SCHED_KIND_DEPTH
    omega
  rw [readyJob, hj]
  exact tryPreempt_slotWords (dispatch_words (maxF_words depth (modJob_words h _ _)) _ _) _

theorem placeJob_slotWords (h : Words slotWord s0 s) {j : Job} (kind : j.kind ≤ 8) (d : Option Nat) :
    Words slotWord s0 (placeJob j d s) := by
  unfold placeJob
  split
  · exact updSched_words h
  · dsimp only
    split
    · exact updSched_words h
    · refine readyJob_slotWords (updSched_words h) (j := j) ?_ kind
      show kfind (kins s.sched.jobs _ j) _ = some j
      rw [kfind_kins, if_pos rfl]

/-- The job of a frame (R304: class 9). -/
theorem createJob_slotWords (h : Words slotWord s0 s) (pos : Nat × Nat) (o : Nat) (d : Option Nat) :
    Words slotWord s0 (createJob 9 pos o d s) := by
  have counted : Words slotWord s0 (s.updSched fun c => { c with order := c.order + 1 }) := updSched_words h
  unfold createJob addJob
  dsimp only
  split
  · dsimp only
    exact placeJob_slotWords counted (j := newJob s 9 pos o d) (by show classKind 9 ≤ 8; decide) _
  · split
    · exact bump_words (by decide) (updSched_words counted)
    · split
      · exact bump_words (by decide) counted
      · exact counted

end Words

end Sys2Proof.Machine

/-!
The cut-off and the start of a slot (09_radio_ports R253, R254, R259; 07_motion_safety R195, R196): the ports take their turns, and
the turn of one leaves all that another decides by.
-/

namespace Sys2Proof.Machine

open Sys2Proof

/-! Turns. -/

/-- One turn among others: where every other turn is related by `R`, so is what comes before this one, and what comes after it. -/
theorem foldl_turn {α : Type} {F : State → α → State} {R : State → State → Prop} (refl : ∀ s, R s s)
    (trans : ∀ {s t u}, R s t → R t u → R s u) {a : α} (others : ∀ t b, b ≠ a → R t (F t b)) {l : List α} (once : l.Nodup)
    (ha : a ∈ l) (s : State) : ∃ u, R s u ∧ R (F u a) (l.foldl F s) := by
  have rest (m : List α) (hm : a ∉ m) (t : State) : R t (m.foldl F t) :=
    List.foldlRecOn m F (refl t) fun u hu b hb => trans hu (others u b fun e => hm (e ▸ hb))
  obtain ⟨l1, l2, rfl⟩ := List.append_of_mem ha
  rw [List.nodup_middle, List.nodup_cons, List.mem_append, not_or] at once
  obtain ⟨⟨first, last⟩, -⟩ := once
  rw [List.foldl_append]
  exact ⟨_, rest l1 first s, rest l2 last _⟩

/-- What a port decides by at a slot is as it was. -/
structure Apart (k : Nat) (s t : State) : Prop where
  part : t.part = s.part
  port : Machine.port t k = Machine.port s k
  first : t.mac.first = s.mac.first
  jr : t.jr = s.jr
  pair : t.pair = s.pair
  key : t.key = s.key
  safe : { t.safe with ports := [] } = { s.safe with ports := [] }
  stop : stopReq t k = stopReq s k
  service : ∀ e, (engOf t e).fenced = (engOf s e).fenced ∧ (engOf t e).restart = (engOf s e).restart
  words : Words slotWord s t

namespace Apart

variable {s t u : State} {k j : Nat}

theorem refl (k : Nat) (s : State) : Apart k s s :=
  ⟨rfl, rfl, rfl, rfl, rfl, rfl, rfl, rfl, fun _ => ⟨rfl, rfl⟩, .refl _ s⟩

theorem trans (a : Apart k s t) (b : Apart k t u) : Apart k s u :=
  ⟨b.part.trans a.part, b.port.trans a.port, b.first.trans a.first, b.jr.trans a.jr, b.pair.trans a.pair, b.key.trans a.key,
    b.safe.trans a.safe, b.stop.trans a.stop,
    fun e => ⟨(b.service e).1.trans (a.service e).1, (b.service e).2.trans (a.service e).2⟩, a.words.trans b.words⟩

/-- Work on the corrections, the members, the registers of a slot and the jobs. -/
theorem of_work (f : Follows { time := true, regs := true, fix := true, memb := true, sched := true } s t)
    (w : Words slotWord s t)
    (service : ∀ e, (engOf t e).fenced = (engOf s e).fenced ∧ (engOf t e).restart = (engOf s e).restart) (k : Nat) :
    Apart k s t where
  part := f.part
  port := port_congr (f.mac rfl) k
  first := congrArg MacS.first (f.mac rfl)
  jr := f.jr rfl
  pair := f.pair rfl
  key := f.key rfl
  safe := by rw [f.safe rfl]
  stop := by rw [stopReq, stopReq, f.safe rfl]
  service := service
  words := w

theorem ite {p : Prop} [Decidable p] (ht : Apart k s t) (hu : Apart k s u) : Apart k s (if p then t else u) := by
  split
  · exact ht
  · exact hu

theorem modPort (h : j ≠ k) (f : Port → Port) (s : State) : Apart k s (modPort j f s) :=
  ⟨rfl, port_modPort_other h.symm, rfl, rfl, rfl, rfl, rfl, rfl, fun _ => ⟨rfl, rfl⟩, updMac_words (.refl _ s)⟩

/-- A stop request at another port. -/
theorem stopReqs (h : j ≠ k) (r : StopReq) (s : State) :
    Apart k s (s.updSafe fun b => { b with ports := kset StopReq.none b.ports j r }) :=
  ⟨rfl, rfl, rfl, rfl, rfl, rfl, rfl, kget_kset.trans (if_neg h.symm), fun _ => ⟨rfl, rfl⟩, updSafe_words (.refl _ s)⟩

theorem advTo (n : Nat) (k : Nat) (s : State) : Apart k s (advTo n s) :=
  of_work (advTo_fol rfl (.refl _ s)) (.of_follows (advTo_only n s) rfl)
    (fun e => by rw [engOf, (advTo_only n s).sched rfl]; exact ⟨rfl, rfl⟩) k

/-! What a port decides by. -/

theorem cfg (a : Apart k s t) {r : Nat} (block : blockOf r ≠ 3) (drop : r ≠ Addr.MAC_CNT + 44) (out : r ≠ Addr.MAC_CNT + 40)
    (hi lo : Nat) : cfg t r hi lo = cfg s r hi lo :=
  cfg_words a.words (slotWord_rkey block drop out)

theorem engUsable (a : Apart k s t) (e : Nat) : engUsable t e = engUsable s e := by
  have word : forceW t (rkey Addr.FIX_ENG_CTRL) = forceW s (rkey Addr.FIX_ENG_CTRL) :=
    a.words.words _ (slotWord_rkey (by decide) (by decide) (by decide))
  rw [Machine.engUsable, Machine.engUsable, engEnabled, engEnabled, cfgB, cfgB, word, a.part, (a.service e).1, (a.service e).2]

theorem radioRootOk (a : Apart k s t) : radioRootOk t = radioRootOk s := by
  rw [Machine.radioRootOk, Machine.radioRootOk, dbgCust, dbgCust, readySlot, readySlot, lcState, lcState, a.key]

theorem maySend (a : Apart k s t) (sf slot : Nat) : maySend t k sf slot = maySend s k sf slot := by
  rw [Machine.maySend, Machine.maySend, a.port, onDuty_congr a.jr a.pair, a.radioRootOk, a.engUsable, a.pair]

theorem planOf (a : Apart k s t) : planOf t k = planOf s k := by
  have conf : forceW t (rkey (Addr.MAC_P_CFG + 0x100 * k)) = forceW s (rkey (Addr.MAC_P_CFG + 0x100 * k)) :=
    a.words.words _ (slotWord_rkey (by unfold blockOf Addr.MAC_P_CFG; omega)
      (by unfold Addr.MAC_P_CFG Addr.MAC_CNT; omega) (by unfold Addr.MAC_P_CFG Addr.MAC_CNT; omega))
  have entry (i : Nat) : forceW t (rkey (Addr.MAC_P_SLOT + 0x800 * k + 4 * i)) =
      forceW s (rkey (Addr.MAC_P_SLOT + 0x800 * k + 4 * i)) :=
    a.words.words _ (slotWord_rkey (by unfold blockOf Addr.MAC_P_SLOT; omega)
      (by unfold Addr.MAC_P_SLOT Addr.MAC_CNT; omega) (by unfold Addr.MAC_P_SLOT Addr.MAC_CNT; omega))
  simp only [Machine.planOf, planFrom, conf, entry]

theorem airPlan (a : Apart k s t) (sf : Nat) : airPlan t k sf = airPlan s k sf := by
  rw [Machine.airPlan, Machine.airPlan, a.port, a.planOf]

/-- The SAFE bay but for the requests at the ports. -/
theorem bay (a : Apart k s t) : ∃ l, t.safe = { s.safe with ports := l } :=
  ⟨t.safe.ports, congrArg (fun b : SafeS => { b with ports := t.safe.ports }) a.safe⟩

theorem stopFrame (a : Apart k s t) : stopFrame t = stopFrame s := by
  obtain ⟨l, bay⟩ := a.bay
  rw [Machine.stopFrame, bay]
  rfl

theorem beaconFrame (a : Apart k s t) (sf : Nat) : beaconFrame t k sf = beaconFrame s k sf := by
  obtain ⟨l, bay⟩ := a.bay
  have safe : beaconSafe t = beaconSafe s := by
    rw [beaconSafe, bay]
    rfl
  have cause : t.safe.firstCause = s.safe.firstCause := by rw [bay]
  have plan := a.airPlan sf
  rw [Machine.beaconFrame, Machine.beaconFrame, safe, plan, cause, a.port, a.jr,
    a.cfg (r := Addr.SAFE_LEASE) (by decide) (by decide) (by decide), a.cfg (r := Addr.TIME_UTC) (by decide) (by decide) (by decide)]

end Apart

/-! What the work of a turn leaves (R259). -/

section Frames

variable {s s0 : State} {k : Nat}

theorem dropTired_slotWords (h : Words slotWord s0 s) (a : Nat) : Words slotWord s0 (dropTired a s) := by
  unfold dropTired
  dsimp only
  split
  · exact h
  · exact bumpF_words (by decide) (updMemb_words h)

theorem relayFill_slotWords (h : Words slotWord s0 s) (sf : Nat) (l : List Nat) (room : Nat) (acc : List DevFrame) :
    Words slotWord s0 (relayFill sf l room acc s).2 :=
  h.trans (.of_follows (relayFill_fol (kc := { memb := true }) rfl (.refl _ s)) rfl)

theorem nodeFrame_slotWords (h : Words slotWord s0 s) (r sf limit : Nat) : Words slotWord s0 (nodeFrame r sf limit s).2 := by
  unfold nodeFrame
  have dropped (l : List Nat) : Words slotWord s0 (l.foldl (fun t a => dropTired a t) s) :=
    List.foldlRecOn l _ h fun t ht a _ => dropTired_slotWords ht a
  dsimp only
  split
  · exact (dropped _).trans (.of_regs rfl rfl)
  · exact bumpF_words (by decide) (relayFill_slotWords (updMemb_words (dropped _)) _ _ _ _)

/-- The frame of a DOWN slot takes its content from the members alone. -/
theorem downFrame_apart {j sf : Nat} {w : Word} {x : TxFrame × State} (e : downFrame j sf w s = some x) : Apart k s x.2 := by
  have work := downFrame_fol (kc := { regs := true, memb := true }) rfl rfl e (.refl _ s)
  refine .of_work (downFrame_fol rfl rfl e (.refl _ s)) ?_ (fun i => by rw [engOf, work.sched rfl]; exact ⟨rfl, rfl⟩) k
  unfold downFrame at e
  split at e
  · cases e
  · split at e
    · split at e
      · cases e
        exact .of_regs rfl rfl
      · cases e
    · cases e
      exact nodeFrame_slotWords (.refl _ s) _ _ _

/-- The next fragment moves its own port on. -/
theorem corrFrame_apart {j rate : Nat} (h : j ≠ k) {x : TxFrame × State} (e : corrFrame j rate s = some x) : Apart k s x.2 := by
  unfold corrFrame at e
  split at e
  · cases e
  · cases e
    exact (Apart.modPort h _ s).trans
      (.of_work (corrPrune_fol rfl (.refl _ _)) (.of_regs rfl rfl) (fun i => ⟨rfl, rfl⟩) k)

theorem createJob_apart (pos : Nat × Nat) (o : Nat) (d : Option Nat) (k : Nat) (s : State) : Apart k s (createJob 9 pos o d s) :=
  .of_work (createJob_fol rfl rfl (.refl _ s)) (createJob_slotWords (.refl _ s) pos o d)
    ((Served.refl s).createJob 9 pos o d).service k

theorem emit_apart (o : Output) (k : Nat) (s : State) : Apart k s (emit o s) :=
  ⟨rfl, rfl, rfl, rfl, rfl, rfl, rfl, rfl, fun _ => ⟨rfl, rfl⟩, updOut_words (.refl _ s)⟩

theorem chosen_apart {j : Nat} (h : j ≠ k) (sf slot rate : Nat) (f : TxFrame) (since : Option Nat) (s : State) :
    Apart k s (chosen j sf slot rate f since s) :=
  ((Apart.modPort h _ s).trans (createJob_apart _ _ _ k _)).trans (emit_apart _ k _)

theorem stopTaken_apart {j : Nat} (h : j ≠ k) (s : State) : Apart k s (stopTaken s j) := Apart.stopReqs h _ s

/-- The turn of one port at a cut-off leaves what another decides by. -/
theorem portCutoff_apart {j : Nat} (h : j ≠ k) (sf slot : Nat) (s : State) : Apart k s (portCutoff sf slot j s) := by
  have emptied := Apart.modPort h (fun p => { p with tx := none }) s
  have chose {u : State} (a : Apart k s u) (slot rate : Nat) (f : TxFrame) (since : Option Nat) :
      Apart k s (chosen j sf slot rate f since u) := a.trans (chosen_apart h sf slot rate f since u)
  have taken := emptied.trans (stopTaken_apart h _)
  unfold portCutoff
  refine .ite (.ite emptied (emptied.trans (Apart.stopReqs h _ _))) (.ite (.ite (chose (.ite taken emptied) _ _ _ _) emptied)
    (.ite (chose taken _ _ _ _) (.ite ?_ (.ite ?_ emptied))))
  · split
    · exact chose (emptied.trans (corrFrame_apart h ‹_›)) _ _ _ _
    · exact emptied
  · split
    · exact chose (emptied.trans (downFrame_apart ‹_›)) _ _ _ _
    · exact emptied

end Frames

/-! A port's own turn at a cut-off (R195, R254, R259). -/

section Own

variable {s : State} {k sf slot : Nat}

theorem chosen_work (k sf slot rate : Nat) (f : TxFrame) (since : Option Nat) (s : State) :
    (chosen k sf slot rate f since s).mac =
      (modPort k (fun p => { p with tx := some ⟨sf, slot, rate, f, since, false⟩ }) s).mac ∧
    (chosen k sf slot rate f since s).safe = s.safe :=
  have work := createJob_fol (kc := { regs := true, sched := true }) (cls := 9) (pos := (0, 0)) (object := k)
    (deadline := some (slotStart sf slot / 1000)) rfl rfl
    (.refl _ (modPort k (fun p => { p with tx := some ⟨sf, slot, rate, f, since, false⟩ }) s))
  ⟨work.mac rfl, work.safe rfl⟩

theorem port_chosen (fit : Fitted s k) (sf slot rate : Nat) (f : TxFrame) (since : Option Nat) :
    (port (chosen k sf slot rate f since s) k).tx = some ⟨sf, slot, rate, f, since, false⟩ := by
  rw [port_congr (chosen_work k sf slot rate f since s).1, port_modPort_self fit]

theorem stopReq_stopTaken (s : State) (k : Nat) : (stopReq (stopTaken s k) k).want = false := by
  rw [stopReq, stopTaken, updSafe_safe, kget_kmod, if_pos rfl]

theorem maySend_up (may : maySend s k sf slot = true) : (port s k).st = .up := by
  simp only [maySend, Bool.and_eq_true, beq_iff_eq] at may
  obtain ⟨⟨⟨⟨⟨up, -⟩, -⟩, -⟩, -⟩, -⟩ := may
  exact up

/-- A port that is not UP holds no frame and stays as it is. -/
theorem portCutoff_idle (down : (port s k).st ≠ .up) (sf slot : Nat) :
    port (portCutoff sf slot k s) k = { port s k with tx := none } := by
  have mute : (!maySend s k sf slot) = true := by
    rw [Bool.not_eq_true']
    exact Bool.eq_false_iff.mpr fun may => down (maySend_up may)
  have quiet : ¬ ((port s k).st == .up && onDuty s) = true := by simp [down]
  rw [portCutoff, if_pos mute, if_neg quiet]
  exact port_modPort_of_zero rfl

/-- The beacon, once the journal has begun before the superframe (R266). -/
theorem portCutoff_beacon (may : maySend s k sf 0 = true) {f : Nat} (first : s.mac.first = some f) (begun : f < sf) :
    ∃ y, (port (portCutoff sf 0 k s) k).tx = some y ∧ y.sf = sf ∧ y.slot = 0 ∧ y.rate = (airPlan s k sf).1.brate ∧
      y.frame = beaconFrame s k sf ∧ y.loaded = false := by
  have fit : Fitted s k := fitted_of_st (by simp [maySend_up may])
  let s0 := modPort k (fun p => { p with tx := none }) s
  have whole : ∃ u since, Fitted u k ∧
      portCutoff sf 0 k s = chosen k sf 0 (airPlan s k sf).1.brate (beaconFrame s k sf) since u := by
    refine ⟨if (stopReq s k).want || decide (0 < (stopReq s k).repeats) then stopTaken s0 k else s0,
      if (stopReq s k).want then some (stopReq s k).since else none, ?_, ?_⟩
    · split
      · exact fitted_modPort.mpr fit
      · exact fitted_modPort.mpr fit
    · rw [portCutoff, may, first]
      exact if_pos (decide_eq_true begun)
  obtain ⟨u, since, fitted, chose⟩ := whole
  exact ⟨_, by rw [chose, port_chosen fitted], rfl, rfl, rfl, rfl, rfl⟩

/-- A stop frame in any other slot (R195). -/
theorem portCutoff_stop (later : slot ≠ 0) (may : maySend s k sf slot = true) (want : (stopReq s k).want = true) :
    (∃ y, (port (portCutoff sf slot k s) k).tx = some y ∧ y.sf = sf ∧ y.slot = slot ∧ y.rate = (airPlan s k sf).1.brate ∧
      y.frame = stopFrame s ∧ y.stopAt = some (stopReq s k).since) ∧ (stopReq (portCutoff sf slot k s) k).want = false := by
  have fit : Fitted s k := fitted_of_st (by simp [maySend_up may])
  have whole : portCutoff sf slot k s = chosen k sf slot (airPlan s k sf).1.brate (stopFrame s) (some (stopReq s k).since)
      (stopTaken (modPort k (fun p => { p with tx := none }) s) k) := by
    rw [portCutoff, may, want]
    exact if_neg later
  have fitted : Fitted (stopTaken (modPort k (fun p => { p with tx := none }) s) k) k := fitted_modPort.mpr fit
  refine ⟨⟨_, by rw [whole, port_chosen fitted], rfl, rfl, rfl, rfl, rfl⟩, ?_⟩
  rw [whole, stopReq, (chosen_work _ _ _ _ _ _ _).2]
  exact stopReq_stopTaken _ k

end Own

/-- The ports' turns at a cut-off. -/
def cutoffTurns (sf slot : Nat) (s : State) : State :=
  (List.range (portCount s.part)).foldl (fun t k => portCutoff sf slot k t) (advTo (slotStart sf slot - 100000) s)

theorem execSlotCutoff_eq {slot : Nat} (h : slot < 40) (sf : Nat) (s : State) :
    exec (.slotCutoff sf slot) s = .next (cutoffTurns sf slot s) := if_pos h

/-- Each port of the part has its turn, and what the others do leaves it what it decides by before and what it has chosen after. -/
theorem cutoffTurns_turn (sf slot : Nat) {s : State} {k : Nat} (hk : k < portCount s.part) :
    ∃ u, Apart k s u ∧ Apart k (portCutoff sf slot k u) (cutoffTurns sf slot s) := by
  obtain ⟨u, before, after⟩ := foldl_turn (F := fun t k => portCutoff sf slot k t) (R := Apart k) (Apart.refl k) Apart.trans
    (fun t j hj => portCutoff_apart hj sf slot t) List.nodup_range (List.mem_range.mpr hk) (advTo (slotStart sf slot - 100000) s)
  exact ⟨u, (Apart.advTo _ k s).trans before, after⟩

theorem cutoffTurns_ns (sf slot : Nat) (s : State) :
    (cutoffTurns sf slot s).time.ns = max s.time.ns (slotStart sf slot - 100000) := by
  have turns : Follows { Touch.all with time := false } (advTo (slotStart sf slot - 100000) s) (cutoffTurns sf slot s) :=
    foldl_fol (fun t k h => portCutoff_fol rfl rfl rfl rfl rfl rfl h) (.refl _ _)
  rw [turns.time rfl, advTo_ns]

/-! The start of a slot (R253, R254, R266). -/

/-- A port whose frame has gone out in a slot. -/
def Port.fired (x : TxSlot) (p : Port) : Port := { p with tx := none, sent := some (x.sf, x.slot) }

section Start

variable {s : State} {k j sf slot : Nat}

theorem finishJob_mac (c o st : Nat) (s : State) : (finishJob c o st s).mac = s.mac :=
  (finishJob_fol (kc := { regs := true, sched := true, evr := true }) rfl rfl rfl (.refl _ s)).mac rfl

/-- A trigger empties its port and gives the frame to the outside. -/
theorem fire_work {x : TxSlot} (held : (port s k).tx = some x) :
    (fire k s).mac = (modPort k (Port.fired x) s).mac ∧ (fire k s).out = s.out ++ [.tx k x.sf x.slot x.rate x.frame] := by
  let s1 := emit (.tx k x.sf x.slot x.rate x.frame) (modPort k (Port.fired x) s)
  let s2 := bump (portCnt k 0) (s1.updPair fun p => { p with lastSent := max p.lastSent x.sf })
  have mac : (finishJob 9 k stOk s2).mac = (modPort k (Port.fired x) s).mac :=
    (finishJob_mac 9 k stOk s2).trans (bump_mac _ _)
  have out : (finishJob 9 k stOk s2).out = s.out ++ [.tx k x.sf x.slot x.rate x.frame] :=
    (((Served.refl _).bump _).finishJob 9 k stOk).out
  have lat (v : Nat) : (maxF Addr.SAFE_LAT 15 0 v (finishJob 9 k stOk s2)).mac = (finishJob 9 k stOk s2).mac :=
    (maxF_fol (kc := { regs := true }) rfl (.refl _ _)).mac rfl
  rw [fire, held]
  dsimp only
  split
  · exact ⟨(lat _).trans mac, ((Served.refl _).maxF _ _ _ _).out.trans out⟩
  · exact ⟨mac, out⟩

/-- A frame that is not sent leaves its port. -/
theorem skip_mac (held : (port s k).tx.isSome = true) : (skip k s).mac = (modPort k (fun p => { p with tx := none }) s).mac := by
  rw [skip, if_pos held]
  exact (finishJob_mac _ _ _ _).trans (bump_mac _ _)

theorem skip_none (empty : (port s k).tx = none) : skip k s = s := by rw [skip, empty]; rfl

/-- What a port does with its frame at the start of a slot: it fires it or lets it go. -/
def txTurn (sf slot k : Nat) (s : State) : State := if fires s k sf slot then fire k s else skip k s

theorem beaconMissed_mac (k sf : Nat) (s : State) : (beaconMissed k sf s).mac = s.mac :=
  (beaconMissed_fol (kc := { jr := true, regs := true, gmp := true, safe := true, pair := true, evr := true })
    rfl rfl rfl rfl rfl rfl (.refl _ s)).mac rfl

/-- A missed beacon and the STATUS asked for leave the radio ports. -/
theorem portSlot_mac (sf slot k : Nat) (s : State) : (portSlot sf slot k s).mac = (txTurn sf slot k s).mac := by
  have asked (t : State) : (if (port t k).st = .up then emit (.head k 0x02 []) t else t).mac = t.mac := by split <;> rfl
  have missed : (if fires s k sf slot then txTurn sf slot k s else beaconMissed k sf (txTurn sf slot k s)).mac =
      (txTurn sf slot k s).mac := by
    split
    · rfl
    · exact beaconMissed_mac k sf _
  unfold portSlot
  dsimp only
  split
  · rfl
  · exact (asked _).trans missed

theorem portSlot_later (h : slot ≠ 0) (sf k : Nat) (s : State) : portSlot sf slot k s = txTurn sf slot k s := if_pos h

theorem txTurn_none (empty : (port s k).tx = none) (sf slot : Nat) : txTurn sf slot k s = s := by
  rw [txTurn, if_neg, skip_none empty]
  rw [fires, empty]
  exact Bool.false_ne_true

/-- A port with a frame holds it no more after its turn. -/
theorem txTurn_held {x : TxSlot} (held : (port s k).tx = some x) (sf slot : Nat) :
    ∃ f, Fitted s k ∧ (∀ p, (f p).tx = none) ∧ (txTurn sf slot k s).mac = (modPort k f s).mac := by
  have fit : Fitted s k := by_contra fun out => by rw [port_of_not_fitted out] at held; cases held
  unfold txTurn
  split
  · exact ⟨Port.fired x, fit, fun _ => rfl, (fire_work held).1⟩
  · exact ⟨fun p => { p with tx := none }, fit, fun _ => rfl, skip_mac (by rw [held]; rfl)⟩

theorem txTurn_empties (sf slot k : Nat) (s : State) : (port (txTurn sf slot k s) k).tx = none := by
  rcases held : (port s k).tx with _ | x
  · rw [txTurn_none held, held]
  · obtain ⟨f, fit, empties, mac⟩ := txTurn_held held sf slot
    rw [port_congr mac, port_modPort_self fit, empties]

/-- The turn of one port leaves the others. -/
theorem txTurn_others (h : j ≠ k) (sf slot : Nat) (s : State) : port (txTurn sf slot j s) k = port s k := by
  rcases held : (port s j).tx with _ | x
  · rw [txTurn_none held]
  · obtain ⟨f, -, -, mac⟩ := txTurn_held held sf slot
    rw [port_congr mac, port_modPort_other h.symm]

/-- A port with a frame that is loaded for the slot and may be sent fires it. -/
theorem txTurn_fires {x : TxSlot} (held : (port s k).tx = some x) (hsf : x.sf = sf) (hslot : x.slot = slot) (loaded : x.loaded = true)
    (may : maySend s k sf slot = true) : txTurn sf slot k s = fire k s := by
  refine if_pos ?_
  rw [fires, held]
  simp [hsf, hslot, loaded, may]

end Start

/-- The ports' turns at the start of a slot. -/
def startTurns (sf slot : Nat) (s : State) : State :=
  (List.range (portCount s.part)).foldl (fun t k => portSlot sf slot k t) (advTo (slotStart sf slot + 20000) s)

theorem execSlotStart_eq {slot : Nat} (h : slot < 40) (sf : Nat) (s : State) :
    exec (.slotStart sf slot) s = .next (startTurns sf slot s) := if_pos h

theorem startTurns_ns (sf slot : Nat) (s : State) : (startTurns sf slot s).time.ns = max s.time.ns (slotStart sf slot + 20000) := by
  have turns : Follows { Touch.all with time := false } (advTo (slotStart sf slot + 20000) s) (startTurns sf slot s) :=
    foldl_fol (fun t k h => portSlot_fol rfl rfl rfl rfl rfl rfl rfl rfl h) (.refl _ _)
  rw [turns.time rfl, advTo_ns]

section Start

variable {s : State} {k : Nat}

/-- No port holds a frame once each has had its turn. -/
theorem startTurns_empties (sf slot : Nat) (hk : k < portCount s.part) : (port (startTurns sf slot s) k).tx = none := by
  obtain ⟨u, -, after⟩ := foldl_turn (F := fun t k => portSlot sf slot k t) (R := fun t u => port u k = port t k) (fun _ => rfl)
    (fun a b => b.trans a) (fun t j hj => (port_congr (portSlot_mac sf slot j t) k).trans (txTurn_others hj sf slot t))
    List.nodup_range (List.mem_range.mpr hk) (advTo (slotStart sf slot + 20000) s)
  rw [startTurns, after, port_congr (portSlot_mac sf slot k u), txTurn_empties]

/-- Where one port alone holds a frame, the start of a later slot is its turn. -/
theorem startTurns_alone {sf slot : Nat} (later : slot ≠ 0) (hk : k < portCount s.part)
    (alone : ∀ j, j ≠ k → (port s j).tx = none) :
    startTurns sf slot s = txTurn sf slot k (advTo (slotStart sf slot + 20000) s) := by
  have turn (t : State) (j : Nat) : portSlot sf slot j t = txTurn sf slot j t := portSlot_later later sf j t
  have started : ∀ j, j ≠ k → (port (advTo (slotStart sf slot + 20000) s) j).tx = none := fun j hj => by
    rw [port_congr (advTo_mac _ s), alone j hj]
  obtain ⟨u, before, after⟩ := foldl_turn (F := fun t k => portSlot sf slot k t)
    (R := fun t u => (∀ j, j ≠ k → (port t j).tx = none) → u = t) (fun _ _ => rfl)
    (fun a b empty => by rw [b (by rwa [a empty]), a empty])
    (fun t j hj empty => by rw [turn, txTurn_none (empty j hj)])
    List.nodup_range (List.mem_range.mpr hk) (advTo (slotStart sf slot + 20000) s)
  rw [startTurns, after, turn, before started]
  intro j hj
  rw [turn, txTurn_others hj.symm, before started, started j hj]

/-- The one frame that is loaded for a slot and may be sent goes out (R254). -/
theorem startTurns_sends {sf slot : Nat} {x : TxSlot} (later : slot ≠ 0) (hk : k < portCount s.part)
    (alone : ∀ j, j ≠ k → (port s j).tx = none) (held : (port s k).tx = some x) (hsf : x.sf = sf) (hslot : x.slot = slot)
    (loaded : x.loaded = true) (may : maySend s k sf slot = true) :
    (startTurns sf slot s).out = s.out ++ [.tx k sf slot x.rate x.frame] ∧
      (port (startTurns sf slot s) k).sent = some (sf, slot) := by
  have begun := Apart.advTo (slotStart sf slot + 20000) k s
  have held' : (port (advTo (slotStart sf slot + 20000) s) k).tx = some x := by rw [begun.port, held]
  have fit : Fitted (advTo (slotStart sf slot + 20000) s) k :=
    (fitted_congr (advTo_mac _ s)).mpr (fitted_of_st (by simp [maySend_up may]))
  have out : (advTo (slotStart sf slot + 20000) s).out = s.out := by
    unfold advTo
    split <;> rfl
  obtain ⟨mac, given⟩ := fire_work held'
  rw [startTurns_alone later hk alone, txTurn_fires held' hsf hslot loaded ((begun.maySend sf slot).trans may)]
  refine ⟨?_, ?_⟩
  · rw [given, out, hsf, hslot]
  · rw [port_congr mac, port_modPort_self fit, Port.fired, hsf, hslot]

end Start

/-- Settles O33: the turns of the other ports leave what a port decides by before its own turn and what it holds after it, so each
clause is the port's own turn. -/
theorem slotsAreCutOffAndFired : Obligations.SlotsAreCutOffAndFired := by
  refine ⟨fun s sf slot h => ⟨_, execSlotCutoff_eq h sf s, cutoffTurns_ns sf slot s, fun k hk => ?_⟩, fun s sf slot h =>
    ⟨_, execSlotStart_eq h sf s, startTurns_ns sf slot s, fun k hk => startTurns_empties sf slot hk,
      fun k x later hk alone held hsf hslot loaded may => startTurns_sends later hk alone held hsf hslot loaded may⟩⟩
  obtain ⟨u, before, after⟩ := cutoffTurns_turn sf slot hk
  refine ⟨fun down => ?_, ?_, fun later may want => ?_⟩
  · rw [after.port, portCutoff_idle (by rwa [before.port]), before.port]
    exact ⟨rfl, rfl⟩
  · rintro f rfl may first begun
    obtain ⟨y, chosen, hsf, hslot, rate, frame, loaded⟩ := portCutoff_beacon ((before.maySend sf 0).trans may)
      (before.first.trans first) begun
    exact ⟨y, by rw [after.port, chosen], hsf, hslot, by rw [rate, before.airPlan], by rw [frame, before.beaconFrame], loaded⟩
  · obtain ⟨⟨y, chosen, hsf, hslot, rate, frame, since⟩, done⟩ := portCutoff_stop later ((before.maySend sf slot).trans may)
      (by rwa [before.stop])
    exact ⟨y, by rw [after.port, chosen], hsf, hslot, by rw [rate, before.airPlan], by rw [frame, before.stopFrame],
      by rw [since, before.stop], by rw [after.stop, done]⟩

end Sys2Proof.Machine

/-!
Addresses (10_radio_frames R290, R292, R297): what a node's record reads after it is changed, which work touches no more of it than
its items, and what holding and freeing an address come to.
-/

namespace Sys2Proof.Machine

open Sys2Proof

/-! Records of nodes. -/

/-- The record of a node is read from the membership part alone. -/
theorem node_congr {s t : State} (h : t.memb = s.memb) (a : Nat) : node t a = node s a := by
  rw [node, node, h]

/-- A node's record after it is changed; the others stay. -/
theorem node_modNode (a : Nat) (f : Node → Node) (s : State) (b : Nat) :
    node (modNode a f s) b = if b = a then f (node s a) else node s b :=
  kget_kmod

@[simp] theorem node_modNode_self (a : Nat) (f : Node → Node) (s : State) : node (modNode a f s) a = f (node s a) :=
  (node_modNode a f s a).trans (if_pos rfl)

/-- What a node's record holds beside the items that wait for it. -/
def Node.bare (n : Node) : Node := { n with items := Items.zero }

/-- Of the nodes' records no more than items have changed. -/
def ItemsOnly (s t : State) : Prop := ∀ a, (node t a).bare = (node s a).bare

namespace ItemsOnly

variable {s t u : State}

theorem refl (s : State) : ItemsOnly s s := fun _ => rfl

theorem trans (h : ItemsOnly s t) (k : ItemsOnly t u) : ItemsOnly s u := fun a => (k a).trans (h a)

theorem of_memb (h : t.memb = s.memb) : ItemsOnly s t := fun a => congrArg Node.bare (node_congr h a)

theorem of_follows {c : Touch} (f : Follows c s t) (hc : c.memb = false) : ItemsOnly s t := of_memb (f.memb hc)

/-- A change of a record that keeps all but its items. -/
theorem modNode (a : Nat) (f : Node → Node) (s : State) (hf : ∀ n, (f n).bare = n.bare := by exact fun _ => rfl) :
    ItemsOnly s (modNode a f s) := by
  intro b
  rw [node_modNode]
  split
  · subst b
    exact hf _
  · rfl

/-- The state of an address is none of its items. -/
theorem st (h : ItemsOnly s t) (a : Nat) : (node t a).st = (node s a).st := (congrArg Node.st (h a) :)

theorem heldSf (h : ItemsOnly s t) (a : Nat) : (node t a).heldSf = (node s a).heldSf := (congrArg Node.heldSf (h a) :)

theorem queueAck (a typ sub : Nat) (body : List Nat) (s : State) : ItemsOnly s (queueAck a typ sub body s) :=
  modNode a _ s

theorem ceaseCmd (a : Nat) (steer : Bool) (s : State) : ItemsOnly s (ceaseCmd a steer s) :=
  modNode a _ s

theorem modLoop (l : Nat) (f : Loop → Loop) (s : State) : ItemsOnly s (modLoop l f s) :=
  of_follows (modLoop_fol (kc := { loop := true }) rfl (.refl _ s)) rfl

/-- A loop that returns to READY ceases its commands (08_control_loops R234, R237). -/
theorem loopReady (l : Nat) (s : State) : ItemsOnly s (loopReady l s) := by
  unfold Machine.loopReady
  split
  · exact refl s
  · refine trans ?_ (modLoop _ _ _)
    split
    · exact refl s
    · exact ceaseCmd _ _ s

theorem loopsFreed (m : Nat) (s : State) : ItemsOnly s (loopsFreed m s) :=
  List.foldlRecOn (motive := ItemsOnly s) _ _ (refl s) fun t h l _ =>
    h.trans ((loopReady l t).trans (modLoop l _ _))

end ItemsOnly

/-! Withdrawals by address (R292). -/

theorem withdraw_only (pos : Nat × Nat) (m cause : Nat) (s : State) :
    Follows { regs := true, gmp := true, safe := true, evr := true } s (withdraw pos m cause s) :=
  withdraw_fol rfl rfl rfl rfl (.refl _ s)

/-- The permit of an address withdrawn, where it is a machine's. -/
def withdrawAt (pos : Nat × Nat) (a cause : Nat) (s : State) : State :=
  if isMachine s.part a then withdraw pos a cause s else s

theorem withdrawAt_only (pos : Nat × Nat) (a cause : Nat) (s : State) :
    Follows { regs := true, gmp := true, safe := true, evr := true } s (withdrawAt pos a cause s) := by
  unfold withdrawAt
  split
  · exact withdraw_only pos a cause s
  · exact .refl _ s

theorem withdrawAt_clears {a : Nat} {s : State} (hm : isMachine s.part a = true) (pos : Nat × Nat) (cause : Nat) :
    (withdrawAt pos a cause s).safe.permit.testBit (machineBit a) = false := by
  rw [withdrawAt, if_pos hm]
  exact (withdraw_withdraws pos a cause s).live

/-! Counters and holds. -/

theorem macCnt_only (i : Nat) (s : State) : Follows { regs := true } s (macCnt i s) := macCnt_fol rfl (.refl _ s)

theorem holdAddr_only (a sf : Nat) (s : State) : Follows { memb := true } s (holdAddr a sf s) := holdAddr_fol rfl (.refl _ s)

/-- An address that is held, since a superframe (R292). -/
theorem node_holdAddr_self (a sf : Nat) (s : State) : node (holdAddr a sf s) a = { node s a with st := .held, heldSf := sf } :=
  node_modNode_self a _ s

/-- What is counted leaves the records of the nodes. -/
theorem node_macCnt (i : Nat) (s : State) (a : Nat) : node (macCnt i s) a = node s a :=
  node_congr ((macCnt_only i s).memb rfl) a

/-- An address that is held and counted (R292). -/
theorem node_macCnt_holdAddr (i a sf : Nat) (s : State) :
    node (macCnt i (holdAddr a sf s)) a = { node s a with st := .held, heldSf := sf } := by
  rw [node_macCnt, node_holdAddr_self]

/-! The checks of an SF_MARK (R292, R297). -/

/-- An awake address that has been silent for its time is held. -/
theorem silenceCheck_holds {a : Nat} {s : State} (assoc : (node s a).st = .assoc) (awake : (node s a).sleepy = false)
    (silent : (node s a).lastSf + cfg s Addr.MAC_MEMB_CFG0 11 4 * 10 ≤ s.jr.sf) :
    silenceCheck a s = macCnt 7 (holdAddr a s.jr.sf s) := by
  simp [silenceCheck, assoc, awake, silent]

/-- A wake that brought no frame is counted (R297). -/
def wakeMissed (a sf : Nat) (s : State) : State :=
  macCnt 12 (modNode a (fun n => { n with wakeMiss := n.wakeMiss + 1, frameSf := sf }) s)

theorem node_wakeMissed_self (a sf : Nat) (s : State) :
    node (wakeMissed a sf s) a = { node s a with wakeMiss := (node s a).wakeMiss + 1, frameSf := sf } := by
  rw [wakeMissed, node_macCnt, node_modNode_self]

/-- A sleeper that missed its wake; the eighth in a row holds it. -/
theorem wakeCheck_misses {a : Nat} {s : State} (assoc : (node s a).st = .assoc) (sleepy : (node s a).sleepy = true)
    (period : (node s a).period ≠ 0) (wake : (s.jr.sf - 1) % (node s a).period = (node s a).phase)
    (missed : (node s a).frameSf < s.jr.sf - 1) :
    wakeCheck a s = if 8 ≤ (node s a).wakeMiss + 1 then macCnt 7 (holdAddr a s.jr.sf (wakeMissed a (s.jr.sf - 1) s))
      else wakeMissed a (s.jr.sf - 1) s := by
  rw [wakeCheck]
  exact if_pos ⟨assoc, sleepy, period, wake, missed⟩

/-- The misses and the state of a sleeper that missed its wake. -/
theorem node_wakeCheck {a : Nat} {s : State} (assoc : (node s a).st = .assoc) (sleepy : (node s a).sleepy = true)
    (period : (node s a).period ≠ 0) (wake : (s.jr.sf - 1) % (node s a).period = (node s a).phase)
    (missed : (node s a).frameSf < s.jr.sf - 1) :
    (node (wakeCheck a s) a).wakeMiss = (node s a).wakeMiss + 1 ∧
      (node (wakeCheck a s) a).st = if 8 ≤ (node s a).wakeMiss + 1 then .held else .assoc := by
  rw [wakeCheck_misses assoc sleepy period wake missed]
  split
  · rw [node_macCnt_holdAddr, node_wakeMissed_self]
    exact ⟨rfl, rfl⟩
  · rw [node_wakeMissed_self]
    exact ⟨rfl, assoc⟩

/-- A held address whose hold has ended is freed. -/
theorem addrHoldCheck_frees {a : Nat} {s : State} (held : (node s a).st = .held)
    (ended : (node s a).heldSf + cfg s Addr.MAC_MEMB_CFG0 23 12 * 50 ≤ s.jr.sf) :
    addrHoldCheck a s = freeAddr (s.jr.sf, 0) a s :=
  if_pos ⟨held, ended⟩

/-! An address freed (R292). -/

/-- The record of an address that becomes FREE, with what is forgotten and counted. -/
def recordFreed (a : Nat) (s : State) : State :=
  macCnt 8 (nodeForget a
    (modNode a (fun n => { Node.zero with eui := (kfind s.memb.binds a).getD 0, items := itemsFreed n.items }) s))

theorem node_recordFreed_st (a : Nat) (s : State) : (node (recordFreed a s) a).st = .free := by
  rw [recordFreed, node_macCnt, node_congr ((nodeForget_fol (kc := { lkp := true }) rfl (.refl _ _)).memb rfl),
    node_modNode_self]
  rfl

theorem freeAddr_eq (pos : Nat × Nat) (a : Nat) (s : State) :
    freeAddr pos a s = if isMachine s.part a then loopsFreed a (roverFreed a (withdraw pos a 14 (recordFreed a s)))
      else recordFreed a s := rfl

/-- A rover whose address is freed has no slot (04_fix_solution R115). -/
theorem rover_roverFreed_self (m : Nat) (s : State) : rover (roverFreed m s) m = Rover.zero :=
  rover_modRover m (fun _ => Rover.zero) s

/-- The freeing of a machine's loops touches only them and items (08_control_loops R234). -/
theorem loopsFreed_only (m : Nat) (s : State) : Follows { memb := true, loop := true } s (loopsFreed m s) :=
  loopsFreed_fol rfl rfl (.refl _ s)

theorem roverFreed_only (m : Nat) (s : State) : Follows { fix := true } s (roverFreed m s) :=
  roverFreed_fol rfl (.refl _ s)

/-- A freed address is FREE; a machine's has no permit and no rover. -/
theorem freeAddr_frees (pos : Nat × Nat) (a : Nat) (s : State) :
    (node (freeAddr pos a s) a).st = .free ∧
      (isMachine s.part a = true →
        (freeAddr pos a s).safe.permit.testBit (machineBit a) = false ∧ (rover (freeAddr pos a s) a).lc = .empty) := by
  rw [freeAddr_eq]
  split
  · have w := withdraw_withdraws pos a 14 (recordFreed a s)
    have withdrawn := withdraw_only pos a 14 (recordFreed a s)
    generalize withdraw pos a 14 (recordFreed a s) = u at w withdrawn ⊢
    have rovers := roverFreed_only a u
    have loops := loopsFreed_only a (roverFreed a u)
    refine ⟨?_, fun _ => ⟨?_, ?_⟩⟩
    · rw [(ItemsOnly.loopsFreed a _).st, node_congr (rovers.memb rfl), node_congr (withdrawn.memb rfl), node_recordFreed_st]
    · rw [loops.safe rfl, rovers.safe rfl, w.live]
    · rw [rover, loops.fix rfl, ← rover, rover_roverFreed_self]
      rfl
  · rename_i other
    exact ⟨node_recordFreed_st a s, fun hm => absurd hm other⟩

/-! MAC_NODE_CTRL (R292, R302). -/

/-- DISASSOC withdraws the permit of an associated address, holds it and queues the DISASSOC item. -/
theorem nodeCtrlWord_disassoc {s : State} (assoc : (node s (selVal s Addr.MAC_NODE_SEL % 65536)).st = .assoc) :
    nodeCtrlWord 1#32 s =
      (queueAck (selVal s Addr.MAC_NODE_SEL % 65536) 7 0 [1, 0]
        (holdAddr (selVal s Addr.MAC_NODE_SEL % 65536) s.jr.lastSf
          (withdrawAt (lastPos s) (selVal s Addr.MAC_NODE_SEL % 65536) 4 s)), stOk) := by
  have disassoc : bit 1#32 0 = true := rfl
  have free : bit 1#32 1 = false := rfl
  simp [nodeCtrlWord, disassoc, free, assoc, withdrawAt, lastPos]

/-- FREE_ADDR frees an address that is held. -/
theorem nodeCtrlWord_frees {s : State} (held : (node s (selVal s Addr.MAC_NODE_SEL % 65536)).st = .held) :
    nodeCtrlWord 2#32 s = (freeAddr (lastPos s) (selVal s Addr.MAC_NODE_SEL % 65536) s, stOk) := by
  have disassoc : bit 2#32 0 = false := rfl
  have free : bit 2#32 1 = true := rfl
  simp [nodeCtrlWord, disassoc, free, held]

/-- FREE_ADDR is refused while the address is associated. -/
theorem nodeCtrlWord_refuses {s : State} (assoc : (node s (selVal s Addr.MAC_NODE_SEL % 65536)).st = .assoc) :
    nodeCtrlWord 2#32 s = (s, stState) := by
  have disassoc : bit 2#32 0 = false := rfl
  have free : bit 2#32 1 = true := rfl
  simp [nodeCtrlWord, disassoc, free, assoc]

section NodeCtrl

variable {h : GmpHdr} {x : Session} {b : GmpBody} {s u : State}

/-- The entry of a request leaves what MAC_NODE_SEL selects. -/
theorem Entered.nodeSel (e : Entered h x b s u) : selVal u Addr.MAC_NODE_SEL = selVal s Addr.MAC_NODE_SEL :=
  congrArg BitVec.toNat (e.words.words _ (by decide))

/-- The entry of a request leaves the nodes. -/
theorem Entered.node (e : Entered h x b s u) (a : Nat) : node u a = node s a := node_congr (e.fol.memb rfl) a

/-- A write of MAC_NODE_CTRL is decided on the state with its entry, and nothing but the answer follows it. -/
theorem nodeCtrl_answers (m : GmpMay h x 1 10 s) (v : Word) :
    ∃ u, Entered h x (.write [(Addr.MAC_NODE_CTRL, v)]) s u ∧
      Answered h 0x02 (nodeCtrlWord v u).2 (indexBody (if isErr (nodeCtrlWord v u).2 then 0 else 0xFFFF)) s
        (gmpWord h Addr.MAC_NODE_CTRL v 1 (nodeCtrlWord v) s) ∧
      Follows { gmp := true, sess := true } (nodeCtrlWord v u).1 (gmpWord h Addr.MAC_NODE_CTRL v 1 (nodeCtrlWord v) s) :=
  gmpWord_answers m Addr.MAC_NODE_CTRL v
    (c := { regs := true, gmp := true, safe := true, fix := true, memb := true, loop := true, evr := true, lkp := true }) rfl rfl
    (fun u => nodeCtrlWord_fol rfl rfl rfl rfl rfl rfl rfl rfl (.refl _ u))

/-- DISASSOC of an associated address holds it and withdraws its permit (R292). -/
theorem execDisassoc_holds (m : GmpMay h x 1 10 s) {a : Nat} (sel : a = selVal s Addr.MAC_NODE_SEL % 65536)
    (assoc : (node s a).st = .assoc) :
    ∃ t, exec (.disassoc h) s = .next t ∧ Answered h 0x02 stOk (indexBody 0xFFFF) s t ∧ (node t a).st = .held ∧
      (node t a).heldSf = s.jr.sf ∧ (isMachine s.part a = true → t.safe.permit.testBit (machineBit a) = false) := by
  obtain ⟨u, e, answered, rest⟩ := nodeCtrl_answers m 1#32
  rw [← e.nodeSel] at sel
  rw [nodeCtrlWord_disassoc (by rwa [← sel, e.node]), ← sel] at answered rest
  have items := ItemsOnly.queueAck a 7 0 [1, 0] (holdAddr a u.jr.lastSf (withdrawAt (lastPos u) a 4 u))
  have queued := queueAck_fol (a := a) (typ := 7) (sub := 0) (body := [1, 0]) rfl
    (holdAddr_only a u.jr.lastSf (withdrawAt (lastPos u) a 4 u))
  refine ⟨_, rfl, answered, ?_, ?_, fun hm => ?_⟩
  · rw [node_congr (rest.memb rfl), items.st, node_holdAddr_self]
  · rw [node_congr (rest.memb rfl), items.heldSf, node_holdAddr_self]
    exact (JrnlS.spine_pos e.spine).2.1
  · rw [rest.safe rfl, queued.safe rfl, withdrawAt_clears (e.fol.part.symm ▸ hm)]

/-- FREE_ADDR of a held address frees it (R292). -/
theorem execFreeAddr_frees (m : GmpMay h x 1 10 s) {a : Nat} (sel : a = selVal s Addr.MAC_NODE_SEL % 65536)
    (held : (node s a).st = .held) :
    ∃ t, exec (.freeAddr h) s = .next t ∧ Answered h 0x02 stOk (indexBody 0xFFFF) s t ∧ (node t a).st = .free := by
  obtain ⟨u, e, answered, rest⟩ := nodeCtrl_answers m 2#32
  rw [← e.nodeSel] at sel
  rw [nodeCtrlWord_frees (by rwa [← sel, e.node]), ← sel] at answered rest
  exact ⟨_, rfl, answered, by rw [node_congr (rest.memb rfl), (freeAddr_frees _ a u).1]⟩

/-- FREE_ADDR of an associated address is answered ERR_STATE (R292). -/
theorem execFreeAddr_refuses (m : GmpMay h x 1 10 s) {a : Nat} (sel : a = selVal s Addr.MAC_NODE_SEL % 65536)
    (assoc : (node s a).st = .assoc) :
    ∃ t, exec (.freeAddr h) s = .next t ∧ Answered h 0x02 stState (indexBody 0) s t ∧ (node t a).st = .assoc := by
  obtain ⟨u, e, answered, rest⟩ := nodeCtrl_answers m 2#32
  rw [← e.nodeSel] at sel
  rw [nodeCtrlWord_refuses (by rwa [← sel, e.node])] at answered rest
  exact ⟨_, rfl, answered, by rw [node_congr (rest.memb rfl), e.node, assoc]⟩

end NodeCtrl

/-- Settles O35: each check of an SF_MARK comes to one change of the address's record, a write of MAC_NODE_CTRL is decided on the
state with its entry, and what else a freed machine loses leaves its record but for items. -/
theorem addressesAreHeldAndFreed : Obligations.AddressesAreHeldAndFreed := by
  refine fun s a => ⟨fun assoc awake silent => ⟨_, rfl, ?_⟩,
    fun assoc sleepy period wake missed => ⟨_, rfl, node_wakeCheck assoc sleepy period wake missed⟩,
    fun held ended => ⟨_, rfl, ?_⟩, fun h x m sel assoc => execDisassoc_holds m sel assoc,
    fun h x m sel held => execFreeAddr_frees m sel held, fun h x m sel assoc => execFreeAddr_refuses m sel assoc, _, rfl, ?_⟩
  · rw [silenceCheck_holds assoc awake silent, node_macCnt_holdAddr, (macCnt_only 7 _).safe rfl,
      (holdAddr_only a s.jr.sf s).safe rfl]
    exact ⟨rfl, rfl, rfl⟩
  · rw [addrHoldCheck_frees held ended]
    exact freeAddr_frees (s.jr.sf, 0) a s
  · rfl

end Sys2Proof.Machine

/-!
Frames of members (10_radio_frames R273, R274, R276, R277, R287, R288; 07_motion_safety R188 to R190): what a frame that passes its
checks comes to, what its entry and its header leave, and the effect of an uplink and of a pendant's stop.
-/

namespace Sys2Proof.Machine

open Sys2Proof

/-! A frame taken from the intake (R273). -/

/-- The state once a frame has left the intake. -/
def withIntake (rest : List Intake) (s : State) : State := s.updMac fun c => { c with intake := rest }

/-- A frame of the type of a command is taken from the intake. -/
theorem RxFrame.takeFrame_eq {k typ : Nat} {x : Intake} {rest : List Intake} {m : RxMsg} {s : State} (r : RxFrame k typ x rest m s)
    (f : Intake → RxMsg → State → State) : takeFrame k typ f s = f x m (withIntake rest s) := by
  simp [takeFrame, r.taken, r.frame, r.typ, withIntake]

/-- Checks 1 to 3 of R273 do not read the intake. -/
theorem headOk_withIntake (rest : List Intake) (s : State) (x : Intake) (m : RxMsg) :
    headOk (withIntake rest s) x m = headOk s x m := rfl

/-- A member's frame that is authentic and stands beyond the window passes checks 4 and 5 of R273. -/
theorem ccmAndWindow_accepts {m : RxMsg} {s : State} {l mp : Nat} (mic : m.micOk = true)
    (accepted : window (node s m.hdr.src) m.hdr.seq = .accepted l mp) : ccmAndWindow m s = (s, true) := by
  simp [ccmAndWindow, mic, accepted]

/-- An authentic join request passes checks 4 and 5 of R273: it has no window. -/
theorem ccmAndWindow_join {m : RxMsg} {s : State} (mic : m.micOk = true) (typ : m.hdr.typ = 6) :
    ccmAndWindow m s = (s, true) := by
  simp [ccmAndWindow, mic, typ]

/-- A frame that passes every check is entered. -/
theorem RxFrame.receive_enters {k typ : Nat} {x : Intake} {rest : List Intake} {m : RxMsg} {s : State} {b : RadioBody}
    (r : RxFrame k typ x rest m s) (admitted : ccmAndWindow m (withIntake rest s) = (withIntake rest s, true))
    (body : m.body = some b) :
    takeFrame k typ receive s = enterRx x.port x.arrival none m.hdr b (withIntake rest s) := by
  rw [r.takeFrame_eq, receive, headOk_withIntake, r.head]
  simp [admitted, body]

/-! The entry and what the header comes to (R274, R276, R277). -/

/-- The window of a member moved, and its newest frame noted. -/
def headerNoted (sf : Nat) (h : FrameHdr) (last map : Nat) (s : State) : State :=
  modNode h.src (fun n => { n with lastSf := sf, frameSf := max n.frameSf h.sf, wakeMiss := 0 }) (windowTake h.src last map s)

/-- What a member's accepted frame comes to before its body is looked at: the window, the newest frame, an acknowledgement owed and
the newest path. -/
def heardFrom (sf k : Nat) (via : Option Nat) (h : FrameHdr) (last map : Nat) (s : State) : State :=
  nodeLearn h.src k (via.getD addrNone)
    (if h.ackReq then owe h.src (headerNoted sf h last map s) else headerNoted sf h last map s)

/-- The entry of a member's accepted frame, and its header. -/
def rxEntered (k arrival : Nat) (via : Option Nat) (h : FrameHdr) (b : RadioBody) (last map : Nat) (s : State) : State :=
  heardFrom s.jr.sf k via h last map (jWrite h.src arrival (.radioRx k h b) s)

/-- The entry's effect is at the entry's position (02_journal R42). -/
theorem enterRx_eq (k arrival : Nat) (via : Option Nat) (h : FrameHdr) (b : RadioBody) (s : State) :
    enterRx k arrival via h b s =
      applyRx (s.jr.sf, s.jr.nextSeq) k arrival via h b (jWrite h.src arrival (.radioRx k h b) s) := by
  obtain ⟨-, lastSf, lastSeq⟩ := JrnlS.spine_pos (jWrite_spine h.src arrival (.radioRx k h b) s)
  rw [enterRx, lastPos, lastSf, lastSeq]

section Entry

variable {h : FrameHdr} {s : State} {last map : Nat} (k arrival : Nat) (via : Option Nat)

/-- An entry leaves the nodes. -/
theorem node_jWrite (src arr : Nat) (p : Payload) (s : State) (a : Nat) : node (jWrite src arr p s) a = node s a :=
  node_congr ((jWrite_only src arr p s).memb rfl) a

theorem enterRx_up (accepted : window (node s h.src) h.seq = .accepted last map) (u : UpBody) :
    enterRx k arrival via h (.up u) s =
      if isMachine s.part h.src then
        applyUp (s.jr.sf, s.jr.nextSeq) h.src arrival u (rxEntered k arrival via h (.up u) last map s)
      else rxEntered k arrival via h (.up u) last map s := by
  rw [enterRx_eq, applyRx]
  simp only [node_jWrite, accepted, (jWrite_only _ _ _ s).part]
  rfl

theorem enterRx_ack (accepted : window (node s h.src) h.seq = .accepted last map) (f : AckField) :
    enterRx k arrival via h (.ack f) s = takeAck h.src f (rxEntered k arrival via h (.ack f) last map s) := by
  rw [enterRx_eq, applyRx]
  simp only [node_jWrite, accepted]
  rfl

theorem enterRx_pend (accepted : window (node s h.src) h.seq = .accepted last map) {p : PendBody} (stop : p.event = 1) :
    enterRx k arrival via h (.pend p) s =
      pendantStop (s.jr.sf, s.jr.nextSeq) h.src (rxEntered k arrival via h (.pend p) last map s) := by
  rw [enterRx_eq, applyRx]
  simp only [node_jWrite, accepted, stop, if_true]
  rfl

/-- The header of a frame touches membership and the tables. -/
theorem heardFrom_only (sf : Nat) (h : FrameHdr) (last map : Nat) (s : State) :
    Follows { regs := true, memb := true, lkp := true } (headerNoted sf h last map s) (heardFrom sf k via h last map s) := by
  unfold heardFrom
  refine nodeLearn_fol rfl rfl ?_
  split
  · exact owe_fol rfl (.refl _ _)
  · exact .refl _ _

/-- The work of an entry and its header. -/
theorem rxEntered_only (h : FrameHdr) (b : RadioBody) (last map : Nat) (s : State) :
    Follows { jr := true, regs := true, gmp := true, pair := true, memb := true, lkp := true } s
      (rxEntered k arrival via h b last map s) :=
  have noted (u : State) : Follows { memb := true } u (headerNoted s.jr.sf h last map u) :=
    modNode_fol rfl (windowTake_fol rfl (.refl _ u))
  (((jWrite_only _ _ _ s).mono rfl).trans ((noted _).mono rfl)).trans ((heardFrom_only k via _ h last map _).mono rfl)

theorem enterRx_leave (accepted : window (node s h.src) h.seq = .accepted last map) (n : Nat) :
    enterRx k arrival via h (.leave n) s =
      holdAddr h.src s.jr.sf (withdrawAt (s.jr.sf, s.jr.nextSeq) h.src 14
        (macCnt 6 (rxEntered k arrival via h (.leave n) last map s))) := by
  have part : (macCnt 6 (rxEntered k arrival via h (.leave n) last map s)).part = s.part :=
    (macCnt_only 6 _).part.trans (rxEntered_only k arrival via h (.leave n) last map s).part
  rw [enterRx_eq, applyRx, withdrawAt, part]
  simp only [node_jWrite, accepted, (jWrite_only _ _ _ s).part]
  rfl

end Entry

/-- Between `s` and `t` one entry was written, and member `a` was heard in it: its window has moved to `last` and `map`. The other
nodes keep their records but for items, and the ports are as they were. -/
structure Heard (a last map : Nat) (s t : State) : Prop where
  mac : t.mac = s.mac
  lastSf : t.jr.lastSf = s.jr.sf
  lastSeq : t.jr.lastSeq = s.jr.nextSeq
  rxLast : (node t a).rxLast = last
  rxMap : (node t a).rxMap = map
  newest : (node t a).lastSf = s.jr.sf
  others : ∀ b, b ≠ a → (node t b).bare = (node s b).bare

namespace Heard

variable {a last map : Nat} {s t u : State}

/-- Another node's window stays. -/
theorem other_rxLast (w : Heard a last map s t) {b : Nat} (hb : b ≠ a) : (node t b).rxLast = (node s b).rxLast :=
  (congrArg Node.rxLast (w.others b hb) :)

/-- Work that leaves the ports, the last position, and the nodes but for items. -/
theorem keep (w : Heard a last map s t) (items : ItemsOnly t u) (mac : u.mac = t.mac)
    (pos : u.jr.lastSf = t.jr.lastSf ∧ u.jr.lastSeq = t.jr.lastSeq) : Heard a last map s u where
  mac := mac.trans w.mac
  lastSf := pos.1.trans w.lastSf
  lastSeq := pos.2.trans w.lastSeq
  rxLast := (congrArg Node.rxLast (items a) :).trans w.rxLast
  rxMap := (congrArg Node.rxMap (items a) :).trans w.rxMap
  newest := (congrArg Node.lastSf (items a) :).trans w.newest
  others b hb := (items b).trans (w.others b hb)

/-- Work that leaves the ports and the journal, and the nodes but for items. -/
theorem keep_of_follows {c : Touch} (w : Heard a last map s t) (f : Follows c t u) (items : ItemsOnly t u) (mac : c.mac = false)
    (jr : c.jr = false) : Heard a last map s u :=
  w.keep items (f.mac mac) (by rw [f.jr jr]; exact ⟨rfl, rfl⟩)

/-- A member that is held was heard all the same. -/
theorem hold (w : Heard a last map s t) (sf : Nat) : Heard a last map s (holdAddr a sf t) where
  mac := w.mac
  lastSf := w.lastSf
  lastSeq := w.lastSeq
  rxLast := (congrArg Node.rxLast (node_holdAddr_self a sf t) :).trans w.rxLast
  rxMap := (congrArg Node.rxMap (node_holdAddr_self a sf t) :).trans w.rxMap
  newest := (congrArg Node.lastSf (node_holdAddr_self a sf t) :).trans w.newest
  others b hb := by rw [holdAddr, node_modNode, if_neg hb, w.others b hb]

end Heard

/-- An acknowledgement owed is an item. -/
theorem owe_items (a : Nat) (s : State) : ItemsOnly s (owe a s) := .modNode a _ s

theorem takeAck_items (a : Nat) (f : AckField) (s : State) : ItemsOnly s (takeAck a f s) := .modNode a _ s

/-- The header of a frame leaves the nodes but for items once its window and its newest frame are noted. -/
theorem heardFrom_items (sf k : Nat) (via : Option Nat) (h : FrameHdr) (last map : Nat) (s : State) :
    ItemsOnly (headerNoted sf h last map s) (heardFrom sf k via h last map s) := by
  have learnt (u : State) : ItemsOnly u (nodeLearn h.src k (via.getD addrNone) u) :=
    .of_follows (nodeLearn_fol (kc := { regs := true, lkp := true }) rfl rfl (.refl _ u)) rfl
  unfold heardFrom
  split
  · exact (owe_items _ _).trans (learnt _)
  · exact learnt _

/-- A member's record with its window moved and its newest frame noted. -/
theorem node_headerNoted (sf : Nat) (h : FrameHdr) (last map : Nat) (s : State) (b : Nat) :
    node (headerNoted sf h last map s) b =
      if b = h.src then { node s h.src with rxAny := true, rxLast := last, rxMap := map, lastSf := sf,
                                            frameSf := max (node s h.src).frameSf h.sf, wakeMiss := 0 }
      else node s b := by
  rw [headerNoted, node_modNode, windowTake, node_modNode_self, node_modNode]
  split
  · rfl
  · rfl

/-- After its entry and its header a member was heard. -/
theorem rxEntered_hears (k arrival : Nat) (via : Option Nat) (h : FrameHdr) (b : RadioBody) (last map : Nat) (s : State) :
    Heard h.src last map s (rxEntered k arrival via h b last map s) := by
  have entry := jWrite_only h.src arrival (.radioRx k h b) s
  obtain ⟨-, lastSf, lastSeq⟩ := JrnlS.spine_pos (jWrite_spine h.src arrival (.radioRx k h b) s)
  unfold rxEntered
  have nodes := node_jWrite h.src arrival (.radioRx k h b) s
  generalize jWrite h.src arrival (.radioRx k h b) s = u at entry lastSf lastSeq nodes ⊢
  have self := (node_headerNoted s.jr.sf h last map u h.src).trans (if_pos rfl)
  have noted : Heard h.src last map s (headerNoted s.jr.sf h last map u) :=
    { mac := entry.mac rfl
      lastSf := lastSf
      lastSeq := lastSeq
      rxLast := by rw [self]
      rxMap := by rw [self]
      newest := by rw [self]
      others := fun b hb => by rw [node_headerNoted, if_neg hb, nodes] }
  exact noted.keep_of_follows (heardFrom_only k via _ h last map u) (heardFrom_items _ k via h last map u) rfl rfl

/-! UP (R287, 02_journal R60; 07_motion_safety R188). -/

/-- The digest echo of an uplink touches the journal's marks, the registers and the recorder. -/
theorem echo_only (m tag sf : Nat) (s : State) : Follows { jr := true, regs := true, evr := true } s (echo m tag sf s) :=
  echo_fol rfl rfl rfl (.refl _ s)

/-- The digest echo leaves the last position. -/
theorem echo_pos (m tag sf : Nat) (s : State) :
    (echo m tag sf s).jr.lastSf = s.jr.lastSf ∧ (echo m tag sf s).jr.lastSeq = s.jr.lastSeq := by
  have told (d : List Nat) (u : State) : (evTrig 0x16 d (alarm Addr.TOP_CFG_ALARM 1 u)).jr = u.jr :=
    (evTrig_fol (kc := { regs := true, evr := true }) rfl rfl (alarm_fol rfl (.refl _ u))).jr rfl
  unfold echo
  extract_lets ok marked
  split
  · exact ⟨rfl, rfl⟩
  · rw [told]
    exact ⟨rfl, rfl⟩

/-- The status flags of an uplink noted, with its acknowledgements and its digest echo. -/
def upNoted (sf m : Nat) (b : UpBody) (s : State) : State :=
  modMach m (fun x => { x with flagged := b.status % 4 != 0 }) (echo m b.tag sf (takeAck m b.ack s))

/-- An uplink with a status flag withdraws its machine. -/
def upStopped (pos : Nat × Nat) (m : Nat) (b : UpBody) (s : State) : State :=
  if b.status % 4 != 0 then withdraw pos m 14 (upNoted pos.1 m b s) else upNoted pos.1 m b s

theorem applyUp_eq (pos : Nat × Nat) (m arrival : Nat) (b : UpBody) (s : State) :
    applyUp pos m arrival b s =
      if b.obsLen = 0 then upStopped pos m b s else offerEpoch m arrival pos b.obs (upStopped pos m b s) := rfl

/-- What follows the echo of an uplink leaves the nodes, the ports and the journal. -/
theorem applyUp_after_echo (pos : Nat × Nat) (m arrival : Nat) (b : UpBody) (s : State) :
    Follows { regs := true, gmp := true, safe := true, fix := true, sched := true, evr := true }
      (echo m b.tag pos.1 (takeAck m b.ack s)) (applyUp pos m arrival b s) := by
  have noted : Follows { regs := true, gmp := true, safe := true, fix := true, sched := true, evr := true }
      (echo m b.tag pos.1 (takeAck m b.ack s)) (upNoted pos.1 m b s) := modMach_fol rfl (.refl _ _)
  have stopped : Follows { regs := true, gmp := true, safe := true, fix := true, sched := true, evr := true }
      (echo m b.tag pos.1 (takeAck m b.ack s)) (upStopped pos m b s) := by
    unfold upStopped
    split
    · exact withdraw_fol rfl rfl rfl rfl noted
    · exact noted
  rw [applyUp_eq]
  split
  · exact stopped
  · exact offerEpoch_fol rfl rfl rfl rfl stopped

/-- An uplink's body leaves a member heard. -/
theorem Heard.applyUp {a last map : Nat} {s t : State} (w : Heard a last map s t) (pos : Nat × Nat) (m arrival : Nat)
    (b : UpBody) : Heard a last map s (applyUp pos m arrival b t) := by
  have echoed := echo_only m b.tag pos.1 (takeAck m b.ack t)
  have after := applyUp_after_echo pos m arrival b t
  refine w.keep (((takeAck_items m b.ack t).trans (.of_follows echoed rfl)).trans (.of_follows after rfl))
    ((after.mac rfl).trans (echoed.mac rfl)) ?_
  rw [after.jr rfl]
  exact echo_pos m b.tag pos.1 (takeAck m b.ack t)

/-- A rover epoch leaves the machine's status flag. -/
theorem offerEpoch_flagged (m arrival : Nat) (pos : Nat × Nat) (obs : List RtcmMsg) (s : State) :
    (safeMach (offerEpoch m arrival pos obs s) m).flagged = (safeMach s m).flagged := by
  have created (cls o : Nat) (d : Option Nat) (u : State) : (createJob cls pos o d u).safe = u.safe :=
    (createJob_fol (kc := { regs := true, sched := true }) rfl rfl (.refl _ u)).safe rfl
  have accepted (t : Nat) (sats : List SatObs) :
      (safeMach (acceptEpoch m arrival pos t sats s) m).flagged = (safeMach s m).flagged := by
    have same : safeMach (acceptEpoch m arrival pos t sats s) m = safeMach (modMach m (fun x => { x with age := some 0 }) s) m :=
      safeMach_congr (congrArg SafeS.mach (created _ _ _ _)) m
    rw [same, safeMach_modMach]
  have counted (a : Nat) : (safeMach (bump a s) m).flagged = (safeMach s m).flagged := by
    rw [safeMach_congr (congrArg SafeS.mach (bump_safe a s))]
  have either {p : Prop} [Decidable p] {t u : State} (ht : (safeMach t m).flagged = (safeMach s m).flagged)
      (hu : (safeMach u m).flagged = (safeMach s m).flagged) :
      (safeMach (if p then t else u) m).flagged = (safeMach s m).flagged := by
    split
    · exact ht
    · exact hu
  unfold offerEpoch
  dsimp only
  refine either rfl ?_
  split
  · exact counted _
  · exact either (counted _) (either (counted _) (either (counted _) (accepted _ _)))

/-- An uplink with a status flag takes its machine's permit, and the flag is noted (R188). -/
theorem applyUp_flags {b : UpBody} (flag : b.status % 4 ≠ 0) (pos : Nat × Nat) (m arrival : Nat) (s : State) :
    (applyUp pos m arrival b s).safe.permit.testBit (machineBit m) = false ∧
      (safeMach (applyUp pos m arrival b s) m).flagged = true := by
  have set : (b.status % 4 != 0) = true := by simpa using flag
  have w := withdraw_withdraws pos m 14 (upNoted pos.1 m b s)
  have noted : (safeMach (upStopped pos m b s) m).flagged = true := by
    obtain ⟨c, record⟩ := w.record
    rw [upStopped, if_pos set, record, upNoted, safeMach_modMach]
    exact set
  have clear : (upStopped pos m b s).safe.permit.testBit (machineBit m) = false := by
    rw [upStopped, if_pos set, w.live]
  rw [applyUp_eq]
  split
  · exact ⟨clear, noted⟩
  · exact ⟨(offerEpoch_fol (kc := { regs := true, safe := true, fix := true, sched := true }) rfl rfl rfl rfl
      (.refl _ _)).permit_clear rfl clear, (offerEpoch_flagged _ _ _ _ _).trans noted⟩

/-! PEND (R288; 07_motion_safety R189, R190). -/

/-- The words outside the SAFE block, which stands at 0x0002_0000 (17_host R446). -/
def outsideSafe (k : Nat) : Bool := decide (blockOf (k / 2 ^ 32) ≠ 2)

theorem outsideSafe_rkey {a : Nat} (block : blockOf a ≠ 2) : outsideSafe (rkey a) = true := by
  rw [outsideSafe, rkey, Nat.mul_div_cancel _ (Nat.two_pow_pos 32)]
  exact decide_eq_true block

/-- A register of the SAFE block. -/
theorem outsideSafe_safe {a : Nat} (block : blockOf a = 2) : outsideSafe (rkey a) = false := by
  rw [outsideSafe, rkey, Nat.mul_div_cancel _ (Nat.two_pow_pos 32), block]
  rfl

/-- The words of an entry stand outside the SAFE block. -/
theorem entryWords_outsideSafe {k : Nat} (h : outsideSafe k = false) : entryWords k = false := by
  refine Bool.eq_false_iff.mpr fun entered => Bool.eq_false_iff.mp h ?_
  simp only [entryWords, Bool.or_eq_true, beq_iff_eq] at entered
  rcases entered with rfl | rfl
  · exact outsideSafe_rkey (by decide)
  · exact outsideSafe_rkey (by decide)

theorem modNode_words {P : Nat → Bool} {s0 s : State} (w : Words P s0 s) (a : Nat) (f : Node → Node) :
    Words P s0 (modNode a f s) := updMemb_words w

/-- Learning in the tables counts in words of the LKP block (13_tables R366). -/
theorem pipeLearn_outsideSafe {s0 s : State} (w : Words outsideSafe s0 s) (p : Nat) (e : EmEnt) :
    Words outsideSafe s0 (pipeLearn p e s).1 := by
  have counted (i : Nat) (hi : i < 10) {u : State} (v : Words outsideSafe s0 u) : Words outsideSafe s0 (lkpCnt i u) :=
    bump_words (outsideSafe_rkey (by unfold blockOf Addr.LKP_CNT; omega)) v
  have moved (n : Nat) (f : Pipe → Pipe) : Words outsideSafe s0 (countReloc n (modPipe p f s)) := by
    unfold countReloc
    split
    · exact updLkp_words w
    · exact bumpF_words (outsideSafe_rkey (by decide)) (updLkp_words w)
  unfold pipeLearn
  dsimp only
  split
  · exact counted 3 (by decide) (moved _ _)
  · split
    · exact moved _ _
    · exact counted 0 (by decide) (moved _ _)
  · split
    · exact moved _ _
    · exact counted 1 (by decide) (moved _ _)
  · exact counted 5 (by decide) (moved _ _)
  · exact moved _ _

/-- The entry of a frame and its header leave the scope of a pendant (07_motion_safety R190). -/
theorem pendScope_rxEntered {p : Nat} (pendant : isPendant p = true) (k arrival : Nat) (via : Option Nat) (h : FrameHdr)
    (b : RadioBody) (last map : Nat) (s : State) : pendScope (rxEntered k arrival via h b last map s) p = pendScope s p := by
  have entry : Words outsideSafe s (jWrite h.src arrival (.radioRx k h b) s) :=
    (jWrite_words _ _ _ s).mono fun _ => entryWords_outsideSafe
  have noted : Words outsideSafe s (headerNoted s.jr.sf h last map (jWrite h.src arrival (.radioRx k h b) s)) :=
    modNode_words (modNode_words entry _ _) _ _
  have words : Words outsideSafe s (rxEntered k arrival via h b last map s) := by
    unfold rxEntered heardFrom
    refine pipeLearn_outsideSafe (pipeLearn_outsideSafe ?_ 0 _) 1 _
    split
    · exact modNode_words noted _ _
    · exact noted
  simp only [isPendant, within, decide_eq_true_eq] at pendant
  exact cfg_words words (outsideSafe_safe (by unfold blockOf Addr.SAFE_PEND_SCOPE; omega))

/-- The stop of a pendant of global scope sets the latch and clears the covered map (R190, R194). -/
theorem pendantStop_stops {p : Nat} {s : State} (glob : pendScope s p = 8) (pos : Nat × Nat) :
    (pendantStop pos p s).safe.latch = true ∧ (pendantStop pos p s).safe.cLatch = true ∧
      (pendantStop pos p s).safe.cPermit = 0 := by
  have stopped : pendantStop pos p s = covGlobal pos (liveGlobal 5 0 p s) := if_pos glob
  obtain ⟨cLatch, cPermit, -⟩ := covGlobal_sets pos (liveGlobal 5 0 p s)
  have live := covGlobal_live pos (liveGlobal 5 0 p s)
  rw [stopped]
  exact ⟨(congrArg SafeS.latch live).trans ((congrArg SafeS.latch (liveGlobal_rest 5 0 p s)).trans (SafeS.stopped_latch _ _ _ _)),
    cLatch, cPermit⟩

end Sys2Proof.Machine

/-!
Join requests (10_radio_frames R289 to R292, R294): what an association records of its node, what decides a join, and the answers that
wait for a DOWN slot.
-/

namespace Sys2Proof.Machine

open Sys2Proof

/-! The association (R275, R291, R292). -/

/-- Records that agree but for items agree in the fields of a join. -/
theorem Node.join_of_bare {n p : Node} (h : n.bare = p.bare) :
    n.st = p.st ∧ n.eui = p.eui ∧ n.home = p.home ∧ n.period = p.period :=
  ⟨(congrArg Node.st h :), (congrArg Node.eui h :), (congrArg Node.home h :), (congrArg Node.period h :)⟩

/-- What an association records of its node (R275, R292). -/
def Node.joined (pos : Nat × Nat) (k key : Nat) (b : JoinBody) (w : Nat × Nat × Nat) (hsf : Nat) (n : Node) : Node :=
  { n with
    st := .assoc, home := k, eui := b.eui, sleepy := b.flags.testBit 0, relayCap := b.flags.testBit 1, period := w.1,
    phase := w.2.1, wslot := w.2.2, clkPpm := b.clkPpm, txSeq := 0, rxAny := false, rxLast := 0, rxMap := 0,
    lastSf := pos.1, heldSf := 0, frameSf := hsf, wakeMiss := 0, nonceM := b.nonce, nonceD := pos.1 * 65536 + pos.2 % 65536,
    joinKey := key,
    items := { n.items with acks := n.items.acks.map (fun x => { x with seqs := [] }), owed := none } }

/-- What an association does before the node's record: an address that was not FREE is recorded, and a machine that was associated
is withdrawn (R275). -/
def rejoined (pos : Nat × Nat) (a : Nat) (b : JoinBody) (s : State) : State :=
  let t := if (node s a).st ≠ .free then evTrig 0x27 (be 2 a ++ be 8 b.eui) s else s
  if (node s a).st = .assoc ∧ isMachine s.part a then withdraw pos a 14 t else t

theorem associate_eq (pos : Nat × Nat) (k a key : Nat) (b : JoinBody) (w : Nat × Nat × Nat) (hsf : Nat) (s : State) :
    associate pos k a key b w hsf s = queueSched a
      (if (node s a).st = .free ∧ isMachine s.part a then
        roverAssigned a (modNode a (Node.joined pos k key b w hsf) (rejoined pos a b s))
      else modNode a (Node.joined pos k key b w hsf) (rejoined pos a b s)) := rfl

theorem rejoined_only (pos : Nat × Nat) (a : Nat) (b : JoinBody) (s : State) :
    Follows { regs := true, gmp := true, safe := true, evr := true } s (rejoined pos a b s) :=
  have told : Follows { regs := true, gmp := true, safe := true, evr := true } s
      (if (node s a).st ≠ .free then evTrig 0x27 (be 2 a ++ be 8 b.eui) s else s) :=
    ite_fol (evTrig_fol rfl rfl (.refl _ s)) (.refl _ s)
  ite_fol (withdraw_fol rfl rfl rfl rfl told) told

theorem roverAssigned_only (m : Nat) (s : State) : Follows { safe := true, fix := true } s (roverAssigned m s) :=
  roverAssigned_fol rfl rfl (.refl _ s)

/-- An associated node's record, but for items: that of its join. -/
theorem associate_node (pos : Nat × Nat) (k a key : Nat) (b : JoinBody) (w : Nat × Nat × Nat) (hsf : Nat) (s : State) :
    (node (associate pos k a key b w hsf s) a).bare = (Node.joined pos k key b w hsf (node s a)).bare := by
  have record : node (modNode a (Node.joined pos k key b w hsf) (rejoined pos a b s)) a = Node.joined pos k key b w hsf (node s a) := by
    rw [node_modNode_self, node_congr ((rejoined_only pos a b s).memb rfl)]
  rw [associate_eq, queueSched, ItemsOnly.queueAck]
  split
  · rw [node_congr ((roverAssigned_only a _).memb rfl), record]
  · rw [record]

/-- An association answers nothing by itself. -/
theorem associate_joins (pos : Nat × Nat) (k a key : Nat) (b : JoinBody) (w : Nat × Nat × Nat) (hsf : Nat) (s : State) :
    (associate pos k a key b w hsf s).memb.joins = s.memb.joins := by
  have recorded : (modNode a (Node.joined pos k key b w hsf) (rejoined pos a b s)).memb.joins = s.memb.joins :=
    (congrArg MembS.joins ((rejoined_only pos a b s).memb rfl) :)
  have queued (u : State) : (queueSched a u).memb.joins = u.memb.joins := rfl
  rw [associate_eq, queued]
  split
  · rw [(roverAssigned_only a _).memb rfl, recorded]
  · exact recorded

/-! The decision (R289 to R291, R294). -/

/-- The answer of a join that is accepted (R290). -/
def joinOk (pos : Nat × Nat) (k : Nat) (h : FrameHdr) (b : JoinBody) (a : Nat) (w : Nat × Nat × Nat) (s : State) : JoinAcc :=
  ⟨k, h.key, b.eui, stOk, a, pos.1 * 65536 + pos.2 % 65536, w.1, w.2.2, w.2.1, cfg s Addr.MAC_MEMB_CFG1 7 0, 0, 0⟩

/-- The address of an accepted join associated, with the answer kept for a repeat of the request (R291). -/
def joinTaken (pos : Nat × Nat) (k : Nat) (h : FrameHdr) (b : JoinBody) (a : Nat) (w : Nat × Nat × Nat) (s : State) : State :=
  (associate pos k a h.key b w h.sf s).updMemb fun m =>
    { m with lastJoin := kins m.lastJoin b.eui (b.nonce, joinOk pos k h b a w s) }

/-- What a join that takes an address must meet (R289 to R291, R294): a first request in range, of a role that may join, with an
address and, for a sleeper, a wake slot. -/
structure MayJoin (k : Nat) (h : FrameHdr) (b : JoinBody) (a : Nat) (w : Nat × Nat × Nat) (s : State) : Prop where
  first : kfind s.memb.lastJoin b.eui = none
  fields : joinFieldsOk b = true
  enabled : cfgB s Addr.MAC_MEMB_CFG0 (if h.key = 2 then 0 else 1) = true
  addr : joinAddr s (h.key == 2) b.eui = some a
  wake : (if b.flags.testBit 0 then wakeGrant s k a b.wakeReq else some (0, 0, 0xFF)) = some w

/-- What decides a join is not read from the intake, and an entry leaves it. -/
theorem MayJoin.entered {k : Nat} {h : FrameHdr} {b : JoinBody} {a : Nat} {w : Nat × Nat × Nat} {s : State}
    (j : MayJoin k h b a w s) (rest : List Intake) (src arr : Nat) (p : Payload) :
    MayJoin k h b a w (jWrite src arr p (withIntake rest s)) := by
  have entry := jWrite_only src arr p (withIntake rest s)
  have words := jWrite_words src arr p (withIntake rest s)
  generalize jWrite src arr p (withIntake rest s) = u at entry words ⊢
  refine ⟨?_, j.fields, ?_, ?_, ?_⟩
  · rw [entry.memb rfl]
    exact j.first
  · rw [cfgB, words.words _ (by decide)]
    exact j.enabled
  · simp only [joinAddr, roleRange, hasDescriptor, node, entry.part, entry.memb rfl, entry.scr rfl]
    exact j.addr
  · rw [wakeGrant, port_congr (entry.mac rfl)]
    exact j.wake

/-- A join that may take its address does. -/
theorem joinDecide_takes {k : Nat} {h : FrameHdr} {b : JoinBody} {a : Nat} {w : Nat × Nat × Nat} {s : State}
    (j : MayJoin k h b a w s) (pos : Nat × Nat) :
    joinDecide pos k h b s = queueJoin (joinOk pos k h b a w s) (joinTaken pos k h b a w s) := by
  have enabled : cfgB s Addr.MAC_MEMB_CFG0 (if (h.key == 2) = true then 0 else 1) = true := by simpa using j.enabled
  rw [joinDecide]
  simp only [j.first, joinDecide.fresh, j.fields, enabled, j.addr, j.wake, Bool.not_true, Bool.false_eq_true, if_false]
  rfl

/-- A first request with a field out of range is answered ERR_FIELD (R289, R290). -/
theorem joinDecide_refuses {b : JoinBody} {s : State} (first : kfind s.memb.lastJoin b.eui = none)
    (fields : joinFieldsOk b = false) (pos : Nat × Nat) (k : Nat) (h : FrameHdr) :
    joinDecide pos k h b s = queueJoin ⟨k, h.key, b.eui, stField, addrNone, 0, 0, 0, 0, 0, 0, 0⟩ s := by
  rw [joinDecide]
  simp only [first, joinDecide.fresh, fields, Bool.not_false, if_true]

/-- An answer that is queued waits 50 superframes (R290). -/
theorem queueJoin_memb (j : JoinAcc) (s : State) :
    (queueJoin j s).memb =
      { s.memb with joins := s.memb.joins ++ [{ j with until_ := s.jr.sf + 50, queued := now s }] } :=
  (macCnt_only _ _).memb rfl

/-- A queued answer is the newest that waits. -/
theorem queueJoin_joins (j : JoinAcc) (s : State) :
    ∃ i, (queueJoin j s).memb.joins = s.memb.joins ++ [i] ∧ i.addr = j.addr ∧ i.status = j.status ∧ i.eui = j.eui ∧
      i.until_ = s.jr.sf + 50 :=
  ⟨_, (congrArg MembS.joins (queueJoin_memb j s) :), rfl, rfl, rfl, rfl⟩

theorem queueJoin_only (j : JoinAcc) (s : State) : Follows { regs := true, memb := true } s (queueJoin j s) :=
  queueJoin_fol rfl rfl (.refl _ s)

/-- A join request is decided at the position of its entry. -/
theorem enterRx_join (k arrival : Nat) (h : FrameHdr) (b : JoinBody) (s : State) :
    enterRx k arrival none h (.joinReq b) s =
      joinDecide (s.jr.sf, s.jr.nextSeq) k h b (jWrite h.src arrival (.radioRx k h (.joinReq b)) s) := by
  rw [enterRx_eq]
  rfl

theorem joinTaken_only (pos : Nat × Nat) (k : Nat) (h : FrameHdr) (b : JoinBody) (a : Nat) (w : Nat × Nat × Nat) (s : State) :
    Follows { regs := true, gmp := true, safe := true, fix := true, memb := true, evr := true } s (joinTaken pos k h b a w s) :=
  updMemb_fol rfl (associate_fol rfl rfl rfl rfl rfl rfl (.refl _ s))

/-- The record of the address of a join that is taken (R291, R292). -/
theorem node_queueJoin_joinTaken (pos : Nat × Nat) (k : Nat) (h : FrameHdr) (b : JoinBody) (a : Nat) (w : Nat × Nat × Nat)
    (j : JoinAcc) (s : State) :
    (node (queueJoin j (joinTaken pos k h b a w s)) a).bare = (Node.joined pos k h.key b w h.sf (node s a)).bare := by
  rw [← associate_node, node, queueJoin_memb]
  rfl

theorem joinTaken_joins (pos : Nat × Nat) (k : Nat) (h : FrameHdr) (b : JoinBody) (a : Nat) (w : Nat × Nat × Nat) (s : State) :
    (joinTaken pos k h b a w s).memb.joins = s.memb.joins :=
  associate_joins pos k a h.key b w h.sf s

/-! The command. -/

section JoinReq

variable {k : Nat} {x : Intake} {rest : List Intake} {m : RxMsg} {s : State}

/-- The position of an entry of a frame that has left the intake (02_journal R42). -/
theorem jWrite_withIntake (rest : List Intake) (src arr : Nat) (p : Payload) (s : State) :
    (jWrite src arr p (withIntake rest s)).mac.intake = rest ∧ (jWrite src arr p (withIntake rest s)).jr.sf = s.jr.sf ∧
      (jWrite src arr p (withIntake rest s)).jr.lastSf = s.jr.sf ∧
      (jWrite src arr p (withIntake rest s)).jr.lastSeq = s.jr.nextSeq :=
  ⟨congrArg MacS.intake ((jWrite_only src arr p (withIntake rest s)).mac rfl),
    JrnlS.spine_pos (jWrite_spine src arr p (withIntake rest s))⟩

/-- A join request that may take its address does, and its answer waits (R289 to R291). -/
theorem execJoinReq_takes {b : JoinBody} {a : Nat} {w : Nat × Nat × Nat} (r : RxFrame k 6 x rest m s)
    (body : m.body = some (.joinReq b)) (may : MayJoin x.port m.hdr b a w s) :
    ∃ t j, exec (.joinReq k) s = .next t ∧ t.mac.intake = rest ∧ t.jr.lastSf = s.jr.sf ∧ t.jr.lastSeq = s.jr.nextSeq ∧
      (node t a).st = .assoc ∧ (node t a).eui = b.eui ∧ (node t a).home = x.port ∧ (node t a).period = w.1 ∧
      t.memb.joins = s.memb.joins ++ [j] ∧ j.addr = a ∧ j.status = stOk ∧ j.eui = b.eui ∧ j.until_ = s.jr.sf + 50 := by
  have received := r.receive_enters (ccmAndWindow_join r.mic r.typ) body
  rw [enterRx_join, joinDecide_takes (may.entered rest _ _ _)] at received
  have entry := jWrite_only m.hdr.src x.arrival (.radioRx x.port m.hdr (.joinReq b)) (withIntake rest s)
  obtain ⟨intake, sf, lastSf, lastSeq⟩ :=
    jWrite_withIntake rest m.hdr.src x.arrival (.radioRx x.port m.hdr (.joinReq b)) s
  generalize jWrite m.hdr.src x.arrival (.radioRx x.port m.hdr (.joinReq b)) (withIntake rest s) = u
    at received entry intake sf lastSf lastSeq
  generalize ((withIntake rest s).jr.sf, (withIntake rest s).jr.nextSeq) = pos at received
  obtain ⟨st, nodeEui, home, period⟩ :=
    Node.join_of_bare (node_queueJoin_joinTaken pos x.port m.hdr b a w (joinOk pos x.port m.hdr b a w u) u)
  obtain ⟨j, joins, addr, status, eui, until_⟩ :=
    queueJoin_joins (joinOk pos x.port m.hdr b a w u) (joinTaken pos x.port m.hdr b a w u)
  have taken := joinTaken_only pos x.port m.hdr b a w u
  have queued := queueJoin_only (joinOk pos x.port m.hdr b a w u) (joinTaken pos x.port m.hdr b a w u)
  rw [joinTaken_joins, entry.memb rfl] at joins
  rw [taken.jr rfl, sf] at until_
  refine ⟨_, j, congrArg Host.Outcome.next received, ?_, ?_, ?_, st, nodeEui, home, period, joins, addr, status, eui, until_⟩
  · rw [queued.mac rfl, taken.mac rfl, intake]
  · rw [queued.jr rfl, taken.jr rfl, lastSf]
  · rw [queued.jr rfl, taken.jr rfl, lastSeq]

/-- A join request with a field out of range is answered ERR_FIELD, and the nodes stay (R289, R290). -/
theorem execJoinReq_refuses {b : JoinBody} (r : RxFrame k 6 x rest m s) (body : m.body = some (.joinReq b))
    (first : kfind s.memb.lastJoin b.eui = none) (fields : joinFieldsOk b = false) :
    ∃ t j, exec (.joinReq k) s = .next t ∧ t.mac.intake = rest ∧ t.memb.nodes = s.memb.nodes ∧
      t.memb.joins = s.memb.joins ++ [j] ∧ j.addr = addrNone ∧ j.status = stField := by
  have received := r.receive_enters (ccmAndWindow_join r.mic r.typ) body
  have entry := jWrite_only m.hdr.src x.arrival (.radioRx x.port m.hdr (.joinReq b)) (withIntake rest s)
  have memb : (jWrite m.hdr.src x.arrival (.radioRx x.port m.hdr (.joinReq b)) (withIntake rest s)).memb = s.memb := entry.memb rfl
  rw [enterRx_join, joinDecide_refuses (memb ▸ first) fields] at received
  generalize jWrite m.hdr.src x.arrival (.radioRx x.port m.hdr (.joinReq b)) (withIntake rest s) = u at received entry memb
  obtain ⟨j, joins, addr, status, -, -⟩ := queueJoin_joins ⟨x.port, m.hdr.key, b.eui, stField, addrNone, 0, 0, 0, 0, 0, 0, 0⟩ u
  rw [memb] at joins
  refine ⟨_, j, congrArg Host.Outcome.next received, ?_, ?_, joins, addr, status⟩
  · rw [(queueJoin_only _ u).mac rfl, entry.mac rfl]
    rfl
  · rw [queueJoin_memb, memb]

end JoinReq

end Sys2Proof.Machine

/-!
The frames of members as commands (10_radio_frames R274, R276, R287, R288, R292, R300): UP, ACK, LEAVE and PEND, and the RELAY frame.
-/

namespace Sys2Proof.Machine

open Sys2Proof

section Members

variable {k : Nat} {x : Intake} {rest : List Intake} {m : RxMsg} {s : State}

/-! Members (R274, R287, R288, R292). -/

/-- What the statements say of a member that was heard in a frame from the intake. -/
theorem Heard.of_intake {a last map : Nat} {t : State} (w : Heard a last map (withIntake rest s) t) :
    t.mac.intake = rest ∧ t.jr.lastSf = s.jr.sf ∧ t.jr.lastSeq = s.jr.nextSeq ∧ (node t a).rxLast = last ∧
      (node t a).rxMap = map ∧ (node t a).lastSf = s.jr.sf :=
  ⟨congrArg MacS.intake w.mac, w.lastSf, w.lastSeq, w.rxLast, w.rxMap, w.newest⟩

variable {l mp : Nat} (accepted : window (node s m.hdr.src) m.hdr.seq = .accepted l mp)

include accepted

/-- UP: its sender is heard; a machine with a status flag loses its permit (R287; 07_motion_safety R188). -/
theorem execUpFrame_hears {u : UpBody} (r : RxFrame k 3 x rest m s) (body : m.body = some (.up u)) :
    ∃ t, exec (.upFrame k) s = .next t ∧ Heard m.hdr.src l mp (withIntake rest s) t ∧
      (isMachine s.part m.hdr.src = true → u.status % 4 ≠ 0 →
        t.safe.permit.testBit (machineBit m.hdr.src) = false ∧ (safeMach t m.hdr.src).flagged = true) := by
  have received := r.receive_enters (ccmAndWindow_accepts r.mic accepted) body
  rw [enterRx_up _ _ _ (s := withIntake rest s) accepted u] at received
  have heard := rxEntered_hears x.port x.arrival none m.hdr (.up u) l mp (withIntake rest s)
  refine ⟨_, congrArg Host.Outcome.next received, ?_⟩
  split
  · exact ⟨heard.applyUp _ _ _ _, fun _ flag => applyUp_flags flag _ _ _ _⟩
  · rename_i other
    exact ⟨heard, fun hm => absurd hm other⟩

/-- ACK: its sender is heard (R276). -/
theorem execAckFrame_hears {f : AckField} (r : RxFrame k 5 x rest m s) (body : m.body = some (.ack f)) :
    ∃ t, exec (.ackFrame k) s = .next t ∧ Heard m.hdr.src l mp (withIntake rest s) t := by
  have received := r.receive_enters (ccmAndWindow_accepts r.mic accepted) body
  rw [enterRx_ack _ _ _ (s := withIntake rest s) accepted f] at received
  exact ⟨_, congrArg Host.Outcome.next received,
    (rxEntered_hears _ _ _ _ _ _ _ _).keep_of_follows (takeAck_fol (kc := { memb := true }) rfl (.refl _ _)) (takeAck_items _ _ _)
      rfl rfl⟩

/-- LEAVE: its sender is heard, held, and without a permit (R292). -/
theorem execLeave_holds {n : Nat} (r : RxFrame k 8 x rest m s) (body : m.body = some (.leave n)) :
    ∃ t, exec (.leave k) s = .next t ∧ Heard m.hdr.src l mp (withIntake rest s) t ∧ (node t m.hdr.src).st = .held ∧
      (node t m.hdr.src).heldSf = s.jr.sf ∧
      (isMachine s.part m.hdr.src = true → t.safe.permit.testBit (machineBit m.hdr.src) = false) := by
  have received := r.receive_enters (ccmAndWindow_accepts r.mic accepted) body
  rw [enterRx_leave _ _ _ (s := withIntake rest s) accepted n] at received
  have heard := rxEntered_hears x.port x.arrival none m.hdr (.leave n) l mp (withIntake rest s)
  have entered := rxEntered_only x.port x.arrival none m.hdr (.leave n) l mp (withIntake rest s)
  generalize rxEntered x.port x.arrival none m.hdr (.leave n) l mp (withIntake rest s) = u at received heard entered
  have counted := macCnt_only 6 u
  have withdrawn := withdrawAt_only (s.jr.sf, s.jr.nextSeq) m.hdr.src 14 (macCnt 6 u)
  refine ⟨_, congrArg Host.Outcome.next received, Heard.hold ?_ _, ?_, ?_, fun hm => ?_⟩
  · exact (heard.keep_of_follows counted (.of_follows counted rfl) rfl rfl).keep_of_follows withdrawn
      (.of_follows withdrawn rfl) rfl rfl
  · rw [node_holdAddr_self]
  · rw [node_holdAddr_self]
    rfl
  · rw [(holdAddr_only _ _ _).safe rfl]
    exact withdrawAt_clears (by rwa [counted.part, entered.part]) _ _

/-- PEND: the stop of a pendant of global scope sets the latch (R288; 07_motion_safety R189, R190). -/
theorem execPend_stops {p : PendBody} (r : RxFrame k 9 x rest m s) (body : m.body = some (.pend p)) (stop : p.event = 1)
    (pendant : isPendant m.hdr.src = true) (glob : pendScope s m.hdr.src = 8) :
    ∃ t, exec (.pend k) s = .next t ∧ Heard m.hdr.src l mp (withIntake rest s) t ∧ t.safe.latch = true ∧ t.safe.cLatch = true ∧
      t.safe.cPermit = 0 := by
  have received := r.receive_enters (ccmAndWindow_accepts r.mic accepted) body
  rw [enterRx_pend _ _ _ (s := withIntake rest s) accepted stop] at received
  have heard := rxEntered_hears x.port x.arrival none m.hdr (.pend p) l mp (withIntake rest s)
  have scope := pendScope_rxEntered pendant x.port x.arrival none m.hdr (.pend p) l mp (withIntake rest s)
  generalize rxEntered x.port x.arrival none m.hdr (.pend p) l mp (withIntake rest s) = u at received heard scope
  have stopped : Follows { regs := true, gmp := true, safe := true, evr := true } u
      (pendantStop ((withIntake rest s).jr.sf, (withIntake rest s).jr.nextSeq) m.hdr.src u) :=
    pendantStop_fol rfl rfl rfl rfl (.refl _ u)
  exact ⟨_, congrArg Host.Outcome.next received, heard.keep_of_follows stopped (.of_follows stopped rfl) rfl rfl,
    pendantStop_stops (scope.trans glob) _⟩

/-- A RELAY frame that passes its checks moves its relay's window, and its inner frames are taken one by one. -/
theorem RxFrame.relay_takes {inner : List RxMsg} (r : RxFrame k 11 x rest m s) (psdu : x.psdu = .relay m inner) :
    takeFrame k 11 relayTake s = inner.foldl (innerTake x m) (windowTake m.hdr.src l mp (withIntake rest s)) := by
  have admitted := ccmAndWindow_accepts (s := withIntake rest s) r.mic accepted
  have moved : window (node (withIntake rest s) m.hdr.src) m.hdr.seq = .accepted l mp := accepted
  rw [r.takeFrame_eq, relayTake, headOk_withIntake, r.head]
  simp [admitted, moved, psdu]

end Members

/-! Relays (R300). -/

section Relays

variable {k : Nat} {x : Intake} {rest : List Intake} {m : RxMsg} {s : State} {l mp : Nat}

/-- The checks of an inner frame do not read a window (R300). -/
theorem innerOk_windowTake (rest : List Intake) (a last map : Nat) (s : State) (x : Intake) (outer i : RxMsg) :
    innerOk (windowTake a last map (withIntake rest s)) x outer i = innerOk s x outer i := by
  have st : (node (windowTake a last map (withIntake rest s)) i.hdr.src).st = (node s i.hdr.src).st := by
    rw [windowTake, node_modNode]
    split
    · rename_i same
      rw [same]
      rfl
    · rfl
  simp only [innerOk, addrsOk, isAssoc, st]
  rfl

/-- An inner frame that passes its checks is entered as if it had come by itself (R274, R300). -/
theorem innerTake_enters {i outer : RxMsg} {b : RadioBody} {li mi : Nat} {s : State} (src : i.hdr.src ≠ 0)
    (ok : innerOk s x outer i = true) (mic : i.micOk = true) (body : i.body = some b)
    (accepted : window (node s i.hdr.src) i.hdr.seq = .accepted li mi) :
    innerTake x outer s i =
      macCnt 9 (enterRx x.port x.arrival (if i.hdr.src = outer.hdr.src then none else some outer.hdr.src) i.hdr b s) := by
  rw [innerTake, if_neg src, ok, ccmAndWindow_accepts mic accepted]
  simp [body]

/-- A relay's window after its frame is taken. -/
theorem node_windowTake_self (a last map : Nat) (s : State) :
    (node (windowTake a last map s) a).rxLast = last ∧ (node (windowTake a last map s) a).rxMap = map := by
  rw [windowTake, node_modNode_self]
  exact ⟨rfl, rfl⟩

/-- Another node's record after a relay's frame is taken. -/
theorem node_windowTake_other {a b : Nat} (h : b ≠ a) (last map : Nat) (s : State) :
    node (windowTake a last map s) b = node s b :=
  (node_modNode a _ s b).trans (if_neg h)

/-- A RELAY frame that carries nothing moves its relay's window and makes no entry (R300). -/
theorem execRelay_empty (accepted : window (node s m.hdr.src) m.hdr.seq = .accepted l mp) (r : RxFrame k 11 x rest m s)
    (psdu : x.psdu = .relay m []) :
    ∃ t, exec (.relay k) s = .next t ∧ t.mac.intake = rest ∧ t.jr = s.jr ∧ (node t m.hdr.src).rxLast = l ∧
      (node t m.hdr.src).rxMap = mp := by
  have received := r.relay_takes accepted psdu
  have moved : Follows { memb := true } (withIntake rest s) (windowTake m.hdr.src l mp (withIntake rest s)) :=
    windowTake_fol rfl (.refl _ _)
  exact ⟨_, congrArg Host.Outcome.next received, congrArg MacS.intake (moved.mac rfl), moved.jr rfl,
    node_windowTake_self m.hdr.src l mp (withIntake rest s)⟩

/-- A RELAY frame with one inner ACK of another member: both are heard, and the inner frame alone is entered (R274, R300). -/
theorem execRelay_hears {i : RxMsg} {f : AckField} {li mi : Nat}
    (accepted : window (node s m.hdr.src) m.hdr.seq = .accepted l mp) (r : RxFrame k 11 x rest m s) (psdu : x.psdu = .relay m [i])
    (apart : i.hdr.src ≠ m.hdr.src) (src : i.hdr.src ≠ 0) (ok : innerOk s x m i = true) (mic : i.micOk = true)
    (body : i.body = some (.ack f)) (inner : window (node s i.hdr.src) i.hdr.seq = .accepted li mi) :
    ∃ t, exec (.relay k) s = .next t ∧ Heard i.hdr.src li mi (windowTake m.hdr.src l mp (withIntake rest s)) t ∧
      (node t m.hdr.src).rxLast = l := by
  have other := node_windowTake_other apart l mp (withIntake rest s)
  have moved := (node_windowTake_self m.hdr.src l mp (withIntake rest s)).1
  have ok := (innerOk_windowTake rest m.hdr.src l mp s x m i).trans ok
  have received := r.relay_takes accepted psdu
  generalize windowTake m.hdr.src l mp (withIntake rest s) = u at other moved ok received ⊢
  have inner : window (node u i.hdr.src) i.hdr.seq = .accepted li mi := by
    rw [other]
    exact inner
  rw [List.foldl_cons, List.foldl_nil, innerTake_enters src ok mic body inner, enterRx_ack _ _ _ inner f] at received
  have heard := rxEntered_hears x.port x.arrival (if i.hdr.src = m.hdr.src then none else some m.hdr.src) i.hdr (.ack f) li mi u
  have acked := (heard.keep_of_follows (takeAck_fol (kc := { memb := true }) rfl (.refl _ _)) (takeAck_items i.hdr.src f _)
    rfl rfl).keep_of_follows (macCnt_only 9 _) (.of_follows (macCnt_only 9 _) rfl) rfl rfl
  exact ⟨_, congrArg Host.Outcome.next received, acked, (acked.other_rxLast apart.symm).trans moved⟩

end Relays

/-- Settles O34: a frame that passes its checks comes to its entry and its header, which move its sender's window; what its body does
after that leaves the position of the entry, and the nodes but for items and a hold. -/
theorem membersJoinSendAndRelay : Obligations.MembersJoinSendAndRelay := by
  refine ⟨fun s k x rest m l mp accepted => ⟨fun u r body => ?_, fun f r body => ?_, fun n r body => ?_,
    fun p r body stop pendant glob => ?_⟩, fun s k x rest m =>
    ⟨fun b a w r body first fields enabled addr wake => execJoinReq_takes r body ⟨first, fields, enabled, addr, wake⟩,
      fun b r body first fields => execJoinReq_refuses r body first fields,
      fun l mp r psdu accepted => execRelay_empty accepted r psdu,
      fun l mp i f li mi r psdu accepted apart src ok mic _ body inner => ?_⟩⟩
  · obtain ⟨t, hexec, heard, flags⟩ := execUpFrame_hears accepted r body
    obtain ⟨intake, lastSf, lastSeq, rxLast, rxMap, newest⟩ := heard.of_intake
    exact ⟨t, hexec, intake, lastSf, lastSeq, rxLast, rxMap, newest, flags⟩
  · obtain ⟨t, hexec, heard⟩ := execAckFrame_hears accepted r body
    exact ⟨t, hexec, heard.of_intake⟩
  · obtain ⟨t, hexec, heard, held⟩ := execLeave_holds accepted r body
    obtain ⟨intake, lastSf, lastSeq, -⟩ := heard.of_intake
    exact ⟨t, hexec, intake, lastSf, lastSeq, held⟩
  · obtain ⟨t, hexec, heard, stopped⟩ := execPend_stops accepted r body stop pendant glob
    obtain ⟨intake, lastSf, lastSeq, -⟩ := heard.of_intake
    exact ⟨t, hexec, intake, lastSf, lastSeq, stopped⟩
  · obtain ⟨t, hexec, heard, rxLast⟩ := execRelay_hears accepted r psdu apart src ok mic body inner
    exact ⟨t, hexec, congrArg MacS.intake heard.mac, heard.lastSf, heard.lastSeq, heard.rxLast, rxLast⟩

end Sys2Proof.Machine

/-!
The jobs of a descriptor (11_scheduler R307, R308, R313 to R315): dispatch, pre-emption and release move only jobs that are not
DONE, and none of them back to the delay list.
-/

namespace Sys2Proof.Machine

open Sys2Proof

/-! The jobs of a descriptor. -/

/-- The jobs listed at a descriptor; the first is the one that `kfind` reads. -/
def jobsAt (s : State) (d : Nat) : List Job := (s.sched.jobs.filter (fun e => e.1 == d)).map Prod.snd

theorem mem_jobsAt {s : State} {d : Nat} {j : Job} : j ∈ jobsAt s d ↔ (d, j) ∈ s.sched.jobs := by
  simp [jobsAt]

theorem head_filter_key {α : Type} (m : KMap α) (d : Nat) :
    ((m.filter (fun e => e.1 == d)).map Prod.snd).head? = kfind m d := by
  induction m with
  | nil => rfl
  | cons e r ih =>
    obtain ⟨k, v⟩ := e
    by_cases hk : k = d
    · simp [kfind, hk]
    · simpa [kfind, hk, Ne.symm hk] using ih

theorem kfind_eq_head (s : State) (d : Nat) : kfind s.sched.jobs d = (jobsAt s d).head? :=
  (head_filter_key s.sched.jobs d).symm

theorem mem_jobsAt_of_kfind {s : State} {d : Nat} {j : Job} (h : kfind s.sched.jobs d = some j) : j ∈ jobsAt s d :=
  mem_jobsAt.mpr (mem_of_kfind h)

theorem jobsAt_congr {s t : State} (h : t.sched.jobs = s.sched.jobs) (d : Nat) : jobsAt t d = jobsAt s d := by
  rw [jobsAt, jobsAt, h]

theorem map_key_filter {α : Type} (m : KMap α) (i d : Nat) (f : α → α) :
    ((m.map (fun e => if e.1 = i then (e.1, f e.2) else e)).filter (fun e => e.1 == d)).map Prod.snd =
      if d = i then ((m.filter (fun e => e.1 == d)).map Prod.snd).map f else (m.filter (fun e => e.1 == d)).map Prod.snd := by
  have key (e : Nat × α) : (if e.1 = i then (e.1, f e.2) else e).1 = e.1 := by
    split <;> rfl
  simp only [List.filter_map, Function.comp_def, key]
  split
  next same =>
    rw [List.map_map, List.map_map]
    refine List.map_congr_left fun e he => ?_
    have at_ : e.1 = i := (beq_iff_eq.mp (List.mem_filter.mp he).2).trans same
    exact congrArg Prod.snd (if_pos at_)
  next other =>
    rw [List.map_map]
    refine List.map_congr_left fun e he => ?_
    have at_ : e.1 ≠ i := fun h => other ((beq_iff_eq.mp (List.mem_filter.mp he).2).symm.trans h)
    exact congrArg Prod.snd (if_neg at_)

theorem jobsAt_modJob (i : Nat) (f : Job → Job) (s : State) (d : Nat) :
    jobsAt (modJob i f s) d = if d = i then (jobsAt s d).map f else jobsAt s d :=
  map_key_filter s.sched.jobs i d f

/-- Some job of the list is not DONE. -/
def Unfinished (js : List Job) : Prop := ∃ j ∈ js, j.st ≠ .done

/-- Neither DONE nor on the delay list. -/
def JobState.active : JobState → Bool
  | .waiting | .ready | .running => true
  | .delayed | .done => false

theorem JobState.active_ne {c : JobState} (h : c.active = true) : c ≠ .done ∧ c ≠ .delayed := by
  constructor <;> rintro rfl <;> cases h

/-- The first job of the list has left the delay list. -/
def Released (js : List Job) : Prop := ∃ j, js.head? = some j ∧ j.st ≠ .delayed

/-- What the scheduler makes of a descriptor's jobs: they stay, or, where one was not DONE, all of them are active. -/
inductive Advanced (js : List Job) : List Job → Prop
  | same : Advanced js js
  | moved {ks : List Job} (before : Unfinished js) (nonempty : ks ≠ []) (after : ∀ k ∈ ks, k.st.active = true) :
      Advanced js ks

namespace Advanced

variable {js ks ls : List Job}

theorem unfinished (a : Advanced js ks) (h : Unfinished js) : Unfinished ks := by
  cases a with
  | same => exact h
  | moved before nonempty after =>
    obtain ⟨k, hk⟩ := List.exists_mem_of_ne_nil ks nonempty
    exact ⟨k, hk, (JobState.active_ne (after k hk)).1⟩

theorem trans (a : Advanced js ks) (b : Advanced ks ls) : Advanced js ls := by
  cases a with
  | same => exact b
  | moved before nonempty after =>
    cases b with
    | same => exact .moved before nonempty after
    | moved _ nonempty after => exact .moved before nonempty after

/-- Jobs that are all DONE stay as they are; so does a descriptor that is FREE. -/
theorem eq_of_done (a : Advanced js ks) (h : ∀ j ∈ js, j.st = .done) : ks = js := by
  cases a with
  | same => rfl
  | moved before nonempty after =>
    obtain ⟨j, hj, unfinished⟩ := before
    exact absurd (h j hj) unfinished

theorem released (a : Advanced js ks) (h : Released js) : Released ks := by
  cases a with
  | same => exact h
  | moved before nonempty after =>
    exact ⟨ks.head nonempty, List.head?_eq_some_head nonempty, (JobState.active_ne (after _ (List.head_mem nonempty))).2⟩

end Advanced

/-! What the scheduler's work makes of the jobs. -/

/-- Every descriptor's jobs have stayed or moved on, and the delay list has stayed. -/
structure Ran (s t : State) : Prop where
  delay : t.sched.delay = s.sched.delay
  jobs : ∀ d, Advanced (jobsAt s d) (jobsAt t d)

theorem Ran.of_sched {s t : State} (delay : t.sched.delay = s.sched.delay) (jobs : t.sched.jobs = s.sched.jobs) : Ran s t :=
  ⟨delay, fun d => by rw [jobsAt_congr jobs]; exact .same⟩

/-- Work that leaves the scheduler's own part. -/
theorem Ran.of_follows {c : Touch} {s t : State} (f : Follows c s t) (hc : c.sched = false) : Ran s t :=
  .of_sched (congrArg SchedS.delay (f.sched hc)) (congrArg SchedS.jobs (f.sched hc))

theorem Ran.refl (s : State) : Ran s s := .of_sched rfl rfl

theorem Ran.trans {s t u : State} (a : Ran s t) (b : Ran t u) : Ran s u :=
  ⟨b.delay.trans a.delay, fun d => (a.jobs d).trans (b.jobs d)⟩

section Work

variable {s : State} {i : Nat}

theorem bump_ran (a : Nat) (s : State) : Ran s (bump a s) :=
  .of_follows (bump_fol (kc := { regs := true }) rfl (.refl _ s)) rfl

theorem depthMax_ran (k : Nat) (s : State) : Ran s (depthMax k s) :=
  .of_follows (depthMax_fol (kc := { regs := true }) rfl (.refl _ s)) rfl

theorem modEng_ran (e : Nat) (f : Eng → Eng) (s : State) : Ran s (modEng e f s) := .of_sched rfl rfl

theorem stopEng_ran (e c : Nat) (s : State) : Ran s (stopEng e c s) := .of_sched rfl rfl

/-- A job that is not DONE changed to an active one. -/
theorem modJob_ran (h : Unfinished (jobsAt s i)) {f : Job → Job} (active : ∀ j, (f j).st.active = true) :
    Ran s (modJob i f s) := by
  refine ⟨rfl, fun d => ?_⟩
  rw [jobsAt_modJob]
  split
  · subst d
    obtain ⟨j, hj, -⟩ := id h
    refine .moved h (List.ne_nil_of_mem (List.mem_map_of_mem hj)) fun k hk => ?_
    obtain ⟨j, -, rfl⟩ := List.mem_map.mp hk
    exact active j
  · exact .same

theorem startJob_ran (h : Unfinished (jobsAt s i)) (e : Nat) : Ran s (startJob i e s) := by
  unfold startJob
  dsimp only
  split
  · exact .refl s
  · exact (modJob_ran h fun _ => by rfl).trans (modEng_ran _ _ _)

theorem preemptJob_ran (h : Unfinished (jobsAt s i)) (j : Job) : Ran s (preemptJob i j s) := by
  have stopped := stopEng_ran j.engine j.cls s
  unfold preemptJob
  dsimp only
  exact (stopped.trans (modJob_ran ((stopped.jobs i).unfinished h) fun _ => by rfl)).trans (bump_ran _ _)

/-- The first under an order is one of the list. -/
theorem firstBy_mem {lt : (Nat × Job) → (Nat × Job) → Bool} {l : List (Nat × Job)} {x : Nat × Job}
    (h : firstBy lt l = some x) : x ∈ l := by
  induction l generalizing x with
  | nil => cases h
  | cons y r ih =>
    rw [firstBy] at h
    split at h
    · cases h
      exact List.mem_cons_self
    · split at h <;> cases h
      · exact List.mem_cons_of_mem _ (ih ‹_›)
      · exact List.mem_cons_self

/-- The first of the jobs that a test keeps is unfinished where the test keeps no job that is DONE. -/
theorem firstBy_unfinished {lt : (Nat × Job) → (Nat × Job) → Bool} {p : Nat × Job → Bool} {x : Nat × Job}
    (h : firstBy lt (s.sched.jobs.filter p) = some x) (hp : ∀ e, p e = true → e.2.st ≠ .done) :
    Unfinished (jobsAt s x.1) :=
  have ⟨listed, kept⟩ := List.mem_filter.mp (firstBy_mem h)
  ⟨x.2, mem_jobsAt.mpr listed, hp x kept⟩

theorem dispatch_ran (n k : Nat) (s : State) : Ran s (dispatch n k s) := by
  induction n generalizing s with
  | zero => exact .refl s
  | succ n ih =>
    unfold dispatch
    split
    next e x _ first =>
      have ready : Unfinished (jobsAt s x.1) := firstBy_unfinished first fun e kept done => by
        simp [done] at kept
      exact (startJob_ran ready e).trans (ih _)
    next => exact .refl s

theorem tryPreempt_ran (i : Nat) (s : State) : Ran s (tryPreempt i s) := by
  unfold tryPreempt
  dsimp only
  split
  · exact .refl s
  next j found =>
    split
    · exact .refl s
    next ready =>
      have unfinished : Unfinished (jobsAt s i) := ⟨j, mem_jobsAt_of_kfind found, fun done => ready (by simp [done])⟩
      have takes (x : Nat × Job) (h : Unfinished (jobsAt s x.1)) : Ran s (startJob i x.2.engine (preemptJob x.1 x.2 s)) :=
        have left := preemptJob_ran h x.2
        left.trans (startJob_ran ((left.jobs i).unfinished unfinished) _)
      split
      next x first =>
        split
        · refine takes x (firstBy_unfinished (s := s) (List.filter_filter ▸ first) fun e kept done => ?_)
          simp [done] at kept
        · exact .refl s
      next =>
        split
        next x last =>
          split
          · refine takes x (firstBy_unfinished last fun e kept done => ?_)
            simp [done] at kept
          · exact .refl s
        next => exact .refl s

/-- A job that becomes READY has left the delay list. -/
theorem readyJob_ran (h : Unfinished (jobsAt s i)) : Ran s (readyJob i s) := by
  unfold readyJob
  split
  · exact .refl s
  · dsimp only
    exact (((modJob_ran h fun _ => by rfl).trans (depthMax_ran _ _)).trans (dispatch_ran _ _ _)).trans (tryPreempt_ran _ _)

theorem wakeChain_ran (c o : Nat) (s : State) : Ran s (wakeChain c o s) := by
  unfold wakeChain
  split
  next x first =>
    refine readyJob_ran (firstBy_unfinished first fun e kept done => ?_)
    simp [done] at kept
  next => exact .refl s

end Work

end Sys2Proof.Machine

/-!
Jobs as commands (11_scheduler R307, R308, R311, R317, R318, R323): completion, retirement, the delay list, the budget window and
WAIT_CLR.
-/

namespace Sys2Proof.Machine

open Sys2Proof

/-! Completion and retirement (R307, R318; 02_journal R46). -/

/-- A job that is DONE with a status, in time or late. -/
def Job.completed (late : Bool) (st : Nat) (j : Job) : Job :=
  { j with st := .done, status := lateIf late st, flight := false, late := late || j.late }

/-- A job marked late (R318). -/
def Job.markedLate (j : Job) : Job := { j with late := true, status := lateIf true j.status }

/-- The completion of a job but for what it frees, wakes and lets run. -/
def closeJob (i st : Nat) (j : Job) (s : State) : State :=
  let s1 := if j.st = .running then stopEng j.engine j.cls s else s
  let s2 := modJob i (fun j => { j with st := .done, status := st, flight := false }) s1
  bumpW Addr.SCHED_CLASS_SEL j.cls Addr.SCHED_CLASS_CNT_JOBS (if deadlineOf j < nowUs s then markLate i j s2 else s2)

theorem completeJob_eq {i st : Nat} {j : Job} {s : State} (h : kfind s.sched.jobs i = some j) :
    completeJob i st s = dispatch 31 j.kind (wakeChain j.cls j.object
      (if j.covered then closeJob i st j s else freeJob i (closeJob i st j s))) := by
  rw [completeJob, h]
  rfl

/-- What a completion wakes and lets run comes after its own descriptor is settled. -/
theorem completeJob_ran {i st : Nat} {j : Job} {s : State} (h : kfind s.sched.jobs i = some j) :
    Ran (if j.covered then closeJob i st j s else freeJob i (closeJob i st j s)) (completeJob i st s) := by
  rw [completeJob_eq h]
  exact (wakeChain_ran _ _ _).trans (dispatch_ran _ _ _)

theorem bump_sched (a : Nat) (s : State) : (bump a s).sched = s.sched :=
  (bump_fol (kc := { regs := true }) rfl (.refl _ s)).sched rfl

theorem bumpW_sched (sel w a : Nat) (s : State) : (bumpW sel w a s).sched = s.sched :=
  (bumpW_fol (kc := { regs := true }) rfl (.refl _ s)).sched rfl

theorem evTrig_sched (n : Nat) (l : List Nat) (s : State) : (evTrig n l s).sched = s.sched :=
  (evTrig_fol (kc := { regs := true, evr := true }) rfl rfl (.refl _ s)).sched rfl

/-- The late mark changes its own job and names it as the last late one (R318). -/
theorem markLate_sched (i : Nat) (j : Job) (s : State) : (markLate i j s).sched =
    { (modJob i Job.markedLate s).sched with
      lateCls := j.cls, lateEng := j.engine, lateOver := sat 16 (nowUs s - deadlineOf j) } := by
  unfold markLate
  dsimp only
  split
  · rw [evTrig_sched, modJob, updSched_sched, updSched_sched, bumpW_sched, bump_sched]
    rfl
  · rw [modJob, updSched_sched, updSched_sched, bumpW_sched, bump_sched]
    rfl

theorem jobsAt_markLate (i : Nat) (j : Job) (s : State) : jobsAt (markLate i j s) i = (jobsAt s i).map Job.markedLate := by
  have jobs : (markLate i j s).sched.jobs = (modJob i Job.markedLate s).sched.jobs := by rw [markLate_sched]
  rw [jobsAt_congr jobs, jobsAt_modJob, if_pos rfl]

theorem jobsAt_bumpW (sel w a : Nat) (s : State) (d : Nat) : jobsAt (bumpW sel w a s) d = jobsAt s d :=
  jobsAt_congr (congrArg SchedS.jobs (bumpW_sched sel w a s)) d

theorem jobsAt_stopEng (e c : Nat) (s : State) (d : Nat) : jobsAt (stopEng e c s) d = jobsAt s d := jobsAt_congr rfl d

/-- What a completion makes of its descriptor's jobs: ERR_LATE where the deadline has passed (R307, R318). -/
theorem jobsAt_closeJob (i st : Nat) (j : Job) (s : State) : jobsAt (closeJob i st j s) i =
    (jobsAt s i).map (Job.completed (decide (deadlineOf j < nowUs s)) st) := by
  have stopped : jobsAt (if j.st = .running then stopEng j.engine j.cls s else s) i = jobsAt s i := by
    split
    · exact jobsAt_stopEng _ _ s i
    · rfl
  rw [closeJob, jobsAt_bumpW, ← stopped]
  by_cases late : deadlineOf j < nowUs s
  · rw [if_pos late, decide_eq_true late, jobsAt_markLate, jobsAt_modJob, if_pos rfl, List.map_map]
    rfl
  · rw [if_neg late, decide_eq_false late, jobsAt_modJob, if_pos rfl]
    rfl

theorem closeJob_stalled (i st : Nat) (j : Job) (s : State) : (closeJob i st j s).sched.stalled = s.sched.stalled := by
  unfold closeJob
  dsimp only
  have stopped : (if j.st = .running then stopEng j.engine j.cls s else s).sched.stalled = s.sched.stalled := by
    split <;> rfl
  rw [bumpW_sched, ← stopped]
  split
  · rw [markLate_sched]
    rfl
  · rfl

/-- A descriptor freed while no creation waits (R307, R309). -/
theorem freeJob_eq {s : State} (h : s.sched.stalled = []) (i : Nat) :
    freeJob i s = s.updSched fun c => { c with jobs := kdel c.jobs i } := by
  simp [freeJob, h, unstall]

section Commands

variable {s : State} {d st : Nat} {j : Job}

theorem execJobComplete_eq (h : kfind s.sched.jobs d = some j) (run : j.st = .running) :
    exec (.jobComplete d st) s = .next (completeJob d st s) := by
  show execJobComplete d st s = _
  simp only [execJobComplete, h, if_pos run]

/-- A covered job that completes is DONE, with ERR_LATE where its deadline has passed (R318). -/
theorem execJobComplete_done (h : kfind s.sched.jobs d = some j) (run : j.st = .running) (covered : j.covered = true) :
    ∃ t k, exec (.jobComplete d st) s = .next t ∧ kfind t.sched.jobs d = some k ∧ k.st = .done ∧
      k.status = lateIf (decide (deadlineOf j < nowUs s)) st := by
  have jobs := jobsAt_closeJob d st j s
  have after := (completeJob_ran (st := st) h).jobs d
  rw [if_pos covered] at after
  have stays := after.eq_of_done fun k hk => by
    rw [jobs] at hk
    obtain ⟨_, -, rfl⟩ := List.mem_map.mp hk
    rfl
  refine ⟨_, j.completed (decide (deadlineOf j < nowUs s)) st, execJobComplete_eq h run, ?_, rfl, rfl⟩
  rw [kfind_eq_head, stays, jobs, List.head?_map, ← kfind_eq_head, h]
  rfl

/-- A job that is not covered frees its descriptor as it completes (R307). -/
theorem execJobComplete_frees (h : kfind s.sched.jobs d = some j) (run : j.st = .running) (covered : j.covered = false)
    (stalled : s.sched.stalled = []) : ∃ t, exec (.jobComplete d st) s = .next t ∧ kfind t.sched.jobs d = none := by
  have free : kfind (freeJob d (closeJob d st j s)).sched.jobs d = none := by
    rw [freeJob_eq ((closeJob_stalled d st j s).trans stalled)]
    exact kfind_kdel.trans (if_pos rfl)
  rw [kfind_eq_head, List.head?_eq_none_iff] at free
  have after := (completeJob_ran (st := st) h).jobs d
  rw [if_neg (Bool.eq_false_iff.mp covered), free] at after
  refine ⟨_, execJobComplete_eq h run, ?_⟩
  rw [kfind_eq_head, after.eq_of_done nofun]
  rfl

/-- A DONE job retires once every earlier one has (R307, 02_journal R46). -/
theorem execJobRetire_frees (h : kfind s.sched.jobs d = some j) (done : j.st = .done) (first : canRetire s j = true)
    (stalled : s.sched.stalled = []) :
    ∃ t, exec (.jobRetire d) s = .next t ∧ t.sched = { s.sched with jobs := kdel s.sched.jobs d } := by
  refine ⟨freeJob d s, ?_, congrArg State.sched (freeJob_eq stalled d)⟩
  show execJobRetire d s = _
  simp only [execJobRetire, h, if_pos (And.intro done first)]

end Commands

/-! The delay list (R317). -/

/-- One job of the delay list released: WAITING behind an earlier one of its object, or READY. -/
def releaseJob (i : Nat) (s : State) : State :=
  match kfind s.sched.jobs i with
  | some j =>
    if j.st = .delayed then
      if chainedTo s j then modJob i (fun j => { j with st := .waiting, chained := true }) s else readyJob i s
    else s
  | none => s

/-- A tick that has come releases the first job of the list, then the others. -/
theorem releaseTick_cons {n tick t i : Nat} {r : List (Nat × Nat)} {s : State} (h : s.sched.delay = (t, i) :: r)
    (due : t ≤ tick) : releaseTick (n + 1) tick s =
      releaseTick n tick (releaseJob i (s.updSched fun c => { c with delay := r })) := by
  rw [releaseTick, h]
  dsimp only
  rw [if_neg (Nat.not_lt.mpr due), releaseJob]
  cases kfind (s.updSched fun c => { c with delay := r }).sched.jobs i with
  | none => rfl
  | some j =>
    dsimp only
    split
    · split <;> rfl
    · rfl

/-- Without a tick that has come nothing is released. -/
theorem releaseTick_rest {n tick : Nat} {s : State} (h : ∀ e, s.sched.delay.head? = some e → tick < e.1) :
    releaseTick n tick s = s := by
  cases n with
  | zero => rfl
  | succ n =>
    rw [releaseTick]
    split
    · rfl
    next t i r list => exact if_pos (h (t, i) (by rw [list]; rfl))

theorem releaseJob_ran (i : Nat) (s : State) : Ran s (releaseJob i s) := by
  unfold releaseJob
  split
  next j found =>
    split
    next delayed =>
      have unfinished : Unfinished (jobsAt s i) := ⟨j, mem_jobsAt_of_kfind found, delayed ▸ nofun⟩
      split
      · exact modJob_ran unfinished fun _ => rfl
      · exact readyJob_ran unfinished
    next => exact .refl s
  next => exact .refl s

/-- What `modJob` leaves at its own descriptor, where it leaves no job delayed. -/
theorem modJob_released {s : State} {i : Nat} {j : Job} (h : kfind s.sched.jobs i = some j) {f : Job → Job}
    (active : (f j).st ≠ .delayed) : Released (jobsAt (modJob i f s) i) := by
  refine ⟨f j, ?_, active⟩
  rw [jobsAt_modJob, if_pos rfl, List.head?_map, ← kfind_eq_head, h]
  rfl

theorem readyJob_released {s : State} {i : Nat} {j : Job} (h : kfind s.sched.jobs i = some j) :
    Released (jobsAt (readyJob i s) i) := by
  rw [readyJob, h]
  dsimp only
  exact ((((depthMax_ran _ _).trans (dispatch_ran _ _ _)).trans (tryPreempt_ran _ _)).jobs i).released
    (modJob_released h (by exact nofun))

theorem releaseJob_released {s : State} {i : Nat} {j : Job} (h : kfind s.sched.jobs i = some j) :
    Released (jobsAt (releaseJob i s) i) := by
  rw [releaseJob, h]
  dsimp only
  split
  · split
    · exact modJob_released h nofun
    · exact readyJob_released h
  next other => exact ⟨j, (kfind_eq_head s i).symm.trans h, other⟩

/-- Either no tick of the list has come, or its first has. -/
theorem delay_due (tick : Nat) (s : State) : (∀ e, s.sched.delay.head? = some e → tick < e.1) ∨
    ∃ t i r, s.sched.delay = (t, i) :: r ∧ t ≤ tick := by
  cases list : s.sched.delay with
  | nil => exact .inl nofun
  | cons e r =>
    rcases Nat.lt_or_ge tick e.1 with later | due
    · exact .inl fun x hx => by cases hx; exact later
    · exact .inr ⟨e.1, e.2, r, rfl, due⟩

/-- A job that has left the delay list does not return to it. -/
theorem releaseTick_released (n tick : Nat) {s : State} {d : Nat} (h : Released (jobsAt s d)) :
    Released (jobsAt (releaseTick n tick s) d) := by
  induction n generalizing s with
  | zero => exact h
  | succ n ih =>
    obtain rest | ⟨t, i, r, list, due⟩ := delay_due tick s
    · rwa [releaseTick_rest rest]
    · rw [releaseTick_cons list due]
      exact ih (((releaseJob_ran i _).jobs d).released h)

/-- With steps enough for the list, every tick that has come is released. -/
theorem releaseTick_head {n : Nat} (tick : Nat) {s : State} (fuel : s.sched.delay.length ≤ n) :
    ∀ e, (releaseTick n tick s).sched.delay.head? = some e → tick < e.1 := by
  induction n generalizing s with
  | zero =>
    have empty : s.sched.delay = [] := List.length_eq_zero_iff.mp (Nat.le_zero.mp fuel)
    rw [releaseTick, empty]
    exact nofun
  | succ n ih =>
    obtain rest | ⟨t, i, r, list, due⟩ := delay_due tick s
    · rwa [releaseTick_rest rest]
    · rw [releaseTick_cons list due]
      refine ih ?_
      rw [list] at fuel
      rw [(releaseJob_ran i _).delay]
      exact Nat.le_of_succ_le_succ fuel

/-- DELAY_RELEASE carries time to the first tick and releases all that it finds there (R317). -/
theorem execDelayRelease_releases {s : State} {n i : Nat} {r : List (Nat × Nat)} (list : s.sched.delay = (n, i) :: r) :
    ∃ t, exec .delayRelease s = .next t ∧ t.time.ns = max s.time.ns (n * 10000) ∧
      (∀ e, t.sched.delay.head? = some e → n < e.1) ∧
      (∀ j, kfind s.sched.jobs i = some j → j.st = .delayed → ∃ k, kfind t.sched.jobs i = some k ∧ k.st ≠ .delayed) := by
  have advanced : (advTo (n * 10000) s).sched = s.sched := (advTo_only (n * 10000) s).sched rfl
  have work := releaseTick_fol (kc := { regs := true, sched := true }) (n := r.length + 1) (k := n) rfl rfl
    (.refl _ (advTo (n * 10000) s))
  refine ⟨releaseTick (r.length + 1) n (advTo (n * 10000) s), ?_, ?_, releaseTick_head n ?_, fun j found _ => ?_⟩
  · show execDelayRelease s = _
    rw [execDelayRelease, list]
  · rw [work.time rfl, advTo_ns]
  · rw [advanced, list]
    exact Nat.le_refl _
  · rw [releaseTick_cons (advanced ▸ list) (Nat.le_refl n), kfind_eq_head]
    rw [← advanced] at found
    exact releaseTick_released _ _ (releaseJob_released found)

/-! The budget window (R311). -/

/-- Dispatch charges no class and leaves the window. -/
theorem dispatch_window (n k : Nat) (s : State) :
    (dispatch n k s).sched.used = s.sched.used ∧ (dispatch n k s).sched.winStart = s.sched.winStart := by
  have started (i e : Nat) (u : State) :
      (startJob i e u).sched.used = u.sched.used ∧ (startJob i e u).sched.winStart = u.sched.winStart := by
    unfold startJob
    dsimp only
    split <;> exact ⟨rfl, rfl⟩
  induction n generalizing s with
  | zero => exact ⟨rfl, rfl⟩
  | succ n ih =>
    unfold dispatch
    split
    next e x _ _ => exact ⟨(ih _).1.trans (started x.1 e s).1, (ih _).2.trans (started x.1 e s).2⟩
    next => exact ⟨rfl, rfl⟩

/-- The state at the start of a window, before any dispatch. -/
def openWindow (start : Nat) (s : State) : State :=
  (rollEngines start (advTo start s)).updSched fun c => { c with used := [], winStart := start }

theorem openWindow_time (start : Nat) (s : State) : (openWindow start s).time.ns = max s.time.ns start := advTo_ns start s

/-- Dispatch over kinds leaves a window as it opened. -/
theorem dispatchAll_window (kinds : List Nat) (start : Nat) (s : State) :
    (kinds.foldl (fun u k => dispatch 31 k u) (openWindow start s)).sched.used = [] ∧
      (kinds.foldl (fun u k => dispatch 31 k u) (openWindow start s)).sched.winStart = start := by
  refine List.foldlRecOn _ _ (motive := fun v : State => v.sched.used = [] ∧ v.sched.winStart = start) ⟨rfl, rfl⟩
    fun v ⟨used, opened⟩ k _ => ?_
  rw [(dispatch_window 31 k v).1, (dispatch_window 31 k v).2]
  exact ⟨used, opened⟩

/-- Dispatch takes no time. -/
theorem dispatchAll_time (kinds : List Nat) (s : State) : (kinds.foldl (fun u k => dispatch 31 k u) s).time = s.time :=
  (foldl_fol (c := { sched := true }) (fun _ _ f => dispatch_fol rfl f) (.refl _ s)).time rfl

/-- The end of a window comes after any instant in it. -/
theorem le_windowEnd (n w : Nat) (h : 0 < w) : n ≤ (n / w + 1) * w :=
  Nat.le_of_lt (Nat.lt_mul_of_div_lt (Nat.lt_succ_self _) h)

/-- A window that ends leaves nothing used in the next, which starts at its end (R311). -/
theorem execBudgetWindow_opens (s : State) : ∃ t, exec .budgetWindow s = .next t ∧ t.sched.used = [] ∧
    t.time.ns = (now s / 100000000 + 1) * 100000000 ∧ t.sched.winStart = t.time.ns := by
  have run : exec .budgetWindow s = .next ((List.range 9).foldl (fun u k => dispatch 31 k u)
      (openWindow ((now s / 100000000 + 1) * 100000000) s)) := rfl
  have later : s.time.ns ≤ (now s / 100000000 + 1) * 100000000 := le_windowEnd (now s) 100000000 (by decide)
  generalize (now s / 100000000 + 1) * 100000000 = start at run later ⊢
  obtain ⟨used, opened⟩ := dispatchAll_window (List.range 9) start s
  have time : ((List.range 9).foldl (fun u k => dispatch 31 k u) (openWindow start s)).time.ns = start := by
    rw [dispatchAll_time, openWindow_time, max_eq_right later]
  exact ⟨_, run, used, time, opened.trans time.symm⟩

/-! SCHED_ENG_CTRL (R323). -/

/-- The entry of a request leaves the engine that SCHED_ENG_SEL selects. -/
theorem Entered.selEngine {h : GmpHdr} {x : Session} {b : GmpBody} {s u : State} (e : Entered h x b s u) :
    selEngine u = selEngine s :=
  cfg_words e.words (by decide)

theorem engOf_modEng_self (e : Nat) (f : Eng → Eng) (s : State) : engOf (modEng e f s) e = f (engOf s e) := by
  show kget Eng.zero (kmod Eng.zero s.sched.eng e f) e = f (kget Eng.zero s.sched.eng e)
  rw [kget_kmod, if_pos rfl]

/-- WAIT_CLR resets the wait extremes of the selected engine (R323). -/
theorem execWaitClr_clears {h : GmpHdr} {x : Session} {s : State} (m : GmpMay h x 1 10 s) :
    ∃ t, exec (.waitClr h) s = .next t ∧ Answered h 0x02 stOk (indexBody 0xFFFF) s t ∧
      (engOf t (selEngine s)).waitMin = 0xFFFFFFFF ∧ (engOf t (selEngine s)).waitMax = 0 := by
  obtain ⟨u, e, answered, rest⟩ := gmpWord_answers m Addr.SCHED_ENG_CTRL 1#32 (f := engCtrlWord 1#32)
    (c := { sched := true }) rfl rfl (fun u => engCtrlWord_fol rfl (.refl _ u))
  have word : engCtrlWord 1#32 u = (waitClr (selEngine u) u, stOk) := if_pos (by decide)
  rw [word, e.selEngine] at answered rest
  refine ⟨_, rfl, answered, ?_⟩
  rw [engOf, rest.sched rfl, ← engOf, waitClr, engOf_modEng_self]
  exact ⟨rfl, rfl⟩

/-- Settles O36: what follows a completion or a release runs and wakes only jobs that are not DONE, and delays none. -/
theorem jobsCompleteRetireAndRelease : Obligations.JobsCompleteRetireAndRelease := by
  refine fun s => ⟨fun d st j found run covered => execJobComplete_done found run covered,
    fun d st j found run covered stalled => execJobComplete_frees found run covered stalled,
    fun d j found done first stalled => execJobRetire_frees found done first stalled,
    fun n i r list => execDelayRelease_releases list, execBudgetWindow_opens s, fun h x m => execWaitClr_clears m⟩

end Sys2Proof.Machine

/-!
What a request is decided on (17_host R437 to R441, 11_scheduler R303, R310): its entry and the count of its admission leave
the engines, and the room of every other class.
-/

namespace Sys2Proof.Machine

open Sys2Proof

/-- A list with an element replaced is the library's. -/
theorem lset_eq_set {α : Type} (l : List α) (i : Nat) (v : α) : lset l i v = l.set i v := by
  induction l generalizing i with
  | nil => rfl
  | cons a r ih => cases i with
    | zero => rfl
    | succ n => exact congrArg (a :: ·) (ih n)

/-! What a state shows after work that names its parts. -/

section Shown

variable {c : Touch} {P : Nat → Bool} {s t : State}

/-- Work that leaves the registers leaves every word in force. -/
theorem Follows.forceW (f : Follows c s t) (regs : c.regs = false) (k : Nat) : forceW t k = forceW s k := by
  rw [Machine.forceW, Machine.forceW, f.regs regs, f.part]

/-- Work that leaves the registers leaves every field in force. -/
theorem Follows.cfg (f : Follows c s t) (regs : c.regs = false) (a hi lo : Nat) : cfg t a hi lo = cfg s a hi lo := by
  rw [Machine.cfg, Machine.cfg, f.forceW regs]

/-- Work that leaves the registers leaves every bit in force. -/
theorem Follows.cfgB (f : Follows c s t) (regs : c.regs = false) (a i : Nat) : cfgB t a i = cfgB s a i := by
  rw [Machine.cfgB, Machine.cfgB, f.forceW regs]

/-- A bit in force of a word that stays. -/
theorem cfgB_words {a i : Nat} (w : Words P s t) (other : P (rkey a) = false) : cfgB t a i = cfgB s a i := by
  rw [Machine.cfgB, Machine.cfgB, w.words _ other]

/-- The engines of a part are as usable as what the scheduler keeps of them and FIX_ENG_CTRL say (11_scheduler R303). -/
theorem engUsable_words (w : Words P s t) (other : P (rkey Addr.FIX_ENG_CTRL) = false) (eng : t.sched.eng = s.sched.eng) (e : Nat) :
    engUsable t e = engUsable s e := by
  rw [engUsable, engUsable, engEnabled, engEnabled, engOf, engOf, eng, w.part, cfgB_words w other]

/-- Work that leaves the registers and the scheduler leaves the engines as usable as they are. -/
theorem Follows.engUsable (f : Follows c s t) (regs : c.regs = false) (sched : c.sched = false) (e : Nat) :
    engUsable t e = engUsable s e :=
  engUsable_words (Words.of_follows (P := fun _ => false) f regs) rfl (congrArg SchedS.eng (f.sched sched)) e

/-- The role is what holds the token (16_pair R409). -/
theorem Follows.holdsToken (f : Follows c s t) (role : c.role = false) : holdsToken t = holdsToken s := by
  rw [Machine.holdsToken, Machine.holdsToken, f.role role]

/-! A part that is changed leaves the words in force. -/

@[simp] theorem cfg_updKey {f : KeyS → KeyS} {a hi lo : Nat} : cfg (s.updKey f) a hi lo = cfg s a hi lo := rfl
@[simp] theorem cfg_updNvm {f : NvmS → NvmS} {a hi lo : Nat} : cfg (s.updNvm f) a hi lo = cfg s a hi lo := rfl
@[simp] theorem cfg_updPair {f : PairS → PairS} {a hi lo : Nat} : cfg (s.updPair f) a hi lo = cfg s a hi lo := rfl
@[simp] theorem cfg_updGmp {f : GmpS → GmpS} {a hi lo : Nat} : cfg (s.updGmp f) a hi lo = cfg s a hi lo := rfl
@[simp] theorem cfg_updMem {f : MemS → MemS} {a hi lo : Nat} : cfg (s.updMem f) a hi lo = cfg s a hi lo := rfl
@[simp] theorem cfg_updPcr {f : PcrS → PcrS} {a hi lo : Nat} : cfg (s.updPcr f) a hi lo = cfg s a hi lo := rfl
@[simp] theorem cfg_updEvr {f : EvrS → EvrS} {a hi lo : Nat} : cfg (s.updEvr f) a hi lo = cfg s a hi lo := rfl
@[simp] theorem cfg_updSnag {f : SnagS → SnagS} {a hi lo : Nat} : cfg (s.updSnag f) a hi lo = cfg s a hi lo := rfl
@[simp] theorem cfg_updUpd {f : UpdS → UpdS} {a hi lo : Nat} : cfg (s.updUpd f) a hi lo = cfg s a hi lo := rfl
@[simp] theorem cfg_updLkp {f : LkpS → LkpS} {a hi lo : Nat} : cfg (s.updLkp f) a hi lo = cfg s a hi lo := rfl

end Shown

/-! What leaves the block (Output): a word written gives nothing out, and what is given out changes no part. -/

/-- What is given out leaves every part of the state. -/
theorem emit_only (o : Output) (s : State) : Follows {} s (emit o s) := emit_fol (.refl _ s)

theorem emit_out (o : Output) (s : State) : (emit o s).out = s.out ++ [o] := rfl

theorem setForce_out (k : Nat) (w : Word) (s : State) : (setForce k w s).out = s.out := by rw [setForce, updRegs_out]

theorem bump_out (a : Nat) (s : State) : (bump a s).out = s.out := by rw [bump, bumpF, putFld, setForce_out]

theorem alarm_out (a b : Nat) (s : State) : (alarm a b s).out = s.out := by rw [alarm, putFld, setForce_out]

/-! What a request is decided on. -/

/-- What stands once a request's entry is written and its job counted: the scheduler keeps its engines, its jobs, and the
room of the other classes. -/
structure Decided (h : GmpHdr) (x : Session) (b : GmpBody) (s u : State) : Prop extends Entered h x b s u where
  sched : u.sched = { s.sched with admitSf := u.sched.admitSf, admitTo := u.sched.admitTo }
  room : ∀ c, c ≠ 10 → admitted u c = admitted s c

section Decided

variable {h : GmpHdr} {x : Session} {b : GmpBody} {s u : State}

theorem Decided.eng (d : Decided h x b s u) : u.sched.eng = s.sched.eng := by rw [d.sched]

theorem Decided.engOf (d : Decided h x b s u) (e : Nat) : engOf u e = engOf s e := by
  rw [Machine.engOf, Machine.engOf, d.eng]

theorem Decided.engUsable (d : Decided h x b s u) (e : Nat) : engUsable u e = engUsable s e :=
  engUsable_words d.words (by decide) d.eng e

/-- An admitted job of a class counts for that class alone (R310). -/
theorem admitTo_takes {cls : Nat} {v : State}
    (free : admitted v cls < cfgW v Addr.SCHED_CLASS_SEL cls Addr.SCHED_CLASS_CFG 30 20) :
    (admitTo cls v).2 = true ∧ Follows { sched := true } v (admitTo cls v).1 ∧
      (admitTo cls v).1.sched = { v.sched with admitSf := (admitTo cls v).1.sched.admitSf, admitTo := (admitTo cls v).1.sched.admitTo } ∧
      ∀ c, c ≠ cls → admitted (admitTo cls v).1 c = admitted v c := by
  simp only [admitTo, free, if_true]
  refine ⟨trivial, updSched_fol rfl (.refl _ v), rfl, fun c other => ?_⟩
  have beside : kget 0 (kset 0 (if v.sched.admitSf = v.jr.sf then v.sched.admitTo else []) cls (admitted v cls + 1)) c =
      kget 0 (if v.sched.admitSf = v.jr.sf then v.sched.admitTo else []) c := by rw [kget_kset, if_neg other]
  have count : admitted v c = kget 0 (if v.sched.admitSf = v.jr.sf then v.sched.admitTo else []) c := by
    rw [admitted]; split <;> rfl
  rw [count, ← beside]
  exact if_pos rfl

/-- A ready request of class 10 is decided at its position. -/
theorem gmpRequest_decided (r : GmpReady h x s) (b : GmpBody) {ok : Nat → State → Bool}
    (hok : ∀ v, Words entryWords s v → ok x.ident v = true)
    (room : admitted s 10 < cfgW s Addr.SCHED_CLASS_SEL 10 Addr.SCHED_CLASS_CFG 30 20) :
    ∃ u, Decided h x b s u ∧ ∀ f : Handler, gmpRequest h b false true ok f s =
      match f ⟨h.sess, x.ident, h.reqId, (s.jr.sf, s.jr.nextSeq), false⟩ u with
      | (v, some q) => completeReq ⟨x.ident, h.reqId⟩ q.1 q.2 v
      | (v, none) => v := by
  obtain ⟨u, e, hd⟩ := gmpRequest_done r b (adm := true) hok fun _ => room
  refine ⟨u, ?_, hd⟩
  have undecided := hd fun _ v => (v, none)
  obtain ⟨entered, w⟩ := gmpEnter_entered b r
  have sched : (gmpEnter h x.ident b (gmpSeen h s)).sched = s.sched := by
    rw [(gmpEnter_only h x.ident b (gmpSeen h s)).sched rfl, (gmpSeen_like h s).sched rfl]
  have kept (c : Nat) : admitted (gmpEnter h x.ident b (gmpSeen h s)) c = admitted s c := by
    rw [admitted, admitted, sched, (entered.fol.mark rfl).1]
  rw [gmpRequest, gmpGate_ready r] at undecided
  generalize gmpEnter h x.ident b (gmpSeen h s) = v at w undecided sched kept
  obtain ⟨taken, -, only, others⟩ := admitTo_takes (cls := 10) (v := v) (by rw [kept, cfgW_words w (by decide)]; exact room)
  simp only [gmpDecide, hok v w, Bool.not_true, Bool.false_eq_true, if_false, if_true, taken] at undecided
  have counted : u.sched = (admitTo 10 v).1.sched := by rw [← undecided]; exact bumpW_sched _ _ _ _
  refine { toEntered := e, sched := by rw [counted, only, sched], room := fun c other => ?_ }
  rw [← kept c, ← others c other, admitted, admitted, counted, ← undecided]
  rfl

/-- The right that a request holds stands at its position. -/
theorem keeps_right {right cls : Nat} (m : GmpMay h x right cls s) {v : State} (w : Words entryWords s v) :
    hasRight v x.ident right = true := by
  rw [hasRight_words w (ident_key m.known).1, m.right]

/-- A register write of one word that is not refused is decided at its position. -/
theorem gmpWord_decided {right : Nat} (m : GmpMay h x right 10 s) (a : Nat) (w : Word) :
    ∃ u, Decided h x (.write [(a, w)]) s u ∧ ∀ f : State → State × Nat, gmpWord h a w right f s =
      completeReq ⟨x.ident, h.reqId⟩ (f u).2 (indexBody (if isErr (f u).2 then 0 else 0xFFFF)) (f u).1 := by
  obtain ⟨u, d, hd⟩ := gmpRequest_decided m.toGmpReady (.write [(a, w)]) (ok := fun _ _ => true) (fun _ _ => rfl) m.room
  refine ⟨u, d, fun f => ?_⟩
  have right : hasRight u x.ident right = true := by rw [hasRight_words d.words (ident_key m.known).2, m.right]
  rw [gmpWord, hd, wordHandler]
  simp only [right, Bool.not_true, Bool.false_eq_true, if_false]
  cases isErr (f u).2 <;> rfl

/-- A register write of one word is answered, and nothing else changes after its action. -/
theorem gmpWord_settles {right : Nat} (m : GmpMay h x right 10 s) (a : Nat) (w : Word) {f : State → State × Nat} {c : Touch}
    (sess : c.sess = false) (role : c.role = false) (acts : ∀ u, Follows c u (f u).1) :
    ∃ u, Decided h x (.write [(a, w)]) s u ∧
      Answered h 0x02 (f u).2 (indexBody (if isErr (f u).2 then 0 else 0xFFFF)) s (gmpWord h a w right f s) ∧
        Follows { gmp := true, sess := true } (f u).1 (gmpWord h a w right f s) := by
  obtain ⟨u, d, hd⟩ := gmpWord_decided m a w
  refine ⟨u, d, ?_⟩
  rw [hd]
  exact ⟨completeReq_answers d.toEntered ((acts u).like sess) ((acts u).role role) (acts u).out m.toGmpReady.token _ _,
    completeReq_only _ _ _ _⟩

end Decided

end Sys2Proof.Machine

/-!
The words that records, faults and fences write (20_event_recorder R486 to R491; 07_motion_safety R213; 21_snag_sweep R498):
every other word in force stays, whatever the entry that is offered and the bay that restarts.
-/

namespace Sys2Proof.Machine

open Sys2Proof

/-- Every key but one. -/
def otherWord (k : Nat) (j : Nat) : Bool := decide (j ≠ k)

/-- A word that all the work leaves. -/
theorem Words.kept {k : Nat} {s t : State} (w : Words (otherWord k) s t) : forceW t k = forceW s k :=
  w.words k (by simp [otherWord])

/-- A field of a word that all the work leaves. -/
theorem Words.cfg {a hi lo : Nat} {s t : State} (w : Words (otherWord (rkey a)) s t) : cfg t a hi lo = cfg s a hi lo := by
  rw [Machine.cfg, Machine.cfg, w.kept]

/-- A field of a windowed word that all the work leaves. -/
theorem Words.cfgW {sel n a hi lo : Nat} {s t : State} (w : Words (otherWord (wkey sel n a)) s t) :
    cfgW t sel n a hi lo = cfgW s sel n a hi lo := by
  rw [Machine.cfgW, Machine.cfgW, w.kept]

/-- The whole of a word. -/
theorem fld_full (w : Word) : fld w 31 0 = w.toNat := by
  have small := w.isLt
  simp [fld, bitsOf]
  omega

/-- A count of a windowed register is one more, up to the end of its word (00_scope R12). -/
theorem cfgW_bumpW (sel n a : Nat) (s : State) :
    cfgW (bumpW sel n a s) sel n a 31 0 = min (2 ^ 32 - 1) (cfgW s sel n a 31 0 + 1) := by
  rw [cfgW, cfgW, bumpW, forceW_setForce, if_pos rfl, fld_full, fld_full, wordOf, BitVec.toNat_ofNat, sat]
  exact (Nat.mod_eq_of_lt (Nat.lt_of_le_of_lt (min_le_right _ _) (by decide))).trans (min_comm _ _)

/-- A windowed word is none that no selector shows. -/
theorem rkey_ne_wkey {sel n a : Nat} (lo : 0 < a) (hi : a < 2 ^ 21) (b : Nat) : rkey b ≠ wkey sel n a := by
  intro same
  have plain : rkey b % 2 ^ 21 = 0 := by rw [rkey]; omega
  have windowed : wkey sel n a % 2 ^ 21 = a := by rw [wkey]; omega
  omega

/-- `P` names the words that a record writes: the recorder's alarm and its two counts of records that it does not keep. -/
structure RecordWords (P : Nat → Bool) : Prop where
  alarm : P (rkey Addr.EVR_ALARM) = true
  lost : P (rkey Addr.EVR_CNT_LOST) = true
  discarded : P (rkey Addr.EVR_CNT_DISCARDED) = true

/-- `P` names the words that a fault writes beside its record: the alarms of the journal and the bay, and two counts. -/
structure FaultWords (P : Nat → Bool) : Prop extends RecordWords P where
  top : P (rkey Addr.TOP_CFG_ALARM) = true
  dropped : P (rkey (Addr.NET_CNT + 24)) = true
  fault : P (rkey Addr.SAFE_FAULT) = true
  stops : P (rkey Addr.SAFE_CNT_GLOBAL) = true
  pair : P (rkey Addr.PAIR_ALARM) = true
  copies : P (rkey (Addr.PAIR_CNT + 20)) = true

/-- `P` names the words that a fence writes beside the fault that it is: the sweep's count and its attention bit. -/
structure FenceWords (P : Nat → Bool) : Prop extends FaultWords P where
  fences : P (rkey (Addr.SNAG_CNT + 4)) = true
  status : P (rkey Addr.SNAG_STATUS) = true

/-- A set of words that holds all that no selector shows. -/
theorem FenceWords.of_plain {P : Nat → Bool} (plain : ∀ a, P (rkey a) = true) : FenceWords P :=
  ⟨⟨⟨plain _, plain _, plain _⟩, plain _, plain _, plain _, plain _, plain _, plain _⟩, plain _, plain _⟩

section Words

variable {P : Nat → Bool} {s0 s : State}

/-- Work that leaves the registers leaves the words. -/
theorem Words.beside {t : State} {c : Touch} (h : Words P s0 s) (f : Follows c s t) (regs : c.regs = false) : Words P s0 t :=
  h.trans (.of_follows f regs)

section Record

variable (w : RecordWords P)
include w

theorem RecordWords.evrKick (h : Words P s0 s) (n : Nat) : Words P s0 (evrKick n s) := by
  induction n generalizing s with
  | zero => exact h
  | succ n ih =>
    unfold Machine.evrKick
    split
    · exact h
    · split
      · exact h
      · split
        · exact ih (bump_words w.discarded (updEvr_words h))
        · split
          · exact alarm_words w.alarm (updEvr_words h)
          · exact updEvr_words h

theorem RecordWords.evTrig (h : Words P s0 s) (t : Nat) (d : List Nat) : Words P s0 (evTrig t d s) := by
  unfold Machine.evTrig
  split
  · exact h
  · split
    · exact alarm_words w.alarm (bump_words w.lost (updEvr_words h))
    · exact w.evrKick (updEvr_words h) _

theorem RecordWords.eligWatch (h : Words P s0 s) (old : State) : Words P s0 (eligWatch old s) := by
  unfold Machine.eligWatch
  split
  · exact w.evTrig h _ _
  · exact h

theorem RecordWords.repair (h : Words P s0 s) (action unit item tile : Nat) : Words P s0 (repair action unit item tile s) :=
  w.evTrig h _ _

end Record

section Fault

variable (w : FaultWords P)
include w

/-- What an entry or a notification writes. -/
theorem FaultWords.entry {t : State} (h : Words P s0 s) (e : Words entryWords s t) : Words P s0 t := by
  refine h.trans (e.mono fun k other => ?_)
  by_contra entered
  rw [Bool.not_eq_false, entryWords, Bool.or_eq_true, beq_iff_eq, beq_iff_eq] at entered
  rcases entered with rfl | rfl
  · exact Bool.false_ne_true (other.symm.trans w.top)
  · exact Bool.false_ne_true (other.symm.trans w.dropped)

theorem FaultWords.notify (h : Words P s0 s) (t : Nat) (p : Nat → Bool) (i : NItem) : Words P s0 (notify t p i s) :=
  w.entry h (notify_words t p i s)

theorem FaultWords.unsync (h : Words P s0 s) (reason : Nat) : Words P s0 (unsync reason s) := by
  unfold Machine.unsync
  split
  · exact w.evTrig (alarm_words w.top (alarm_words w.pair (updPair_words h))) _ _
  · exact h

theorem FaultWords.loseSync (h : Words P s0 s) (reason : Nat) : Words P s0 (loseSync reason s) :=
  (w.unsync h reason).beside (dynEval_fol (kc := { safe := true }) rfl (.refl _ _)) rfl

theorem FaultWords.liveClear (h : Words P s0 s) (m cause : Nat) : Words P s0 (liveClear m cause s) :=
  w.notify ((updSafe_words h).beside (modMach_fol (kc := { safe := true }) rfl (.refl _ _)) rfl) _ _ _

theorem FaultWords.liveGlobal (h : Words P s0 s) (cause code origin : Nat) : Words P s0 (liveGlobal cause code origin s) := by
  unfold Machine.liveGlobal
  split
  · exact h
  · extract_lets s1 s2 s3
    have cleared : Words P s0 s1 := List.foldlRecOn _ _ h fun t ht m _ => w.liveClear ht m cause
    have stopped : Words P s0 (stopAll s2) := (updSafe_words cleared).beside (stopAll_fol (kc := { safe := true }) rfl (.refl _ _)) rfl
    exact w.evTrig (w.notify (bump_words w.stops stopped) _ _ _) _ _

/-- An entry that is offered writes what its covered effect writes beside the journal's words. -/
theorem FaultWords.post (h : Words P s0 s) (p : Payload) {cov : State → State} (acts : ∀ t, Words P s0 t → Words P s0 (cov t)) :
    Words P s0 (post p cov s) := by
  unfold Machine.post
  split
  · exact h
  · split
    · exact updJr_words h
    · exact acts _ (w.entry h (jWrite_words _ _ _ _))

theorem FaultWords.faultRecord (h : Words P s0 s) : Words P s0 (faultRecord s) := by
  unfold Machine.faultRecord
  split <;> exact w.evTrig h _ _

theorem FaultWords.postFault (h : Words P s0 s) (unit code phase : Nat) : Words P s0 (postFault unit code phase s) :=
  w.post h _ fun _ ht => w.faultRecord (ht.beside (covFault_fol (kc := { safe := true }) rfl (.refl _ _)) rfl)

theorem FaultWords.faultRaise (h : Words P s0 s) (code : Nat) : Words P s0 (faultRaise code s) := by
  unfold Machine.faultRaise
  split
  · exact h
  · have watched := w.eligWatch (alarm_words (b := code - 1) w.fault (updSafe_words
      (f := fun b => { b with faults := setBitN b.faults (code - 1) true }) h)) s
    exact w.postFault ((w.liveGlobal watched 7 code 0).beside (dynEval_fol (kc := { safe := true }) rfl (.refl _ _)) rfl) _ _ _

theorem FaultWords.faultEnd (h : Words P s0 s) (code : Nat) : Words P s0 (faultEnd code s) := by
  unfold Machine.faultEnd
  split
  · exact w.postFault (updSafe_words h) _ _ _
  · exact h

theorem FaultWords.copyFail (h : Words P s0 s) : Words P s0 (copyFail s) := by
  unfold Machine.copyFail
  dsimp only
  split
  · exact w.evTrig (bump_words w.copies (alarm_words w.pair (updPair_words (updPair_words h)))) _ _
  · exact updPair_words h

theorem FaultWords.pathDown (h : Words P s0 s) (i : Nat) : Words P s0 (pathDown i s) := by
  unfold Machine.pathDown
  split
  · exact h
  · have down := w.evTrig (alarm_words (b := i) w.pair (h.beside (modPath_fol (kc := { pair := true }) (i := i)
      (f := fun p => { p with up := false, run := 0 }) rfl (.refl _ s)) rfl)) 0x20 [i, 0]
    refine w.eligWatch ?_ _
    split
    · exact w.copyFail down
    · exact down

theorem FaultWords.noCpEval (h : Words P s0 s) : Words P s0 (noCpEval s) := by
  unfold Machine.noCpEval
  split
  · exact w.faultRaise h 7
  · exact w.faultEnd h 7

end Fault

section Fence

variable (w : FenceWords P)
include w

/-- The bay's engines leave dispatch, which no register shows. -/
theorem FenceWords.startRestart (h : Words P s0 s) (b : Nat) : Words P s0 (startRestart b s) := by
  unfold Machine.startRestart
  extract_lets es s1 s2 op s3 s4
  have evicted : Follows { sched := true } s s1 := foldl_fol (fun _ _ ht => modEng_fol rfl (evictEngine_fol rfl ht)) (.refl _ s)
  have sent : Follows { sched := true } s s2 := foldl_fol (fun _ _ ht => dispatch_fol rfl ht) evicted
  have off : Words P s0 s3 := (h.beside sent rfl).beside (updSnag_fol (c := { snag := true }) rfl (modBay_fol rfl (.refl _ _))) rfl
  have done : Words P s0 s4 :=
    (w.repair (updPcr_words off) _ _ _ _).beside (dynEval_fol (kc := { safe := true }) rfl (.refl _ _)) rfl
  split
  · exact w.loseSync done 5
  · exact done

theorem FenceWords.sweepRestart (h : Words P s0 s) (b : Nat) : Words P s0 (sweepRestart b s) := by
  unfold Machine.sweepRestart
  split
  · exact h
  · split
    · exact w.startRestart h b
    · exact h

theorem FenceWords.askRestart (h : Words P s0 s) (b : Nat) : Words P s0 (askRestart b s) := by
  unfold Machine.askRestart
  split
  · exact h
  · split
    · exact w.sweepRestart (h.beside (modBay_fol (kc := { snag := true }) rfl (.refl _ s)) rfl) b
    · split
      · exact h
      · exact alarm_words w.status h

theorem FenceWords.fenceEng (h : Words P s0 s) (e : Nat) (code : Option Nat) (item : Nat) : Words P s0 (fenceEng e code item s) := by
  unfold Machine.fenceEng
  split
  · exact h
  · extract_lets s1 s2 s3 s4 s5
    have out : Follows { sched := true } s s1 := dispatch_fol rfl (evictEngine_fol rfl (modEng_fol rfl (.refl _ s)))
    have counted : Words P s0 s2 := w.repair (bump_words w.fences (h.beside out rfl)) _ _ _ _
    have told : Words P s0 s3 := by
      show Words P s0 (match code with | some c => _ | none => _)
      cases code with
      | none => exact counted
      | some c =>
        dsimp only
        split
        · exact w.postFault counted _ _ _
        · exact counted
    have link : Words P s0 s4 := by
      show Words P s0 (if e = 0x3A then _ else _)
      split
      · exact w.pathDown told 0
      · exact told
    refine w.askRestart ?_ _
    show Words P s0 (if e ≤ 1 then _ else _)
    split
    · exact w.noCpEval link
    · exact link

end Fence

end Words

end Sys2Proof.Machine

/-!
Fences (21_snag_sweep R498): what is done beside an engine that is fenced, the restart of its bay with it, leaves every fence.
-/

namespace Sys2Proof.Machine

open Sys2Proof

/-- Every engine is fenced or not as before. -/
def FencesStay (s t : State) : Prop := ∀ e, (engOf t e).fenced = (engOf s e).fenced

namespace FencesStay

variable {s t u : State}

theorem refl (s : State) : FencesStay s s := fun _ => rfl

theorem trans (a : FencesStay s t) (b : FencesStay t u) : FencesStay s u := fun e => (b e).trans (a e)

/-- Work that leaves the scheduler leaves every fence. -/
theorem of_follows {c : Touch} (f : Follows c s t) (sched : c.sched = false) : FencesStay s t := fun e => by
  rw [engOf, engOf, f.sched sched]

theorem modEng (h : FencesStay s t) (e : Nat) {f : Eng → Eng} (keep : ∀ g, (f g).fenced = g.fenced) :
    FencesStay s (modEng e f t) := fun j => by
  have changed : engOf (Machine.modEng e f t) j = if j = e then f (engOf t e) else engOf t j := kget_kmod
  rw [changed]
  split
  · next same => rw [keep, same, h e]
  · exact h j

theorem dispatch (h : FencesStay s t) (n k : Nat) : FencesStay s (dispatch n k t) :=
  h.trans fun e => ((Served.refl t).dispatch n k).service e |>.1

theorem evictEngine (h : FencesStay s t) (e : Nat) : FencesStay s (evictEngine e t) := by
  unfold Machine.evictEngine
  split
  · exact h.trans fun e => (((Served.refl t).stopEng _ _).modJob _ _).service e |>.1
  · exact h

/-- A bay that restarts keeps its engines' fences. -/
theorem startRestart (h : FencesStay s t) (b : Nat) : FencesStay s (startRestart b t) := by
  unfold Machine.startRestart
  extract_lets es s1 s2 op s3 s4
  have evicted : FencesStay s s1 := List.foldlRecOn _ _ h fun _ ht _ _ => (ht.evictEngine _).modEng _ fun _ => rfl
  have sent : FencesStay s s2 := List.foldlRecOn _ _ evicted fun _ ht _ _ => ht.dispatch _ _
  have off : Follows { regs := true, safe := true, evr := true, pcr := true, snag := true } s2 s4 :=
    dynEval_fol rfl (repair_fol rfl rfl (updPcr_fol rfl (updSnag_fol rfl (modBay_fol rfl (.refl _ _)))))
  refine (sent.trans (of_follows off rfl)).trans ?_
  split
  · exact of_follows (loseSync_fol (kc := { regs := true, safe := true, pair := true, evr := true }) rfl rfl rfl rfl (.refl _ _)) rfl
  · exact refl _

theorem askRestart (h : FencesStay s t) (b : Nat) : FencesStay s (askRestart b t) := by
  have asked := h.trans (of_follows (modBay_fol (kc := { snag := true }) (b := b) (f := fun y => { y with asked := true }) rfl
    (.refl _ t)) rfl)
  unfold Machine.askRestart sweepRestart
  split
  · exact h
  · split
    · split
      · exact asked
      · split
        · exact asked.startRestart b
        · exact asked
    · split
      · exact h
      · exact h.trans (of_follows (alarm_fol (kc := { regs := true }) rfl (.refl _ t)) rfl)

end FencesStay

/-- An engine that is fenced is fenced afterwards, and so are those that were (R498). -/
theorem fenceEng_fenced {e : Nat} {s : State} (known : isEngine s.part e = true) (code : Option Nat) (item : Nat) :
    (engOf (fenceEng e code item s) e).fenced = true := by
  unfold fenceEng
  split
  · next already => simpa [known] using already
  · extract_lets s1 s2 s3 s4 s5
    have out : (engOf s1 e).fenced = true := by
      rw [(((FencesStay.refl (modEng e (fun g => { g with fenced := true }) s)).evictEngine e).dispatch 31 (kindOf e)) e,
        engOf_modEng_self]
    have counted : Follows { regs := true, evr := true } s1 s2 := repair_fol rfl rfl (snagCnt_fol rfl (.refl _ _))
    have told : Follows { jr := true, regs := true, gmp := true, safe := true, pair := true, evr := true } s2 s3 := by
      show Follows _ s2 (match code with | some c => _ | none => _)
      cases code with
      | none => exact .refl _ _
      | some c => exact ite_fol (postFault_fol rfl rfl rfl rfl rfl rfl (.refl _ _)) (.refl _ _)
    have link : Follows { regs := true, pair := true, evr := true } s3 s4 := ite_fol (pathDown_fol rfl rfl rfl (.refl _ _)) (.refl _ _)
    have cp : Follows { jr := true, regs := true, gmp := true, safe := true, pair := true, evr := true } s4 s5 :=
      ite_fol (noCpEval_fol rfl rfl rfl rfl rfl rfl (.refl _ _)) (.refl _ _)
    have stay : FencesStay s1 (askRestart (bayOf e) s5) :=
      ((((FencesStay.of_follows counted rfl).trans (.of_follows told rfl)).trans (.of_follows link rfl)).trans
        (.of_follows cp rfl)).askRestart _
    rw [stay, out]

end Sys2Proof.Machine

/-!
Roles of the pair and what a frame of the partner shows (16_pair R410 to R413): records and alarms leave the pair's part.
-/

namespace Sys2Proof.Machine

open Sys2Proof

section Roles

variable {s : State}

/-- A change of role ends what waited for the old one. -/
theorem setRole_pair (r : Role) (code : Nat) (s : State) : (setRole r code s).pair =
    { s.pair with role := r, dual := false, handover := none, six := none, hoRx := false } := by
  rw [setRole, (dynEval_fol (kc := { safe := true }) rfl (.refl _ _)).pair rfl,
    (evTrig_fol (kc := { regs := true, evr := true }) rfl rfl (.refl _ _)).pair rfl]
  rfl

/-- The token is taken with its ROLE code due. -/
theorem toActive_pair (code : Nat) (s : State) : (toActive code s).pair.role = .active ∧ (toActive code s).pair.roleDue = some code := by
  rw [toActive, setRole_pair]
  exact ⟨rfl, rfl⟩

/-- A frame sent on the link moves its counter alone. -/
theorem sendLink_pair (typ : Nat) (body : List Nat) (s : State) :
    (sendLink typ body s).pair = { s.pair with txCounter := (sendLink typ body s).pair.txCounter } := by
  unfold sendLink
  split <;> rfl

/-- A standby begins without synchronisation. -/
theorem toStandby_pair (s : State) : (toStandby s).pair.role = .standby ∧ (toStandby s).pair.sync = false := by
  unfold toStandby
  extract_lets t _ s1
  have begins : s1.pair.role = .standby ∧ s1.pair.sync = false := by
    unfold s1
    rw [setRole_pair]
    exact ⟨rfl, rfl⟩
  split
  · rw [askCopy, sendLink_pair]
    exact begins
  · exact begins

/-- A copy that fails ends synchronisation at most. -/
theorem copyFail_pair (s : State) : (copyFail s).pair =
    { s.pair with copy := (copyFail s).pair.copy, sync := (copyFail s).pair.sync, why := (copyFail s).pair.why } := by
  unfold copyFail
  dsimp only
  split
  · rw [(evTrig_fol (kc := { regs := true, evr := true }) rfl rfl
      (bump_fol rfl (alarm_fol rfl (.refl _ _)))).pair rfl]
    rfl
  · rfl

/-- What a valid frame shows of the partner and its path is all that it changes. -/
theorem pairSeen_pair (f : PairHdr) (s : State) : (pairSeen f s).pair = { s.pair with
    link := (pairSeen f s).pair.link, wit := (pairSeen f s).pair.wit, partner := some f.role, elig := f.elig,
    copy := (pairSeen f s).pair.copy, sync := (pairSeen f s).pair.sync, why := (pairSeen f s).pair.why } := by
  unfold pairSeen
  extract_lets t s1 s2
  have seen : s2.pair = { s.pair with link := s2.pair.link, wit := s2.pair.wit, partner := some f.role, elig := f.elig } := by
    unfold s2 s1 modPath
    simp only [updPair_pair]
    split <;> rfl
  split
  · rw [copyFail_pair, seen]
  · rw [seen]

/-- A valid frame that ends no copy shows the partner and its path, and no more (R422). -/
theorem pairSeen_quiet {f : PairHdr} {s : State}
    (quiet : ¬ (f.role ≠ 1 ∧ (s.pair.copy.st = .receiving ∨ s.pair.copy.st = .applying))) : (pairSeen f s).pair = { s.pair with
      link := (pairSeen f s).pair.link, wit := (pairSeen f s).pair.wit, partner := some f.role, elig := f.elig } ∧
    Follows { pair := true } s (pairSeen f s) := by
  unfold pairSeen
  extract_lets t s1 s2
  have seen : s2.pair = { s.pair with link := s2.pair.link, wit := s2.pair.wit, partner := some f.role, elig := f.elig } := by
    unfold s2 s1 modPath
    simp only [updPair_pair]
    split <;> rfl
  have same : s2.pair.copy.st = s.pair.copy.st := by rw [seen]
  rw [same, if_neg quiet]
  exact ⟨seen, updPair_fol rfl (modPath_fol rfl (.refl _ s))⟩

/-- A valid frame of an active partner ends no copy. -/
theorem pairSeen_active {f : PairHdr} (active : f.role = 1) (s : State) : (pairSeen f s).pair = { s.pair with
    link := (pairSeen f s).pair.link, wit := (pairSeen f s).pair.wit, partner := some f.role, elig := f.elig } ∧
      Follows { pair := true } s (pairSeen f s) :=
  pairSeen_quiet fun fails => fails.1 active

/-- A valid frame leaves every part but the pair, its record and its counts. -/
theorem pairSeen_only (f : PairHdr) (s : State) : Follows { regs := true, pair := true, evr := true } s (pairSeen f s) :=
  pairSeen_fol rfl rfl rfl (.refl _ s)

end Roles

end Sys2Proof.Machine

/-!
Output balls (23_pins R521, R522): what a ball shows follows from the phase of the device, the switch of its domain and
whether the part uses it.
-/

namespace Sys2Proof.Machine

open Sys2Proof

section Balls

variable {q : OutPin} {s : State}

/-- During a device reset a ball is in its reset state. -/
theorem pinLevel_held (h : s.pcr.phase = .held) (q : OutPin) : pinLevel q s = some q.inReset := by
  simp [pinLevel, h]

/-- In standby a ball outside domain 0 is unpowered; of those in domain 0 PWR_EN is low. -/
theorem pinLevel_standby (h : s.pcr.phase = .standby) (q : OutPin) :
    pinLevel q s = some (if q = .pwrEn then .low else if q.domain = 0 then q.inReset else q.unpowered) := by
  simp [pinLevel, h]

/-- In service a ball of a domain that is on shows what its engine drives, where the part has it. -/
theorem pinLevel_up (h : s.pcr.phase = .up) (on : s.pcr.domOn.testBit q.domain = true) (used : q.absent s.part = false) :
    pinLevel q s = q.inService s := by
  simp [pinLevel, h, on, used]

/-- Outside standby a ball that the part does not use is in its reset state. -/
theorem pinLevel_absent (h : s.pcr.phase ≠ .standby) (unused : q.absent s.part = true) : pinLevel q s = some q.inReset := by
  simp [pinLevel, h, unused]

end Balls

/-- Settles O60: each clause is one branch of the level of a ball. -/
theorem outputBallsRest : Obligations.OutputBallsRest := by
  refine fun s => ⟨fun held => ⟨pinLevel_held held _, pinLevel_held held _, pinLevel_held held _, fun k => pinLevel_held held _⟩,
    fun standby => ⟨pinLevel_standby standby _, fun q outside => ?_⟩, fun up on => pinLevel_up up on rfl,
    fun k part two standby => ?_⟩
  · have other : q ≠ .pwrEn := fun hq => outside (hq ▸ rfl)
    rw [pinLevel_standby standby, if_neg other, if_neg outside]
  · have unused : (OutPin.txtrig k).absent s.part = true := by rw [part]; simpa [OutPin.absent] using two
    exact pinLevel_absent standby unused

end Sys2Proof.Machine

/-!
IPv6 rules (13_tables R358, R364, R366): the staged rule table written back, a RULE message, and the three writes of
LKP_RULE_CTRL.
-/

namespace Sys2Proof.Machine

open Sys2Proof

/-! The staged rule table. -/

/-- A table that is written back is the staged one, with its bank; nothing else of the lookup tables changes. -/
theorem setRuleTab_lkp (t : RuleTab) (s : State) :
    (setRuleTab t s).lkp = { s.lkp with stagedRules := t.recs, ruleShadow := t.bank } :=
  (countReloc_only _ _).lkp rfl

section Entry

variable {h : GmpHdr} {x : Session} {b : GmpBody} {s u : State}

/-- The entry of a request leaves the staged rule table. -/
theorem Entered.ruleTab (e : Entered h x b s u) : ruleTab u = ruleTab s := by
  rw [Machine.ruleTab, Machine.ruleTab, e.fol.lkp rfl]

/-- The entry of a request leaves the index that LKP_RULE_IDX names. -/
theorem Entered.ruleIdx (e : Entered h x b s u) : cfg u Addr.LKP_RULE_IDX 15 0 = cfg s Addr.LKP_RULE_IDX 15 0 :=
  cfg_words e.words (by decide)

/-- The entry of a request leaves the rule that the data registers spell. -/
theorem Entered.ruleOfRegs (e : Entered h x b s u) (op : Nat) : ruleOfRegs u op = ruleOfRegs s op := by
  have attr (hi lo : Nat) : cfg u Addr.LKP_RULE_ATTR hi lo = cfg s Addr.LKP_RULE_ATTR hi lo := cfg_words e.words (by decide)
  have pfx0 : cfg u (Addr.LKP_RULE_PFX + 4 * 0) 31 0 = cfg s (Addr.LKP_RULE_PFX + 4 * 0) 31 0 := cfg_words e.words (by decide)
  have pfx1 : cfg u (Addr.LKP_RULE_PFX + 4 * 1) 31 0 = cfg s (Addr.LKP_RULE_PFX + 4 * 1) 31 0 := cfg_words e.words (by decide)
  have pfx2 : cfg u (Addr.LKP_RULE_PFX + 4 * 2) 31 0 = cfg s (Addr.LKP_RULE_PFX + 4 * 2) 31 0 := cfg_words e.words (by decide)
  have pfx3 : cfg u (Addr.LKP_RULE_PFX + 4 * 3) 31 0 = cfg s (Addr.LKP_RULE_PFX + 4 * 3) 31 0 := cfg_words e.words (by decide)
  simp only [Machine.ruleOfRegs, e.ruleIdx, attr, pfx0, pfx1, pfx2, pfx3]

end Entry

/-! RULE (R364). -/

/-- Rules that all apply are staged as the table they leave. -/
theorem ruleHandler_stages {rs : List RuleRec} {c : ReqCtx} {s : State} {tab : RuleTab}
    (hf : ruleFold 0 rs (ruleTab s) = (tab, none)) :
    ruleHandler rs c s = (setRuleTab tab s, some (stOk, indexBody 0xFFFF)) := by
  rw [ruleHandler, hf]

/-- A rule that fails leaves what was staged before the message. -/
theorem ruleHandler_refuses {rs : List RuleRec} {c : ReqCtx} {s : State} {tab : RuleTab} {i st : Nat}
    (hf : ruleFold 0 rs (ruleTab s) = (tab, some (i, st))) : ruleHandler rs c s = (s, some (st, indexBody i)) := by
  rw [ruleHandler, hf]

/-- What a RULE message may change beside its entry. -/
theorem ruleHandler_only (rs : List RuleRec) (c : ReqCtx) (s : State) :
    Follows { regs := true, lkp := true } s (ruleHandler rs c s).1 :=
  ruleHandler_fol rfl rfl (.refl _ s)

section Rule

variable {h : GmpHdr} {x : Session} {s : State} {rs : List RuleRec} {tab : RuleTab}

/-- RULE with a record goes through the request gate. -/
theorem execRule_eq (hrs : rs ≠ []) :
    exec (.rule h rs) s = .next (gmpRequest h (.rule rs) false true (needs 1) (ruleHandler rs) s) := by
  rw [← List.isEmpty_eq_false_iff.mpr hrs]
  rfl

/-- RULE whose records all apply is staged whole (R364). -/
theorem execRule_stages (m : GmpMay h x 1 10 s) (hrs : rs ≠ []) (hf : ruleFold 0 rs (ruleTab s) = (tab, none)) :
    ∃ t, exec (.rule h rs) s = .next t ∧ Answered h 0x26 stOk (indexBody 0xFFFF) s t ∧
      t.lkp = { s.lkp with stagedRules := tab.recs, ruleShadow := tab.bank } := by
  obtain ⟨u, e, hd⟩ := gmpRequest_config m (.rule rs) rfl rfl (ruleHandler_only rs)
  obtain ⟨answered, rest⟩ := hd _ _ (ruleHandler_stages (e.ruleTab ▸ hf))
  exact ⟨_, execRule_eq hrs, answered, by rw [rest.lkp rfl, setRuleTab_lkp, e.fol.lkp rfl]⟩

/-- RULE with a record that fails stages nothing, and is answered with the first such record (R364). -/
theorem execRule_refuses (m : GmpMay h x 1 10 s) (hrs : rs ≠ []) {i st : Nat}
    (hf : ruleFold 0 rs (ruleTab s) = (tab, some (i, st))) :
    ∃ t, exec (.rule h rs) s = .next t ∧ Answered h 0x26 st (indexBody i) s t ∧ t.lkp = s.lkp := by
  obtain ⟨u, e, hd⟩ := gmpRequest_config m (.rule rs) rfl rfl (ruleHandler_only rs)
  obtain ⟨answered, rest⟩ := hd _ _ (ruleHandler_refuses (e.ruleTab ▸ hf))
  exact ⟨_, execRule_eq hrs, answered, (rest.lkp rfl).trans (e.fol.lkp rfl)⟩

end Rule

/-! LKP_RULE_CTRL (R366). -/

/-- A write of 1 to WRITE stages the rule that the data registers spell. -/
theorem ruleCtrlWord_write (s : State) : ruleCtrlWord 1#32 s = ruleStage 1 s := by
  have write : bit 1#32 0 = true := by decide
  have delete : bit 1#32 1 = false := by decide
  have read : bit 1#32 2 = false := by decide
  simp [ruleCtrlWord, write, delete, read]

/-- A write of 1 to DELETE stages the delete that the data registers spell. -/
theorem ruleCtrlWord_delete (s : State) : ruleCtrlWord 2#32 s = ruleStage 2 s := by
  have write : bit 2#32 0 = false := by decide
  have delete : bit 2#32 1 = true := by decide
  have read : bit 2#32 2 = false := by decide
  simp [ruleCtrlWord, write, delete, read]

/-- A write of 1 to READ alone loads the data registers. -/
theorem ruleCtrlWord_read (s : State) : ruleCtrlWord 4#32 s = ruleRead s := by
  have write : bit 4#32 0 = false := by decide
  have delete : bit 4#32 1 = false := by decide
  have read : bit 4#32 2 = true := by decide
  simp [ruleCtrlWord, write, delete, read, isErr]

/-- A staged operation leaves the table that the rule makes, and shows its status. -/
theorem ruleStage_lkp (op : Nat) (s : State) : (ruleStage op s).1.lkp =
    { s.lkp with stagedRules := (ruleApply (ruleOfRegs s op) (ruleTab s)).1.recs,
                 ruleShadow := (ruleApply (ruleOfRegs s op) (ruleTab s)).1.bank, ruleStatus := (ruleStage op s).2 } := by
  rw [ruleStage, ruleNote, updLkp_lkp, setRuleTab_lkp]

/-- The staged rule that LKP_RULE_IDX names. -/
def ruleNamed (s : State) : Option RuleRec := kfind s.lkp.stagedRules (cfg s Addr.LKP_RULE_IDX 15 0)

/-- READ is answered OK where a rule is staged, and OK_EMPTY where none is. -/
theorem ruleRead_status (s : State) : (ruleRead s).2 = if (ruleNamed s).isSome then stOk else stEmpty := rfl

/-- READ shows whether a rule is staged and the status, and leaves the tables. -/
theorem ruleRead_lkp (s : State) : (ruleRead s).1.lkp =
    { s.lkp with rulePresent := (ruleNamed s).isSome, ruleStatus := (ruleRead s).2 } := rfl

/-- A word of a rule's address bits as LKP_RULE_PFX shows it. -/
def rulePfxWord (r : RuleRec) (m : Nat) : Word := wordOf (swapBytes 4 (r.pfx / 2 ^ (32 * (3 - m)) % 2 ^ 32))

/-- The data registers loaded with a rule. -/
def ruleLoaded (r : RuleRec) (s : State) : State :=
  setForce (rkey Addr.LKP_RULE_ATTR) (wordOf (pack [(r.len, 0), (r.action, 8), (r.ports, 10)]))
    ((List.range 4).foldl (fun t m => setForce (rkey (Addr.LKP_RULE_PFX + 4 * m)) (rulePfxWord r m) t) s)

/-- Four bytes swapped are a word. -/
theorem swapBytes_word (v : Nat) : swapBytes 4 v < 2 ^ 32 := by
  have byte (n : Nat) : n % 256 < 256 := Nat.mod_lt _ (by decide)
  have b0 := byte (v / 256 ^ 0)
  have b1 := byte (v / 256 ^ 1)
  have b2 := byte (v / 256 ^ 2)
  have b3 := byte (v / 256 ^ 3)
  simp only [swapBytes, be, ofLe]
  omega

/-- The first word shows the top 32 bits of the rule's address, byte 0 lowest. -/
theorem ruleLoaded_prefix (r : RuleRec) (s : State) :
    cfg (ruleLoaded r s) Addr.LKP_RULE_PFX 31 0 = swapBytes 4 (r.pfx / 2 ^ 96 % 2 ^ 32) := by
  have shown : forceW (ruleLoaded r s) (rkey Addr.LKP_RULE_PFX) = rulePfxWord r 0 := by
    simp only [ruleLoaded, List.range_succ, List.range_zero, List.nil_append, List.foldl_append, List.foldl_cons, List.foldl_nil]
    rw [forceW_setForce, if_neg (by decide), forceW_setForce, if_neg (by decide), forceW_setForce, if_neg (by decide),
      forceW_setForce, if_neg (by decide), forceW_setForce, if_pos (by decide)]
  rw [cfg, shown, rulePfxWord]
  simpa [fld, bitsOf, wordOf] using swapBytes_word _

/-- READ of a staged rule loads the data registers with it; what it shows beside them stands in the tables' part. -/
theorem ruleRead_loads {s : State} {r : RuleRec} (hr : ruleNamed s = some r) :
    Follows { lkp := true } (ruleLoaded r s) (ruleRead s).1 := by
  unfold ruleNamed at hr
  rw [ruleRead, hr]
  exact ruleNote_fol rfl (updLkp_fol rfl (.refl _ _))

/-- READ of a staged rule shows it in LKP_RULE_PFX. -/
theorem ruleRead_prefix {s : State} {r : RuleRec} (hr : ruleNamed s = some r) :
    cfg (ruleRead s).1 Addr.LKP_RULE_PFX 31 0 = swapBytes 4 (r.pfx / 2 ^ 96 % 2 ^ 32) := by
  rw [cfg_words (Words.of_follows (P := fun _ => false) (ruleRead_loads hr) rfl) rfl, ruleLoaded_prefix]

section RuleCtrl

variable {h : GmpHdr} {x : Session} {s : State}

/-- A write of LKP_RULE_CTRL is decided on the state with its entry, and nothing but the answer follows it. -/
theorem ruleCtrl_answers (m : GmpMay h x 1 10 s) (v : Word) :
    ∃ u, Entered h x (.write [(Addr.LKP_RULE_CTRL, v)]) s u ∧
      Answered h 0x02 (ruleCtrlWord v u).2 (indexBody (if isErr (ruleCtrlWord v u).2 then 0 else 0xFFFF)) s
        (gmpWord h Addr.LKP_RULE_CTRL v 1 (ruleCtrlWord v) s) ∧
      Follows { gmp := true, sess := true } (ruleCtrlWord v u).1 (gmpWord h Addr.LKP_RULE_CTRL v 1 (ruleCtrlWord v) s) :=
  gmpWord_answers m Addr.LKP_RULE_CTRL v (c := { regs := true, lkp := true }) rfl rfl
    (fun u => ruleCtrlWord_fol rfl rfl (.refl _ u))

/-- The entry of a request leaves the staged rule that LKP_RULE_IDX names. -/
theorem Entered.ruleNamed {b : GmpBody} {u : State} (e : Entered h x b s u) : ruleNamed u = ruleNamed s := by
  rw [Machine.ruleNamed, Machine.ruleNamed, e.fol.lkp rfl, e.ruleIdx]

/-- WRITE of LKP_RULE_CTRL stages the rule of the data registers, or shows why not (R364, R366). -/
theorem execRuleWrite_stages (m : GmpMay h x 1 10 s) {tab : RuleTab} {st : Nat}
    (ha : ruleApply (ruleOfRegs s 1) (ruleTab s) = (tab, st)) :
    ∃ t, exec (.ruleWrite h) s = .next t ∧ Answered h 0x02 st (indexBody (if isErr st then 0 else 0xFFFF)) s t ∧
      t.lkp = { s.lkp with stagedRules := tab.recs, ruleShadow := tab.bank, ruleStatus := st } := by
  obtain ⟨u, e, answered, rest⟩ := ruleCtrl_answers m 1#32
  have applied : ruleApply (ruleOfRegs u 1) (ruleTab u) = (tab, st) := by rw [e.ruleOfRegs, e.ruleTab, ha]
  have status : (ruleStage 1 u).2 = st := congrArg Prod.snd applied
  rw [ruleCtrlWord_write] at answered rest
  rw [status] at answered
  refine ⟨_, rfl, answered, ?_⟩
  rw [rest.lkp rfl, ruleStage_lkp, status, applied, e.fol.lkp rfl]

/-- DELETE of LKP_RULE_CTRL stages the delete of the index, which never fails (R366). -/
theorem execRuleDelete_stages (m : GmpMay h x 1 10 s) :
    ∃ t, exec (.ruleDelete h) s = .next t ∧ Answered h 0x02 stOk (indexBody 0xFFFF) s t ∧ t.lkp.ruleStatus = stOk ∧
      t.lkp.stagedRules = kdel s.lkp.stagedRules (cfg s Addr.LKP_RULE_IDX 15 0) ∧ t.lkp.rules = s.lkp.rules := by
  obtain ⟨u, e, answered, rest⟩ := ruleCtrl_answers m 2#32
  have deleted : (ruleApply (ruleOfRegs u 2) (ruleTab u)).1.recs = kdel u.lkp.stagedRules (cfg u Addr.LKP_RULE_IDX 15 0) := rfl
  have status : (ruleStage 2 u).2 = stOk := rfl
  rw [ruleCtrlWord_delete] at answered rest
  rw [status] at answered
  refine ⟨_, rfl, answered, ?_⟩
  rw [rest.lkp rfl, ruleStage_lkp, status, deleted, e.ruleIdx, e.fol.lkp rfl]
  exact ⟨rfl, rfl, rfl⟩

/-- READ of LKP_RULE_CTRL where a rule is staged loads LKP_RULE_PFX from it (R366). -/
theorem execRuleRead_shows (m : GmpMay h x 1 10 s) {r : RuleRec} (hr : ruleNamed s = some r) :
    ∃ t, exec (.ruleRead h) s = .next t ∧ Answered h 0x02 stOk (indexBody 0xFFFF) s t ∧
      t.lkp = { s.lkp with rulePresent := true, ruleStatus := stOk } ∧
      cfg t Addr.LKP_RULE_PFX 31 0 = swapBytes 4 (r.pfx / 2 ^ 96 % 2 ^ 32) := by
  obtain ⟨u, e, answered, rest⟩ := ruleCtrl_answers m 4#32
  have named : ruleNamed u = some r := e.ruleNamed.trans hr
  have status : (ruleRead u).2 = stOk := by rw [ruleRead_status, named]; rfl
  rw [ruleCtrlWord_read] at answered rest
  rw [status] at answered
  refine ⟨_, rfl, answered, ?_, ?_⟩
  · rw [rest.lkp rfl, ruleRead_lkp, status, named, e.fol.lkp rfl]
    rfl
  · rw [cfg_words (Words.of_follows (P := fun _ => false) rest rfl) rfl, ruleRead_prefix named]

/-- READ of LKP_RULE_CTRL where none is staged is answered OK_EMPTY (R366). -/
theorem execRuleRead_empty (m : GmpMay h x 1 10 s) (hr : ruleNamed s = none) :
    ∃ t, exec (.ruleRead h) s = .next t ∧ Answered h 0x02 stEmpty (indexBody 0xFFFF) s t ∧ t.lkp.rulePresent = false := by
  obtain ⟨u, e, answered, rest⟩ := ruleCtrl_answers m 4#32
  have named : ruleNamed u = none := e.ruleNamed.trans hr
  have status : (ruleRead u).2 = stEmpty := by rw [ruleRead_status, named]; rfl
  rw [ruleCtrlWord_read] at answered rest
  rw [status] at answered
  exact ⟨_, rfl, answered, by rw [rest.lkp rfl, ruleRead_lkp, named]; rfl⟩

end RuleCtrl

/-- Settles O38: the entry of a request leaves the staged rules and the data registers, so what stages rules decides as it
would have before the entry, and it writes the staged copies alone. -/
theorem rulesAreStaged : Obligations.RulesAreStaged := by
  refine fun h x s m => ⟨fun _ _ hrs hf => execRule_stages m hrs hf, fun _ _ _ _ hrs hf => execRule_refuses m hrs hf,
    fun tab st ha => ?_, execRuleDelete_stages m, fun r hr => ?_, execRuleRead_empty m⟩
  · obtain ⟨t, hexec, answered, lkp⟩ := execRuleWrite_stages m ha
    exact ⟨t, hexec, answered, by rw [lkp]; exact ⟨rfl, rfl, rfl⟩⟩
  · obtain ⟨t, hexec, answered, lkp, pfx⟩ := execRuleRead_shows m hr
    exact ⟨t, hexec, answered, by rw [lkp], pfx, by rw [lkp]⟩

end Sys2Proof.Machine

/-!
The lookup tables by themselves (13_tables R350, R356, R360, R363, R365): ageing, the catch-up, a rebuild, the bridge's
counts and floods, and what a lost link takes with it.
-/

namespace Sys2Proof.Machine

open Sys2Proof

/-! A pipeline changed. -/

/-- A count of LKP leaves everything but its word. -/
theorem lkpCnt_only (i : Nat) (s : State) : Follows { regs := true } s (lkpCnt i s) := lkpCnt_fol rfl (.refl _ s)

theorem lkpCnt_out (i : Nat) (s : State) : (lkpCnt i s).out = s.out := bump_out _ s

/-- A count of LKP is one more, up to the end of its word (R366). -/
theorem cfg_lkpCnt {i a : Nat} (count : a = Addr.LKP_CNT + 4 * i) (s : State) :
    cfg (lkpCnt i s) a 31 0 = min (2 ^ 32 - 1) (cfg s a 31 0 + 1) := by
  rw [count, lkpCnt, cfg_bump]

/-- What a pipeline that the part does not have is read as. -/
def noPipe : Pipe := ⟨[], [], 0, 0⟩

/-- A change of a pipeline leaves everything but the lookup tables. -/
theorem modPipe_only (p : Nat) (f : Pipe → Pipe) (s : State) : Follows { lkp := true } s (modPipe p f s) :=
  modPipe_fol rfl (.refl _ s)

/-- A pipeline that the unit does not have is empty. -/
theorem pipe_absent {p : Nat} {s : State} (absent : s.lkp.pipes.length ≤ p) : pipe s p = noPipe :=
  List.getD_eq_default _ _ absent

/-- The pipeline that changed; one that the unit does not have stays empty. -/
theorem pipe_modPipe_self {p : Nat} {f : Pipe → Pipe} {s : State} (empty : s.lkp.pipes.length ≤ p → f noPipe = noPipe) :
    pipe (modPipe p f s) p = f (pipe s p) := by
  rcases Nat.lt_or_ge p s.lkp.pipes.length with held | absent
  · simp [pipe, modPipe, lmod_eq_modify, held]
  · rw [pipe_absent absent, empty absent]
    exact pipe_absent (by simpa [modPipe, lmod_eq_modify] using absent)

/-- A change of one pipeline leaves the others. -/
theorem pipe_modPipe_ne {p q : Nat} (other : p ≠ q) (f : Pipe → Pipe) (s : State) : pipe (modPipe p f s) q = pipe s q := by
  simp only [pipe, modPipe, updLkp_lkp, lmod_eq_modify, List.getD_eq_getElem?_getD, List.getElem?_modify_ne f _ other]

/-- A pipeline whose lookup tables stay. -/
theorem pipe_congr {s t : State} (lkp : t.lkp = s.lkp) (p : Nat) : pipe t p = pipe s p := by rw [pipe, pipe, lkp]

/-! Ageing (R356). -/

/-- A pipeline whose banks have aged. -/
def pipeAged (p b : Nat) (s : State) : State :=
  modPipe p (fun x => { x with live := ageBank b (pipe s p).live, shadow := ageBank b x.shadow }) s

/-- The visit of a bucket in a pipeline that serves: its banks age, and what they lost is counted. -/
def ageVisited (p b : Nat) (s : State) : State :=
  if (pipe s p).live.length - (ageBank b (pipe s p).live).length = 0 then pipeAged p b s
  else bumpF (Addr.LKP_CNT + 8) 31 0 ((pipe s p).live.length - (ageBank b (pipe s p).live).length) (pipeAged p b s)

/-- A visit waits for its time, and then visits where the pipeline serves. -/
theorem execAgeVisit_eq {p b : Nat} (hp : p ≤ 1) (hb : b < 65536) (s : State) :
    ∃ n, execAgeVisit p b s = .next (if pipeOk (advTo n s) p then ageVisited p b (advTo n s) else advTo n s) := by
  simp only [execAgeVisit, hp, hb, and_self, if_true]
  generalize nextPhase _ _ _ = n
  refine ⟨n, ?_⟩
  generalize advTo n s = s1
  cases pipeOk s1 p with
  | false => simp only [Bool.not_false, Bool.false_eq_true, if_true, if_false]
  | true => simp only [Bool.not_true, Bool.false_eq_true, if_true, if_false, ageVisited, pipeAged]

/-- Both banks of the pipeline have aged. -/
theorem pipe_pipeAged (p b : Nat) (s : State) : pipe (pipeAged p b s) p =
    { pipe s p with live := ageBank b (pipe s p).live, shadow := ageBank b (pipe s p).shadow } := by
  refine pipe_modPipe_self fun absent => ?_
  rw [pipe_absent absent]
  rfl

/-- What a visit leaves in its pipeline. -/
theorem ageVisited_pipe (p b : Nat) (s : State) : pipe (ageVisited p b s) p =
    { pipe s p with live := ageBank b (pipe s p).live, shadow := ageBank b (pipe s p).shadow } := by
  have counted : Follows { regs := true } (pipeAged p b s) (ageVisited p b s) := ite_fol (.refl _ _) (bumpF_fol rfl (.refl _ _))
  rw [pipe_congr (counted.lkp rfl), pipe_pipeAged]

/-- A visit takes no time. -/
theorem ageVisited_only (p b : Nat) (s : State) : Follows { regs := true, lkp := true } s (ageVisited p b s) :=
  ite_fol (modPipe_fol rfl (.refl _ _)) (bumpF_fol rfl (modPipe_fol rfl (.refl _ _)))

/-- A visit ages both banks of its pipeline. -/
theorem execAgeVisit_ages {p b : Nat} {s : State} (hp : p ≤ 1) (hb : b < 65536) (serves : pipeOk s p = true) :
    ∃ t, exec (.ageVisit p b) s = .next t ∧ (pipe t p).live = ageBank b (pipe s p).live ∧
      (pipe t p).shadow = ageBank b (pipe s p).shadow ∧ now s ≤ t.time.ns := by
  obtain ⟨n, visit⟩ := execAgeVisit_eq hp hb s
  have waited := advTo_only n s
  have inService : pipeOk (advTo n s) p = true := (waited.engUsable rfl rfl _).trans serves
  rw [if_pos inService] at visit
  refine ⟨_, visit, ?_, ?_, ?_⟩
  · rw [ageVisited_pipe, pipe_congr (waited.lkp rfl)]
  · rw [ageVisited_pipe, pipe_congr (waited.lkp rfl)]
  · rw [(ageVisited_only p b _).time rfl, advTo_ns]
    exact le_max_left _ _

/-! The catch-up (R360) and a rebuild (R350). -/

/-- A catch-up that no swap waits for ends. -/
theorem execCatchupEnd_ends {s : State} (under : s.lkp.catchup = true) (swap : s.lkp.swapDue = false) :
    exec .catchupEnd s = .next (s.updLkp fun l => { l with catchup := false }) := by
  change execCatchupEnd s = _
  simp [execCatchupEnd, under, swap]

/-- A swap that waits for the catch-up follows it, with a catch-up of its own. -/
theorem execCatchupEnd_swaps {s : State} (under : s.lkp.catchup = true) (swap : s.lkp.swapDue = true) :
    exec .catchupEnd s = .next (s.updLkp fun l =>
      { l with pipes := l.pipes.map (fun q => { q with bank := 1 - q.bank }), swapDue := false }) := by
  change execCatchupEnd s = _
  simp [execCatchupEnd, under, swap]

/-- A failed check of the zone table builds both its banks anew, and is counted. -/
theorem execTableRebuild_zones (s : State) :
    ∃ t, exec (.tableRebuild 0) s = .next t ∧ t.lkp.zoneLive = lpmBuild (s.scr.cov.zones.map (fun e => e.2.key)) [] ∧
      t.lkp.zoneShadow = lpmBuild (s.scr.staged.map (fun e => e.2.key)) [] ∧
      cfg t (Addr.LKP_CNT + 32) 31 0 = min (2 ^ 32 - 1) (cfg s (Addr.LKP_CNT + 32) 31 0 + 1) := by
  have counted := lkpCnt_only 8 s
  have rebuilt (f : LkpS → LkpS) : Follows { lkp := true } (lkpCnt 8 s) ((lkpCnt 8 s).updLkp f) := updLkp_fol rfl (.refl _ _)
  refine ⟨_, rfl, ?_, ?_, by rw [(rebuilt _).cfg rfl, cfg_lkpCnt (i := 8) rfl]⟩
  · exact congrArg (fun r : ScrS => lpmBuild (r.cov.zones.map fun e => e.2.key) []) (counted.scr rfl)
  · exact congrArg (fun r : ScrS => lpmBuild (r.staged.map fun e => e.2.key) []) (counted.scr rfl)

/-! The bridge (R363). -/

section Bridge

variable {f : EthFrame} {s : State} {v : Nat}

/-- A frame that a port in service receives is the bridge's. -/
theorem execEthFrame_bridges (hp : f.port ≤ 1) (link : s.gmp.link.getD f.port false = true)
    (serves : engUsable s (0x38 + f.port) = true) : exec (.ethFrame f) s = .next (bridge f s) := by
  change execEthFrame f s = _
  rw [execEthFrame, if_pos ⟨hp, link, serves⟩]

/-- A frame tagged with a VLAN is of that VLAN. -/
theorem bridge_tagged (tag : f.tag = some v) (hv : v ≠ 0) : bridge f s =
    match vlanOf s v with
    | none => lkpCnt 6 s
    | some vlan =>
      if !bit vlan (13 + f.port) then lkpCnt 6 s
      else if 1522 < f.len then s
      else if isReservedMac f.dst then if f.etype = 0x88F7 then toLocal f s else s
      else
        let x := bridgeLearn v f s
        if x.2 then x.1
        else if isLocalMac x.1 v f.dst then toLocal f x.1
        else if cfgB x.1 Addr.LKP_CFG 13 && holdsToken x.1 then bridgeRules v vlan f x.1
        else x.1 := by
  obtain ⟨n, rfl⟩ := Nat.exists_eq_succ_of_ne_zero hv
  rw [bridge, tag]
  rfl

/-- A frame of a VLAN that no entry has is dropped and counted (R363). -/
theorem bridge_noVlan (tag : f.tag = some v) (hv : v ≠ 0) (none : vlanOf s v = none) : bridge f s = lkpCnt 6 s := by
  rw [bridge_tagged tag hv, none]

/-- What is sent to the members of a VLAN leaves on the other port, where that is one. -/
theorem toMembers_other {vlan : Word} {q : Nat} (hp : f.port ≤ 1) (hq : q = 1 - f.port) (member : bit vlan (13 + q) = true) :
    toMembers vlan f false s = egress vlan f q s := by
  have ports : f.port = 0 ∨ f.port = 1 := by omega
  rcases ports with port | port <;> rw [port] at hq <;> subst hq <;>
    simp [toMembers, port, List.range_succ, member]

/-- A link that is up carries what leaves on it. -/
theorem egress_up {vlan : Word} {q : Nat} (link : s.gmp.link.getD q false = true) : egress vlan f q s =
    emit (.eth q f.dst f.src (if bit vlan (16 + q) then none else some (fld vlan 11 0)) f.etype) s := by
  rw [egress, if_pos link]

/-- A frame of unknown destination is counted and sent to the members of its VLAN (R363). -/
theorem bridgeDeliver_unknown {vlan : Word} (single : f.dst.testBit 40 = false) (check : f.badDst = false)
    (unknown : emFind (pipe s (servedBy s f.port)).live false v f.dst = none) :
    bridgeDeliver v vlan f s = toMembers vlan f false (lkpCnt 4 s) := by
  have looked : pipeLookup (servedBy s f.port) false v f.dst s = (s, none) := by rw [pipeLookup, unknown]
  simp [bridgeDeliver, single, check, looked]

/-- A frame that is no IPv6 meets no rule. -/
theorem bridgeRules_otherType {vlan : Word} (etype : f.etype ≠ 0x86DD) : bridgeRules v vlan f s = bridgeDeliver v vlan f s := by
  rw [bridgeRules, if_neg fun both => etype both.1]

/-- Without learning a frame of a single source goes on as it came (R363). -/
theorem bridgeLearn_off (single : f.src.testBit 40 = false) (off : cfgB s Addr.LKP_CFG 12 = false) :
    bridgeLearn v f s = (s, false) := by
  simp [bridgeLearn, single, off]

end Bridge

/-! Links (R365). -/

/-- What a pipeline keeps of its banks is what the deletion does not name. -/
theorem mem_pipeDrop {p : Nat} {f : EmEnt → Bool} {s : State} {e : Nat × EmEnt}
    (he : e ∈ (pipe (pipeDrop p f s) p).live ++ (pipe (pipeDrop p f s) p).shadow) : f e.2 = false := by
  rw [pipeDrop, pipe_modPipe_self fun _ => rfl] at he
  simp only [List.mem_append, List.mem_filter, Bool.not_eq_true'] at he
  rcases he with ⟨-, kept⟩ | ⟨-, kept⟩ <;> exact kept

/-- A flush leaves no learned entry of its kind and port in either pipeline. -/
theorem mem_flushPort {node : Bool} {port i : Nat} {s : State} (hi : i < 2) {e : Nat × EmEnt}
    (he : e ∈ (pipe (flushPort node port s).1 i).live ++ (pipe (flushPort node port s).1 i).shadow) :
    (e.2.node == node && e.2.port == port && !e.2.static) = false := by
  have which : i = 0 ∨ i = 1 := by omega
  rcases which with rfl | rfl
  · simp only [flushPort] at he
    rw [pipeDrop, pipe_modPipe_ne (by decide)] at he
    exact mem_pipeDrop he
  · exact mem_pipeDrop he

/-- A flush leaves everything but the lookup tables. -/
theorem flushPort_only (node : Bool) (port : Nat) (s : State) : Follows { lkp := true } s (flushPort node port s).1 :=
  flushPort_fol rfl (.refl _ s)

/-- A link that changes is shown; one that goes down takes what was learned on it. -/
theorem execEthLinkChange_shows {p : Nat} {up : Bool} {sp : Nat} {s : State} (hp : p ≤ 1)
    (used : cfg s (Addr.NET_PORT_CFG + 4 * p) 1 0 ≠ 0) :
    ∃ t, exec (.ethLinkChange p up sp) s = .next t ∧ t.gmp.link = lset s.gmp.link p up ∧
      (s.gmp.link.getD p false = true → up = false → ∀ i, i < 2 →
        ∀ e, e ∈ (pipe t i).live ++ (pipe t i).shadow → (!e.2.node && e.2.port == p && !e.2.static) = false) := by
  change ∃ t, execEthLinkChange p up sp s = .next t ∧ _
  rw [execEthLinkChange, if_pos ⟨hp, used⟩]
  extract_lets was s1
  by_cases lost : (was && !up) = true
  · rw [if_pos lost]
    have rest : Follows { regs := true, lkp := true } s1 (flushPort false p (alarm (Addr.NET_PORT_STATUS + 4 * p) 4 s1)).1 :=
      flushPort_fol rfl (alarm_fol rfl (.refl _ s1))
    refine ⟨_, rfl, congrArg GmpS.link (rest.gmp rfl), fun _ _ i hi e he => ?_⟩
    simpa using mem_flushPort hi he
  · rw [if_neg lost]
    refine ⟨_, rfl, rfl, fun wasUp down => absurd ?_ lost⟩
    rw [show was = true from wasUp, down]
    rfl

/-- Settles O40: each clause is one command of the tables or one path through the bridge. -/
theorem tablesAgeRebuildAndBridge : Obligations.TablesAgeRebuildAndBridge := by
  refine fun s => ⟨fun p b hp hb => execAgeVisit_ages hp hb, fun under swap => ⟨_, execCatchupEnd_ends under swap, rfl⟩,
    fun under swap => ⟨_, execCatchupEnd_swaps under swap, under, rfl, fun p hp => ?_⟩, execTableRebuild_zones s,
    fun f v hp link serves tag hv unknown => ?_, ?_, fun p up sp hp used => execEthLinkChange_shows hp used⟩
  · simp [pipe, hp]
  · have counted := lkpCnt_only 6 s
    refine ⟨_, execEthFrame_bridges hp link serves, ?_⟩
    rw [bridge_noVlan tag hv unknown]
    exact ⟨counted.lkp rfl, lkpCnt_out 6 s, by rw [cfg_lkpCnt (i := 6) rfl]⟩
  · intro f v vlan q hp hq link serves tag hv known from_ member len reserved src dst learn bridges token mine etype unknown out check
    have path : bridge f s = egress vlan f q (lkpCnt 4 s) := by
      rw [bridge_tagged tag hv, known]
      simp only [from_, Bool.not_true, Bool.false_eq_true, if_false, Nat.not_lt.mpr len, reserved, bridgeLearn_off src learn,
        mine, bridges, token, Bool.and_true, if_true]
      rw [bridgeRules_otherType etype, bridgeDeliver_unknown dst check unknown, toMembers_other hp hq member]
    have still : (lkpCnt 4 s).gmp.link.getD q false = true := by rw [(lkpCnt_only 4 s).gmp rfl]; exact out
    refine ⟨_, execEthFrame_bridges hp link serves, ?_⟩
    rw [path, egress_up still]
    refine ⟨by rw [emit_out, lkpCnt_out], ?_⟩
    rw [(emit_only _ _).cfg rfl, cfg_lkpCnt (i := 4) rfl]

end Sys2Proof.Machine

/-!
Hods (12_memory R342 to R344, R347): what is counted of a hod stands through the faults and fences that follow, and the hod
itself is changed by its own commands alone.
-/

namespace Sys2Proof.Machine

open Sys2Proof

/-! The words of a hod. -/

/-- A word of a hod is neither one that no selector shows nor a count of a class. -/
theorem hodWord_fences (d : Nat) {a : Nat} (lo : 0 < a) (hi : a < 2 ^ 21) : FenceWords (otherWord (wkey Addr.HOD_SEL d a)) :=
  .of_plain fun b => decide_eq_true (rkey_ne_wkey lo hi b)

/-! A hod changed. -/

theorem hodOf_modHod (d : Nat) (f : Hod → Hod) (s : State) : hodOf (modHod d f s) d = f (hodOf s d) := by
  show kget Hod.zero (kmod Hod.zero s.hod.hods d f) d = f (kget Hod.zero s.hod.hods d)
  rw [kget_kmod, if_pos rfl]

theorem hodOf_congr {s t : State} (hods : t.hod.hods = s.hod.hods) (d : Nat) : hodOf t d = hodOf s d := by
  rw [hodOf, hodOf, hods]

/-- A hod that is cleared is empty. -/
theorem hodOf_hodClear (d : Nat) (s : State) : hodOf (hodClear d s) d = { hodOf s d with used := 0, packets := 0, dropping := false } :=
  hodOf_modHod _ _ _

/-- What a hod's alarm, its count and its record leave (R347). -/
def hodNoted (b d a : Nat) (detail : List Nat) (s : State) : State :=
  evTrig 0x1F detail (bumpW Addr.HOD_SEL d a (hodAlarm b d s))

section Noted

variable (b d a : Nat) (detail : List Nat) (s : State)

theorem hodNoted_only : Follows { regs := true, evr := true } (s.updHod fun x => { x with last := d }) (hodNoted b d a detail s) :=
  evTrig_fol rfl rfl (bumpW_fol rfl (alarm_fol rfl (.refl _ _)))

theorem hodNoted_hods : (hodNoted b d a detail s).hod.hods = s.hod.hods :=
  (congrArg HodS.hods ((hodNoted_only b d a detail s).hod rfl) :)

theorem hodNoted_safe : (hodNoted b d a detail s).safe = s.safe := (hodNoted_only b d a detail s).safe rfl

variable {a} in
/-- The hod's count is one more. -/
theorem hodNoted_counts (lo : 0 < a) (hi : a < 2 ^ 21) : cfgW (hodNoted b d a detail s) Addr.HOD_SEL d a 31 0 =
    min (2 ^ 32 - 1) (cfgW s Addr.HOD_SEL d a 31 0 + 1) := by
  have w := hodWord_fences d lo hi
  have plain (r : Nat) : otherWord (wkey Addr.HOD_SEL d a) (rkey r) = true := decide_eq_true (rkey_ne_wkey lo hi r)
  have alarmed : Words (otherWord (wkey Addr.HOD_SEL d a)) s (hodAlarm b d s) := alarm_words (plain _) (updHod_words (.refl _ s))
  rw [hodNoted, (w.evTrig (.refl _ _) _ _).cfgW, cfgW_bumpW, alarmed.cfgW]

end Noted

/-! A reset (R342). -/

/-- What a reset does beyond the hod: the fault of the bay that must not lose a packet (07_motion_safety R213). -/
def hodFault (d : Nat) (s : State) : State :=
  if d < 16 then faultEnd 3 (faultRaise 3 s) else if d < 48 then faultRaise 6 s else s

theorem hodReset_eq (d : Nat) (s : State) :
    hodReset d s = hodFault d (hodNoted 0 d Addr.HOD_CNT_PTR_ERR (be 2 d ++ [1]) (hodClear d s)) := rfl

theorem hodFault_only (d : Nat) (s : State) :
    Follows { jr := true, regs := true, gmp := true, safe := true, pair := true, evr := true } s (hodFault d s) :=
  ite_fol (faultEnd_fol rfl rfl rfl rfl rfl rfl (faultRaise_fol rfl rfl rfl rfl rfl rfl (.refl _ _)))
    (ite_fol (faultRaise_fol rfl rfl rfl rfl rfl rfl (.refl _ _)) (.refl _ _))

theorem FaultWords.hodFault {P : Nat → Bool} {s0 s : State} (w : FaultWords P) (h : Words P s0 s) (d : Nat) :
    Words P s0 (hodFault d s) := by
  unfold Machine.hodFault
  split
  · exact w.faultEnd (w.faultRaise h 3) 3
  · split
    · exact w.faultRaise h 6
    · exact h

/-- A hod that is reset is empty. -/
theorem hodReset_clears (d : Nat) (s : State) : hodOf (hodReset d s) d = { hodOf s d with used := 0, packets := 0, dropping := false } := by
  rw [hodReset_eq, hodOf_congr (congrArg HodS.hods ((hodFault_only _ _).hod rfl)), hodOf_congr (hodNoted_hods _ _ _ _ _), hodOf_hodClear]

/-- A hod that is cleared shows the words that it did. -/
theorem hodClear_words (P : Nat → Bool) (d : Nat) (s : State) : Words P s (hodClear d s) :=
  .of_follows (hodClear_fol (kc := { hod := true }) rfl (.refl _ s)) rfl

theorem hodReset_counts (d : Nat) (s : State) : cfgW (hodReset d s) Addr.HOD_SEL d Addr.HOD_CNT_PTR_ERR 31 0 =
    min (2 ^ 32 - 1) (cfgW s Addr.HOD_SEL d Addr.HOD_CNT_PTR_ERR 31 0 + 1) := by
  have w := hodWord_fences d (a := Addr.HOD_CNT_PTR_ERR) (by decide) (by decide)
  rw [hodReset_eq, (w.hodFault (.refl _ _) d).cfgW, hodNoted_counts _ _ _ _ (by decide) (by decide), (hodClear_words _ d s).cfgW]

/-- The reset of a hod of the SAFE bay is a fault that ends with it (07_motion_safety R213). -/
theorem hodReset_safeBay {d : Nat} (safeBay : d < 16) (s : State) : (hodReset d s).safe.faults.testBit 2 = false ∧
    (s.safe.faults.testBit 2 = false → (hodReset d s).safe.latch = true) := by
  rw [hodReset_eq, hodFault, if_pos safeBay]
  obtain ⟨ended, latch, -⟩ := faultEnd_ends 3 (faultRaise 3 (hodNoted 0 d Addr.HOD_CNT_PTR_ERR (be 2 d ++ [1]) (hodClear d s)))
  obtain ⟨-, sets, -⟩ := faultRaise_raises 3 (hodNoted 0 d Addr.HOD_CNT_PTR_ERR (be 2 d ++ [1]) (hodClear d s))
  rw [hodNoted_safe] at sets
  exact ⟨ended, fun calm => latch.trans (sets calm)⟩

/-- The reset of a hod of the sequencer is a fault that stands (07_motion_safety R213). -/
theorem hodReset_sequencer {d : Nat} (lo : 16 ≤ d) (hi : d < 48) (s : State) : (hodReset d s).safe.faults.testBit 5 = true ∧
    (s.safe.faults.testBit 5 = false → (hodReset d s).safe.latch = true) := by
  rw [hodReset_eq, hodFault, if_neg (by omega), if_pos hi]
  obtain ⟨active, sets, -⟩ := faultRaise_raises 6 (hodNoted 0 d Addr.HOD_CNT_PTR_ERR (be 2 d ++ [1]) (hodClear d s))
  rw [hodNoted_safe] at sets
  exact ⟨active, sets⟩

/-! The unread timeout (R343). -/

/-- What follows a hod that was left unread: the fault of its bay, or the fence of its consumer. -/
def hodLeft (c d : Nat) (s : State) : State :=
  if d < 16 then faultRaise 3 s else if d < 48 then faultRaise 6 s else hodClear d (fenceEng c (some 0x33) 0 s)

/-- A hod as it was left. -/
def hodFilled (d u p : Nat) (s : State) : State := modHod d (fun x => { x with used := u % 4096, packets := p % 4096 }) s

theorem execHodUnread_eq {d u : Nat} (p : Nat) (hd : d < 512) (hu : 0 < u) (s : State) : exec (.hodUnread d u p) s =
    .next (hodLeft (hodConsumerOf s d) d (hodNoted 1 d Addr.HOD_CNT_UNREAD (be 2 d ++ [2]) (hodFilled d u p s))) := by
  show execHodUnread d u p s = _
  rw [execHodUnread, if_pos ⟨hd, hu⟩, hodLeft]
  dsimp only
  split
  · rfl
  · split <;> rfl

theorem FenceWords.hodLeft {P : Nat → Bool} {s0 s : State} (w : FenceWords P) (h : Words P s0 s) (c d : Nat) :
    Words P s0 (hodLeft c d s) := by
  unfold Machine.hodLeft
  split
  · exact w.faultRaise h 3
  · split
    · exact w.faultRaise h 6
    · exact (w.fenceEng h c _ _).trans (hodClear_words P d _)

theorem hodLeft_counts (c d u p : Nat) (detail : List Nat) (s : State) :
    cfgW (hodLeft c d (hodNoted 1 d Addr.HOD_CNT_UNREAD detail (hodFilled d u p s))) Addr.HOD_SEL d Addr.HOD_CNT_UNREAD 31 0 =
      min (2 ^ 32 - 1) (cfgW s Addr.HOD_SEL d Addr.HOD_CNT_UNREAD 31 0 + 1) := by
  have w := hodWord_fences d (a := Addr.HOD_CNT_UNREAD) (by decide) (by decide)
  have filled : Words (otherWord (wkey Addr.HOD_SEL d Addr.HOD_CNT_UNREAD)) s (hodFilled d u p s) :=
    .of_follows (modHod_fol (kc := { hod := true }) rfl (.refl _ s)) rfl
  rw [(w.hodLeft (.refl _ _) c d).cfgW, hodNoted_counts _ _ _ _ (by decide) (by decide), filled.cfgW]

/-- A hod of the ring of an engine is emptied, and its consumer fenced. -/
theorem hodLeft_fences {c d : Nat} (hd : 48 ≤ d) (s : State) : (hodOf (hodLeft c d s) d).used = 0 ∧
    (isEngine s.part c = true → (engOf (hodLeft c d s) c).fenced = true) := by
  rw [hodLeft, if_neg (by omega), if_neg (by omega)]
  refine ⟨by rw [hodOf_hodClear], fun known => ?_⟩
  exact ((FencesStay.refl _).trans (.of_follows (hodClear_fol (kc := { hod := true }) rfl (.refl _ _)) rfl) c).trans
    (fenceEng_fenced known _ _)

/-! HOD_CTRL (R344, R345, R347). -/

section Ctrl

variable {s : State}

/-- The hod that HOD_SEL selects. -/
def hodSel (s : State) : Nat := cfg s Addr.HOD_SEL 8 0

/-- The consumer's own RESET resets the hod. -/
theorem hodCtrlWord_reset (s : State) : hodCtrlWord false none 1#32 s = (hodReset (hodSel s) s, stOk) := by
  have reset : bit 1#32 0 = true := by decide
  simp [hodCtrlWord, reset, hodSel]

/-- The consumer's own DROP drops what waits of the packet. -/
theorem hodCtrlWord_drop (rest : Option (Nat × Bool)) (s : State) :
    hodCtrlWord false rest 2#32 s = hodDrop (hodSel s) rest s := by
  have reset : bit 2#32 0 = false := by decide
  have drop : bit 2#32 1 = true := by decide
  simp [hodCtrlWord, reset, drop, hodSel]

/-- RESET by the host, where the consumer of a hod of the engines is fenced. -/
theorem hodCtrlWord_fenced (hd : 48 ≤ hodSel s) (fenced : (engOf s (hodConsumerOf s (hodSel s))).fenced = true) :
    hodCtrlWord true none 1#32 s = (hodReset (hodSel s) s, stOk) := by
  have reset : bit 1#32 0 = true := by decide
  have drop : bit 1#32 1 = false := by decide
  unfold hodSel at hd fenced ⊢
  simp [hodCtrlWord, reset, drop, hd, fenced]

/-- RESET by the host is refused elsewhere. -/
theorem hodCtrlWord_refused (live : hodSel s < 48 ∨ (engOf s (hodConsumerOf s (hodSel s))).fenced = false) :
    hodCtrlWord true none 1#32 s = (s, stState) := by
  have reset : bit 1#32 0 = true := by decide
  have drop : bit 1#32 1 = false := by decide
  unfold hodSel at live
  have serves : (decide (48 ≤ cfg s Addr.HOD_SEL 8 0) && (engOf s (hodConsumerOf s (cfg s Addr.HOD_SEL 8 0))).fenced) = false := by
    rcases live with low | free
    · rw [decide_eq_false (Nat.not_le.mpr low), Bool.false_and]
    · rw [free, Bool.and_false]
  simp [hodCtrlWord, reset, drop, serves]

/-- DROP by the host is refused. -/
theorem hodCtrlWord_hostDrop (rest : Option (Nat × Bool)) (s : State) : hodCtrlWord true rest 2#32 s = (s, stAuth) := by
  have drop : bit 2#32 1 = true := by decide
  simp [hodCtrlWord, drop]

variable {h : GmpHdr} {x : Session}

/-- The entry of a request leaves the selected hod and its consumer's fence. -/
theorem Decided.hodSel {b : GmpBody} {u : State} (d : Decided h x b s u) : hodSel u = hodSel s := cfg_words d.words (by decide)

theorem Decided.hodConsumer {b : GmpBody} {u : State} (d : Decided h x b s u) (n : Nat) : hodConsumerOf u n = hodConsumerOf s n := by
  rw [hodConsumerOf, hodConsumerOf, hodOf_congr (congrArg HodS.hods (d.fol.hod rfl))]

/-- A write of HOD_CTRL is decided on the state with its entry. -/
theorem hodCtrl_settles (m : GmpMay h x 1 10 s) (rest : Option (Nat × Bool)) (v : Word) :
    ∃ u, Decided h x (.write [(Addr.HOD_CTRL, v)]) s u ∧
      Answered h 0x02 (hodCtrlWord true rest v u).2 (indexBody (if isErr (hodCtrlWord true rest v u).2 then 0 else 0xFFFF)) s
        (hodCmd (some h) rest v s) ∧
      Follows { gmp := true, sess := true } (hodCtrlWord true rest v u).1 (hodCmd (some h) rest v s) :=
  gmpWord_settles m Addr.HOD_CTRL v
    (c := { jr := true, regs := true, gmp := true, safe := true, pair := true, evr := true, hod := true }) rfl rfl
    (fun u => hodCtrlWord_fol rfl rfl rfl rfl rfl rfl rfl (.refl _ u))

theorem execHodReset_fenced (m : GmpMay h x 1 10 s) (hd : 48 ≤ hodSel s)
    (fenced : (engOf s (hodConsumerOf s (hodSel s))).fenced = true) :
    ∃ t, exec (.hodReset (some h)) s = .next t ∧ Answered h 0x02 stOk (indexBody 0xFFFF) s t ∧ (hodOf t (hodSel s)).used = 0 := by
  obtain ⟨u, d, answered, rest⟩ := hodCtrl_settles m none 1#32
  rw [hodCtrlWord_fenced (d.hodSel.symm ▸ hd) (by rw [d.hodSel, d.hodConsumer, d.engOf, fenced]), d.hodSel] at answered rest
  exact ⟨_, rfl, answered, by rw [hodOf_congr (congrArg HodS.hods (rest.hod rfl)), hodReset_clears]⟩

theorem execHodReset_refused (m : GmpMay h x 1 10 s)
    (live : hodSel s < 48 ∨ (engOf s (hodConsumerOf s (hodSel s))).fenced = false) :
    ∃ t, exec (.hodReset (some h)) s = .next t ∧ Answered h 0x02 stState (indexBody 0) s t ∧ t.hod = s.hod := by
  obtain ⟨u, d, answered, rest⟩ := hodCtrl_settles m none 1#32
  rw [hodCtrlWord_refused (by rw [d.hodSel, d.hodConsumer, d.engOf]; exact live)] at answered rest
  exact ⟨_, rfl, answered, (rest.hod rfl).trans (d.fol.hod rfl)⟩

theorem execHodDrop_refused (m : GmpMay h x 1 10 s) (r : Option (Nat × Bool)) :
    ∃ t, exec (.hodDrop (some h) r) s = .next t ∧ Answered h 0x02 stAuth (indexBody 0) s t ∧ t.hod = s.hod := by
  obtain ⟨u, d, answered, rest⟩ := hodCtrl_settles m r 2#32
  rw [hodCtrlWord_hostDrop] at answered rest
  exact ⟨_, rfl, answered, (rest.hod rfl).trans (d.fol.hod rfl)⟩

/-- DROP of a packet under way takes what waits of it from the hod. -/
theorem hodDrop_takes (d n : Nat) (e : Bool) (s : State) : hodOf (hodDrop d (some (n, e)) s).1 d =
    { hodOf s d with used := (hodOf s d).used - n, packets := (hodOf s d).packets - b2n e, dropping := !e } := by
  have counted : Follows { regs := true } s (bumpW Addr.HOD_SEL d Addr.HOD_CNT_DROP s) := bumpW_fol rfl (.refl _ s)
  rw [hodDrop, hodOf_modHod, hodOf_congr (congrArg HodS.hods (counted.hod rfl))]

end Ctrl

/-- Settles O37: what follows a hod's own change, its count, its record and the fault or fence, changes no hod and no word of
one. -/
theorem hodsAreResetAndFenced : Obligations.HodsAreResetAndFenced := by
  refine fun s => ⟨fun d hd => ⟨hodReset d s, ?_, ?_⟩, fun d u p hd hu => ⟨_, execHodUnread_eq p hd hu s, ?_⟩,
    ⟨hodReset (hodSel s) s, ?_, ?_⟩, fun h x m hd fenced => execHodReset_fenced m hd fenced,
    fun h x m live => execHodReset_refused m live, fun n e => ⟨(hodDrop (hodSel s) (some (n, e)) s).1, ?_, ?_⟩,
    fun h x r m => execHodDrop_refused m r⟩
  · show execHodPtrMismatch d s = _
    rw [execHodPtrMismatch, if_pos hd]
  · rw [hodReset_clears]
    exact ⟨rfl, rfl, hodReset_counts d s, fun safeBay => hodReset_safeBay safeBay s, fun lo hi => hodReset_sequencer lo hi s⟩
  · refine ⟨hodLeft_counts _ d u p _ s, fun safeBay => ?_, fun lo hi => ?_, fun engines => ?_⟩
    · rw [hodLeft, if_pos safeBay]
      exact (faultRaise_raises 3 _).1
    · rw [hodLeft, if_neg (by omega), if_pos hi]
      exact (faultRaise_raises 6 _).1
    · have part : (hodNoted 1 d Addr.HOD_CNT_UNREAD (be 2 d ++ [2]) (hodFilled d u p s)).part = s.part := (hodNoted_only ..).part
      rw [← part]
      exact hodLeft_fences engines _
  · show execHodReset none s = _
    rw [execHodReset, hodCmd, hodCtrlWord_reset]
  · change (hodOf (hodReset (hodSel s) s) (hodSel s)).used = 0 ∧ (hodOf (hodReset (hodSel s) s) (hodSel s)).packets = 0
    rw [hodReset_clears]
    exact ⟨rfl, rfl⟩
  · show execHodDrop none (some (n, e)) s = _
    rw [execHodDrop, hodCmd, hodCtrlWord_drop]
  · change (hodOf (hodDrop (hodSel s) (some (n, e)) s).1 (hodSel s)).used = _ ∧
      (hodOf (hodDrop (hodSel s) (some (n, e)) s).1 (hodSel s)).dropping = _
    rw [hodDrop_takes]
    exact ⟨rfl, rfl⟩

end Sys2Proof.Machine

/-!
LKP_CMD (13_tables R361, R362): what an admitted command is decided on, and what each of the five does to the tables.
-/

namespace Sys2Proof.Machine

open Sys2Proof

/-! The word of a command (R366). -/

/-- The fields of a command's word are what it was packed from. -/
theorem lkpCmd_fields {op p kind port : Nat} (hop : op ≤ 5) (hp : p ≤ 1) (hkind : kind ≤ 2) (hport : port ≤ 2) :
    fld (lkpCmd op p kind port) 3 0 = op ∧ fld (lkpCmd op p kind port) 4 4 = p ∧ fld (lkpCmd op p kind port) 6 5 = kind ∧
      fld (lkpCmd op p kind port) 9 7 = port := by
  simp only [fld, bitsOf, lkpCmd, wordOf, pack, BitVec.toNat_ofNat]
  omega

/-- What a command does, by its operation. -/
def lkpAct (op p : Nat) (node : Bool) (port : Nat) (s : State) : State × Nat :=
  if op = 1 then cmdSearch p node s
  else if op = 2 then cmdNext p s
  else if op = 3 then ((flushPort node port s).1, if (flushPort node port s).2 then stOk else stEmpty)
  else if op = 4 then staticAdd (keyRegs s false).1 (keyRegs s false).2 port s
  else staticDel (keyRegs s false).1 (keyRegs s false).2 s

/-- The state with one more job of class 17 admitted and counted (11_scheduler R310). -/
def lkpCounted (s : State) : State := bumpW Addr.SCHED_CLASS_SEL 17 Addr.SCHED_CLASS_CNT_JOBS (admitTo 17 s).1

/-- An operation shown in LKP_STATUS. -/
def lkpShown (r : State × Nat) : State := r.1.updLkp fun l => { l with cmdStatus := r.2 }

/-- A command that no field refuses and that is admitted acts. -/
theorem lkpCmdWord_acts {op p kind port : Nat} {s : State} (hop : 1 ≤ op ∧ op ≤ 5) (hp : p ≤ 1) (hkind : kind = 1 ∨ kind = 2)
    (hport : port ≤ 2) (static : 4 ≤ op → kind = 1) (room : (admitTo 17 s).2 = true) :
    lkpCmdWord (lkpCmd op p kind port) s =
      (lkpShown (lkpAct op p (kind == 2) port (lkpCounted s)), (lkpAct op p (kind == 2) port (lkpCounted s)).2) := by
  obtain ⟨fop, fp, fkind, fport⟩ := lkpCmd_fields (kind := kind) hop.2 hp (by omega) hport
  have legal : (!within 1 5 op || !within 1 2 kind || decide ((if (kind == 2) = true then 3 else 2) < port) ||
      (decide (4 ≤ op) && kind == 2)) = false := by
    rcases hkind with rfl | rfl
    · simp [within, hop, hport]
    · have moves : ¬ 4 ≤ op := fun four => absurd (static four) (by decide)
      simp [within, hop, moves]
      omega
  simp only [lkpCmdWord, fop, fp, fkind, fport, legal, Bool.false_eq_true, if_false, room, Bool.not_true, lkpAct, lkpCounted, lkpShown]
  rfl

/-- The words that a command of LKP_CMD writes before it acts. -/
def lkpEntered (k : Nat) : Bool := enteredWord k || k == wkey Addr.SCHED_CLASS_SEL 17 Addr.SCHED_CLASS_CNT_JOBS

/-- A state with a command's entry and its job admitted. -/
structure LkpReady (s v : State) : Prop where
  lkp : v.lkp = s.lkp
  words : Words lkpEntered s v
  usable : ∀ e, engUsable v e = engUsable s e

namespace LkpReady

variable {s v : State}

theorem servedBy (r : LkpReady s v) (p : Nat) : servedBy v p = servedBy s p := by
  rw [Machine.servedBy, Machine.servedBy, pipeOk, pipeOk, r.usable]

theorem keyRegs (r : LkpReady s v) (node : Bool) : keyRegs v node = keyRegs s node := by
  have key0 (hi lo : Nat) : cfg v Addr.LKP_KEY0 hi lo = cfg s Addr.LKP_KEY0 hi lo := cfg_words r.words (by decide)
  have key1 (hi lo : Nat) : cfg v Addr.LKP_KEY1 hi lo = cfg s Addr.LKP_KEY1 hi lo := cfg_words r.words (by decide)
  have key2 (hi lo : Nat) : cfg v Addr.LKP_KEY2 hi lo = cfg s Addr.LKP_KEY2 hi lo := cfg_words r.words (by decide)
  simp only [Machine.keyRegs, key0, key1, key2]

theorem cursor (r : LkpReady s v) : selVal v Addr.LKP_CURSOR = selVal s Addr.LKP_CURSOR := by
  rw [selVal, selVal, r.words.words _ (by decide)]

end LkpReady

section Send

variable {h : GmpHdr} {x : Session} {s u : State}

/-- The state with a command's job counted is ready for it. -/
theorem Decided.lkpCounted {b : GmpBody} (d : Decided h x b s u)
    (room : admitted s 17 < cfgW s Addr.SCHED_CLASS_SEL 17 Addr.SCHED_CLASS_CFG 30 20) :
    (admitTo 17 u).2 = true ∧ LkpReady s (lkpCounted u) := by
  obtain ⟨taken, only, sched, -⟩ := admitTo_takes (cls := 17) (v := u)
    (by rw [d.room 17 (by decide), cfgW_words d.words (by decide)]; exact room)
  have counted : Follows { regs := true } (admitTo 17 u).1 (Machine.lkpCounted u) := bumpW_fol rfl (.refl _ _)
  have entered : Words lkpEntered s u := d.words.mono fun k other => (Bool.or_eq_false_iff.mp other).1
  have words : Words lkpEntered s (Machine.lkpCounted u) := bumpW_words (by decide) (entered.beside only rfl)
  refine ⟨taken, (counted.lkp rfl).trans ((only.lkp rfl).trans (d.fol.lkp rfl)), words, fun e => ?_⟩
  refine engUsable_words words (by decide) ?_ e
  rw [counted.sched rfl, sched, d.eng]

/-- An admitted command is answered with what it did, and shows it. -/
theorem lkpSend_settles {op p kind port : Nat} (m : GmpMay h x 1 10 s) (hop : 1 ≤ op ∧ op ≤ 5) (hp : p ≤ 1)
    (hkind : kind = 1 ∨ kind = 2) (hport : port ≤ 2) (static : 4 ≤ op → kind = 1)
    (room : admitted s 17 < cfgW s Addr.SCHED_CLASS_SEL 17 Addr.SCHED_CLASS_CFG 30 20) :
    ∃ v, LkpReady s v ∧
      Answered h 0x02 (lkpAct op p (kind == 2) port v).2 (indexBody (if isErr (lkpAct op p (kind == 2) port v).2 then 0 else 0xFFFF))
        s (lkpSend h op p kind port s) ∧
      (lkpSend h op p kind port s).lkp =
        { (lkpAct op p (kind == 2) port v).1.lkp with cmdStatus := (lkpAct op p (kind == 2) port v).2 } ∧
      selVal (lkpSend h op p kind port s) Addr.LKP_CURSOR = selVal (lkpAct op p (kind == 2) port v).1 Addr.LKP_CURSOR := by
  obtain ⟨u, d, answered, rest⟩ := gmpWord_settles m Addr.LKP_CMD (lkpCmd op p kind port) (f := lkpCmdWord (lkpCmd op p kind port))
    (c := { regs := true, sched := true, lkp := true }) rfl rfl (fun u => lkpCmdWord_fol rfl rfl rfl (.refl _ u))
  obtain ⟨taken, ready⟩ := d.lkpCounted room
  rw [lkpCmdWord_acts hop hp hkind hport static taken] at answered rest
  refine ⟨_, ready, answered, rest.lkp rfl, ?_⟩
  rw [selVal, lkpSend, rest.forceW rfl]
  rfl

end Send

/-! SEARCH (R361). -/

section Search

variable {p : Nat} {node : Bool} {v : State}

theorem setRes_res (e : EmEnt) (s : State) :
    (setRes e s).lkp.res = (List.range 4).map fun m => wordOf (emBits e / 2 ^ (32 * m)) := rfl

/-- SEARCH loads the entry that it finds, with its HIT. -/
theorem cmdSearch_finds {i : Nat} {e : EmEnt}
    (found : emFind (pipe v (servedBy v p)).live node (keyRegs v node).1 (keyRegs v node).2 = some (i, e)) :
    (cmdSearch p node v).2 = stOk ∧
      (cmdSearch p node v).1.lkp.res = (List.range 4).map fun m => wordOf (emBits { e with hit := true } / 2 ^ (32 * m)) := by
  have looked : (pipeLookup (servedBy v p) node (keyRegs v node).1 (keyRegs v node).2 v).2 = some { e with hit := true } := by
    rw [pipeLookup, found]
  simp only [cmdSearch, looked]
  exact ⟨trivial, setRes_res _ _⟩

/-- SEARCH that finds nothing loads nothing. -/
theorem cmdSearch_misses (unknown : emFind (pipe v (servedBy v p)).live node (keyRegs v node).1 (keyRegs v node).2 = none) :
    cmdSearch p node v = (v, stEmpty) := by
  have looked : pipeLookup (servedBy v p) node (keyRegs v node).1 (keyRegs v node).2 v = (v, none) := by
    rw [pipeLookup, unknown]
  simp only [cmdSearch, looked]

end Search

/-! NEXT (R362). -/

/-- NEXT loads the entry at or after the cursor, which goes on behind it. -/
theorem cmdNext_loads {p i : Nat} {e : EmEnt} {v : State} (walk : v.lkp.walkEnd = false)
    (found : (pipe v (servedBy v p)).live.find? (fun e =>
      decide (selVal v Addr.LKP_CURSOR % 2 ^ 16 * 4 + selVal v Addr.LKP_CURSOR / 2 ^ 16 ≤ e.1)) = some (i, e)) :
    (cmdNext p v).2 = stOk ∧ (cmdNext p v).1.lkp.res = (List.range 4).map (fun m => wordOf (emBits e / 2 ^ (32 * m))) ∧
      selVal (cmdNext p v).1 Addr.LKP_CURSOR = (i + 1) / 4 % 2 ^ 16 + (i + 1) % 4 * 2 ^ 16 := by
  simp only [cmdNext, walk, Bool.false_eq_true, if_false, found]
  refine ⟨trivial, ?_, ?_⟩
  · rw [setForce, updRegs_lkp]
    rfl
  · rw [selVal, forceW_setForce, if_pos rfl, wordOf, BitVec.toNat_ofNat]
    omega

/-! Static entries (R361). -/

section Statics

variable {vid mac port : Nat} {s t : State}

/-- A static entry that is placed is staged; those in force stay. -/
theorem staticAdd_stages (ok : (staticAdd vid mac port s).2 = stOk) :
    (staticAdd vid mac port s).1.lkp.statics = s.lkp.statics ∧
      (staticAdd vid mac port s).1.lkp.stagedStatics = kins s.lkp.stagedStatics (staticKey vid mac) port := by
  unfold staticAdd at ok ⊢
  split at ok
  · cases ok
  · next free =>
    split at ok
    · cases ok
    · next room =>
      rw [if_neg free, if_neg room]
      split at ok
      · dsimp only
        rw [(countReloc_only _ _).lkp rfl]
        exact ⟨rfl, rfl⟩
      · cases ok

/-- Whether a static entry is placed is a matter of the tables. -/
theorem staticAdd_status (lkp : t.lkp = s.lkp) : (staticAdd vid mac port t).2 = (staticAdd vid mac port s).2 := by
  simp only [staticAdd, pipe_congr lkp, lkp]
  split
  · rfl
  · split
    · rfl
    · split <;> rfl

/-- A static entry that is staged is taken out; those in force stay. -/
theorem staticDel_stages (staged : kfind s.lkp.stagedStatics (staticKey vid mac) ≠ none) :
    (staticDel vid mac s).2 = stOk ∧ (staticDel vid mac s).1.lkp.statics = s.lkp.statics ∧
      (staticDel vid mac s).1.lkp.stagedStatics = kdel s.lkp.stagedStatics (staticKey vid mac) := by
  have held : ¬ (kfind s.lkp.stagedStatics (staticKey vid mac)).isNone = true := by simpa using staged
  rw [staticDel, if_neg held]
  exact ⟨rfl, rfl, rfl⟩

end Statics

section Commands

variable {h : GmpHdr} {x : Session} {s : State} {p kind : Nat} (m : GmpMay h x 1 10 s) (hp : p ≤ 1) (hkind : kind = 1 ∨ kind = 2)
  (room : admitted s 17 < cfgW s Addr.SCHED_CLASS_SEL 17 Addr.SCHED_CLASS_CFG 30 20)
include m hp room

include hkind in
theorem execSearch_finds {i : Nat} {e : EmEnt}
    (found : emFind (pipe s (servedBy s p)).live (kind == 2) (keyRegs s (kind == 2)).1 (keyRegs s (kind == 2)).2 = some (i, e)) :
    ∃ t, exec (.search h p kind 0) s = .next t ∧ Answered h 0x02 stOk (indexBody 0xFFFF) s t ∧ t.lkp.cmdStatus = stOk ∧
      t.lkp.res = (List.range 4).map (fun m => wordOf (emBits { e with hit := true } / 2 ^ (32 * m))) := by
  obtain ⟨v, ready, answered, lkp, -⟩ := lkpSend_settles (op := 1) (port := 0) m (by decide) hp hkind (by decide) (by omega) room
  obtain ⟨status, res⟩ : (lkpAct 1 p (kind == 2) 0 v).2 = stOk ∧ (lkpAct 1 p (kind == 2) 0 v).1.lkp.res = _ :=
    cmdSearch_finds (by rw [ready.servedBy, pipe_congr ready.lkp, ready.keyRegs, found])
  rw [status] at answered lkp
  exact ⟨_, rfl, answered, by rw [lkp], by rw [lkp, ← res]⟩

include hkind in
theorem execSearch_misses
    (unknown : emFind (pipe s (servedBy s p)).live (kind == 2) (keyRegs s (kind == 2)).1 (keyRegs s (kind == 2)).2 = none) :
    ∃ t, exec (.search h p kind 0) s = .next t ∧ Answered h 0x02 stEmpty (indexBody 0xFFFF) s t ∧ t.lkp.cmdStatus = stEmpty ∧
      t.lkp.res = s.lkp.res := by
  obtain ⟨v, ready, answered, lkp, -⟩ := lkpSend_settles (op := 1) (port := 0) m (by decide) hp hkind (by decide) (by omega) room
  have act : lkpAct 1 p (kind == 2) 0 v = (v, stEmpty) :=
    cmdSearch_misses (by rw [ready.servedBy, pipe_congr ready.lkp, ready.keyRegs, unknown])
  rw [act] at answered lkp
  exact ⟨_, rfl, answered, by rw [lkp], by rw [lkp, ready.lkp]⟩

include hkind in
theorem execNextEntry_loads {i : Nat} {e : EmEnt} (walk : s.lkp.walkEnd = false)
    (found : (pipe s (servedBy s p)).live.find? (fun e =>
      decide (selVal s Addr.LKP_CURSOR % 2 ^ 16 * 4 + selVal s Addr.LKP_CURSOR / 2 ^ 16 ≤ e.1)) = some (i, e)) :
    ∃ t, exec (.nextEntry h p kind 0) s = .next t ∧ Answered h 0x02 stOk (indexBody 0xFFFF) s t ∧
      t.lkp.res = (List.range 4).map (fun m => wordOf (emBits e / 2 ^ (32 * m))) ∧
      selVal t Addr.LKP_CURSOR = (i + 1) / 4 % 2 ^ 16 + (i + 1) % 4 * 2 ^ 16 := by
  obtain ⟨v, ready, answered, lkp, cursor⟩ :=
    lkpSend_settles (op := 2) (port := 0) m (by decide) hp hkind (by decide) (by omega) room
  obtain ⟨status, res, next⟩ : (lkpAct 2 p (kind == 2) 0 v).2 = stOk ∧ (lkpAct 2 p (kind == 2) 0 v).1.lkp.res = _ ∧
      selVal (lkpAct 2 p (kind == 2) 0 v).1 Addr.LKP_CURSOR = _ :=
    cmdNext_loads (by rw [ready.lkp, walk]) (by rw [ready.servedBy, pipe_congr ready.lkp, ready.cursor, found])
  rw [status] at answered lkp
  exact ⟨_, rfl, answered, by rw [lkp, ← res], by rw [← next, ← cursor]⟩

include hkind in
theorem execFlushPort_flushes {q : Nat} (hq : q ≤ 2) :
    ∃ t st, exec (.flushPort h p kind q) s = .next t ∧ Answered h 0x02 st (indexBody 0xFFFF) s t ∧
      t.lkp.cmdStatus = st ∧ (st = stOk ∨ st = stEmpty) ∧ ∀ i, i < 2 → ∀ e, e ∈ (pipe t i).live ++ (pipe t i).shadow →
        (e.2.node == (kind == 2) && e.2.port == q && !e.2.static) = false := by
  obtain ⟨v, ready, answered, lkp, -⟩ := lkpSend_settles (op := 3) (port := q) m (by decide) hp hkind hq (by omega) room
  have act : lkpAct 3 p (kind == 2) q v = ((flushPort (kind == 2) q v).1, if (flushPort (kind == 2) q v).2 then stOk else stEmpty) := rfl
  have which : (lkpAct 3 p (kind == 2) q v).2 = stOk ∨ (lkpAct 3 p (kind == 2) q v).2 = stEmpty := by
    rw [act]
    dsimp only
    split
    · exact .inl rfl
    · exact .inr rfl
  have good : isErr (lkpAct 3 p (kind == 2) q v).2 = false := by
    rcases which with ok | empty
    · rw [ok]; rfl
    · rw [empty]; rfl
  rw [good] at answered
  refine ⟨_, _, rfl, answered, by rw [lkp], which, fun i hi e he => ?_⟩
  have same : pipe (lkpSend h 3 p kind q s) i = pipe (flushPort (kind == 2) q v).1 i := by rw [pipe, lkp]; rfl
  rw [same] at he
  exact mem_flushPort hi he

theorem execStaticAdd_stages {q : Nat} (hq : q ≤ 2) (ok : (staticAdd (keyRegs s false).1 (keyRegs s false).2 q s).2 = stOk) :
    ∃ t, exec (.staticAdd h p 1 q) s = .next t ∧ Answered h 0x02 stOk (indexBody 0xFFFF) s t ∧ t.lkp.statics = s.lkp.statics ∧
      t.lkp.stagedStatics = kins s.lkp.stagedStatics (staticKey (keyRegs s false).1 (keyRegs s false).2) q := by
  obtain ⟨v, ready, answered, lkp, -⟩ := lkpSend_settles (op := 4) (port := q) m (by decide) hp (.inl rfl) hq (fun _ => rfl) room
  have act : lkpAct 4 p (1 == 2) q v = staticAdd (keyRegs s false).1 (keyRegs s false).2 q v := by rw [← ready.keyRegs]; rfl
  have status : (staticAdd (keyRegs s false).1 (keyRegs s false).2 q v).2 = stOk := (staticAdd_status ready.lkp).trans ok
  obtain ⟨inForce, staged⟩ := staticAdd_stages status
  rw [act, status] at answered lkp
  exact ⟨_, rfl, answered, by rw [lkp, ← ready.lkp]; exact inForce, by rw [lkp, ← ready.lkp]; exact staged⟩

theorem execStaticDel_stages (held : kfind s.lkp.stagedStatics (staticKey (keyRegs s false).1 (keyRegs s false).2) ≠ none) :
    ∃ t, exec (.staticDel h p 1 0) s = .next t ∧ Answered h 0x02 stOk (indexBody 0xFFFF) s t ∧ t.lkp.statics = s.lkp.statics ∧
      t.lkp.stagedStatics = kdel s.lkp.stagedStatics (staticKey (keyRegs s false).1 (keyRegs s false).2) := by
  obtain ⟨v, ready, answered, lkp, -⟩ :=
    lkpSend_settles (op := 5) (port := 0) m (by decide) hp (.inl rfl) (by decide) (fun _ => rfl) room
  have act : lkpAct 5 p (1 == 2) 0 v = staticDel (keyRegs s false).1 (keyRegs s false).2 v := by rw [← ready.keyRegs]; rfl
  obtain ⟨status, inForce, staged⟩ := staticDel_stages (s := v) (by rw [ready.lkp]; exact held)
  rw [act, status] at answered lkp
  exact ⟨_, rfl, answered, by rw [lkp, ← ready.lkp]; exact inForce, by rw [lkp, ← ready.lkp]; exact staged⟩

end Commands

/-- Settles O39: a command's entry and its admission leave the tables, the keys and the pipelines in service, so it acts as it
would have before them. -/
theorem lookupCommandsAct : Obligations.LookupCommandsAct :=
  fun _ _ _ _ _ m hp hkind room => ⟨fun _ _ => execSearch_finds m hp hkind room, execSearch_misses m hp hkind room,
    fun _ _ => execNextEntry_loads m hp hkind room, fun _ => execFlushPort_flushes m hp hkind room,
    fun _ => execStaticAdd_stages m hp room, execStaticDel_stages m hp room⟩

end Sys2Proof.Machine

/-!
Sources of time (14_station_time R369 to R373, R379, R380): a source's record through its measurement and the selection, the
master a port follows, and the two limits.
-/

namespace Sys2Proof.Machine

open Sys2Proof

/-! A source's record. -/

section Sources

variable {k : Nat} {s t : State}

/-- The source that changed, where the unit has it. -/
theorem src_modSrc (held : k < s.time.srcs.length) (f : TimeSrc → TimeSrc) : src (modSrc k f s) k = f (src s k) := by
  simp [src, modSrc, lmod_eq_modify, held]

theorem src_congr (srcs : t.time.srcs = s.time.srcs) (k : Nat) : src t k = src s k := by rw [src, src, srcs]

/-- A source that is not absent is one that the unit has. -/
theorem src_held (present : (src s k).st ≠ .absent) : k < s.time.srcs.length := by
  by_contra beyond
  exact present (by rw [src, List.getD_eq_default _ _ (Nat.not_lt.mp beyond)]; rfl)

theorem modSrc_length (k : Nat) (f : TimeSrc → TimeSrc) (s : State) : (modSrc k f s).time.srcs.length = s.time.srcs.length := by
  simp [modSrc, lmod_eq_modify]

/-- A source's candidacy brought up to date keeps its pulse and when it came (R370). -/
theorem srcEval_eq (k : Nat) (s : State) :
    ∃ f, srcEval k s = modSrc k f s ∧ ∀ x, (f x).lastAt = x.lastAt ∧ (f x).pulse = x.pulse := by
  refine ⟨_, rfl, fun x => ?_⟩
  split
  · split <;> exact ⟨rfl, rfl⟩
  · split <;> exact ⟨rfl, rfl⟩

/-- A state of station time changes with the selection; the sources and operating time stay (R373). -/
theorem selState_keeps (new : Option Nat) (s : State) :
    (selState new s).time.srcs = s.time.srcs ∧ (selState new s).time.op = s.time.op := by
  unfold selState
  split <;> exact ⟨rfl, rfl⟩

/-- What a TIME_EVENT entry leaves. -/
theorem postTime_only (code source before after trig : Nat) (s : State) :
    Follows { jr := true, regs := true, gmp := true, pair := true, evr := true } s (postTime code source before after trig s) :=
  postTime_fol rfl rfl rfl rfl rfl (.refl _ s)

/-- What is told of a change of the selection leaves station time. -/
theorem selTold_time (source : Nat) (s : State) :
    (postTime 0x03 source (now (bump Addr.TIME_CNT_SRC_CHANGE (alarm Addr.TIME_ALARM 1 s)))
      (now (bump Addr.TIME_CNT_SRC_CHANGE (alarm Addr.TIME_ALARM 1 s))) 0x1A
      (bump Addr.TIME_CNT_SRC_CHANGE (alarm Addr.TIME_ALARM 1 s))).time = s.time := by
  rw [(postTime_only _ _ _ _ _ _).time rfl]
  exact (bump_fol (kc := { regs := true }) rfl (alarm_fol rfl (.refl _ s))).time rfl

/-- The selection leaves the sources and operating time (R371). -/
theorem reselect_keeps (s : State) : (reselect s).time.srcs = s.time.srcs ∧ (reselect s).time.op = s.time.op := by
  unfold reselect
  dsimp only
  split
  · exact ⟨rfl, rfl⟩
  · rw [selTold_time]
    exact selState_keeps (firstQual s) (s.updTime fun t => { t with sel := firstQual s })

/-- A measurement stands in its source's record (R370). -/
theorem src_measure (held : k < s.time.srcs.length) (e : Int) (inst : Nat) :
    (src (measure k e inst s) k).e = e ∧ (src (measure k e inst s) k).prevE = some e := by
  unfold measure
  extract_lets x ok s1 s2
  have noted : src s1 k = { srcNext ok x with e := e, prevE := some e } := src_modSrc (s := s) held _
  have corrected : s2.time.srcs = s1.time.srcs := by
    show (if s.time.sel = some k then if ok then servoOn e s1 else _ else s1).time.srcs = _
    split
    · split
      · rfl
      · rw [(postTime_only _ _ _ _ _ _).time rfl]
        exact congrArg TimeS.srcs ((bump_fol (kc := { regs := true }) rfl (alarm_fol rfl (.refl _ s1))).time rfl)
    · rfl
  rw [src_congr ((reselect_keeps s2).1.trans corrected), noted]
  exact ⟨rfl, rfl⟩

/-- An edge of a receiver's pulse is stamped at its capture, less the delay of its input (R369). -/
theorem execPpsEdge_stamps (held : k < s.time.srcs.length) (hk : k < 2) (ns : Nat) :
    ∃ t, exec (.ppsEdge k ns) s = .next t ∧ t.time.ns = max s.time.ns ns ∧ (src t k).lastAt = some t.time.op ∧
      (src t k).pulse = some ((t.time.ns : Int) - sgn 16 (cfg s (Addr.TIME_PPS_DELAY + 4 * k) 15 0)) := by
  show ∃ t, execPpsEdge k ns s = .next t ∧ _
  rw [execPpsEdge, if_neg (by omega)]
  extract_lets s1 op d at_ f
  have delay : d = sgn 16 (cfg s (Addr.TIME_PPS_DELAY + 4 * k) 15 0) := by
    show sgn 16 (cfg (advTo ns s) _ 15 0) = _
    rw [(advTo_only ns s).cfg rfl]
  have sources : s1.time.srcs = s.time.srcs := by
    show (advTo ns s).time.srcs = _
    unfold advTo
    split <;> rfl
  obtain ⟨g, eval, keeps⟩ := srcEval_eq k (modSrc k f s1)
  have record : src (srcEval k (modSrc k f s1)) k = g (f (src s1 k)) := by
    rw [eval, src_modSrc (by rwa [modSrc_length, sources]), src_modSrc (by rwa [sources])]
  refine ⟨_, rfl, ?_, ?_, ?_⟩
  · rw [eval]
    exact advTo_ns ns s
  · rw [record, (keeps _).1, eval]
    rfl
  · rw [record, (keeps _).2, eval, ← delay]
    rfl

/-- A source without what it knew, once its 3 s are over. -/
def srcLost (k n : Nat) (s : State) : State :=
  reselect (modSrc k (fun y => { y with st := .absent, count := 0, agree := 0, prevE := none, pulse := none }) (advOp n s))

theorem advOp_srcs (n : Nat) (s : State) : (advOp n s).time.srcs = s.time.srcs := by
  unfold advOp
  split <;> rfl

theorem srcLost_absent (held : k < s.time.srcs.length) (n : Nat) :
    (src (srcLost k n s) k).st = .absent ∧ (srcLost k n s).time.op = max s.time.op n := by
  obtain ⟨srcs, op⟩ := reselect_keeps (modSrc k (fun y =>
    { y with st := .absent, count := 0, agree := 0, prevE := none, pulse := none }) (advOp n s))
  constructor
  · rw [srcLost, src_congr srcs, src_modSrc (by rwa [advOp_srcs])]
  · rw [srcLost, op]
    exact advOp_op n s

/-- A source that has not been a candidate for 3 s is absent (R370). -/
theorem execSourceAbsentTimeout_eq (present : (src s k).st ≠ .absent) {a : Nat} (lost : (src s k).lostAt = some a)
    (cand : isCand (advOp (a + 3000000000) s) k = false) :
    exec (.sourceAbsentTimeout k) s = .next (srcLost k (a + 3000000000) s) := by
  show execSourceAbsentTimeout k s = _
  simp only [execSourceAbsentTimeout, present, if_false, lost, Option.getD_some, cand, Bool.false_eq_true, srcLost]

end Sources

/-! PTP (R369, R379, R380). -/

section Ptp

variable {p : Nat} {s t : State}

theorem ptpState_congr (ptp : t.time.ptp = s.time.ptp) (p : Nat) : ptpState t p = ptpState s p := by rw [ptpState, ptpState, ptp]

/-- Time that passes leaves MODE and the ports (R380). -/
theorem ptp_advTo (ns : Nat) (s : State) (p : Nat) :
    ptpUsed (advTo ns s) p = ptpUsed s p ∧ ptpState (advTo ns s) p = ptpState s p ∧
      (advTo ns s).time.master = s.time.master ∧ (advTo ns s).time.srcs = s.time.srcs := by
  have passed := advTo_only ns s
  refine ⟨?_, ?_⟩
  · simp only [ptpUsed, lowPort, passed.cfg rfl, passed.cfgB rfl]
  · unfold advTo
    split <;> exact ⟨rfl, rfl, rfl⟩

/-- A Sync of a master on the PTP timescale is a measurement (R369). -/
theorem execPtpSync_measures (srcs : s.time.srcs.length = 3) (e : Int) (ns : Nat) {m : PtpMaster} (used : ptpUsed s p = true)
    (slave : ptpState s p = ptpSlave) (master : s.time.master = some m) (scale : m.ptpScale = true) :
    ∃ t, exec (.ptpSync p e ns) s = .next t ∧ (src t 2).e = e ∧ (src t 2).prevE = some e := by
  show ∃ t, execPtpSync p e ns s = .next t ∧ _
  obtain ⟨stillUsed, stillSlave, stillMaster, sources⟩ := ptp_advTo ns s p
  have takes : (ptpUsed (advTo ns s) p && ptpState (advTo ns s) p == ptpSlave) = true := by
    rw [stillUsed, used, stillSlave, slave]; rfl
  simp only [execPtpSync, takes, if_true]
  obtain ⟨g, eval, -⟩ := srcEval_eq 2 (modSrc 2 (fun x => { x with lastAt := some (advTo ns s).time.op }) (advTo ns s))
  rw [eval]
  have cand (f g : TimeSrc → TimeSrc) : isCand (modSrc 2 g (modSrc 2 f (advTo ns s))) 2 = true := by
    show (match (advTo ns s).time.master with | some m => m.ptpScale | none => false) = true
    rw [stillMaster, master]
    exact scale
  rw [if_pos (cand _ _)]
  exact ⟨_, rfl, src_measure (by rw [modSrc_length, modSrc_length, sources, srcs]; decide) e _⟩

/-- A port's state set; its master is forgotten where no port follows one any more. -/
theorem setPtpState_ptp (p st : Nat) (s : State) :
    (setPtpState p st s).time.ptp = lmod s.time.ptp p (fun q => { q with state := st }) := by
  unfold setPtpState
  dsimp only
  split <;> rfl

/-- An Announce of the port's master names it (R379). -/
theorem execPtpMessage_announce (d : PtpMaster) (used : ptpUsed s p = true) :
    ∃ t, exec (.ptpMessage p (.announce d ptpSlave)) s = .next t ∧ t.time.master = some d ∧
      t.time.utcPtp = (d.utcOffset - 19) % 64 := by
  have run : exec (.ptpMessage p (.announce d ptpSlave)) s = .next (srcEval 2 (utcEval ((setPtpState p ptpSlave s).updTime fun t =>
      { t with master := some d, utcPtp := (d.utcOffset - 19) % 64 }))) := by
    show execPtpMessage p (.announce d ptpSlave) s = _
    simp only [execPtpMessage, used, Bool.not_true, Bool.false_eq_true, if_false, true_or, if_true]
  obtain ⟨g, eval, -⟩ := srcEval_eq 2 (utcEval ((setPtpState p ptpSlave s).updTime fun t =>
    { t with master := some d, utcPtp := (d.utcOffset - 19) % 64 }))
  have warned := (utcEval_fol (kc := { regs := true }) rfl (.refl _ ((setPtpState p ptpSlave s).updTime fun t =>
    { t with master := some d, utcPtp := (d.utcOffset - 19) % 64 }))).time rfl
  refine ⟨_, run, ?_, ?_⟩
  · rw [eval]
    exact congrArg TimeS.master warned
  · rw [eval]
    exact congrArg TimeS.utcPtp warned

/-- A port in MASTER answers a Delay_Req (R380). -/
theorem execPtpMessage_delay (i q : Nat) (used : ptpUsed s p = true) (master : ptpState s p = ptpMaster) :
    exec (.ptpMessage p (.delayReq i q)) s = .next (emit (.ptp p 3 (cfg s Addr.TIME_PTP_CFG 11 4) q [i]) s) := by
  show execPtpMessage p (.delayReq i q) s = _
  simp [execPtpMessage, used, master]

/-- A port that hears no Announce listens, or becomes master (R380). -/
theorem execAnnounceReceiptTimeout_turns (held : p < s.time.ptp.length) (used : ptpUsed s p = true)
    (other : ptpState s p ≠ ptpMaster) : ∃ t, exec (.announceReceiptTimeout p) s = .next t ∧
      ptpState t p = if cfg s Addr.TIME_PTP_CFG 1 0 = 1 then ptpListening else ptpMaster := by
  have run : exec (.announceReceiptTimeout p) s =
      .next (setPtpState p (if cfg s Addr.TIME_PTP_CFG 1 0 = 1 then ptpListening else ptpMaster) s) := by
    show execAnnounceReceiptTimeout p s = _
    simp [execAnnounceReceiptTimeout, used, other]
  refine ⟨_, run, ?_⟩
  rw [ptpState, setPtpState_ptp]
  simp [lmod_eq_modify, held]

/-- A port in MASTER sends its Announce (R380, R381). -/
theorem execPtpSendInterval_announces (used : ptpUsed s p = true) (master : ptpState s p = ptpMaster) :
    ∃ t q, exec (.ptpSendInterval p 1) s = .next t ∧
      t.out = s.out ++ [.ptp p 1 (cfg s Addr.TIME_PTP_CFG 11 4) q (announceFields s)] := by
  have sends : (ptpUsed s p && if (1 : Nat) = 2 then ptpState s p == ptpSlave else decide (1 < 2) && ptpState s p == ptpMaster) = true := by
    rw [used, master]; rfl
  show ∃ t q, execPtpSendInterval p 1 s = .next t ∧ _
  simp only [execPtpSendInterval, sends, Bool.not_true, Bool.false_eq_true, if_false]
  exact ⟨_, _, rfl, rfl⟩

end Ptp

/-! HOLD_LIMIT (R373). -/

/-- A bit that an alarm sets is read as 1. -/
theorem cfg_alarm {a b : Nat} (hb : b < 32) (s : State) : cfg (alarm a b s) a b b = 1 := by
  rw [alarm, putFld, cfg, forceW_setForce, if_pos rfl, fld_setFld (Nat.le_refl b) hb]
  simp

/-- The state of station time as HOLD_LIMIT leaves it. -/
def holdFreed (n : Nat) (s : State) : State :=
  evTrig 0x1C [] (alarm Addr.TIME_ALARM 2 ((advOp n s).updTime fun t => { t with st := .free }))

theorem holdFreed_shows (n : Nat) (s : State) : (holdFreed n s).time.st = .free ∧ cfg (holdFreed n s) Addr.TIME_ALARM 2 2 = 1 ∧
    (holdFreed n s).time.op = max s.time.op n := by
  have recorded (u : State) : Words (otherWord (rkey Addr.TIME_ALARM)) u (evTrig 0x1C [] u) :=
    RecordWords.evTrig ⟨by decide, by decide, by decide⟩ (.refl _ u) _ _
  have stays (u : State) : (evTrig 0x1C [] (alarm Addr.TIME_ALARM 2 u)).time = u.time :=
    (evTrig_fol (kc := { regs := true, evr := true }) rfl rfl (alarm_fol rfl (.refl _ u))).time rfl
  refine ⟨?_, ?_, ?_⟩
  · rw [holdFreed, stays]; rfl
  · rw [holdFreed, (recorded _).cfg, cfg_alarm (by decide)]
  · rw [holdFreed, stays]
    exact advOp_op n s

/-- A hold that lasts as long as HOLD_LIMIT ends in FREE, and is shown. -/
theorem execHoldLimitExpiry_eq {s : State} (hold : s.time.st = .hold) :
    exec .holdLimitExpiry s = .next (holdFreed (s.time.holdSince + cfg s Addr.TIME_CFG 21 10 * 1000000000) s) := by
  show execHoldLimitExpiry s = _
  rw [execHoldLimitExpiry, if_neg (not_not.mpr hold), holdFreed]

/-- Settles O41: each clause is one command, decided on what passing time and the selection leave. -/
theorem timeSourcesAreFollowed : Obligations.TimeSourcesAreFollowed :=
  fun _ srcs => ⟨fun _ ns hk => execPpsEdge_stamps (by omega) hk ns,
    fun _ e ns _ used slave master scale => execPtpSync_measures srcs e ns used slave master scale,
    fun _ d used => execPtpMessage_announce d used,
    fun _ i q used master => ⟨_, execPtpMessage_delay i q used master, rfl⟩,
    fun _ used other held => execAnnounceReceiptTimeout_turns held used other,
    fun _ used master => execPtpSendInterval_announces used master,
    fun _ _ present lost cand => ⟨_, execSourceAbsentTimeout_eq present lost cand, srcLost_absent (src_held present) _⟩,
    fun hold => ⟨_, execHoldLimitExpiry_eq hold, holdFreed_shows _ _⟩⟩

end Sys2Proof.Machine

/-!
Forced sets and triggers (14_station_time R370, R374, R375, R377, R382 to R384): what a write of TIME_CTRL and of a trigger's CFG
is decided on, the step of station time, and a trigger's edge.
-/

namespace Sys2Proof.Machine

open Sys2Proof

/-! Forced sets asked for (R374). -/

section Ask

variable {h : GmpHdr} {x : Session} {b : GmpBody} {s u : State}

/-- The entry of a request leaves the value of a forced set. -/
theorem Entered.setValue (e : Entered h x b s u) : setValue u = setValue s := by
  have hi : cfg u Addr.TIME_SET_S_HI 31 0 = cfg s Addr.TIME_SET_S_HI 31 0 := cfg_words e.words (by decide)
  have lo : cfg u Addr.TIME_SET_S_LO 31 0 = cfg s Addr.TIME_SET_S_LO 31 0 := cfg_words e.words (by decide)
  have ns : cfg u Addr.TIME_SET_NS 31 0 = cfg s Addr.TIME_SET_NS 31 0 := cfg_words e.words (by decide)
  simp only [Machine.setValue, hi, lo, ns]

/-- What R374 asks of a forced set, but for the global stop. -/
structure SetMay (s : State) : Prop where
  range : cfg s Addr.TIME_SET_NS 31 0 ≤ 999999999
  noSet : s.time.set = none
  noHold : s.time.hold = none
  noHandover : s.pair.handover = none
  ahead : now s ≤ Machine.setValue s + 60000000000

theorem Entered.setMay (e : Entered h x b s u) (may : SetMay s) : SetMay u where
  range := by rw [cfg_words e.words (by decide)]; exact may.range
  noSet := by rw [e.fol.time rfl]; exact may.noSet
  noHold := by rw [e.fol.time rfl]; exact may.noHold
  noHandover := by rw [e.pair]; exact may.noHandover
  ahead := by rw [e.setValue, now, e.fol.time rfl]; exact may.ahead

/-- A forced set that may be made waits for the next whole second. -/
theorem forceSetOp_waits (may : SetMay s) (stop : s.safe.cLatch = true) : forceSetOp s =
    (s.updTime fun t => { t with set := some ⟨Machine.setValue s, (now s / 1000000000 + 1) * 1000000000⟩, setStatus := stOk }, stOk) := by
  simp only [forceSetOp, Nat.not_lt.mpr may.range, Nat.not_lt.mpr may.ahead, may.noSet, may.noHold, may.noHandover, stop, firstErr,
    Option.isSome_none, decide_false, Bool.not_true, Bool.or_false, if_true]

/-- Without the global stop it is refused. -/
theorem forceSetOp_refused (may : SetMay s) (run : s.safe.cLatch = false) :
    forceSetOp s = (s.updTime fun t => { t with setStatus := stState }, stState) := by
  have other : stState ≠ stOk := by decide
  simp only [forceSetOp, Nat.not_lt.mpr may.range, run, firstErr, decide_false, Bool.not_false, Bool.true_or, other, if_false]

/-- FORCE_SET is the forced set, with its status shown. -/
theorem timeCtrlWord_set (s : State) : timeCtrlWord 1#32 s =
    if isErr (forceSetOp s).2 then (s.updTime fun t => { t with setStatus := (forceSetOp s).2 }, (forceSetOp s).2) else forceSetOp s := by
  have set : bit 1#32 0 = true := by decide
  have clear : bit 1#32 1 = false := by decide
  simp only [timeCtrlWord, set, clear, if_true, Bool.false_eq_true, if_false]

/-- CLEAR_DIS frees the sources, and sets nothing. -/
theorem timeCtrlWord_clear (s : State) : timeCtrlWord 2#32 s = (clearDis s, stOk) := by
  have set : bit 2#32 0 = false := by decide
  have clear : bit 2#32 1 = true := by decide
  simp only [timeCtrlWord, set, clear, if_true, Bool.false_eq_true, if_false]

/-- A write of TIME_CTRL is decided on the state with its entry. -/
theorem timeCtrl_settles {right : Nat} (m : GmpMay h x right 10 s) (v : Word) :
    ∃ u, Entered h x (.write [(Addr.TIME_CTRL, v)]) s u ∧
      Answered h 0x02 (timeCtrlWord v u).2 (indexBody (if isErr (timeCtrlWord v u).2 then 0 else 0xFFFF)) s
        (gmpWord h Addr.TIME_CTRL v right (timeCtrlWord v) s) ∧
      Follows { gmp := true, sess := true } (timeCtrlWord v u).1 (gmpWord h Addr.TIME_CTRL v right (timeCtrlWord v) s) :=
  gmpWord_answers m Addr.TIME_CTRL v (c := { time := true }) rfl rfl (fun u => timeCtrlWord_fol rfl (.refl _ u))

/-- A set that R374 allows waits for the next whole second. -/
theorem execForceSet_waits (m : GmpMay h x 4 10 s) (may : SetMay s) (stop : s.safe.cLatch = true) :
    ∃ t, exec (.forceSet h) s = .next t ∧ Answered h 0x02 stOk (indexBody 0xFFFF) s t ∧
      t.time.set = some ⟨Machine.setValue s, (now s / 1000000000 + 1) * 1000000000⟩ ∧ t.time.setStatus = stOk := by
  obtain ⟨u, e, answered, rest⟩ := timeCtrl_settles m 1#32
  have word : timeCtrlWord 1#32 u = (u.updTime fun t =>
      { t with set := some ⟨Machine.setValue u, (now u / 1000000000 + 1) * 1000000000⟩, setStatus := stOk }, stOk) := by
    rw [timeCtrlWord_set, forceSetOp_waits (e.setMay may) (by rw [e.fol.safe rfl, stop]), if_neg (show ¬ isErr stOk = true by decide)]
  rw [word] at answered rest
  refine ⟨_, rfl, answered, ?_, ?_⟩
  · rw [rest.time rfl, updTime_time, e.setValue, now, e.fol.time rfl, now]
  · rw [rest.time rfl, updTime_time]

/-- A set without the global stop is answered ERR_STATE, and none waits. -/
theorem execForceSet_refused (m : GmpMay h x 4 10 s) (may : SetMay s) (run : s.safe.cLatch = false) :
    ∃ t, exec (.forceSet h) s = .next t ∧ Answered h 0x02 stState (indexBody 0) s t ∧ t.time.set = none ∧
      t.time.setStatus = stState := by
  obtain ⟨u, e, answered, rest⟩ := timeCtrl_settles m 1#32
  have word : timeCtrlWord 1#32 u = (u.updTime fun t => { t with setStatus := stState }, stState) := by
    rw [timeCtrlWord_set, forceSetOp_refused (e.setMay may) (by rw [e.fol.safe rfl, run]), if_pos (show isErr stState = true by decide)]
  rw [word] at answered rest
  refine ⟨_, rfl, answered, ?_, ?_⟩
  · rw [rest.time rfl, updTime_time]
    exact (e.setMay may).noSet
  · rw [rest.time rfl, updTime_time]

/-- No source disagrees after CLEAR_DIS (R370). -/
theorem clearDis_src (s : State) (k : Nat) : (src (clearDis s) k).st ≠ .disagree := by
  rw [src, clearDis, updTime_time, List.getD_eq_getElem?_getD, List.getElem?_map]
  cases s.time.srcs[k]? with
  | none => decide
  | some y =>
    rw [Option.map_some, Option.getD_some]
    split
    · exact SrcState.noConfusion
    · assumption

/-- CLEAR_DIS frees every source that disagrees. -/
theorem execClearDis_frees (m : GmpMay h x 1 10 s) :
    ∃ t, exec (.clearDis h) s = .next t ∧ Answered h 0x02 stOk (indexBody 0xFFFF) s t ∧ ∀ k, (src t k).st ≠ .disagree := by
  obtain ⟨u, e, answered, rest⟩ := timeCtrl_settles m 2#32
  rw [timeCtrlWord_clear] at answered rest
  exact ⟨_, rfl, answered, fun k => by rw [src_congr (congrArg TimeS.srcs (rest.time rfl))]; exact clearDis_src u k⟩

end Ask

/-! A forced set applied (R375, R377). -/

/-- The step of station time: the new value, and a hold where time went back. -/
theorem stepTime_time (told new sf : Nat) (s : State) : (stepTime told new sf s).time.ns = new ∧
    (stepTime told new sf s).time.set = s.time.set ∧
    (stepTime told new sf s).time.hold = (if new < told then some sf else none) := by
  unfold stepTime
  extract_lets d r s1 s2
  have shifted : Follows { regs := true, sched := true } s1 (schedShift d s2) :=
    schedShift_fol rfl (ite_fol (.refl _ _) (bumpF_fol rfl (.refl _ _)))
  rw [shifted.time rfl]
  refine ⟨rfl, rfl, ?_⟩
  have back : d < 0 ↔ new < told := by omega
  show (if d < 0 then some sf else none) = _
  simp only [back]

/-- What an applied set leaves of station time: no set and no source. -/
theorem setApplied_time (told new sf : Nat) (s : State) : (setApplied told new sf s).time.ns = new ∧
    (setApplied told new sf s).time.set = none ∧ (setApplied told new sf s).time.sel = none ∧
    (setApplied told new sf s).time.hold = (if new < told then some sf else none) := by
  unfold setApplied
  extract_lets s1 s2 wasSel s3 s4
  have told_ : Follows { regs := true } s1 s2 := bump_fol rfl (alarm_fol rfl (.refl _ _))
  have counted : Follows { regs := true, evr := true } s3
      ((evTrig 0x1B (payloadWire (.timeEvent 0x01 0 told new)) s4).updEvr fun e => { e with setSince := true }) :=
    updEvr_fol rfl (evTrig_fol rfl rfl (ite_fol (bump_fol rfl (alarm_fol rfl (.refl _ _))) (.refl _ _)))
  obtain ⟨ns, set, hold⟩ := stepTime_time told new sf (s.updTime fun t => { t with set := none })
  rw [counted.time rfl]
  show s2.time.ns = _ ∧ s2.time.set = _ ∧ none = _ ∧ s2.time.hold = _
  rw [told_.time rfl]
  exact ⟨ns, set, rfl, hold⟩

/-- A set that is applied leaves the journal. -/
theorem setApplied_jr (told new sf : Nat) (s : State) : (setApplied told new sf s).jr = s.jr :=
  (setApplied_fol (kc := { time := true, regs := true, sched := true, evr := true }) rfl rfl rfl rfl (.refl _ s)).jr rfl

/-- The entry of a forced set, written at the next position, and the set applied with it. -/
def setWritten (f : ForcedSet) (s : State) : State :=
  setApplied f.told f.value (jWrite 0 f.told (.timeEvent 0x01 0 f.told f.value) s).jr.lastSf
    (jWrite 0 f.told (.timeEvent 0x01 0 f.told f.value) s)

/-- The journal's last position once the entry is written. -/
theorem setWritten_pos (f : ForcedSet) (s : State) :
    (setWritten f s).jr.lastSf = s.jr.sf ∧ (setWritten f s).jr.lastSeq = s.jr.nextSeq ∧
      (setWritten f s).time.hold = (if f.value < f.told then some s.jr.sf else none) := by
  obtain ⟨-, lastSf, lastSeq⟩ := JrnlS.spine_pos (jWrite_spine 0 f.told (.timeEvent 0x01 0 f.told f.value) s)
  dsimp only at lastSf lastSeq
  obtain ⟨-, -, -, hold⟩ := setApplied_time f.told f.value (jWrite 0 f.told (.timeEvent 0x01 0 f.told f.value) s).jr.lastSf
    (jWrite 0 f.told (.timeEvent 0x01 0 f.told f.value) s)
  rw [setWritten, setApplied_jr, lastSf, lastSeq]
  rw [lastSf] at hold
  exact ⟨rfl, rfl, hold⟩

/-- A forced set whose second has come is written and applied; an entry that tells of the lost source waits. -/
theorem execForceSetApply_eq {f : ForcedSet} {s : State} (set : s.time.set = some f) (writer : canWrite s = true)
    (stop : s.safe.cLatch = true) : ∃ t, exec .forceSetApply s = .next t ∧ t.time = (setWritten f (advTo f.told s)).time ∧
      t.jr.lastSf = (setWritten f (advTo f.told s)).jr.lastSf ∧ t.jr.lastSeq = (setWritten f (advTo f.told s)).jr.lastSeq := by
  have latched : (!(advTo f.told s).safe.cLatch) = false := by rw [(advTo_only _ s).safe rfl, stop]; rfl
  show ∃ t, execForceSetApply s = .next t ∧ _
  simp only [execForceSetApply, set, writer, latched, Bool.not_true, Bool.false_eq_true, if_false]
  split
  · exact ⟨_, rfl, rfl, rfl, rfl⟩
  · exact ⟨_, rfl, rfl, rfl, rfl⟩

/-- A forced set whose second has come steps time with its entry. -/
theorem execForceSetApply_applies {f : ForcedSet} {s : State} (set : s.time.set = some f) (writer : canWrite s = true)
    (stop : s.safe.cLatch = true) :
    ∃ t, exec .forceSetApply s = .next t ∧
      t.time.ns = f.value ∧ t.time.set = none ∧ t.time.sel = none ∧ t.jr.lastSf = s.jr.sf ∧ t.jr.lastSeq = s.jr.nextSeq ∧
      t.time.hold = (if f.value < f.told then some s.jr.sf else none) := by
  obtain ⟨t, run, time, lastSf, lastSeq⟩ := execForceSetApply_eq set writer stop
  obtain ⟨sf, seq, hold⟩ := setWritten_pos f (advTo f.told s)
  obtain ⟨ns, noSet, sel, -⟩ := setApplied_time f.told f.value _ (jWrite 0 f.told (.timeEvent 0x01 0 f.told f.value) (advTo f.told s))
  have journal := (advTo_only f.told s).jr rfl
  rw [← time] at hold
  rw [← lastSf] at sf
  rw [← lastSeq] at seq
  rw [journal] at hold sf seq
  exact ⟨t, run, by rw [time]; exact ns, by rw [time]; exact noSet, by rw [time]; exact sel, sf, seq, hold⟩

/-! Triggers (R382 to R384). -/

section Triggers

variable {h : GmpHdr} {x : Session} {s : State} {k : Nat}

/-- Whether a word is stored is a matter of the register, the part and the word. -/
theorem storeWord_status {t : State} (part : t.part = s.part) (a : Nat) (v : Word) :
    (storeWord a v t).2 = (storeWord a v s).2 := by
  unfold storeWord
  rw [part]
  split
  · rfl
  · split
    · rfl
    · split
      · rfl
      · dsimp only
        split <;> rfl

/-- The entry of a request leaves a trigger's START. -/
theorem Entered.trigStart {b : GmpBody} {u : State} (e : Entered h x b s u) (hk : k < 8) : trigStart u k = trigStart s k := by
  have shows : ∀ j < 8, enteredWord (rkey (Addr.TIME_TRIG_START_S_HI + 0x20 * j)) = false ∧
      enteredWord (rkey (Addr.TIME_TRIG_START_S_LO + 0x20 * j)) = false ∧
      enteredWord (rkey (Addr.TIME_TRIG_START_NS + 0x20 * j)) = false := by decide
  obtain ⟨hi, lo, ns⟩ := shows k hk
  rw [Machine.trigStart, Machine.trigStart, cfg_words e.words hi, cfg_words e.words lo, cfg_words e.words ns]

/-- A single trigger far enough ahead is armed with its start. -/
theorem trigWord_arms {v : Word} (single : fld v 1 0 = 1) (ahead : now s + 100000 ≤ Machine.trigStart s k)
    (stored : (storeWord (Addr.TIME_TRIG_CFG + 0x20 * k) v s).2 = stOk) : trigWord k v s =
      ((storeWord (Addr.TIME_TRIG_CFG + 0x20 * k) v s).1.updTime fun y =>
        { y with trigs := lset y.trigs k ⟨true, 0, Machine.trigStart s k⟩ }, stOk) := by
  have status : firstErr stOk [((1 : Nat) == 3, stField),
      ((1 : Nat) == 2 && (trigPer s k == 0 || decide (trigPer s k ≤ trigWidth s k * 1000)), stField),
      ((1 : Nat) == 1 && decide (Machine.trigStart s k < now s + 100000), stState)] = stOk := by
    rw [decide_eq_false (Nat.not_lt.mpr ahead)]
    rfl
  simp only [trigWord, single, status, stored, ne_eq, not_true_eq_false, if_false, OfNat.one_ne_ofNat, one_ne_zero,
    not_false_eq_true, decide_true]

/-- A write of a trigger's CFG arms a single trigger far enough ahead. -/
theorem execTrigArm_arms (m : GmpMay h x 1 10 s) {v : Word} (hk : k < 8) (held : k < s.time.trigs.length) (single : fld v 1 0 = 1)
    (ahead : now s + 100000 ≤ Machine.trigStart s k) (stored : (storeWord (Addr.TIME_TRIG_CFG + 0x20 * k) v s).2 = stOk) :
    ∃ t, exec (.trigArm h k v) s = .next t ∧ Answered h 0x02 stOk (indexBody 0xFFFF) s t ∧
      t.time.trigs.getD k ⟨false, 0, 0⟩ = ⟨true, 0, Machine.trigStart s k⟩ := by
  obtain ⟨u, e, answered, rest⟩ := gmpWord_answers m (Addr.TIME_TRIG_CFG + 0x20 * k) v
    (f := fun t => if k < 8 then trigWord k v t else (t, stField)) (c := { time := true, regs := true, stage := true }) rfl rfl
    (fun u => ite_fol1 (trigWord_fol rfl rfl rfl (.refl _ u)) (.refl _ u))
  have time := e.fol.time rfl
  rw [if_pos hk, trigWord_arms single (by rw [e.trigStart hk, now, time]; exact ahead)
    ((storeWord_status e.fol.part _ _).trans stored), e.trigStart hk] at answered rest
  have store : (storeWord (Addr.TIME_TRIG_CFG + 0x20 * k) v u).1.time = s.time :=
    ((storeWord_fol (kc := { regs := true, stage := true }) rfl rfl (.refl _ u)).time rfl).trans time
  refine ⟨_, rfl, answered, ?_⟩
  rw [rest.time rfl, updTime_time, store]
  simp [lset_eq_set, held]

/-- Time that passes leaves the triggers and whether they show a pulse. -/
theorem advTo_trigs (n : Nat) (s : State) : (advTo n s).time.trigs = s.time.trigs ∧ trigLive (advTo n s) = trigLive s := by
  unfold advTo
  split <;> exact ⟨rfl, rfl⟩

/-- A single trigger after its edge. -/
def trigFired (y : Trig) : Trig := { armed := false, fired := sat 16 (y.fired + 1), next := y.next }

/-- A single trigger's edge, at its time. -/
theorem execTriggerFire_eq {y : Trig} (trig : s.time.trigs.getD k ⟨false, 0, 0⟩ = y) (armed : y.armed = true)
    (live : trigLive s = true) (single : trigMode s k ≠ 2) : exec (.triggerFire k) s = .next
      (emit (.trigger k (!cfgB s (Addr.TIME_TRIG_CFG + 0x20 * k) 2) y.next (trigWidth s k))
        ((advTo y.next s).updTime fun t => { t with trigs := lset t.trigs k (trigFired y) })) := by
  have passed := advTo_only y.next s
  have mode : trigMode (advTo y.next s) k = trigMode s k := passed.cfg rfl _ _ _
  have width : trigWidth (advTo y.next s) k = trigWidth s k := passed.cfg rfl _ _ _
  have once : (trigMode s k == 2) = false := beq_eq_false_iff_ne.mpr single
  show execTriggerFire k s = _
  simp only [execTriggerFire, trig, armed, (advTo_trigs y.next s).2, live, mode, once, width, passed.cfgB rfl, Bool.not_true,
    Bool.false_eq_true, if_false, if_true, trigFired]

/-- An armed single trigger fires at its edge, and is armed no more. -/
theorem execTriggerFire_fires {y : Trig} (trig : s.time.trigs.getD k ⟨false, 0, 0⟩ = y) (armed : y.armed = true)
    (live : trigLive s = true) (single : trigMode s k ≠ 2) :
    ∃ t, exec (.triggerFire k) s = .next t ∧ t.time.ns = max s.time.ns y.next ∧
      t.out = s.out ++ [.trigger k (!cfgB s (Addr.TIME_TRIG_CFG + 0x20 * k) 2) y.next (trigWidth s k)] ∧
      (t.time.trigs.getD k ⟨false, 0, 0⟩).armed = false ∧
      (t.time.trigs.getD k ⟨false, 0, 0⟩).fired = min 65535 (y.fired + 1) := by
  have held : k < s.time.trigs.length := by
    by_contra beyond
    rw [List.getD_eq_default _ _ (Nat.not_lt.mp beyond)] at trig
    exact absurd armed (by rw [← trig]; decide)
  have fired : (lset (advTo y.next s).time.trigs k (trigFired y)).getD k ⟨false, 0, 0⟩ = trigFired y := by
    rw [lset_eq_set, (advTo_trigs _ _).1]
    simp [held]
  refine ⟨_, execTriggerFire_eq trig armed live single, advTo_ns y.next s, ?_, ?_, ?_⟩
  · rw [emit_out, updTime_out]
    congr 1
    unfold advTo
    split <;> rfl
  · exact congrArg Trig.armed fired
  · exact (congrArg Trig.fired fired).trans (min_comm _ _)

end Triggers

/-- Settles O42: the entry of a request leaves what R374 and R382 ask, so each is decided as it would have been before it, and
what follows a step or an edge changes neither time nor the triggers. -/
theorem timeIsSetAndTriggersFire : Obligations.TimeIsSetAndTriggersFire :=
  fun _ _ _ => ⟨fun m range noSet noHandover ahead =>
      ⟨execForceSet_waits m ⟨range, noSet, m.noHold, noHandover, ahead⟩, execForceSet_refused m ⟨range, noSet, m.noHold, noHandover, ahead⟩⟩,
    fun _ set writer stop => execForceSetApply_applies set writer stop, execClearDis_frees,
    fun _ _ m hk held single ahead stored => execTrigArm_arms m hk held single ahead stored,
    fun _ _ trig armed live single => execTriggerFire_fires trig armed live single⟩

end Sys2Proof.Machine

/-!
The life cycle (15_keys R386 to R389, R392): a change is armed and confirmed by the fuses, the roots and the global latch alone,
which the entry of a request leaves.
-/

namespace Sys2Proof.Machine

open Sys2Proof

/-! What the fuses and roots decide. -/

section Fuses

variable {s t : State}

theorem lcState_congr (key : t.key = s.key) : lcState t = lcState s := by rw [lcState, lcState, key]

theorem rootOk_congr (key : t.key = s.key) (i : Nat) : rootOk t i = rootOk s i := by rw [rootOk, rootOk, key]

theorem revokedA_congr (key : t.key = s.key) : revokedA t = revokedA s := by rw [revokedA, revokedA, key]

theorem dbgCust_congr (key : t.key = s.key) : dbgCust t = dbgCust s := by rw [dbgCust, dbgCust, key, lcState_congr key]

/-- A change is allowed by the keys and the covered global latch (R387, R388). -/
theorem lcAllowed_congr (key : t.key = s.key) (safe : t.safe = s.safe) (r : Bool) (g : Nat) : lcAllowed t r g = lcAllowed s r g := by
  simp only [lcAllowed, advanceOk, lcState_congr key, rootOk_congr key, revokedA_congr key, key, safe]

end Fuses

/-! The operations (R388, R389, R392). -/

section Operations

variable {s : State} {r : Bool} {g : Nat}

/-- An allowed change is armed with the next TOKEN. -/
theorem lcArm_arms (target : r = false → g ≤ 4) (allowed : lcAllowed s r g = true) : lcArm r g s =
    (s.updKey fun k => { k with arm := some ⟨nextToken s.key.lastToken, r, g, s.jr.lastSf⟩, lastToken := nextToken s.key.lastToken },
      stOk) := by
  have field : (!r && decide (4 < g)) = false := by
    cases r with
    | true => rfl
    | false => exact decide_eq_false (Nat.not_lt.mpr (target rfl))
  simp only [lcArm, field, allowed, Bool.false_eq_true, if_false, Bool.not_true]

/-- A change that R388 does not allow is not armed. -/
theorem lcArm_refuses (target : r = false → g ≤ 4) (refused : lcAllowed s r g = false) : lcArm r g s = (s, stState) := by
  have field : (!r && decide (4 < g)) = false := by
    cases r with
    | true => rfl
    | false => exact decide_eq_false (Nat.not_lt.mpr (target rfl))
  simp only [lcArm, field, refused, Bool.false_eq_true, if_false, Bool.not_false, if_true]

/-- CONFIRM with the TOKEN in its time starts blowing. -/
theorem lcConfirm_blows {a : LcArm} (armed : s.key.arm = some a) (allowed : lcAllowed s a.revoke a.target = true)
    (intime : s.jr.lastSf ≤ a.sf + 500) :
    (lcConfirm a.token s).2 = stOk ∧ (lcConfirm a.token s).1.key = { s.key with arm := none, blow := some a } := by
  have fresh : ¬ (a.token ≠ a.token ∨ s.jr.lastSf > a.sf + 500) := by omega
  simp only [lcConfirm, armed, allowed, Bool.not_true, Bool.false_eq_true, if_false, fresh]
  exact ⟨trivial, (evTrig_fol (kc := { regs := true, evr := true }) rfl rfl (.refl _ _)).key rfl⟩

/-- DISARM ends an armed change. -/
theorem lcDisarm_ends (armed : s.key.arm ≠ none) : lcDisarm s = (s.updKey fun k => { k with arm := none }, stOk) := by
  rw [lcDisarm, if_pos (Option.isSome_iff_ne_none.mpr armed)]

/-- The operation that a KEY_LC_CTRL word names. -/
def lcOp (op g token : Nat) (s : State) : State × Nat :=
  if op = 1 then lcArm false g s else if op = 2 then lcArm true 0 s else if op = 3 then lcConfirm token s else lcDisarm s

/-- A KEY_LC_CTRL word is its operation, with the status shown (R408). -/
theorem lcCtrlWord_eq {op token : Nat} (hop : 1 ≤ op ∧ op ≤ 4) (hg : g ≤ 4) (ht : token < 256) (s : State) :
    lcCtrlWord (lcWord op g token) s = ((lcOp op g token s).1.updKey fun k => { k with lcStatus := (lcOp op g token s).2 },
      (lcOp op g token s).2) := by
  obtain ⟨fop, ftarget, ftoken⟩ : fld (lcWord op g token) 2 0 = op ∧ fld (lcWord op g token) 6 4 = g ∧
      fld (lcWord op g token) 15 8 = token := by
    simp only [fld, bitsOf, lcWord, wordOf, pack, BitVec.toNat_ofNat]
    omega
  have known : op = 1 ∨ op = 2 ∨ op = 3 ∨ op = 4 := by omega
  simp only [lcCtrlWord, fop, ftarget, ftoken, lcOp]
  rcases known with rfl | rfl | rfl | rfl <;> rfl

end Operations

/-! By GMP (R388). -/

section Gmp

variable {h : GmpHdr} {x : Session} {s : State}

/-- A KEY_LC_CTRL word of a sender with the life-cycle right is decided on the state with its entry. -/
theorem lcCmd_settles (m : GmpMay h x 5 10 s) {op g token : Nat} (hop : 1 ≤ op ∧ op ≤ 4) (hg : g ≤ 4) (ht : token < 256) :
    ∃ u, u.key = s.key ∧ u.safe = s.safe ∧ u.jr.lastSf = s.jr.sf ∧
      Answered h 0x02 (lcOp op g token u).2 (indexBody (if isErr (lcOp op g token u).2 then 0 else 0xFFFF)) s
        (lcCmd (some h) (lcWord op g token) s) ∧
      (lcCmd (some h) (lcWord op g token) s).key = { (lcOp op g token u).1.key with lcStatus := (lcOp op g token u).2 } := by
  obtain ⟨u, e, answered, rest⟩ := gmpWord_answers m Addr.KEY_LC_CTRL (lcWord op g token) (f := lcCtrlWord (lcWord op g token))
    (c := { regs := true, evr := true, key := true }) rfl rfl (fun u => lcCtrlWord_fol rfl rfl rfl (.refl _ u))
  rw [lcCtrlWord_eq hop hg ht] at answered rest
  obtain ⟨-, lastSf, -⟩ := JrnlS.spine_pos e.spine
  exact ⟨u, e.fol.key rfl, e.fol.safe rfl, lastSf, answered, rest.key rfl⟩

theorem execArmAdvance_arms (m : GmpMay h x 5 10 s) {g : Nat} (hg : g ≤ 4) (allowed : lcAllowed s false g = true) :
    ∃ t, exec (.armAdvance (some h) g) s = .next t ∧ Answered h 0x02 stOk (indexBody 0xFFFF) s t ∧ t.key.lcStatus = stOk ∧
      t.key.arm = some ⟨nextToken s.key.lastToken, false, g, s.jr.sf⟩ := by
  obtain ⟨u, key, safe, lastSf, answered, shown⟩ := lcCmd_settles m (op := 1) (token := 0) (by decide) hg (by decide)
  have op : lcOp 1 g 0 u = _ := lcArm_arms (fun _ => hg) (by rw [lcAllowed_congr key safe, allowed])
  rw [op] at answered shown
  exact ⟨_, rfl, answered, by rw [shown], by rw [shown, updKey_key, lastSf, key]⟩

theorem execArmAdvance_refused (m : GmpMay h x 5 10 s) {g : Nat} (hg : g ≤ 4) (refused : lcAllowed s false g = false) :
    ∃ t, exec (.armAdvance (some h) g) s = .next t ∧ Answered h 0x02 stState (indexBody 0) s t ∧ t.key.arm = s.key.arm := by
  obtain ⟨u, key, safe, -, answered, shown⟩ := lcCmd_settles m (op := 1) (token := 0) (by decide) hg (by decide)
  have op : lcOp 1 g 0 u = _ := lcArm_refuses (fun _ => hg) (by rw [lcAllowed_congr key safe, refused])
  rw [op] at answered shown
  exact ⟨_, rfl, answered, by rw [shown, key]⟩

theorem execArmRevokeA_arms (m : GmpMay h x 5 10 s) (allowed : lcAllowed s true 0 = true) :
    ∃ t, exec (.armRevokeA (some h)) s = .next t ∧ Answered h 0x02 stOk (indexBody 0xFFFF) s t ∧
      t.key.arm = some ⟨nextToken s.key.lastToken, true, 0, s.jr.sf⟩ := by
  obtain ⟨u, key, safe, lastSf, answered, shown⟩ := lcCmd_settles m (op := 2) (g := 0) (token := 0) (by decide) (by decide) (by decide)
  have op : lcOp 2 0 0 u = _ := lcArm_arms (r := true) (fun no => nomatch no) (by rw [lcAllowed_congr key safe, allowed])
  rw [op] at answered shown
  exact ⟨_, rfl, answered, by rw [shown, updKey_key, lastSf, key]⟩

theorem execLcConfirm_blows (m : GmpMay h x 5 10 s) {a : LcArm} (armed : s.key.arm = some a) (ht : a.token < 256)
    (allowed : lcAllowed s a.revoke a.target = true) (intime : s.jr.sf ≤ a.sf + 500) :
    ∃ t, exec (.lcConfirm (some h) a.token) s = .next t ∧ Answered h 0x02 stOk (indexBody 0xFFFF) s t ∧
      t.key.blow = some a ∧ t.key.arm = none := by
  obtain ⟨u, key, safe, lastSf, answered, shown⟩ := lcCmd_settles m (op := 3) (g := 0) (by decide) (by decide) ht
  obtain ⟨status, blown⟩ : (lcOp 3 0 a.token u).2 = stOk ∧ (lcOp 3 0 a.token u).1.key = _ :=
    lcConfirm_blows (by rw [key, armed]) (by rw [lcAllowed_congr key safe, allowed]) (by rw [lastSf]; exact intime)
  rw [status] at answered
  exact ⟨_, rfl, answered, by rw [shown, blown], by rw [shown, blown]⟩

theorem execLcDisarm_ends (m : GmpMay h x 5 10 s) (armed : s.key.arm ≠ none) :
    ∃ t, exec (.lcDisarm (some h)) s = .next t ∧ Answered h 0x02 stOk (indexBody 0xFFFF) s t ∧ t.key.arm = none := by
  obtain ⟨u, key, -, -, answered, shown⟩ := lcCmd_settles m (op := 4) (g := 0) (token := 0) (by decide) (by decide) (by decide)
  have op : lcOp 4 0 0 u = _ := lcDisarm_ends (by rw [key]; exact armed)
  rw [op] at answered shown
  exact ⟨_, rfl, answered, by rw [shown, updKey_key]⟩

end Gmp

/-! By the debug port (R388), and the fuses (R389). -/

section Port

variable {s : State}

/-- The debug port arms a change in BLANK, without an entry. -/
theorem execArmAdvance_port {g : Nat} (blank : lcState s = 0) (hg : g ≤ 4) (allowed : lcAllowed s false g = true) :
    ∃ t, exec (.armAdvance none g) s = .next t ∧
      t.key.arm = some ⟨nextToken s.key.lastToken, false, g, s.jr.lastSf⟩ ∧ t.jr = s.jr := by
  have op : lcOp 1 g 0 s = _ := lcArm_arms (fun _ => hg) allowed
  have run : exec (.armAdvance none g) s = .next (lcCtrlWord (lcWord 1 g 0) s).1 := by
    show Host.Outcome.next (lcCmd none (lcWord 1 g 0) s) = _
    rw [lcCmd, if_pos blank]
  refine ⟨_, run, ?_⟩
  rw [lcCtrlWord_eq (by decide) hg (by decide), op]
  exact ⟨rfl, rfl⟩

/-- The change being blown, with one more fuse of its pair. -/
theorem execFuseBlown_eq {a : LcArm} (blow : s.key.blow = some a) (advance : a.revoke = false) : exec .fuseBlown s =
    if (lmod s.key.fuses (a.target - 1) (fun n => min 2 (n + 1))).getD (a.target - 1) 0 < 2
    then .next (s.updKey (blowOne a)) else .next (deviceReset 7 0 (s.updKey (blowOne a))) := by
  show execFuseBlown s = _
  simp only [execFuseBlown, blow, updKey_key, blowOne, advance, Bool.false_eq_true, if_false]

/-- The fuses with one more of a pair. -/
theorem blowOne_fuses {a : LcArm} (advance : a.revoke = false) (k : KeyS) :
    blowOne a k = { k with fuses := lmod k.fuses (a.target - 1) (fun n => min 2 (n + 1)) } := by
  rw [blowOne, advance]
  rfl

/-- The count of a pair after one more of its fuses. -/
theorem fuses_blown {l : List Nat} {i : Nat} (held : i < l.length) :
    (lmod l i (fun n => min 2 (n + 1))).getD i 0 = min 2 (l.getD i 0 + 1) := by
  simp [lmod_eq_modify, held]

/-- The first fuse of a pair leaves the device running. -/
theorem execFuseBlown_first {a : LcArm} (blow : s.key.blow = some a) (advance : a.revoke = false)
    (held : a.target - 1 < s.key.fuses.length) (whole : s.key.fuses.getD (a.target - 1) 0 = 0) :
    ∃ t, exec .fuseBlown s = .next t ∧ t.key.fuses.getD (a.target - 1) 0 = 1 ∧ t.pcr = s.pcr ∧ t.key.blow = some a := by
  have count := fuses_blown held
  rw [whole] at count
  refine ⟨s.updKey (blowOne a), by rw [execFuseBlown_eq blow advance, if_pos (by rw [count]; decide)], ?_, rfl, ?_⟩
  · rw [updKey_key, blowOne_fuses advance, count]; rfl
  · rw [updKey_key, blowOne_fuses advance]; exact blow

/-- The second fuse of a pair resets the device under code 7. -/
theorem execFuseBlown_second {a : LcArm} (blow : s.key.blow = some a) (advance : a.revoke = false)
    (half : s.key.fuses.getD (a.target - 1) 0 = 1) : ∃ t, exec .fuseBlown s = .next t ∧
      t.key.fuses.getD (a.target - 1) 0 = 2 ∧ t.pcr.phase = .held ∧ t.pcr.cause = 7 ∧ t.key.blow = none := by
  have held : a.target - 1 < s.key.fuses.length := by
    by_contra beyond
    rw [List.getD_eq_default _ _ (Nat.not_lt.mp beyond)] at half
    exact absurd half (by decide)
  have count := fuses_blown held
  rw [half] at count
  refine ⟨deviceReset 7 0 (s.updKey (blowOne a)), by rw [execFuseBlown_eq blow advance, if_neg (by rw [count]; decide)], ?_, rfl,
    rfl, rfl⟩
  show (s.updKey (blowOne a)).key.fuses.getD _ _ = _
  rw [updKey_key, blowOne_fuses advance, count]
  rfl

end Port

/-- Settles O43: the entry of a request leaves the keys, the latch and the position that a change is armed at. -/
theorem lifeCycleAdvances : Obligations.LifeCycleAdvances :=
  fun _ => ⟨fun _ _ m => ⟨fun _ hg => execArmAdvance_arms m hg, fun _ hg => execArmAdvance_refused m hg, execArmRevokeA_arms m,
      fun _ armed ht => execLcConfirm_blows m armed ht, execLcDisarm_ends m⟩,
    fun _ blank hg => execArmAdvance_port blank hg, fun _ blow advance held whole => execFuseBlown_first blow advance held whole,
    fun _ blow advance half => execFuseBlown_second blow advance half⟩

end Sys2Proof.Machine

/-!
Key slots and debug access (15_keys R400 to R402, R405 to R407): an operation asked for by KEY_ID, the end of one, a challenge
and its response.
-/

namespace Sys2Proof.Machine

open Sys2Proof

/-! Operations (R400 to R402). -/

section Operations

variable {s : State} {id m u : Nat}

/-- A count of an error leaves what has left the block. -/
theorem keyCount_out (st : Nat) (s : State) : (keyCount st s).out = s.out := by
  unfold keyCount
  split
  · exact bump_out _ s
  · split
    · exact bump_out _ s
    · split
      · exact bump_out _ s
      · rfl

/-- The end of a request tells its status, and leaves the keys. -/
theorem keyEnd_tells (id st : Nat) (s : State) : (keyEnd id st s).out = s.out ++ [.keyOp id st] ∧ (keyEnd id st s).key = s.key := by
  constructor
  · rw [keyEnd, emit_out, keyCount_out]
  · exact (emit_fol (keyCount_fol (kc := { regs := true }) rfl (.refl _ s))).key rfl

/-- A use that a key's attributes do not allow is refused as not authorised (R401). -/
theorem useCheck_refused {b : Blob} (no : useCheck s b m u ≠ stOk) : useCheck s b m u = stAuth := by
  unfold useCheck at no ⊢
  cases bad : (!b.masters.testBit m || !b.usage.testBit u || !b.lcMask.testBit (lcState s)) with
  | false => rw [bad] at no; exact absurd rfl no
  | true => rfl

/-- A READY key whose attributes allow the use serves it. -/
theorem execKeyLoad_serves {i : Nat} {y : KSlot} (closed : dbgCust s = false) (ready : readySlot s id = some (i, y))
    (ok : useCheck s y.blob m u = stOk) : ∃ t, exec (.keyLoad id m u) s = .next t ∧ t.out = s.out ++ [.keyOp id stOk] ∧
      ∃ z, kfind t.key.slots i = some z ∧ z.running = y.running + 1 ∧ z.blob = y.blob := by
  have run : exec (.keyLoad id m u) s = .next (emit (.keyOp id stOk) (s.updKey fun k =>
      { k with slots := kins k.slots i { y with running := y.running + 1, used := k.clock }, clock := k.clock + 1 })) := by
    show execKeyLoad id m u s = _
    simp only [execKeyLoad, closed, Bool.false_eq_true, if_false, ready, ok, ne_eq, not_true_eq_false]
  refine ⟨_, run, rfl, { y with running := y.running + 1, used := s.key.clock }, ?_, rfl, rfl⟩
  exact kfind_kins.trans (if_pos rfl)

/-- A READY key whose attributes do not allow the use is refused. -/
theorem execKeyLoad_refuses {i : Nat} {y : KSlot} (closed : dbgCust s = false) (ready : readySlot s id = some (i, y))
    (no : useCheck s y.blob m u ≠ stOk) : exec (.keyLoad id m u) s = .next (keyEnd id stAuth s) := by
  show execKeyLoad id m u s = _
  simp only [execKeyLoad, closed, Bool.false_eq_true, if_false, ready, useCheck_refused no]
  exact if_pos (by decide)

/-- A key that the keyring lacks is stale. -/
theorem execKeyLoad_stale (closed : dbgCust s = false) (absent : readySlot s id = none) (none : kfind s.key.ring.blobs id = none) :
    exec (.keyLoad id m u) s = .next (keyEnd id stStale s) := by
  show execKeyLoad id m u s = _
  simp only [execKeyLoad, closed, Bool.false_eq_true, if_false, absent, nextToLoad, none]

/-- The last operation on a STALE slot zeroes it (R402). -/
theorem execKeyOperationEnd_zeroes {i : Nat} {y : KSlot} (held : kfind s.key.slots i = some y) (stale : y.st = .stale)
    (last : y.running ≤ 1) : ∃ t, exec (.keyOperationEnd i) s = .next t ∧ kfind t.key.slots i = none := by
  have ended : y.running - 1 = 0 := by omega
  refine ⟨s.updKey fun k => { k with slots := kdel k.slots i }, ?_, kfind_kdel.trans (if_pos rfl)⟩
  show execKeyOperationEnd i s = _
  simp only [execKeyOperationEnd, held, stale, ended, and_self, if_true]

/-- The end of another operation counts it down. -/
theorem execKeyOperationEnd_counts {i : Nat} {y : KSlot} (held : kfind s.key.slots i = some y) (live : y.st ≠ .stale) :
    ∃ t, exec (.keyOperationEnd i) s = .next t ∧ kfind t.key.slots i = some { y with running := y.running - 1 } := by
  refine ⟨s.updKey fun k => { k with slots := kins k.slots i { y with running := y.running - 1 } }, ?_, kfind_kins.trans (if_pos rfl)⟩
  show execKeyOperationEnd i s = _
  simp only [execKeyOperationEnd, held, live, false_and, if_false]

end Operations

/-! Debug access (R405 to R407). -/

section Debug

variable {s : State}

/-- NEW_CHAL alone makes a challenge. -/
theorem dbgCtrlWord_chal (right : Bool) (s : State) :
    dbgCtrlWord right 1#32 s = ((newChal s).updKey fun k => { k with dbgStatus := stOk }, stOk) := by
  have chal : bit 1#32 0 = true := by decide
  have submit : bit 1#32 1 = false := by decide
  simp only [dbgCtrlWord, chal, submit, if_true, Bool.false_eq_true, if_false]

/-- SUBMIT alone checks the response. -/
theorem dbgCtrlWord_submit (right : Bool) (s : State) : dbgCtrlWord right 2#32 s =
    ((submitOp right s).1.updKey fun k => { k with dbgStatus := (submitOp right s).2 }, (submitOp right s).2) := by
  have chal : bit 2#32 0 = false := by decide
  have submit : bit 2#32 1 = true := by decide
  simp only [dbgCtrlWord, chal, submit, if_true, Bool.false_eq_true, if_false]

/-- What R406 and R407 ask of a response: neither BLANK nor retired, under a global stop in the customer world, to a fresh
challenge, and after fewer than three failures. -/
structure DebugMay (s : State) : Prop where
  blank : lcState s ≠ 0
  retired : lcState s ≠ 4
  stop : lcWorld (lcState s) = 1 → s.safe.latch = true
  fresh : s.key.chalFresh = true
  tries : s.key.fails < 3

/-- A response that may be checked uses the challenge up. -/
theorem submitOp_eq (may : DebugMay s) (right : Bool) : submitOp right s =
    if right then (dbgUnlock (s.updKey fun k => { k with chalFresh := false }), stOk)
    else ((s.updKey fun k => { k with chalFresh := false }).updKey fun k => { k with fails := k.fails + 1 }, stCheck) := by
  have legal : ¬ (lcState s = 4 ∨ lcState s = 0 ∨ (lcWorld (lcState s) = 1 ∧ (!s.safe.latch) = true) ∨
      (!s.key.chalFresh) = true ∨ 3 ≤ s.key.fails) := by
    rintro (retired | blank | ⟨world, calm⟩ | used | tries)
    · exact may.retired retired
    · exact may.blank blank
    · rw [may.stop world] at calm; cases calm
    · rw [may.fresh] at used; cases used
    · exact absurd may.tries (Nat.not_lt.mpr tries)
  simp only [submitOp, if_neg legal]

/-- An unlock opens debug access and zeroes every slot (R407). -/
theorem dbgUnlock_key (s : State) : (dbgUnlock s).key = { s.key with dbgOpen := true, slots := [] } := by
  unfold dbgUnlock
  dsimp only
  rw [(evTrig_fol (kc := { regs := true, evr := true }) rfl rfl (.refl _ _)).key rfl]
  split
  · exact (closeAll_fol (kc := { jr := true, gmp := true, sess := true }) rfl rfl rfl (.refl _ _)).key rfl
  · rfl

/-- A response that may be checked, from the debug port. -/
theorem execSubmit_port (may : DebugMay s) (r : List Word) (right : Bool) : ∃ v, DebugMay v ∧ v.key.fails = s.key.fails ∧
    v.key.dbgOpen = s.key.dbgOpen ∧ exec (.submit none r right) s =
      .next ((submitOp right v).1.updKey fun k => { k with dbgStatus := (submitOp right v).2 }) := by
  refine ⟨s.updKey fun k => { k with resp := if r.length = 4 then r else k.resp }, ?_, rfl, rfl, ?_⟩
  · exact ⟨may.blank, may.retired, may.stop, may.fresh, may.tries⟩
  · show Host.Outcome.next (dbgCtrlWord right 2#32 _).1 = _
    rw [dbgCtrlWord_submit]

theorem execSubmit_opens (may : DebugMay s) (r : List Word) :
    ∃ t, exec (.submit none r true) s = .next t ∧ t.key.dbgOpen = true ∧ t.key.slots = [] ∧ t.key.chalFresh = false := by
  obtain ⟨v, mayV, -, -, run⟩ := execSubmit_port may r true
  refine ⟨_, run, ?_⟩
  rw [submitOp_eq mayV, if_pos rfl, updKey_key, dbgUnlock_key]
  exact ⟨rfl, rfl, rfl⟩

theorem execSubmit_fails (may : DebugMay s) (r : List Word) :
    ∃ t, exec (.submit none r false) s = .next t ∧ t.key.dbgOpen = s.key.dbgOpen ∧ t.key.fails = s.key.fails + 1 ∧
      t.key.chalFresh = false ∧ t.key.dbgStatus = stCheck := by
  obtain ⟨v, mayV, fails, dbg, run⟩ := execSubmit_port may r false
  refine ⟨_, run, ?_⟩
  rw [submitOp_eq mayV, if_neg Bool.false_ne_true]
  exact ⟨dbg, congrArg (· + 1) fails, rfl, rfl⟩

variable {h : GmpHdr} {x : Session}

/-- A new challenge from the host is answered. -/
theorem execNewChal_host (m : GmpMay h x 5 10 s) : ∃ t, exec (.newChal (some h)) s = .next t ∧
    Answered h 0x02 stOk (indexBody 0xFFFF) s t ∧ t.key.chalFresh = true := by
  obtain ⟨u, e, answered, rest⟩ := gmpWord_answers m Addr.KEY_DBG_CTRL 1#32 (f := dbgCtrlWord false 1#32) (c := { key := true })
    rfl rfl (fun u => by
      rw [dbgCtrlWord_chal]
      dsimp only
      refine updKey_fol rfl ?_
      exact newChal_fol rfl (.refl _ u))
  rw [dbgCtrlWord_chal] at answered rest
  refine ⟨_, rfl, answered, ?_⟩
  rw [rest.key rfl]
  rfl

/-- A wrong response changes the keys alone. -/
theorem submitOp_wrong_only (u : State) : Follows { key := true } u (submitOp false u).1 := by
  unfold submitOp
  dsimp only
  split
  · exact .refl _ u
  · rw [if_neg Bool.false_ne_true]
    dsimp only
    refine updKey_fol rfl ?_
    refine updKey_fol rfl ?_
    exact .refl _ u

/-- A wrong response from the host is answered ERR_CHECK, and counted. -/
theorem execSubmit_host (may : DebugMay s) (m : GmpMay h x 5 10 s) (r : List Word) :
    ∃ t, exec (.submit (some h) r false) s = .next t ∧ Answered h 0x02 stCheck (indexBody 0) s t ∧
      t.key.fails = s.key.fails + 1 ∧ t.key.dbgStatus = stCheck := by
  obtain ⟨u, e, answered, rest⟩ := gmpWord_answers m Addr.KEY_DBG_CTRL 2#32 (f := dbgCtrlWord false 2#32) (c := { key := true })
    rfl rfl (fun u => by
      rw [dbgCtrlWord_submit]
      dsimp only
      refine updKey_fol rfl ?_
      exact submitOp_wrong_only u)
  have key := e.fol.key rfl
  have mayU : DebugMay u := by
    refine ⟨?_, ?_, ?_, ?_, ?_⟩
    · rw [lcState_congr key]; exact may.blank
    · rw [lcState_congr key]; exact may.retired
    · rw [lcState_congr key, e.fol.safe rfl]; exact may.stop
    · rw [key]; exact may.fresh
    · rw [key]; exact may.tries
  rw [dbgCtrlWord_submit, submitOp_eq mayU, if_neg Bool.false_ne_true] at answered rest
  refine ⟨_, rfl, answered, ?_, ?_⟩
  · rw [rest.key rfl, ← key]
    rfl
  · rw [rest.key rfl]
    rfl

end Debug

/-- Settles O45: each operation is one branch of the request, and what is told, counted or recorded leaves the keys. -/
theorem keysServeAndDebugOpens : Obligations.KeysServeAndDebugOpens :=
  fun s => ⟨fun _ _ _ _ _ closed ready ok => execKeyLoad_serves closed ready ok,
    fun _ _ _ _ _ closed ready no => ⟨_, execKeyLoad_refuses closed ready no, keyEnd_tells _ _ s⟩,
    fun _ _ _ closed absent none => ⟨_, execKeyLoad_stale closed absent none, keyEnd_tells _ _ s⟩,
    fun _ _ held stale last => execKeyOperationEnd_zeroes held stale last,
    fun _ _ held live => execKeyOperationEnd_counts held live,
    ⟨(dbgCtrlWord false 1#32 s).1, rfl, by rw [dbgCtrlWord_chal]; exact ⟨rfl, rfl, rfl⟩⟩,
    fun _ _ m => execNewChal_host m,
    fun r blank retired stop fresh tries =>
      ⟨execSubmit_opens ⟨blank, retired, stop, fresh, tries⟩ r, execSubmit_fails ⟨blank, retired, stop, fresh, tries⟩ r,
        fun _ _ m => execSubmit_host ⟨blank, retired, stop, fresh, tries⟩ m r⟩⟩

end Sys2Proof.Machine

/-!
Roots and the keyring (15_keys R391, R396 to R399, R402, R403, R408): a change waits in line for its write, which the keys alone
decide; a written one is in force.
-/

namespace Sys2Proof.Machine

open Sys2Proof

/-! Roots (R391). -/

section Roots

variable {h : GmpHdr} {x : Session} {s : State} {b : RootBody}

/-- A blank customer root whose blob unwraps is programmed. -/
theorem rootOp_programs (which : b.root = 1 ∨ b.root = 2) (zero : b.zero = 0) (length : b.wrapped.length = 40) (lc : lcState s = 1)
    (blank : s.key.roots.getD b.root .blank = .blank) (vendor : rootOk s 0 = true) (kwp : b.kwpOk = true) :
    rootOp b s = (s.updKey fun k => { k with roots := lset k.roots b.root .valid }, stOk) := by
  have form : (!(b.root == 1 || b.root == 2) || b.zero != 0 || b.wrapped.length != 40) = false := by
    rcases which with one | two <;> simp [*]
  have state : (lcState s != 1 || s.key.roots.getD b.root .blank != .blank) = false := by rw [lc, blank]; rfl
  have unwraps : (!rootOk s 0 || !b.kwpOk) = false := by rw [vendor, kwp]; rfl
  simp only [rootOp, form, state, unwraps, firstErr, if_true]

/-- ROOT programs a blank root, and is answered OK. -/
theorem execRoot_programs (m : GmpMay h x 5 10 s) (which : b.root = 1 ∨ b.root = 2) (zero : b.zero = 0)
    (length : b.wrapped.length = 40) (lc : lcState s = 1) (held : b.root < s.key.roots.length)
    (blank : s.key.roots.getD b.root .blank = .blank) (vendor : rootOk s 0 = true) (kwp : b.kwpOk = true) :
    ∃ t, exec (.root h b) s = .next t ∧ Answered h 0x4A stOk [] s t ∧ t.key.roots.getD b.root .blank = .valid := by
  obtain ⟨u, e, hd⟩ := gmpRequest_answers m.toGmpReady (.root b) (adm := true) (ok := fun k t => hasRight t k 5)
    (fun _ w => keeps_right m w) (fun _ => m.room) (f := rootHandler b) (c := { key := true, fuse := true }) rfl rfl
    (fun u => rootHandler_fol rfl rfl (.refl _ u))
  have key := e.fol.key rfl
  have programs : rootHandler b ⟨h.sess, x.ident, h.reqId, (s.jr.sf, s.jr.nextSeq), false⟩ u =
      (u.updKey fun k => { k with roots := lset k.roots b.root .valid }, some (stOk, [])) := by
    rw [rootHandler, if_neg Bool.false_ne_true, rootOp_programs which zero length (by rw [lcState_congr key, lc])
      (by rw [key, blank]) (by rw [rootOk_congr key, vendor]) kwp]
  obtain ⟨answered, rest⟩ := hd _ _ programs
  refine ⟨_, rfl, answered, ?_⟩
  rw [rest.key rfl, updKey_key, key, lset_eq_set]
  simp [held]

end Roots

/-! What a change of the keyring is decided on (R396, R399, R402). -/

section Ring

variable {s t : State} {b : Blob} {id : Nat} {w : Option Waiter}

/-- The checks of a blob are a matter of the keys. -/
theorem blobCheck_congr (key : t.key = s.key) (ring : KRing) (b : Blob) : blobCheck t ring b = blobCheck s ring b := by
  simp only [blobCheck, blobStale, lcState_congr key, dbgCust_congr key, revokedA_congr key, key]

/-- Slots that go stale leave the keyring and its writes. -/
theorem staleKey_key (id : Nat) (s : State) : (staleKey id s).key = { s.key with slots := (staleKey id s).key.slots } := by
  unfold staleKey
  dsimp only
  split
  · rw [(closeAll_fol (kc := { jr := true, gmp := true, sess := true }) rfl rfl rfl (.refl _ _)).key rfl]
    rfl
  · rfl

/-- A change in line for its write, beside the slots. -/
theorem ringQueue_key (ring : KRing) (isPut : Bool) (s : State) : (ringQueue ring w isPut s).key =
    { s.key with next := ring, writes := s.key.writes ++ [⟨ring, w, isPut⟩] } := rfl

/-- What a change that waits for its write leaves in the keys. -/
structure Queued (s t : State) (x : RingWrite) : Prop where
  writes : t.key.writes = s.key.writes ++ [x]
  next : t.key.next = x.ring
  ring : t.key.ring = s.key.ring

/-- A change that follows work on the slots alone is in line. -/
theorem queued_of_slots {u : State} (slots : u.key = { s.key with slots := u.key.slots }) (ring : KRing) (isPut : Bool) :
    Queued s (ringQueue ring w isPut u) ⟨ring, w, isPut⟩ := by
  have writes : u.key.writes = s.key.writes := (congrArg KeyS.writes slots :)
  have inForce : u.key.ring = s.key.ring := (congrArg KeyS.ring slots :)
  exact ⟨by rw [ringQueue_key, writes], by rw [ringQueue_key], by rw [ringQueue_key, inForce]⟩

/-- Whether a put waits for its write is a matter of the keys. -/
theorem putOp_status (key : t.key = s.key) (b : Blob) (w w' : Option Waiter) : (putOp b w t).2 = (putOp b w' s).2 := by
  have reparented : reparents t b = reparents s b := by rw [reparents, reparents, key]
  simp only [putOp, blobCheck_congr key, reparented, key, apply_ite Prod.snd]

/-- A put that waits for its write carries the blob in the next keyring. -/
theorem putOp_queues (waits : (putOp b w s).2 = none) : ∃ ring, Queued s (putOp b w s).1 ⟨ring, w, true⟩ ∧
    kfind ring.blobs b.keyId = some b ∧ ring.gen = s.key.next.gen + 1 := by
  obtain ⟨⟨t, st⟩, run⟩ : ∃ r, putOp b w s = r := ⟨_, rfl⟩
  rw [run] at waits ⊢
  cases waits
  unfold putOp at run
  extract_lets ring st re raised slots at run
  have gen : raised.gen = s.key.next.gen := by
    unfold raised
    split
    · split <;> rfl
    · rfl
  have keeps : slots.key = { s.key with slots := slots.key.slots } := by
    unfold slots
    split
    · rfl
    · split
      · exact staleKey_key _ _
      · rfl
  split at run
  · cases run
  · split at run
    · cases run
    · cases run
      exact ⟨_, queued_of_slots keeps _ _, kfind_kins.trans (if_pos rfl), congrArg (· + 1) gen⟩

/-- A blob that fails its checks changes nothing. -/
theorem putOp_refuses (fails : blobCheck s s.key.next b ≠ stOk) : putOp b w s = (s, some (blobCheck s s.key.next b)) := by
  have first : firstErr stOk [(blobCheck s s.key.next b != stOk, blobCheck s s.key.next b),
      (putCheck s.key.next b != stOk, putCheck s.key.next b)] = blobCheck s s.key.next b := by
    rw [bne_iff_ne.mpr fails, firstErr]
  simp only [putOp, first, fails, ne_eq, not_false_eq_true, if_true]

/-- An invalidated KEY_ID leaves the next keyring, and its generation is barred. -/
theorem invalidateOp_queues (held : kfind s.key.next.blobs id = some b) (gen : s.key.next.gen ≠ 0xFFFFFFFF)
    (room : (raiseFloor s.key.next id b.gen).floors.length ≤ 256) : (invalidateOp id w s).2 = none ∧
      ∃ ring, Queued s (invalidateOp id w s).1 ⟨ring, w, false⟩ ∧ kfind ring.blobs id = none ∧ kget 0 ring.floors id = b.gen + 1 := by
  have legal : ¬ (s.key.next.gen = 0xFFFFFFFF ∨ 256 < (raiseFloor s.key.next id b.gen).floors.length) := by
    rintro (full | long)
    · exact gen full
    · exact absurd room (Nat.not_le.mpr long)
  have barred : kget 0 (raiseFloor s.key.next id b.gen).floors id = b.gen + 1 := by
    show kget 0 (kset 0 s.key.next.floors id (b.gen + 1)) id = _
    rw [kget_kset, if_pos rfl]
  simp only [invalidateOp, held, if_neg legal]
  exact ⟨trivial, _, queued_of_slots (staleKey_key id s) _ _, kfind_kdel.trans (if_pos rfl), barred⟩

/-- A KEY_ID that no blob has is answered OK_EMPTY. -/
theorem invalidateOp_empty (absent : kfind s.key.next.blobs id = none) : invalidateOp id w s = (s, some stEmpty) := by
  simp only [invalidateOp, absent]

end Ring

/-! KEY_PUT, KEY_INVALIDATE and KEY_CMD (R399, R402, R408). -/

section Requests

variable {h : GmpHdr} {x : Session} {s : State} {b : Blob} {id : Nat}

/-- Where the keys that follow are those of the work, so is the line for the writes. -/
theorem Queued.congr {s t u v : State} {y : RingWrite} (q : Queued s t y) (before : s.key = u.key) (after : v.key = t.key) :
    Queued u v y :=
  ⟨by rw [after, ← before, q.writes], by rw [after, q.next], by rw [after, ← before, q.ring]⟩

/-- A message about the keyring that waits for its write leaves what its handler did. -/
theorem keyRequest_waits (m : GmpMay h x 6 10 s) (body : GmpBody) {f : Handler} {op : Option Waiter → State → State × Option Nat}
    (is : ∀ u, f ⟨h.sess, x.ident, h.reqId, (s.jr.sf, s.jr.nextSeq), false⟩ u = keyResult (op (some ⟨x.ident, h.reqId⟩) u))
    (waits : ∀ u, u.key = s.key → (op (some ⟨x.ident, h.reqId⟩) u).2 = none) :
    ∃ u, u.key = s.key ∧ gmpRequest h body false true (fun k t => hasRight t k 6) f s = (op (some ⟨x.ident, h.reqId⟩) u).1 := by
  obtain ⟨u, e, hd⟩ := gmpRequest_done m.toGmpReady body (adm := true) (ok := fun k t => hasRight t k 6)
    (fun _ w => keeps_right m w) (fun _ => m.room)
  have key := e.fol.key rfl
  refine ⟨u, key, ?_⟩
  rw [hd, is, keyResult, waits u key]

/-- A message about the keyring that is decided without a change is answered, and leaves the keys. -/
theorem keyRequest_answers (m : GmpMay h x 6 10 s) (body : GmpBody) {f : Handler} {st : Nat}
    (is : ∀ u, u.key = s.key → f ⟨h.sess, x.ident, h.reqId, (s.jr.sf, s.jr.nextSeq), false⟩ u = (keyCount st u, some (st, []))) :
    Answered h (bodyType body) st [] s (gmpRequest h body false true (fun k t => hasRight t k 6) f s) ∧
      (gmpRequest h body false true (fun k t => hasRight t k 6) f s).key = s.key := by
  obtain ⟨u, e, hd⟩ := gmpRequest_done m.toGmpReady body (adm := true) (ok := fun k t => hasRight t k 6)
    (fun _ w => keeps_right m w) (fun _ => m.room)
  have counted : Follows { regs := true } u (keyCount st u) := keyCount_fol rfl (.refl _ u)
  rw [hd, is u (e.fol.key rfl)]
  exact ⟨completeReq_answers e (counted.like rfl) (counted.role rfl) counted.out m.toGmpReady.token _ _,
    ((completeReq_only _ _ _ _).key rfl).trans ((counted.key rfl).trans (e.fol.key rfl))⟩

/-- A blob that passes its checks waits for its write. -/
theorem execKeyPut_queues (m : GmpMay h x 6 10 s) (waits : (putOp b none s).2 = none) : ∃ t w, exec (.keyPut h b) s = .next t ∧
    t.key.writes = s.key.writes ++ [w] ∧ t.key.next = w.ring ∧ w.waiter = some ⟨x.ident, h.reqId⟩ ∧ w.isPut = true ∧
    kfind w.ring.blobs b.keyId = some b ∧ w.ring.gen = s.key.next.gen + 1 ∧ t.key.ring = s.key.ring := by
  obtain ⟨u, key, run⟩ := keyRequest_waits m (.keyPut b) (f := putHandler b) (op := putOp b) (fun _ => rfl)
    (fun u key => (putOp_status key b _ none).trans waits)
  obtain ⟨ring, queued, holds, gen⟩ := putOp_queues (w := some ⟨x.ident, h.reqId⟩) ((putOp_status key b _ none).trans waits)
  have line := queued.congr key (congrArg State.key run)
  exact ⟨_, _, rfl, line.writes, line.next, rfl, rfl, holds, by rw [gen, key], line.ring⟩

/-- A blob that fails a check is answered with its status. -/
theorem execKeyPut_refuses (m : GmpMay h x 6 10 s) (fails : blobCheck s s.key.next b ≠ stOk) :
    ∃ t, exec (.keyPut h b) s = .next t ∧ Answered h 0x48 (blobCheck s s.key.next b) [] s t ∧ t.key = s.key :=
  ⟨_, rfl, keyRequest_answers m (.keyPut b) (f := putHandler b) fun u key => by
    have same : blobCheck u u.key.next b = blobCheck s s.key.next b := by rw [blobCheck_congr key, key]
    rw [putHandler, putOp_refuses (by rw [same]; exact fails), keyResult, same]⟩

/-- KEY_INVALIDATE of a KEY_ID in the next keyring waits for its write. -/
theorem execKeyInvalidate_queues (m : GmpMay h x 6 10 s) (held : kfind s.key.next.blobs id = some b)
    (gen : s.key.next.gen ≠ 0xFFFFFFFF) (room : (raiseFloor s.key.next id b.gen).floors.length ≤ 256) :
    ∃ t w, exec (.keyInvalidate h id 0) s = .next t ∧ t.key.writes = s.key.writes ++ [w] ∧ t.key.next = w.ring ∧
      w.waiter = some ⟨x.ident, h.reqId⟩ ∧ kfind w.ring.blobs id = none ∧ kget 0 w.ring.floors id = b.gen + 1 := by
  have acts (u : State) (key : u.key = s.key) := invalidateOp_queues (s := u) (w := some ⟨x.ident, h.reqId⟩) (id := id) (b := b)
    (by rw [key, held]) (by rw [key]; exact gen) (by rw [key]; exact room)
  obtain ⟨u, key, run⟩ := keyRequest_waits m (.keyInvalidate id 0) (f := invalidateHandler id 0) (op := invalidateOp id) (fun _ => rfl)
    (fun u key => (acts u key).1)
  obtain ⟨-, ring, queued, gone, barred⟩ := acts u key
  have line := queued.congr key (congrArg State.key run)
  exact ⟨_, _, rfl, line.writes, line.next, rfl, gone, barred⟩

/-- KEY_INVALIDATE of a KEY_ID that no blob has is answered OK_EMPTY. -/
theorem execKeyInvalidate_empty (m : GmpMay h x 6 10 s) (absent : kfind s.key.next.blobs id = none) :
    ∃ t, exec (.keyInvalidate h id 0) s = .next t ∧ Answered h 0x49 stEmpty [] s t ∧ t.key = s.key :=
  ⟨_, rfl, keyRequest_answers m (.keyInvalidate id 0) (f := invalidateHandler id 0) fun u key => by
    rw [invalidateHandler, if_neg (not_not.mpr rfl), invalidateOp_empty (by rw [key, absent])]
    rfl⟩

/-- The fields of a KEY_CMD word. -/
theorem keyCmdOf_fields {op : Nat} (hop : op < 8) (hid : id < 65536) : fld (keyCmdOf op id) 2 0 = op ∧ fld (keyCmdOf op id) 31 16 = id := by
  simp only [fld, bitsOf, keyCmdOf, wordOf, pack, BitVec.toNat_ofNat]
  omega

/-- INVALIDATE by KEY_CMD waits for its write, with no request to answer. -/
theorem execInvalidate_queues (m : GmpMay h x 6 10 s) (hid : id < 65536) (held : kfind s.key.next.blobs id = some b)
    (gen : s.key.next.gen ≠ 0xFFFFFFFF) (room : (raiseFloor s.key.next id b.gen).floors.length ≤ 256) :
    ∃ t w, exec (.invalidate h id) s = .next t ∧ t.key.writes = s.key.writes ++ [w] ∧ t.key.next = w.ring ∧
      w.waiter = none ∧ kfind w.ring.blobs id = none ∧ kget 0 w.ring.floors id = b.gen + 1 := by
  obtain ⟨u, e, hd⟩ := gmpWord_done m Addr.KEY_CMD (keyCmdOf 1 id)
  have key := e.fol.key rfl
  obtain ⟨waits, ring, queued, gone, barred⟩ := invalidateOp_queues (s := u) (w := none) (id := id) (b := b) (by rw [key, held])
    (by rw [key]; exact gen) (by rw [key]; exact room)
  have word : keyCmdWord (keyCmdOf 1 id) u = ((invalidateOp id none u).1, stOk) := by
    obtain ⟨fop, fid⟩ := keyCmdOf_fields (op := 1) (by decide) hid
    simp only [keyCmdWord, fop, fid, if_true, waits]
  have after : (gmpWord h Addr.KEY_CMD (keyCmdOf 1 id) 6 (keyCmdWord (keyCmdOf 1 id)) s).key = (invalidateOp id none u).1.key := by
    rw [hd, word, (completeReq_only _ _ _ _).key rfl]
  have line := queued.congr key after
  exact ⟨_, _, rfl, line.writes, line.next, rfl, gone, barred⟩

/-- EVICT empties the slot of a key that is neither pinned nor in use (R408). -/
theorem execEvict_empties (m : GmpMay h x 6 10 s) (hid : id < 65536) {e : Nat × KSlot}
    (found : s.key.slots.find? (fun e => e.2.st == .ready && e.2.blob.keyId == id) = some e) (free : e.2.blob.flags ≠ 1)
    (idle : e.2.running = 0) : ∃ t, exec (.evict h id) s = .next t ∧ Answered h 0x02 stOk (indexBody 0xFFFF) s t ∧
      t.key.slots = kdel s.key.slots e.1 := by
  have word (u : State) : keyCmdWord (keyCmdOf 2 id) u =
      ((evictOp id u).1.updKey fun k => { k with cmdStatus := (evictOp id u).2 }, (evictOp id u).2) := by
    obtain ⟨fop, fid⟩ := keyCmdOf_fields (op := 2) (by decide) hid
    simp only [keyCmdWord, fop, fid]
    rfl
  obtain ⟨u, ent, answered, rest⟩ := gmpWord_answers m Addr.KEY_CMD (keyCmdOf 2 id) (f := keyCmdWord (keyCmdOf 2 id))
    (c := { regs := true, key := true }) rfl rfl (fun u => by
      rw [word]
      dsimp only
      refine updKey_fol rfl ?_
      exact evictOp_fol rfl rfl (.refl _ u))
  have key := ent.fol.key rfl
  have evicts : evictOp id u = (bump Addr.KEY_CNT_EVICT (u.updKey fun k => { k with slots := kdel k.slots e.1 }), stOk) := by
    rw [← key] at found
    simp only [evictOp, found, free, idle, ne_eq, not_true_eq_false, if_false]
  rw [word, evicts] at answered rest
  refine ⟨_, rfl, answered, ?_⟩
  rw [rest.key rfl, updKey_key, (bump_fol (kc := { regs := true }) rfl (.refl _ _)).key rfl, updKey_key, key]

end Requests

/-! A write of the keyring (R398, R399; 18_boot R453, R469). -/

section Written

variable {s : State} {w : RingWrite} {rest : List RingWrite}

/-- A channel that fails leaves the memory's contents. -/
theorem chanFail_flash (i rw off : Nat) (s : State) : (chanFail i rw off s).nvm.flash = s.nvm.flash := by
  rw [chanFail, (evTrig_fol (kc := { regs := true, evr := true }) rfl rfl (alarm_fol rfl (.refl _ _))).nvm rfl]
  rfl

/-- A write on the channels leaves the memory's contents as they are, which the command that writes changes. -/
theorem nvmWrite_flash (ok0 ok1 : Bool) (off : Nat) (s : State) : (nvmWrite ok0 ok1 off s).1.nvm.flash = s.nvm.flash := by
  unfold nvmWrite
  extract_lets u0 u1 s1 s2
  have first : s1.nvm.flash = s.nvm.flash := by
    show (if _ then _ else s).nvm.flash = _
    split
    · exact chanFail_flash _ _ _ s
    · rfl
  have second : s2.nvm.flash = s.nvm.flash := by
    rw [← first]
    show (if _ then _ else s1).nvm.flash = _
    split
    · exact chanFail_flash _ _ _ s1
    · rfl
  split
  · exact second
  · rw [← second]
    exact congrArg NvmS.flash ((bump_fol (kc := { regs := true }) rfl (alarm_fol rfl (.refl _ s2))).nvm rfl)

/-- A write that channel 0 takes holds. -/
theorem nvmWrite_holds (used : chanUsed s 0 = true) (ok1 : Bool) (off : Nat) : (nvmWrite true ok1 off s).2 = true := by
  simp [nvmWrite, used]

/-- A write that no channel takes is a fault of the memory. -/
theorem nvmWrite_faults (off : Nat) (s : State) :
    (nvmWrite false false off s).2 = false ∧ cfg (nvmWrite false false off s).1 Addr.NVM_ALARM 0 0 = 1 := by
  have counted (u : State) : Words (otherWord (rkey Addr.NVM_ALARM)) u (bump Addr.NVM_CNT_WRITE_ERR u) :=
    bump_words (by decide) (.refl _ u)
  simp only [nvmWrite, Bool.and_false, Bool.or_self, Bool.false_eq_true, if_false]
  exact ⟨trivial, by rw [(counted _).cfg, cfg_alarm (by decide)]⟩

theorem nvmWrite_key (ok0 ok1 : Bool) (off : Nat) (s : State) : (nvmWrite ok0 ok1 off s).1.key = s.key :=
  (nvmWrite_fol (kc := { regs := true, evr := true, nvm := true }) rfl rfl rfl (.refl _ s)).key rfl

/-- A change that is written is in force. -/
theorem execKeyringWritten_writes (line : s.key.writes = w :: rest) (used : chanUsed s 0 = true) (o : Bool) :
    ∃ t, exec (.keyringWritten true o) s = .next t ∧ t.key.writes = rest ∧ t.key.ring = w.ring ∧
      t.key.active = otherSlot s.key.active ∧
      t.nvm.flash.keys = lset s.nvm.flash.keys (otherSlot s.key.active) (.valid w.ring) := by
  obtain ⟨off, hoff⟩ : ∃ n, n = regionOff s (6 + otherSlot s.key.active) := ⟨_, rfl⟩
  have holds := nvmWrite_holds used o off
  have key := nvmWrite_key true o off s
  have flash := nvmWrite_flash true o off s
  show ∃ t, execKeyringWritten true o s = .next t ∧ _
  simp only [execKeyringWritten, line, ← hoff, holds, if_true]
  cases w.waiter with
  | none => exact ⟨_, rfl, rfl, rfl, rfl, by rw [updKey_nvm, updNvm_nvm, updKey_nvm, flash]⟩
  | some x =>
    have told := completeReq_only x stOk (if w.isPut then be 4 w.ring.gen else [])
    refine ⟨_, rfl, ?_⟩
    rw [(told _).key rfl, (told _).nvm rfl]
    exact ⟨rfl, rfl, rfl, by rw [updKey_nvm, updNvm_nvm, updKey_nvm, flash]⟩

/-- A change that no channel takes is given up. -/
theorem execKeyringWritten_givesUp (line : s.key.writes = w :: rest) :
    ∃ t, exec (.keyringWritten false false) s = .next t ∧ t.key.writes = rest ∧ t.key.ring = s.key.ring ∧
      t.key.active = s.key.active ∧ cfg t Addr.NVM_ALARM 0 0 = 1 := by
  obtain ⟨off, hoff⟩ : ∃ n, n = regionOff s (6 + otherSlot s.key.active) := ⟨_, rfl⟩
  obtain ⟨fails, shown⟩ := nvmWrite_faults off s
  have key := nvmWrite_key false false off s
  show ∃ t, execKeyringWritten false false s = .next t ∧ _
  simp only [execKeyringWritten, line, ← hoff, fails, Bool.false_eq_true, if_false]
  cases w.waiter with
  | none =>
    refine ⟨_, rfl, ?_⟩
    simp only [updKey_key, updNvm_key, key, cfg_updKey, cfg_updNvm, shown, and_self]
  | some x =>
    have told := completeReq_only x stCheck []
    refine ⟨_, rfl, ?_⟩
    rw [(told _).key rfl, (told _).cfg rfl]
    simp only [updKey_key, updNvm_key, key, cfg_updKey, cfg_updNvm, shown, and_self]

end Written

/-- Settles O44: the keys alone decide a change of the keyring, and neither its entry nor its answer touches them. -/
theorem keyringChangesAreWritten : Obligations.KeyringChangesAreWritten :=
  fun _ _ _ => ⟨fun _ m which zero length lc held blank vendor kwp => execRoot_programs m which zero length lc held blank vendor kwp,
    fun _ m waits => execKeyPut_queues m waits, fun _ m fails => execKeyPut_refuses m fails,
    fun _ _ m held gen room => ⟨execKeyInvalidate_queues m held gen room, fun hid => execInvalidate_queues m hid held gen room⟩,
    fun _ m absent => execKeyInvalidate_empty m absent,
    fun _ _ o line used => execKeyringWritten_writes line used o, fun _ _ line => execKeyringWritten_givesUp line,
    fun _ _ m hid found free idle => execEvict_empties m hid found free idle⟩

end Sys2Proof.Machine

/-!
PAIR_CTRL (16_pair R423, R424): a planned handover pends from its position on, and a unit alone in SEEK takes the token.
-/

namespace Sys2Proof.Machine

open Sys2Proof

section Control

variable {h : GmpHdr} {x : Session} {s : State}

/-- The word that asks for a handover. -/
def handoverWord (force : Bool) : Word := if force then 3#32 else 1#32

/-- A handover that may begin pends. -/
theorem pairCtrlWord_pends {force : Bool} (may : handoverStatus force s = stOk) : pairCtrlWord false (handoverWord force) s =
    (pairNote stOk (s.updPair fun p => { p with handover := some force }), stOk) := by
  have other : bit (handoverWord force) 2 = false := by cases force <;> rfl
  have asks : bit (handoverWord force) 0 = true := by cases force <;> rfl
  have forced : bit (handoverWord force) 1 = force := by cases force <;> rfl
  have good : isErr stOk = false := by decide
  simp [pairCtrlWord, other, asks, forced, may, good]

/-- Only the active unit hands over (R423). -/
theorem handoverStatus_active {force : Bool} (may : handoverStatus force s = stOk) : s.pair.role = .active := by
  by_contra other
  have refused : handoverStatus force s = stState := by
    simp only [handoverStatus, bne_iff_ne.mpr other, Bool.true_or, firstErr]
  cases refused.symm.trans may

/-- HANDOVER that may begin is answered OK and pends. -/
theorem execHandover_pends {force : Bool} (m : GmpMay h x 1 10 s) (may : handoverStatus force s = stOk) :
    ∃ t, exec (.handover h force) s = .next t ∧ Answered h 0x02 stOk (indexBody 0xFFFF) s t ∧
      t.pair.handover = some force ∧ t.pair.role = .active := by
  obtain ⟨u, d, answered, rest⟩ := gmpWord_settles m Addr.PAIR_CTRL (handoverWord force) (c := { pair := true }) rfl rfl
    (f := pairCtrlWord false (handoverWord force)) (fun u => pairCtrlWord_fol rfl (.refl _ u))
  have same : handoverStatus force u = stOk := by
    rw [← may, handoverStatus, handoverStatus, d.pair, d.fol.time rfl, d.fol.safe rfl]
  rw [pairCtrlWord_pends same] at answered rest
  refine ⟨gmpWord h Addr.PAIR_CTRL (handoverWord force) 1 (pairCtrlWord false (handoverWord force)) s, rfl, answered, ?_⟩
  rw [rest.pair rfl]
  refine ⟨rfl, ?_⟩
  show u.pair.role = .active
  rw [d.pair]
  exact handoverStatus_active may

/-- TAKE_ALONE of a unit that hears nobody in SEEK. -/
theorem takeAloneOp_takes (role : s.pair.role = .seek) (latch : s.safe.latch = true) (valid : s.time.valid = true)
    (silent : heardLately s 0 = false ∧ heardLately s 1 = false) :
    takeAloneOp 4#32 s = (pairNote stOk (toActive 3 s), stOk, indexBody 0xFFFF) := by
  simp [takeAloneOp, role, latch, valid, silent, firstErr]

/-- TAKE_ALONE is answered OK, and the unit is active. -/
theorem execTakeAlone_takes (o : GmpOpen h x s) (right : hasRight s x.ident 1 = true) (role : s.pair.role = .seek)
    (latch : s.safe.latch = true) (valid : s.time.valid = true) (silent : heardLately s 0 = false ∧ heardLately s 1 = false) :
    ∃ t, exec (.takeAlone h 0#32) s = .next t ∧ Answered h 0x02 stOk (indexBody 0xFFFF) s t ∧
      t.pair.role = .active ∧ t.pair.roleDue = some 3 := by
  have seen := gmpSeen_like h s
  have pair := seen.pair rfl
  have time := seen.time rfl
  have takes := takeAloneOp_takes (s := gmpSeen h s) (by rw [pair, role]) (by rw [seen.safe rfl, latch]) (by rw [time, valid])
    (by rw [heardLately, heardLately, path, path, pair, time]; exact silent)
  have word : execTakeAlone h 0#32 s = .next (takeAlone h 4#32 s) := by rw [execTakeAlone, if_pos role]; rfl
  refine ⟨_, word, ?_⟩
  rw [takeAlone, gmpPlain_open o right, takes]
  obtain ⟨l, out⟩ := (toActive_fol (code := 3)
    (kc := { gmp := true, sess := true, regs := true, safe := true, pair := true, evr := true, role := true })
    rfl rfl rfl rfl rfl (seen.mono (by decide))).out
  refine ⟨⟨l ++ [_], ?_, List.mem_append_right _ (List.mem_singleton_self _)⟩, toActive_pair 3 _⟩
  rw [reply, emit_out, ← List.append_assoc]
  exact congrArg (· ++ [_]) out.symm

end Control

/-- Settles O14: neither the entry of a request nor its session touches what PAIR_CTRL is decided on. -/
theorem pairControlActs : Obligations.PairControlActs :=
  fun _ _ _ => ⟨fun _ m may => execHandover_pends m may,
    fun o right role latch valid link wit => execTakeAlone_takes o right role latch valid ⟨link, wit⟩⟩

end Sys2Proof.Machine

/-!
What a valid frame on the witness line does (16_pair R410, R412 to R415).
-/

namespace Sys2Proof.Machine

open Sys2Proof

section Witness

variable {f : PairHdr} {s : State} {r : Option Nat}

/-- A frame of the partner that passes the checks of R412. -/
structure WitFrame (f : PairHdr) (s : State) : Prop where
  member : paired s = true
  line : f.path = 1
  ok : f.ok = true
  other : f.uid ≠ s.key.uid

/-- A frame that passes is heard. -/
theorem pairIn_witness (w : WitFrame f s) (r : Option Nat) : pairIn r f s = (pairSeen f s, true) := by
  have other : sameUid f s = false := beq_eq_false_iff_ne.mpr w.other
  simp [pairIn, witIn, w.member, w.line, w.ok, other]

/-- A frame on the witness line leaves the block, and nothing else changes. -/
theorem sendWit_gives (typ num : Nat) (leaving : Bool) (s : State) : Follows {} s (sendWit typ num leaving s) ∧
    ∃ b, (sendWit typ num leaving s).out = s.out ++ [Output.pair 1 typ b] :=
  ⟨sendWit_fol (.refl _ s), _, emit_out _ s⟩

/-- What a HELLO does once it is heard. -/
theorem execHello_witness (w : WitFrame f s) (r : Nat) :
    exec (.hello f r) s = .next (hearRole f.role ((pairSeen f s).updPair fun p => { p with uid := some f.uid })) := by
  show execHello f r s = _
  simp only [execHello, pairIn_witness w, if_true]

/-- A unit in SEEK that hears an active partner becomes a standby. -/
theorem execHello_standby (w : WitFrame f s) (r : Nat) (seek : s.pair.role = .seek) (active : f.role = 1) :
    ∃ t, exec (.hello f r) s = .next t ∧ t.pair.role = .standby ∧ t.pair.sync = false := by
  refine ⟨_, execHello_witness w r, ?_⟩
  have role : (pairSeen f s).pair.role = .seek := by rw [pairSeen_pair, seek]
  simp only [hearRole, updPair_pair, role, active, if_true]
  exact toStandby_pair _

/-- Of two units in SEEK the one of the lower UID becomes active. -/
theorem execHello_active (w : WitFrame f s) (r : Nat) (seek : s.pair.role = .seek) (partner : f.role = 0) (lower : s.key.uid < f.uid) :
    ∃ t, exec (.hello f r) s = .next t ∧ t.pair.role = .active ∧ t.pair.roleDue = some 1 := by
  refine ⟨_, execHello_witness w r, ?_⟩
  have role : (pairSeen f s).pair.role = .seek := by rw [pairSeen_pair, seek]
  have uid : (pairSeen f s).key.uid < f.uid := by rw [(pairSeen_only f s).key rfl]; exact lower
  simp only [hearRole, updPair_pair, updPair_key, role, partner, zero_ne_one, if_false, if_true, uid]
  exact toActive_pair 1 _

/-- A standby that hears a RENEW moves its lease base and acknowledges on the same path. -/
theorem execRenew_acknowledges (w : WitFrame f s) (n : Nat) (standby : s.pair.role = .standby) (active : f.role = 1) :
    ∃ t l b, exec (.renew f n) s = .next t ∧ t.pair.heardAt = some s.time.op ∧ t.out = s.out ++ l ++ [Output.pair 1 0x03 b] ∧
      t.pair.role = .standby := by
  obtain ⟨pair, beside⟩ := pairSeen_active active s
  obtain ⟨l, out⟩ := beside.out
  have role : (pairSeen f s).pair.role = .standby := by rw [pair, standby]
  have heard : hearRole f.role (pairSeen f s) = pairSeen f s := by
    simp only [hearRole, role, active, one_ne_zero, if_false]
  have path : ¬ f.path = 0 := by rw [w.line]; decide
  have run : exec (.renew f n) s = .next (sendWit 0x03 n false ((pairSeen f s).updPair fun p =>
      { p with heardAt := some (pairSeen f s).time.op })) := by
    show execRenew f n s = _
    simp only [execRenew, pairIn_witness w, heard, role, path, Bool.not_true, Bool.false_eq_true, ne_eq, not_true_eq_false, if_false]
  generalize based : ((pairSeen f s).updPair fun p => { p with heardAt := some (pairSeen f s).time.op }) = v at run
  obtain ⟨sent, b, given⟩ := sendWit_gives 0x03 n false v
  refine ⟨_, l, b, run, ?_, ?_, ?_⟩
  · rw [sent.pair rfl, ← based, updPair_pair, beside.time rfl]
  · rw [given, ← based, updPair_out, ← out]
  · rw [sent.pair rfl, ← based]
    exact role

/-- An ACK moves the lease base of the active unit to the time the RENEW was sent. -/
theorem execPairAck_moves (w : WitFrame f s) {n : Nat} {e : Nat × Nat} (active : s.pair.role = .active)
    (sent : s.pair.unacked.find? (fun y => y.1 == n) = some e) :
    ∃ t, exec (.pairAck f n) s = .next t ∧ t.pair.base = some e.2 ∧ e ∉ t.pair.unacked := by
  have role : (pairSeen f s).pair.role = .active := by rw [pairSeen_pair, active]
  have found : (pairSeen f s).pair.unacked.find? (fun y => y.1 == n) = some e := by rw [pairSeen_pair, sent]
  have num : e.1 = n := by simpa using List.find?_some sent
  have run : exec (.pairAck f n) s = .next ((pairSeen f s).updPair fun p =>
      { p with base := some e.2, unacked := p.unacked.filter (fun y => decide (n < y.1)) }) := by
    show execPairAck f n s = _
    simp only [execPairAck, pairIn_witness w, role, found]
    rfl
  refine ⟨_, run, rfl, fun kept => ?_⟩
  have above : n < e.1 := by simpa using (List.mem_filter.mp kept).2
  exact absurd above (by omega)

end Witness

/-- Settles O13: a frame that passes its checks shows the partner's role, which decides. -/
theorem pairHearsItsPartner : Obligations.PairHearsItsPartner := by
  intro f s member line ok other
  have w : WitFrame f s := ⟨member, line, ok, other⟩
  exact ⟨fun r seek active => execHello_standby w r seek active, fun r seek partner lower => execHello_active w r seek partner lower,
    fun n standby active => execRenew_acknowledges w n standby active, fun n e active sent => execPairAck_moves w active sent⟩

end Sys2Proof.Machine

/-!
The token taken over or taken again (16_pair R410, R415 to R417).
-/

namespace Sys2Proof.Machine

open Sys2Proof

section Token

variable {s t u : State}

/-- The unit of `s` has the role and the journal's start of `t`. -/
structure SameDuty (s t : State) : Prop where
  role : t.pair.role = s.pair.role
  started : t.jr.started = s.jr.started

theorem SameDuty.trans (a : SameDuty s t) (b : SameDuty t u) : SameDuty s u :=
  ⟨b.role.trans a.role, b.started.trans a.started⟩

/-- Work that opens no superframe and changes no role leaves the duty. -/
theorem SameDuty.of_follows {c : Touch} (f : Follows c s t) (role : c.role = false) (mark : c.mark = false) : SameDuty s t :=
  ⟨f.role role, (f.mark mark).2⟩

/-- The marks of a catch-up leave the duty. -/
theorem catchUp_duty (n : Nat) (s : State) : SameDuty s (catchUp n s) := by
  induction n generalizing s with
  | zero => exact ⟨rfl, rfl⟩
  | succ n ih =>
    rw [catchUp]
    refine SameDuty.trans ?_ (ih _)
    have opened := writeMark_opens (s.jr.sf + 1) (s.updSafe fun b => { b with missed := 2 ^ portCount s.part - 1 })
    exact ⟨opened.role, opened.started⟩

/-- What the token's work beside its marks may change. -/
def tokenWork : Touch := { markWork with grant := true }

/-- The unit that takes the token is active, and its journal runs. -/
theorem takeToken_duty (code : Nat) (s : State) : (takeToken code s).pair.role = .active ∧ (takeToken code s).jr.started = true := by
  unfold takeToken
  extract_lets m s1 all s2 s3 from_ s4 s5 s6 b
  have begins : s2.pair.role = .active ∧ s2.jr.started = true := by
    refine ⟨?_, rfl⟩
    show s1.pair.role = _
    unfold s1
    rw [setRole_pair]
  have marks : SameDuty s2 s3 := by
    unfold s3
    split
    · exact ⟨rfl, rfl⟩
    · exact catchUp_duty _ _
  have due : SameDuty s3 s4 := ⟨rfl, rfl⟩
  have opens : SameDuty s4 s5 := by
    unfold s5
    split
    · exact ⟨rfl, rfl⟩
    · refine .of_follows (c := tokenWork) ?_ rfl rfl
      apply commitDue_fol (hfol := roleWrite_fol rfl rfl rfl rfl (.refl _ s4)) <;> rfl
  have follows : SameDuty s5 s6 :=
    .of_follows (c := tokenWork) (liveFollow_fol rfl rfl (updMac_fol rfl (.refl _ s5))) rfl rfl
  have own : SameDuty s6 (if s6.safe.input ≠ s6.safe.cInput then post (.estop b) (covEstop b) s6 else s6) := by
    split
    · exact .of_follows (c := tokenWork) (post_fol rfl rfl rfl rfl (fun _ acts => covEstop_fol rfl acts) (.refl _ s6)) rfl rfl
    · exact ⟨rfl, rfl⟩
  have whole := (((marks.trans due).trans opens).trans follows).trans own
  exact ⟨whole.role.trans begins.1, whole.started.trans begins.2⟩

/-- The alarm that a token's taking sets, and the count of it, leave the duty. -/
theorem takeToken_shown (code : Nat) {bit count : Nat} (small : bit < 32) (beside : rkey count ≠ rkey Addr.PAIR_ALARM) (s : State) :
    (bump count (alarm Addr.PAIR_ALARM bit (takeToken code s))).pair.role = .active ∧
      cfg (bump count (alarm Addr.PAIR_ALARM bit (takeToken code s))) Addr.PAIR_ALARM bit bit = 1 ∧
        (bump count (alarm Addr.PAIR_ALARM bit (takeToken code s))).jr.started = true := by
  obtain ⟨role, started⟩ := takeToken_duty code s
  have counted : Words (otherWord (rkey Addr.PAIR_ALARM)) (alarm Addr.PAIR_ALARM bit (takeToken code s))
      (bump count (alarm Addr.PAIR_ALARM bit (takeToken code s))) := bump_words (by simp [otherWord, beside]) (.refl _ _)
  have shows : SameDuty (takeToken code s) (bump count (alarm Addr.PAIR_ALARM bit (takeToken code s))) :=
    .of_follows (c := { regs := true }) (bump_fol rfl (alarm_fol rfl (.refl _ _))) rfl rfl
  exact ⟨shows.role.trans role, by rw [counted.cfg, cfg_alarm small], shows.started.trans started⟩

/-- Whether a standby is eligible does not hang on the time. -/
theorem eligible_advOp (n : Nat) (s : State) : eligible (advOp n s) = eligible s := by
  unfold advOp
  split <;> rfl

theorem advOp_pair (n : Nat) (s : State) : (advOp n s).pair = s.pair :=
  (advOp_fol (kc := { time := true }) rfl (.refl _ s)).pair rfl

theorem advOp_cfgB (n a i : Nat) (s : State) : cfgB (advOp n s) a i = cfgB s a i :=
  (advOp_fol (kc := { time := true }) rfl (.refl _ s)).cfgB rfl a i

/-- An eligible standby that hears its partner in ACTIVE takes the token when its lease runs out. -/
theorem execTakeover_takes {h : Nat} (standby : s.pair.role = .standby) (heard : s.pair.heardAt = some h) (elig : eligible s = true)
    (partner : s.pair.partner = some 1) :
    ∃ t, exec .takeover s = .next t ∧ t.pair.role = .active ∧ cfg t Addr.PAIR_ALARM 5 5 = 1 ∧ t.jr.started = true := by
  refine ⟨_, ?_, takeToken_shown (count := Addr.PAIR_CNT + 24) 5 (by decide) (by decide) (advOp (h + 14000000) s)⟩
  show execTakeover s = _
  simp only [execTakeover, standby, heard, eligible_advOp, elig, advOp_pair, partner, Bool.not_true, Bool.false_eq_true, ne_eq,
    not_true_eq_false, if_false]

/-- A fenced unit that may take the token again does so after its wait. -/
theorem execRetakeWaitExpiry_takes (fenced : s.pair.role = .fenced) (may : cfgB s Addr.PAIR_CFG 1 = true)
    (silent : s.pair.heard = false) (ports : s.pair.fencedPorts ≠ 0) :
    ∃ t, exec .retakeWaitExpiry s = .next t ∧ t.pair.role = .active ∧ cfg t Addr.PAIR_ALARM 6 6 = 1 ∧ t.jr.started = true := by
  obtain ⟨n, hn⟩ : ∃ n, n = s.pair.fencedAt + cfg s Addr.PAIR_CFG 7 2 * 20000000 := ⟨_, rfl⟩
  refine ⟨_, ?_, takeToken_shown (count := Addr.PAIR_CNT + 36) 4 (by decide) (by decide) (advOp n s)⟩
  show execRetakeWaitExpiry s = _
  have served : (s.pair.fencedPorts != 0) = true := bne_iff_ne.mpr ports
  simp only [execRetakeWaitExpiry, fenced, ← hn, advOp_cfgB, may, advOp_pair, silent, served, ne_eq, not_true_eq_false, if_false,
    Bool.not_false, Bool.and_self, if_true]

end Token

/-- Settles O11: neither the marks of the catch-up nor what follows them touches the role that the token brings. -/
theorem takingTheTokenMakesTheUnitActive : Obligations.TakingTheTokenMakesTheUnitActive :=
  fun _ => ⟨fun _ standby heard elig partner => execTakeover_takes standby heard elig partner,
    fun fenced may silent ports => execRetakeWaitExpiry_takes fenced may silent ports⟩

end Sys2Proof.Machine

/-!
A frame of the pair's session (16_pair R411): what it shows of the partner, before what it carries.
-/

namespace Sys2Proof.Machine

open Sys2Proof

section Link

variable {f : PairHdr} {s u : State}

/-- The state that has heard a frame of the session. -/
def linkHeard (f : PairHdr) (s : State) : State := pairSeen f (s.updPair fun p => { p with rxCounter := some f.counter })

/-- A frame of the session that passes its checks is heard. -/
theorem linkOnly_heard (m : LinkFrame f s) : linkOnly f s = (linkHeard f s, true) := by
  have counter := m.counter
  simp [linkOnly, pairIn, linkIn, m.member, m.engine, m.link, m.ok, m.session, counter, linkHeard]

/-- `u` comes of `s` by a frame that is heard, and no copy ends with it. -/
structure LinkHeard (f : PairHdr) (s u : State) : Prop where
  only : Follows { pair := true } s u
  pair : u.pair = { s.pair with rxCounter := some f.counter, link := u.pair.link, wit := u.pair.wit, partner := some f.role, elig := f.elig }

/-- A frame of an active partner, or one with no copy under way, ends none (R422). -/
theorem linkHeard_quiet (quiet : ¬ (f.role ≠ 1 ∧ (s.pair.copy.st = .receiving ∨ s.pair.copy.st = .applying))) :
    LinkHeard f s (linkHeard f s) := by
  obtain ⟨pair, only⟩ := pairSeen_quiet (f := f) (s := s.updPair fun p => { p with rxCounter := some f.counter }) quiet
  exact ⟨(updPair_fol rfl (.refl _ s)).trans only, pair⟩

theorem linkHeard_active (active : f.role = 1) : LinkHeard f s (linkHeard f s) :=
  linkHeard_quiet fun fails => fails.1 active

/-- A frame that is heard leaves what is beside the pair, its record and its counts. -/
theorem linkHeard_only (f : PairHdr) (s : State) : Follows { regs := true, pair := true, evr := true } s (linkHeard f s) :=
  pairSeen_fol rfl rfl rfl (updPair_fol rfl (.refl _ s))

/-- Beside its path and its partner a frame that is heard changes a copy at most. -/
theorem linkHeard_pair (f : PairHdr) (s : State) : (linkHeard f s).pair = { s.pair with
    rxCounter := some f.counter, link := (linkHeard f s).pair.link, wit := (linkHeard f s).pair.wit, partner := some f.role,
    elig := f.elig, copy := (linkHeard f s).pair.copy, sync := (linkHeard f s).pair.sync, why := (linkHeard f s).pair.why } :=
  pairSeen_pair f _

/-- A frame sent on a link that is in service leaves the block. -/
theorem sendLink_sends (usable : engUsable s 0x3A = true) (typ : Nat) (body : List Nat) :
    ∃ b, (sendLink typ body s).out = s.out ++ [Output.pair 0 typ b] := by
  rw [sendLink, if_pos usable]
  exact ⟨_, emit_out _ _⟩

theorem sendLink_only (typ : Nat) (body : List Nat) (s : State) : Follows { pair := true } s (sendLink typ body s) :=
  sendLink_fol rfl (.refl _ s)

/-- Without ROLE 0x06 no handover is taken. -/
theorem handoverTry_waits (none : s.pair.six = none) : handoverTry s = s := by rw [handoverTry, none]

end Link

/-! Entries, digests and the handover (R418, R419, R423). -/

section Journal

variable {f : PairHdr} {s u : State}

/-- The parts that an ESTOP entry's effect may change. -/
def estopWork : Touch := { regs := true, gmp := true, safe := true, evr := true, grant := true }

/-- The effect of an ESTOP entry on a standby. -/
def estopReplayed (b : Nat) (s : State) : State :=
  liveFollow (covEstop b (if estopState b = .inputRun then s else liveGlobal 1 0 0 s))

theorem covGlobal_input (pos : Nat × Nat) (s : State) : (covGlobal pos s).safe.cInput = s.safe.cInput := by
  unfold covGlobal raiseEpoch
  dsimp only
  split
  · rfl
  · split <;> rfl

theorem covEstop_input (b : Nat) (s : State) : (covEstop b s).safe.cInput = estopState b := by
  unfold covEstop
  dsimp only
  split
  · rw [covGlobal_input]
    rfl
  · rfl

theorem liveFollow_input (s : State) : (liveFollow s).safe.cInput = s.safe.cInput := by
  unfold liveFollow dynEval
  dsimp only
  split <;> rfl

theorem estopReplayed_only (b : Nat) (s : State) : Follows estopWork s (estopReplayed b s) := by
  refine liveFollow_fol rfl rfl (covEstop_fol rfl ?_)
  split
  · exact .refl _ s
  · exact liveGlobal_fol rfl rfl rfl rfl (.refl _ s)

theorem estopReplayed_words (b : Nat) (s : State) : Words (fun k => decide (k ≠ rkey Addr.FIX_ENG_CTRL)) s (estopReplayed b s) := by
  have live : Words (fun k => decide (k ≠ rkey Addr.FIX_ENG_CTRL)) s (if estopState b = .inputRun then s else liveGlobal 1 0 0 s) := by
    split
    · exact .refl _ s
    · exact FaultWords.liveGlobal ⟨⟨by decide, by decide, by decide⟩, by decide, by decide, by decide, by decide, by decide, by decide⟩
        (.refl _ s) 1 0 0
  exact live.beside (c := { safe := true, grant := true }) (liveFollow_fol rfl rfl (covEstop_fol rfl (.refl _ _))) rfl

theorem estopReplayed_input (b : Nat) (s : State) : (estopReplayed b s).safe.cInput = estopState b := by
  rw [estopReplayed, liveFollow_input, covEstop_input]

/-- An ESTOP entry that follows is applied. -/
theorem jrnlIn_estop {e : JEntry} {b : Nat} (sync : s.pair.sync = true) (payload : e.payload = .estop b)
    (next : entryNext s e = some true) : jrnlIn (e, true) s =
      estopReplayed b (s.updJr fun j => { j with sf := e.sf, lastSf := e.sf, lastSeq := e.seq, nextSeq := e.seq + 1 }) := by
  simp only [jrnlIn, payload, reduceCtorEq, false_and, if_false, sync, if_true, replay, Bool.not_true, Bool.false_eq_true, next,
    applyEntry, replayPayload]
  rfl

/-- A synchronised standby applies the entry that follows its last one, and acknowledges it. -/
theorem execJrnl_applies {e : JEntry} {b : Nat} (m : LinkFrame f s) (active : f.role = 1) (standby : s.pair.role = .standby)
    (sync : s.pair.sync = true) (six : s.pair.six = none) (payload : e.payload = .estop b) (next : entryNext s e = some true) :
    ∃ t l c, exec (.jrnl f [(e, true)]) s = .next t ∧ t.jr.sf = e.sf ∧ t.jr.lastSf = e.sf ∧ t.jr.lastSeq = e.seq ∧
      t.jr.nextSeq = e.seq + 1 ∧ t.safe.cInput = estopState b ∧ t.out = s.out ++ l ++ [Output.pair 0 0x11 c] := by
  obtain ⟨only, pair⟩ := linkHeard_active (s := s) active
  obtain ⟨v, hv⟩ : ∃ v, v = (linkHeard f s).updJr fun j => { j with sf := e.sf, lastSf := e.sf, lastSeq := e.seq, nextSeq := e.seq + 1 } :=
    ⟨_, rfl⟩
  have applied : jrnlIn (e, true) (linkHeard f s) = estopReplayed b v := by
    rw [hv]
    refine jrnlIn_estop (by rw [pair, sync]) payload ?_
    rw [← next, entryNext, entryNext, only.jr rfl]
  have follows : Follows estopWork v (estopReplayed b v) := estopReplayed_only b v
  have kept : (estopReplayed b v).pair = (linkHeard f s).pair := by rw [follows.pair rfl, hv, updJr_pair]
  have usable : engUsable (estopReplayed b v) 0x3A = true := by
    rw [engUsable_words (estopReplayed_words b v) (by decide) (congrArg SchedS.eng (follows.sched rfl)), ← m.engine, hv]
    exact only.engUsable rfl rfl 0x3A
  obtain ⟨c, sent⟩ := sendLink_sends usable 0x11 [(estopReplayed b v).jr.lastSf, (estopReplayed b v).jr.lastSeq]
  have run : exec (.jrnl f [(e, true)]) s =
      .next (sendLink 0x11 [(estopReplayed b v).jr.lastSf, (estopReplayed b v).jr.lastSeq] (estopReplayed b v)) := by
    have role : (linkHeard f s).pair.role = .standby := by rw [pair, standby]
    have synced : (estopReplayed b v).pair.sync = true := by rw [kept, pair, sync]
    show execJrnl f [(e, true)] s = _
    simp only [execJrnl, linkOnly_heard m, role, List.foldl_cons, List.foldl_nil, applied, synced, if_true]
    rw [handoverTry_waits (by rw [sendLink_pair, kept, pair, six])]
    rfl
  have answered := sendLink_only 0x11 [(estopReplayed b v).jr.lastSf, (estopReplayed b v).jr.lastSeq] (estopReplayed b v)
  have given : s.out <+: (estopReplayed b v).out :=
    only.out.trans ((show (linkHeard f s).out <+: v.out by rw [hv]; exact List.prefix_rfl).trans follows.out)
  obtain ⟨l, given⟩ := given
  have jr : (sendLink 0x11 [(estopReplayed b v).jr.lastSf, (estopReplayed b v).jr.lastSeq] (estopReplayed b v)).jr = v.jr := by
    rw [answered.jr rfl, follows.jr rfl]
  refine ⟨_, l, c, run, ?_, ?_, ?_, ?_, ?_, by rw [sent, given]⟩
  · rw [jr, hv]; rfl
  · rw [jr, hv]; rfl
  · rw [jr, hv]; rfl
  · rw [jr, hv]; rfl
  · rw [answered.safe rfl, estopReplayed_input]

/-- An acknowledgement drops what it covers and is shown. -/
theorem execJrnlAck_drops (m : LinkFrame f s) (sf seq : Nat) (active : s.pair.role = .active) :
    ∃ t, exec (.jrnlAck f sf seq) s = .next t ∧ t.pair.ack = (sf, seq) ∧
      t.pair.fwd = s.pair.fwd.filter (fun e => posLt (sf, seq) e.1) := by
  have pair := linkHeard_pair f s
  have role : (linkHeard f s).pair.role = .active := by rw [pair, active]
  have counted (l : List ((Nat × Nat) × Nat)) (t : Nat) : Follows { regs := true } (linkHeard f s)
      (l.foldl (fun u e => maxF Addr.PAIR_LAG 31 16 ((t - e.2) / 1000) u) (linkHeard f s)) :=
    foldl_fol (fun _ _ h => maxF_fol rfl h) (.refl _ _)
  show ∃ t, execJrnlAck f sf seq s = .next t ∧ _
  simp only [execJrnlAck, linkOnly_heard m, role, Bool.not_true, bne_self_eq_false, Bool.or_self, Bool.false_eq_true, if_false]
  refine ⟨_, rfl, ?_⟩
  rw [(freeRing_fol (kc := { jr := true }) rfl (updJr_fol rfl (.refl _ _))).pair rfl, updPair_pair, (counted _ _).pair rfl, pair]
  exact ⟨rfl, rfl⟩

/-- A DIGEST that agrees clears the marks. -/
theorem execDigest_agrees (m : LinkFrame f s) (g v b : Nat) : ∃ t, exec (.digest f s.jr.digest g v b s.nvm.run.cls) s = .next t ∧
    t.pair.digestDiff = false ∧ t.pair.classDiff = false := by
  have only := linkHeard_only f s
  have same : (s.jr.digest != (linkHeard f s).jr.digest) = false := by rw [only.jr rfl]; exact bne_self_eq_false _
  have sameClass : (s.nvm.run.cls != (linkHeard f s).nvm.run.cls) = false := by rw [only.nvm rfl]; exact bne_self_eq_false _
  have run : exec (.digest f s.jr.digest g v b s.nvm.run.cls) s =
      .next ((linkHeard f s).updPair fun p => { p with digestDiff := false, classDiff := false }) := by
    show execDigest f s.jr.digest g v b s.nvm.run.cls s = _
    simp only [execDigest, linkOnly_heard m, same, sameClass]
    rfl
  exact ⟨_, run, rfl, rfl⟩

/-- Synchronisation that a standby loses. -/
theorem loseSync_pair {reason : Nat} (standby : s.pair.role = .standby) (sync : s.pair.sync = true) :
    (loseSync reason s).pair = { s.pair with sync := false, why := reason } := by
  rw [loseSync, (dynEval_fol (kc := { safe := true }) rfl (.refl _ _)).pair rfl, unsync, if_pos ⟨standby, sync⟩]
  dsimp only
  rw [(evTrig_fol (kc := { regs := true, evr := true }) rfl rfl (alarm_fol rfl (alarm_fol rfl (.refl _ _)))).pair rfl]
  rfl

/-- A DIGEST that differs marks the difference and ends synchronisation. -/
theorem execDigest_differs (m : LinkFrame f s) {d : List Nat} (g v b : Nat) {c : Nat} (differs : d ≠ s.jr.digest ∨ c ≠ s.nvm.run.cls)
    (standby : s.pair.role = .standby) (sync : s.pair.sync = true) (active : f.role = 1) :
    ∃ t, exec (.digest f d g v b c) s = .next t ∧ t.pair.sync = false ∧ t.pair.why = 6 ∧
      t.pair.digestDiff = (d != s.jr.digest) ∧ t.pair.classDiff = (c != s.nvm.run.cls) := by
  obtain ⟨only, pair⟩ := linkHeard_active (s := s) active
  show ∃ t, execDigest f d g v b c s = .next t ∧ _
  rw [execDigest, linkOnly_heard m]
  extract_lets s0 dd cd s1 s2 s3 s4
  have marked : (dd || cd) = true := by
    unfold dd cd s0
    rw [only.jr rfl, only.nvm rfl, Bool.or_eq_true, bne_iff_ne, bne_iff_ne]
    exact differs
  have shown : Follows { regs := true, evr := true } s0 s3 := by
    have one : Follows { regs := true, evr := true } s0 s1 := ite_fol (evTrig_fol rfl rfl (.refl _ s0)) (.refl _ s0)
    have two : Follows { regs := true, evr := true } s0 s2 := ite_fol (alarm_fol rfl one) one
    exact ite_fol (alarm_fol rfl two) two
  have kept : s4.pair = { (linkHeard f s).pair with digestDiff := dd, classDiff := cd } := by
    unfold s4
    rw [updPair_pair, shown.pair rfl]
  have lost := loseSync_pair (s := s4) (reason := 6) (by rw [kept, pair, standby]) (by rw [kept, pair, sync])
  refine ⟨loseSync 6 s4, ?_, ?_⟩
  · simp only [Bool.not_true, Bool.false_eq_true, if_false, marked, if_true]
  · rw [lost, kept]
    refine ⟨rfl, rfl, ?_, ?_⟩
    · show (d != (linkHeard f s).jr.digest) = _
      rw [only.jr rfl]
    · show (c != (linkHeard f s).nvm.run.cls) = _
      rw [only.nvm rfl]

/-- A HANDOVER frame that is heard is noted. -/
theorem execHandoverFrame_notes (m : LinkFrame f s) (standby : s.pair.role = .standby) (active : f.role = 1) :
    LinkHeard f s (linkHeard f s) ∧ exec (.handoverFrame f) s = .next (handoverTry ((linkHeard f s).updPair fun p => { p with hoRx := true })) := by
  have heard := linkHeard_active (s := s) active
  have role : (linkHeard f s).pair.role = .standby := by rw [heard.pair, standby]
  refine ⟨heard, ?_⟩
  show execHandoverFrame f s = _
  simp only [execHandoverFrame, linkOnly_heard m, role]
  rfl

/-- Before ROLE 0x06 the standby waits for it. -/
theorem execHandoverFrame_waits (m : LinkFrame f s) (standby : s.pair.role = .standby) (six : s.pair.six = none) (active : f.role = 1) :
    ∃ t, exec (.handoverFrame f) s = .next t ∧ t.pair.hoRx = true ∧ t.pair.role = .standby := by
  obtain ⟨⟨-, pair⟩, run⟩ := execHandoverFrame_notes m standby active
  have still : ((linkHeard f s).updPair fun p => { p with hoRx := true }).pair.six = none := by rw [updPair_pair, pair]; exact six
  rw [handoverTry_waits still] at run
  exact ⟨_, run, rfl, by rw [updPair_pair, pair]; exact standby⟩

theorem setRole_jr (r : Role) (code : Nat) (s : State) : (setRole r code s).jr = s.jr :=
  (setRole_fol (kc := { regs := true, safe := true, pair := true, evr := true, role := true }) rfl rfl rfl rfl rfl (.refl _ s)).jr rfl

/-- A standby that takes the token before the cut-off of slot 0 sends from the next superframe on. -/
theorem handoverTake_early {n : Nat} (sync : s.pair.sync = true) (early : now s < sfStart (n + 1) - 100000) :
    (handoverTake n s).pair.role = .active ∧ (handoverTake n s).jr.started = true ∧ (handoverTake n s).jr.sf = n ∧
      (handoverTake n s).pair.txFrom = n + 1 := by
  unfold handoverTake
  extract_lets s0 soon s1 first s2 s3
  have own : s0 = s := if_pos sync
  have in_time : soon = true := by unfold soon; rw [own]; exact decide_eq_true early
  have taken : s2.pair = { s1.pair with role := .active, roleDue := some 2, base := none, unacked := [], fwd := [], copy := CopyS.reset,
                                        txFrom := n + 1, dual := false, handover := none, six := none, hoRx := false } := by
    unfold s2 first
    rw [setRole_pair, in_time]
    rfl
  have journal : s2.jr = s1.jr := by
    unfold s2
    rw [setRole_jr, updPair_jr]
  have shown : Follows { regs := true, safe := true, mac := true, grant := true } s2 s3 :=
    bump_fol rfl (liveFollow_fol rfl rfl (updMac_fol rfl (.refl _ s2)))
  rw [in_time, if_pos rfl, shown.pair rfl, shown.jr rfl, taken, journal]
  exact ⟨rfl, rfl, rfl, rfl⟩

/-- With ROLE 0x06 applied the standby takes the token. -/
theorem execHandoverFrame_takes {n : Nat} (m : LinkFrame f s) (standby : s.pair.role = .standby) (six : s.pair.six = some n)
    (sync : s.pair.sync = true) (applied : n ≤ s.jr.lastSf) (active : f.role = 1) (early : now s < sfStart (n + 1) - 100000) :
    ∃ t, exec (.handoverFrame f) s = .next t ∧ t.pair.role = .active ∧ t.jr.started = true ∧ t.jr.sf = n ∧ t.pair.txFrom = n + 1 := by
  obtain ⟨⟨only, pair⟩, run⟩ := execHandoverFrame_notes m standby active
  obtain ⟨v, hv⟩ : ∃ v, v = (linkHeard f s).updPair fun p => { p with hoRx := true } := ⟨_, rfl⟩
  have noted : v.pair = { (linkHeard f s).pair with hoRx := true } := by rw [hv, updPair_pair]
  have kept : Follows { pair := true } s v := by rw [hv]; exact updPair_fol rfl only
  have takes : handoverTry v = handoverTake n v := by
    have reached : n ≤ v.jr.lastSf := by rw [kept.jr rfl]; exact applied
    rw [handoverTry, noted, pair, six]
    simp only [standby, reached, true_and, or_true, if_true]
  rw [← hv, takes] at run
  refine ⟨_, run, handoverTake_early (by rw [noted, pair]; exact sync) ?_⟩
  rw [now, kept.time rfl]
  exact early

end Journal

/-! The state copy (R421, R422). -/

section Copy

variable {f : PairHdr} {s u : State}

/-- The active unit answers a request for a copy with a new one. -/
theorem execCopyReq_begins (m : LinkFrame f s) (active : s.pair.role = .active)
    (idle : ¬ (s.pair.copy.st = .sending ∧ s.pair.copy.p0 = none)) (still : s.pair.copy.st ≠ .receiving ∧ s.pair.copy.st ≠ .applying) :
    ∃ t, exec (.copyReq f none) s = .next t ∧ t.pair.copy.st = .sending ∧ t.pair.copy.epoch = s.pair.copy.epoch + 1 ∧
      t.pair.copy.p0 = none := by
  have heard : LinkHeard f s (linkHeard f s) := linkHeard_quiet fun fails => fails.2.elim still.1 still.2
  have role : (linkHeard f s).pair.role = .active := by rw [heard.pair, active]
  have copy : (linkHeard f s).pair.copy = s.pair.copy := by rw [heard.pair]
  show ∃ t, execCopyReq f none s = .next t ∧ _
  simp only [execCopyReq, linkOnly_heard m, role, copy, idle, Bool.not_true, bne_self_eq_false, Bool.or_self, Bool.false_eq_true,
    if_false]
  exact ⟨_, rfl, rfl, rfl, rfl⟩

/-- A standby without a copy asks again. -/
theorem execCopyReqRetry_asks {a : Nat} (usable : engUsable s 0x3A = true) (standby : s.pair.role = .standby)
    (sync : s.pair.sync = false) (up : s.pair.link.up = true) (idle : s.pair.copy.st = .none) (asked : s.pair.copy.asked = some a) :
    ∃ t b, exec .copyReqRetry s = .next t ∧ t.out = s.out ++ [Output.pair 0 0x20 b] ∧
      t.pair.copy.asked = some (max s.time.op (a + 1000000000)) := by
  obtain ⟨n, hn⟩ : ∃ n, n = a + 1000000000 := ⟨_, rfl⟩
  have run : exec .copyReqRetry s = .next (askCopy none (advOp n s)) := by
    show execCopyReqRetry s = _
    simp only [execCopyReqRetry, standby, sync, up, idle, asked, ← hn, Bool.not_false, and_self, if_true]
  obtain ⟨v, hv⟩ : ∃ v, v = (advOp n s).updPair fun p => { p with copy := { p.copy with asked := some (advOp n s).time.op } } := ⟨_, rfl⟩
  have before : Follows { time := true, pair := true } s v := by rw [hv]; exact updPair_fol rfl (advOp_fol rfl (.refl _ s))
  obtain ⟨b, sent⟩ := sendLink_sends (s := v) (by rw [before.engUsable rfl rfl, usable]) 0x20 []
  have asks : askCopy none (advOp n s) = sendLink 0x20 [] v := by rw [hv]; rfl
  rw [asks] at run
  refine ⟨_, b, run, ?_, ?_⟩
  · rw [sent, hv, updPair_out, advOp_out]
  · rw [sendLink_pair, hv, updPair_pair, ← hn, ← advOp_op]

/-- A standby opens the copy that COPY_BEGIN names. -/
theorem execCopyBegin_opens (e p g c n : Nat) (d : List Nat) (m : LinkFrame f s) (active : f.role = 1)
    (standby : s.pair.role = .standby) (sync : s.pair.sync = false) :
    ∃ t, exec (.copyBegin f e p g c n d) s = .next t ∧ t.pair.copy.st = .receiving ∧ t.pair.copy.epoch = e ∧ t.pair.copy.p0 = some p ∧
      t.pair.copy.nchunk = n ∧ t.pair.copy.got = [] ∧ t.pair.classDiff = (c != s.nvm.run.cls) := by
  have heard := linkHeard_active (s := s) active
  have role : (linkHeard f s).pair.role = .standby := by rw [heard.pair, standby]
  have unsynced : (linkHeard f s).pair.sync = false := by rw [heard.pair, sync]
  show ∃ t, execCopyBegin f e p g c n d s = .next t ∧ _
  simp only [execCopyBegin, linkOnly_heard m, role, unsynced, heard.only.nvm rfl, Bool.not_true, bne_self_eq_false, Bool.or_self,
    Bool.false_eq_true, if_false]
  exact ⟨_, rfl, rfl, rfl, rfl, rfl, rfl, rfl⟩

/-- A standby keeps the chunks of the copy that it receives. -/
theorem execCopyChunk_keeps {i : Nat} (m : LinkFrame f s) (active : f.role = 1) (standby : s.pair.role = .standby)
    (receiving : s.pair.copy.st = .receiving) (inside : i < s.pair.copy.nchunk) :
    ∃ t, exec (.copyChunk f s.pair.copy.epoch i true) s = .next t ∧ kfind t.pair.copy.got i = some () ∧ t.pair.copy.st = .receiving := by
  have heard := linkHeard_active (s := s) active
  have role : (linkHeard f s).pair.role = .standby := by rw [heard.pair, standby]
  have copy : (linkHeard f s).pair.copy = s.pair.copy := by rw [heard.pair]
  have known : decide (s.pair.copy.nchunk ≤ i) = false := decide_eq_false (Nat.not_le.mpr inside)
  show ∃ t, execCopyChunk f s.pair.copy.epoch i true s = .next t ∧ _
  simp only [execCopyChunk, linkOnly_heard m, role, copy, receiving, known, Bool.not_true, bne_self_eq_false, Bool.or_self,
    Bool.false_eq_true, if_false, if_true]
  refine ⟨_, rfl, ?_, ?_⟩
  · rw [updPair_pair, copy]
    exact kfind_kins.trans (if_pos rfl)
  · rw [updPair_pair, copy]
    exact receiving

theorem liveFollow_covered (s : State) : (liveFollow s).safe.cPermit = s.safe.cPermit := by
  unfold liveFollow dynEval
  dsimp only
  split <;> rfl

theorem liveFollow_only (s : State) : Follows { safe := true, grant := true } s (liveFollow s) :=
  liveFollow_fol rfl rfl (.refl _ s)

/-- What a copy that is installed leaves of the pair, and what it brings (R421). -/
structure Installed (c : Covered) (s t : State) : Prop where
  pair : t.pair = s.pair
  gen : t.jr.gen = c.jr.gen
  digest : t.jr.digest = c.jr.digest
  sf : t.jr.sf = c.jr.sf
  covered : t.safe.cPermit = c.safe.cPermit
  memb : t.memb = c.memb
  ring : t.key.ring = c.ring

/-- What follows the covered state leaves what a copy brought. -/
theorem Installed.live {c : Covered} {s t : State} (i : Installed c s t) : Installed c s (liveFollow t) where
  pair := ((liveFollow_only t).pair rfl).trans i.pair
  gen := (congrArg JrnlS.gen ((liveFollow_only t).jr rfl)).trans i.gen
  digest := (congrArg JrnlS.digest ((liveFollow_only t).jr rfl)).trans i.digest
  sf := (congrArg JrnlS.sf ((liveFollow_only t).jr rfl)).trans i.sf
  covered := (liveFollow_covered t).trans i.covered
  memb := ((liveFollow_only t).memb rfl).trans i.memb
  ring := (congrArg KeyS.ring ((liveFollow_only t).key rfl)).trans i.ring

/-- A copy is installed whole. -/
theorem install_installed (c : Covered) (s : State) : Installed c s (install c s) := by
  unfold install
  extract_lets s1 jr s2 fix s3 scr s4 safe s5 loop s6 plan s7 s8 s9 s10
  have words : (installWords c.words s).pair = s.pair := (installWords_fol (kc := { regs := true }) rfl (.refl _ s)).pair rfl
  have journal : s10.jr.gen = c.jr.gen ∧ s10.jr.digest = c.jr.digest ∧ s10.jr.sf = c.jr.sf := by
    simp only [s10, s9, s8, s7, s6, s5, s4, s3, s2, updSched_jr, updTime_jr, updKey_jr, updLkp_jr, updMac_jr, updLoop_jr, updMemb_jr,
      updSafe_jr, updScr_jr, updFix_jr, updJr_jr, jr, and_self]
  obtain ⟨gen, digest, sf⟩ := journal
  refine Installed.live ⟨?_, gen, digest, sf, ?_, ?_, ?_⟩
  · simp only [s10, s9, s8, s7, s6, s5, s4, s3, s2, s1, updSched_pair, updTime_pair, updKey_pair, updLkp_pair, updMac_pair, updLoop_pair,
      updMemb_pair, updSafe_pair, updScr_pair, updFix_pair, updJr_pair, updRegs_pair, words]
  · simp only [s10, s9, s8, s7, s6, s5, updSched_safe, updTime_safe, updKey_safe, updLkp_safe, updMac_safe, updLoop_safe,
      updMemb_safe, updSafe_safe, safe]
  · simp only [s10, s9, s8, s7, s6, updSched_memb, updTime_memb, updKey_memb, updLkp_memb, updMac_memb, updLoop_memb, updMemb_memb]
  · simp only [s10, s9, updSched_key, updTime_key, updKey_key]
    split
    · assumption
    · rfl

/-- A whole copy is installed at COPY_END. -/
theorem execCopyEnd_installs (c : Covered) (m : LinkFrame f s) (active : f.role = 1) (standby : s.pair.role = .standby)
    (receiving : s.pair.copy.st = .receiving) (whole : s.pair.copy.got.length = s.pair.copy.nchunk)
    (waiting : s.pair.copy.waiting = []) (six : s.pair.six = none) :
    ∃ t, exec (.copyEnd f s.pair.copy.epoch s.pair.copy.nchunk true c) s = .next t ∧ t.pair.sync = !s.pair.classDiff ∧
      t.pair.copy.st = .none ∧ t.jr.gen = c.jr.gen ∧ t.jr.digest = c.jr.digest ∧ t.jr.sf = c.jr.sf ∧
      t.safe.cPermit = c.safe.cPermit ∧ t.memb = c.memb ∧ t.key.ring = c.ring := by
  have heard := linkHeard_active (s := s) active
  have role : (linkHeard f s).pair.role = .standby := by rw [heard.pair, standby]
  have copy : (linkHeard f s).pair.copy = s.pair.copy := by rw [heard.pair]
  have i := install_installed c (linkHeard f s)
  obtain ⟨v, hv⟩ : ∃ v, v = bump (Addr.PAIR_CNT + 16) (sendLink 0x24 [s.pair.copy.epoch, 1] ((install c (linkHeard f s)).updPair fun p =>
      { p with sync := !p.classDiff, why := if p.classDiff then 6 else 0,
               copy := { CopyS.reset with epoch := s.pair.copy.epoch, asked := p.copy.asked } })) := ⟨_, rfl⟩
  have told : Follows { regs := true, pair := true } (install c (linkHeard f s)) v := by
    rw [hv]
    exact bump_fol rfl (sendLink_fol rfl (updPair_fol rfl (.refl _ _)))
  have pair : v.pair = { (install c (linkHeard f s)).pair with
      sync := !s.pair.classDiff, why := if s.pair.classDiff then 6 else 0, txCounter := v.pair.txCounter,
      copy := { CopyS.reset with epoch := s.pair.copy.epoch, asked := s.pair.copy.asked } } := by
    rw [hv, (bump_fol (kc := { regs := true }) rfl (.refl _ _)).pair rfl, sendLink_pair, updPair_pair, i.pair, heard.pair]
  obtain ⟨w, hw⟩ : ∃ w, w = if v.pair.sync then sendLink 0x11 [v.jr.lastSf, v.jr.lastSeq] v else v := ⟨_, rfl⟩
  have acked : Follows { pair := true } v w ∧ w.pair = { v.pair with txCounter := w.pair.txCounter } := by
    rw [hw]
    split
    · exact ⟨sendLink_only _ _ v, sendLink_pair _ _ v⟩
    · exact ⟨.refl _ v, rfl⟩
  obtain ⟨beside, kept⟩ := acked
  have run : exec (.copyEnd f s.pair.copy.epoch s.pair.copy.nchunk true c) s = .next w := by
    show execCopyEnd f s.pair.copy.epoch s.pair.copy.nchunk true c s = _
    have untaken : handoverTry w = w := handoverTry_waits (by rw [kept, pair, i.pair, heard.pair, six])
    simp only [execCopyEnd, linkOnly_heard m, role, copy, receiving, whole, waiting, ← hv, List.foldl_nil, ← hw, untaken,
      Bool.not_true, bne_self_eq_false, Bool.or_self, Bool.false_eq_true, if_false, if_true, List.isEmpty_nil]
  have all := told.trans (beside.mono (d := { regs := true, pair := true }) (by decide))
  refine ⟨w, run, ?_, ?_, ?_, ?_, ?_, ?_, ?_, ?_⟩
  · rw [kept, pair]
  · rw [kept, pair]
    rfl
  · rw [all.jr rfl, i.gen]
  · rw [all.jr rfl, i.digest]
  · rw [all.jr rfl, i.sf]
  · rw [all.safe rfl, i.covered]
  · rw [all.memb rfl, i.memb]
  · rw [all.key rfl, i.ring]

/-- The result ends the copy of the unit that sends it. -/
theorem execCopyResult_ends (m : LinkFrame f s) (active : s.pair.role = .active) (sending : s.pair.copy.st = .sending) :
    ∃ t, exec (.copyResult f s.pair.copy.epoch true) s = .next t ∧ t.pair.copy.st = .none := by
  have heard : LinkHeard f s (linkHeard f s) := linkHeard_quiet (by rw [sending]; simp)
  have role : (linkHeard f s).pair.role = .active := by rw [heard.pair, active]
  have copy : (linkHeard f s).pair.copy = s.pair.copy := by rw [heard.pair]
  show ∃ t, execCopyResult f s.pair.copy.epoch true s = .next t ∧ _
  simp only [execCopyResult, linkOnly_heard m, role, copy, sending, beq_self_eq_true, Bool.and_self, if_true]
  exact ⟨_, rfl, rfl⟩

/-- A copy that fails is no copy; one that is received ends synchronisation with it. -/
theorem copyFail_ends (s : State) : (copyFail s).pair.copy.st = .none ∧
    (s.pair.copy.st = .receiving → (copyFail s).pair.sync = false ∧ (copyFail s).pair.why = 1) := by
  unfold copyFail
  dsimp only
  split
  · rw [(evTrig_fol (kc := { regs := true, evr := true }) rfl rfl (bump_fol rfl (alarm_fol rfl (.refl _ _)))).pair rfl]
    exact ⟨rfl, fun _ => ⟨rfl, rfl⟩⟩
  · next other => exact ⟨rfl, fun receiving => absurd (Or.inl receiving) other⟩

/-- A copy ends 10 s after it began. -/
theorem execCopyTimeout_ends (busy : s.pair.copy.st ≠ .none) : ∃ t, exec .copyTimeout s = .next t ∧ t.pair.copy.st = .none ∧
    t.time.op = max s.time.op (s.pair.copy.since + 10000000000) ∧
    (s.pair.copy.st = .receiving → t.pair.sync = false ∧ t.pair.why = 1) := by
  obtain ⟨n, hn⟩ : ∃ n, n = s.pair.copy.since + 10000000000 := ⟨_, rfl⟩
  have run : exec .copyTimeout s = .next (copyFail (advOp n s)) := by
    show execCopyTimeout s = _
    unfold execCopyTimeout
    rw [← hn]
    split
    · next idle => exact absurd idle busy
    · rfl
  obtain ⟨ended, lost⟩ := copyFail_ends (advOp n s)
  refine ⟨_, run, ended, ?_, fun receiving => lost (by rw [advOp_pair, receiving])⟩
  rw [(copyFail_fol (kc := { regs := true, pair := true, evr := true }) rfl rfl rfl (.refl _ _)).time rfl, advOp_op, hn]

end Copy

/-- Settles O15: a frame that is heard shows the partner, and what it carries acts on what was there. -/
theorem pairReplicatesJournalAndCopy : Obligations.PairReplicatesJournalAndCopy :=
  ⟨fun _ _ m => ⟨fun _ _ active standby sync six payload next => execJrnl_applies m active standby sync six payload next,
      fun sf seq active => execJrnlAck_drops m sf seq active, fun g v b => execDigest_agrees m g v b,
      fun _ g v b _ differs standby sync active => execDigest_differs m g v b differs standby sync active,
      fun standby six active => execHandoverFrame_waits m standby six active,
      fun _ standby six sync applied active early => execHandoverFrame_takes m standby six sync applied active early⟩,
    fun _ _ => ⟨fun m active idle receiving applying => execCopyReq_begins m active idle ⟨receiving, applying⟩,
      fun _ usable standby sync up idle asked => execCopyReqRetry_asks usable standby sync up idle asked,
      fun e p g c n d m active standby sync => execCopyBegin_opens e p g c n d m active standby sync,
      fun _ m active standby receiving inside => execCopyChunk_keeps m active standby receiving inside,
      fun c m active standby receiving whole waiting six => execCopyEnd_installs c m active standby receiving whole waiting six,
      fun m active sending => execCopyResult_ends m active sending, fun busy => execCopyTimeout_ends busy⟩⟩

end Sys2Proof.Machine

/-!
Lost covered state and the strip (12_memory R333, R334, R338): what a rebuild writes stands beside the count of the losses.
-/

namespace Sys2Proof.Machine

open Sys2Proof

/-! The words that withdrawals and cancelled descriptors write. -/

/-- `P` names the words that a descriptor cut or swept again writes, beside those of a fault: the counts of withdrawals, of
expired leases and of moved entries. -/
structure CutWords (P : Nat → Bool) : Prop extends FaultWords P where
  withdrawals : P (rkey Addr.SAFE_CNT_WITHDRAW) = true
  leases : P (rkey Addr.SAFE_CNT_LEASE) = true
  moved : P (rkey Addr.SCR_CNT_RELOC) = true

section Cut

variable {P : Nat → Bool} {s0 s : State} (w : CutWords P)
include w

theorem CutWords.liveWithdraw (h : Words P s0 s) (m cause : Nat) : Words P s0 (liveWithdraw m cause s) := by
  unfold Machine.liveWithdraw
  extract_lets s1 s2
  have stopped : Words P s0 s1 :=
    (bump_words w.withdrawals (w.liveClear h m cause)).beside (stopHome_fol (kc := { safe := true }) rfl (.refl _ _)) rfl
  have counted : Words P s0 s2 := by
    unfold s2
    split
    · exact bump_words w.leases stopped
    · exact stopped
  split
  · split
    · exact counted
    · exact w.evTrig counted _ _
  · exact h

theorem CutWords.withdraw (h : Words P s0 s) (pos : Nat × Nat) (m cause : Nat) : Words P s0 (withdraw pos m cause s) :=
  (w.liveWithdraw h m cause).beside (covWithdraw_fol (kc := { safe := true }) rfl (.refl _ _)) rfl

theorem CutWords.taskFreed (h : Words P s0 s) (expired : Bool) (sf resId : Nat) : Words P s0 (taskFreed expired sf resId s) := by
  unfold Machine.taskFreed
  split
  · exact h
  · exact w.notify (updScr_words h) _ _ _

theorem CutWords.cutDesc (h : Words P s0 s) (pos : Nat × Nat) (m i cut : Nat) : Words P s0 (cutDesc pos m i cut s).1 := by
  unfold Machine.cutDesc
  extract_lets c d cur id whole gone c1 blank d' s1 s2 s3
  have freed : Words P s0 s1 := updScr_words h
  have stopped : Words P s0 s2 := by
    unfold s2
    split
    · exact w.withdraw freed pos m 11
    · exact freed
  have told : Words P s0 s3 := stopped.beside (queueCut_fol (kc := { memb := true }) rfl (.refl _ _)) rfl
  dsimp only
  split
  · exact w.taskFreed told _ _ _
  · exact told

theorem CutWords.rebuildDesc (h : Words P s0 s) (pos : Nat × Nat) (group k : Nat) : Words P s0 (rebuildDesc pos group s k) := by
  unfold Machine.rebuildDesc
  extract_lets m i c g cur x s1
  have swept : Words P s0 s1 := bumpF_words w.moved (updScr_words h)
  split
  · exact swept
  · exact w.cutDesc swept _ _ _ _

theorem CutWords.resvRebuild (h : Words P s0 s) (pos : Nat × Nat) (group : Nat) : Words P s0 (resvRebuild pos group s) :=
  List.foldlRecOn _ _ (updScr_words h) fun _ ht k _ => w.rebuildDesc ht pos group k

end Cut

section Lost

variable {s : State} {group : Nat}

/-- With no LIVE descriptor nothing comes back. -/
theorem resvRebuild_empties (pos : Nat × Nat) (free : ∀ e ∈ s.scr.cov.descs, e.2.live = false) :
    (resvRebuild pos group s).scr.cov.table = s.scr.cov.table.filter (fun e => e.1 / 32 != group) := by
  have none : kkeys (fun _ d => d.live) s.scr.cov.descs = [] := by
    rw [kkeys, List.map_eq_nil_iff, List.filter_eq_nil_iff]
    intro e held
    rw [free e held]
    exact Bool.false_ne_true
  rw [resvRebuild, none]
  rfl

/-- The covered effect of lost buckets at the entry that stands last. -/
def bucketsLost (group : Nat) (t : State) : State := resvRebuild (lastPos t) group (lossRecord (bump Addr.MEM_CNT_STATE_LOSS t))

/-- The record of a loss. -/
theorem lossRecord_only (s : State) : Follows { regs := true, evr := true } s (lossRecord s) := by
  unfold lossRecord
  split <;> exact evTrig_fol rfl rfl (.refl _ s)

/-- A loss of buckets is counted, beside what it writes else. -/
theorem bucketsLost_counts (group : Nat) (s : State) : cfg (bucketsLost group s) Addr.MEM_CNT_STATE_LOSS 31 0 =
    min (2 ^ 32 - 1) (cfg s Addr.MEM_CNT_STATE_LOSS 31 0 + 1) := by
  have words : CutWords (otherWord (rkey Addr.MEM_CNT_STATE_LOSS)) :=
    ⟨⟨⟨by decide, by decide, by decide⟩, by decide, by decide, by decide, by decide, by decide, by decide⟩,
      by decide, by decide, by decide⟩
  have recorded : Words (otherWord (rkey Addr.MEM_CNT_STATE_LOSS)) (bump Addr.MEM_CNT_STATE_LOSS s)
      (lossRecord (bump Addr.MEM_CNT_STATE_LOSS s)) := by
    unfold lossRecord
    split <;> exact words.evTrig (.refl _ _) _ _
  rw [← cfg_bump]
  exact (words.resvRebuild recorded _ _).cfg

/-- Lost buckets of a unit that writes entries are an entry, and leave the table. -/
theorem execResvRebuild_loses (small : group < 65536) (role : s.pair.role ≠ .standby) (writer : canWrite s = true)
    (hold : s.time.hold = none) : ∃ t, exec (.resvRebuild group) s = .next t ∧ t.jr.lastSf = s.jr.sf ∧ t.jr.lastSeq = s.jr.nextSeq ∧
      cfg t Addr.MEM_CNT_STATE_LOSS 31 0 = min (2 ^ 32 - 1) (cfg s Addr.MEM_CNT_STATE_LOSS 31 0 + 1) ∧
      ((∀ e ∈ s.scr.cov.descs, e.2.live = false) →
        t.scr.cov.table = s.scr.cov.table.filter (fun e => e.1 / 32 != group)) := by
  obtain ⟨v, hv⟩ : ∃ v, v = jWrite 0 (now s) (.stateLoss 2 0 group) s := ⟨_, rfl⟩
  have run : exec (.resvRebuild group) s = .next (bucketsLost group v) := by
    show execResvRebuild group s = _
    rw [execResvRebuild, if_neg (Nat.not_le.mpr small), stateLost, if_neg role, post, if_neg (by rw [writer]; decide),
      if_neg (by rw [hold]; decide), ← hv]
    rfl
  have entry : Follows { jr := true, regs := true, gmp := true, pair := true } s v := by rw [hv]; exact jWrite_only _ _ _ s
  have spine := jWrite_spine 0 (now s) (.stateLoss 2 0 group) s
  rw [← hv] at spine
  obtain ⟨-, lastSf, lastSeq⟩ := JrnlS.spine_pos spine
  have counts : Words (otherWord (rkey Addr.MEM_CNT_STATE_LOSS)) s v := by
    rw [hv]
    exact (jWrite_words _ _ _ s).mono fun k other => by
      have same : k = rkey Addr.MEM_CNT_STATE_LOSS := by simpa [otherWord] using other
      rw [same]; decide
  have beside : Follows { regs := true, evr := true } v (lossRecord (bump Addr.MEM_CNT_STATE_LOSS v)) :=
    (bump_fol (kc := { regs := true, evr := true }) rfl (.refl _ v)).trans (lossRecord_only _)
  have effect : Follows { regs := true, gmp := true, safe := true, scr := true, memb := true, evr := true } v (bucketsLost group v) :=
    resvRebuild_fol rfl rfl rfl rfl rfl rfl (beside.mono (by decide))
  refine ⟨_, run, ?_, ?_, ?_, fun free => ?_⟩
  · rw [effect.jr rfl, lastSf]
  · rw [effect.jr rfl, lastSeq]
  · rw [bucketsLost_counts, counts.cfg]
  · have scr : (lossRecord (bump Addr.MEM_CNT_STATE_LOSS v)).scr = s.scr := (beside.scr rfl).trans (entry.scr rfl)
    rw [bucketsLost, resvRebuild_empties _ (by rw [scr]; exact free), scr]

end Lost

section Strip

variable {s : State}

/-- What holds of every value that a map was changed to, and of the value that it does not list, holds at every key. -/
theorem kget_kmap_of {α : Type} [DecidableEq α] {Q : α → Prop} {d : α} {f : Nat → α → α} (all : ∀ k x, Q (f k x)) (zero : Q d)
    (m : KMap α) (k : Nat) : Q (kget d (kmap d f m) k) := by
  rw [kget]
  cases found : kfind (kmap d f m) k with
  | none => exact zero
  | some v =>
    obtain ⟨e, -, same⟩ := List.mem_map.mp (List.mem_filter.mp (mem_of_kfind found)).1
    have changed : f e.1 e.2 = v := congrArg Prod.snd same
    rw [Option.getD_some, ← changed]
    exact all _ _

/-- The end of the strip clears every poison flag and every hod. -/
theorem execStripEnd_clears (strip : s.pcr.phase = .strip) (us : Nat) : ∃ t, exec (.stripEnd us) s = .next t ∧ t.pcr.phase = .boot ∧
    (∀ b, (bank t b).poison = []) ∧ (∀ h, (hodOf t h).used = 0 ∧ (hodOf t h).packets = 0) ∧ t.mem.stripUs = min 255 us := by
  refine ⟨_, if_neg (not_not.mpr strip), rfl, fun b => ?_, fun h => ?_, min_comm _ _⟩
  · exact kget_kmap_of (Q := fun k : Bank => k.poison = []) (f := fun _ k => { k with poison := [] }) (d := Bank.zero) (fun _ _ => rfl) rfl s.mem.banks b
  · exact kget_kmap_of (Q := fun x : Hod => x.used = 0 ∧ x.packets = 0) (f := fun _ x => { x with used := 0, packets := 0 })
      (d := Hod.zero) (fun _ _ => ⟨rfl, rfl⟩) ⟨rfl, rfl⟩ s.hod.hods h

/-- A strip that lasts too long holds the device in reset. -/
theorem execStripOverrun_resets (strip : s.pcr.phase = .strip) : ∃ t, exec .stripOverrun s = .next t ∧ t.pcr.phase = .held ∧
    t.pcr.cause = 4 ∧ t.safe.latch = true ∧ t.safe.permit = 0 ∧ t.jr = State.reset.jr ∧ t.gmp = State.reset.gmp ∧ t.out = s.out :=
  ⟨deviceReset 4 0 s, if_pos strip, rfl, rfl, rfl, rfl, rfl, rfl, rfl⟩

end Strip

/-- Settles O24: the entry of a loss stands before its effect, which moves neither the journal nor the count. -/
theorem lostBucketsRebuildAndStripsEnd : Obligations.LostBucketsRebuildAndStripsEnd :=
  ⟨fun _ _ small role writer hold => execResvRebuild_loses small role writer hold,
    fun _ strip => ⟨fun us => execStripEnd_clears strip us, execStripOverrun_resets strip⟩⟩

end Sys2Proof.Machine

/-!
Standby, wake and temperature (22_power_clocks_reset R515 to R518).
-/

namespace Sys2Proof.Machine

open Sys2Proof

section Standby

variable {h : GmpHdr} {x : Session} {s : State}

/-- The status of a STANDBY request, its checks in the order of R516. -/
def standbyStatus (s : State) : Nat :=
  firstErr stOk [(pcrRefused s, stState), (s.pcr.wakeLow, stState), (s.snag.restart.isSome, stBusy)]

/-- A STANDBY request at its position. -/
theorem pcrCtrlWord_standby (s : State) : pcrCtrlWord 2#32 s = (s.updPcr fun p =>
    { p with ctrlStatus := standbyStatus s, phase := if standbyStatus s = stOk then .drain else p.phase }, standbyStatus s) := by
  have reset : bit (2#32) 0 = false := rfl
  have standby : bit (2#32) 1 = true := rfl
  have status : firstErr stOk [(pcrRefused s, stState), (s.pcr.wakeLow, stState), (s.snag.restart.isSome, stBusy)] =
    standbyStatus s := rfl
  simp only [pcrCtrlWord, reset, standby, Bool.false_and, Bool.false_eq_true, if_false, if_true, status]
  by_cases ok : standbyStatus s = stOk
  · simp only [ok, ne_eq, not_true_eq_false, if_false, if_true]
    rfl
  · simp only [ok, ne_eq, not_false_eq_true, if_true, if_false]

/-- STANDBY is answered with its status, and an accepted one drains. -/
theorem execStandby_answers (m : GmpMay h x 1 10 s) : ∃ t, exec (.standby h) s = .next t ∧
    Answered h 0x02 (standbyStatus s) (indexBody (if isErr (standbyStatus s) then 0 else 0xFFFF)) s t ∧
    t.pcr.phase = (if standbyStatus s = stOk then .drain else s.pcr.phase) ∧ t.pcr.ctrlStatus = standbyStatus s := by
  obtain ⟨u, d, answered, rest⟩ := gmpWord_settles m Addr.PCR_CTRL 2#32 (f := pcrCtrlWord 2#32) (c := { pcr := true }) rfl rfl
    (fun u => pcrCtrlWord_fol rfl (.refl _ u))
  have refused : pcrRefused u = pcrRefused s := by
    rw [pcrRefused, pcrRefused, d.fol.holdsToken rfl, d.fol.safe rfl]
  have status : standbyStatus u = standbyStatus s := by
    rw [standbyStatus, standbyStatus, refused, d.fol.pcr rfl, d.fol.snag rfl]
  rw [pcrCtrlWord_standby, status] at answered rest
  refine ⟨_, rfl, answered, ?_⟩
  rw [rest.pcr rfl, updPcr_pcr, d.fol.pcr rfl]
  exact ⟨rfl, rfl⟩

/-- A unit that answers requests holds the token. -/
theorem GmpMay.token (m : GmpMay h x 1 10 s) : holdsToken s = true := by
  have writer := m.writer
  simp only [canWrite, onDuty, Bool.and_eq_true] at writer
  exact writer.1.2

/-- An accepted STANDBY that has drained enters standby, or serves the wake that came meanwhile. -/
theorem execStandbyEntered_enters (drain : s.pcr.phase = .drain) (empty : drained s = true) :
    (s.pcr.wakePend = false → ∃ t, exec .standbyEntered s = .next t ∧ t.pcr.phase = .standby ∧ t.pcr.cause = 9 ∧ t.pcr.rails = 1 ∧
      t.pcr.domOn = 1 ∧ t.out = s.out ++ [.pwrEn false]) ∧
    (s.pcr.wakePend = true → ∃ t, exec .standbyEntered s = .next t ∧ t.pcr.phase = .held ∧ t.pcr.cause = 9 ∧
      t.out = s.out ++ [.pwrEn false, .pwrEn true]) := by
  obtain ⟨t, ht⟩ : ∃ t, t = emit (.pwrEn false) ((deviceReset 9 0 s).updPcr fun p =>
      { p with phase := .standby, rails := 1, domOn := 1 }) := ⟨_, rfl⟩
  have run : exec .standbyEntered s = .next (if s.pcr.wakePend then wakeUp t else t) := by
    show execStandbyEntered s = _
    simp only [execStandbyEntered, drain, empty, ← ht]
    rfl
  have out : t.out = s.out ++ [.pwrEn false] := by rw [ht]; rfl
  have cause : t.pcr.cause = 9 := by rw [ht]; rfl
  constructor
  · intro pend
    rw [pend] at run
    exact ⟨t, run, by rw [ht]; rfl, cause, by rw [ht]; rfl, by rw [ht]; rfl, out⟩
  · intro pend
    rw [pend] at run
    refine ⟨wakeUp t, run, rfl, cause, ?_⟩
    rw [wakeUp, emit_out, updPcr_out, out, List.append_assoc]
    rfl

/-- A STANDBY that has not drained waits. -/
theorem execStandbyEntered_waits (busy : drained s = false) : exec .standbyEntered s = .next s := by
  show execStandbyEntered s = _
  simp [execStandbyEntered, busy]

/-- A wake in standby raises PWR_EN and holds the device in reset. -/
theorem execWake_wakes (standby : s.pcr.phase = .standby) : ∃ t, exec (.wake true) s = .next t ∧ t.pcr.phase = .held ∧
    t.pcr.wakeLow = true ∧ t.out = s.out ++ [.pwrEn true] := by
  refine ⟨wakeUp (s.updPcr fun p => { p with wakeLow := true }), ?_, rfl, rfl, rfl⟩
  show execWake true s = _
  simp [execWake, standby]

/-- A wake during the drain pends. -/
theorem execWake_pends (drain : s.pcr.phase = .drain) :
    ∃ t, exec (.wake true) s = .next t ∧ t.pcr.phase = .drain ∧ t.pcr.wakePend = true := by
  refine ⟨(s.updPcr fun p => { p with wakeLow := true }).updPcr fun p => { p with wakePend := true }, ?_, drain, rfl⟩
  show execWake true s = _
  simp [execWake, drain]

end Standby

section Temperature

variable {s : State}

/-- The state that has taken a reading: TEMP, and the greatest reading in its register. -/
def tempNoted (d : Int) (s : State) : State :=
  let s1 := s.updPcr fun p => { p with temp := d }
  if temp10 (cfg s Addr.PCR_TEMP 25 16) < d then putFld Addr.PCR_TEMP 25 16 (d % 1024).toNat s1 else s1

/-- A reading in service: at 135 degrees the device resets, at the warning level it is shown. -/
theorem execTempRead_eq (running : s.pcr.phase ≠ .held ∧ s.pcr.phase ≠ .standby) (d : Int) : exec (.tempRead d) s =
    if 135 ≤ d then .next (deviceReset 8 0 (tempNoted d s))
    else if (cfg s Addr.PCR_THERM_CFG 7 0 : Int) ≤ d then
      .next (evTrig Config.thermTrigger [] (alarm Addr.PCR_ALARM 0 (tempNoted d s)))
    else .next (tempNoted d s) := by
  show execTempRead d s = _
  simp [execTempRead, running, tempNoted]

/-- A reading changes TEMP and its register alone. -/
theorem tempNoted_keeps (d : Int) (s : State) : (tempNoted d s).pcr = { s.pcr with temp := d } ∧
    cfg (tempNoted d s) Addr.PCR_ALARM 0 0 = cfg s Addr.PCR_ALARM 0 0 := by
  unfold tempNoted
  dsimp only
  split
  · have put (v : State) : Follows { regs := true } v (putFld Addr.PCR_TEMP 25 16 (d % 1024).toNat v) := putFld_fol rfl (.refl _ v)
    have words (v : State) : Words (otherWord (rkey Addr.PCR_ALARM)) v (putFld Addr.PCR_TEMP 25 16 (d % 1024).toNat v) :=
      putFld_words (by decide) (.refl _ v)
    exact ⟨(put _).pcr rfl, by rw [(words _).cfg, cfg_updPcr]⟩
  · exact ⟨rfl, cfg_updPcr⟩

/-- A reading at 135 degrees resets the device. -/
theorem execTempRead_resets (running : s.pcr.phase ≠ .held ∧ s.pcr.phase ≠ .standby) {d : Int} (hot : 135 ≤ d) :
    ∃ t, exec (.tempRead d) s = .next t ∧ t.pcr.phase = .held ∧ t.pcr.cause = 8 :=
  ⟨_, by rw [execTempRead_eq running, if_pos hot], rfl, rfl⟩

/-- A reading below 135 degrees is noted, and one at the warning level shown. -/
theorem execTempRead_notes (running : s.pcr.phase ≠ .held ∧ s.pcr.phase ≠ .standby) {d : Int} (cool : d < 135) :
    ∃ t, exec (.tempRead d) s = .next t ∧ t.pcr = { s.pcr with temp := d } ∧
      ((cfg s Addr.PCR_THERM_CFG 7 0 : Int) ≤ d → cfg t Addr.PCR_ALARM 0 0 = 1) ∧
      (d < (cfg s Addr.PCR_THERM_CFG 7 0 : Int) → cfg t Addr.PCR_ALARM 0 0 = cfg s Addr.PCR_ALARM 0 0) := by
  obtain ⟨pcr, shown⟩ := tempNoted_keeps d s
  rw [execTempRead_eq running, if_neg (not_le.mpr cool)]
  by_cases warm : (cfg s Addr.PCR_THERM_CFG 7 0 : Int) ≤ d
  · rw [if_pos warm]
    have noticed : Follows { regs := true, evr := true } (tempNoted d s)
        (evTrig Config.thermTrigger [] (alarm Addr.PCR_ALARM 0 (tempNoted d s))) := evTrig_fol rfl rfl (alarm_fol rfl (.refl _ _))
    have recorded : Words (otherWord (rkey Addr.PCR_ALARM)) (alarm Addr.PCR_ALARM 0 (tempNoted d s))
        (evTrig Config.thermTrigger [] (alarm Addr.PCR_ALARM 0 (tempNoted d s))) :=
      RecordWords.evTrig ⟨by decide, by decide, by decide⟩ (.refl _ _) _ _
    exact ⟨_, rfl, by rw [noticed.pcr rfl, pcr], fun _ => by rw [recorded.cfg, cfg_alarm (by decide)],
      fun below => absurd warm (not_le.mpr below)⟩
  · rw [if_neg warm]
    exact ⟨_, rfl, pcr, fun above => absurd above warm, fun _ => shown⟩

/-- In reset and in standby nothing is read. -/
theorem execTempRead_ignored (idle : s.pcr.phase = .held ∨ s.pcr.phase = .standby) (d : Int) :
    exec (.tempRead d) s = .next s := by
  show execTempRead d s = _
  rcases idle with held | standby
  · simp [execTempRead, held]
  · simp [execTempRead, standby]

end Temperature

/-- Settles O56: the checks of STANDBY read what neither the entry of the request nor its session touches. -/
theorem standbyWakeAndTemperature : Obligations.StandbyWakeAndTemperature := by
  intro s
  refine ⟨fun h x m latch => ?_, fun h x m latch => ?_, execStandbyEntered_enters, fun _ busy => execStandbyEntered_waits busy,
    execWake_wakes, execWake_pends, ⟨s.updPcr fun p => { p with wakeLow := false }, rfl, rfl, rfl⟩,
    fun d held standby => ⟨execTempRead_resets ⟨held, standby⟩, execTempRead_notes ⟨held, standby⟩⟩,
    fun d idle => execTempRead_ignored idle d⟩
  · obtain ⟨t, run, answered, phase, status⟩ := execStandby_answers m
    have may : pcrRefused s = false := by simp [pcrRefused, latch]
    refine ⟨fun awake free => ?_, fun asleep => ?_, fun awake busy => ?_⟩
    · have ok : standbyStatus s = stOk := by simp [standbyStatus, may, awake, free, firstErr]
      rw [ok] at answered phase status
      exact ⟨t, run, answered, phase, status⟩
    · have no : standbyStatus s = stState := by simp [standbyStatus, may, asleep, firstErr]
      rw [no] at answered phase
      exact ⟨t, run, answered, phase⟩
    · have no : standbyStatus s = stBusy := by simp [standbyStatus, may, awake, Option.isSome_iff_ne_none.mpr busy, firstErr]
      rw [no] at answered phase
      exact ⟨t, run, answered, phase⟩
  · obtain ⟨t, run, answered, phase, -⟩ := execStandby_answers m
    have no : standbyStatus s = stState := by simp [standbyStatus, pcrRefused, m.token, latch, firstErr]
    rw [no] at answered phase
    exact ⟨t, run, answered, phase⟩

end Sys2Proof.Machine

/-!
Reset sources (22_power_clocks_reset R507, R512 to R515): each is the device reset under its cause.
-/

namespace Sys2Proof.Machine

open Sys2Proof

section Sources

variable {s u : State}

/-- A device reset leaves the regions that no write of it can tear (18_boot R451). -/
theorem flashAfterReset_keeps (s : State) : (flashAfterReset s).hdr = s.nvm.flash.hdr ∧ (flashAfterReset s).fw = s.nvm.flash.fw ∧
    (flashAfterReset s).primer = s.nvm.flash.primer := by
  unfold flashAfterReset
  cases s.nvm.writing with
  | none => dsimp only; split <;> exact ⟨rfl, rfl, rfl⟩
  | some w => dsimp only; split <;> exact ⟨rfl, rfl, rfl⟩

/-- The state that a source of reset holds, with what of `s` stands (R514). -/
structure Reset (k : Nat) (s t : State) : Prop where
  phase : t.pcr.phase = .held
  cause : t.pcr.cause = k
  jr : t.jr = State.reset.jr
  gmp : t.gmp = State.reset.gmp
  latch : t.safe.latch = State.reset.safe.latch
  permit : t.safe.permit = State.reset.safe.permit
  fuses : t.key.fuses = s.key.fuses
  slots : t.key.slots = []
  hdr : t.nvm.flash.hdr = s.nvm.flash.hdr
  fw : t.nvm.flash.fw = s.nvm.flash.fw
  primer : t.nvm.flash.primer = s.nvm.flash.primer
  op : t.time.op = s.time.op
  pcycle : t.evr.pcycle = s.evr.pcycle
  out : t.out = s.out

/-- Every cause but an AON power-on leaves operating time. -/
theorem deviceReset_resets {k : Nat} (warm : k ≠ 0) (rail : Nat) (s : State) : Reset k s (deviceReset k rail s) := by
  obtain ⟨hdr, fw, primer⟩ := flashAfterReset_keeps s
  exact ⟨rfl, rfl, rfl, rfl, rfl, rfl, rfl, rfl, hdr, fw, primer, if_neg warm, if_neg warm, rfl⟩

/-- Outside standby a source resets the device; in standby it does nothing. -/
theorem resetBy_resets {k : Nat} (warm : k ≠ 0) (pcr : Follows { pcr := true } s u) (phase : u.pcr.phase = s.pcr.phase)
    (out : u.out = s.out) : (s.pcr.phase ≠ .standby → Reset k s (resetBy k 0 u)) ∧ (s.pcr.phase = .standby → resetBy k 0 u = u) := by
  refine ⟨fun running => ?_, fun standby => if_pos (phase.trans standby)⟩
  rw [resetBy, if_neg (by rw [phase]; exact running)]
  have r := deviceReset_resets warm 0 u
  exact { r with
    fuses := by rw [r.fuses, pcr.key rfl], hdr := by rw [r.hdr, pcr.nvm rfl], fw := by rw [r.fw, pcr.nvm rfl],
    primer := by rw [r.primer, pcr.nvm rfl], op := by rw [r.op, pcr.time rfl], pcycle := by rw [r.pcycle, pcr.evr rfl],
    out := by rw [r.out, out] }

/-- RESET_N, a clock loss and a CORE fault are `resetBy` under their cause. -/
theorem source_is_resetBy {c : Instr} {k : Nat}
    (source : (c, k) ∈ [(Instr.resetN, 2), (.clockLoss true, 3), (.clockLoss false, 3), (.coreFault, 4)]) (s : State) :
    ∃ u, exec c s = .next (resetBy k 0 u) ∧ Follows { pcr := true } s u ∧ u.pcr.phase = s.pcr.phase ∧ u.out = s.out ∧ k ≠ 0 := by
  simp only [List.mem_cons, Prod.mk.injEq, List.not_mem_nil, or_false] at source
  have clock (refLost : Bool) : Follows { pcr := true } s (s.updPcr fun p => { p with pllLock := false, refOk := p.refOk && !refLost }) :=
    updPcr_fol rfl (.refl _ s)
  rcases source with ⟨rfl, rfl⟩ | ⟨rfl, rfl⟩ | ⟨rfl, rfl⟩ | ⟨rfl, rfl⟩
  · exact ⟨s, rfl, .refl _ s, rfl, rfl, by decide⟩
  · exact ⟨_, rfl, clock true, rfl, rfl, by decide⟩
  · exact ⟨_, rfl, clock false, rfl, rfl, by decide⟩
  · exact ⟨s, rfl, .refl _ s, rfl, rfl, by decide⟩

/-- The watchdog acts only while a CP engine is in service. -/
theorem execWatchdog_resets (running : s.pcr.phase ≠ .standby) (usable : engUsable s 0 = true ∨ engUsable s 1 = true) :
    ∃ t, exec .watchdog s = .next t ∧ t.pcr.phase = .held ∧ t.pcr.cause = 5 := by
  have acts : (engUsable s 0 || engUsable s 1) = true := by simpa using usable
  refine ⟨deviceReset 5 0 s, ?_, rfl, rfl⟩
  show execWatchdog s = _
  rw [execWatchdog, if_pos acts, resetBy, if_neg running]

theorem execWatchdog_idle (cp0 : engUsable s 0 = false) (cp1 : engUsable s 1 = false) : exec .watchdog s = .next s := by
  show execWatchdog s = _
  simp [execWatchdog, cp0, cp1]

/-- An AON power-on starts operating time again and raises PWR_EN. -/
theorem execAonPowerOn_resets (s : State) : ∃ t, exec .aonPowerOn s = .next t ∧ t.pcr.phase = .held ∧ t.pcr.cause = 0 ∧ t.time.op = 0 ∧
    t.evr.pcycle = 0 ∧ t.mem.banks = [] ∧ t.key.fuses = s.key.fuses ∧ t.nvm.flash.hdr = s.nvm.flash.hdr ∧
    t.out = s.out ++ [.pwrEn true] :=
  ⟨_, rfl, rfl, rfl, rfl, rfl, rfl, rfl,
    (flashAfterReset_keeps (s.updPcr fun p => { p with rails := 1, pllLock := false, refOk := false })).1, rfl⟩

end Sources

section Rails

variable {s : State} {r : Nat} {deep back : Bool}

/-- A rail that trips shows whether it is back. -/
theorem railSet_rails (r : Nat) (back : Bool) (s : State) : (railSet r back s).pcr.rails.testBit r = back :=
  testBit_setBitN.trans (if_pos rfl)

/-- A trip of a rail beside the SAFE bay's resets the device. -/
theorem execRailTrip_resets (rail : 3 ≤ r ∧ r ≤ 10) (running : s.pcr.phase ≠ .standby) : ∃ t, exec (.railTrip r deep back) s = .next t ∧
    t.pcr.phase = .held ∧ t.pcr.cause = 1 ∧ t.pcr.rail = r ∧ t.pcr.rails.testBit r = back := by
  have used : ¬ r = 0 := by omega
  have known : ¬ 10 < r := by omega
  refine ⟨deviceReset 1 r (railSet r back s), ?_, rfl, rfl, rfl, railSet_rails r back s⟩
  show execRailTrip r deep back s = _
  simp only [execRailTrip, used, known, running, rail.1, if_false, if_true]

/-- A trip of the SAFE bay's rails is its fault 5 alone. -/
theorem execRailTrip_faults (rail : 1 ≤ r ∧ r ≤ 2) (running : s.pcr.phase ≠ .standby) : ∃ t, exec (.railTrip r deep back) s = .next t ∧
    t.pcr.phase = s.pcr.phase ∧ t.pcr.rails.testBit r = back ∧ t.safe.faults.testBit 4 = true ∧
    (s.safe.faults.testBit 4 = false → t.safe.latch = true) := by
  have used : ¬ r = 0 := by omega
  have known : ¬ 10 < r := by omega
  have bay : ¬ 3 ≤ r := by omega
  obtain ⟨stands, latches, -, -⟩ := faultRaise_raises 5 (railSet r back s)
  have pcr : (faultRaise 5 (railSet r back s)).pcr = (railSet r back s).pcr :=
    (faultRaise_fol (kc := { jr := true, regs := true, gmp := true, safe := true, pair := true, evr := true })
      rfl rfl rfl rfl rfl rfl (.refl _ _)).pcr rfl
  have run : exec (.railTrip r deep back) s =
      .next (if deep then safeHeld (faultRaise 5 (railSet r back s)) else faultRaise 5 (railSet r back s)) := by
    show execRailTrip r deep back s = _
    simp only [execRailTrip, used, known, running, bay, if_false]
    split <;> rfl
  cases deep with
  | true =>
    refine ⟨safeHeld (faultRaise 5 (railSet r back s)), run, ?_, ?_, stands, fun _ => rfl⟩
    · rw [safeHeld, updSafe_pcr, pcr]; rfl
    · rw [safeHeld, updSafe_pcr, pcr, railSet_rails]
  | false =>
    refine ⟨faultRaise 5 (railSet r back s), run, ?_, ?_, stands, latches⟩
    · rw [pcr]; rfl
    · rw [pcr, railSet_rails]

/-- A glitch is only shown. -/
theorem execRailGlitch_shows (known : r ≤ 10) : ∃ t, exec (.railGlitch r) s = .next t ∧ t.pcr = s.pcr ∧
    cfg t Addr.PCR_ALARM 1 1 = 1 ∧ cfg t Addr.PCR_RAIL_STATUS (16 + r) (16 + r) = 1 := by
  have alarmed (v : State) : Words (otherWord (rkey Addr.PCR_RAIL_STATUS)) v (alarm Addr.PCR_ALARM 1 v) :=
    alarm_words (by decide) (.refl _ v)
  refine ⟨alarm Addr.PCR_ALARM 1 (alarm Addr.PCR_RAIL_STATUS (16 + r) s), if_pos known, ?_, cfg_alarm (by decide) _, ?_⟩
  · exact (alarm_fol (kc := { regs := true }) rfl (alarm_fol rfl (.refl _ s))).pcr rfl
  · rw [(alarmed _).cfg, cfg_alarm (by omega)]

/-- The release starts the strip with every domain on. -/
theorem execResetRelease_releases (held : s.pcr.phase = .held) : ∃ t, exec .resetRelease s = .next t ∧ t.pcr.phase = .strip ∧
    t.pcr.rails = 0x7FF ∧ t.pcr.domOn = domMask s.part ∧ t.evr.pcycle = s.evr.pcycle + 1 ∧
    t.key = (if s.pcr.cause = 0 then fusesComplete s.key else s.key) := by
  show ∃ t, execResetRelease s = .next t ∧ _
  rw [execResetRelease, if_neg (not_not.mpr held)]
  dsimp only
  split
  · exact ⟨_, rfl, rfl, rfl, rfl, rfl, rfl⟩
  · exact ⟨_, rfl, rfl, rfl, rfl, rfl, rfl⟩

theorem execResetRelease_idle (released : s.pcr.phase ≠ .held) : exec .resetRelease s = .next s := if_pos released

end Rails

section Request

variable {h : GmpHdr} {x : Session} {s : State}

/-- A RESET request that is accepted acts 10 ms later. -/
theorem pcrCtrlWord_resets (may : pcrRefused s = false) : pcrCtrlWord 1#32 s =
    (s.updPcr fun p => { p with ctrlStatus := stOk, resetAt := some (s.time.op + 10000000) }, stOk) := by
  have reset : bit (1#32) 0 = true := rfl
  have standby : bit (1#32) 1 = false := rfl
  simp only [pcrCtrlWord, reset, standby, may, firstErr, Bool.and_false, Bool.false_eq_true, if_false, if_true, ne_eq, not_true_eq_false]
  rfl

/-- A RESET request that is refused changes its status alone. -/
theorem pcrCtrlWord_refuses (refused : pcrRefused s = true) :
    pcrCtrlWord 1#32 s = (s.updPcr fun p => { p with ctrlStatus := stState }, stState) := by
  have reset : bit (1#32) 0 = true := rfl
  have standby : bit (1#32) 1 = false := rfl
  have error : ¬ stState = stOk := by decide
  simp only [pcrCtrlWord, reset, standby, refused, firstErr, Bool.and_false, Bool.false_eq_true, if_false, if_true, ne_eq, error,
    not_false_eq_true]

/-- What a RESET request is decided on is what stood before its entry. -/
theorem pcrReset_settles (m : GmpMay h x 1 10 s) : ∃ u, Decided h x (.write [(Addr.PCR_CTRL, 1#32)]) s u ∧ pcrRefused u = !s.safe.cLatch ∧
    Answered h 0x02 (pcrCtrlWord 1#32 u).2 (indexBody (if isErr (pcrCtrlWord 1#32 u).2 then 0 else 0xFFFF)) s
      (gmpWord h Addr.PCR_CTRL 1#32 1 (pcrCtrlWord 1#32) s) ∧
    Follows { gmp := true, sess := true } (pcrCtrlWord 1#32 u).1 (gmpWord h Addr.PCR_CTRL 1#32 1 (pcrCtrlWord 1#32) s) := by
  obtain ⟨u, d, answered, rest⟩ := gmpWord_settles m Addr.PCR_CTRL 1#32 (f := pcrCtrlWord 1#32) (c := { pcr := true }) rfl rfl
    (fun u => pcrCtrlWord_fol rfl (.refl _ u))
  exact ⟨u, d, by rw [pcrRefused, d.fol.holdsToken rfl, m.token, d.fol.safe rfl, Bool.true_and], answered, rest⟩

/-- What has been answered stays so after a reset. -/
theorem Answered.reset {typ st k : Nat} {body : List Nat} {t : State} (a : Answered h typ st body s t) (n : Nat) :
    Answered h typ st body s (deviceReset k 0 (advOp n t)) := by
  obtain ⟨l, out, given⟩ := a
  exact ⟨l, (show (advOp n t).out = _ by rw [advOp_out, out]), given⟩

/-- An accepted RESET acts 10 ms after its response. -/
theorem execPcrReset_resets (m : GmpMay h x 1 10 s) (latch : s.safe.cLatch = true) : ∃ t, exec (.pcrReset h) s = .next t ∧
    Answered h 0x02 stOk (indexBody 0xFFFF) s t ∧ t.pcr.phase = .held ∧ t.pcr.cause = 6 ∧ t.time.op = s.time.op + 10000000 := by
  obtain ⟨u, d, may, answered, rest⟩ := pcrReset_settles m
  rw [latch] at may
  rw [pcrCtrlWord_resets may] at answered rest
  obtain ⟨n, hn⟩ : ∃ n, n = u.time.op + 10000000 := ⟨_, rfl⟩
  obtain ⟨t, ht⟩ : ∃ t, t = gmpWord h Addr.PCR_CTRL 1#32 1 (pcrCtrlWord 1#32) s := ⟨_, rfl⟩
  rw [← ht, ← hn] at rest
  rw [← ht] at answered
  have due : t.pcr.resetAt = some n := by rw [rest.pcr rfl, updPcr_pcr]
  have time : t.time = u.time := rest.time rfl
  have run : exec (.pcrReset h) s = .next (deviceReset 6 0 (advOp n t)) := by
    show Host.Outcome.next (pcrFinish (gmpWord h Addr.PCR_CTRL 1#32 1 (pcrCtrlWord 1#32) s)) = _
    rw [← ht, pcrFinish, due]
  refine ⟨_, run, answered.reset n, rfl, rfl, ?_⟩
  rw [(deviceReset_resets (by decide) 0 _).op, advOp_op, time, hn, d.fol.time rfl]
  omega

/-- A unit that holds the token without the global latch is not reset. -/
theorem execPcrReset_refuses (m : GmpMay h x 1 10 s) (latch : s.safe.cLatch = false) (calm : s.pcr.resetAt = none) :
    ∃ t, exec (.pcrReset h) s = .next t ∧ Answered h 0x02 stState (indexBody 0) s t ∧ t.pcr = { s.pcr with ctrlStatus := stState } := by
  obtain ⟨u, d, refused, answered, rest⟩ := pcrReset_settles m
  rw [latch] at refused
  rw [pcrCtrlWord_refuses refused] at answered rest
  have pcr : (gmpWord h Addr.PCR_CTRL 1#32 1 (pcrCtrlWord 1#32) s).pcr = { s.pcr with ctrlStatus := stState } := by
    rw [rest.pcr rfl, updPcr_pcr, d.fol.pcr rfl]
  have run : exec (.pcrReset h) s = .next (gmpWord h Addr.PCR_CTRL 1#32 1 (pcrCtrlWord 1#32) s) := by
    show Host.Outcome.next (pcrFinish (gmpWord h Addr.PCR_CTRL 1#32 1 (pcrCtrlWord 1#32) s)) = _
    rw [pcrFinish, pcr]
    dsimp only
    rw [calm]
  exact ⟨_, run, answered, pcr⟩

end Request

/-- Settles O55: a source of reset is the device reset under its cause, and the SAFE bay's rails are its fault alone. -/
theorem resetSourcesAct : Obligations.ResetSourcesAct := by
  intro s
  refine ⟨fun c k source => ?_, execWatchdog_resets, execWatchdog_idle, execAonPowerOn_resets s,
    fun _ _ => ⟨_, rfl, rfl, rfl⟩, fun _ _ _ low high running => execRailTrip_resets ⟨low, high⟩ running,
    fun _ _ _ low high running => execRailTrip_faults ⟨low, high⟩ running, fun _ known => execRailGlitch_shows known,
    execResetRelease_releases, execResetRelease_idle, fun _ _ m => ⟨execPcrReset_resets m, execPcrReset_refuses m⟩⟩
  obtain ⟨u, run, pcr, phase, out, warm⟩ := source_is_resetBy source s
  obtain ⟨resets, stays⟩ := resetBy_resets warm pcr phase out
  refine ⟨fun running => ⟨_, run, ?_⟩, fun standby => ⟨u, by rw [run, stays standby], phase.trans standby, pcr.jr rfl, out⟩⟩
  obtain ⟨phase, cause, jr, gmp, latch, permit, fuses, slots, hdr, fw, primer, op, pcycle, out⟩ := resets running
  exact ⟨phase, cause, jr, gmp, latch, permit, fuses, slots, hdr, fw, primer, op, pcycle, out⟩

end Sys2Proof.Machine

/-!
Sessions (17_host R428 to R431): a handshake loads the session key, which leaves the sessions and what they hold.
-/

namespace Sys2Proof.Machine

open Sys2Proof

section Sessions

variable {s : State} {bytes : List Nat} {k n : Nat}

/-- A session that is closed is gone, and every other stays. -/
theorem session_closeSess (k : Nat) (s : State) (j : Nat) : session (closeSess k s) j = if j = k then none else session s j := by
  rw [session, closeSess, (freeRing_fol (kc := { jr := true }) rfl (.refl _ _)).gmp rfl]
  exact kfind_kdel

theorem closeSess_closes (k : Nat) (s : State) :
    session (closeSess k s) k = none ∧ ∀ j, j ≠ k → session (closeSess k s) j = session s j :=
  ⟨(session_closeSess k s k).trans (if_pos rfl), fun j other => (session_closeSess k s j).trans (if_neg other)⟩

/-- The session key's slot is a matter of the keys. -/
theorem loadSystem_only (id : Nat) (s : State) : Follows { regs := true, key := true } s (loadSystem id s) :=
  loadSystem_fol rfl rfl (.refl _ s)

/-- A refused handshake is answered with an alert. -/
theorem hsFail_gives (c : Nat) (s : State) : (hsFail c s).out = s.out ++ [.alert] ∧ (hsFail c s).gmp = s.gmp ∧
    cfg (hsFail c s) (Addr.NET_CNT + 4 * c) 31 0 = min (2 ^ 32 - 1) (cfg s (Addr.NET_CNT + 4 * c) 31 0 + 1) := by
  have given : Follows {} (bump (Addr.NET_CNT + 4 * c) s) (hsFail c s) := emit_only _ _
  refine ⟨?_, ?_, ?_⟩
  · rw [hsFail, emit_out, bump_out]
  · rw [given.gmp rfl, (bump_fol (kc := { regs := true }) rfl (.refl _ s)).gmp rfl]
  · rw [given.cfg rfl, cfg_bump]

/-- The session that a finished handshake opens. -/
def openedSession (k suite port : Nat) (peer : Option Nat) (s : State) : Session := ⟨k, suite % 2, port, peer, s.time.op, 0, [], []⟩

/-- A handshake of an enabled identity with a good binder opens a session with the lowest free number. -/
theorem execClientHello_opens (up : unitUp s = true) (suite port : Nat) (peer : Option Nat) (who : identOf s bytes = some k)
    (own : sessOf s k = none) (free : freeSess s = some n) (ready : systemOk (loadSystem 3 s) 3 1 3 = true)
    (root : lcWorld (lcState (loadSystem 3 s)) = 1 → radioRootOk (loadSystem 3 s) = true) :
    ∃ t, exec (.clientHello bytes true suite port peer true) s = .next t ∧ session t n = some (openedSession k suite port peer s) := by
  have only := loadSystem_only 3 s
  have stillFree : freeSess (loadSystem 3 s) = some n := by
    rw [← free]
    simp only [freeSess, session, only.gmp rfl]
  have radio : (lcWorld (lcState (loadSystem 3 s)) == 1 && !radioRootOk (loadSystem 3 s)) = false := by
    by_cases world : lcWorld (lcState (loadSystem 3 s)) = 1
    · rw [root world, Bool.not_true, Bool.and_false]
    · rw [beq_eq_false_iff_ne.mpr world, Bool.false_and]
  have run : exec (.clientHello bytes true suite port peer true) s = .next (bump Addr.NET_CNT ((loadSystem 3 s).updGmp fun g =>
      { g with sess := kins g.sess n (openedSession k suite port peer (loadSystem 3 s)),
               handshake := g.handshake.filter (fun y => y != n) })) := by
    show execClientHello bytes true suite port peer true s = _
    simp only [execClientHello, up, who, own, free, ready, radio, stillFree, Option.bind_some, Option.isNone_some, Bool.false_eq_true,
      and_false, Bool.not_true, Bool.or_self, if_false]
    rfl
  refine ⟨_, run, ?_⟩
  rw [session, (bump_fol (kc := { regs := true }) rfl (.refl _ _)).gmp rfl, updGmp_gmp, openedSession, only.time rfl]
  exact kfind_kins.trans (if_pos rfl)

/-- A handshake whose binder fails is answered with an alert. -/
theorem execClientHello_refuses (up : unitUp s = true) (suite port : Nat) (peer : Option Nat) (fin : Bool)
    (who : identOf s bytes = some k) (free : freeSess s = some n) :
    ∃ t l, exec (.clientHello bytes false suite port peer fin) s = .next t ∧ t.out = s.out ++ l ++ [.alert] ∧ t.gmp = s.gmp := by
  have only := loadSystem_only 3 s
  obtain ⟨l, out⟩ := only.out
  obtain ⟨given, gmp, -⟩ := hsFail_gives 1 (loadSystem 3 s)
  have run : exec (.clientHello bytes false suite port peer fin) s = .next (hsFail 1 (loadSystem 3 s)) := by
    show execClientHello bytes false suite port peer fin s = _
    simp only [execClientHello, up, who, free, Option.isNone_some, Bool.false_eq_true, and_false, Bool.not_true, Bool.not_false,
      Bool.true_or, if_false, if_true]
  exact ⟨_, l, run, by rw [given, out], by rw [gmp, only.gmp rfl]⟩

/-- A handshake that finds no number free is answered with an alert, and counts in SESS_FULL. -/
theorem execClientHello_full (up : unitUp s = true) (binder : Bool) (suite port : Nat) (peer : Option Nat) (fin : Bool)
    (full : freeSess s = none) (holds : ∀ k, identOf s bytes = some k → sessOf s k = none) :
    ∃ t, exec (.clientHello bytes binder suite port peer fin) s = .next t ∧ t.out = s.out ++ [.alert] ∧ t.gmp = s.gmp ∧
      cfg t (Addr.NET_CNT + 8) 31 0 = min (2 ^ 32 - 1) (cfg s (Addr.NET_CNT + 8) 31 0 + 1) := by
  have own : (identOf s bytes).bind (sessOf s) = none := by
    cases who : identOf s bytes with
    | none => rfl
    | some k => exact holds k who
  refine ⟨hsFail 2 s, ?_, hsFail_gives 2 s⟩
  show execClientHello bytes binder suite port peer fin s = _
  simp only [execClientHello, up, own, full, Option.isNone_none, and_self, Bool.not_true, Bool.false_eq_true, if_false, if_true]

/-- A session that is idle for IDLE_TO is closed. -/
theorem execIdleTimeout_closes {x : Session} (isOpen : session s k = some x)
    (idle : x.lastAt + cfg s Addr.NET_GMP_CFG 9 0 * 1000000000 ≤ s.time.op) : exec (.idleTimeout k) s = .next (closeSess k s) := by
  show execIdleTimeout k s = _
  rw [execIdleTimeout, isOpen]
  exact if_pos idle

theorem execIdleTimeout_waits {x : Session} (isOpen : session s k = some x)
    (heard : s.time.op < x.lastAt + cfg s Addr.NET_GMP_CFG 9 0 * 1000000000) : exec (.idleTimeout k) s = .next s := by
  show execIdleTimeout k s = _
  rw [execIdleTimeout, isOpen]
  exact if_neg (Nat.not_le.mpr heard)

/-- A datagram that is not whole in time is dropped and counted. -/
theorem execFragmentReassemblyTimeout_drops {i : Nat} {e : Nat × Nat} (found : s.gmp.frags.find? (fun e => e.1 == i) = some e)
    (late : e.2 + 100000000 ≤ s.time.op) : ∃ t, exec (.fragmentReassemblyTimeout i) s = .next t ∧
      t.gmp.frags = s.gmp.frags.filter (fun y => y.1 != i) ∧
      cfg t (Addr.NET_CNT + 32) 31 0 = min (2 ^ 32 - 1) (cfg s (Addr.NET_CNT + 32) 31 0 + 1) := by
  refine ⟨bump (Addr.NET_CNT + 32) (s.updGmp fun g => { g with frags := g.frags.filter (fun x => x.1 != i) }), ?_, ?_, ?_⟩
  · show execFragmentReassemblyTimeout i s = _
    rw [execFragmentReassemblyTimeout, found]
    exact if_pos late
  · rw [(bump_fol (kc := { regs := true }) rfl (.refl _ _)).gmp rfl, updGmp_gmp]
  · rw [cfg_bump, cfg_updGmp]

end Sessions

/-- Settles O47: what a handshake loads leaves the sessions, and a close leaves every other. -/
theorem sessionsOpenAndClose : Obligations.SessionsOpenAndClose := fun s =>
  ⟨fun up => ⟨fun _ suite port peer _ _ who own free ready root =>
        let ⟨t, run, opened⟩ := execClientHello_opens up suite port peer who own free ready root
        ⟨t, _, run, opened, rfl, rfl, rfl, rfl, rfl⟩,
      fun _ suite port peer fin _ _ who free => execClientHello_refuses up suite port peer fin who free,
      fun _ binder suite port peer fin full holds => execClientHello_full up binder suite port peer fin full holds⟩,
    fun k => ⟨closeSess k s, rfl, closeSess_closes k s⟩,
    fun k _ isOpen idle => ⟨closeSess k s, execIdleTimeout_closes isOpen idle, closeSess_closes k s⟩,
    fun _ _ isOpen heard => execIdleTimeout_waits isOpen heard,
    fun _ _ found late => execFragmentReassemblyTimeout_drops found late⟩

end Sys2Proof.Machine

/-!
The log (20_event_recorder R489, R491 to R493; 17_host R439): the queue's head is taken without a change of what is stored.
-/

namespace Sys2Proof.Machine

open Sys2Proof

section Serve

variable {h : GmpHdr} {x : Session} {s : State} {typ right cls : Nat}

/-- A request that makes no entry and is admitted is served, on what its job and its session leave. -/
theorem gmpServe_open (r : GmpOpen h x s) (may : hasRight s x.ident right = true)
    (free : admitted s cls < cfgW s Addr.SCHED_CLASS_SEL cls Addr.SCHED_CLASS_CFG 30 20) :
    ∃ u, Follows { regs := true, gmp := true, sched := true, sess := true } s u ∧ u.out = s.out ∧ ∀ f,
      gmpServe h typ right cls f s = reply h.sess typ h.reqId (f x u).2.1 (f x u).2.2 (f x u).1 := by
  have seen := gmpSeen_like h s
  have room : admitted (gmpSeen h s) cls < cfgW (gmpSeen h s) Addr.SCHED_CLASS_SEL cls Addr.SCHED_CLASS_CFG 30 20 := by
    rw [admitted, cfgW, seen.forceW rfl, seen.sched rfl, seen.jr rfl]
    exact free
  obtain ⟨taken, only, -, -⟩ := admitTo_takes room
  have out : (gmpSeen h s).out = s.out := by
    unfold gmpSeen modSession
    split <;> rfl
  have given : (admitTo cls (gmpSeen h s)).1.out = (gmpSeen h s).out := by
    rw [admitTo, if_pos room]
    rfl
  refine ⟨bumpW Addr.SCHED_CLASS_SEL cls Addr.SCHED_CLASS_CNT_JOBS (admitTo cls (gmpSeen h s)).1, ?_, ?_, fun f => ?_⟩
  · exact bumpW_fol rfl ((seen.mono (by decide)).trans (only.mono (by decide)))
  · rw [bumpW, setForce_out, given, out]
  · rw [gmpServe, gmpPlain_open r may]
    simp only [taken, if_true]

/-- What a request is answered with, where its work gives nothing out. -/
theorem reply_answers {t : State} (out : t.out = s.out) (typ st : Nat) (body : List Nat) :
    Answered h typ st body s (reply h.sess typ h.reqId st body t) :=
  ⟨[_], by rw [reply, emit_out, out], List.mem_singleton_self _⟩

end Serve

section Log

variable {s t : State} {r : EvrRec}

/-- What is stored in the log, and how far. -/
structure SameLog (s t : State) : Prop where
  log : t.evr.log = s.evr.log
  total : t.evr.total = s.evr.total

theorem SameLog.trans {u : State} (a : SameLog s t) (b : SameLog t u) : SameLog s u := ⟨b.log.trans a.log, b.total.trans a.total⟩

theorem SameLog.of_follows {c : Touch} (f : Follows c s t) (evr : c.evr = false) : SameLog s t :=
  ⟨congrArg EvrS.log (f.evr evr), congrArg EvrS.total (f.evr evr)⟩

/-- A record taken from the queue is not stored yet. -/
theorem evrKick_log (n : Nat) (s : State) : SameLog s (evrKick n s) := by
  have alarmed (v : State) : SameLog v (alarm Addr.EVR_ALARM 1 v) :=
    .of_follows (c := { regs := true }) (alarm_fol rfl (.refl _ v)) rfl
  have counted (v : State) : SameLog v (bump Addr.EVR_CNT_DISCARDED v) :=
    .of_follows (c := { regs := true }) (bump_fol rfl (.refl _ v)) rfl
  induction n generalizing s with
  | zero => exact ⟨rfl, rfl⟩
  | succ n ih =>
    unfold evrKick
    split
    · exact ⟨rfl, rfl⟩
    · split
      · exact ⟨rfl, rfl⟩
      · split
        · exact SameLog.trans (SameLog.trans (t := s.updEvr _) ⟨rfl, rfl⟩ (counted _)) (ih _)
        · split
          · exact SameLog.trans (t := s.updEvr _) ⟨rfl, rfl⟩ (alarmed _)
          · exact ⟨rfl, rfl⟩

/-- An erase that begins has erased nothing yet, and writes no word. -/
theorem eraseBegin_log (s : State) : SameLog s (eraseBegin s) := by
  unfold eraseBegin
  split
  · exact ⟨rfl, rfl⟩
  · dsimp only
    split
    · exact SameLog.trans (t := s.updEvr _) ⟨rfl, rfl⟩ (.of_follows (c := { gmp := true, sess := true })
        (modSession_fol rfl rfl (reply_fol (.refl _ _))) rfl)
    · exact ⟨rfl, rfl⟩

theorem eraseBegin_only (s : State) : Follows { gmp := true, evr := true, sess := true } s (eraseBegin s) :=
  eraseBegin_fol rfl rfl rfl (.refl _ s)

/-- A write that both channels take leaves them. -/
theorem nvmWrite_takes (used : chanUsed s 0 = true) (off : Nat) : nvmWrite true true off s = (s, true) := by
  simp [nvmWrite, used]

/-- What follows a record: the erase that waited, and the next of the queue. -/
def logNext (s : State) : State := evrKick 17 (eraseBegin s)

theorem logNext_log (s : State) : SameLog s (logNext s) := (eraseBegin_log s).trans (evrKick_log 17 _)

/-- What follows a record counts a record discarded, and no other. -/
theorem logNext_words {P : Nat → Bool} (w : RecordWords P) (s : State) : Words P s (logNext s) :=
  w.evrKick (.of_follows (eraseBegin_only s) rfl) 17

/-- A record whose write and read-back hold is placed at TOTAL and counted. -/
theorem execRecordWritten_places (writing : s.evr.writing = some r) (used : chanUsed s 0 = true) :
    ∃ t, exec (.recordWritten true true true) s = .next t ∧ kfind t.evr.log s.evr.total = some (.valid r) ∧
      t.evr.total = s.evr.total + 1 ∧ cfg t Addr.EVR_CNT_WRITTEN 31 0 = min (2 ^ 32 - 1) (cfg s Addr.EVR_CNT_WRITTEN 31 0 + 1) := by
  obtain ⟨u, hu⟩ : ∃ u, u = notify 4 (fun _ => true) (.bytes 6 (evrWire r)) (bump Addr.EVR_CNT_WRITTEN (slotPut (.valid r) s)) := ⟨_, rfl⟩
  have told : SameLog (slotPut (.valid r) s) u := by
    rw [hu]
    exact .of_follows (c := { regs := true, gmp := true }) (notify_fol rfl rfl (bump_fol rfl (.refl _ _))) rfl
  have run : exec (.recordWritten true true true) s = .next (logNext u) := by
    show execRecordWritten true true true s = _
    simp only [execRecordWritten, writing, nvmWrite_takes used, Bool.and_self, if_true, ← hu]
    rfl
  have kept := told.trans (logNext_log u)
  have counted : cfg u Addr.EVR_CNT_WRITTEN 31 0 = min (2 ^ 32 - 1) (cfg s Addr.EVR_CNT_WRITTEN 31 0 + 1) := by
    have notified (v : State) : Words (otherWord (rkey Addr.EVR_CNT_WRITTEN)) v (notify 4 (fun _ => true) (.bytes 6 (evrWire r)) v) :=
      (notify_words _ _ _ v).mono fun k other => by
        have same : k = rkey Addr.EVR_CNT_WRITTEN := by simpa [otherWord] using other
        rw [same]; decide
    rw [hu, (notified _).cfg, cfg_bump, slotPut, cfg_updEvr]
  refine ⟨_, run, ?_, ?_, ?_⟩
  · rw [kept.log]
    exact kfind_kins.trans (if_pos rfl)
  · rw [kept.total]
    rfl
  · rw [(logNext_words ⟨by decide, by decide, by decide⟩ u).cfg, counted]

/-- The state that a record whose read-back differs leaves: a torn slot, shown and counted. -/
def tornPut (s : State) : State := bump Addr.EVR_CNT_TORN (alarm Addr.EVR_ALARM 2 (slotPut .torn s))

theorem tornPut_evr (s : State) : (tornPut s).evr =
    { s.evr with log := kins s.evr.log s.evr.total .torn, total := s.evr.total + 1, writing := none } :=
  (bump_fol (kc := { regs := true }) rfl (alarm_fol rfl (.refl _ (slotPut .torn s)))).evr rfl

/-- A record whose read-back differs leaves a torn slot and is written once more. -/
theorem execRecordWritten_repeats (writing : s.evr.writing = some r) (used : chanUsed s 0 = true) (again : s.evr.again = false)
    (room : s.evr.total + 2 < s.evr.cap) : ∃ t, exec (.recordWritten false true true) s = .next t ∧
      kfind t.evr.log s.evr.total = some .torn ∧ t.evr.total = s.evr.total + 1 ∧ t.evr.writing = some r ∧ t.evr.again = true ∧
      cfg t Addr.EVR_ALARM 2 2 = 1 ∧ cfg t Addr.EVR_CNT_TORN 31 0 = min (2 ^ 32 - 1) (cfg s Addr.EVR_CNT_TORN 31 0 + 1) := by
  have evr := tornPut_evr s
  have beyond : ¬ (tornPut s).evr.cap ≤ (tornPut s).evr.total := by rw [evr]; simp only; omega
  have inside : ¬ ((tornPut s).evr.total + 1 = (tornPut s).evr.cap ∧ r.trig ≠ 0x04) := by rw [evr]; simp only; omega
  have run : exec (.recordWritten false true true) s = .next ((tornPut s).updEvr fun e => { e with writing := some r, again := true }) := by
    show execRecordWritten false true true s = _
    simp only [execRecordWritten, writing, nvmWrite_takes used, again, Bool.false_and, Bool.false_eq_true, if_false]
    show Host.Outcome.next (rewrite r (tornPut s)) = _
    rw [rewrite, if_neg beyond, if_neg inside]
  have counted (v : State) : Words (otherWord (rkey Addr.EVR_ALARM)) v (bump Addr.EVR_CNT_TORN v) := bump_words (by decide) (.refl _ v)
  have shown (v : State) : Words (otherWord (rkey Addr.EVR_CNT_TORN)) v (alarm Addr.EVR_ALARM 2 v) := alarm_words (by decide) (.refl _ v)
  refine ⟨_, run, ?_, ?_, rfl, rfl, ?_, ?_⟩
  · rw [updEvr_evr, evr]
    exact kfind_kins.trans (if_pos rfl)
  · rw [updEvr_evr, evr]
  · rw [cfg_updEvr, tornPut, (counted _).cfg, cfg_alarm (by decide)]
  · rw [cfg_updEvr, tornPut, cfg_bump, (shown _).cfg, slotPut, cfg_updEvr]

/-- A record that fails twice is given up. -/
theorem execRecordWritten_givesUp (writing : s.evr.writing = some r) (used : chanUsed s 0 = true) (again : s.evr.again = true) :
    ∃ t, exec (.recordWritten false true true) s = .next t ∧ kfind t.evr.log s.evr.total = some .torn ∧
      t.evr.total = s.evr.total + 1 ∧
      cfg t Addr.EVR_CNT_WRITE_ERR 31 0 = min (2 ^ 32 - 1) (cfg s Addr.EVR_CNT_WRITE_ERR 31 0 + 1) := by
  have evr := tornPut_evr s
  have run : exec (.recordWritten false true true) s = .next (logNext (bump Addr.EVR_CNT_WRITE_ERR (tornPut s))) := by
    show execRecordWritten false true true s = _
    simp only [execRecordWritten, writing, nvmWrite_takes used, again, Bool.false_and, Bool.false_eq_true, if_false, if_true]
    rfl
  have kept : SameLog (tornPut s) (logNext (bump Addr.EVR_CNT_WRITE_ERR (tornPut s))) :=
    SameLog.trans (.of_follows (c := { regs := true }) (bump_fol rfl (.refl _ _)) rfl) (logNext_log _)
  have before : Words (otherWord (rkey Addr.EVR_CNT_WRITE_ERR)) (slotPut .torn s) (tornPut s) :=
    bump_words (by decide) (alarm_words (by decide) (.refl _ _))
  refine ⟨_, run, ?_, ?_, ?_⟩
  · rw [kept.log, evr]
    exact kfind_kins.trans (if_pos rfl)
  · rw [kept.total, evr]
  · rw [(logNext_words ⟨by decide, by decide, by decide⟩ _).cfg, cfg_bump, before.cfg, slotPut, cfg_updEvr]

end Log

section Requests

variable {h : GmpHdr} {x : Session} {s : State}

/-- LOG_READ is answered with what the log holds. -/
theorem execLogRead_answers (o : GmpOpen h x s) (right : hasRight s x.ident 0 = true)
    (free : admitted s 21 < cfgW s Addr.SCHED_CLASS_SEL 21 Addr.SCHED_CLASS_CFG 30 20) (first count : Nat) :
    ∃ u, u.evr = s.evr ∧ u.out = s.out ∧ exec (.logRead h first count 0) s =
      .next (reply h.sess 0x38 h.reqId (logRead first count 0 u).2.1 (logRead first count 0 u).2.2 (logRead first count 0 u).1) := by
  obtain ⟨u, fol, out, served⟩ := gmpServe_open (typ := 0x38) o right free
  exact ⟨u, fol.evr rfl, out, congrArg Host.Outcome.next (served fun _ => logRead first count 0)⟩

/-- One record is read as it is stored. -/
theorem execLogRead_reads (o : GmpOpen h x s) (right : hasRight s x.ident 0 = true)
    (free : admitted s 21 < cfgW s Addr.SCHED_CLASS_SEL 21 Addr.SCHED_CLASS_CFG 30 20) {i : Nat} {r : EvrRec} (stored : i < s.evr.total)
    (valid : kfind s.evr.log i = some (.valid r)) : ∃ t, exec (.logRead h i 1 0) s = .next t ∧
      Answered h 0x38 stOk (be 4 (i + 1) ++ be 4 s.evr.total ++ evrWire r) s t := by
  obtain ⟨u, evr, out, run⟩ := execLogRead_answers o right free i 1
  have one : min 1 (s.evr.total - i) = 1 := by omega
  have here : ¬ (1 = 0 ∨ s.evr.total ≤ i) := by omega
  have read : logRead i 1 0 u = (u.updFree (· + 256 * 1), stOk, be 4 (i + 1) ++ be 4 s.evr.total ++ evrWire r) := by
    have form : ¬ (0 ≠ 0 ∨ 15 < 1) := by decide
    have bytes : (List.range 1).flatMap (fun k => slotBytes u.free k (kfind u.evr.log (i + k))) = evrWire r := by
      show slotBytes u.free 0 (kfind u.evr.log i) ++ [] = _
      rw [List.append_nil, evr, valid, slotBytes]
    rw [logRead, if_neg form]
    dsimp only
    rw [evr, if_neg here, one, ← evr, bytes, evr]
  rw [read] at run
  exact ⟨_, run, reply_answers (t := u.updFree (· + 256 * 1)) out 0x38 stOk _⟩

/-- Nothing to read is answered OK_EMPTY. -/
theorem execLogRead_empty (o : GmpOpen h x s) (right : hasRight s x.ident 0 = true)
    (free : admitted s 21 < cfgW s Addr.SCHED_CLASS_SEL 21 Addr.SCHED_CLASS_CFG 30 20) {i n : Nat} (few : n ≤ 15)
    (empty : n = 0 ∨ s.evr.total ≤ i) :
    ∃ t, exec (.logRead h i n 0) s = .next t ∧ Answered h 0x38 stEmpty (be 4 i ++ be 4 s.evr.total) s t := by
  obtain ⟨u, evr, out, run⟩ := execLogRead_answers o right free i n
  have form : ¬ (0 ≠ 0 ∨ 15 < n) := by omega
  have read : logRead i n 0 u = (u, stEmpty, be 4 i ++ be 4 s.evr.total) := by
    simp only [logRead, form, evr, empty, if_false, if_true]
  rw [read] at run
  exact ⟨_, run, reply_answers out 0x38 stEmpty _⟩

/-- More than 15 records are refused. -/
theorem execLogRead_refuses (o : GmpOpen h x s) (right : hasRight s x.ident 0 = true)
    (free : admitted s 21 < cfgW s Addr.SCHED_CLASS_SEL 21 Addr.SCHED_CLASS_CFG 30 20) (i : Nat) {n : Nat} (many : 15 < n) :
    ∃ t, exec (.logRead h i n 0) s = .next t ∧ Answered h 0x38 stField [] s t := by
  obtain ⟨u, -, out, run⟩ := execLogRead_answers o right free i n
  have read : logRead i n 0 u = (u, stField, []) := by simp [logRead, many]
  rw [read] at run
  exact ⟨_, run, reply_answers out 0x38 stField _⟩

theorem modSession_out (k : Nat) (f : Session → Session) (s : State) : (modSession k f s).out = s.out := by
  unfold modSession
  split <;> rfl

theorem modSession_evr (k : Nat) (f : Session → Session) (s : State) : (modSession k f s).evr = s.evr := by
  unfold modSession
  split <;> rfl

/-- LOG_ERASE that is admitted waits, or is refused while another runs. -/
theorem execLogErase_eq (o : GmpOpen h x s) (right : hasRight s x.ident 8 = true) (n : Nat) :
    (s.evr.erasing ≠ none → exec (.logErase h n) s = .next (reply h.sess 0x39 h.reqId stBusy [] (gmpSeen h s))) ∧
    (s.evr.erasing = none → s.evr.eraseWait = none → ∃ v, v.evr = { s.evr with eraseWait := some (⟨h.sess, h.reqId, x.ident, 0⟩, n) } ∧
      v.out = s.out ∧ exec (.logErase h n) s = .next (if s.evr.writing.isSome then v else eraseBegin v)) := by
  have seen := gmpSeen_like h s
  have evr := seen.evr rfl
  have out : (gmpSeen h s).out = s.out := modSession_out _ _ s
  have may : hasRight (gmpSeen h s) x.ident 8 = true := by
    rw [hasRight, cfgW, seen.forceW rfl]
    exact right
  constructor
  · intro busy
    have erasing : (gmpSeen h s).evr.erasing.isSome = true := by rw [evr]; exact Option.isSome_iff_ne_none.mpr busy
    show execLogErase h n s = _
    simp only [execLogErase, gmpIntake_open o, may, erasing, Bool.not_true, Bool.false_eq_true, if_false, Bool.true_or, if_true]
  · intro erasing wait
    obtain ⟨v, hv⟩ : ∃ v, v = modSession h.sess (fun y => { y with outstanding := y.outstanding + 1 })
        ((gmpSeen h s).updEvr fun e => { e with eraseWait := some (⟨h.sess, h.reqId, x.ident, 0⟩, n) }) := ⟨_, rfl⟩
    have after : v.evr = { s.evr with eraseWait := some (⟨h.sess, h.reqId, x.ident, 0⟩, n) } := by
      rw [hv, modSession_evr, updEvr_evr, evr]
    refine ⟨v, after, by rw [hv, modSession_out, updEvr_out, out], ?_⟩
    have writing : v.evr.writing = s.evr.writing := by rw [after]
    show execLogErase h n s = _
    simp only [execLogErase, gmpIntake_open o, may, evr, erasing, wait, Bool.not_true, Bool.false_eq_true, if_false,
      Option.isSome_none, Bool.or_self, ← hv, writing]

end Requests

section Erase

variable {h : GmpHdr} {x : Session} {s : State}

/-- LOG_ERASE with the TOTAL that stands begins the erase. -/
theorem execLogErase_begins (o : GmpOpen h x s) (right : hasRight s x.ident 8 = true) (erasing : s.evr.erasing = none)
    (wait : s.evr.eraseWait = none) (writing : s.evr.writing = none) : ∃ t, exec (.logErase h s.evr.total) s = .next t ∧
      t.evr.erasing = some ⟨h.sess, h.reqId, x.ident, s.evr.total⟩ ∧ t.out = s.out := by
  obtain ⟨v, evr, out, run⟩ := (execLogErase_eq o right s.evr.total).2 erasing wait
  have same : ¬ s.evr.total ≠ s.evr.total := not_not.mpr rfl
  rw [writing] at run
  refine ⟨eraseBegin v, run, ?_⟩
  simp only [eraseBegin, evr, same, if_false]
  exact ⟨rfl, out⟩

/-- LOG_ERASE with another TOTAL is answered ERR_STALE. -/
theorem execLogErase_stale (o : GmpOpen h x s) (right : hasRight s x.ident 8 = true) (erasing : s.evr.erasing = none)
    (wait : s.evr.eraseWait = none) {n : Nat} (writing : s.evr.writing = none) (other : n ≠ s.evr.total) :
    ∃ t, exec (.logErase h n) s = .next t ∧ Answered h 0x39 stStale [] s t ∧ t.evr.erasing = none := by
  obtain ⟨v, evr, out, run⟩ := (execLogErase_eq o right n).2 erasing wait
  rw [writing] at run
  refine ⟨eraseBegin v, run, ?_⟩
  simp only [eraseBegin, evr, other, ne_eq, not_false_eq_true, if_true]
  refine ⟨⟨[_], ?_, List.mem_singleton_self _⟩, ?_⟩
  · rw [modSession_out, reply, emit_out, updEvr_out, out]
  · rw [modSession_evr, reply, (emit_only _ _).evr rfl, updEvr_evr, evr]
    exact erasing

/-- LOG_ERASE waits for the write in progress. -/
theorem execLogErase_waits (o : GmpOpen h x s) (right : hasRight s x.ident 8 = true) (erasing : s.evr.erasing = none)
    (wait : s.evr.eraseWait = none) {n : Nat} (writing : s.evr.writing ≠ none) : ∃ t, exec (.logErase h n) s = .next t ∧
      t.evr.eraseWait = some (⟨h.sess, h.reqId, x.ident, 0⟩, n) ∧ t.out = s.out := by
  obtain ⟨v, evr, out, run⟩ := (execLogErase_eq o right n).2 erasing wait
  rw [if_pos (Option.isSome_iff_ne_none.mpr writing)] at run
  exact ⟨v, run, by rw [evr], out⟩

/-- LOG_ERASE while another runs is answered ERR_BUSY. -/
theorem execLogErase_busy (o : GmpOpen h x s) (right : hasRight s x.ident 8 = true) {n : Nat} (erasing : s.evr.erasing ≠ none) :
    ∃ t, exec (.logErase h n) s = .next t ∧ Answered h 0x39 stBusy [] s t ∧ t.evr = s.evr :=
  ⟨_, (execLogErase_eq o right n).1 erasing, reply_answers (modSession_out _ _ s) 0x39 stBusy [],
    ((emit_only _ _).evr rfl).trans ((gmpSeen_like h s).evr rfl)⟩

/-- The log once its region is erased, with the record that says so at the head of the queue. -/
def logErased (r : EvrRec) (s : State) : State :=
  s.updEvr fun e => { e with
    log := [], total := 0, full := false, erasing := none, queue := r :: e.queue, seq := e.seq + 1, lost := 0, prevSt := some (now s),
    setSince := false }

/-- The erased log is empty, and LOG_ERASED is its first record. -/
theorem execLogEraseDone_empties {j : EraseJob} {y : Session} (erasing : s.evr.erasing = some j) (writing : s.evr.writing = none)
    (logOk : s.evr.logOk = true) (cap : 1 < s.evr.cap) (isOpen : session s j.sess = some y) (ident : y.ident = j.ident) :
    ∃ t r, exec .logEraseDone s = .next t ∧ t.evr.log = [] ∧ t.evr.total = 0 ∧ t.evr.erasing = none ∧ t.evr.writing = some r ∧
      r.trig = 3 ∧ r.detail = [j.ident] ++ be 4 j.before ∧ t.out = s.out ++ [.gmp j.sess 0x39 j.reqId stOk []] := by
  obtain ⟨r, hr⟩ : ∃ r, r = evrCapture 0x03 ([j.ident] ++ be 4 j.before) s := ⟨_, rfl⟩
  have room : ¬ s.evr.cap ≤ 0 := by omega
  have more : ¬ 0 + 1 = s.evr.cap := by omega
  obtain ⟨u, hu⟩ : ∃ u, u = (logErased r s).updEvr fun e => { e with queue := s.evr.queue, writing := some r, again := false } :=
    ⟨_, rfl⟩
  have kicked : evrKick 17 (logErased r s) = u := by
    have evr : (logErased r s).evr = { s.evr with
        log := [], total := 0, full := false, erasing := none, queue := r :: s.evr.queue, seq := s.evr.seq + 1, lost := 0,
        prevSt := some (now s), setSince := false } := rfl
    simp only [evrKick, evr, writing, logOk, room, more, Option.isSome_none, Bool.not_true, Bool.or_self, Bool.false_eq_true, if_false]
    rw [hu]
  have same : session u j.sess = some y := by rw [hu]; exact isOpen
  have run : exec .logEraseDone s = .next (modSession j.sess (fun y => { y with outstanding := y.outstanding - 1 })
      (reply j.sess 0x39 j.reqId stOk [] u)) := by
    show execLogEraseDone s = _
    unfold execLogEraseDone
    rw [erasing]
    dsimp only
    rw [← hr, ← logErased, kicked, same]
    exact congrArg Host.Outcome.next (if_pos ident)
  refine ⟨_, r, run, ?_⟩
  rw [modSession_evr, modSession_out, reply, emit_out, (emit_only _ _).evr rfl, hu]
  exact ⟨rfl, rfl, rfl, rfl, by rw [hr]; rfl, by rw [hr]; rfl, rfl⟩

end Erase

/-- Settles O49: neither the queue nor an erase that begins touches what is stored, and a read takes nothing out. -/
theorem recordsAreWrittenReadAndErased : Obligations.RecordsAreWrittenReadAndErased := fun _ =>
  ⟨fun _ writing used => ⟨execRecordWritten_places writing used, fun again room => execRecordWritten_repeats writing used again room,
      fun again => execRecordWritten_givesUp writing used again⟩,
    fun _ _ o right free => ⟨fun _ _ stored valid => execLogRead_reads o right free stored valid,
      fun _ _ few empty => execLogRead_empty o right free few empty, fun i _ many => execLogRead_refuses o right free i many⟩,
    fun _ _ o right => ⟨fun erasing wait => ⟨fun writing => execLogErase_begins o right erasing wait writing,
        fun _ writing other => execLogErase_stale o right erasing wait writing other,
        fun _ writing => execLogErase_waits o right erasing wait writing⟩,
      fun _ erasing => execLogErase_busy o right erasing⟩,
    fun _ _ erasing writing logOk cap isOpen ident => execLogEraseDone_empties erasing writing logOk cap isOpen ident⟩

end Sys2Proof.Machine

/-!
Update messages (19_firmware R473, R478, R479): each is served on the memory and the transfer that its session leaves.
-/

namespace Sys2Proof.Machine

open Sys2Proof

section Message

variable {h : GmpHdr} {x : Session} {s u : State} {typ : Nat} {f : State → State × (Nat × List Nat)} {c : Touch}

/-- An update message is answered with what its work gives, and LAST_STATUS keeps the status. -/
theorem updMsg_answers (o : GmpOpen h x s) (right : hasRight s x.ident 7 = true) (acts : Follows c (gmpSeen h s) (f (gmpSeen h s)).1) :
    Answered h typ (f (gmpSeen h s)).2.1 (f (gmpSeen h s)).2.2 s (updMsg h typ f s) ∧
      Follows {} ((f (gmpSeen h s)).1.updUpd fun u => { u with lastStatus := (f (gmpSeen h s)).2.1 }) (updMsg h typ f s) := by
  obtain ⟨l, out⟩ := (gmpSeen_like h s).out.trans acts.out
  rw [updMsg, gmpPlain_open o right]
  refine ⟨⟨l ++ [_], ?_, List.mem_append_right _ (List.mem_singleton_self _)⟩, emit_only _ _⟩
  rw [reply, emit_out, updUpd_out, ← List.append_assoc, out]

/-- What the work of an update message is served on: the parts beside the sessions. -/
theorem gmpSeen_upd (h : GmpHdr) (s : State) : (gmpSeen h s).upd = s.upd := (gmpSeen_like h s).upd rfl

theorem gmpSeen_nvm (h : GmpHdr) (s : State) : (gmpSeen h s).nvm = s.nvm := (gmpSeen_like h s).nvm rfl

/-- A slot of the firmware is a matter of the memory. -/
theorem fwSlot_congr (nvm : u.nvm = s.nvm) (i : Nat) : fwSlot u i = fwSlot s i := by rw [fwSlot, fwSlot, nvm]

theorem hdrNow_congr (nvm : u.nvm = s.nvm) : hdrNow u = hdrNow s := by rw [hdrNow, hdrNow, nvm]

theorem regionLen_congr (nvm : u.nvm = s.nvm) (id : Nat) : regionLen u id = regionLen s id := by
  rw [regionLen, regionLen, hdrNow_congr nvm]

theorem chanUsed_congr (nvm : u.nvm = s.nvm) (i : Nat) : chanUsed u i = chanUsed s i := by rw [chanUsed, chanUsed, nvm]

end Message

section Header

variable {s : State} {c : HdrCopy}

/-- The header with its next generation, in force in the other copy. -/
def hdrPut (x : HdrCopy) (s : State) : State := s.updNvm fun n => { n with
  flash := { n.flash with hdr := lset n.flash.hdr (otherSlot n.hdrCopy) (.copy x) }, hdrCopy := otherSlot n.hdrCopy, hdrGen := x.gen }

/-- A header that a channel takes is in force. -/
theorem hdrWrite_takes (used : chanUsed s 0 = true) (now : hdrNow s = some c) (f : HdrCopy → HdrCopy) :
    hdrWrite true true f s = (hdrPut { f c with gen := c.gen + 1 } s, true) := by
  rw [hdrWrite, now]
  dsimp only
  rw [nvmWrite_takes used]
  rfl

/-- What is written into the other copy stands there. -/
theorem hdrPut_stands (room : otherSlot s.nvm.hdrCopy < s.nvm.flash.hdr.length) (x : HdrCopy) :
    (hdrPut x s).nvm.flash.hdr.getD (otherSlot s.nvm.hdrCopy) .blank = .copy x := by
  show (lset s.nvm.flash.hdr (otherSlot s.nvm.hdrCopy) (.copy x)).getD _ _ = _
  rw [lset_eq_set, List.getD_eq_getElem?_getD, List.getElem?_set_self room]
  rfl

theorem hdrNow_hdrPut (room : otherSlot s.nvm.hdrCopy < s.nvm.flash.hdr.length) (x : HdrCopy) : hdrNow (hdrPut x s) = some x := by
  have stands := hdrPut_stands room x
  rw [hdrNow]
  show (match (hdrPut x s).nvm.flash.hdr.getD (otherSlot s.nvm.hdrCopy) .blank with
    | .copy h => some h
    | _ => none) = _
  rw [stands]

end Header

section Trial

variable {h : GmpHdr} {x : Session} {s : State}

/-- CONFIRM without a trial is answered OK_EMPTY. -/
theorem execUpdConfirm_empty (o : GmpOpen h x s) (right : hasRight s x.ident 7 = true) (trial : s.upd.trial = false) :
    ∃ t, exec (.updConfirm h true true) s = .next t ∧ Answered h 0x45 stEmpty [] s t ∧ t.nvm = s.nvm := by
  have empty : updConfirm true true (gmpSeen h s) = (gmpSeen h s, stEmpty, []) := by
    simp [updConfirm, gmpSeen_upd, trial]
  obtain ⟨answered, rest⟩ := updMsg_answers (typ := 0x45) (f := updConfirm true true) (c := {}) o right
    (by rw [empty]; exact .refl _ _)
  rw [empty] at answered rest
  exact ⟨_, rfl, answered, by rw [rest.nvm rfl, updUpd_nvm, gmpSeen_nvm]⟩

/-- The trial of the slot in force, confirmed in the header. -/
theorem updConfirm_confirms {c : HdrCopy} (trial : s.upd.trial = true) (used : chanUsed s 0 = true) (now : hdrNow s = some c) :
    updConfirm true true s =
      ((hdrPut { c with confirmed := s.nvm.fwSlot, trial := 0xFF, trialState := 0, gen := c.gen + 1 } s).updUpd fun u =>
        { u with trial := false, trialFrom := none }, stOk, []) := by
  rw [updConfirm, trial]
  dsimp only
  rw [if_neg (by decide), hdrWrite_takes used now]
  rfl

/-- CONFIRM makes the slot on trial the confirmed one. -/
theorem execUpdConfirm_confirms {c : HdrCopy} (o : GmpOpen h x s) (right : hasRight s x.ident 7 = true) (trial : s.upd.trial = true)
    (used : chanUsed s 0 = true) (now : hdrNow s = some c) (room : otherSlot s.nvm.hdrCopy < s.nvm.flash.hdr.length) :
    ∃ t, exec (.updConfirm h true true) s = .next t ∧ Answered h 0x45 stOk [] s t ∧ t.upd.trial = false ∧
      hdrNow t = some { c with confirmed := s.nvm.fwSlot, trial := 0xFF, trialState := 0, gen := c.gen + 1 } := by
  have nvm := gmpSeen_nvm h s
  have confirms := updConfirm_confirms (s := gmpSeen h s) (by rw [gmpSeen_upd, trial]) (by rw [chanUsed_congr nvm, used])
    (by rw [hdrNow_congr nvm, now])
  obtain ⟨answered, rest⟩ := updMsg_answers (typ := 0x45) (f := updConfirm true true)
    (c := { regs := true, evr := true, nvm := true, upd := true }) o right (updConfirm_fol rfl rfl rfl rfl (.refl _ _))
  rw [confirms] at answered rest
  refine ⟨_, rfl, answered, by rw [rest.upd rfl]; rfl, ?_⟩
  rw [hdrNow_congr (rest.nvm rfl), ← nvm]
  exact hdrNow_hdrPut (s := gmpSeen h s) (by rw [nvm]; exact room) _

/-- UPD_INFO shows both slots. -/
theorem execUpdInfo_shows (o : GmpOpen h x s) (right : hasRight s x.ident 7 = true) (good : Bool) :
    ∃ t, exec (.updInfo h good) s = .next t ∧ Answered h 0x47 stOk
      ((fwBytes (fwSlot s 0) 12 14 ++ [slotState good s 0, 0]) ++ (fwBytes (fwSlot s 1) 12 14 ++ [slotState good s 1, 0])) s t := by
  have nvm := gmpSeen_nvm h s
  have state (i : Nat) : slotState good (gmpSeen h s) i = slotState good s i := by
    rw [slotState, slotState, fwSlot_congr nvm, regionLen_congr nvm, gmpSeen_upd, nvm, (gmpSeen_like h s).part]
  obtain ⟨answered, -⟩ := updMsg_answers (typ := 0x47) (c := {}) (f := fun t =>
    let info (i : Nat) := fwBytes (fwSlot t i) 12 14 ++ [slotState good t i, 0]
    (t, (stOk, info 0 ++ info 1))) o right (.refl _ _)
  simp only [fwSlot_congr nvm, state] at answered
  exact ⟨_, rfl, answered⟩

/-- The records that wait are written before a device resets itself, and nothing beside them changes. -/
theorem evrDrain_only (n : Nat) (s : State) : Follows { regs := true, evr := true } s (evrDrain n s) := evrDrain_fol rfl rfl (.refl _ s)

/-- A trial that TRIAL_T passes unconfirmed resets the device. -/
theorem execTrialTimeout_resets {a : Nat} (from_ : s.upd.trialFrom = some a) (trial : s.upd.trial = true) :
    ∃ t, exec .trialTimeout s = .next t ∧ t.pcr.phase = .held ∧ t.pcr.cause = 7 ∧
      t.time.op = max s.time.op (a + cfg s Addr.UPD_CFG 19 0 * 1000000000) := by
  obtain ⟨n, hn⟩ : ∃ n, n = a + cfg s Addr.UPD_CFG 19 0 * 1000000000 := ⟨_, rfl⟩
  have run : exec .trialTimeout s = .next (selfReset (evTrig 0x0B [s.nvm.fwSlot, 1] (advOp n s))) := by
    show execTrialTimeout s = _
    rw [execTrialTimeout, from_]
    dsimp only
    rw [if_pos trial, hn]
  refine ⟨_, run, rfl, rfl, ?_⟩
  have recorded : Follows { regs := true, evr := true } (advOp n s) (evrDrain 18 (evTrig 0x0B [s.nvm.fwSlot, 1] (advOp n s))) :=
    (evTrig_fol (kc := { regs := true, evr := true }) rfl rfl (.refl _ _)).trans (evrDrain_only 18 _)
  rw [selfReset, (deviceReset_resets (by decide) 0 _).op, recorded.time rfl, advOp_op, hn]

/-- Without a trial nothing runs out. -/
theorem execTrialTimeout_idle {a : Nat} (from_ : s.upd.trialFrom = some a) (trial : s.upd.trial = false) :
    exec .trialTimeout s = .next s := by
  show execTrialTimeout s = _
  simp [execTrialTimeout, from_, trial]

end Trial

/-- Settles O51: the header is written into the copy that is not in force, and is then the one that is. -/
theorem trialsAreConfirmedOrFallBack : Obligations.TrialsAreConfirmedOrFallBack := fun _ =>
  ⟨fun _ _ o right => ⟨fun trial => execUpdConfirm_empty o right trial,
      fun _ trial used now room => execUpdConfirm_confirms o right trial used now room, fun good => execUpdInfo_shows o right good⟩,
    fun _ from_ trial => execTrialTimeout_resets from_ trial, fun _ from_ trial => execTrialTimeout_idle from_ trial⟩

end Sys2Proof.Machine

/-!
A transfer (19_firmware R473 to R477): a block that is kept stands in the slot that does not run, and an activation resets.
-/

namespace Sys2Proof.Machine

open Sys2Proof

section Slot

variable {s u : State}

theorem updSlot_congr (nvm : u.nvm = s.nvm) : updSlot u = updSlot s := by rw [updSlot, updSlot, nvm]

theorem regionOff_congr (nvm : u.nvm = s.nvm) (id : Nat) : regionOff u id = regionOff s id := by rw [regionOff, regionOff, nvm]

theorem updBlocks_congr (nvm : u.nvm = s.nvm) (st : u.upd.st = .idle ↔ s.upd.st = .idle) : updBlocks u = updBlocks s := by
  simp only [updBlocks, nvm, st]

theorem updMissing_congr (nvm : u.nvm = s.nvm) (upd : u.upd = s.upd) : updMissing u = updMissing s := by
  rw [updMissing, updMissing, updCount, updCount, updBlocks_congr nvm (by rw [upd]), upd]

/-- A slot that is changed. -/
theorem fwSlot_modFw {i : Nat} (known : i < s.nvm.flash.fw.length) (f : FwSlot → FwSlot) :
    fwSlot (modFw i f s) i = f (fwSlot s i) := by
  show (lmod s.nvm.flash.fw i f).getD i _ = f (s.nvm.flash.fw.getD i _)
  rw [lmod_eq_modify, List.getD_eq_getElem?_getD, List.getD_eq_getElem?_getD, List.getElem?_modify_eq, List.getElem?_eq_getElem known]
  rfl

/-- Outside IDLE the blocks of a transfer are those of the slot that does not run. -/
theorem updBlocks_slot (known : updSlot s < s.nvm.flash.fw.length) (busy : s.upd.st ≠ .idle) :
    updBlocks s = (fwSlot s (updSlot s)).blocks := by
  rw [updBlocks, if_neg busy, fwSlot]
  show (s.nvm.flash.fw.getD (updSlot s) _).blocks = _
  rw [List.getD_eq_getElem?_getD, List.getD_eq_getElem?_getD, List.getElem?_eq_getElem known]
  rfl

end Slot

section Transfer

variable {h : GmpHdr} {x : Session} {s : State}

/-! UPD_BEGIN (R474). -/

/-- The state of a transfer that begins. -/
def updBegun (target len : Nat) (s : State) : State :=
  modFw (updSlot s) (fun _ => ⟨[], true⟩) (s.updUpd fun u => { u with st := .erasing, target := target, length := len })

theorem updBegin_begins {target len : Nat} (which : 1 ≤ target ∧ target ≤ 2) (long : 32 ≤ len) (trial : s.upd.trial = false)
    (fits : len ≤ regionLen s (1 + updSlot s)) :
    (s.upd.st ≠ .erasing → s.upd.st ≠ .receiving → updBegin target len s = (updBegun target len s, stOk, [])) ∧
    (s.upd.st = .receiving → updBegin target len s = (s, stBusy, [])) := by
  have form : (!within 1 2 target || decide (len < 32)) = false := by
    simp only [within, Bool.or_eq_false_iff, Bool.not_eq_false', decide_eq_true_eq, decide_eq_false_iff_not]
    omega
  have room : decide (regionLen s (1 + updSlot s) < len) = false := decide_eq_false (Nat.not_lt.mpr fits)
  constructor
  · intro erasing receiving
    have free : (s.upd.st == .erasing || s.upd.st == .receiving) = false := by
      rw [Bool.or_eq_false_iff]
      exact ⟨beq_eq_false_iff_ne.mpr erasing, beq_eq_false_iff_ne.mpr receiving⟩
    simp only [updBegin, form, trial, room, free, firstErr, ne_eq, not_true_eq_false, if_false]
    rfl
  · intro receiving
    have busy : (s.upd.st == .erasing || s.upd.st == .receiving) = true := by rw [receiving]; rfl
    have error : ¬ stBusy = stOk := by decide
    simp only [updBegin, form, trial, room, busy, firstErr, if_true, ne_eq, error, not_false_eq_true]

theorem execUpdBegin_begins {target len : Nat} (o : GmpOpen h x s) (right : hasRight s x.ident 7 = true)
    (known : updSlot s < s.nvm.flash.fw.length) (which : 1 ≤ target ∧ target ≤ 2) (long : 32 ≤ len) (trial : s.upd.trial = false)
    (fits : len ≤ regionLen s (1 + updSlot s)) :
    (s.upd.st ≠ .erasing → s.upd.st ≠ .receiving → ∃ t, exec (.updBegin h target len) s = .next t ∧ Answered h 0x40 stOk [] s t ∧
      t.upd.st = .erasing ∧ t.upd.target = target ∧ t.upd.length = len ∧ t.upd.lastStatus = stOk ∧ fwSlot t (updSlot s) = ⟨[], true⟩) ∧
    (s.upd.st = .receiving → ∃ t, exec (.updBegin h target len) s = .next t ∧ Answered h 0x40 stBusy [] s t ∧
      t.upd.st = .receiving ∧ t.nvm = s.nvm) := by
  have nvm := gmpSeen_nvm h s
  have upd := gmpSeen_upd h s
  have served := updBegin_begins (s := gmpSeen h s) which long (by rw [upd, trial]) (by rw [regionLen_congr nvm, updSlot_congr nvm]; exact fits)
  rw [upd] at served
  obtain ⟨answered, rest⟩ := updMsg_answers (typ := 0x40) (f := updBegin target len) (c := { nvm := true, upd := true }) o right
    (updBegin_fol rfl rfl (.refl _ _))
  constructor
  · intro erasing receiving
    rw [served.1 erasing receiving] at answered rest
    refine ⟨_, rfl, answered, ?_⟩
    rw [rest.upd rfl, fwSlot_congr (rest.nvm rfl)]
    refine ⟨rfl, rfl, rfl, rfl, ?_⟩
    rw [← updSlot_congr nvm] at known ⊢
    rw [← nvm] at known
    exact fwSlot_modFw (s := (gmpSeen h s).updUpd _) known _
  · intro receiving
    rw [served.2 receiving] at answered rest
    refine ⟨_, rfl, answered, ?_, by rw [rest.nvm rfl, updUpd_nvm, nvm]⟩
    rw [rest.upd rfl, updUpd_upd, upd, receiving]

/-! The erase (R474). -/

theorem execUpdEraseDone_erases (known : updSlot s < s.nvm.flash.fw.length) (erasing : s.upd.st = .erasing)
    (used : chanUsed s 0 = true) :
    ∃ t, exec (.updEraseDone true true) s = .next t ∧ t.upd.st = .receiving ∧ fwSlot t (updSlot s) = ⟨[], false⟩ := by
  refine ⟨modFw (updSlot s) (fun _ => ⟨[], false⟩) (s.updUpd fun u => { u with st := .receiving }), ?_, rfl, fwSlot_modFw known _⟩
  show execUpdEraseDone true true s = _
  rw [execUpdEraseDone, if_neg (not_not.mpr erasing)]
  dsimp only
  rw [nvmWrite_takes used]
  rfl

theorem execUpdEraseDone_fails (erasing : s.upd.st = .erasing) :
    ∃ t, exec (.updEraseDone false false) s = .next t ∧ t.upd.st = .failed := by
  obtain ⟨fails, -⟩ := nvmWrite_faults (regionOff s (1 + updSlot s)) s
  refine ⟨(nvmWrite false false (regionOff s (1 + updSlot s)) s).1.updUpd fun u => { u with st := .failed }, ?_, rfl⟩
  show execUpdEraseDone false false s = _
  rw [execUpdEraseDone, if_neg (not_not.mpr erasing)]
  dsimp only
  rw [fails]
  rfl

/-! Blocks (R475). -/

/-- A block of the form of R475, in a transfer that receives, is kept once, or compared with what is kept. -/
theorem updBlock_receives {b : UpdBlockIn} (receiving : s.upd.st = .receiving) (form : blockForm s b = true) :
    updBlock b s = if crc32c b.data ≠ b.crc then (bump Addr.UPD_CNT_CRC s, stCheck, []) else blockStore b s := by
  simp only [updBlock, form, receiving, Bool.not_true, Bool.false_eq_true, if_false, reduceCtorEq, ne_eq, not_true_eq_false, false_and]

/-- The state that keeps a block. -/
def blockKept (b : UpdBlockIn) (s : State) : State :=
  bump Addr.UPD_CNT_BLOCK (modFw (updSlot s) (fun x => { x with blocks := kins x.blocks (b.offset / 2048) b.data }) s)

theorem blockStore_keeps {off n crc : Nat} {d : List Nat} (new : kfind (updBlocks s) (off / 2048) = none) (used : chanUsed s 0 = true) :
    blockStore ⟨off, n, crc, d, true, true, true⟩ s = (blockKept ⟨off, n, crc, d, true, true, true⟩ s, stOk, []) := by
  simp only [blockStore, new, nvmWrite_takes used, Bool.and_self, if_true]
  rfl

/-- The blocks once one is kept. -/
theorem updBlocks_blockKept {b : UpdBlockIn} (known : updSlot s < s.nvm.flash.fw.length) (busy : s.upd.st ≠ .idle) :
    kfind (updBlocks (blockKept b s)) (b.offset / 2048) = some b.data ∧ (blockKept b s).upd = s.upd := by
  have counted : Follows { regs := true } (modFw (updSlot s) (fun x => { x with blocks := kins x.blocks (b.offset / 2048) b.data }) s)
      (blockKept b s) := bump_fol rfl (.refl _ _)
  have upd : (blockKept b s).upd = s.upd := (counted.upd rfl).trans rfl
  have same : updSlot (modFw (updSlot s) (fun x => { x with blocks := kins x.blocks (b.offset / 2048) b.data }) s) = updSlot s := rfl
  refine ⟨?_, upd⟩
  rw [updBlocks_congr (counted.nvm rfl) (by rw [counted.upd rfl]), updBlocks_slot, same, fwSlot_modFw known]
  · exact kfind_kins.trans (if_pos rfl)
  · rw [same]
    show _ < (lmod s.nvm.flash.fw _ _).length
    rw [lmod_eq_modify, List.length_modify]
    exact known
  · exact busy

/-- A block that is kept already is compared. -/
theorem blockStore_compares {b : UpdBlockIn} {e : List Nat} (held : kfind (updBlocks s) (b.offset / 2048) = some e) :
    Follows { regs := true } s (blockStore b s).1 ∧ (blockStore b s).2 = (if e = b.data then stOk else stCheck, []) := by
  rw [blockStore, held]
  dsimp only
  split
  · exact ⟨bump_fol rfl (.refl _ s), rfl⟩
  · exact ⟨bump_fol rfl (.refl _ s), rfl⟩

end Transfer

section Block

variable {h : GmpHdr} {x : Session} {s : State} {off n c : Nat} {d : List Nat}

theorem blockForm_congr {u : State} (upd : u.upd = s.upd) (b : UpdBlockIn) : blockForm u b = blockForm s b := by
  rw [blockForm, blockForm, upd]

/-- UPD_BLOCK of the form of R475, in a transfer that receives. -/
theorem execUpdBlock_answers (o : GmpOpen h x s) (right : hasRight s x.ident 7 = true) (receiving : s.upd.st = .receiving)
    (b : UpdBlockIn) (form : blockForm s b = true) :
    ∃ u, u = gmpSeen h s ∧ u.nvm = s.nvm ∧ u.upd = s.upd ∧
      ∀ r, (if crc32c b.data ≠ b.crc then (bump Addr.UPD_CNT_CRC u, stCheck, []) else blockStore b u) = r →
      Answered h 0x41 r.2.1 r.2.2 s (updMsg h 0x41 (updBlock b) s) ∧
        Follows {} (r.1.updUpd fun u => { u with lastStatus := r.2.1 }) (updMsg h 0x41 (updBlock b) s) := by
  have upd := gmpSeen_upd h s
  obtain ⟨answered, rest⟩ := updMsg_answers (typ := 0x41) (f := updBlock b) (c := { regs := true, evr := true, nvm := true, upd := true })
    o right (updBlock_fol rfl rfl rfl rfl (.refl _ _))
  rw [updBlock_receives (by rw [upd, receiving]) (by rw [blockForm_congr upd, form])] at answered rest
  exact ⟨gmpSeen h s, rfl, gmpSeen_nvm h s, upd, fun r is => by rw [← is]; exact ⟨answered, rest⟩⟩

/-- A block whose CRC holds is kept. -/
theorem execUpdBlock_keeps (o : GmpOpen h x s) (right : hasRight s x.ident 7 = true) (known : updSlot s < s.nvm.flash.fw.length)
    (receiving : s.upd.st = .receiving) (form : blockForm s ⟨off, n, crc32c d, d, true, true, true⟩ = true)
    (new : kfind (updBlocks s) (off / 2048) = none) (used : chanUsed s 0 = true) :
    ∃ t, exec (.updBlock h off n (crc32c d) d true true true) s = .next t ∧ Answered h 0x41 stOk [] s t ∧
      kfind (updBlocks t) (off / 2048) = some d ∧ t.upd.st = .receiving := by
  obtain ⟨u, -, nvm, upd, served⟩ := execUpdBlock_answers o right receiving _ form
  have busy : u.upd.st ≠ .idle := by rw [upd, receiving]; decide
  obtain ⟨answered, rest⟩ := served _ ((if_neg (not_not.mpr rfl)).trans
    (blockStore_keeps (by rw [updBlocks_congr nvm (by rw [upd]), new]) (by rw [chanUsed_congr nvm, used])))
  obtain ⟨kept, same⟩ := updBlocks_blockKept (b := ⟨off, n, crc32c d, d, true, true, true⟩) (s := u)
    (by rw [updSlot_congr nvm, nvm]; exact known) busy
  refine ⟨_, rfl, answered, ?_, ?_⟩
  · rw [updBlocks_congr (rest.nvm rfl) (by rw [rest.upd rfl])]
    exact kept
  · rw [rest.upd rfl, updUpd_upd, same, upd]
    exact receiving

/-- A block that stands already is compared with it. -/
theorem execUpdBlock_compares {e : List Nat} (o : GmpOpen h x s) (right : hasRight s x.ident 7 = true)
    (receiving : s.upd.st = .receiving) (form : blockForm s ⟨off, n, crc32c d, d, true, true, true⟩ = true)
    (held : kfind (updBlocks s) (off / 2048) = some e) :
    ∃ t, exec (.updBlock h off n (crc32c d) d true true true) s = .next t ∧
      Answered h 0x41 (if e = d then stOk else stCheck) [] s t ∧ updBlocks t = updBlocks s := by
  obtain ⟨u, -, nvm, upd, served⟩ := execUpdBlock_answers o right receiving _ form
  obtain ⟨answered, rest⟩ := served _ (if_neg (not_not.mpr rfl))
  obtain ⟨counted, status⟩ := blockStore_compares (b := ⟨off, n, crc32c d, d, true, true, true⟩) (s := u)
    (held := by rw [updBlocks_congr nvm (by rw [upd]), held])
  rw [status] at answered
  refine ⟨_, rfl, answered, ?_⟩
  refine (updBlocks_congr (rest.nvm rfl) (by rw [rest.upd rfl])).trans (updBlocks_congr ?_ ?_)
  · rw [updUpd_nvm, counted.nvm rfl, nvm]
  · rw [updUpd_upd, counted.upd rfl, upd]

/-- A block whose CRC fails is not kept. -/
theorem execUpdBlock_fails (o : GmpOpen h x s) (right : hasRight s x.ident 7 = true) (receiving : s.upd.st = .receiving)
    (form : blockForm s ⟨off, n, crc32c d, d, true, true, true⟩ = true) (bad : c ≠ crc32c d) :
    ∃ t, exec (.updBlock h off n c d true true true) s = .next t ∧ Answered h 0x41 stCheck [] s t ∧ updBlocks t = updBlocks s := by
  obtain ⟨u, -, nvm, upd, served⟩ := execUpdBlock_answers o right receiving ⟨off, n, c, d, true, true, true⟩ form
  obtain ⟨answered, rest⟩ := served _ (if_pos bad.symm)
  have counted : Follows { regs := true } u (bump Addr.UPD_CNT_CRC u) := bump_fol rfl (.refl _ u)
  refine ⟨_, rfl, answered, ?_⟩
  refine (updBlocks_congr (rest.nvm rfl) (by rw [rest.upd rfl])).trans (updBlocks_congr ?_ ?_)
  · rw [updUpd_nvm, counted.nvm rfl, nvm]
  · rw [updUpd_upd, counted.upd rfl, upd]

end Block


/-! Status, verification, activation and abort (R473, R474, R476, R477). -/

section Served

variable {h : GmpHdr} {x : Session} {s : State}

theorem execUpdStatus_shows (o : GmpOpen h x s) (right : hasRight s x.ident 7 = true) :
    ∃ t, exec (.updStatus h) s = .next t ∧ Answered h 0x42 stOk
      ([updStCode s.upd.st, s.upd.target, 0, 0] ++ be 4 (updBlocks s).length ++ be 4 (updMissing s)) s t := by
  have nvm := gmpSeen_nvm h s
  have upd := gmpSeen_upd h s
  obtain ⟨answered, -⟩ := updMsg_answers (typ := 0x42) (c := {}) (f := fun t =>
    (t, (stOk, [updStCode t.upd.st, t.upd.target, 0, 0] ++ be 4 (updBlocks t).length ++ be 4 (updMissing t)))) o right (.refl _ _)
  simp only [updBlocks_congr nvm (by rw [upd]), updMissing_congr nvm upd, upd] at answered
  exact ⟨_, rfl, answered⟩

/-- The status that a verdict of R476 is answered with, and the state that it leaves. -/
def verifyStatus (f : Nat) : Nat := if f = 0 then stOk else if f = 1 then stField else stCheck

def verifyState (f : Nat) : UpdSt := if f = 0 then .verified else if f = 1 then .receiving else .failed

/-- UPD_VERIFY of a transfer that receives. -/
theorem updVerify_answers (receiving : s.upd.st = .receiving) (sig : Bool) :
    (updVerify sig s).2 = (verifyStatus (updFail sig s), [updFail sig s, 0, 0, 0]) ∧
      (updVerify sig s).1.upd = { s.upd with fail := updFail sig s, st := verifyState (updFail sig s) } := by
  have runs : ¬ (s.upd.st ≠ .receiving ∧ s.upd.st ≠ .verified) := fun idle => idle.1 receiving
  rw [updVerify, if_neg runs]
  refine ⟨rfl, ?_⟩
  dsimp only
  split
  · next passes => rw [verifyState, if_pos passes]; rfl
  · next fails => rw [(bump_fol (kc := { regs := true }) rfl (.refl _ _)).upd rfl, verifyState, if_neg fails]; rfl

/-- What is missing, and the image of a transfer of firmware, are a matter of the memory and the transfer. -/
theorem updFail_congr {u : State} (nvm : u.nvm = s.nvm) (upd : u.upd = s.upd) (part : u.part = s.part) (sig : Bool) :
    (updMissing s ≠ s.upd.length → updFail sig u = 1) ∧
    (updMissing s = s.upd.length → s.upd.target = 1 → updFail sig u = fwFail s.part s.upd.length sig (fwSlot s (updSlot s))) := by
  constructor
  · intro missing
    rw [updFail, updMissing_congr nvm upd, upd]
    exact if_pos missing
  · intro whole firmware
    rw [updFail, updMissing_congr nvm upd, updSlot_congr nvm, fwSlot_congr nvm, upd, part]
    dsimp only
    rw [if_neg (not_not.mpr whole), if_pos firmware]

/-- The verdicts on an image begin at 2 (R476). -/
theorem fwFail_ne_one (p : Part) (region : Nat) (sig : Bool) (y : FwSlot) : fwFail p region sig y ≠ 1 := by
  unfold fwFail
  repeat' split
  all_goals decide

/-- UPD_VERIFY is answered with its verdict. -/
theorem execUpdVerify_answers (o : GmpOpen h x s) (right : hasRight s x.ident 7 = true) (receiving : s.upd.st = .receiving) (sig : Bool) :
    ∃ u, u.nvm = s.nvm ∧ u.upd = s.upd ∧ u.part = s.part ∧ ∃ t, exec (.updVerify h sig) s = .next t ∧
      Answered h 0x43 (verifyStatus (updFail sig u)) [updFail sig u, 0, 0, 0] s t ∧ t.upd.st = verifyState (updFail sig u) ∧
      t.upd.fail = updFail sig u := by
  have upd := gmpSeen_upd h s
  obtain ⟨answered, rest⟩ := updMsg_answers (typ := 0x43) (f := updVerify sig) (c := { regs := true, upd := true }) o right
    (updVerify_fol rfl rfl (.refl _ _))
  obtain ⟨status, after⟩ := updVerify_answers (s := gmpSeen h s) (by rw [upd, receiving]) sig
  rw [status] at answered
  refine ⟨gmpSeen h s, gmpSeen_nvm h s, upd, (gmpSeen_like h s).part, _, rfl, answered, ?_⟩
  rw [rest.upd rfl, updUpd_upd, after]
  exact ⟨rfl, rfl⟩

theorem execUpdVerify_missing (o : GmpOpen h x s) (right : hasRight s x.ident 7 = true) (receiving : s.upd.st = .receiving) (sig : Bool)
    (missing : updMissing s ≠ s.upd.length) : ∃ t, exec (.updVerify h sig) s = .next t ∧ Answered h 0x43 stField [1, 0, 0, 0] s t ∧
      t.upd.st = .receiving ∧ t.upd.fail = 1 := by
  obtain ⟨u, nvm, upd, part, t, run, answered, st, fail⟩ := execUpdVerify_answers o right receiving sig
  rw [(updFail_congr nvm upd part sig).1 missing] at answered st fail
  exact ⟨t, run, answered, st, fail⟩

theorem execUpdVerify_judges (o : GmpOpen h x s) (right : hasRight s x.ident 7 = true) (receiving : s.upd.st = .receiving) (sig : Bool)
    {f : Nat} (whole : updMissing s = s.upd.length) (firmware : s.upd.target = 1)
    (is : fwFail s.part s.upd.length sig (fwSlot s (updSlot s)) = f) :
    ∃ t, exec (.updVerify h sig) s = .next t ∧ Answered h 0x43 (if f = 0 then stOk else stCheck) [f, 0, 0, 0] s t ∧
      t.upd.st = (if f = 0 then .verified else .failed) ∧ t.upd.fail = f := by
  obtain ⟨u, nvm, upd, part, t, run, answered, st, fail⟩ := execUpdVerify_answers o right receiving sig
  rw [(updFail_congr nvm upd part sig).2 whole firmware, is] at answered st fail
  have other : f ≠ 1 := is ▸ fwFail_ne_one _ _ _ _
  rw [verifyStatus, if_neg other] at answered
  rw [verifyState, if_neg other] at st
  exact ⟨t, run, answered, st, fail⟩

theorem execUpdVerify_idle (o : GmpOpen h x s) (right : hasRight s x.ident 7 = true) (idle : s.upd.st = .idle) (sig : Bool) :
    ∃ t, exec (.updVerify h sig) s = .next t ∧ Answered h 0x43 stState [0, 0, 0, 0] s t := by
  have refuses : updVerify sig (gmpSeen h s) = (gmpSeen h s, stState, [0, 0, 0, 0]) := by
    simp [updVerify, gmpSeen_upd, idle]
  obtain ⟨answered, -⟩ := updMsg_answers (typ := 0x43) (f := updVerify sig) (c := { regs := true, upd := true }) o right
    (updVerify_fol rfl rfl (.refl _ _))
  rw [refuses] at answered
  exact ⟨_, rfl, answered⟩

/-! Activation (R477). -/

/-- What an activation that is not refused leaves: its record, after the write that it makes. -/
theorem updActivate_takes (verified : s.upd.st = .verified) (may : holdsToken s = true → s.safe.cLatch = true) {v : State}
    (written : (if s.upd.target = 1 then hdrWrite true true (fun x => { x with trial := updSlot s, trialState := 1 }) s
      else primerCopy true true s) = (v, true)) :
    ∃ d, updActivate true true s = (evTrig 0x24 d v, stOk, []) := by
  have free : ¬ (s.upd.st ≠ .verified ∨ (holdsToken s ∧ !s.safe.cLatch)) := by
    rintro (other | ⟨token, latch⟩)
    · exact other verified
    · rw [may token] at latch
      cases latch
  unfold updActivate
  rw [if_neg free]
  dsimp only
  rw [written]
  exact ⟨_, rfl⟩

/-- UPD_ACTIVATE that is not refused is answered, and the device resets once its records are written. -/
theorem execUpdActivate_resets (o : GmpOpen h x s) (right : hasRight s x.ident 7 = true) {d : List Nat} {v : State}
    (takes : updActivate true true (gmpSeen h s) = (evTrig 0x24 d v, stOk, [])) :
    ∃ t, exec (.updActivate h true true) s = .next t ∧ Answered h 0x44 stOk [] s t ∧ t.pcr.phase = .held ∧ t.pcr.cause = 7 ∧
      t.nvm.flash.hdr = v.nvm.flash.hdr ∧ t.nvm.flash.primer = v.nvm.flash.primer := by
  obtain ⟨answered, rest⟩ := updMsg_answers (typ := 0x44) (f := updActivate true true) (c := { regs := true, evr := true, nvm := true })
    o right (updActivate_fol rfl rfl rfl (.refl _ _))
  rw [takes] at answered rest
  obtain ⟨t, ht⟩ : ∃ t, t = updMsg h 0x44 (updActivate true true) s := ⟨_, rfl⟩
  rw [← ht] at answered rest
  have seen : hasRight (gmpSeen h s) x.ident 7 = true := by
    rw [hasRight, cfgW, (gmpSeen_like h s).forceW rfl]
    exact right
  have run : exec (.updActivate h true true) s = .next (selfReset t) := by
    show execUpdActivate h true true s = _
    simp only [execUpdActivate, gmpIntake_open o, seen, takes, ← ht, Bool.true_and, beq_self_eq_true, if_true]
  have drained := evrDrain_only 18 t
  have r := deviceReset_resets (k := 7) (by decide) 0 (evrDrain 18 t)
  have nvm : (evrDrain 18 t).nvm = v.nvm := by
    rw [drained.nvm rfl, rest.nvm rfl, updUpd_nvm, (evTrig_fol (kc := { regs := true, evr := true }) rfl rfl (.refl _ v)).nvm rfl]
  refine ⟨selfReset t, run, ?_, r.phase, r.cause, by rw [selfReset, r.hdr, nvm], by rw [selfReset, r.primer, nvm]⟩
  obtain ⟨l, out, given⟩ := answered
  obtain ⟨more, drain⟩ := drained.out
  exact ⟨l ++ more, by rw [selfReset, r.out, ← drain, out, List.append_assoc], List.mem_append_left _ given⟩

/-- The activation of firmware puts the slot on trial. -/
theorem execUpdActivate_firmware {c : HdrCopy} (o : GmpOpen h x s) (right : hasRight s x.ident 7 = true)
    (verified : s.upd.st = .verified) (may : holdsToken s = true → s.safe.cLatch = true) (used : chanUsed s 0 = true)
    (firmware : s.upd.target = 1) (now : hdrNow s = some c) (room : otherSlot s.nvm.hdrCopy < s.nvm.flash.hdr.length) :
    ∃ t, exec (.updActivate h true true) s = .next t ∧ Answered h 0x44 stOk [] s t ∧ t.pcr.phase = .held ∧ t.pcr.cause = 7 ∧
      t.nvm.flash.hdr.getD (otherSlot s.nvm.hdrCopy) .blank = .copy { c with trial := updSlot s, trialState := 1, gen := c.gen + 1 } := by
  have nvm := gmpSeen_nvm h s
  have upd := gmpSeen_upd h s
  have seen := gmpSeen_like h s
  obtain ⟨d, takes⟩ := updActivate_takes (s := gmpSeen h s) (by rw [upd, verified]) (by rw [seen.holdsToken rfl, seen.safe rfl]; exact may)
    ((if_pos (by rw [upd, firmware])).trans (hdrWrite_takes (by rw [chanUsed_congr nvm, used]) (by rw [hdrNow_congr nvm, now]) _))
  obtain ⟨t, run, answered, phase, cause, hdr, -⟩ := execUpdActivate_resets o right takes
  refine ⟨t, run, answered, phase, cause, ?_⟩
  rw [hdr, ← nvm, ← updSlot_congr nvm]
  exact hdrPut_stands (s := gmpSeen h s) (by rw [nvm]; exact room) _

/-- The activation of a primer image copies it into PRIMER. -/
theorem execUpdActivate_primer (o : GmpOpen h x s) (right : hasRight s x.ident 7 = true) (verified : s.upd.st = .verified)
    (may : holdsToken s = true → s.safe.cLatch = true) (used : chanUsed s 0 = true) (primer : s.upd.target = 2) :
    ∃ t, exec (.updActivate h true true) s = .next t ∧ Answered h 0x44 stOk [] s t ∧ t.pcr.phase = .held ∧ t.pcr.cause = 7 ∧
      t.nvm.flash.primer = (fwSlot s (updSlot s)).blocks := by
  have nvm := gmpSeen_nvm h s
  have upd := gmpSeen_upd h s
  have seen := gmpSeen_like h s
  obtain ⟨v, hv⟩ : ∃ v, v = modFw (updSlot (gmpSeen h s)) (fun x => { x with bad := true }) ((gmpSeen h s).updNvm fun n =>
      { n with flash := { n.flash with primer := (fwSlot (gmpSeen h s) (updSlot (gmpSeen h s))).blocks } }) := ⟨_, rfl⟩
  have copied : primerCopy true true (gmpSeen h s) = (v, true) := by
    rw [primerCopy, nvmWrite_takes (by rw [chanUsed_congr nvm, used]), hv]
    rfl
  have other : ¬ (gmpSeen h s).upd.target = 1 := by rw [upd, primer]; decide
  obtain ⟨d, takes⟩ := updActivate_takes (s := gmpSeen h s) (by rw [upd, verified]) (by rw [seen.holdsToken rfl, seen.safe rfl]; exact may)
    ((if_neg other).trans copied)
  obtain ⟨t, run, answered, phase, cause, -, image⟩ := execUpdActivate_resets o right takes
  refine ⟨t, run, answered, phase, cause, ?_⟩
  rw [image, hv, ← updSlot_congr nvm, ← fwSlot_congr nvm]
  rfl

/-- Only a VERIFIED transfer is activated. -/
theorem execUpdActivate_refuses (o : GmpOpen h x s) (right : hasRight s x.ident 7 = true) (other : s.upd.st ≠ .verified) :
    ∃ t, exec (.updActivate h true true) s = .next t ∧ Answered h 0x44 stState [] s t ∧ t.pcr = s.pcr ∧ t.nvm = s.nvm := by
  have refuses : updActivate true true (gmpSeen h s) = (gmpSeen h s, stState, []) := if_pos (Or.inl (by rw [gmpSeen_upd]; exact other))
  obtain ⟨answered, rest⟩ := updMsg_answers (typ := 0x44) (f := updActivate true true) (c := { regs := true, evr := true, nvm := true })
    o right (updActivate_fol rfl rfl rfl (.refl _ _))
  rw [refuses] at answered rest
  have error : (stState == stOk) = false := by decide
  have run : exec (.updActivate h true true) s = .next (updMsg h 0x44 (updActivate true true) s) := by
    show execUpdActivate h true true s = _
    simp only [execUpdActivate, gmpIntake_open o, refuses, error, Bool.and_false, Bool.false_eq_true, if_false]
  exact ⟨_, run, answered, by rw [rest.pcr rfl, updUpd_pcr, (gmpSeen_like h s).pcr rfl], by rw [rest.nvm rfl, updUpd_nvm, gmpSeen_nvm]⟩

/-! ABORT (R474). -/

theorem execUpdAbort_ends (o : GmpOpen h x s) (right : hasRight s x.ident 7 = true) (busy : s.upd.st ≠ .idle) :
    ∃ t, exec (.updAbort h) s = .next t ∧ Answered h 0x46 stOk [] s t ∧ t.upd.st = .idle ∧ t.upd.length = 0 := by
  have ends : (updAbort (gmpSeen h s)).2 = (stOk, []) ∧ (updAbort (gmpSeen h s)).1.upd.st = .idle ∧
      (updAbort (gmpSeen h s)).1.upd.length = 0 := by
    rw [updAbort, if_neg (by rw [gmpSeen_upd]; exact busy)]
    exact ⟨rfl, rfl, rfl⟩
  obtain ⟨status, idle, length⟩ := ends
  obtain ⟨answered, rest⟩ := updMsg_answers (typ := 0x46) (f := updAbort) (c := { nvm := true, upd := true }) o right
    (updAbort_fol rfl rfl (.refl _ _))
  rw [status] at answered
  refine ⟨_, rfl, answered, ?_⟩
  rw [rest.upd rfl, updUpd_upd]
  exact ⟨idle, length⟩

theorem execUpdAbort_idle (o : GmpOpen h x s) (right : hasRight s x.ident 7 = true) (idle : s.upd.st = .idle) :
    ∃ t, exec (.updAbort h) s = .next t ∧ Answered h 0x46 stEmpty [] s t ∧ t.nvm = s.nvm := by
  have empty : updAbort (gmpSeen h s) = (gmpSeen h s, stEmpty, []) := if_pos (by rw [gmpSeen_upd, idle])
  obtain ⟨answered, rest⟩ := updMsg_answers (typ := 0x46) (f := updAbort) (c := { nvm := true, upd := true }) o right
    (updAbort_fol rfl rfl (.refl _ _))
  rw [empty] at answered rest
  exact ⟨_, rfl, answered, by rw [rest.nvm rfl, updUpd_nvm, gmpSeen_nvm]⟩

end Served

/-- Settles O50: every message of a transfer is served on the memory and the transfer that stood. -/
theorem transfersRun : Obligations.TransfersRun := by
  intro h x s o right known
  exact ⟨fun _ _ low high long trial fits => execUpdBegin_begins o right known ⟨low, high⟩ long trial fits,
    fun erasing used => execUpdEraseDone_erases known erasing used, fun erasing => execUpdEraseDone_fails erasing,
    fun _ _ _ receiving form => ⟨fun new used => execUpdBlock_keeps o right known receiving form new used,
      fun _ held => execUpdBlock_compares o right receiving form held, fun _ bad => execUpdBlock_fails o right receiving form bad⟩,
    execUpdStatus_shows o right,
    fun sig receiving => ⟨fun missing => execUpdVerify_missing o right receiving sig missing,
      fun _ whole firmware is => execUpdVerify_judges o right receiving sig whole firmware is⟩,
    fun sig idle => execUpdVerify_idle o right idle sig,
    fun verified may used => ⟨fun _ firmware now room => execUpdActivate_firmware o right verified may used firmware now room,
      fun primer => execUpdActivate_primer o right verified may used primer⟩,
    fun other => execUpdActivate_refuses o right other, fun busy => execUpdAbort_ends o right busy,
    fun idle => execUpdAbort_idle o right idle⟩

end Sys2Proof.Machine

/-!
The sweep's tests (21_snag_sweep R495 to R501, R506; 12_memory R331): a visit and a test are noted beside every engine and bank.
-/

namespace Sys2Proof.Machine

open Sys2Proof

section Items

variable {s : State} {c u i : Nat}

/-- A visit is noted in its pass, and leaves the tests that are noted. -/
theorem visit_keeps (k : Nat) (s : State) : Follows { snag := true } s (visit k s) ∧ (visit k s).snag.tested = s.snag.tested ∧
    (visit k s).snag.spare = s.snag.spare := by
  refine ⟨visit_fol rfl (.refl _ s), ?_, ?_⟩
  · show (if _ then _ else _ : SnagS).tested = _
    split <;> rfl
  · show (if _ then _ else _ : SnagS).spare = _
    split <;> rfl

/-- A test is noted at the present operating time. -/
theorem tested_notes (k : Nat) (s : State) : Follows { snag := true } s (tested k s) ∧ kfind (tested k s).snag.tested k = some s.time.op ∧
    (tested k s).snag.spare = s.snag.spare :=
  ⟨tested_fol rfl (.refl _ s), kfind_kins.trans (if_pos rfl), rfl⟩

/-- The state in which a test of an item is judged. -/
def judged (c u i : Nat) (s : State) : State := tested (snagKey c u i) (visit (snagKey c u i) s)

theorem judged_keeps (c u i : Nat) (s : State) : Follows { snag := true } s (judged c u i s) ∧
    kfind (judged c u i s).snag.tested (snagKey c u i) = some s.time.op ∧ (judged c u i s).snag.spare = s.snag.spare := by
  obtain ⟨seen, -, spare⟩ := visit_keeps (snagKey c u i) s
  obtain ⟨noted, here, same⟩ := tested_notes (snagKey c u i) (visit (snagKey c u i) s)
  exact ⟨seen.trans noted, by rw [judged, here, seen.time rfl], by rw [judged, same, spare]⟩

/-- A test that is not passed over, of an item beside the tiles. -/
theorem execSnagTest_judges (on : cfgB s Addr.SNAG_CFG 0 = true) (item : snagItem s.part c u i = true) (other : c ≠ 4)
    (idle : c = 3 → loopIdle s u = true) {res : SnagRes} (ran : res ≠ .skip) (y : Option TileFail) :
    exec (.snagTest ⟨c, u, i, res, y⟩) s =
      .next (if res = .pass then judged c u i s else testFail ⟨c, u, i, res, y⟩ (judged c u i s)) := by
  have judge : ¬ (decide (res = .skip) || (c == 3 && !loopIdle s u)) = true := by
    rw [decide_eq_false ran, Bool.false_or, Bool.not_eq_true]
    by_cases port : c = 3
    · rw [idle port, Bool.not_true, Bool.and_false]
    · rw [beq_eq_false_iff_ne.mpr port, Bool.false_and]
  show execSnagTest ⟨c, u, i, res, y⟩ s = _
  rw [execSnagTest, if_neg (by rw [on, item]; decide)]
  dsimp only
  rw [if_neg other, if_neg judge]
  rfl

/-- A test that is passed over is a visit, and no more. -/
theorem execSnagTest_skips (on : cfgB s Addr.SNAG_CFG 0 = true) (item : snagItem s.part c u i = true) (other : c ≠ 4)
    (y : Option TileFail) : exec (.snagTest ⟨c, u, i, .skip, y⟩) s = .next (visit (snagKey c u i) s) := by
  show execSnagTest ⟨c, u, i, .skip, y⟩ s = _
  rw [execSnagTest, if_neg (by rw [on, item]; decide)]
  dsimp only
  rw [if_neg other, if_pos (by rw [decide_eq_true rfl, Bool.true_or])]

/-- The unit of a lane, a checker or a port is an engine of the part. -/
theorem snagItem_engine (item : snagItem s.part c u i = true) (few : c ≤ 2) : isEngine s.part u = true := by
  have unit : snagUnit s.part c u = true := by
    rw [snagItem, Bool.and_eq_true] at item
    exact item.1
  obtain rfl | rfl | rfl : c = 0 ∨ c = 1 ∨ c = 2 := by omega
  · rw [snagUnit, if_pos rfl, Bool.and_eq_true] at unit
    exact unit.1
  · have low : u ≤ 1 := of_decide_eq_true unit
    obtain rfl | rfl : u = 0 ∨ u = 1 := by omega
    · rfl
    · rfl
  · have port : (kindOf u == 8 && isEngine s.part u) = true := unit
    rw [Bool.and_eq_true] at port
    exact port.2

end Items

section Repairs

variable {s : State} {u i : Nat} {y : Option TileFail}

/-- A failing lane takes the spare. -/
theorem execSnagTest_lane (on : cfgB s Addr.SNAG_CFG 0 = true) (item : snagItem s.part 0 u i = true) (free : kfind s.snag.spare u = none) :
    ∃ t, exec (.snagTest ⟨0, u, i, .fail, y⟩) s = .next t ∧ kfind t.snag.spare u = some i ∧ (engOf t u).fenced = (engOf s u).fenced := by
  obtain ⟨only, -, spare⟩ := judged_keeps 0 u i s
  have unused : (kfind (judged 0 u i s).snag.spare u).isNone = true := by rw [spare, free]; rfl
  have counted : Follows { regs := true } (judged 0 u i s) (snagCnt 0 (judged 0 u i s)) := snagCnt_fol rfl (.refl _ _)
  have fails : laneFail u i (judged 0 u i s) = repair 1 u i 0 (modEng u (fun g => { g with lanes := sat 4 (g.lanes + 1) })
      ((snagCnt 0 (judged 0 u i s)).updSnag fun x => { x with spare := kins x.spare u i })) := by
    rw [laneFail, if_pos unused]
  refine ⟨_, execSnagTest_judges on item (by decide) (fun port => absurd port (by decide)) (by decide) y, ?_⟩
  rw [if_neg (by decide), testFail, if_pos rfl, fails]
  have recorded (v : State) : Follows { regs := true, evr := true } v (repair 1 u i 0 v) := repair_fol rfl rfl (.refl _ v)
  constructor
  · rw [(recorded _).snag rfl]
    exact kfind_kins.trans (if_pos rfl)
  · have stays := ((((FencesStay.of_follows only rfl).trans (.of_follows counted rfl)).trans
      (.of_follows (updSnag_fol (c := { snag := true }) (f := fun x => { x with spare := kins x.spare u i }) rfl (.refl _ _)) rfl)).modEng u
        (f := fun g => { g with lanes := sat 4 (g.lanes + 1) }) fun _ => rfl).trans (.of_follows (recorded _) rfl)
    exact stays u

/-- A second failing lane fences the engine. -/
theorem execSnagTest_second (on : cfgB s Addr.SNAG_CFG 0 = true) (item : snagItem s.part 0 u i = true) (used : kfind s.snag.spare u ≠ none) :
    ∃ t, exec (.snagTest ⟨0, u, i, .fail, y⟩) s = .next t ∧ (engOf t u).fenced = true := by
  obtain ⟨only, -, spare⟩ := judged_keeps 0 u i s
  have taken : ¬ (kfind (judged 0 u i s).snag.spare u).isNone = true := by
    rw [spare, Option.isNone_iff_eq_none]
    exact used
  refine ⟨_, execSnagTest_judges on item (by decide) (fun port => absurd port (by decide)) (by decide) y, ?_⟩
  rw [if_neg (by decide), testFail, if_pos rfl, laneFail, if_neg taken]
  refine fenceEng_fenced ?_ _ _
  rw [(snagCnt_fol (kc := { regs := true }) rfl (.refl _ (judged 0 u i s))).part, only.part]
  exact snagItem_engine item (by decide)

/-- A failing checker or port fences its engine. -/
theorem execSnagTest_fences {c : Nat} (on : cfgB s Addr.SNAG_CFG 0 = true) (which : c = 1 ∨ c = 2) (item : snagItem s.part c u 0 = true) :
    ∃ t, exec (.snagTest ⟨c, u, 0, .fail, y⟩) s = .next t ∧ (engOf t u).fenced = true := by
  have few : c ≤ 2 := by omega
  have only := (judged_keeps c u 0 s).1
  have known := snagItem_engine item few
  refine ⟨_, execSnagTest_judges on item (by omega) (fun port => absurd port (by omega)) (by decide) y, ?_⟩
  rw [if_neg (by decide)]
  obtain ⟨v, hv⟩ : ∃ v, v = judged c u 0 s := ⟨_, rfl⟩
  rw [← hv] at only ⊢
  rcases which with rfl | rfl
  · have recorded : Follows { regs := true, evr := true } v (repair 9 u 1 0 (snagCnt 4 v)) :=
      repair_fol rfl rfl (snagCnt_fol rfl (.refl _ _))
    rw [testFail, if_neg Nat.one_ne_zero, if_pos rfl, checkerFail, List.foldl_cons, List.foldl_nil]
    exact fenceEng_fenced (by rw [recorded.part, only.part]; exact known) _ _
  · rw [testFail, if_neg (Nat.succ_ne_zero 1), if_neg (Nat.succ_ne_self 1), if_pos rfl]
    exact fenceEng_fenced (by rw [only.part]; exact known) _ _

end Repairs

section Tiles

variable {s : State} {u i : Nat} {y : Option TileFail}

/-- A bank that is changed. -/
theorem bank_modBank (b : Nat) (f : Bank → Bank) (s : State) : bank (modBank b f s) b = f (bank s b) :=
  kget_kmod.trans (if_pos rfl)

/-- What a march test leaves of the bank of its tile. -/
theorem bank_marchEnd (b p : Nat) (pass : Bool) (s : State) : bank (marchEnd b p pass s) b = { bank s b with
    testing := (bank s b).testing.filter (fun x => x != p), retired := if pass then (bank s b).retired else (bank s b).retired ++ [p] } := by
  rw [← bank_modBank b (fun k => { k with testing := k.testing.filter (fun x => x != p),
                                          retired := if pass then k.retired else k.retired ++ [p] }) s]
  unfold marchEnd
  extract_lets was s1
  have counted : Follows { regs := true } (modBank b (fun k => { k with
      testing := k.testing.filter (fun x => x != p), retired := if pass then k.retired else k.retired ++ [p] }) s) s1 :=
    snagCnt_fol rfl (.refl _ _)
  have repaired : Follows { regs := true, evr := true } s1 (if pass then repair 4 (bayCode (bankBay b)) b p s1
      else spareAlarm b was (repair 5 (bayCode (bankBay b)) b p (snagCnt 3 (bump Addr.MEM_CNT_RETIRED s1)))) := by
    split
    · exact repair_fol rfl rfl (.refl _ _)
    · exact spareAlarm_fol rfl rfl (repair_fol rfl rfl (snagCnt_fol rfl (bump_fol rfl (.refl _ _))))
  rw [bank, repaired.mem rfl, counted.mem rfl]
  rfl

/-- The march test of a tile out of service ends. -/
theorem execSnagTest_march (on : cfgB s Addr.SNAG_CFG 0 = true) (item : snagItem s.part 4 u i = true)
    (kept : (bank s u).retired.contains i = false) (idle : idleTile (bank s u) i = true) {res : SnagRes} (ran : res ≠ .skip) :
    ∃ t, exec (.snagTest ⟨4, u, i, res, y⟩) s = .next t ∧ bank t u = { bank s u with
      testing := (bank s u).testing.filter (fun x => x != i),
      retired := if res == .pass then (bank s u).retired else (bank s u).retired ++ [i] } := by
  obtain ⟨v, hv⟩ : ∃ v, v = visit (snagKey 4 u i) s := ⟨_, rfl⟩
  have same : bank v u = bank s u := by rw [bank, bank, hv, (visit_keeps _ s).1.mem rfl]
  have ends : tileTest ⟨4, u, i, res, y⟩ v = (marchEnd u i (res == .pass) v, true) := by
    simp only [tileTest, same, kept, idle, ran, Bool.false_eq_true, if_false, if_true]
  have run : exec (.snagTest ⟨4, u, i, res, y⟩) s = .next (tested (snagKey 4 u i) (marchEnd u i (res == .pass) v)) := by
    show execSnagTest ⟨4, u, i, res, y⟩ s = _
    simp only [execSnagTest, on, item, ← hv, ends, Bool.not_true, Bool.or_self, Bool.false_eq_true, if_false, if_true]
  refine ⟨_, run, ?_⟩
  rw [bank, (tested_notes _ _).1.mem rfl, ← same]
  exact bank_marchEnd u i _ v

/-- A tile that leaves the test is not in it. -/
theorem tested_tile_gone (l : List Nat) (i : Nat) : (l.filter (fun x => x != i)).contains i = false := by
  simp

end Tiles

section Shown

variable {s : State} {c u i : Nat}

/-- COVER_MISS is shown and counted. -/
theorem execCoverMiss_shows (on : cfgB s Addr.SNAG_CFG 0 = true) (item : snagItem s.part c u i = true) :
    ∃ t, exec (.coverMiss c u i) s = .next t ∧ cfg t Addr.SNAG_STATUS 10 10 = 1 ∧
      cfg t (Addr.SNAG_CNT + 36) 31 0 = min (2 ^ 32 - 1) (cfg s (Addr.SNAG_CNT + 36) 31 0 + 1) := by
  show ∃ t, execCoverMiss c u i s = .next t ∧ _
  rw [execCoverMiss, if_pos (by rw [on, item]; rfl)]
  refine ⟨_, rfl, ?_, ?_⟩
  · have recorded (a b d e : Nat) (v : State) : Words (otherWord (rkey Addr.SNAG_STATUS)) v (repair a b d e v) :=
      RecordWords.repair ⟨by decide, by decide, by decide⟩ (.refl _ v) a b d e
    rw [(recorded _ _ _ _ _).cfg, cfg_alarm (by decide)]
  · have recorded (a b d e : Nat) (v : State) : Words (otherWord (rkey (Addr.SNAG_CNT + 36))) v (repair a b d e v) :=
      RecordWords.repair ⟨by decide, by decide, by decide⟩ (.refl _ v) a b d e
    have shown (v : State) : Words (otherWord (rkey (Addr.SNAG_CNT + 36))) v (alarm Addr.SNAG_STATUS 10 v) :=
      alarm_words (by decide) (.refl _ v)
    rw [(recorded _ _ _ _ _).cfg, (shown _).cfg]
    exact cfg_bump (Addr.SNAG_CNT + 36) s

/-- The SAFE bay's own failing check raises fault 1. -/
theorem execSafeSelfCheck_raises (s : State) : ∃ t, exec (.safeSelfCheck false) s = .next t ∧ t.safe.faults.testBit 0 = true ∧
    (s.safe.faults.testBit 0 = false → t.safe.latch = true) :=
  let ⟨stands, latches, _, _⟩ := faultRaise_raises 1 (tested (snagKey 7 0 0) s)
  ⟨_, rfl, stands, latches⟩

end Shown

/-- Settles O53: what notes a visit and a test leaves the engines and the banks that the test is about. -/
theorem sweepTestsAndRepairs : Obligations.SweepTestsAndRepairs := by
  intro s
  refine ⟨fun on => ⟨fun c u i y item other idle => ?_, fun c u i y item other => ?_, fun u i y item free => execSnagTest_lane on item free,
    fun u i y item used => execSnagTest_second on item used, fun c u y which item => execSnagTest_fences on which item,
    fun u i y item kept idle => ⟨?_, ?_⟩, fun c u i item => execCoverMiss_shows on item⟩,
    ⟨_, rfl, (tested_notes _ s).2.1, rfl⟩, execSafeSelfCheck_raises s⟩
  · obtain ⟨only, noted, -⟩ := judged_keeps c u i s
    exact ⟨judged c u i s, execSnagTest_judges on item other idle (by decide) y, noted, only.sched rfl⟩
  · obtain ⟨only, noted, -⟩ := visit_keeps (snagKey c u i) s
    exact ⟨_, execSnagTest_skips on item other y, noted, only.sched rfl⟩
  · obtain ⟨t, run, after⟩ := execSnagTest_march (y := y) on item kept idle (res := .fail) (by decide)
    exact ⟨t, run, by rw [after]; rfl, by rw [after]; exact tested_tile_gone _ i⟩
  · obtain ⟨t, run, after⟩ := execSnagTest_march (y := y) on item kept idle (res := .pass) (by decide)
    exact ⟨t, run, by rw [after]; rfl, by rw [after]; exact tested_tile_gone _ i⟩

end Sys2Proof.Machine

/-!
SNAG_CTRL and the restart of a bay (21_snag_sweep R498, R502, R506; 01_architecture R28, R29): what a command is decided on,
and how the engines of a bay come back.
-/

namespace Sys2Proof.Machine

open Sys2Proof

section Word

/-- What a command of SNAG_CTRL does, by its operation. -/
def snagAct (op x : Nat) (pass : Bool) (s : State) : State × Nat :=
  if op = 1 then restartOp x s else if op = 2 then fenceOp x s else if op = 3 then retestOp x pass s else (s, stField)

/-- A command does what its word packs, and shows its status. -/
theorem snagCtrlWord_acts {op x : Nat} (few : op < 16) (small : x < 256) (pass : Bool) (s : State) :
    snagCtrlWord pass (snagWord op x) s =
      ((snagAct op x pass s).1.updSnag fun n => { n with ctrlStatus := (snagAct op x pass s).2 }, (snagAct op x pass s).2) := by
  have fields : fld (snagWord op x) 3 0 = op ∧ fld (snagWord op x) 15 8 = x := by
    simp only [fld, bitsOf, snagWord, wordOf, pack, BitVec.toNat_ofNat]
    omega
  rw [snagCtrlWord, fields.1, fields.2]
  rfl

variable {h : GmpHdr} {x : Session} {s : State}

/-- A command of SNAG_CTRL is answered with its status, after its entry. -/
theorem snagCmd_answers (m : GmpMay h x 1 10 s) {op y : Nat} (few : op < 16) (small : y < 256) (pass : Bool) :
    ∃ u, Decided h x (.write [(Addr.SNAG_CTRL, snagWord op y)]) s u ∧
      Answered h 0x02 (snagAct op y pass u).2 (indexBody (if isErr (snagAct op y pass u).2 then 0 else 0xFFFF)) s
        (snagCmd h op y pass s) ∧
      Follows { gmp := true, sess := true }
        ((snagAct op y pass u).1.updSnag fun n => { n with ctrlStatus := (snagAct op y pass u).2 }) (snagCmd h op y pass s) := by
  obtain ⟨u, d, answered, rest⟩ := gmpWord_settles m Addr.SNAG_CTRL (snagWord op y) (f := snagCtrlWord pass (snagWord op y))
    (c := { jr := true, regs := true, gmp := true, safe := true, sched := true, pair := true, evr := true, pcr := true, snag := true })
    rfl rfl (fun u => snagCtrlWord_fol rfl rfl rfl rfl rfl rfl rfl rfl rfl (.refl _ u))
  refine ⟨u, d, ?_⟩
  rw [snagCtrlWord_acts few small] at answered rest
  exact ⟨answered, rest⟩

/-- The engine identifiers fit the field TARGET. -/
theorem isEngine_small {p : Part} {e : Nat} (known : isEngine p e = true) : e < 256 := by
  simp only [isEngine, within, Bool.or_eq_true, beq_iff_eq, decide_eq_true_eq] at known
  cases p <;> simp only [fixCount, portCount] at known <;> omega

theorem isBay_small {p : Part} {b : Nat} (known : isBay p b = true) : b < 16 := by
  rw [isBay, Bool.and_eq_true, within, decide_eq_true_eq] at known
  omega

end Word

section Decide

variable {h : GmpHdr} {x : Session} {b : GmpBody} {s u : State}

/-- An entry leaves what a bay's restart is decided on (R29, R502). -/
theorem Decided.bayMay (d : Decided h x b s u) (y : Nat) (host : Bool) : bayMay u y host = bayMay s y host := by
  rw [Machine.bayMay, Machine.bayMay, d.pair, d.fol.safe rfl]

theorem Decided.bayRoom (d : Decided h x b s u) (y : Nat) : bayRoom u y = bayRoom s y := by
  have outside : fixOutside u y = fixOutside s y := by
    rw [fixOutside, fixOutside]
    simp only [d.engUsable]
  rw [Machine.bayRoom, Machine.bayRoom, outside, d.engUsable, d.engUsable, d.fol.part]

/-- The Fix engines that would stay after a fence (04_fix R122). -/
def fixLeft (s : State) (e : Nat) : Nat :=
  (engineIds.filter (fun y => kindOf y == 1 && engEnabled s y && !(engOf s y).fenced && y != e)).length

theorem Decided.fixLeft (d : Decided h x b s u) (e : Nat) : fixLeft u e = fixLeft s e := by
  have enabled (y : Nat) : engEnabled u y = engEnabled s y := by
    rw [engEnabled, engEnabled, d.fol.part, cfgB_words d.words (by decide)]
  simp only [Machine.fixLeft, enabled, d.engOf]

end Decide

section Restart

variable {b : Nat} {s : State}

/-- A bay that may restart and has room does so where no restart is under way. -/
theorem restartOp_decides (known : isBay s.part b = true) (other : b ≠ 2) (may : bayMay s b true = true) (room : bayRoom s b = true) :
    restartOp b s = if s.snag.restart = none then (startRestart b s, stOk) else (s, stBusy) := by
  rw [restartOp, known, may, room, beq_eq_false_iff_ne.mpr other]
  cases s.snag.restart <;> rfl

/-- A bay that may not restart stays as it is. -/
theorem restartOp_refuses (known : isBay s.part b = true) (not : b = 2 ∨ bayMay s b true = false ∨ bayRoom s b = false) :
    restartOp b s = (s, stState) := by
  have refused : (b == 2 || !bayMay s b true || !bayRoom s b) = true := by
    rcases not with two | may | room
    · rw [two]; rfl
    · rw [may, Bool.not_false, Bool.or_true, Bool.true_or]
    · rw [room, Bool.not_false, Bool.or_true]
  rw [restartOp, known, refused]
  rfl

/-- A restart begins now, with the domain of its bay off (R502). -/
theorem startRestart_begins (b : Nat) (s : State) : (startRestart b s).snag.restart = some ⟨b, s.time.op, false⟩ ∧
    (startRestart b s).pcr.domOn.testBit b = false := by
  unfold startRestart
  extract_lets es s1 s2 op s3 s4
  have off : Follows { regs := true, safe := true, evr := true } (s3.updPcr fun p => { p with domOn := setBitN p.domOn b false }) s4 :=
    dynEval_fol rfl (repair_fol rfl rfl (.refl _ _))
  have lost : Follows { regs := true, safe := true, pair := true, evr := true } s4
      (if b = 1 ∨ within 13 15 b then loseSync 5 s4 else s4) := ite_fol (loseSync_fol rfl rfl rfl rfl (.refl _ _)) (.refl _ _)
  rw [lost.snag rfl, lost.pcr rfl, off.snag rfl, off.pcr rfl]
  refine ⟨rfl, ?_⟩
  show (setBitN s3.pcr.domOn b false).testBit b = false
  rw [testBit_setBitN, if_pos rfl]

end Restart

section Commands

variable {h : GmpHdr} {x : Session} {s : State} {b e : Nat}

theorem execRestartBay_begins (m : GmpMay h x 1 10 s) (known : isBay s.part b = true) (other : b ≠ 2) (may : bayMay s b true = true)
    (room : bayRoom s b = true) :
    (s.snag.restart = none → ∃ t, exec (.restartBay h b) s = .next t ∧ Answered h 0x02 stOk (indexBody 0xFFFF) s t ∧
      t.snag.restart = some ⟨b, s.time.op, false⟩ ∧ t.pcr.domOn.testBit b = false ∧ t.snag.ctrlStatus = stOk) ∧
    (s.snag.restart ≠ none → ∃ t, exec (.restartBay h b) s = .next t ∧ Answered h 0x02 stBusy (indexBody 0) s t ∧
      t.snag.restart = s.snag.restart) := by
  obtain ⟨u, d, answered, rest⟩ := snagCmd_answers m (op := 1) (y := b) (by decide)
    (Nat.lt_of_lt_of_le (isBay_small known) (by decide)) false
  have snag : u.snag = s.snag := d.fol.snag rfl
  have act : snagAct 1 b false u = if s.snag.restart = none then (startRestart b u, stOk) else (u, stBusy) := by
    rw [← snag]
    exact restartOp_decides (by rw [d.fol.part, known]) other (by rw [d.bayMay, may]) (by rw [d.bayRoom, room])
  rw [act] at answered rest
  obtain ⟨begun, off⟩ := startRestart_begins b u
  constructor
  · intro none
    rw [if_pos none] at answered rest
    refine ⟨_, rfl, answered, ?_⟩
    rw [rest.snag rfl, rest.pcr rfl]
    exact ⟨by rw [← d.fol.time rfl]; exact begun, off, rfl⟩
  · intro some
    rw [if_neg some] at answered rest
    exact ⟨_, rfl, answered, by rw [rest.snag rfl]; exact (congrArg SnagS.restart snag :)⟩

theorem execRestartBay_refuses (m : GmpMay h x 1 10 s) (known : isBay s.part b = true)
    (not : b = 2 ∨ bayMay s b true = false ∨ bayRoom s b = false) :
    ∃ t, exec (.restartBay h b) s = .next t ∧ Answered h 0x02 stState (indexBody 0) s t ∧ t.snag.restart = s.snag.restart := by
  obtain ⟨u, d, answered, rest⟩ := snagCmd_answers m (op := 1) (y := b) (by decide)
    (Nat.lt_of_lt_of_le (isBay_small known) (by decide)) false
  have act : snagAct 1 b false u = (u, stState) :=
    restartOp_refuses (by rw [d.fol.part, known]) (by rw [d.bayMay, d.bayRoom]; exact not)
  rw [act] at answered rest
  exact ⟨_, rfl, answered, by rw [rest.snag rfl]; exact (congrArg SnagS.restart (d.fol.snag rfl) :)⟩

/-- An engine that may go is fenced (R506). -/
theorem fenceOp_fences (known : isEngine s.part e = true) (out : (engOf s e).fenced = false)
    (floor : kindOf e = 1 → fixFloor s.part ≤ fixLeft s e) (cp : e ≤ 1 → (engOf s (1 - e)).fenced = false) :
    fenceOp e s = (fenceEng e none 0 s, stOk) := by
  have room : (kindOf e == 1 && decide (fixLeft s e < fixFloor s.part)) = false := by
    by_cases fix : kindOf e = 1
    · rw [decide_eq_false (Nat.not_lt.mpr (floor fix)), Bool.and_false]
    · rw [beq_eq_false_iff_ne.mpr fix, Bool.false_and]
  have one : (decide (e ≤ 1) && (engOf s (1 - e)).fenced) = false := by
    by_cases low : e ≤ 1
    · rw [cp low, Bool.and_false]
    · rw [decide_eq_false low, Bool.false_and]
  rw [fixLeft] at room
  simp only [fenceOp, known, out, room, one]
  rfl

theorem execSnagFence_fences (m : GmpMay h x 1 10 s) (known : isEngine s.part e = true) (out : (engOf s e).fenced = false)
    (floor : kindOf e = 1 → fixFloor s.part ≤ fixLeft s e) (cp : e ≤ 1 → (engOf s (1 - e)).fenced = false) :
    ∃ t, exec (.snagFence h e) s = .next t ∧ Answered h 0x02 stOk (indexBody 0xFFFF) s t ∧ (engOf t e).fenced = true := by
  obtain ⟨u, d, answered, rest⟩ := snagCmd_answers m (op := 2) (y := e) (by decide) (isEngine_small known) false
  have here : isEngine u.part e = true := by rw [d.fol.part, known]
  have act : snagAct 2 e false u = (fenceEng e none 0 u, stOk) :=
    fenceOp_fences here (by rw [d.engOf, out]) (by rw [d.fol.part, d.fixLeft]; exact floor) (by rw [d.engOf]; exact cp)
  rw [act] at answered rest
  refine ⟨_, rfl, answered, ?_⟩
  rw [engOf, rest.sched rfl]
  exact fenceEng_fenced here none 0

/-- An engine that is fenced already stays so. -/
theorem execSnagFence_again (m : GmpMay h x 1 10 s) (known : isEngine s.part e = true) (out : (engOf s e).fenced = true) :
    ∃ t, exec (.snagFence h e) s = .next t ∧ Answered h 0x02 stEmpty (indexBody 0xFFFF) s t ∧ (engOf t e).fenced = true := by
  obtain ⟨u, d, answered, rest⟩ := snagCmd_answers m (op := 2) (y := e) (by decide) (isEngine_small known) false
  have act : snagAct 2 e false u = (u, stEmpty) := by
    show fenceOp e u = _
    rw [fenceOp, d.fol.part, known, d.engOf, out]
    rfl
  rw [act] at answered rest
  refine ⟨_, rfl, answered, ?_⟩
  rw [engOf, rest.sched rfl]
  exact (congrArg Eng.fenced (d.engOf e)).trans out

/-- An engine that is changed. -/
theorem engOf_modEng (e j : Nat) (f : Eng → Eng) (s : State) :
    engOf (modEng e f s) j = if j = e then f (engOf s e) else engOf s j := by
  show kget Eng.zero (kmod Eng.zero s.sched.eng e f) j = _
  exact kget_kmod

/-- An engine is in service where it is neither fenced nor of a bay that restarts. -/
def InService (s : State) (e : Nat) : Prop := (engOf s e).restart = false ∧ (engOf s e).fenced = false

/-- NO_CP and its end leave every engine. -/
theorem noCpEval_engOf (s : State) (e : Nat) : engOf (noCpEval s) e = engOf s e := by
  rw [engOf, (noCpEval_fol (kc := { jr := true, regs := true, gmp := true, safe := true, pair := true, evr := true })
    rfl rfl rfl rfl rfl rfl (.refl _ s)).sched rfl]
  rfl

/-- An engine that returns is not fenced, and no engine's restart ends or begins by it. -/
theorem returnEng_returns (e j : Nat) (s : State) : (engOf (returnEng e s) j).restart = (engOf s j).restart ∧
    (engOf (returnEng e s) j).fenced = if j = e then false else (engOf s j).fenced := by
  unfold returnEng
  extract_lets s1
  have back : engOf s1 j = if j = e then { engOf s e with fenced := false } else engOf s j := by
    rw [engOf, (repair_fol (kc := { regs := true, evr := true }) rfl rfl (.refl _ _)).sched rfl]
    exact engOf_modEng e j _ s
  have cp : engOf (if e ≤ 1 then noCpEval s1 else s1) j = engOf s1 j := by
    split
    · exact noCpEval_engOf s1 j
    · rfl
  obtain ⟨fence, restart⟩ := ((Served.refl (if e ≤ 1 then noCpEval s1 else s1)).dispatch 31 (kindOf e)).service j
  rw [fence, restart, cp, back]
  split
  · next same => exact ⟨by rw [same], rfl⟩
  · exact ⟨rfl, rfl⟩

/-- A fenced engine returns where it passes every test (R498). -/
theorem execRetest_tests (m : GmpMay h x 1 10 s) (known : isEngine s.part e = true) (out : (engOf s e).fenced = true) (pass : Bool) :
    ∃ t, exec (.retest h e pass) s = .next t ∧ Answered h 0x02 stOk (indexBody 0xFFFF) s t ∧ (engOf t e).fenced = !pass := by
  obtain ⟨u, d, answered, rest⟩ := snagCmd_answers m (op := 3) (y := e) (by decide) (isEngine_small known) pass
  have act : snagAct 3 e pass u = (if pass then returnEng e u else u, stOk) := by
    show retestOp e pass u = _
    rw [retestOp, d.fol.part, known, d.engOf, out]
    rfl
  rw [act] at answered rest
  refine ⟨_, rfl, answered, ?_⟩
  rw [engOf, rest.sched rfl]
  cases pass with
  | true => exact (returnEng_returns e e u).2.trans (if_pos rfl)
  | false => exact (congrArg Eng.fenced (d.engOf e)).trans out

/-- RETEST is for a fenced engine. -/
theorem execRetest_refuses (m : GmpMay h x 1 10 s) (known : isEngine s.part e = true) (out : (engOf s e).fenced = false) :
    ∃ t, exec (.retest h e true) s = .next t ∧ Answered h 0x02 stState (indexBody 0) s t ∧ (engOf t e).fenced = false := by
  obtain ⟨u, d, answered, rest⟩ := snagCmd_answers m (op := 3) (y := e) (by decide) (isEngine_small known) true
  have act : snagAct 3 e true u = (u, stState) := by
    show retestOp e true u = _
    rw [retestOp, d.fol.part, known, d.engOf, out]
    rfl
  rw [act] at answered rest
  refine ⟨_, rfl, answered, ?_⟩
  rw [engOf, rest.sched rfl]
  exact (congrArg Eng.fenced (d.engOf e)).trans out

end Commands

section Course

variable {s : State} {r : Restart}

/-- The domain of a bay that restarts switched on (R502 step 3). -/
def bayOn (r : Restart) (s : State) : State :=
  (s.updPcr fun p => { p with domOn := setBitN p.domOn r.bay true }).updSnag fun n => { n with restart := some { r with on := true } }

theorem bayOn_shows (r : Restart) (s : State) : (bayOn r s).pcr.domOn.testBit r.bay = true ∧
    (bayOn r s).snag.restart = some { r with on := true } ∧ (bayOn r s).time = s.time := by
  refine ⟨?_, rfl, rfl⟩
  show (setBitN s.pcr.domOn r.bay true).testBit r.bay = true
  rw [testBit_setBitN, if_pos rfl]

/-- The domain of a bay is on again 10 ms after its restart began. -/
theorem execBayDomainOn_switches (run : s.snag.restart = some r) (off : r.on = false) : ∃ t, exec .bayDomainOn s = .next t ∧
    t.pcr.domOn.testBit r.bay = true ∧ t.snag.restart = some { r with on := true } ∧ t.time.op = max s.time.op (r.since + 10000000) := by
  have next : execBayDomainOn s = .next (bayOn r (advOp (r.since + 10000000) s)) := by
    simp only [execBayDomainOn, run, off, Bool.false_eq_true, if_false, bayOn]
  obtain ⟨on, shown, time⟩ := bayOn_shows r (advOp (r.since + 10000000) s)
  exact ⟨_, next, on, shown, by rw [time, advOp_op]⟩

/-- An engine whose bay's restart is over, with its spare lane free. -/
def passed (e : Nat) (s : State) : State :=
  (modEng e (fun g => { g with restart := false }) s).updSnag fun n => { n with spare := kdel n.spare e }

/-- An engine that passed every test returns where it was fenced, and takes jobs again (R502). -/
theorem engineBack_passes (e : Nat) (s : State) : engineBack ⟨e, [], false⟩ s =
    if (engOf s e).fenced then returnEng e (passed e s) else dispatch 31 (kindOf e) (passed e s) := rfl

/-- An engine that passed its tests is in service, and so is every other that is. -/
theorem engineBack_serves {e j : Nat} (s : State) (back : j = e ∨ InService s j) : InService (engineBack ⟨e, [], false⟩ s) j := by
  have here : engOf (passed e s) j = if j = e then { engOf s e with restart := false } else engOf s j := engOf_modEng e j _ s
  have restart : (engOf (passed e s) j).restart = false := by
    rw [here]
    split
    · rfl
    · next other => exact (back.resolve_left other).1
  rw [engineBack_passes]
  split
  · obtain ⟨same, fence⟩ := returnEng_returns e j (passed e s)
    refine ⟨same.trans restart, fence.trans ?_⟩
    split
    · rfl
    · next other => rw [here, if_neg other]; exact (back.resolve_left other).2
  · next was =>
    obtain ⟨fence, same⟩ := ((Served.refl (passed e s)).dispatch 31 (kindOf e)).service j
    refine ⟨same.trans restart, fence.trans ?_⟩
    rw [here]
    split
    · exact Bool.eq_false_of_not_eq_true was
    · next other => exact (back.resolve_left other).2

/-- An engine that is back leaves the bays. -/
theorem engineBack_bays (e : Nat) (s : State) : (engineBack ⟨e, [], false⟩ s).snag.bays = s.snag.bays ∧
    (engineBack ⟨e, [], false⟩ s).snag.restart = s.snag.restart := by
  have beside : Follows { jr := true, regs := true, gmp := true, safe := true, sched := true, pair := true, evr := true } (passed e s)
      (engineBack ⟨e, [], false⟩ s) := by
    rw [engineBack_passes]
    exact ite_fol (returnEng_fol rfl rfl rfl rfl rfl rfl rfl (.refl _ _)) (dispatch_fol rfl (.refl _ _))
  rw [beside.snag rfl]
  exact ⟨rfl, rfl⟩

/-- Every engine of a list comes back. -/
def enginesBack (l : List Nat) (s : State) : State := l.foldl (fun t e => engineBack ⟨e, [], false⟩ t) s

theorem enginesBack_bays (l : List Nat) (s : State) : (enginesBack l s).snag.bays = s.snag.bays ∧
    (enginesBack l s).snag.restart = s.snag.restart :=
  List.foldlRecOn (motive := fun t => t.snag.bays = s.snag.bays ∧ t.snag.restart = s.snag.restart) l _ ⟨rfl, rfl⟩
    fun t same e _ => ⟨(engineBack_bays e t).1.trans same.1, (engineBack_bays e t).2.trans same.2⟩

theorem enginesBack_serves {j : Nat} (l : List Nat) (s : State) (back : j ∈ l ∨ InService s j) : InService (enginesBack l s) j := by
  induction l generalizing s with
  | nil => exact back.resolve_left List.not_mem_nil
  | cons e l ih =>
    refine ih (engineBack ⟨e, [], false⟩ s) ?_
    rcases back with listed | serves
    · rcases List.mem_cons.mp listed with same | later
      · exact .inr (engineBack_serves s (.inl same))
      · exact .inl later
    · exact .inr (engineBack_serves s (.inr serves))

/-- A bay that nobody asked to restart does not. -/
theorem sweepRestart_idle {b : Nat} (idle : (baySt s b).asked = false) : sweepRestart b s = s := by
  rw [sweepRestart, idle]
  rfl

/-- The end of a restart as the bay shows it, with its contents loaded again (R502 step 4). -/
def bayLoaded (ms : Nat) (r : Restart) (s : State) : State :=
  bayReload r.bay (modBay r.bay (fun y => { y with lastMs := sat 12 ms })
    ((advOp (r.since + ms * 1000000) s).updSnag fun n => { n with restart := none }))

/-- A bay's record once it is changed. -/
theorem baySt_modBay (b i : Nat) (f : BaySt → BaySt) (s : State) :
    baySt (modBay b f s) i = if i = b then f (baySt s b) else baySt s i := by
  show kget BaySt.zero (kmod BaySt.zero s.snag.bays b f) i = _
  exact kget_kmod

/-- The bays as the reload leaves them. -/
theorem bayLoaded_bays (ms : Nat) (r : Restart) (s : State) : (bayLoaded ms r s).snag.restart = none ∧
    (bayLoaded ms r s).part = s.part ∧
    ∀ i, baySt (bayLoaded ms r s) i = if i = r.bay then { baySt s r.bay with lastMs := sat 12 ms } else baySt s i := by
  obtain ⟨v, hv⟩ : ∃ v, v = advOp (r.since + ms * 1000000) s := ⟨_, rfl⟩
  have op : Follows { time := true } s v := hv ▸ advOp_fol rfl (.refl _ s)
  rw [bayLoaded, ← hv]
  obtain ⟨w, hw⟩ : ∃ w, w = modBay r.bay (fun y => { y with lastMs := sat 12 ms }) (v.updSnag fun n => { n with restart := none }) := ⟨_, rfl⟩
  have loaded : Follows { jr := true, regs := true, gmp := true, safe := true, pair := true, evr := true, key := true, mem := true } w
      (bayReload r.bay w) := bayReload_fol rfl rfl rfl rfl rfl rfl rfl rfl (.refl _ w)
  have same (i : Nat) : baySt (v.updSnag fun n => { n with restart := none }) i = baySt s i := by
    rw [baySt, baySt, ← op.snag rfl]
    rfl
  rw [← hw, loaded.snag rfl, loaded.part]
  refine ⟨by rw [hw]; rfl, by rw [hw]; exact op.part, fun i => ?_⟩
  rw [baySt, loaded.snag rfl, ← baySt, hw, baySt_modBay, same, same]

/-- A restart ends: nothing else is asked of the sweep. -/
theorem execBayRestartDone_ends (run : s.snag.restart = some r) (on : r.on = true) (ms : Nat) (whole : Bool) {t : State}
    (ends : t = if whole then bayLost r.bay (bayLoaded ms r s) else
      repair 7 (bayCode r.bay) 0 0 (snagCnt 7 (modBay r.bay (fun y => { y with failed := false })
        (enginesBack (bayEngines s r.bay) (bayLoaded ms r s))))) (idle : ∀ b, b < 16 → (baySt t b).asked = false) :
    exec (.bayRestartDone ms whole []) s = .next t := by
  have same : bayEngines (bayLoaded ms r s) r.bay = bayEngines s r.bay := by
    rw [bayEngines, bayEngines, (bayLoaded_bays ms r s).2.1]
  have next : exec (.bayRestartDone ms whole []) s = .next ((List.range 16).foldl (fun u b => sweepRestart b u) t) := by
    show execBayRestartDone ms whole [] s = _
    rw [ends, ← same]
    simp only [execBayRestartDone, run, on, Bool.not_true, Bool.false_eq_true, if_false]
    rfl
  have stays : (List.range 16).foldl (fun u b => sweepRestart b u) t = t :=
    List.foldlRecOn (motive := fun u => u = t) (List.range 16) _ rfl fun u same b member => by
      rw [same]
      exact sweepRestart_idle (idle b (List.mem_range.mp member))
  rw [next, stays]

/-- A bay that passes its self-test is back with its engines (R502). -/
theorem execBayRestartDone_returns (run : s.snag.restart = some r) (on : r.on = true) (quiet : ∀ b, b < 16 → (baySt s b).asked = false)
    (ms : Nat) : ∃ t, exec (.bayRestartDone ms false []) s = .next t ∧ t.snag.restart = none ∧ (baySt t r.bay).failed = false ∧
      (baySt t r.bay).lastMs = min 4095 ms ∧ ∀ e ∈ bayEngines s r.bay, InService t e := by
  obtain ⟨none, -, bays⟩ := bayLoaded_bays ms r s
  obtain ⟨v, hv⟩ : ∃ v, v = enginesBack (bayEngines s r.bay) (bayLoaded ms r s) := ⟨_, rfl⟩
  obtain ⟨kept, restart⟩ := enginesBack_bays (bayEngines s r.bay) (bayLoaded ms r s)
  rw [← hv] at kept restart
  obtain ⟨w, hw⟩ : ∃ w, w = modBay r.bay (fun y => { y with failed := false }) v := ⟨_, rfl⟩
  obtain ⟨t, ht⟩ : ∃ t, t = repair 7 (bayCode r.bay) 0 0 (snagCnt 7 w) := ⟨_, rfl⟩
  have told : Follows { regs := true, evr := true } w t := ht ▸ repair_fol rfl rfl (snagCnt_fol rfl (.refl _ w))
  have shown (i : Nat) : baySt t i =
      if i = r.bay then { baySt s r.bay with lastMs := sat 12 ms, failed := false } else baySt s i := by
    have was (j : Nat) : baySt v j = baySt (bayLoaded ms r s) j := by rw [baySt, kept]; rfl
    rw [baySt, told.snag rfl, ← baySt, hw, baySt_modBay, was, was, bays, bays, if_pos rfl]
    by_cases here : i = r.bay
    · rw [if_pos here, if_pos here]
    · rw [if_neg here, if_neg here, if_neg here]
  refine ⟨t, execBayRestartDone_ends run on ms false (by rw [ht, hw, hv]; rfl) fun b low => ?_, ?_, ?_, ?_, fun e listed => ?_⟩
  · rw [shown]
    split
    · next same => exact same ▸ quiet b low
    · exact quiet b low
  · rw [told.snag rfl, hw]
    exact restart.trans none
  · rw [shown, if_pos rfl]
  · rw [shown, if_pos rfl]
    exact min_comm ms 4095
  · have sched : t.sched = v.sched := by rw [told.sched rfl, hw]; rfl
    have serves := enginesBack_serves (bayEngines s r.bay) (bayLoaded ms r s) (.inl listed)
    rw [← hv] at serves
    rw [InService, engOf, sched]
    exact serves

/-- Every engine of a list fenced, its bay's restart over. -/
def enginesLost (l : List Nat) (s : State) : State := l.foldl (fun t e => modEng e (fun g => { g with fenced := true, restart := false }) t) s

theorem enginesLost_fenced {j : Nat} (l : List Nat) (s : State) (lost : j ∈ l ∨ (engOf s j).fenced = true) :
    (engOf (enginesLost l s) j).fenced = true := by
  induction l generalizing s with
  | nil => exact lost.resolve_left List.not_mem_nil
  | cons e l ih =>
    refine ih (modEng e (fun g => { g with fenced := true, restart := false }) s) ?_
    rw [engOf_modEng]
    rcases lost with listed | fenced
    · rcases List.mem_cons.mp listed with same | later
      · exact .inr (by rw [if_pos same])
      · exact .inl later
    · refine .inr ?_
      split
      · rfl
      · exact fenced

theorem enginesLost_only (l : List Nat) (s : State) : Follows { sched := true } s (enginesLost l s) :=
  foldl_fol (fun _ _ h => modEng_fol rfl h) (.refl _ s)

/-- A bay that fails whole keeps its engines fenced (R502). -/
theorem bayLost_fences (b : Nat) (s : State) : (bayLost b s).snag.restart = s.snag.restart ∧
    (∀ i, baySt (bayLost b s) i = if i = b then { baySt s b with failed := true } else baySt s i) ∧
    ∀ e ∈ bayEngines s b, (engOf (bayLost b s) e).fenced = true := by
  obtain ⟨v, hv⟩ : ∃ v, v = enginesLost (bayEngines s b) s := ⟨_, rfl⟩
  have only : Follows { sched := true } s v := hv ▸ enginesLost_only _ s
  obtain ⟨w, hw⟩ : ∃ w, w = modBay b (fun y => { y with failed := true }) v := ⟨_, rfl⟩
  have told : Follows { jr := true, regs := true, gmp := true, safe := true, pair := true, evr := true } w (bayLost b s) := by
    unfold bayLost
    extract_lets s1 s2 s3
    have eq : w = modBay b (fun y => { y with failed := true }) s1 := by rw [hw, hv]; rfl
    have two : Follows { jr := true, regs := true, gmp := true, safe := true, pair := true, evr := true } w s2 := by
      rw [eq]
      exact repair_fol rfl rfl (snagCnt_fol rfl (.refl _ _))
    have three : Follows { jr := true, regs := true, gmp := true, safe := true, pair := true, evr := true } w s3 :=
      ite_fol (postFault_fol rfl rfl rfl rfl rfl rfl two) two
    exact ite_fol (noCpEval_fol rfl rfl rfl rfl rfl rfl three) three
  have same (i : Nat) : baySt v i = baySt s i := by rw [baySt, only.snag rfl]; rfl
  refine ⟨?_, fun i => ?_, fun e listed => ?_⟩
  · rw [told.snag rfl, hw]
    exact (congrArg SnagS.restart (only.snag rfl) :)
  · rw [baySt, told.snag rfl, ← baySt, hw, baySt_modBay, same, same]
  · rw [engOf, told.sched rfl, hw]
    exact hv ▸ enginesLost_fenced _ s (.inl listed)

theorem execBayRestartDone_fences (run : s.snag.restart = some r) (on : r.on = true) (quiet : ∀ b, b < 16 → (baySt s b).asked = false)
    (ms : Nat) : ∃ t, exec (.bayRestartDone ms true []) s = .next t ∧ t.snag.restart = none ∧ (baySt t r.bay).failed = true ∧
      ∀ e ∈ bayEngines s r.bay, (engOf t e).fenced = true := by
  obtain ⟨none, part, bays⟩ := bayLoaded_bays ms r s
  obtain ⟨restart, after, fences⟩ := bayLost_fences r.bay (bayLoaded ms r s)
  refine ⟨_, execBayRestartDone_ends run on ms true rfl fun b low => ?_, restart.trans none, ?_, fun e listed => fences e ?_⟩
  · show (baySt (bayLost r.bay (bayLoaded ms r s)) b).asked = false
    rw [after, bays, bays, if_pos rfl]
    split
    · next same => exact same ▸ quiet b low
    · exact quiet b low
  · show (baySt (bayLost r.bay (bayLoaded ms r s)) r.bay).failed = true
    rw [after, if_pos rfl]
  · rw [bayEngines, part]
    exact listed

end Course

/-- Settles O54: a request's entry leaves what its command is decided on, and an end of a restart asks nothing of the sweep. -/
theorem baysRestartAndEnginesAreFenced : Obligations.BaysRestartAndEnginesAreFenced := fun _ =>
  ⟨fun _ _ m => ⟨fun _ known other may room => execRestartBay_begins m known other may room,
      fun _ known not => execRestartBay_refuses m known not,
      fun _ known out floor cp => execSnagFence_fences m known out floor cp,
      fun _ known out => ⟨execSnagFence_again m known out, execRetest_tests m known out true, execRetest_tests m known out false⟩,
      fun _ known out => execRetest_refuses m known out⟩,
    fun _ run off _ => execBayDomainOn_switches run off,
    fun _ ms run on quiet => ⟨execBayRestartDone_returns run on quiet ms, execBayRestartDone_fences run on quiet ms⟩⟩

end Sys2Proof.Machine

/-!
The boot (18_boot R449 to R455; 19_firmware R472, R478): where it halts, and what stands when service begins.
-/

namespace Sys2Proof.Machine

open Sys2Proof

section Halt

variable {b : BootIn} {s : State}

/-- A halt shows its code, and keeps it over the next reset (R455). -/
theorem halt_shows (code : Nat) (s : State) : (halt code s).pcr.phase = .halted ∧ (halt code s).pcr.halt = code ∧
    (halt code s).pcr.lastHalt = code := by
  have told : Follows { regs := true, evr := true } (s.updPcr fun p => { p with phase := .halted, halt := code, lastHalt := code })
      (halt code s) := evTrig_fol rfl rfl (.refl _ _)
  rw [told.pcr rfl]
  exact ⟨rfl, rfl, rfl⟩

/-- The unit as the boot finds its channels and roots. -/
def bootFound (b : BootIn) (s : State) : State := bootRoots (bootChannels b s)

/-- The life cycle is a matter of the fuses. -/
theorem lcState_bootFound (b : BootIn) (s : State) : lcState (bootFound b s) = lcState s := by
  have only : Follows { regs := true, nvm := true, evr := true } s (bootFound b s) := bootRoots_fol rfl rfl (bootChannels_fol rfl rfl (.refl _ s))
  simp only [lcState, only.key rfl]

theorem lcState_bootHeader {u : State} (found : bootHeader s = some u) : lcState u = lcState s := by
  have only : Follows { regs := true, nvm := true, evr := true } s u := bootHeader_fol rfl rfl rfl found (.refl _ s)
  simp only [lcState, only.key rfl]

/-- No table of regions fits where no device answers (R451). -/
theorem hdrValid_none (x : HdrSlot) : hdrValid [⟨0, false⟩, ⟨0, false⟩] x = none := by
  cases x with
  | copy h =>
    have size : smallest [⟨0, false⟩, ⟨0, false⟩] (h.mirror == 1) = 0 := by
      have none : smallest [⟨0, false⟩, ⟨0, false⟩] (h.mirror == 1) = mib 0 := rfl
      rw [none, mib, Nat.zero_mul]
    have refused : ¬ regionsOk h.regions 0 = true := by
      intro ok
      cases regions : h.regions with
      | nil => rw [regions] at ok; cases ok
      | cons r l =>
        simp only [regions, regionsOk, List.all_cons, Bool.and_eq_true, decide_eq_true_eq] at ok
        obtain ⟨-, ⟨⟨-, starts, ends⟩, -⟩, -⟩ := ok
        omega
    rw [hdrValid, size, if_neg fun ok => refused ok.2.2.2.2.2]
  | _ => rfl

/-- Where no device answers there is no header (R449, R452). -/
theorem bootHeader_none (c0 : b.ch0 = none) (c1 : b.ch1 = none) : bootHeader (bootFound b s) = none := by
  have roots : Follows { regs := true, evr := true } (bootChannels b s) (bootFound b s) := bootRoots_fol rfl rfl (.refl _ _)
  have channels : (bootChannels b s).nvm.ch = [⟨0, false⟩, ⟨0, false⟩] := by
    rw [bootChannels, c0, c1]
    rfl
  have nothing (l : List HdrSlot) : hdrChoose [⟨0, false⟩, ⟨0, false⟩] l = none := by
    have bound (o : Option HdrSlot) : o.bind (hdrValid [⟨0, false⟩, ⟨0, false⟩]) = none := by
      cases o with
      | none => rfl
      | some x => exact hdrValid_none x
    rw [hdrChoose, bound, bound]
  rw [bootHeader, roots.nvm rfl, channels, nothing]

/-- A boot without a header halts. -/
theorem execBoot_bare (phase : s.pcr.phase = .boot) (c0 : b.ch0 = none) (c1 : b.ch1 = none) (life : lcState s ≠ 4) :
    exec (.boot b) s = .next (halt 1 (bootFound b s)) := by
  show execBoot b s = _
  rw [execBoot, if_neg (not_not.mpr phase)]
  show (match bootHeader (bootFound b s) with | none => _ | some s2 => _) = _
  rw [bootHeader_none c0 c1]
  show Host.Outcome.next (halt (if lcState (bootFound b s) = 4 then 7 else 1) (bootFound b s)) = _
  rw [if_neg (by rw [lcState_bootFound]; exact life)]

/-- A unit in RMA halts, with a header and without. -/
theorem execBoot_rma (phase : s.pcr.phase = .boot) (life : lcState s = 4) : ∃ u, exec (.boot b) s = .next (halt 7 u) := by
  show ∃ u, execBoot b s = _
  have same := (lcState_bootFound b s).trans life
  rw [execBoot, if_neg (not_not.mpr phase)]
  dsimp only
  rw [← bootFound]
  cases found : bootHeader (bootFound b s) with
  | none => exact ⟨bootFound b s, congrArg (fun k => Host.Outcome.next (halt k (bootFound b s))) (if_pos same)⟩
  | some u => exact ⟨u, congrArg Host.Outcome.next (if_pos ((lcState_bootHeader found).trans same))⟩

/-- With a header the boot goes on to the firmware. -/
theorem execBoot_goes {u : State} (phase : s.pcr.phase = .boot) (found : bootHeader (bootRoots (bootChannels b s)) = some u)
    (life : lcState u ≠ 4) : exec (.boot b) s = .next (bootFirmware b u) := by
  show execBoot b s = _
  rw [execBoot, if_neg (not_not.mpr phase)]
  dsimp only
  rw [found]
  dsimp only
  rw [if_neg life]

end Halt

section Firmware

variable {b : BootIn} {s u v w : State} {i : Nat}

/-- Neither slot passes its checks. -/
theorem bootFirmware_halts (select : bootSelect u = (v, i, false)) (bad : slotGood b v i = false)
    (other : slotGood b v (otherSlot i) = false) : bootFirmware b u = halt 2 v := by
  simp only [bootFirmware, select, bad, other, Bool.false_eq_true, if_false]

/-- A slot that does not install is recorded, and the device resets itself (19_firmware R472). -/
theorem bootFirmware_resets (select : bootSelect u = (v, i, false)) (good : slotGood b v i = true)
    (fails : slotInstalls b v i = false) : bootFirmware b u = selfReset (v.updPcr fun p => { p with failedSlot := some i }) := by
  simp only [bootFirmware, select, good, fails, Bool.false_eq_true, Bool.not_false, if_false, if_true]

/-- A reset that the device orders itself keeps the slot that failed. -/
theorem selfReset_keeps (s : State) : (selfReset s).pcr.phase = .held ∧ (selfReset s).pcr.cause = 7 ∧
    (selfReset s).pcr.failedSlot = s.pcr.failedSlot := by
  obtain ⟨d, hd⟩ : ∃ d, d = evrDrain 18 s := ⟨_, rfl⟩
  have drained : Follows { regs := true, evr := true } s d := hd ▸ evrDrain_only 18 s
  rw [selfReset, ← hd, ← drained.pcr rfl]
  have reset := deviceReset_resets (k := 7) (by decide) 0 d
  exact ⟨reset.phase, reset.cause, rfl⟩

/-- The unit that runs a slot (R454 step 4). -/
def running (v : State) (i : Nat) : State :=
  (v.updNvm fun n => { n with fwSlot := i, fallback := false, run := fwId (fwSlot v i) }).updUpd
    fun y => { y with trial := ((hdrNow v).map (fun c => c.trialState == 2 && c.trial == i)).getD false }

/-- A slot that passes and installs runs. -/
theorem bootFirmware_runs (select : bootSelect u = (v, i, false)) (good : slotGood b v i = true)
    (installs : slotInstalls b v i = true) : bootFirmware b u = bootPrimer b (running v i) := by
  simp only [bootFirmware, select, good, installs, Bool.false_eq_true, Bool.not_true, if_false, if_true, running, bne_self_eq_false,
    Bool.or_self]

/-- A primer image that fails halts the boot. -/
theorem bootPrimer_halts {c : Nat} (keys : w = loadSystem 2 (bootKeys s))
    (check : (primerCheck (regionLen w 3) w.nvm.flash.primer b.primerSig w).1 = c) (fails : c ≠ 0) :
    bootPrimer b s = halt c w := by
  rw [bootPrimer, ← keys]
  dsimp only
  rw [check, if_pos fails]

/-- The values that the primer image and the settings give put in place, and shown. -/
def bootReady (b : BootIn) (w : State) : State :=
  let c := primerCheck (regionLen w 3) w.nvm.flash.primer b.primerSig w
  let v := chooseValues w.part w.nvm.run c.2.1 w.nvm.flash.sets
  bootShows c.2.1 v c.2.2 (bootValues c.2.1 v w)

/-- A primer image that passes lets service begin. -/
theorem bootPrimer_starts (keys : w = loadSystem 2 (bootKeys s))
    (check : (primerCheck (regionLen w 3) w.nvm.flash.primer b.primerSig w).1 = 0) : bootPrimer b s = bootStart b.hods (bootReady b w) := by
  rw [bootPrimer, ← keys]
  dsimp only
  rw [if_neg (not_not.mpr check), bootReady]

/-- What the boot shows is that the unit is up, and the slot it runs stays. -/
theorem bootShows_up (im : Primer) (x : BootValues) (bare : Bool) (s : State) :
    (bootShows im x bare s).pcr.phase = .up ∧ (bootShows im x bare s).pcr.lastHalt = 0 ∧
    (bootShows im x bare s).nvm.fwSlot = s.nvm.fwSlot ∧ (bootShows im x bare s).nvm.fallback = s.nvm.fallback := by
  unfold bootShows
  extract_lets h s1 s2 s3
  have two : Follows { regs := true } s1 s2 := ite_fol (alarm_fol rfl (.refl _ _)) (.refl _ _)
  have three : Follows { regs := true } s1 s3 := ite_fol (alarm_fol rfl two) two
  have nvm : s3.nvm = s1.nvm := three.nvm rfl
  refine ⟨rfl, rfl, ?_, ?_⟩
  · rw [updPcr_nvm, nvm]
    rfl
  · rw [updPcr_nvm, nvm]
    rfl

theorem bootReady_up (b : BootIn) (w : State) : (bootReady b w).pcr.phase = .up ∧ (bootReady b w).pcr.lastHalt = 0 ∧
    (bootReady b w).nvm.fwSlot = w.nvm.fwSlot ∧ (bootReady b w).nvm.fallback = w.nvm.fallback := by
  unfold bootReady
  extract_lets c x
  have put : Follows { regs := true, scr := true, memb := true, lkp := true } w (bootValues c.2.1 x w) :=
    bootValues_fol rfl rfl rfl rfl (.refl _ w)
  rw [← put.nvm rfl]
  exact bootShows_up c.2.1 x c.2.2 _

/-- Service begins in SEEK or unpaired (16_pair R409). -/
theorem bootStart_role (hods : List HodAsg) (s : State) :
    (bootStart hods s).pair.role = .seek ∨ (bootStart hods s).pair.role = .unpaired := by
  unfold bootStart
  extract_lets mode s1
  have ports : Follows { regs := true, safe := true, evr := true, hod := true, mac := true, lkp := true } s1 (portsStart (bootHods hods s1)) :=
    portsStart_fol rfl rfl rfl rfl rfl (bootHods_fol rfl (.refl _ s1))
  rw [ports.pair rfl]
  cases paired : mode with
  | true => exact .inl (if_pos paired)
  | false => exact .inr (if_neg (by rw [paired]; exact Bool.false_ne_true))

/-- The unit is up with its slot. -/
theorem bootPrimer_up (keys : w = loadSystem 2 (bootKeys (running v i)))
    (check : (primerCheck (regionLen w 3) w.nvm.flash.primer b.primerSig w).1 = 0) :
    ∃ t, bootPrimer b (running v i) = t ∧ t.pcr.phase = .up ∧ t.nvm.fwSlot = i ∧ t.nvm.fallback = false ∧ t.pcr.lastHalt = 0 ∧
      (t.pair.role = .seek ∨ t.pair.role = .unpaired) := by
  have loaded : Follows { regs := true, key := true } (running v i) w := keys ▸ loadSystem_fol rfl rfl (bootKeys_fol rfl rfl (.refl _ _))
  have begins : Follows { regs := true, safe := true, pair := true, evr := true, hod := true, mac := true, lkp := true, role := true }
      (bootReady b w) (bootStart b.hods (bootReady b w)) := bootStart_fol rfl rfl rfl rfl rfl rfl rfl rfl (.refl _ _)
  obtain ⟨up, clear, slot, back⟩ := bootReady_up b w
  refine ⟨_, bootPrimer_starts keys check, ?_, ?_, ?_, ?_, bootStart_role _ _⟩
  · rw [begins.pcr rfl, up]
  · rw [begins.nvm rfl, slot, loaded.nvm rfl]
    rfl
  · rw [begins.nvm rfl, back, loaded.nvm rfl]
    rfl
  · rw [begins.pcr rfl, clear]

end Firmware

/-- Settles O52, by the step of R454 that decides. -/
theorem bootStartsOrHalts : Obligations.BootStartsOrHalts := by
  intro b s phase
  refine ⟨fun c0 c1 life => ⟨_, execBoot_bare phase c0 c1 life, halt_shows 1 _⟩, fun life => ?_, fun u v i found life select =>
    ⟨fun bad other => ?_, fun w good installs keys => ⟨fun check => ?_, fun c check fails => ?_⟩, fun good fails => ?_⟩⟩
  · obtain ⟨u, run⟩ := execBoot_rma (b := b) phase life
    obtain ⟨halted, code, -⟩ := halt_shows 7 u
    exact ⟨_, run, halted, code⟩
  · obtain ⟨halted, code, -⟩ := halt_shows 2 v
    exact ⟨_, (execBoot_goes phase found life).trans (congrArg _ (bootFirmware_halts select bad other)), halted, code⟩
  · obtain ⟨t, run, shown⟩ := bootPrimer_up (b := b) keys check
    exact ⟨t, (execBoot_goes phase found life).trans (congrArg _ ((bootFirmware_runs select good installs).trans run)), shown⟩
  · obtain ⟨halted, code, -⟩ := halt_shows c w
    exact ⟨_, (execBoot_goes phase found life).trans (congrArg _ ((bootFirmware_runs select good installs).trans
      (bootPrimer_halts (s := running v i) keys check fails))), halted, code⟩
  · obtain ⟨held, cause, failed⟩ := selfReset_keeps (v.updPcr fun p => { p with failedSlot := some i })
    exact ⟨_, (execBoot_goes phase found life).trans (congrArg _ (bootFirmware_resets select good fails)), held, cause, failed⟩

end Sys2Proof.Machine
